-- ==== Sys2Proof/Word.lean ====
section
/-! DEFINITION. Word: the byte and the few machine words of the OKM-2240 dictionary (R16, R17). -/

namespace Sys2Proof

/-- One byte of a transfer, a record or a frame. -/
abbrev Byte := BitVec 8

/-- A byte from a number, its low eight bits. -/
abbrev byte (n : Nat) : Byte := BitVec.ofNat 8 n

/-- The value of one dictionary element: a number, or the bytes of a STR32 or of a BLOB's data (R17). -/
inductive Val where
  | num (i : Int)
  | bytes (bs : List Byte)
  deriving DecidableEq, Repr

/-- A value read as an integer; bytes read as zero. -/
def Val.int : Val → Int
  | .num i => i
  | .bytes _ => 0

/-- A value read as a byte list; a number has none. -/
def Val.blob : Val → List Byte
  | .num _ => []
  | .bytes bs => bs

end Sys2Proof
end

