-- ==== Sys2Proof/Syntax.lean ====
section
/-! DEFINITION. Syntax: the commands the block takes, one constructor for each row of spec/opcode_table.json, and the types
of their operands. -/

namespace Sys2Proof

/-- Who sends a transaction (R46, R47): the service port, or the ring node with an address. -/
inductive Src where
  | service
  | node (addr : Nat)
  deriving DecidableEq, Repr

/-- What identifies a transaction whose address and operation its command already names: the source and the TAG to echo (R38). -/
structure Hdr where
  src : Src
  tag : Nat
  deriving DecidableEq, Repr

/-- A request as the transport delivers it (R38). -/
structure Request where
  opcode : Nat
  tag : Nat
  group : Nat
  object : Nat
  element : Nat
  reserved : Nat
  length : Nat
  offset : Nat
  data : List Byte
  deriving DecidableEq, Repr

/-- The commands of the catalogue (R64). -/
inductive CmdId where
  | sessionStop | slotSwitch | bist | calCapture | rehearsal | engineRebind | keyDestroy | accountTopup
  | queueFlush | civilTimeSet | configErase | commit | stageDiscard
  deriving DecidableEq, Repr

/-- A roster change in an EPOCH_MARK (R196): ACTION 1 ADMIT, 2 REMOVE, 3 REFUSE, 4 HOIST_TO. -/
structure Change where
  addr : Nat
  action : Nat
  reason : Nat
  tag : Nat
  epoch : Nat
  deriving DecidableEq, Repr

/-- An EPOCH_MARK as it arrives (R189, R196): the launcher's address, HOPS_LEFT, the header's WRAPPED bit and the payload. -/
structure Mark where
  src : Nat
  hops : Nat
  turned : Bool
  epoch : Nat
  tag : Nat
  period : Nat
  nodes : Nat
  wrapped : Bool
  succession : Bool
  changes : List Change
  deriving DecidableEq, Repr

/-- A frame as its receiver reassembled it (R195): SRC, DEST, FRAME_ID, bytes 8–11 of its header, whether its tag is good, its data. -/
structure Frame where
  src : Nat
  dest : Nat
  id : Nat
  epoch : Nat
  authentic : Bool
  data : List Byte
  deriving DecidableEq, Repr

/-- The delimiter of a slot (R189); broken: not decodable. -/
inductive Delim where
  | full | empty | reserved | broken
  deriving DecidableEq, Repr

/-- A pilot's levels in mV once they have held for CP_DEBOUNCE: high and low; on an MCS outlet the level of CE is the high one (R224). -/
structure PilotLevel where
  hi : Int
  lo : Int
  deriving DecidableEq, Repr

/-- A TLS handshake (R229): whether its messages and the chosen suite are in order; whether its version is 1.3, else 1.2; and the chain a
vehicle offers, as the root certificate it verifies to (empty for none) and its number of certificates. -/
structure TlsHello where
  good : Bool
  v13 : Bool
  client : Option (List Byte × Nat)
  deriving DecidableEq, Repr


/-- A Burgee token as it arrives (R395): FLAGS, SEQ, LEASE_MS, SERIAL_TAG, MODE and EPOCH. -/
structure Token where
  flags : Nat
  seq : Nat
  leaseMs : Nat
  tag : Nat
  mode : Nat
  epoch : Nat
  deriving DecidableEq, Repr

/-- The running state of a loop engine as it is mirrored (R137, R394): the integrator, the active region with its dwell, the ramp of
its group, and of its leg the latched share, the entry state and the filter history. -/
structure LoopImage where
  s : Int
  windup : Bool
  region : Nat
  cand : Nat
  dwell : Nat
  cmd : Int
  rampFrom : Int
  rampAt : Nat
  rampNs : Nat
  share : Int
  entry : Nat
  edges : List (Nat × Int)
  deriving DecidableEq, Repr

/-- The session state of an outlet as it is mirrored (R394): the start record's RECORD_SEQ is 0 before one. -/
structure SessionImage where
  state : Nat
  session : Nat
  protocol : Nat
  evcc : List Byte
  emaid : List Byte
  account : Nat
  auth : Nat
  startSeq : Nat
  deriving DecidableEq, Repr

/-- An account slot as the billing journal carries it (R325, R394). -/
structure AcctImage where
  id : Nat
  credit : Int
  ecAmount : Int
  ecOut : Int
  granted : Bool
  res : Nat
  lastRef : Nat
  newId : Option Nat
  deriving DecidableEq, Repr

/-- One item that the holder mirrors to its partner (R394): the grants of a boundary with their checksum; the loop state of an engine;
a group's ROUTE_STATE and ROUTE_SELECT; an outlet's session state; a register commit with its account slots. -/
inductive MirrorItem where
  | grants (epoch : Nat) (ports groups : List Int) (crc : Nat)
  | loop (e : Fin 38) (x : LoopImage)
  | route (g : Fin 4) (state select : Nat)
  | session (o : Fin 4) (x : SessionImage)
  | journal (regs : List (Nat × Val)) (accts : List (Nat × AcctImage))
  deriving DecidableEq, Repr


/-- What one receive path of the Voner line took in over a frame (R413, R418): whether its preamble was detected within ±500 µs, its SNR
in 0.1 dB, and its bursts as first sample, number of samples and magnitude. -/
structure VonPath where
  preamble : Bool
  snr : Nat
  bursts : List (Nat × Nat × Nat)
  deriving DecidableEq, Repr


/-- What a boot finds, beside the state (R338, R343, R397, R432, R449, R462): the time it takes in µs; whether the device root was
derived; the key slots whose tags fail at unwrapping; the tamper loops that read open at the first three samples; whether the
partner took over during the reset; and the node's MISR value and its children's signatures of a BIST deferred to this boot. -/
structure BootFacts where
  us : Nat
  rootOk : Bool
  damaged : List Nat
  loops : Nat
  taken : Bool
  misr : Nat
  children : List Nat
  deriving DecidableEq, Repr

/-- A power-fail warning (R446, R455): how many of the five steps of R326 are made before a supply reaches its reset threshold, and the
supplies below their warning thresholds in the order of SUPPLY_STATUS, none for a PFW pulse. -/
structure PfwWork where
  steps : Fin 6
  below : Nat
  deriving DecidableEq, Repr


/-- The commands of the block: host transactions, protocol items and events, one constructor per row of the table. -/
inductive Instr where
  /-- WRITE: a transaction of any address as R38 frames it, of which WRITE is one (R38, R42). -/
  | write (src : Src) (rq : Request)
  /-- WRITE_SEG: a WRITE_SEG transaction (R499). -/
  | writeSeg (src : Src) (rq : Request)
  /-- READ_SEG: a READ_SEG transaction (R499). -/
  | readSeg (src : Src) (rq : Request)
  /-- RES_READ: a READ of a command's element .02 (R61). -/
  | resRead (h : Hdr) (cmd : CmdId)
  /-- CMD_READ: a READ of a command's element .01 (R19). -/
  | cmdRead (h : Hdr) (cmd : CmdId)
  /-- ABORT: a write of 0x01 to a command's element .03 (R62). -/
  | abort (h : Hdr) (cmd : CmdId)
  /-- ACK: a write of 0x02 to a command's element .03 (R61). -/
  | ack (h : Hdr) (cmd : CmdId)
  /-- COMMIT: a write of 03:01.01 (R51). -/
  | commit (h : Hdr) (arg : Nat)
  /-- COMMIT_STORED: the journal has stored the commit set (R51, step 2). -/
  | commitStored
  /-- COMMIT_APPLY: the stored commit set is applied (R51, step 4). -/
  | commitApply
  /-- STAGE_DISCARD: a write of 03:02.01 (R66). -/
  | stageDiscard (h : Hdr) (arg : Nat)
  /-- CONFIG_ERASE: a write of 02:1A.01 (R65). -/
  | configErase (h : Hdr) (arg : Nat)
  /-- CONFIG_ERASE_STORED: the journal has stored the erase (R65). -/
  | configEraseStored
  /-- SESSION_STOP: a write of 02:10.01 (R240). -/
  | sessionStop (h : Hdr) (arg : Nat)
  /-- SLOT_SWITCH: a write of 02:11.01 (R428). -/
  | slotSwitch (h : Hdr) (arg : Nat)
  /-- SLOT_SWITCH_QUIET_BOUNDARY: an epoch boundary that is quiet (R429). -/
  | slotSwitchQuietBoundary
  /-- SLOT_SWITCH_WAIT_EXPIRED: WAIT epochs have passed without a quiet boundary (R428). -/
  | slotSwitchWaitExpired
  /-- BLACKOUT_END: the last engine of MAIN (0) or LOOP (1) runs again, us microseconds after the switch boundary (R430). -/
  | blackoutEnd (c : Fin 2) (us : Nat)
  /-- BIST: a write of 02:12.01 (R433). -/
  | bist (h : Hdr) (arg : Nat)
  /-- BIST_DONE: the test is over: the node's MISR value, or a bit cell's 0 pass and 1 fail, and its children's signatures (R432). -/
  | bistDone (misr : Nat) (children : List Nat)
  /-- BIST_DEFERRED_RESET: 1 ms after a BIST was deferred to boot (R437). -/
  | bistDeferredReset
  /-- BIST_WIND_DOWN_END: the next macro or array boundary after an ABORT, and whether a macro or array had begun (R436). -/
  | bistWindDownEnd (begun : Bool)
  /-- CAL_CAPTURE: a write of 02:13.01 (R295). -/
  | calCapture (h : Hdr) (arg : Nat)
  /-- CAL_CAPTURE_DONE: the capture's duration has elapsed (R295). -/
  | calCaptureDone
  /-- REHEARSAL: a write of 02:14.01 (R404). -/
  | rehearsal (h : Hdr) (arg : Nat)
  /-- REHEARSAL_SWAP: the first quiet boundary after a REHEARSAL (R404). -/
  | rehearsalSwap
  /-- REHEARSAL_WAIT_EXPIRED: WAIT epochs have passed without a quiet boundary (R404). -/
  | rehearsalWaitExpired
  /-- REHEARSAL_TAKE_TIMEOUT: T_TAKE has passed since the rehearsal's RELEASE without a RENEW (R404). -/
  | rehearsalTakeTimeout
  /-- ENGINE_REBIND: a write of 02:15.01 (R136). -/
  | engineRebind (h : Hdr) (arg : Nat)
  /-- REBIND_SWITCH: the sample boundary after eight matching shadow samples (R137). -/
  | rebindSwitch (newE : Fin 38)
  /-- REBIND_RECORDED: the journal has recorded the new binding (R137). -/
  | rebindRecorded (newE : Fin 38)
  /-- KEY_GENERATE: a KEY_CREATE definition with METHOD 1: its slot, its reserved bytes 2–3 and its slot word (R344, R345). -/
  | keyGenerate (h : Hdr) (slot rsv word : Nat)
  /-- KEY_DERIVE: a KEY_CREATE definition with METHOD 2; rest is its LABEL (R344, R345). -/
  | keyDerive (h : Hdr) (slot rsv word : Nat) (rest : List Byte)
  /-- KEY_IMPORT: a KEY_CREATE definition with METHOD 3; rest is E, the IV, the ciphertext and the tag (R344, R346). -/
  | keyImport (h : Hdr) (slot rsv word : Nat) (rest : List Byte)
  /-- KEY_DESTROY: a write of 02:16.01 (R352). -/
  | keyDestroy (h : Hdr) (arg : Nat)
  /-- KEY_SLOT_ERASED: the background eraser has overwritten a slot's record (R352). -/
  | keySlotErased (slot : Nat)
  /-- CSR_SUBJECT_WRITE: a write of A0:18.00: a slot number and a DER subject name (R347). -/
  | csrSubjectWrite (h : Hdr) (data : List Byte)
  /-- REMASK_PASS: a REMASK_PERIOD has passed; whether its pass overran it (R351). -/
  | remaskPass (late : Bool)
  /-- ENTROPY_FAIL: the entropy source fails its health tests (R339). -/
  | entropyFail
  /-- ENTROPY_RECOVER: 1,024 consecutive source samples pass the health tests (R339). -/
  | entropyRecover
  /-- KEY_REQUEST: an engine requests a key: the MASK bit of the engine and the USES bit of the use (R348). -/
  | keyRequest (slot engine use : Nat)
  /-- SVN_ADVANCE: a write of A1:06.00 (R355). -/
  | svnAdvance (h : Hdr) (v : Nat)
  /-- ACCOUNT_TOPUP: a write of 02:17.01 (R324). -/
  | accountTopup (h : Hdr) (arg : Nat)
  /-- CIVIL_TIME_SET: a write of 02:19.01 (R310). -/
  | civilTimeSet (h : Hdr) (arg : Nat)
  /-- DROP_REST: a write of 02:18.01 with OP DROP_REST (R374). -/
  | dropRest (h : Hdr) (arg : Nat)
  /-- FLUSH: a write of 02:18.01 with OP FLUSH (R374). -/
  | flush (h : Hdr) (arg : Nat)
  /-- FLUSH_AT_BOUNDARY: the packet boundary a pending FLUSH waits for (R374). -/
  | flushAtBoundary
  /-- MODE_WORD_WRITE: a write of 01:00.00 (R77). -/
  | modeWordWrite (h : Hdr) (v : Nat)
  /-- VAULT_ENTRY: a VAULT entry makes its next step, 2 to 6 (R85). -/
  | vaultEntry (step : Nat)
  /-- GROUP_PARK: a stopping group's current is at or below ROUTE_ZERO_I (R78, R32). -/
  | groupPark (g : Fin 4)
  /-- OUTLET_CONTACTOR_DELAY_END: 5 ms after the last group feeding an outlet parked (R78). -/
  | outletContactorDelayEnd (o : Fin 4)
  /-- CLASS_ARRIVE: a class in transit reaches its behaviour (R77). -/
  | classArrive (c : Fin 8)
  /-- FORCED_STOP: STOP_TIMEOUT has passed since the write that started the stop (R79). -/
  | forcedStop
  /-- ENGINE_RESTORE_DONE: the engines of a class that starts are powered and restored (R80). -/
  | engineRestoreDone (c : Fin 8)
  /-- LIMP_EN_CHANGE: the LIMP_EN pin changes (R69). -/
  | limpEnChange (asserted : Bool)
  /-- PACE_MEASURE: the 50 µs measurement: three replica counts for each of the seven regions (R90). -/
  | paceMeasure (chains : List Nat)
  /-- ENSIGN_LAT_CLEAR: a write of 05:0B.00 (R93). -/
  | ensignLatClear (h : Hdr) (v : Nat)
  /-- REFCLK_LOST: REFCLK shows no edge for 400 ns or stays out by 2 % for 10 µs (R96). -/
  | refclkLost
  /-- PLL_UNLOCK: the PLL loses lock with REFCLK present (R96). -/
  | pllUnlock
  /-- PLL_RELOCK: REFCLK is back and the PLL has locked (R96). -/
  | pllRelock
  /-- LANE_CLOCK_LOST: island 4, 5 or 6 loses its recovered clock (R96). -/
  | laneClockLost (island : Nat)
  /-- PARITY_ERROR: a shared-lane word fails parity, the first or the second time (R98, R101). -/
  | parityError (region : Fin 7) (level block cell : Nat) (second : Bool)
  /-- ENSIGN_SINGLE_BIT_ERROR: a single-bit error in an Ensign word (R101). -/
  | ensignSingleBitError (region : Fin 7) (level block cell : Nat)
  /-- ENSIGN_UNCORRECTABLE: an uncorrectable error in an Ensign word from a cell (R101). -/
  | ensignUncorrectable (region : Fin 7) (block cell : Nat)
  /-- MISSING_END_MARK: a packet runs past 16 words (R101). -/
  | missingEndMark (region : Fin 7) (block cell : Nat)
  /-- CELL_STALL_TIMEOUT: a cell handshake stalls (R101). -/
  | cellStallTimeout (region : Fin 7) (block cell : Nat)
  /-- BLOCK_STALL_TIMEOUT: a block arbiter stalls (R101). -/
  | blockStallTimeout (region : Fin 7) (block : Nat)
  /-- REGION_STALL_TIMEOUT: a region arbiter stalls (R101). -/
  | regionStallTimeout (region : Fin 7)
  /-- CHIP_STALL_TIMEOUT: the chip arbiter stalls (R101). -/
  | chipStallTimeout
  /-- PERIOD_BOUNDARY: the moment the dead-time algorithm gave for the leg's next high-side turn-on (R108, R116). -/
  | periodBoundary (leg : Fin 32)
  /-- VIRTUAL_BOUNDARY: the sync slot, or the previous boundary plus PERIOD_MEAS, of a leg that makes virtual boundaries (R113). -/
  | virtualBoundary (leg : Fin 32)
  /-- TIME_ACTIVE_END: the timed pulse has lasted TIME_ACTIVE (R109, R110). -/
  | timeActiveEnd (leg : Fin 32)
  /-- END_OFF: the engine's END_OFF arrives at t (R109). -/
  | endOff (leg : Fin 32) (t : Nat)
  /-- END_ON: the engine's END_ON arrives at t (R110). -/
  | endOn (leg : Fin 32) (t : Nat)
  /-- ON_MAX_HIT: boundary + ON_MAX is reached under CONST_OFF (R110). -/
  | onMaxHit (leg : Fin 32)
  /-- SWN_REGISTERED: SWN is registered at a level at t (R118). -/
  | swnRegistered (leg : Fin 32) (level : Bool) (t : Nat)
  /-- DT_MAX_EXPIRY: t_off + DT_MAX is reached in a dead time (R118). -/
  | dtMaxExpiry (leg : Fin 32)
  /-- SYNC_SLOT: the leg's governing slot is reached (R123). -/
  | syncSlot (leg : Fin 32)
  /-- SYNC_IN_PULSE: a rising edge on SYNC_IN at t, of a pulse of this width (R124). -/
  | syncInPulse (g : Fin 4) (t widthNs : Nat)
  /-- SYNC_LOST: no predecessor pulse for 2 × PERIOD_MAX (R124). -/
  | syncLost (g : Fin 4)
  /-- OVERRIDE_WRITE: a write of 10:0F that would reach the shadow at t (R121). -/
  | overrideWrite (h : Hdr) (leg : Fin 32) (v t : Nat)
  /-- ARM_HOLD_WRITE: a write of 10:12.00 (R117). -/
  | armHoldWrite (h : Hdr) (g : Fin 4) (mask t : Nat)
  /-- ARM_RELEASE: a write of 10:13.00 (R117). -/
  | armRelease (h : Hdr) (g : Fin 4) (mask t : Nat)
  /-- FLT_N_ASSERT: FLT_N falls in a pulse of this width, or reads high again (R127). -/
  | fltNAssert (leg : Fin 32) (low : Bool) (widthNs : Nat)
  /-- FAULT_CLEAR: a write of 10:15.00 (R128). -/
  | faultClear (h : Hdr) (g : Fin 4) (mask : Nat)
  /-- COUNT_CLEAR: a write of 10:2B.00 (R130). -/
  | countClear (h : Hdr) (g : Fin 4) (mask : Nat)
  /-- CMD_SILENCE_TIMEOUT: four sample periods without a CMD for a running leg (R134). -/
  | cmdSilenceTimeout (leg : Fin 32)
  /-- LOOP_SAMPLE: a regulation sample whose command reaches the shadow at t: the filters' counts for the group's voltages, and the setpoint pin in µV, Hz or ppm (R138, R140, R145). -/
  | loopSample (e : Fin 38) (t : Nat) (vin vout : Int) (pin : Nat)
  /-- EDGE_SAMPLE: an edge-path filter output at t (R138, R141). -/
  | edgeSample (leg : Fin 32) (t : Nat) (count : Int)
  /-- SETPOINT_DELIVERY: the group's grant reaches the engines at t (R145, R146). -/
  | setpointDelivery (g : Fin 4) (t : Nat)
  /-- SETP_FAULT: a pin setpoint leaves its range, or has no edge for 4 ms (R145). -/
  | setpFault (g : Fin 4)
  /-- SETP_FAULT_CLEAR: the pin setpoint has been valid for 4 ms (R145). -/
  | setpFaultClear (g : Fin 4)
  /-- NTC_SAMPLE: the 10 ms sample of a stage NTC: its resistance (R148). -/
  | ntcSample (leg : Fin 32) (ohms : Nat)
  /-- SENSOR_VALID_RETURN: a faulted stage sensor has been valid for 1 s (R148). -/
  | sensorValidReturn (leg : Fin 32)
  /-- SHED_DECISION: the group command has held within a lower SHED_CAP for SHED_DWELL samples (R149). -/
  | shedDecision (g : Fin 4)
  /-- SHED_WINDOW_CLOSE: SHED_WINDOW periods have passed since the last leaving leg was held off (R151). -/
  | shedWindowClose (g : Fin 4)
  /-- CLAIM_UPDATE: the session core's item carries the outlet's session ceiling, floor and direction to the claim buffer (R104, R234). -/
  | claimUpdate (o : Fin 4)
  /-- EPOCH_MARK: an epoch mark arrives on a ring (R196, R202). -/
  | epochMark (ring : Fin 2) (m : Mark)
  /-- EPOCH_BOUNDARY: the boundary that an epoch mark has set: the grants are released (R169, R183). -/
  | epochBoundary
  /-- LOCAL_EPOCH_BOUNDARY: the node's own boundary, an EPOCH_PERIOD after the last (R500). -/
  | localEpochBoundary
  /-- CLAIM_BLOCK_INSERT: the node builds its claim block and queues it for the wave (R157, R169). -/
  | claimBlockInsert
  /-- WAVE_BLOCK_RECEIVE: a WAVE slot of a node delivers its claim block (R170, R191, R193). -/
  | waveBlockReceive (src : Nat) (payload : List Byte)
  /-- CLOSE_MARK: a CLOSE_MARK arrives on a ring with its HOPS_LEFT, so many ns after the boundary (R196, R203). -/
  | closeMark (ring : Fin 2) (hops epoch ns : Nat)
  /-- WAVE_FREEZE: the freeze F_k, 250 µs before the next boundary (R169). -/
  | waveFreeze
  /-- ALLOC_CALC_DONE: the computation is complete, so many ns after the freeze (R171, R174). -/
  | allocCalcDone (ns : Nat)
  /-- RING_ISOLATED: the last ring link of a sharing node is lost (R164). -/
  | ringIsolated
  /-- MARK_LAUNCH: an EPOCH_PERIOD on REFCLK has passed at a node that may launch; cold: it has passed no mark for three periods (R200). -/
  | markLaunch (cold : Bool)
  /-- HOIST_SUCCESSION: a roster member's succession timeout runs out (R201). -/
  | hoistSuccession
  /-- SLOT_RECEIVE: a slot arrives on a ring: its delimiter, its 127 characters after it, and the time since the boundary in ns (R189, R191). -/
  | slotReceive (ring : Fin 2) (delim : Delim) (chars : List Byte) (ns : Nat)
  /-- OWN_ENSIGN_RELEASE: the ring engine releases an own Ensign item on a ring, 10 µs or more after the last (R197). -/
  | ownEnsignRelease (ring : Fin 2)
  /-- PORT_STOP: an ENSIGN slot delivers a PORT_STOP: the sender, the port as R194 encodes it, and the epoch bits. -/
  | portStop (src port epoch : Nat)
  /-- GROUP_LOSS: a GROUP_LOSS slot arrives from src: PORT and LOST_CAP in kW (R194, R238). -/
  | groupLoss (src port lost : Nat)
  /-- GROUP_LOSS_SEND: the supervisor sends GROUP_LOSS for the legs, by bit, that a group has just lost (R194). -/
  | groupLossSend (g : Fin 4) (legs : Nat)
  /-- DICT_REQUEST_FRAME: a BULK frame with a dictionary request (R195, R215). -/
  | dictRequestFrame (f : Frame)
  /-- DICT_RESPONSE_FRAME: the next response to a ring node leaves in a BULK frame (R215). -/
  | dictResponseFrame (node : Nat)
  /-- PENNANT_RECORDS_FRAME: a frame of Pennant records (R381). -/
  | pennantRecordsFrame (f : Frame)
  /-- STREAMER_RECORDS_FRAME: a frame of Streamer records (R381). -/
  | streamerRecordsFrame (f : Frame)
  /-- FIRMWARE_DATA_FRAME: a frame of firmware data (R195). -/
  | firmwareDataFrame (f : Frame)
  /-- JOIN: a JOIN frame arrives (R211, R212, R214). -/
  | join (f : Frame)
  /-- JOIN_SEND: the node has passed two marks and may join (R211). -/
  | joinSend
  /-- JOIN_RETRY: 8 epochs without an answer, or 10 s after a refusal (R211, R212). -/
  | joinRetry
  /-- LEAVE: a LEAVE frame arrives (R213, R214). -/
  | leave (f : Frame)
  /-- LEAVE_SEND: SHARE has left ROLE_ACTIVE, or a VAULT entry leaves the ring (R213). -/
  | leaveSend
  /-- ROSTER: a ROSTER frame arrives (R211). -/
  | roster (f : Frame)
  /-- NEIGHBOUR_CHANGE: a NEIGHBOUR_CHANGE frame arrives (R205, R214). -/
  | neighbourChange (f : Frame)
  /-- EVICT: an EVICT frame arrives (R501). -/
  | evict (f : Frame)
  /-- ROSTER_EVICT: a write of 58:05.00 (R214). -/
  | rosterEvict (h : Hdr) (v : Nat)
  /-- WRAP: a ring input is found faulty (R205). -/
  | wrap (ring : Fin 2)
  /-- UNWRAP: the boundary after a wrapped input has been clean for WRAP_HEAL (R206). -/
  | unwrap (ring : Fin 2)
  /-- BYP_FORCE_RELEASE: a write of 0x01 to 58:03.00 (R207). -/
  | bypForceRelease (h : Hdr)
  /-- BYP_FORCE_HOLD: a write of 0x00 to 58:03.00 (R207). -/
  | bypForceHold (h : Hdr)
  /-- BYP_HOLD_DRIVE: the supplies are in range and the transmit PLL is locked (R207). -/
  | bypHoldDrive
  /-- PAIR_LANE_UP: a pair-link lane has been without errors for 1 ms (R216). -/
  | pairLaneUp (lane : Fin 2)
  /-- PAIR_LANE_DOWN: a pair-link lane goes down (R216). -/
  | pairLaneDown (lane : Fin 2)
  /-- PILOT_STATE_CHANGE: a pilot level has held for CP_DEBOUNCE (R224). -/
  | pilotStateChange (o : Fin 4) (level : PilotLevel)
  /-- PP_CHANGE: a proximity reading in mV has held for CP_DEBOUNCE (R225). -/
  | ppChange (o : Fin 4) (mv : Nat)
  /-- SLAC_MATCH: a SLAC association completes with an averaged attenuation in dB (R223). -/
  | slacMatch (o : Fin 4) (atten : Nat)
  /-- SLAC_FAIL: a SLAC association fails, or the GPRX frame lock is lost (R223, R492). -/
  | slacFail (o : Fin 4)
  /-- SDP_REQUEST: the vehicle's discovery request on an outlet whose link is up (R226). -/
  | sdpRequest (o : Fin 4)
  /-- TLS_HANDSHAKE: a TLS handshake (R229). -/
  | tlsHandshake (o : Fin 4) (hello : TlsHello)
  /-- APP_PROTOCOL_HANDSHAKE: the vehicle's protocols, highest priority first: 0 DIN SPEC 70121, 1 ISO 15118-2, 2 ISO 15118-20 (R227). -/
  | appProtocolHandshake (o : Fin 4) (entries : List (Fin 3))
  /-- SESSION_SETUP: a SessionSetup message with the vehicle's identifier (R227). -/
  | sessionSetup (o : Fin 4) (evcc : List Byte)
  /-- SERVICE_DISCOVERY: a ServiceDiscovery or ServiceDetail message (R227). -/
  | serviceDiscovery (o : Fin 4)
  /-- SERVICE_SELECTION: a payment or service selection message, and whether it selects a bidirectional service (R227). -/
  | serviceSelection (o : Fin 4) (bpt : Bool)
  /-- AUTHORIZATION: an authorisation message: the contract identifier, empty without a contract, and the contract's chain as the root certificate it verifies to (empty for none) and its number of certificates (R229, R230). -/
  | authorization (o : Fin 4) (emaid : List Byte) (chain : List Byte × Nat)
  /-- AUTH_WRITE: a write of 60:18.00 (R230). -/
  | authWrite (h : Hdr) (o : Fin 4) (v : Nat)
  /-- AUTH_TIMEOUT: AUTH_TIMEOUT has passed since identification (R230). -/
  | authTimeout (o : Fin 4)
  /-- CHARGE_PARAMETER_DISCOVERY: a charge parameter discovery message with the vehicle's maximum voltage in mV (R227). -/
  | chargeParameterDiscovery (o : Fin 4) (maxV : Nat)
  /-- SCHEDULE_EXCHANGE: a ScheduleExchange message (R228). -/
  | scheduleExchange (o : Fin 4)
  /-- CABLE_CHECK_REQUEST: a CableCheck message (R232). -/
  | cableCheckRequest (o : Fin 4)
  /-- CABLE_CHECK_JUDGED: V_CABLE is at the test voltage: IMD_OK, and the duty of IMD_PWM in 0.1 %, none without an edge for 1 s (R232). -/
  | cableCheckJudged (o : Fin 4) (imdOk : Bool) (duty : Option Nat)
  /-- CHK_TIMEOUT: CHK_TIMEOUT has passed since the cable check began (R232). -/
  | chkTimeout (o : Fin 4)
  /-- PRE_CHARGE: a PreCharge message with the vehicle's target voltage in mV (R233). -/
  | preCharge (o : Fin 4) (target : Nat)
  /-- PCH_TIMEOUT: PCH_TIMEOUT has passed since the precharge began (R233). -/
  | pchTimeout (o : Fin 4)
  /-- POWER_DELIVERY: a PowerDelivery message, start or stop (R231, R236). -/
  | powerDelivery (o : Fin 4) (start : Bool)
  /-- CHARGE_LOOP_REQUEST: a CurrentDemand or DC_ChargeLoop request: an emergency stop or error code; target or maximum charge current in mA, target voltage in mV and the maximum charge power in W where sent; the maximum discharge current and power (R234). -/
  | chargeLoopRequest (o : Fin 4) (error : Bool) (cur v : Nat) (p : Option Nat) (di : Nat) (dp : Option Nat)
  /-- WELDING_DETECTION: a WeldingDetection message (R236). -/
  | weldingDetection (o : Fin 4)
  /-- SESSION_STOP_REQ: the vehicle's SessionStop (R236). -/
  | sessionStopReq (o : Fin 4)
  /-- METERING_RECEIPT: a MeteringReceipt or MeteringConfirmation with its signed body (R228). -/
  | meteringReceipt (o : Fin 4) (body : List Byte)
  /-- CERTIFICATE_REQUEST: a certificate installation or update request (R228). -/
  | certificateRequest (o : Fin 4) (body : List Byte)
  /-- CERT_RES_WRITE: a write of 60:36.00: the body (R228). -/
  | certResWrite (h : Hdr) (o : Fin 4) (data : List Byte)
  /-- CERT_RES_TIMEOUT: 20 s have passed since CERT_REQ was filled (R228). -/
  | certResTimeout (o : Fin 4)
  /-- UNKNOWN_MESSAGE: a message that is not listed (R227). -/
  | unknownMessage (o : Fin 4)
  /-- FEEDING_GROUPS_PARKED: I_OUTLET has stayed at or below OPEN_I for 5 ms with OUT_GRANT zero (R236). -/
  | feedingGroupsParked (o : Fin 4)
  /-- ESTOP_OPEN_EXPIRY: ESTOP_OPEN has passed since the cause of an emergency stop (R237). -/
  | estopOpenExpiry (o : Fin 4)
  /-- CONTACTOR_FEEDBACK: the level of CFB_P or, with neg, of CFB_N changes (R231). -/
  | contactorFeedback (o : Fin 4) (neg : Bool) (high : Bool)
  /-- CTR_TIMEOUT: CTR_TIMEOUT has passed since a step of the DC+ or DC− contactor (R239). -/
  | ctrTimeout (o : Fin 4) (neg : Bool)
  /-- IMD_FAULT: IMD_OK has been low for IMD_DEBOUNCE (R237). -/
  | imdFault (o : Fin 4)
  /-- OUTLET_FAULT_CLEAR: a write of 60:53.00 (R239). -/
  | outletFaultClear (h : Hdr) (o : Fin 4) (v : Nat)
  /-- COOLING_STEP: the 10 ms step of a cooling loop: the six PT1000 resistances in mΩ (inlet, outlet, PTC 0 to 3), the flow pulses of the last 500 ms with the time of their periods in µs, and the computation time (R250). -/
  | coolingStep (o : Fin 4) (ohms : List Nat) (pulses us ns : Nat)
  /-- FLOW_LOST: no flow pulse for FLOW_LOST_T with the pump at or above PUMP_MIN (R249). -/
  | flowLost (o : Fin 4)
  /-- INPUT_VALID_RETURN: a failed input has been valid for 1 s: 0 inlet, 1 outlet, 2 to 5 PTC, 6 flow (R248, R249). -/
  | inputValidReturn (o : Fin 4) (input : Fin 7)
  /-- COOL_LOOP_SILENT: a cooling loop has completed no step for 30 ms (R259). -/
  | coolLoopSilent (o : Fin 4)
  /-- LS_ON_WRITE: a write of 72:05.00 of a channel (R267). -/
  | lsOnWrite (h : Hdr) (ch : Fin 16) (v : Nat)
  /-- LS_CLEAR: a write of 72:06.00 of a channel (R269). -/
  | lsClear (h : Hdr) (ch : Fin 16) (v : Nat)
  /-- SHORT_TRIP: a short has lasted its detection time, or T_SC_IN inside a window (R269). -/
  | shortTrip (ch : Fin 16)
  /-- OVERLOAD_TRIP: the I_LIM limit has lasted T_OVL outside the window (R269). -/
  | overloadTrip (ch : Fin 16)
  /-- THERMAL_TRIP: the channel junction reaches the absolute shutdown (R269). -/
  | thermalTrip (ch : Fin 16)
  /-- INRUSH_WINDOW_END: T_INRUSH has passed since the turn-on; whether the output is short at that moment (R268). -/
  | inrushWindowEnd (ch : Fin 16) (short : Bool)
  /-- LS_RETRY: the retry of a tripped channel falls due (R269). -/
  | lsRetry (ch : Fin 16)
  /-- CURTAIL_END: CURTAIL_HOLD after the last SHORT beside a channel (R272). -/
  | curtailEnd (ch : Fin 16)
  /-- RETRIES_RELOAD: 60 s of continuous ON without a trip (R269). -/
  | retriesReload (ch : Fin 16)
  /-- VS_LS_OUT_OF_RANGE: VS_LS falls below its undervoltage or rises above its overvoltage threshold (R266). -/
  | vsLsOutOfRange (high : Bool)
  /-- VS_LS_RESTORED: VS_LS is back within range (R266). -/
  | vsLsRestored
  /-- PKG_CURRENT_CHECK: the 1 ms reading of VS_LS in mV and of the sixteen channel currents in mA (R266). -/
  | pkgCurrentCheck (vsLs : Int) (currents : List Int)
  /-- OPEN_LOAD: 10 ms below the open-load threshold while on, or the first reading above it (R280). -/
  | openLoad (ch : Fin 16) (below : Bool)
  /-- CHANNEL_THERMAL_WARNING: a channel junction crosses the warning threshold, or falls 15 °C below it; its temperature in 0.01 °C (R280). -/
  | channelThermalWarning (ch : Fin 16) (rising : Bool) (t : Int)
  /-- FAILSAFE_TRIGGER: the internal link has been silent for 4 µs, or speaks again (R274). -/
  | failsafeTrigger (silent : Bool)
  /-- FS_WAIT_END: every leg has had its gates low for 5 ms (R275). -/
  | fsWaitEnd (ch : Fin 16)
  /-- HEARTBEAT_WORD: a word on HB_IN: whether its framing and gap are good, its two characters, and the time since the last valid word (R276). -/
  | heartbeatWord (framed : Bool) (seq chk sinceMs : Nat)
  /-- HB_MAX_EXPIRY: no valid word for HB_MAX (R277). -/
  | hbMaxExpiry
  /-- WD_RELEASE: a write of E2:08.00 (R277). -/
  | wdRelease (h : Hdr) (v : Nat)
  /-- LIMP_IN_CHANGE: a LIMP_IN pin stands at a level after LIMP_DEBOUNCE; whether it has stood there for 10 ms (R269, R279). -/
  | limpInChange (pin : Fin 8) (level : Bool) (held10ms : Bool)
  /-- METROLOGY_SAMPLE: 64 modulator clocks of a channel: the 64 bits of MVD and of MID, the earliest in bit 0 (R284, R286). -/
  | metrologySample (c : Fin 4) (v cur : Nat)
  /-- METROLOGY_PUBLISH: 1 ms has passed (R288). -/
  | metrologyPublish
  /-- MSCR_CLOCK_LOST: no MSCR edge for 1 µs (R285). -/
  | mscrClockLost (e : Fin 2)
  /-- MSCR_CLOCK_RETURN: 12 µs after MSCR edges return (R285). -/
  | mscrClockReturn (e : Fin 2)
  /-- STREAM_STUCK: MVD or, with cur, MID has held one level for 1,024 clocks (R285). -/
  | streamStuck (c : Fin 4) (cur : Bool)
  /-- DEMAND_BUDGET_DELIVERY: a metrology engine delivers the remaining energy budget of its outlets (R161). -/
  | demandBudgetDelivery (e : Fin 2)
  /-- SEAL_LOOP_SAMPLE: a sample of the seal loop: its resistance (R292). -/
  | sealLoopSample (ohms : Nat)
  /-- LEGAL_RECORD_WRITTEN: the oldest requested record that is admitted is signed and written (R329). -/
  | legalRecordWritten
  /-- METER_ENGINE_FENCED: a metrology engine is fenced (R298). -/
  | meterEngineFenced (e : Fin 2)
  /-- BILLING_BOUNDARY: legal time has come to t ms and ECT has reached a grid point, a switching point or midnight (R314, R315). -/
  | billingBoundary (t : Nat)
  /-- REGISTER_COMMIT: the periodic commit of the billing registers (R325). -/
  | registerCommit
  /-- FRIENDLY_HOURS_CHANGE: ECT starts or ends friendly hours (R322, R323). -/
  | friendlyHoursChange
  /-- ACCT_ID_WRITE: a write of 93:02.00 (R320). -/
  | acctIdWrite (h : Hdr) (v : Nat)
  /-- DMD_RESET: a write of 92:02.00 (R318). -/
  | dmdReset (h : Hdr) (v : Nat)
  /-- LOG_ACK_SEQ_WRITE: a write of 94:02.00 (R328). -/
  | logAckSeqWrite (h : Hdr) (v : Nat)
  /-- PENNANT_RAISE: a source raises a Pennant (R362, R366, R498): its code, catalogue priority and DETAIL_KIND, the object's value before the event, and the cause's LTIME or an address. -/
  | pennantRaise (source event prio detailKind before extra : Nat)
  /-- TRACE_RAISE: a trace kind has its samples (R383); for SESSION, the protocol message: [15:0] its index, [16] sent, and its length in bytes. -/
  | traceRaise (kind inst message length : Nat)
  /-- EQ_WORD_READ: a READ of B0:06.00 (R371). -/
  | eqWordRead (h : Hdr)
  /-- EQ_PACKET_READ: a READ of B0:07.00 (R371). -/
  | eqPacketRead (h : Hdr)
  /-- EQ_CLEAR: a WRITE of B0:09.00 (R373). -/
  | eqClear (h : Hdr) (v : Nat)
  /-- QUEUE_PACKET_WHOLE: the packet first in the lane becomes whole in the tail (R367, R370). -/
  | queuePacketWhole
  /-- COAL_WINDOW_END: the window of a pair ends (R376). -/
  | coalWindowEnd (source event : Nat)
  /-- GAP_DUE: 100 ms have passed since the first loss of the run (R378). -/
  | gapDue
  /-- RING_TOKEN_GAIN: the token period has passed (R380). -/
  | ringTokenGain
  /-- RING_OUTBOX_SEND: the ring outbox considers a frame; how long its oldest record has waited (R380). -/
  | ringOutboxSend (waitedMs : Nat)
  /-- TRACE_OUTBOX_SEND: the trace outbox considers a frame (R383). -/
  | traceOutboxSend
  /-- RENEW_SEND: a quarter of LEASE_PERIOD has passed at the holder (R396). -/
  | renewSend
  /-- STANDBY_SEND: a quarter of LEASE_PERIOD has passed at the standby (R396). -/
  | standbySend
  /-- LEASE_LAPSE: a holder's lease timer has expired (R396). -/
  | leaseLapse
  /-- RENEW: a RENEW token arrives, so many µs after this unit's last RELEASE (R397, R404). -/
  | renew (t : Token) (us : Nat)
  /-- RELEASE: a RELEASE token arrives (R397). -/
  | release (t : Token)
  /-- CLAIM: a CLAIM token arrives (R399). -/
  | claim (t : Token)
  /-- STANDBY: a STANDBY token arrives (R395). -/
  | standby (t : Token)
  /-- TAKEOVER: T_TAKE has passed; the time from the last RENEW to the assertion of OE_PAIR in µs (R397, R400). -/
  | takeover (gap : Nat)
  /-- CLAIM_SEND: no RENEW has arrived for T_TAKE of the unit's own LEASE_PERIOD (R399). -/
  | claimSend
  /-- DRIVER_CONFLICT: OE_PEER has been high for 10 µs while OE_PAIR is high (R403). -/
  | driverConflict
  /-- SPLIT_DETECT: T_TAKE has passed and OE_PEER is high (R403). -/
  | splitDetect
  /-- MIRROR_ITEM: a mirrored item arrives (R394). -/
  | mirrorItem (item : MirrorItem)
  /-- VON_MASTER_SLOT: 1 ms before a master slot (R415). -/
  | vonMasterSlot
  /-- VON_REPLY_JUDGED: the end of the reply slot: what each receive path took in, and bytes 0 to 103 of the codeword where it decodes (R413, R416). -/
  | vonReplyJudged (paths : List VonPath) (word : Option (List Byte))
  /-- VON_TX_BOX_WRITE: a write of C0:21.00: the box's data (R420). -/
  | vonTxBoxWrite (h : Hdr) (data : List Byte)
  /-- UPD_OPEN: a write of OPEN to D1:11.00 (R426). -/
  | updOpen (h : Hdr)
  /-- UPD_CHUNK_WRITE: a write of D1:13.00, its bytes without the length field (R426). -/
  | updChunkWrite (h : Hdr) (data : List Byte)
  /-- UPD_CLOSE: a write of CLOSE to D1:11.00 (R426). -/
  | updClose (h : Hdr)
  /-- UPD_VERIFY_DONE: the verification of a loaded image ends (R354, R426). -/
  | updVerifyDone
  /-- UPD_CANCEL: a write of CANCEL to D1:11.00 (R426). -/
  | updCancel (h : Hdr)
  /-- REBOOT: a write of REBOOT to D1:11.00 (R442). -/
  | reboot (h : Hdr)
  /-- SLOT_CONFIRM: a write of D1:04.00 (R427). -/
  | slotConfirm (h : Hdr) (mask : Nat)
  /-- SERVICE_REQUEST_FRAME: a whole frame that begins with 0x5A, as SVC_MOSI carries it (R440). -/
  | serviceRequestFrame (mosi : List Byte)
  /-- SERVICE_RESPONSE_FRAME: a frame that begins with 0xA5, and how many of its bytes were clocked (R440). -/
  | serviceResponseFrame (clocked : Nat)
  /-- SERVICE_FRAME_FAULT: a faulty frame: 0 its first byte, 1 its LEN or CRC, 2 ended early by SVC_CS_N (R441). -/
  | serviceFrameFault (kind : Fin 3)
  /-- EXTEST: the instruction EXTEST is loaded (R438, R439). -/
  | extest
  /-- SAMPLE_PRELOAD: SAMPLE/PRELOAD: the pins' levels captured and the levels shifted in (R438). -/
  | samplePreload (pins preload : List Bool)
  /-- IDCODE: the instruction IDCODE is loaded and its register shifted out (R438). -/
  | idcode
  /-- CLAMP: the instruction CLAMP is loaded (R438, R439). -/
  | clamp
  /-- HIGHZ: the instruction HIGHZ is loaded (R438, R439). -/
  | highz
  /-- BYPASS: BYPASS, or any code that is no public instruction, is loaded (R438). -/
  | bypass (code : Nat)
  /-- TAP_LEAVE_RESET: the TAP leaves Test-Logic-Reset (R439). -/
  | tapLeaveReset
  /-- TRST_N_ASSERT: TRST_N goes low, or high again (R439). -/
  | trstNAssert (low : Bool)
  /-- POWER_ON_RESET_RELEASE: t_POR after the last main supply entered range (R448). -/
  | powerOnResetRelease
  /-- BOOT: the device boots from B1 to B7, with what the boot finds (R449). -/
  | boot (b : BootFacts)
  /-- RESET_N: RESET_N has been low for 1 µs, or is high again (R452). -/
  | resetN (low : Bool)
  /-- RESET_REQUEST: a write of E1:05.00 (R452). -/
  | resetRequest (h : Hdr) (v : Nat)
  /-- LOCKSTEP: the two supervisor cores disagree (R451). -/
  | lockstep
  /-- WATCHDOG: the supervisor firmware has not serviced its timer for 10 ms (R451). -/
  | watchdog
  /-- TESTMODE_HIGH: TESTMODE goes high, or low again (R476). -/
  | testmodeHigh (high : Bool)
  /-- PFW: a power-fail warning, with the steps that are made under it (R455, R456). -/
  | pfw (work : PfwWork)
  /-- PFW_RELEASE: PFW has stayed deasserted for 100 ms with every main supply in range (R458). -/
  | pfwRelease
  /-- MAINS_LOST: a main supply leaves range: which tripped first, and which are out, in the order of SUPPLY_STATUS (R457). -/
  | mainsLost (first : Fin 5) (out : Nat)
  /-- MAINS_RETURNED: every main supply is in range again (R461). -/
  | mainsReturned
  /-- VBAT_LOW: VBAT falls below its low threshold (R466). -/
  | vbatLow
  /-- VAULT_BROWN_OUT: VBAT is below the vault brown-out threshold with VDD_ANA absent (R459). -/
  | vaultBrownOut
  /-- TAMPER_LOOP_SAMPLE: a sample of a tamper loop: its resistance (R460). -/
  | tamperLoopSample (loop : Fin 4) (ohms : Nat)
  /-- VEV_ACK_WRITE: a write of E0:11.00 (R461). -/
  | vevAckWrite (h : Hdr) (v : Nat)
  /-- WAKE: a wake source, by its bit in VAULT_WAKE_MASK (R465). -/
  | wake (source : Fin 6)
  /-- RTC_STOP: the crystal shows no edge for 4 ms (R464). -/
  | rtcStop
  /-- RTC_RESTART: the crystal has run again for 1 s (R464). -/
  | rtcRestart
  /-- MTX_FB_CHANGE: a matrix feedback input changes its level (R32). -/
  | mtxFbChange (fb : Fin 8) (level : Bool)
  /-- ROUTE_FB_TIMEOUT: a step of the group's route switch-over has lasted ROUTE_FB_TIMEOUT (R32). -/
  | routeFbTimeout (g : Fin 4)
  /-- DT_MIN_EXPIRY: t_off + DT_MIN is reached in a dead time (R118). -/
  | dtMinExpiry (leg : Fin 32)
  /-- PERIOD_MIN_EXPIRY: previous boundary + PERIOD_MIN is reached (R109, R110). -/
  | periodMinExpiry (leg : Fin 32)
  /-- ACCEPTANCE_MINIMUM_END: the acceptance minimum of END_OFF or END_ON has passed (R109, R110). -/
  | acceptanceMinimumEnd (leg : Fin 32)
  /-- OE_PEER_CHANGE: the OE_PEER input changes its level (R392, R403). -/
  | oePeerChange (high : Bool)
  /-- IMD_PWM_EDGE_LOST: IMD_PWM has had no edge for 1 s (R232). -/
  | imdPwmEdgeLost (o : Fin 4)
  /-- PARTNER_LEASE_EXPIRED: a lease period has passed at a standby that is not eligible, with its partner's lease expired (R76). -/
  | partnerLeaseExpired
  deriving DecidableEq, Repr

end Sys2Proof
end

