-- ==== Sys2Proof/Decode.lean ====
section
/-! DEFINITION. Decode: commands reach the block as dictionary transactions, slots, tokens, pins and events, each decoded by the
rules of its own transport inside the meanings. spec/opcode_table.json gives no row any bits. -/

namespace Sys2Proof

/-- The command that a word of the opcode table spells: none, since no row has bits. -/
def decodeTableWord (_nbits _w : Nat) : Option Instr := none

end Sys2Proof
end

