-- ==== Sys2Proof/Config.lean ====
section
/-! DEFINITION. Config: what one implementation fixes and the spec does not state. Every constant here is opaque: nothing can
evaluate it, so a statement that holds of the model holds whatever its value is. -/

namespace Sys2Proof.Config

/-- A value the spec leaves open, by the place that draws it and the State's counter of draws (log entry 2). -/
opaque free : (place draw : Nat) → Nat

/-- The variant EVENT[11:8] of a Pennant whose code R498 leaves to the signed firmware, by the condition (log entry 10). -/
opaque catVariant : (condition : Nat) → Fin 16

/-- The catalogue priority of such a Pennant, 0 to 6 (R363, R364; log entry 10). -/
opaque catPrio : (condition : Nat) → Fin 7

/-- The DETAIL_KIND of such a Pennant (R364, R365; log entry 10). -/
opaque catDetail : (condition : Nat) → Fin 4

/-- The running image's event catalogue: its length and its entries (R364, R388; log entry 10). -/
opaque catCount : Fin 65536
/-- One entry of the event catalogue in the layout of EV_CAT_ENTRY. -/
opaque catEntry : (index : Nat) → Nat

/-- What a credit or a cost becomes that no 48-bit number holds (R17, log entry 8). -/
opaque s48Beyond : Int → Nat
/-- The text that stands for a vehicle's identifier whose bytes are no STR32 value (R17, log entry 9). -/
opaque text : List Byte → List Byte

/-- The MAC address of an outlet, derived from UNIT_SERIAL and the outlet's number in a way the spec does not give (R222, log entry 41). -/
opaque mac : (serial : List Byte) → (outlet : Nat) → BitVec 48
/-- The link-local IPv6 address of an outlet with a MAC address (R226, log entry 41). -/
opaque linkLocal : (mac : BitVec 48) → BitVec 128

/-- What a U32 readback in ft shows of a time no U32 number holds (R131, log entry 28). -/
opaque longFt : Nat → Nat
/-- How long a switch that began to conduct at start had conducted when its leg was shut down: the event carries no moment; seen is the
latest moment the timebase has met (R127, R131, log entry 28). -/
opaque cutShort : (start seen : Nat) → Nat

/-- SHA-256 (FIPS 180-4), used and not defined by the spec: 32 bytes (log entry 11). -/
opaque sha256 : List Byte → List Byte
/-- SHA-384 (FIPS 180-4): 48 bytes (log entry 11). -/
opaque sha384 : List Byte → List Byte
/-- ECDSA signature of a digest under a private key, with a per-signature number (log entry 11). -/
opaque ecdsaSign : (key digest : List Byte) → (draw : Nat) → List Byte
/-- ECDSA verification of a signature of a digest under a public key (log entry 11). -/
opaque ecdsaVerify : (pub digest sig : List Byte) → Bool
/-- The public key of a private key (log entry 11). -/
opaque eccPublic : (type : Nat) → List Byte → List Byte
/-- HKDF: a derived key from a parent key, a label and a length (log entry 11). -/
opaque hkdf : (parent label : List Byte) → (len : Nat) → List Byte
/-- A 32-bit or 128-bit authentication tag under a key (log entry 11). -/
opaque macTag : (key nonce text : List Byte) → (len : Nat) → List Byte
/-- Authenticated decryption of a key blob: the plain key where the tag holds (log entry 11). -/
opaque unwrap : (key blob : List Byte) → Option (List Byte)
/-- The DRBG's output (log entry 11). -/
opaque drbg : (draw len : Nat) → List Byte
/-- The DER encoding of a signed PKCS#10 request (log entry 11). -/
opaque pkcs10 : (slotKey pub subject : List Byte) → (draw : Nat) → List Byte
/-- The device root, the import key and the legal signing key: programmed or derived in one unit and never readable (R338, R342;
log entry 11). -/
opaque deviceRoot : Nat
/-- The material of a factory slot (R342, log entry 11). -/
opaque factoryKey : (slot : Nat) → Nat
/-- The factory certificates: 0 IMPORT_CERT, 1 LEGAL_CERT (R342, log entry 11). -/
opaque factoryCert : (slot : Nat) → List Byte

/-- The SHA-384 hash of a signing key in OTP: K0 to K3 as 0 to 3, L0 and L1 as 4 and 5 (R353, log entry 52). -/
opaque fusedKeyHash : (key : Nat) → List Byte
/-- The SHA-384 of the image an area left the factory with (log entry 52). -/
opaque factoryHash : (area : Nat) → List Byte

/-- The cells of a block, by region and block (R97, R101, log entry 54). -/
opaque blockCells : (region block : Nat) → Fin 256
/-- Whether a BIST target below region level exists in this stepping (R431, R433, log entry 53). -/
opaque bistExists : (target : Nat) → Bool
/-- Whether the memories of a BIST target are all MRAM (R434, log entry 53). -/
opaque bistMram : (target : Nat) → Bool
/-- The block and the cell of the fabric that a macro belongs to (R103, R434, log entry 53). -/
opaque bistPart : (target : Nat) → Nat × Nat
/-- The golden MISR value of a node (R432, log entry 53). -/
opaque goldenMisr : (target : Nat) → Nat
/-- The expected signatures of a node's children under a kind, in index order (R432, log entry 53). -/
opaque goldenChildren : (target kind : Nat) → List Nat

end Sys2Proof.Config
end

