-- ==== Sys2Proof/Machine/Bits.lean ====
section
/-! DEFINITION. Bits: bit fields (R10), byte orders (R16), two's complement and the checksums' helpers, all on plain numbers. -/

namespace Sys2Proof.Machine

/-- Bits [hi:lo] of a number (R10). -/
def field (n hi lo : Nat) : Nat := n / 2 ^ lo % 2 ^ (hi + 1 - lo)

/-- Bit [i] of a number as 0 or 1 (R10). -/
def bitN (n i : Nat) : Nat := n / 2 ^ i % 2

/-- Bit [i] of a number as a truth value (R10). -/
def bit (n i : Nat) : Bool := bitN n i == 1

/-- A truth value as 0 or 1. -/
def b2n (b : Bool) : Nat := if b then 1 else 0

/-- A number with bit [i] set to b. -/
def setBit (n i : Nat) (b : Bool) : Nat :=
  if bit n i == b then n else if b then n + 2 ^ i else n - 2 ^ i

/-- A number cut to w bits, as a counter that wraps at 2^w. -/
def wrap (w n : Nat) : Nat := n % 2 ^ w

/-- One more, saturating at top. -/
def incSat (top n : Nat) : Nat := if n < top then n + 1 else top

/-- The two's-complement reading of the low w bits. -/
def toS (w n : Nat) : Int :=
  if n % 2 ^ w < 2 ^ (w - 1) then (n % 2 ^ w : Nat) else (n % 2 ^ w : Nat) - (2 ^ w : Nat)

/-- The w-bit pattern of an integer in two's complement. -/
def ofS (w : Nat) (i : Int) : Nat := (i % (2 ^ w : Nat)).toNat

/-- An integer held between two limits. -/
def clampI (lo hi i : Int) : Int := if i < lo then lo else if hi < i then hi else i

/-- A number held between two limits. -/
def clampN (lo hi n : Nat) : Nat := if n < lo then lo else if hi < n then hi else n

/-- The k low bytes of a number, least significant first (R16). -/
def leBytes : (k n : Nat) → List Byte
  | 0, _ => []
  | k + 1, n => byte n :: leBytes k (n / 256)

/-- The number whose bytes, least significant first, are given (R16). -/
def leNat : List Byte → Nat
  | [] => 0
  | b :: bs => b.toNat + 256 * leNat bs

/-- The k low bytes of a number, most significant first. -/
def beBytes (k n : Nat) : List Byte := (leBytes k n).reverse

/-- The number whose bytes, most significant first, are given. -/
def beNat (bs : List Byte) : Nat := leNat bs.reverse

/-- n bytes of a list from an offset, as a number, least significant byte first. -/
def leAt (bs : List Byte) (off n : Nat) : Nat := leNat ((bs.drop off).take n)

/-- n zero bytes. -/
def zeros (n : Nat) : List Byte := List.replicate n 0

/-- A byte list padded with zero bytes to n, or cut to n. -/
def padTo (n : Nat) (bs : List Byte) : List Byte := (bs ++ zeros n).take n

/-- The quotient rounded to nearest, ties away from zero; zero for a zero divisor. -/
def divNear (a b : Int) : Int :=
  if b == 0 then 0
  else if a < 0 then -(((-a) * 2 + b.natAbs) / (2 * b.natAbs)) else (a * 2 + b.natAbs) / (2 * b.natAbs)

/-- One step of a bit-serial checksum of width w, most significant bit first. -/
def crcBitMsb (w poly : Nat) (inBit : Bool) (r : Nat) : Nat :=
  if bit r (w - 1) != inBit then Nat.xor (r * 2 % 2 ^ w) poly else r * 2 % 2 ^ w

/-- One byte into a checksum of width w, most significant bit first. -/
def crcByteMsb (w poly : Nat) (r : Nat) (b : Byte) : Nat :=
  [7, 6, 5, 4, 3, 2, 1, 0].foldl (fun acc i => crcBitMsb w poly (bit b.toNat i) acc) r

/-- A whole checksum of width w, most significant bit first, from a start value. -/
def crcMsb (w poly start : Nat) (bs : List Byte) : Nat := bs.foldl (crcByteMsb w poly) start

/-- One step of a reflected checksum: least significant bit first. -/
def crcBitLsb (poly : Nat) (inBit : Bool) (r : Nat) : Nat :=
  if bit r 0 != inBit then Nat.xor (r / 2) poly else r / 2

/-- One byte into a reflected checksum. -/
def crcByteLsb (poly : Nat) (r : Nat) (b : Byte) : Nat :=
  [0, 1, 2, 3, 4, 5, 6, 7].foldl (fun acc i => crcBitLsb poly (bit b.toNat i) acc) r

/-- A whole reflected checksum from a start value. -/
def crcLsb (poly start : Nat) (bs : List Byte) : Nat := bs.foldl (crcByteLsb poly) start

/-- How many of a list's bytes are well-formed continuation bytes of UTF-8 at its head. -/
def utf8Cont : (k : Nat) → List Byte → Bool
  | 0, _ => true
  | _ + 1, [] => false
  | k + 1, b :: bs => (0x80 <= b.toNat && b.toNat <= 0xBF) && utf8Cont k bs

/-- Valid UTF-8 (R17, STR32): no overlong form, no surrogate, nothing above U+10FFFF, nothing cut off. The fuel is the length. -/
def utf8Ok : (fuel : Nat) → List Byte → Bool
  | _, [] => true
  | 0, _ :: _ => false
  | f + 1, b :: bs =>
    let n := b.toNat
    let b1 := (bs.headD 0).toNat
    if n < 0x80 then utf8Ok f bs
    else if 0xC2 <= n && n <= 0xDF then utf8Cont 1 bs && utf8Ok f (bs.drop 1)
    else if 0xE0 <= n && n <= 0xEF then
      utf8Cont 2 bs && (n != 0xE0 || 0xA0 <= b1) && (n != 0xED || b1 <= 0x9F) && utf8Ok f (bs.drop 2)
    else if 0xF0 <= n && n <= 0xF4 then
      utf8Cont 3 bs && (n != 0xF0 || 0x90 <= b1) && (n != 0xF4 || b1 <= 0x8F) && utf8Ok f (bs.drop 3)
    else false

/-- A STR32 value the device takes (R17): 32 bytes, valid UTF-8 before the first zero byte, zero bytes after it. -/
def str32Ok (bs : List Byte) : Bool :=
  bs.length == 32 && utf8Ok 32 (bs.takeWhile (· != 0)) && (bs.dropWhile (· != 0)).all (· == 0)

end Sys2Proof.Machine
end

