-- ==== Sys2Proof/Machine/Reg.lean ====
section
/-! DEFINITION. Reg: the addresses of the object tables of spec/, one name each. A parameter i is the group offset of an
instance (R15), c the object offset and e the element. -/

namespace Sys2Proof.Machine

/-- One number for group:object.element (R13): [23:16] group, [15:8] object, [7:0] element, as STAGE_PROBE_ADDR lays it out. -/
abbrev key (g o e : Nat) : Nat := g * 65536 + o * 256 + e

namespace Reg

/-- 00:01.00 (00_scope, U32 RO). -/
abbrev PART_ID : Nat := key 0x00 0x01 0
/-- 00:02.00 (00_scope, U16 RO). -/
abbrev STEPPING : Nat := key 0x00 0x02 0
/-- 00:03.00 (00_scope, STR32 RO). -/
abbrev UNIT_SERIAL : Nat := key 0x00 0x03 0
/-- 00:10.00 (01_site_and_roles, U16 RWA). -/
abbrev ROLE_MASK : Nat := key 0x00 0x10 0
/-- 00:11.00 (01_site_and_roles, U16 RO). -/
abbrev ROLE_ACTIVE : Nat := key 0x00 0x11 0
/-- 00:12.01–04 (01_site_and_roles, ENUM8 RWA). -/
abbrev XP_TYPE (e : Nat) : Nat := key 0x00 0x12 e
/-- 10:30.01–08 (01_site_and_roles, U32 RWA). -/
abbrev ROUTE (i e : Nat) : Nat := key (0x10 + i) 0x30 e
/-- 10:31.00 (01_site_and_roles, U8 RW). -/
abbrev ROUTE_SELECT (i : Nat) : Nat := key (0x10 + i) 0x31 0
/-- 10:32.00 (01_site_and_roles, ENUM8 RO). -/
abbrev ROUTE_STATE (i : Nat) : Nat := key (0x10 + i) 0x32 0
/-- 10:33.00 (01_site_and_roles, U32 RW). -/
abbrev ROUTE_FB_TIMEOUT (i : Nat) : Nat := key (0x10 + i) 0x33 0
/-- 10:34.00 (01_site_and_roles, S32 RW). -/
abbrev ROUTE_ZERO_I (i : Nat) : Nat := key (0x10 + i) 0x34 0
/-- 00:20.00 (02_object_dictionary, ENUM8 RWA). -/
abbrev REMOTE_WRITE : Nat := key 0x00 0x20 0
/-- 00:21.01–08 (02_object_dictionary, U16 RWA). -/
abbrev REMOTE_HOST (e : Nat) : Nat := key 0x00 0x21 e
/-- 00:22.00 (02_object_dictionary, U32 RO). -/
abbrev DICT_RX_COUNT : Nat := key 0x00 0x22 0
/-- 00:23.00 (02_object_dictionary, U32 RO). -/
abbrev DICT_REJECT_COUNT : Nat := key 0x00 0x23 0
/-- 03:03.00 (02_object_dictionary, U16 RO). -/
abbrev STAGE_COUNT : Nat := key 0x03 0x03 0
/-- 03:04.00 (02_object_dictionary, U32 RO). -/
abbrev STAGE_BYTES : Nat := key 0x03 0x04 0
/-- 03:05.00 (02_object_dictionary, U32 RW). -/
abbrev STAGE_PROBE_ADDR : Nat := key 0x03 0x05 0
/-- 03:06.00 (02_object_dictionary, BLOB RO). -/
abbrev STAGE_PROBE_VALUE : Nat := key 0x03 0x06 0
/-- 03:07.00 (02_object_dictionary, U32 RO). -/
abbrev COMMIT_SEQ : Nat := key 0x03 0x07 0
/-- 03:08.00 (02_object_dictionary, ENUM8 RO). -/
abbrev COMMIT_STATE : Nat := key 0x03 0x08 0
/-- 03:09.00 (02_object_dictionary, U32 RO). -/
abbrev STAGE_DISCARDED : Nat := key 0x03 0x09 0
/-- 03:0A.00 (02_object_dictionary, U16 RO). -/
abbrev BILL_HOLD_COUNT : Nat := key 0x03 0x0A 0
/-- 01:00.00 (03_modes, U8 RW). -/
abbrev MODE_WORD : Nat := key 0x01 0x00 0
/-- 01:01.00 (03_modes, U8 RO). -/
abbrev MODE_IN_FORCE : Nat := key 0x01 0x01 0
/-- 01:02.00 (03_modes, U8 RO). -/
abbrev MODE_TRANSIT : Nat := key 0x01 0x02 0
/-- 01:03.00 (03_modes, U8 RWA). -/
abbrev BOOT_MODE : Nat := key 0x01 0x03 0
/-- 01:04.00 (03_modes, ENUM8 RO). -/
abbrev MODE_ORIGIN : Nat := key 0x01 0x04 0
/-- 01:05.01 (03_modes, U8 RO). -/
abbrev PRE_LOSS_WORD : Nat := key 0x01 0x05 1
/-- 01:05.02 (03_modes, U8 RO). -/
abbrev PRE_LOSS_IN_FORCE : Nat := key 0x01 0x05 2
/-- 01:06.00 (03_modes, U32 RWA). -/
abbrev STOP_TIMEOUT : Nat := key 0x01 0x06 0
/-- 01:07.00 (03_modes, U32 RO). -/
abbrev MODE_CHANGES : Nat := key 0x01 0x07 0
/-- 01:08.00 (03_modes, U32 RO). -/
abbrev FORCED_STOPS : Nat := key 0x01 0x08 0
/-- 05:01.00 (04_fabric_and_timing, U16 RO). -/
abbrev PACE : Nat := key 0x05 0x01 0
/-- 05:02.01–07 (04_fabric_and_timing, U16 RO). -/
abbrev PACE_REGION (e : Nat) : Nat := key 0x05 0x02 e
/-- 05:03.00 (04_fabric_and_timing, U16 RO). -/
abbrev PACE_MIN_SEEN : Nat := key 0x05 0x03 0
/-- 05:04.00 (04_fabric_and_timing, U16 RO). -/
abbrev PACE_FLOOR : Nat := key 0x05 0x04 0
/-- 05:05.00 (04_fabric_and_timing, U16 RO). -/
abbrev FABRIC_STATUS : Nat := key 0x05 0x05 0
/-- 05:06.01–0C (04_fabric_and_timing, ENUM8 RO). -/
abbrev ISLAND_STATE (e : Nat) : Nat := key 0x05 0x06 e
/-- 05:07.01–07 (04_fabric_and_timing, U16 RO). -/
abbrev FENCED_CELLS (e : Nat) : Nat := key 0x05 0x07 e
/-- 05:08.01–07 (04_fabric_and_timing, U32 RO). -/
abbrev FAB_ERR_COUNT (e : Nat) : Nat := key 0x05 0x08 e
/-- 05:09.00 (04_fabric_and_timing, U64 RO). -/
abbrev LAST_FAB_ERR : Nat := key 0x05 0x09 0
/-- 05:0A.01 (04_fabric_and_timing, U32 RO). -/
abbrev LAT_EVENT_TO_RING : Nat := key 0x05 0x0A 1
/-- 05:0A.02 (04_fabric_and_timing, U32 RO). -/
abbrev LAT_EPOCH_TO_LOOP : Nat := key 0x05 0x0A 2
/-- 05:0A.03 (04_fabric_and_timing, U32 RO). -/
abbrev LAT_SAMPLE_TO_PWM : Nat := key 0x05 0x0A 3
/-- 05:0B.00 (04_fabric_and_timing, BOOL WO). -/
abbrev ENSIGN_LAT_CLEAR : Nat := key 0x05 0x0B 0
/-- 10:01.01–08 (05_phase_pwm, ENUM8 RW). -/
abbrev CARRIER (i e : Nat) : Nat := key (0x10 + i) 0x01 e
/-- 10:02.01–08 (05_phase_pwm, U32 RW). -/
abbrev ON_MIN (i e : Nat) : Nat := key (0x10 + i) 0x02 e
/-- 10:03.01–08 (05_phase_pwm, U32 RW). -/
abbrev ON_MAX (i e : Nat) : Nat := key (0x10 + i) 0x03 e
/-- 10:04.01–08 (05_phase_pwm, U32 RW). -/
abbrev OFF_MIN (i e : Nat) : Nat := key (0x10 + i) 0x04 e
/-- 10:05.01–08 (05_phase_pwm, U32 RW). -/
abbrev OFF_MAX (i e : Nat) : Nat := key (0x10 + i) 0x05 e
/-- 10:06.01–08 (05_phase_pwm, U32 RW). -/
abbrev PERIOD_MIN (i e : Nat) : Nat := key (0x10 + i) 0x06 e
/-- 10:07.01–08 (05_phase_pwm, U32 RW). -/
abbrev PERIOD_MAX (i e : Nat) : Nat := key (0x10 + i) 0x07 e
/-- 10:08.01–08 (05_phase_pwm, U32 RW). -/
abbrev DT_MIN (i e : Nat) : Nat := key (0x10 + i) 0x08 e
/-- 10:09.01–08 (05_phase_pwm, U32 RW). -/
abbrev DT_MAX (i e : Nat) : Nat := key (0x10 + i) 0x09 e
/-- 10:0A.01–08 (05_phase_pwm, U32 RW). -/
abbrev MIN_PULSE (i e : Nat) : Nat := key (0x10 + i) 0x0A e
/-- 10:0B.01–08 (05_phase_pwm, ENUM8 RW). -/
abbrev SHORT_MODE (i e : Nat) : Nat := key (0x10 + i) 0x0B e
/-- 10:0C.01–08 (05_phase_pwm, ENUM8 RW). -/
abbrev SWN_MODE (i e : Nat) : Nat := key (0x10 + i) 0x0C e
/-- 10:0D.01–08 (05_phase_pwm, BOOL RWA). -/
abbrev FULL_ON_EN (i e : Nat) : Nat := key (0x10 + i) 0x0D e
/-- 10:0E.01–08 (05_phase_pwm, U16 RW). -/
abbrev INTERLEAVE_FRAC (i e : Nat) : Nat := key (0x10 + i) 0x0E e
/-- 10:0F.01–08 (05_phase_pwm, U8 RW). -/
abbrev OVERRIDE (i e : Nat) : Nat := key (0x10 + i) 0x0F e
/-- 10:10.00 (05_phase_pwm, ENUM8 RW). -/
abbrev SYNC_SRC (i : Nat) : Nat := key (0x10 + i) 0x10 0
/-- 10:11.00 (05_phase_pwm, ENUM8 RW). -/
abbrev FLT_SCOPE (i : Nat) : Nat := key (0x10 + i) 0x11 0
/-- 10:12.00 (05_phase_pwm, U8 RW). -/
abbrev ARM_HOLD (i : Nat) : Nat := key (0x10 + i) 0x12 0
/-- 10:13.00 (05_phase_pwm, U8 WO). -/
abbrev ARM_RELEASE (i : Nat) : Nat := key (0x10 + i) 0x13 0
/-- 10:14.00 (05_phase_pwm, U8 RO). -/
abbrev FAULT_LATCH (i : Nat) : Nat := key (0x10 + i) 0x14 0
/-- 10:15.00 (05_phase_pwm, U8 WO). -/
abbrev FAULT_CLEAR (i : Nat) : Nat := key (0x10 + i) 0x15 0
/-- 10:16.00 (05_phase_pwm, U8 RO). -/
abbrev SYNC_STATUS (i : Nat) : Nat := key (0x10 + i) 0x16 0
/-- 10:2B.00 (05_phase_pwm, U8 WO). -/
abbrev COUNT_CLEAR (i : Nat) : Nat := key (0x10 + i) 0x2B 0
/-- 10:18.01–08 (05_phase_pwm, U32 RO). -/
abbrev CMD_LAST (i e : Nat) : Nat := key (0x10 + i) 0x18 e
/-- 10:19.01–08 (05_phase_pwm, U32 RO). -/
abbrev ON_MEAS (i e : Nat) : Nat := key (0x10 + i) 0x19 e
/-- 10:1A.01–08 (05_phase_pwm, U32 RO). -/
abbrev OFF_MEAS (i e : Nat) : Nat := key (0x10 + i) 0x1A e
/-- 10:1B.01–08 (05_phase_pwm, U32 RO). -/
abbrev PERIOD_MEAS (i e : Nat) : Nat := key (0x10 + i) 0x1B e
/-- 10:1C.01–08 (05_phase_pwm, U32 RO). -/
abbrev DT_A_LAST (i e : Nat) : Nat := key (0x10 + i) 0x1C e
/-- 10:1D.01–08 (05_phase_pwm, U32 RO). -/
abbrev DT_B_LAST (i e : Nat) : Nat := key (0x10 + i) 0x1D e
/-- 10:1E.01–08 (05_phase_pwm, U32 RO). -/
abbrev BOUNDARY_COUNT (i e : Nat) : Nat := key (0x10 + i) 0x1E e
/-- 10:1F.01–08 (05_phase_pwm, ENUM8 RO). -/
abbrev CAPTURE_STATUS (i e : Nat) : Nat := key (0x10 + i) 0x1F e
/-- 10:20.01–08 (05_phase_pwm, U32 RO). -/
abbrev CAPTURE_AT (i e : Nat) : Nat := key (0x10 + i) 0x20 e
/-- 10:21.01–08 (05_phase_pwm, ENUM8 RO). -/
abbrev LEG_STATE (i e : Nat) : Nat := key (0x10 + i) 0x21 e
/-- 10:22.01–08 (05_phase_pwm, U32 RO). -/
abbrev HARD_SWITCH_CNT (i e : Nat) : Nat := key (0x10 + i) 0x22 e
/-- 10:23.01–08 (05_phase_pwm, U32 RO). -/
abbrev FORCED_EDGE_CNT (i e : Nat) : Nat := key (0x10 + i) 0x23 e
/-- 10:24.01–08 (05_phase_pwm, U32 RO). -/
abbrev DROP_CNT (i e : Nat) : Nat := key (0x10 + i) 0x24 e
/-- 10:25.01–08 (05_phase_pwm, U32 RO). -/
abbrev STRETCH_CNT (i e : Nat) : Nat := key (0x10 + i) 0x25 e
/-- 10:26.01–08 (05_phase_pwm, U32 RO). -/
abbrev FULL_ON_CLAMP_CNT (i e : Nat) : Nat := key (0x10 + i) 0x26 e
/-- 10:27.01–08 (05_phase_pwm, U32 RO). -/
abbrev LONG_PERIOD_CNT (i e : Nat) : Nat := key (0x10 + i) 0x27 e
/-- 10:28.01–08 (05_phase_pwm, U32 RO). -/
abbrev SYNC_SLIP_CNT (i e : Nat) : Nat := key (0x10 + i) 0x28 e
/-- 10:29.01–08 (05_phase_pwm, U32 RO). -/
abbrev FAULT_CNT (i e : Nat) : Nat := key (0x10 + i) 0x29 e
/-- 10:2A.01–08 (05_phase_pwm, U32 RO). -/
abbrev ON_MAX_HIT_CNT (i e : Nat) : Nat := key (0x10 + i) 0x2A e
/-- 10:40.00 (06_phase_loops, ENUM8 RW). -/
abbrev SETP_SRC (i : Nat) : Nat := key (0x10 + i) 0x40 0
/-- 10:41.00 (06_phase_loops, S32 RW). -/
abbrev SETP_FS (i : Nat) : Nat := key (0x10 + i) 0x41 0
/-- 10:42.00 (06_phase_loops, U32 RW). -/
abbrev SETP_SLEW (i : Nat) : Nat := key (0x10 + i) 0x42 0
/-- 10:43.00 (06_phase_loops, U32 RW). -/
abbrev RAMP_TIME (i : Nat) : Nat := key (0x10 + i) 0x43 0
/-- 10:44.00 (06_phase_loops, S32 RW). -/
abbrev V_FLOOR (i : Nat) : Nat := key (0x10 + i) 0x44 0
/-- 10:45.01–08 (06_phase_loops, S32 RW). -/
abbrev I_PHASE_MAX (i e : Nat) : Nat := key (0x10 + i) 0x45 e
/-- 10:46.01–08 (06_phase_loops, S32 RW). -/
abbrev ISNS_FS (i e : Nat) : Nat := key (0x10 + i) 0x46 e
/-- 10:47.01–08 (06_phase_loops, S32 RW). -/
abbrev ISNS_GAIN_PPM (i e : Nat) : Nat := key (0x10 + i) 0x47 e
/-- 10:48.01–08 (06_phase_loops, S32 RW). -/
abbrev ISNS_OFFSET (i e : Nat) : Nat := key (0x10 + i) 0x48 e
/-- 10:49.00 (06_phase_loops, S32 RW). -/
abbrev VB_FS (i : Nat) : Nat := key (0x10 + i) 0x49 0
/-- 10:4A.00 (06_phase_loops, S32 RW). -/
abbrev VO_FS (i : Nat) : Nat := key (0x10 + i) 0x4A 0
/-- 10:4B.00 (06_phase_loops, S32 RW). -/
abbrev V_IN_MIN (i : Nat) : Nat := key (0x10 + i) 0x4B 0
/-- 10:4C.00 (06_phase_loops, BOOL RW). -/
abbrev SHED_EN (i : Nat) : Nat := key (0x10 + i) 0x4C 0
/-- 10:4D.01–07 (06_phase_loops, S32 RW). -/
abbrev SHED_CAP (i e : Nat) : Nat := key (0x10 + i) 0x4D e
/-- 10:4E.00 (06_phase_loops, S32 RW). -/
abbrev SHED_HYST (i : Nat) : Nat := key (0x10 + i) 0x4E 0
/-- 10:4F.00 (06_phase_loops, U16 RW). -/
abbrev SHED_DWELL (i : Nat) : Nat := key (0x10 + i) 0x4F 0
/-- 10:50.00 (06_phase_loops, U32 RW). -/
abbrev SHED_ORDER (i : Nat) : Nat := key (0x10 + i) 0x50 0
/-- 10:51.00 (06_phase_loops, S32 RW). -/
abbrev STEP_THRESH (i : Nat) : Nat := key (0x10 + i) 0x51 0
/-- 10:52.00 (06_phase_loops, U16 RW). -/
abbrev SHED_WINDOW (i : Nat) : Nat := key (0x10 + i) 0x52 0
/-- 10:53.01–08 (06_phase_loops, U32 RW). -/
abbrev NTC_RNOM (i e : Nat) : Nat := key (0x10 + i) 0x53 e
/-- 10:54.01–08 (06_phase_loops, U16 RW). -/
abbrev NTC_BETA (i e : Nat) : Nat := key (0x10 + i) 0x54 e
/-- 10:55.00 (06_phase_loops, S16 RW). -/
abbrev OT_WARN (i : Nat) : Nat := key (0x10 + i) 0x55 0
/-- 10:56.00 (06_phase_loops, S16 RW). -/
abbrev OT_SHUT (i : Nat) : Nat := key (0x10 + i) 0x56 0
/-- 10:57.00 (06_phase_loops, S16 RW). -/
abbrev OT_HYST (i : Nat) : Nat := key (0x10 + i) 0x57 0
/-- 10:58.01–08 (06_phase_loops, S32 RO). -/
abbrev I_MEAS (i e : Nat) : Nat := key (0x10 + i) 0x58 e
/-- 10:59.00 (06_phase_loops, S32 RO). -/
abbrev I_GROUP_CMD (i : Nat) : Nat := key (0x10 + i) 0x59 0
/-- 10:5A.00 (06_phase_loops, U8 RO). -/
abbrev N_ACTIVE (i : Nat) : Nat := key (0x10 + i) 0x5A 0
/-- 10:5B.00 (06_phase_loops, ENUM8 RO). -/
abbrev SHED_STATE (i : Nat) : Nat := key (0x10 + i) 0x5B 0
/-- 10:5C.01–08 (06_phase_loops, S16 RO). -/
abbrev T_STAGE (i e : Nat) : Nat := key (0x10 + i) 0x5C e
/-- 10:5D.00 (06_phase_loops, U32 RO). -/
abbrev OT_STATUS (i : Nat) : Nat := key (0x10 + i) 0x5D 0
/-- 10:5E.00 (06_phase_loops, S32 RO). -/
abbrev V_IN_MEAS (i : Nat) : Nat := key (0x10 + i) 0x5E 0
/-- 10:5F.00 (06_phase_loops, S32 RO). -/
abbrev V_OUT_MEAS (i : Nat) : Nat := key (0x10 + i) 0x5F 0
/-- 10:60.00 (06_phase_loops, U32 RO). -/
abbrev SHED_CNT (i : Nat) : Nat := key (0x10 + i) 0x60 0
/-- 10:61.00 (06_phase_loops, U32 RO). -/
abbrev SHED_CANCEL_CNT (i : Nat) : Nat := key (0x10 + i) 0x61 0
/-- 10:62.00 (06_phase_loops, U32 RO). -/
abbrev STEP_LIMIT_CNT (i : Nat) : Nat := key (0x10 + i) 0x62 0
/-- 10:63.01–08 (06_phase_loops, U32 RO). -/
abbrev OT_SHUT_CNT (i e : Nat) : Nat := key (0x10 + i) 0x63 e
/-- 10:64.00 (06_phase_loops, U8 RO). -/
abbrev SETP_FAULT (i : Nat) : Nat := key (0x10 + i) 0x64 0
/-- 20:01.00 (06_phase_loops, U8 RWA). -/
abbrev BIND (i : Nat) : Nat := key (0x20 + i) 0x01 0
/-- 20:02.00 (06_phase_loops, U8 RO). -/
abbrev BIND_ACTIVE (i : Nat) : Nat := key (0x20 + i) 0x02 0
/-- 20:03.00 (06_phase_loops, BLOB RW). -/
abbrev COEF_SET (i : Nat) : Nat := key (0x20 + i) 0x03 0
/-- 20:04.00 (06_phase_loops, ENUM8 RW). -/
abbrev LOOP_RATE (i : Nat) : Nat := key (0x20 + i) 0x04 0
/-- 20:05.00 (06_phase_loops, ENUM8 RO). -/
abbrev ENGINE_STATE (i : Nat) : Nat := key (0x20 + i) 0x05 0
/-- 20:06.00 (06_phase_loops, U8 RO). -/
abbrev REGION_ACTIVE (i : Nat) : Nat := key (0x20 + i) 0x06 0
/-- 20:07.00 (06_phase_loops, U32 RO). -/
abbrev REGION_CHANGES (i : Nat) : Nat := key (0x20 + i) 0x07 0
/-- 20:08.00 (06_phase_loops, U32 RO). -/
abbrev REGION_BUMP_CNT (i : Nat) : Nat := key (0x20 + i) 0x08 0
/-- 20:09.00 (06_phase_loops, S32 RO). -/
abbrev INT_OUT (i : Nat) : Nat := key (0x20 + i) 0x09 0
/-- 20:0A.00 (06_phase_loops, S32 RO). -/
abbrev VALLEY_CMD (i : Nat) : Nat := key (0x20 + i) 0x0A 0
/-- 20:0B.00 (06_phase_loops, S32 RO). -/
abbrev SHARE_LATCHED (i : Nat) : Nat := key (0x20 + i) 0x0B 0
/-- 20:0C.00 (06_phase_loops, ENUM8 RWA). -/
abbrev SPARE_POLICY (i : Nat) : Nat := key (0x20 + i) 0x0C 0
/-- 20:0D.00 (06_phase_loops, U32 RO). -/
abbrev SILENCE_CNT (i : Nat) : Nat := key (0x20 + i) 0x0D 0
/-- 51:01.00 (07_power_allocation, U32 RWA). -/
abbrev SITE_EXPORT : Nat := key 0x51 0x01 0
/-- 51:02.00 (07_power_allocation, U32 RWA). -/
abbrev TREE_APPLY_EPOCH : Nat := key 0x51 0x02 0
/-- 51:03.00 (07_power_allocation, U32 RO). -/
abbrev ALLOC_HASH : Nat := key 0x51 0x03 0
/-- 51:04.00 (07_power_allocation, ENUM8 RO). -/
abbrev TREE_STATE : Nat := key 0x51 0x04 0
/-- 51:05.00 (07_power_allocation, U32 RO). -/
abbrev ALLOC_HASH_HELD : Nat := key 0x51 0x05 0
/-- 51:40.01–7F.01 (07_power_allocation, U8 RWA). -/
abbrev PARENT (c : Nat) : Nat := key 0x51 (0x40 + c) 1
/-- 51:40.02–7F.02 (07_power_allocation, U32 RWA). -/
abbrev LIMIT (c : Nat) : Nat := key 0x51 (0x40 + c) 2
/-- 51:40.03–7F.03 (07_power_allocation, ENUM8 RWA). -/
abbrev KIND (c : Nat) : Nat := key 0x51 (0x40 + c) 3
/-- 50:01.00 (07_power_allocation, U32 RWA). -/
abbrev EPOCH_PERIOD : Nat := key 0x50 0x01 0
/-- 50:02.00 (07_power_allocation, U32 RWA). -/
abbrev EPOCH_MARGIN : Nat := key 0x50 0x02 0
/-- 50:03.00 (07_power_allocation, U64 RO). -/
abbrev EPOCH_NUMBER : Nat := key 0x50 0x03 0
/-- 50:04.00 (07_power_allocation, U32 RO). -/
abbrev EPOCH_MIN : Nat := key 0x50 0x04 0
/-- 50:05.00 (07_power_allocation, ENUM8 RO). -/
abbrev ALLOC_STATE : Nat := key 0x50 0x05 0
/-- 50:06.00 (07_power_allocation, BOOL RO). -/
abbrev SITE_ISLAND : Nat := key 0x50 0x06 0
/-- 50:07.00 (07_power_allocation, U8 RO). -/
abbrev ALLOC_FLAGS : Nat := key 0x50 0x07 0
/-- 50:10.01–04 (07_power_allocation, U8 RWA). -/
abbrev OUT_ATTACH (e : Nat) : Nat := key 0x50 0x10 e
/-- 50:11.01–04 (07_power_allocation, U8 RWA). -/
abbrev OUT_TIER (e : Nat) : Nat := key 0x50 0x11 e
/-- 50:12.01–04 (07_power_allocation, U16 RWA). -/
abbrev OUT_RAMP (e : Nat) : Nat := key 0x50 0x12 e
/-- 50:13.01–04 (07_power_allocation, U32 RW). -/
abbrev OUT_SHAVE (e : Nat) : Nat := key 0x50 0x13 e
/-- 50:14.01–04 (07_power_allocation, U8 RWA). -/
abbrev XP_ATTACH (e : Nat) : Nat := key 0x50 0x14 e
/-- 50:15.01–04 (07_power_allocation, U8 RWA). -/
abbrev XP_TIER (e : Nat) : Nat := key 0x50 0x15 e
/-- 50:16.01–04 (07_power_allocation, U16 RWA). -/
abbrev XP_RAMP (e : Nat) : Nat := key 0x50 0x16 e
/-- 50:17.01–04 (07_power_allocation, S32 RW). -/
abbrev XP_FLOOR (e : Nat) : Nat := key 0x50 0x17 e
/-- 50:18.01–04 (07_power_allocation, S32 RW). -/
abbrev XP_CEIL (e : Nat) : Nat := key 0x50 0x18 e
/-- 50:19.01–04 (07_power_allocation, U32 RWA). -/
abbrev PG_RATING (e : Nat) : Nat := key 0x50 0x19 e
/-- 50:20.01–04 (07_power_allocation, S32 RO). -/
abbrev OUT_CLAIM_FLOOR (e : Nat) : Nat := key 0x50 0x20 e
/-- 50:21.01–04 (07_power_allocation, S32 RO). -/
abbrev OUT_CLAIM_CEIL (e : Nat) : Nat := key 0x50 0x21 e
/-- 50:22.01–04 (07_power_allocation, S32 RO). -/
abbrev XP_GRANT (e : Nat) : Nat := key 0x50 0x22 e
/-- 50:23.01–04 (07_power_allocation, U32 RO). -/
abbrev PG_CAP (e : Nat) : Nat := key 0x50 0x23 e
/-- 50:24.01–04 (07_power_allocation, S32 RO). -/
abbrev PG_GRANT (e : Nat) : Nat := key 0x50 0x24 e
/-- 52:01.00 (07_power_allocation, U32 RO). -/
abbrev RESULT_CRC_OWN : Nat := key 0x52 0x01 0
/-- 52:02.00 (07_power_allocation, U32 RO). -/
abbrev RESULT_CRC_REF : Nat := key 0x52 0x02 0
/-- 52:03.00 (07_power_allocation, U16 RO). -/
abbrev CRC_AGREE : Nat := key 0x52 0x03 0
/-- 52:04.00 (07_power_allocation, U16 RO). -/
abbrev ROSTER_SIZE : Nat := key 0x52 0x04 0
/-- 52:05.00 (07_power_allocation, U16 RO). -/
abbrev SUBST_COUNT : Nat := key 0x52 0x05 0
/-- 52:06.00 (07_power_allocation, U16 RO). -/
abbrev FROZEN_COUNT : Nat := key 0x52 0x06 0
/-- 52:07.00 (07_power_allocation, U32 RO). -/
abbrev T_WAVE_MEAS : Nat := key 0x52 0x07 0
/-- 52:08.00 (07_power_allocation, U32 RO). -/
abbrev T_WAVE_MAX : Nat := key 0x52 0x08 0
/-- 52:09.00 (07_power_allocation, U32 RO). -/
abbrev T_CALC_LAST : Nat := key 0x52 0x09 0
/-- 52:0A.00 (07_power_allocation, U32 RO). -/
abbrev T_CALC_MAX : Nat := key 0x52 0x0A 0
/-- 52:0B.00 (07_power_allocation, U32 RO). -/
abbrev MISSED_WAVE_CNT : Nat := key 0x52 0x0B 0
/-- 52:0C.00 (07_power_allocation, U32 RO). -/
abbrev LATE_BLOCK_CNT : Nat := key 0x52 0x0C 0
/-- 52:0D.00 (07_power_allocation, U32 RO). -/
abbrev DIVERGE_CNT : Nat := key 0x52 0x0D 0
/-- 52:0E.00 (07_power_allocation, U32 RO). -/
abbrev FLOOR_CUT_CNT : Nat := key 0x52 0x0E 0
/-- 52:0F.00 (07_power_allocation, U32 RO). -/
abbrev CALC_OVERRUN_CNT : Nat := key 0x52 0x0F 0
/-- 52:10.00 (07_power_allocation, U32 RO). -/
abbrev LAST_SAFE_EPOCH : Nat := key 0x52 0x10 0
/-- 58:01.00 (08_halyard_ring, U16 RWA). -/
abbrev RING_ADDR : Nat := key 0x58 0x01 0
/-- 58:02.00 (08_halyard_ring, U8 RWA). -/
abbrev RING_ENABLE : Nat := key 0x58 0x02 0
/-- 58:03.00 (08_halyard_ring, BOOL RW). -/
abbrev BYP_FORCE : Nat := key 0x58 0x03 0
/-- 58:04.00 (08_halyard_ring, U32 RW). -/
abbrev WRAP_HEAL : Nat := key 0x58 0x04 0
/-- 58:05.00 (08_halyard_ring, U16 WO). -/
abbrev ROSTER_EVICT : Nat := key 0x58 0x05 0
/-- 58:06.00 (08_halyard_ring, U16 RO). -/
abbrev HOIST_ADDR : Nat := key 0x58 0x06 0
/-- 58:07.00 (08_halyard_ring, U16 RO). -/
abbrev RING_NODES : Nat := key 0x58 0x07 0
/-- 58:08.00 (08_halyard_ring, ENUM8 RO). -/
abbrev ROSTER_STATE : Nat := key 0x58 0x08 0
/-- 58:09.00 (08_halyard_ring, U8 RO). -/
abbrev JOIN_REFUSE_REASON : Nat := key 0x58 0x09 0
/-- 58:0A.00 (08_halyard_ring, U16 RO). -/
abbrev RING_STATUS : Nat := key 0x58 0x0A 0
/-- 58:0B.00 (08_halyard_ring, U16 RO). -/
abbrev POS_A : Nat := key 0x58 0x0B 0
/-- 58:0C.01–02 (08_halyard_ring, U32 RO). -/
abbrev LOOP_TIME (e : Nat) : Nat := key 0x58 0x0C e
/-- 58:0D.00 (08_halyard_ring, U16 RO). -/
abbrev REPEAT_DELAY : Nat := key 0x58 0x0D 0
/-- 58:0E.01–02 (08_halyard_ring, U16 RO). -/
abbrev NEIGHBOUR (e : Nat) : Nat := key 0x58 0x0E e
/-- 58:0F.01–02 (08_halyard_ring, U32 RO). -/
abbrev LINK_ERR_CNT (e : Nat) : Nat := key 0x58 0x0F e
/-- 58:10.01–02 (08_halyard_ring, U32 RO). -/
abbrev WRAP_CNT (e : Nat) : Nat := key 0x58 0x10 e
/-- 58:11.00 (08_halyard_ring, U32 RO). -/
abbrev DISPLACE_CNT : Nat := key 0x58 0x11 0
/-- 58:12.00 (08_halyard_ring, U32 RO). -/
abbrev ENSIGN_DEFER_CNT : Nat := key 0x58 0x12 0
/-- 58:13.00 (08_halyard_ring, U32 RO). -/
abbrev AUTH_FAIL_CNT : Nat := key 0x58 0x13 0
/-- 58:14.00 (08_halyard_ring, U32 RO). -/
abbrev FOREIGN_SLOT_CNT : Nat := key 0x58 0x14 0
/-- 58:60.00 (08_halyard_ring, U8 RO). -/
abbrev PAIR_LANE_STATE : Nat := key 0x58 0x60 0
/-- 58:61.01–02 (08_halyard_ring, U32 RO). -/
abbrev PAIR_LANE_ERR_CNT (e : Nat) : Nat := key 0x58 0x61 e
/-- 60:01.00 (09_outlet_vehicle_link, ENUM8 RWA). -/
abbrev OUT_KIND (i : Nat) : Nat := key (0x60 + i) 0x01 0
/-- 60:02.00 (09_outlet_vehicle_link, U8 RWA). -/
abbrev PROTO_EN (i : Nat) : Nat := key (0x60 + i) 0x02 0
/-- 60:03.00 (09_outlet_vehicle_link, ENUM8 RWA). -/
abbrev TLS_POLICY (i : Nat) : Nat := key (0x60 + i) 0x03 0
/-- 60:04.00 (09_outlet_vehicle_link, S32 RWA). -/
abbrev OUT_V_MAX (i : Nat) : Nat := key (0x60 + i) 0x04 0
/-- 60:05.00 (09_outlet_vehicle_link, S32 RWA). -/
abbrev OUT_I_MAX (i : Nat) : Nat := key (0x60 + i) 0x05 0
/-- 60:06.00 (09_outlet_vehicle_link, S32 RWA). -/
abbrev OUT_P_MAX (i : Nat) : Nat := key (0x60 + i) 0x06 0
/-- 60:07.00 (09_outlet_vehicle_link, S32 RW). -/
abbrev OUT_FLOOR (i : Nat) : Nat := key (0x60 + i) 0x07 0
/-- 60:08.00 (09_outlet_vehicle_link, U8 RWA). -/
abbrev CTR_LS_POS (i : Nat) : Nat := key (0x60 + i) 0x08 0
/-- 60:09.00 (09_outlet_vehicle_link, U8 RWA). -/
abbrev CTR_LS_NEG (i : Nat) : Nat := key (0x60 + i) 0x09 0
/-- 60:0A.00 (09_outlet_vehicle_link, U8 RWA). -/
abbrev CFB_POL (i : Nat) : Nat := key (0x60 + i) 0x0A 0
/-- 60:0B.00 (09_outlet_vehicle_link, U32 RW). -/
abbrev CTR_TIMEOUT (i : Nat) : Nat := key (0x60 + i) 0x0B 0
/-- 60:0C.00 (09_outlet_vehicle_link, S32 RW). -/
abbrev OPEN_I (i : Nat) : Nat := key (0x60 + i) 0x0C 0
/-- 60:0D.00 (09_outlet_vehicle_link, U32 RW). -/
abbrev ESTOP_OPEN (i : Nat) : Nat := key (0x60 + i) 0x0D 0
/-- 60:0E.00 (09_outlet_vehicle_link, U16 RW). -/
abbrev ISO_WARN (i : Nat) : Nat := key (0x60 + i) 0x0E 0
/-- 60:0F.00 (09_outlet_vehicle_link, U16 RW). -/
abbrev ISO_FAULT (i : Nat) : Nat := key (0x60 + i) 0x0F 0
/-- 60:10.00 (09_outlet_vehicle_link, U32 RW). -/
abbrev IMD_K (i : Nat) : Nat := key (0x60 + i) 0x10 0
/-- 60:11.00 (09_outlet_vehicle_link, BOOL RW). -/
abbrev IMD_PWM_USE (i : Nat) : Nat := key (0x60 + i) 0x11 0
/-- 60:12.00 (09_outlet_vehicle_link, U32 RW). -/
abbrev IMD_DEBOUNCE (i : Nat) : Nat := key (0x60 + i) 0x12 0
/-- 60:13.00 (09_outlet_vehicle_link, U32 RW). -/
abbrev CHK_TIMEOUT (i : Nat) : Nat := key (0x60 + i) 0x13 0
/-- 60:14.00 (09_outlet_vehicle_link, U32 RW). -/
abbrev PCH_TIMEOUT (i : Nat) : Nat := key (0x60 + i) 0x14 0
/-- 60:15.00 (09_outlet_vehicle_link, S32 RW). -/
abbrev PCH_TOL (i : Nat) : Nat := key (0x60 + i) 0x15 0
/-- 60:16.00 (09_outlet_vehicle_link, U32 RW). -/
abbrev CP_DEBOUNCE (i : Nat) : Nat := key (0x60 + i) 0x16 0
/-- 60:17.01–02 (09_outlet_vehicle_link, S32 RWA). -/
abbrev PP_WIN (i e : Nat) : Nat := key (0x60 + i) 0x17 e
/-- 60:18.00 (09_outlet_vehicle_link, ENUM8 RW). -/
abbrev AUTH (i : Nat) : Nat := key (0x60 + i) 0x18 0
/-- 60:19.00 (09_outlet_vehicle_link, U32 RW). -/
abbrev AUTH_TIMEOUT (i : Nat) : Nat := key (0x60 + i) 0x19 0
/-- 60:1A.00 (09_outlet_vehicle_link, ENUM8 RW). -/
abbrev BPT_DIR (i : Nat) : Nat := key (0x60 + i) 0x1A 0
/-- 60:1B.00 (09_outlet_vehicle_link, U16 RW). -/
abbrev ACCOUNT_SLOT (i : Nat) : Nat := key (0x60 + i) 0x1B 0
/-- 60:1C.01–04 (09_outlet_vehicle_link, U8 RWA). -/
abbrev PLCA_CFG (i e : Nat) : Nat := key (0x60 + i) 0x1C e
/-- 60:1D.00 (09_outlet_vehicle_link, U8 RWA). -/
abbrev SLAC_ATTEN_MAX (i : Nat) : Nat := key (0x60 + i) 0x1D 0
/-- 60:1E.00 (09_outlet_vehicle_link, S32 RW). -/
abbrev V_REF_MIN (i : Nat) : Nat := key (0x60 + i) 0x1E 0
/-- 60:1F.00 (09_outlet_vehicle_link, S32 RWA). -/
abbrev CCP_VSET_FS (i : Nat) : Nat := key (0x60 + i) 0x1F 0
/-- 60:30.01–08 (09_outlet_vehicle_link, BLOB RWA). -/
abbrev V2G_ROOT (i e : Nat) : Nat := key (0x60 + i) 0x30 e
/-- 60:31.01–08 (09_outlet_vehicle_link, BLOB RWA). -/
abbrev MO_ROOT (i e : Nat) : Nat := key (0x60 + i) 0x31 e
/-- 60:32.00 (09_outlet_vehicle_link, BLOB RWA). -/
abbrev SECC_CHAIN (i : Nat) : Nat := key (0x60 + i) 0x32 0
/-- 60:33.00 (09_outlet_vehicle_link, U8 RWA). -/
abbrev SECC_KEY_SLOT (i : Nat) : Nat := key (0x60 + i) 0x33 0
/-- 60:34.00 (09_outlet_vehicle_link, BLOB RW). -/
abbrev OCSP_STAPLE (i : Nat) : Nat := key (0x60 + i) 0x34 0
/-- 60:35.00 (09_outlet_vehicle_link, BLOB RO). -/
abbrev CERT_REQ (i : Nat) : Nat := key (0x60 + i) 0x35 0
/-- 60:36.00 (09_outlet_vehicle_link, BLOB WO). -/
abbrev CERT_RES (i : Nat) : Nat := key (0x60 + i) 0x36 0
/-- 60:40.00 (09_outlet_vehicle_link, ENUM8 RO). -/
abbrev OUT_STATE (i : Nat) : Nat := key (0x60 + i) 0x40 0
/-- 60:41.00 (09_outlet_vehicle_link, ENUM8 RO). -/
abbrev REFUSE_REASON (i : Nat) : Nat := key (0x60 + i) 0x41 0
/-- 60:42.00 (09_outlet_vehicle_link, U32 RO). -/
abbrev SESSION_ID (i : Nat) : Nat := key (0x60 + i) 0x42 0
/-- 60:43.00 (09_outlet_vehicle_link, ENUM8 RO). -/
abbrev PROTOCOL (i : Nat) : Nat := key (0x60 + i) 0x43 0
/-- 60:44.00 (09_outlet_vehicle_link, ENUM8 RO). -/
abbrev PILOT_STATE (i : Nat) : Nat := key (0x60 + i) 0x44 0
/-- 60:45.00 (09_outlet_vehicle_link, S32 RO). -/
abbrev PP_MV (i : Nat) : Nat := key (0x60 + i) 0x45 0
/-- 60:46.00 (09_outlet_vehicle_link, S32 RO). -/
abbrev V_CABLE (i : Nat) : Nat := key (0x60 + i) 0x46 0
/-- 60:47.00 (09_outlet_vehicle_link, S32 RO). -/
abbrev I_OUTLET (i : Nat) : Nat := key (0x60 + i) 0x47 0
/-- 60:48.00 (09_outlet_vehicle_link, S32 RO). -/
abbrev OUT_GRANT (i : Nat) : Nat := key (0x60 + i) 0x48 0
/-- 60:49.00 (09_outlet_vehicle_link, S32 RO). -/
abbrev OFFERED_P (i : Nat) : Nat := key (0x60 + i) 0x49 0
/-- 60:4A.00 (09_outlet_vehicle_link, S32 RO). -/
abbrev OFFERED_I (i : Nat) : Nat := key (0x60 + i) 0x4A 0
/-- 60:4B.00 (09_outlet_vehicle_link, S32 RO). -/
abbrev SESSION_CEIL (i : Nat) : Nat := key (0x60 + i) 0x4B 0
/-- 60:4C.00 (09_outlet_vehicle_link, S32 RO). -/
abbrev SESSION_FLOOR (i : Nat) : Nat := key (0x60 + i) 0x4C 0
/-- 60:4D.00 (09_outlet_vehicle_link, S32 RO). -/
abbrev EV_TARGET_I (i : Nat) : Nat := key (0x60 + i) 0x4D 0
/-- 60:4E.00 (09_outlet_vehicle_link, S32 RO). -/
abbrev EV_TARGET_V (i : Nat) : Nat := key (0x60 + i) 0x4E 0
/-- 60:4F.00 (09_outlet_vehicle_link, U32 RO). -/
abbrev ISO_R (i : Nat) : Nat := key (0x60 + i) 0x4F 0
/-- 60:50.00 (09_outlet_vehicle_link, STR32 RO). -/
abbrev EVCC_ID (i : Nat) : Nat := key (0x60 + i) 0x50 0
/-- 60:51.00 (09_outlet_vehicle_link, STR32 RO). -/
abbrev EMAID (i : Nat) : Nat := key (0x60 + i) 0x51 0
/-- 60:52.00 (09_outlet_vehicle_link, U8 RO). -/
abbrev CTR_STATE (i : Nat) : Nat := key (0x60 + i) 0x52 0
/-- 60:53.00 (09_outlet_vehicle_link, BOOL WO). -/
abbrev OUT_FAULT_CLEAR (i : Nat) : Nat := key (0x60 + i) 0x53 0
/-- 60:54.00 (09_outlet_vehicle_link, U32 RO). -/
abbrev SESSION_CNT (i : Nat) : Nat := key (0x60 + i) 0x54 0
/-- 60:55.00 (09_outlet_vehicle_link, U32 RO). -/
abbrev ESTOP_CNT (i : Nat) : Nat := key (0x60 + i) 0x55 0
/-- 60:56.00 (09_outlet_vehicle_link, U32 RO). -/
abbrev LOAD_OPEN_CNT (i : Nat) : Nat := key (0x60 + i) 0x56 0
/-- 60:57.00 (09_outlet_vehicle_link, U32 RO). -/
abbrev WELD_CNT (i : Nat) : Nat := key (0x60 + i) 0x57 0
/-- 60:58.00 (09_outlet_vehicle_link, U32 RO). -/
abbrev TLS_FAIL_CNT (i : Nat) : Nat := key (0x60 + i) 0x58 0
/-- 60:59.00 (09_outlet_vehicle_link, U32 RO). -/
abbrev SLAC_FAIL_CNT (i : Nat) : Nat := key (0x60 + i) 0x59 0
/-- 64:01.01–07 (10_cable_cooling, ENUM8 RWA). -/
abbrev SENSOR_ASSIGN (i e : Nat) : Nat := key (0x64 + i) 0x01 e
/-- 64:02.00 (10_cable_cooling, U32 RWA). -/
abbrev FLOW_K (i : Nat) : Nat := key (0x64 + i) 0x02 0
/-- 64:03.00 (10_cable_cooling, U32 RWA). -/
abbrev R_CABLE (i : Nat) : Nat := key (0x64 + i) 0x03 0
/-- 64:04.00 (10_cable_cooling, U16 RWA). -/
abbrev ALPHA (i : Nat) : Nat := key (0x64 + i) 0x04 0
/-- 64:05.00 (10_cable_cooling, U32 RWA). -/
abbrev C_COND (i : Nat) : Nat := key (0x64 + i) 0x05 0
/-- 64:06.00 (10_cable_cooling, U32 RWA). -/
abbrev C_COOL (i : Nat) : Nat := key (0x64 + i) 0x06 0
/-- 64:07.00 (10_cable_cooling, U32 RWA). -/
abbrev G_NOM (i : Nat) : Nat := key (0x64 + i) 0x07 0
/-- 64:08.00 (10_cable_cooling, U32 RWA). -/
abbrev G_MIN (i : Nat) : Nat := key (0x64 + i) 0x08 0
/-- 64:09.00 (10_cable_cooling, U32 RWA). -/
abbrev Q_NOM (i : Nat) : Nat := key (0x64 + i) 0x09 0
/-- 64:0A.00 (10_cable_cooling, U16 RWA). -/
abbrev CP_FLOW (i : Nat) : Nat := key (0x64 + i) 0x0A 0
/-- 64:0B.00 (10_cable_cooling, U32 RWA). -/
abbrev R_HS (i : Nat) : Nat := key (0x64 + i) 0x0B 0
/-- 64:0C.00 (10_cable_cooling, Q1.15 RWA). -/
abbrev K_OBS (i : Nat) : Nat := key (0x64 + i) 0x0C 0
/-- 64:0D.00 (10_cable_cooling, S16 RW). -/
abbrev T_TARGET (i : Nat) : Nat := key (0x64 + i) 0x0D 0
/-- 64:0E.00 (10_cable_cooling, U32 RW). -/
abbrev PUMP_KP (i : Nat) : Nat := key (0x64 + i) 0x0E 0
/-- 64:0F.00 (10_cable_cooling, U32 RW). -/
abbrev PUMP_KI (i : Nat) : Nat := key (0x64 + i) 0x0F 0
/-- 64:10.00 (10_cable_cooling, U16 RW). -/
abbrev PUMP_MIN (i : Nat) : Nat := key (0x64 + i) 0x10 0
/-- 64:11.00 (10_cable_cooling, U16 RW). -/
abbrev PUMP_MAX (i : Nat) : Nat := key (0x64 + i) 0x11 0
/-- 64:12.00 (10_cable_cooling, U32 RWA). -/
abbrev PUMP_FREQ (i : Nat) : Nat := key (0x64 + i) 0x12 0
/-- 64:13.00 (10_cable_cooling, ENUM8 RWA). -/
abbrev PUMP_POL (i : Nat) : Nat := key (0x64 + i) 0x13 0
/-- 64:14.00 (10_cable_cooling, U8 RWA). -/
abbrev VALVE_LS (i : Nat) : Nat := key (0x64 + i) 0x14 0
/-- 64:15.01–08 (10_cable_cooling, S16 RWA). -/
abbrev DERATE_T (i e : Nat) : Nat := key (0x64 + i) 0x15 e
/-- 64:16.01–08 (10_cable_cooling, S32 RWA). -/
abbrev DERATE_I (i e : Nat) : Nat := key (0x64 + i) 0x16 e
/-- 64:17.00 (10_cable_cooling, U32 RW). -/
abbrev DERATE_RISE (i : Nat) : Nat := key (0x64 + i) 0x17 0
/-- 64:18.00 (10_cable_cooling, S16 RWA). -/
abbrev PIN_TRIP (i : Nat) : Nat := key (0x64 + i) 0x18 0
/-- 64:19.00 (10_cable_cooling, S16 RWA). -/
abbrev HS_TRIP (i : Nat) : Nat := key (0x64 + i) 0x19 0
/-- 64:1A.00 (10_cable_cooling, S32 RWA). -/
abbrev DEGRADED_I (i : Nat) : Nat := key (0x64 + i) 0x1A 0
/-- 64:1B.00 (10_cable_cooling, S32 RWA). -/
abbrev NOFLOW_I (i : Nat) : Nat := key (0x64 + i) 0x1B 0
/-- 64:1C.00 (10_cable_cooling, S16 RWA). -/
abbrev FALLBACK_T (i : Nat) : Nat := key (0x64 + i) 0x1C 0
/-- 64:1D.00 (10_cable_cooling, U32 RW). -/
abbrev FLOW_LOST_T (i : Nat) : Nat := key (0x64 + i) 0x1D 0
/-- 64:1E.00 (10_cable_cooling, U32 RW). -/
abbrev RUNON_MIN (i : Nat) : Nat := key (0x64 + i) 0x1E 0
/-- 64:1F.00 (10_cable_cooling, U32 RW). -/
abbrev RUNON_MAX (i : Nat) : Nat := key (0x64 + i) 0x1F 0
/-- 64:20.00 (10_cable_cooling, S16 RW). -/
abbrev RUNON_T (i : Nat) : Nat := key (0x64 + i) 0x20 0
/-- 64:40.00 (10_cable_cooling, ENUM8 RO). -/
abbrev COOL_STATE (i : Nat) : Nat := key (0x64 + i) 0x40 0
/-- 64:41.00 (10_cable_cooling, S16 RO). -/
abbrev T_INLET (i : Nat) : Nat := key (0x64 + i) 0x41 0
/-- 64:42.00 (10_cable_cooling, S16 RO). -/
abbrev T_OUTLET (i : Nat) : Nat := key (0x64 + i) 0x42 0
/-- 64:43.01–04 (10_cable_cooling, S16 RO). -/
abbrev T_PIN (i e : Nat) : Nat := key (0x64 + i) 0x43 e
/-- 64:44.00 (10_cable_cooling, U32 RO). -/
abbrev FLOW_MEAS (i : Nat) : Nat := key (0x64 + i) 0x44 0
/-- 64:45.00 (10_cable_cooling, S16 RO). -/
abbrev T_COND (i : Nat) : Nat := key (0x64 + i) 0x45 0
/-- 64:46.00 (10_cable_cooling, S16 RO). -/
abbrev T_COOL (i : Nat) : Nat := key (0x64 + i) 0x46 0
/-- 64:47.00 (10_cable_cooling, S16 RO). -/
abbrev T_HS (i : Nat) : Nat := key (0x64 + i) 0x47 0
/-- 64:48.00 (10_cable_cooling, S16 RO). -/
abbrev T_DERATE (i : Nat) : Nat := key (0x64 + i) 0x48 0
/-- 64:49.00 (10_cable_cooling, U32 RO). -/
abbrev P_LOSS (i : Nat) : Nat := key (0x64 + i) 0x49 0
/-- 64:4A.00 (10_cable_cooling, U16 RO). -/
abbrev PUMP_DUTY (i : Nat) : Nat := key (0x64 + i) 0x4A 0
/-- 64:4B.00 (10_cable_cooling, S32 RO). -/
abbrev CABLE_I_CEIL (i : Nat) : Nat := key (0x64 + i) 0x4B 0
/-- 64:4C.00 (10_cable_cooling, S32 RO). -/
abbrev CABLE_P_CEIL (i : Nat) : Nat := key (0x64 + i) 0x4C 0
/-- 64:4D.00 (10_cable_cooling, U8 RO). -/
abbrev SENSOR_FAULT (i : Nat) : Nat := key (0x64 + i) 0x4D 0
/-- 64:4E.00 (10_cable_cooling, U8 RO). -/
abbrev COOL_ENGINE (i : Nat) : Nat := key (0x64 + i) 0x4E 0
/-- 64:4F.00 (10_cable_cooling, U32 RO). -/
abbrev COOL_TRIP_CNT (i : Nat) : Nat := key (0x64 + i) 0x4F 0
/-- 64:50.00 (10_cable_cooling, U32 RO). -/
abbrev SENSOR_FAULT_CNT (i : Nat) : Nat := key (0x64 + i) 0x50 0
/-- 20:20.00 (10_cable_cooling, U32 RO). -/
abbrev MODEL_STEPS (i : Nat) : Nat := key (0x20 + i) 0x20 0
/-- 20:21.00 (10_cable_cooling, U32 RO). -/
abbrev MODEL_STEP_MAX (i : Nat) : Nat := key (0x20 + i) 0x21 0
/-- 70:10.01–15.01 (11_load_switches, U16 RWA). -/
abbrev INRUSH_MULT (c : Nat) : Nat := key 0x70 (0x10 + c) 1
/-- 70:10.02–15.02 (11_load_switches, U32 RWA). -/
abbrev T_INRUSH (c : Nat) : Nat := key 0x70 (0x10 + c) 2
/-- 70:10.03–15.03 (11_load_switches, U32 RWA). -/
abbrev T_SC_IN (c : Nat) : Nat := key 0x70 (0x10 + c) 3
/-- 70:10.04–15.04 (11_load_switches, U32 RWA). -/
abbrev T_OVL (c : Nat) : Nat := key 0x70 (0x10 + c) 4
/-- 70:10.05–15.05 (11_load_switches, U8 RWA). -/
abbrev RETRY_MAX (c : Nat) : Nat := key 0x70 (0x10 + c) 5
/-- 70:10.06–15.06 (11_load_switches, U32 RWA). -/
abbrev RETRY_DELAY (c : Nat) : Nat := key 0x70 (0x10 + c) 6
/-- 70:01.00 (11_load_switches, S32 RO). -/
abbrev LS_SUPPLY : Nat := key 0x70 0x01 0
/-- 70:02.00 (11_load_switches, S32 RO). -/
abbrev LS_TOTAL_I : Nat := key 0x70 0x02 0
/-- 70:03.00 (11_load_switches, U16 RO). -/
abbrev LS_STATUS : Nat := key 0x70 0x03 0
/-- 70:04.00 (11_load_switches, U32 RWA). -/
abbrev CURTAIL_HOLD : Nat := key 0x70 0x04 0
/-- E2:01.00 (11_load_switches, BOOL RWA). -/
abbrev WD_EN : Nat := key 0xE2 0x01 0
/-- E2:02.00 (11_load_switches, U32 RWA). -/
abbrev HB_BAUD : Nat := key 0xE2 0x02 0
/-- E2:03.00 (11_load_switches, U32 RWA). -/
abbrev HB_MIN : Nat := key 0xE2 0x03 0
/-- E2:04.00 (11_load_switches, U32 RWA). -/
abbrev HB_MAX : Nat := key 0xE2 0x04 0
/-- E2:05.00 (11_load_switches, U8 RWA). -/
abbrev HB_FAULT_MAX : Nat := key 0xE2 0x05 0
/-- E2:06.00 (11_load_switches, U8 RWA). -/
abbrev HB_RESYNC : Nat := key 0xE2 0x06 0
/-- E2:07.00 (11_load_switches, ENUM8 RO). -/
abbrev WD_STATE : Nat := key 0xE2 0x07 0
/-- E2:08.00 (11_load_switches, BOOL WO). -/
abbrev WD_RELEASE : Nat := key 0xE2 0x08 0
/-- E2:09.00 (11_load_switches, U8 RO). -/
abbrev HB_SEQ_LAST : Nat := key 0xE2 0x09 0
/-- E2:0A.00 (11_load_switches, U32 RO). -/
abbrev HB_FAULT_CNT : Nat := key 0xE2 0x0A 0
/-- E2:0B.00 (11_load_switches, U32 RO). -/
abbrev WD_EXPIRE_CNT : Nat := key 0xE2 0x0B 0
/-- E2:10.01–10 (11_load_switches, U8 RWA). -/
abbrev LIMP_MAP (e : Nat) : Nat := key 0xE2 0x10 e
/-- E2:11.00 (11_load_switches, U16 RO). -/
abbrev LIMP_PINS : Nat := key 0xE2 0x11 0
/-- E2:12.00 (11_load_switches, U32 RWA). -/
abbrev LIMP_DEBOUNCE : Nat := key 0xE2 0x12 0
/-- 72:01.00 (11_load_switches, ENUM8 RWA). -/
abbrev LOAD_TYPE (i : Nat) : Nat := key (0x72 + i) 0x01 0
/-- 72:02.00 (11_load_switches, S32 RWA). -/
abbrev I_LIM (i : Nat) : Nat := key (0x72 + i) 0x02 0
/-- 72:03.00 (11_load_switches, ENUM8 RWA). -/
abbrev FAILSAFE (i : Nat) : Nat := key (0x72 + i) 0x03 0
/-- 72:04.00 (11_load_switches, U16 RWA). -/
abbrev HOLD_DUTY (i : Nat) : Nat := key (0x72 + i) 0x04 0
/-- 72:05.00 (11_load_switches, BOOL RW). -/
abbrev LS_ON (i : Nat) : Nat := key (0x72 + i) 0x05 0
/-- 72:06.00 (11_load_switches, BOOL WO). -/
abbrev LS_CLEAR (i : Nat) : Nat := key (0x72 + i) 0x06 0
/-- 72:10.00 (11_load_switches, ENUM8 RO). -/
abbrev LS_STATE (i : Nat) : Nat := key (0x72 + i) 0x10 0
/-- 72:11.00 (11_load_switches, ENUM8 RO). -/
abbrev LS_SOURCE (i : Nat) : Nat := key (0x72 + i) 0x11 0
/-- 72:12.00 (11_load_switches, ENUM8 RO). -/
abbrev LS_OWNER (i : Nat) : Nat := key (0x72 + i) 0x12 0
/-- 72:13.00 (11_load_switches, S32 RO). -/
abbrev I_LS (i : Nat) : Nat := key (0x72 + i) 0x13 0
/-- 72:14.00 (11_load_switches, S16 RO). -/
abbrev T_LS (i : Nat) : Nat := key (0x72 + i) 0x14 0
/-- 72:15.00 (11_load_switches, U16 RO). -/
abbrev LS_FLAGS (i : Nat) : Nat := key (0x72 + i) 0x15 0
/-- 72:16.00 (11_load_switches, ENUM8 RO). -/
abbrev LAST_TRIP (i : Nat) : Nat := key (0x72 + i) 0x16 0
/-- 72:17.00 (11_load_switches, U8 RO). -/
abbrev RETRIES_LEFT (i : Nat) : Nat := key (0x72 + i) 0x17 0
/-- 72:18.00 (11_load_switches, U32 RO). -/
abbrev TRIP_CNT (i : Nat) : Nat := key (0x72 + i) 0x18 0
/-- 72:19.00 (11_load_switches, U32 RO). -/
abbrev RETRY_CNT (i : Nat) : Nat := key (0x72 + i) 0x19 0
/-- 72:1A.00 (11_load_switches, U32 RO). -/
abbrev CURTAIL_CNT (i : Nat) : Nat := key (0x72 + i) 0x1A 0
/-- 72:1B.00 (11_load_switches, U32 RO). -/
abbrev CLAMP_CNT (i : Nat) : Nat := key (0x72 + i) 0x1B 0
/-- 88:01.00 (12_metrology, S32 RWL). -/
abbrev V_FS (i : Nat) : Nat := key (0x88 + i) 0x01 0
/-- 88:02.00 (12_metrology, S32 RWL). -/
abbrev I_FS (i : Nat) : Nat := key (0x88 + i) 0x02 0
/-- 88:03.00 (12_metrology, S32 RWL). -/
abbrev CAL_V_GAIN (i : Nat) : Nat := key (0x88 + i) 0x03 0
/-- 88:04.00 (12_metrology, S32 RWL). -/
abbrev CAL_V_OFFSET (i : Nat) : Nat := key (0x88 + i) 0x04 0
/-- 88:05.00 (12_metrology, S32 RWL). -/
abbrev CAL_I_GAIN (i : Nat) : Nat := key (0x88 + i) 0x05 0
/-- 88:06.00 (12_metrology, S32 RWL). -/
abbrev CAL_I_OFFSET (i : Nat) : Nat := key (0x88 + i) 0x06 0
/-- 88:07.00 (12_metrology, S16 RWL). -/
abbrev CAL_DELAY (i : Nat) : Nat := key (0x88 + i) 0x07 0
/-- 88:08.00 (12_metrology, S32 RWL). -/
abbrev CREEP_I (i : Nat) : Nat := key (0x88 + i) 0x08 0
/-- 88:20.00 (12_metrology, S32 RO). -/
abbrev V_INST (i : Nat) : Nat := key (0x88 + i) 0x20 0
/-- 88:21.00 (12_metrology, S32 RO). -/
abbrev I_INST (i : Nat) : Nat := key (0x88 + i) 0x21 0
/-- 88:22.00 (12_metrology, S32 RO). -/
abbrev P_INST (i : Nat) : Nat := key (0x88 + i) 0x22 0
/-- 88:23.00 (12_metrology, U64 RO). -/
abbrev E_IMPORT (i : Nat) : Nat := key (0x88 + i) 0x23 0
/-- 88:24.00 (12_metrology, U64 RO). -/
abbrev E_EXPORT (i : Nat) : Nat := key (0x88 + i) 0x24 0
/-- 88:25.00 (12_metrology, U32 RO). -/
abbrev MISSING_MS (i : Nat) : Nat := key (0x88 + i) 0x25 0
/-- 88:26.00 (12_metrology, U32 RO). -/
abbrev OVR_MS (i : Nat) : Nat := key (0x88 + i) 0x26 0
/-- 88:27.00 (12_metrology, U8 RO). -/
abbrev MC_STATUS (i : Nat) : Nat := key (0x88 + i) 0x27 0
/-- 8C:01.00 (12_metrology, ENUM8 RO). -/
abbrev SEAL_STATE : Nat := key 0x8C 0x01 0
/-- 8C:02.00 (12_metrology, U32 RO). -/
abbrev SEAL_OPEN_CNT : Nat := key 0x8C 0x02 0
/-- 8C:03.00 (12_metrology, LTIME RO). -/
abbrev SEAL_LAST_CHANGE : Nat := key 0x8C 0x03 0
/-- 8C:04.00 (12_metrology, BLOB RO). -/
abbrev CAL_HASH : Nat := key 0x8C 0x04 0
/-- 8C:05.00 (12_metrology, BLOB RO). -/
abbrev CAL_HOLD_HASH : Nat := key 0x8C 0x05 0
/-- 8C:06.00 (12_metrology, U32 RO). -/
abbrev LEGAL_FW_VERSION : Nat := key 0x8C 0x06 0
/-- 8C:07.00 (12_metrology, BLOB RO). -/
abbrev LEGAL_FW_HASH : Nat := key 0x8C 0x07 0
/-- 8C:08.00 (12_metrology, U32 RWL). -/
abbrev PAIR_TOL_PPM : Nat := key 0x8C 0x08 0
/-- 8C:09.00 (12_metrology, U32 RO). -/
abbrev PAIR_DIFF_CNT : Nat := key 0x8C 0x09 0
/-- 04:01.00 (13_billing_and_tariffs, LTIME RO). -/
abbrev LTIME_NOW : Nat := key 0x04 0x01 0
/-- 04:02.00 (13_billing_and_tariffs, CTIME RO). -/
abbrev CTIME_NOW : Nat := key 0x04 0x02 0
/-- 04:03.00 (13_billing_and_tariffs, S64 RO). -/
abbrev CIVIL_OFFSET : Nat := key 0x04 0x03 0
/-- 04:04.00 (13_billing_and_tariffs, CTIME RO). -/
abbrev ECT_NOW : Nat := key 0x04 0x04 0
/-- 04:05.00 (13_billing_and_tariffs, S64 RW). -/
abbrev CIVIL_SHIFT : Nat := key 0x04 0x05 0
/-- 04:06.00 (13_billing_and_tariffs, U32 RWA). -/
abbrev TIME_ALLOW : Nat := key 0x04 0x06 0
/-- 04:07.00 (13_billing_and_tariffs, U32 RO). -/
abbrev ALLOW_NOW : Nat := key 0x04 0x07 0
/-- 04:08.00 (13_billing_and_tariffs, U32 RO). -/
abbrev TIME_TAMPER_CNT : Nat := key 0x04 0x08 0
/-- 04:09.00 (13_billing_and_tariffs, U8 RO). -/
abbrev TIME_FLAGS : Nat := key 0x04 0x09 0
/-- 04:0A.00 (13_billing_and_tariffs, LTIME RO). -/
abbrev LAST_TIME_SET : Nat := key 0x04 0x0A 0
/-- 90:01.01–04 (13_billing_and_tariffs, U16 RW). -/
abbrev SEASON_START (e : Nat) : Nat := key 0x90 0x01 e
/-- 90:02.01–04 (13_billing_and_tariffs, U32 RW). -/
abbrev WEEK_MAP (e : Nat) : Nat := key 0x90 0x02 e
/-- 90:10.01–10 to 90:17.01–10 (13_billing_and_tariffs, U16 RW). -/
abbrev POINT (c e : Nat) : Nat := key 0x90 (0x10 + c) e
/-- 90:20.01–40 (13_billing_and_tariffs, U32 RW). -/
abbrev SPECIAL (e : Nat) : Nat := key 0x90 0x20 e
/-- 90:30.00 (13_billing_and_tariffs, U8 RO). -/
abbrev TARIFF_NOW : Nat := key 0x90 0x30 0
/-- 90:31.00 (13_billing_and_tariffs, U8 RO). -/
abbrev SEASON_NOW : Nat := key 0x90 0x31 0
/-- 90:32.00 (13_billing_and_tariffs, U8 RO). -/
abbrev DAYTYPE_NOW : Nat := key 0x90 0x32 0
/-- 90:33.00 (13_billing_and_tariffs, CTIME RO). -/
abbrev NEXT_BOUNDARY : Nat := key 0x90 0x33 0
/-- 90:34.00 (13_billing_and_tariffs, CTIME RO). -/
abbrev LAST_BOUNDARY : Nat := key 0x90 0x34 0
/-- 91:10.01–08 to 91:13.01–08 (13_billing_and_tariffs, U64 RO). -/
abbrev REG_IMPORT (c e : Nat) : Nat := key 0x91 (0x10 + c) e
/-- 91:18.01–08 to 91:1B.01–08 (13_billing_and_tariffs, U64 RO). -/
abbrev REG_EXPORT (c e : Nat) : Nat := key 0x91 (0x18 + c) e
/-- 91:20.01–23.01 (13_billing_and_tariffs, U64 RO). -/
abbrev SESS_IMPORT (c : Nat) : Nat := key 0x91 (0x20 + c) 1
/-- 91:20.02–23.02 (13_billing_and_tariffs, U64 RO). -/
abbrev SESS_EXPORT (c : Nat) : Nat := key 0x91 (0x20 + c) 2
/-- 91:20.03–23.03 (13_billing_and_tariffs, LTIME RO). -/
abbrev SESS_START (c : Nat) : Nat := key 0x91 (0x20 + c) 3
/-- 91:20.04–23.04 (13_billing_and_tariffs, S48 RO). -/
abbrev SESS_COST (c : Nat) : Nat := key 0x91 (0x20 + c) 4
/-- 91:30.00 (13_billing_and_tariffs, U32 RO). -/
abbrev REG_COMMIT_SEQ : Nat := key 0x91 0x30 0
/-- 91:31.00 (13_billing_and_tariffs, LTIME RO). -/
abbrev REG_COMMIT_AT : Nat := key 0x91 0x31 0
/-- 92:01.00 (13_billing_and_tariffs, ENUM8 RW). -/
abbrev DEMAND_LEN : Nat := key 0x92 0x01 0
/-- 92:02.00 (13_billing_and_tariffs, BOOL WO). -/
abbrev DMD_RESET : Nat := key 0x92 0x02 0
/-- 92:03.00 (13_billing_and_tariffs, U32 RO). -/
abbrev DMD_RESET_CNT : Nat := key 0x92 0x03 0
/-- 92:10.01–08 to 92:13.01–08 (13_billing_and_tariffs, U32 RO). -/
abbrev DMD_MAX (c e : Nat) : Nat := key 0x92 (0x10 + c) e
/-- 92:18.01–08 to 92:1B.01–08 (13_billing_and_tariffs, LTIME RO). -/
abbrev DMD_MAX_AT (c e : Nat) : Nat := key 0x92 (0x18 + c) e
/-- 92:20.01–23.01 (13_billing_and_tariffs, LTIME RO). -/
abbrev INT_START (c : Nat) : Nat := key 0x92 (0x20 + c) 1
/-- 92:20.02–23.02 (13_billing_and_tariffs, U64 RO). -/
abbrev INT_IMPORT (c : Nat) : Nat := key 0x92 (0x20 + c) 2
/-- 92:20.03–23.03 (13_billing_and_tariffs, U32 RO). -/
abbrev INT_COVERED (c : Nat) : Nat := key 0x92 (0x20 + c) 3
/-- 92:20.04–23.04 (13_billing_and_tariffs, U32 RO). -/
abbrev DMD_LAST (c : Nat) : Nat := key 0x92 (0x20 + c) 4
/-- 92:20.05–23.05 (13_billing_and_tariffs, U8 RO). -/
abbrev DMD_LAST_FLAGS (c : Nat) : Nat := key 0x92 (0x20 + c) 5
/-- 93:01.00 (13_billing_and_tariffs, U8 RW). -/
abbrev ACCT_SEL : Nat := key 0x93 0x01 0
/-- 93:02.00 (13_billing_and_tariffs, U32 RW). -/
abbrev ACCT_ID : Nat := key 0x93 0x02 0
/-- 93:03.00 (13_billing_and_tariffs, S48 RO). -/
abbrev ACCT_CREDIT : Nat := key 0x93 0x03 0
/-- 93:04.00 (13_billing_and_tariffs, S48 RW). -/
abbrev ACCT_EC_AMOUNT : Nat := key 0x93 0x04 0
/-- 93:05.00 (13_billing_and_tariffs, S48 RO). -/
abbrev ACCT_EC_OUT : Nat := key 0x93 0x05 0
/-- 93:06.00 (13_billing_and_tariffs, U8 RO). -/
abbrev ACCT_STATE : Nat := key 0x93 0x06 0
/-- 93:07.00 (13_billing_and_tariffs, U16 RO). -/
abbrev ACCT_LAST_REF : Nat := key 0x93 0x07 0
/-- 93:08.00 (13_billing_and_tariffs, S48 RW). -/
abbrev TOPUP_AMOUNT : Nat := key 0x93 0x08 0
/-- 93:10.01–08 (13_billing_and_tariffs, U32 RW). -/
abbrev PRICE (e : Nat) : Nat := key 0x93 0x10 e
/-- 93:20.01–07 (13_billing_and_tariffs, U32 RW). -/
abbrev FRIENDLY_WEEK (e : Nat) : Nat := key 0x93 0x20 e
/-- 93:21.00 (13_billing_and_tariffs, U64 RW). -/
abbrev FRIENDLY_SPECIAL : Nat := key 0x93 0x21 0
/-- 93:22.00 (13_billing_and_tariffs, U32 RO). -/
abbrev CREDIT_STOP_CNT : Nat := key 0x93 0x22 0
/-- 94:01.00 (13_billing_and_tariffs, U32 RO). -/
abbrev LOG_LAST_SEQ : Nat := key 0x94 0x01 0
/-- 94:02.00 (13_billing_and_tariffs, U32 RW). -/
abbrev LOG_ACK_SEQ : Nat := key 0x94 0x02 0
/-- 94:03.00 (13_billing_and_tariffs, U32 RO). -/
abbrev LOG_FREE : Nat := key 0x94 0x03 0
/-- 94:04.00 (13_billing_and_tariffs, ENUM8 RO). -/
abbrev LOG_STATE : Nat := key 0x94 0x04 0
/-- 94:05.00 (13_billing_and_tariffs, U16 RWA). -/
abbrev LOG_RESERVE : Nat := key 0x94 0x05 0
/-- 94:06.00 (13_billing_and_tariffs, U32 RW). -/
abbrev LOG_READ_SEQ : Nat := key 0x94 0x06 0
/-- 94:07.00 (13_billing_and_tariffs, BLOB RO). -/
abbrev LOG_RECORD : Nat := key 0x94 0x07 0
/-- 94:08.00 (13_billing_and_tariffs, U32 RO). -/
abbrev LOG_BLOCKED_CNT : Nat := key 0x94 0x08 0
/-- 94:09.00 (13_billing_and_tariffs, U32 RO). -/
abbrev LOG_COALESCED_CNT : Nat := key 0x94 0x09 0
/-- A0:01.00 (14_keys_and_trust, ENUM8 RO). -/
abbrev TRUST_STATE : Nat := key 0xA0 0x01 0
/-- A0:02.00 (14_keys_and_trust, U8 RW). -/
abbrev KEY_SEL : Nat := key 0xA0 0x02 0
/-- A0:03.00 (14_keys_and_trust, U64 RO). -/
abbrev KEY_INFO : Nat := key 0xA0 0x03 0
/-- A0:04.00 (14_keys_and_trust, BLOB RO). -/
abbrev KEY_PUB : Nat := key 0xA0 0x04 0
/-- A0:05.00 (14_keys_and_trust, BLOB RWA). -/
abbrev KEY_CREATE : Nat := key 0xA0 0x05 0
/-- A0:06.00 (14_keys_and_trust, ENUM8 RO). -/
abbrev KEY_CREATE_ERR : Nat := key 0xA0 0x06 0
/-- A0:07.00 (14_keys_and_trust, U16 RO). -/
abbrev SLOTS_USED : Nat := key 0xA0 0x07 0
/-- A0:08.00 (14_keys_and_trust, U32 RWA). -/
abbrev REMASK_PERIOD : Nat := key 0xA0 0x08 0
/-- A0:09.00 (14_keys_and_trust, U32 RO). -/
abbrev REMASK_LATE_CNT : Nat := key 0xA0 0x09 0
/-- A0:0A.00 (14_keys_and_trust, U32 RO). -/
abbrev KEY_MISUSE_CNT : Nat := key 0xA0 0x0A 0
/-- A0:0B.00 (14_keys_and_trust, U32 RO). -/
abbrev IMPORT_FAIL_CNT : Nat := key 0xA0 0x0B 0
/-- A0:0C.00 (14_keys_and_trust, U16 RO). -/
abbrev ERASE_PENDING : Nat := key 0xA0 0x0C 0
/-- A0:10.00 (14_keys_and_trust, BLOB RO). -/
abbrev IMPORT_CERT : Nat := key 0xA0 0x10 0
/-- A0:11.00 (14_keys_and_trust, BLOB RO). -/
abbrev LEGAL_CERT : Nat := key 0xA0 0x11 0
/-- A0:18.00 (14_keys_and_trust, BLOB RWA). -/
abbrev CSR_SUBJECT : Nat := key 0xA0 0x18 0
/-- A0:19.00 (14_keys_and_trust, BLOB RO). -/
abbrev CSR_OUT : Nat := key 0xA0 0x19 0
/-- A0:20.00 (14_keys_and_trust, U8 RWA). -/
abbrev RING_KEY_SLOT : Nat := key 0xA0 0x20 0
/-- A0:21.00 (14_keys_and_trust, U8 RWA). -/
abbrev RING_KEY_NEXT : Nat := key 0xA0 0x21 0
/-- A0:22.00 (14_keys_and_trust, U32 RWA). -/
abbrev RING_KEY_SWITCH : Nat := key 0xA0 0x22 0
/-- A0:23.00 (14_keys_and_trust, ENUM8 RO). -/
abbrev RING_KEY_STATE : Nat := key 0xA0 0x23 0
/-- A0:24.00 (14_keys_and_trust, U64 RO). -/
abbrev RING_KEY_AGE : Nat := key 0xA0 0x24 0
/-- A0:25.00 (14_keys_and_trust, U64 RO). -/
abbrev RING_KEY_HIGH : Nat := key 0xA0 0x25 0
/-- A0:26.00 (14_keys_and_trust, U32 RO). -/
abbrev RING_GUARD_CNT : Nat := key 0xA0 0x26 0
/-- A0:27.00 (14_keys_and_trust, U8 RWA). -/
abbrev UPDATE_GATE_SLOT : Nat := key 0xA0 0x27 0
/-- A1:01.00 (14_keys_and_trust, ENUM8 RO). -/
abbrev BOOT_STATE : Nat := key 0xA1 0x01 0
/-- A1:02.01–03 (14_keys_and_trust, U32 RO). -/
abbrev IMG_VERSION (e : Nat) : Nat := key 0xA1 0x02 e
/-- A1:03.01–03 (14_keys_and_trust, U8 RO). -/
abbrev IMG_SVN (e : Nat) : Nat := key 0xA1 0x03 e
/-- A1:04.01–03 (14_keys_and_trust, BLOB RO). -/
abbrev IMG_HASH (e : Nat) : Nat := key 0xA1 0x04 e
/-- A1:05.01–03 (14_keys_and_trust, U8 RO). -/
abbrev SVN_FLOOR (e : Nat) : Nat := key 0xA1 0x05 e
/-- A1:06.00 (14_keys_and_trust, U16 WO). -/
abbrev SVN_ADVANCE : Nat := key 0xA1 0x06 0
/-- A1:07.00 (14_keys_and_trust, U8 RO). -/
abbrev KEY_REVOKED : Nat := key 0xA1 0x07 0
/-- A1:08.01–06 (14_keys_and_trust, ENUM8 RO). -/
abbrev IMG_VERIFY (e : Nat) : Nat := key 0xA1 0x08 e
/-- A1:09.00 (14_keys_and_trust, U32 RO). -/
abbrev BOOT_FAIL_CNT : Nat := key 0xA1 0x09 0
/-- B0:01.00 (15_events_and_logs, ENUM8 RWA). -/
abbrev EQ_MODE : Nat := key 0xB0 0x01 0
/-- B0:02.00 (15_events_and_logs, U16 RWA). -/
abbrev EQ_CAPACITY : Nat := key 0xB0 0x02 0
/-- B0:03.00 (15_events_and_logs, U16 RWA). -/
abbrev PEN_QUOTA : Nat := key 0xB0 0x03 0
/-- B0:04.00 (15_events_and_logs, U16 RW). -/
abbrev EQ_THRESH : Nat := key 0xB0 0x04 0
/-- B0:05.00 (15_events_and_logs, U16 RW). -/
abbrev EQ_CONSUMER : Nat := key 0xB0 0x05 0
/-- B0:06.00 (15_events_and_logs, U64 RO). -/
abbrev EQ_WORD : Nat := key 0xB0 0x06 0
/-- B0:07.00 (15_events_and_logs, BLOB RO). -/
abbrev EQ_PACKET : Nat := key 0xB0 0x07 0
/-- B0:08.00 (15_events_and_logs, U16 RO). -/
abbrev EQ_STATUS : Nat := key 0xB0 0x08 0
/-- B0:09.00 (15_events_and_logs, U16 WO). -/
abbrev EQ_CLEAR : Nat := key 0xB0 0x09 0
/-- B0:0A.00 (15_events_and_logs, U16 RO). -/
abbrev EQ_LEVEL : Nat := key 0xB0 0x0A 0
/-- B0:0B.00 (15_events_and_logs, U16 RO). -/
abbrev EQ_PACKETS : Nat := key 0xB0 0x0B 0
/-- B0:0C.00 (15_events_and_logs, U8 RO). -/
abbrev EQ_WORDS_LEFT : Nat := key 0xB0 0x0C 0
/-- B0:0D.00 (15_events_and_logs, U32 RO). -/
abbrev PEN_SEQ_LAST : Nat := key 0xB0 0x0D 0
/-- B0:0E.00 (15_events_and_logs, U32 RO). -/
abbrev STR_SEQ_LAST : Nat := key 0xB0 0x0E 0
/-- B0:0F.00 (15_events_and_logs, U16 RO). -/
abbrev EQ_LEVEL_MAX : Nat := key 0xB0 0x0F 0
/-- B0:10.00 (15_events_and_logs, U32 RO). -/
abbrev EQ_UNDERRUN_CNT : Nat := key 0xB0 0x10 0
/-- B0:11.00 (15_events_and_logs, U32 RO). -/
abbrev STR_LOST_CNT : Nat := key 0xB0 0x11 0
/-- B0:12.00 (15_events_and_logs, U32 RO). -/
abbrev STR_LOST_WORDS : Nat := key 0xB0 0x12 0
/-- B0:13.00 (15_events_and_logs, U32 RO). -/
abbrev PEN_DEFERRED_CNT : Nat := key 0xB0 0x13 0
/-- B0:14.00 (15_events_and_logs, U32 RO). -/
abbrev PEN_COALESCED_CNT : Nat := key 0xB0 0x14 0
/-- B0:15.00 (15_events_and_logs, U32 RO). -/
abbrev GAP_CNT : Nat := key 0xB0 0x15 0
/-- B0:16.00 (15_events_and_logs, U32 RO). -/
abbrev EQ_FLUSH_WORDS : Nat := key 0xB0 0x16 0
/-- B0:17.00 (15_events_and_logs, U32 RO). -/
abbrev EQ_MALFORMED_CNT : Nat := key 0xB0 0x17 0
/-- B0:20.00 (15_events_and_logs, U32 RO). -/
abbrev ARCH_LAST : Nat := key 0xB0 0x20 0
/-- B0:21.00 (15_events_and_logs, U32 RW). -/
abbrev ARCH_SEL : Nat := key 0xB0 0x21 0
/-- B0:22.00 (15_events_and_logs, BLOB RO). -/
abbrev ARCH_RECORD : Nat := key 0xB0 0x22 0
/-- B0:23.00 (15_events_and_logs, U32 RO). -/
abbrev ARCH_SKIP_CNT : Nat := key 0xB0 0x23 0
/-- B1:01.00 (15_events_and_logs, U16 RWA). -/
abbrev ALARM_NODE : Nat := key 0xB1 0x01 0
/-- B1:02.00 (15_events_and_logs, U32 RWA). -/
abbrev RING_PEN_RATE : Nat := key 0xB1 0x02 0
/-- B1:03.00 (15_events_and_logs, U8 RWA). -/
abbrev RING_PEN_BURST : Nat := key 0xB1 0x03 0
/-- B1:04.00 (15_events_and_logs, U32 RWA). -/
abbrev RING_PEN_GATHER : Nat := key 0xB1 0x04 0
/-- B1:05.00 (15_events_and_logs, U32 RW). -/
abbrev COAL_WINDOW : Nat := key 0xB1 0x05 0
/-- B1:06.00 (15_events_and_logs, U8 RWA). -/
abbrev ARCHIVE_LEVEL : Nat := key 0xB1 0x06 0
/-- B1:10.01–20 (15_events_and_logs, U64 RW). -/
abbrev ALARM_RULE (e : Nat) : Nat := key 0xB1 0x10 e
/-- B1:20.00 (15_events_and_logs, U16 RO). -/
abbrev EV_CAT_COUNT : Nat := key 0xB1 0x20 0
/-- B1:21.00 (15_events_and_logs, U16 RW). -/
abbrev EV_CAT_SEL : Nat := key 0xB1 0x21 0
/-- B1:22.00 (15_events_and_logs, U64 RO). -/
abbrev EV_CAT_ENTRY : Nat := key 0xB1 0x22 0
/-- B1:30.00 (15_events_and_logs, U16 RO). -/
abbrev OUTBOX_LEVEL : Nat := key 0xB1 0x30 0
/-- B1:31.00 (15_events_and_logs, U8 RO). -/
abbrev RING_TOKENS : Nat := key 0xB1 0x31 0
/-- B1:32.00 (15_events_and_logs, U32 RO). -/
abbrev RING_PEN_SENT_CNT : Nat := key 0xB1 0x32 0
/-- B1:33.00 (15_events_and_logs, U32 RO). -/
abbrev RING_PEN_RX_CNT : Nat := key 0xB1 0x33 0
/-- B1:34.00 (15_events_and_logs, U32 RO). -/
abbrev PEN_NO_DEST_CNT : Nat := key 0xB1 0x34 0
/-- B1:35.00 (15_events_and_logs, U32 RO). -/
abbrev PEN_SUPPRESSED_CNT : Nat := key 0xB1 0x35 0
/-- B2:01.00 (15_events_and_logs, U8 RW). -/
abbrev TRACE_EN : Nat := key 0xB2 0x01 0
/-- B2:02.00 (15_events_and_logs, U32 RW). -/
abbrev TRACE_LEGS : Nat := key 0xB2 0x02 0
/-- B2:03.00 (15_events_and_logs, U16 RW). -/
abbrev TRACE_DECIM : Nat := key 0xB2 0x03 0
/-- B2:04.00 (15_events_and_logs, U8 RW). -/
abbrev TRACE_OUTLETS : Nat := key 0xB2 0x04 0
/-- B2:05.00 (15_events_and_logs, U16 RW). -/
abbrev TRACE_LS : Nat := key 0xB2 0x05 0
/-- B2:06.00 (15_events_and_logs, ENUM8 RW). -/
abbrev TRACE_DEST : Nat := key 0xB2 0x06 0
/-- B2:07.00 (15_events_and_logs, U16 RW). -/
abbrev TRACE_NODE : Nat := key 0xB2 0x07 0
/-- B2:08.00 (15_events_and_logs, U32 RO). -/
abbrev TRACE_OUTBOX_LEVEL : Nat := key 0xB2 0x08 0
/-- 59:01.00 (16_redundancy, BOOL RWA). -/
abbrev PAIR_EN : Nat := key 0x59 0x01 0
/-- 59:02.00 (16_redundancy, U32 RWA). -/
abbrev LEASE_PERIOD : Nat := key 0x59 0x02 0
/-- 59:03.00 (16_redundancy, U8 RWA). -/
abbrev PAIR_RANK : Nat := key 0x59 0x03 0
/-- 59:04.00 (16_redundancy, U16 RWA). -/
abbrev UNIT_ADDR : Nat := key 0x59 0x04 0
/-- 59:10.00 (16_redundancy, ENUM8 RO). -/
abbrev BURGEE_STATE : Nat := key 0x59 0x10 0
/-- 59:11.00 (16_redundancy, U32 RO). -/
abbrev LEASE_LEFT : Nat := key 0x59 0x11 0
/-- 59:12.00 (16_redundancy, U32 RO). -/
abbrev PEER_SERIAL : Nat := key 0x59 0x12 0
/-- 59:13.00 (16_redundancy, U8 RO). -/
abbrev PEER_MODE : Nat := key 0x59 0x13 0
/-- 59:14.00 (16_redundancy, U8 RO). -/
abbrev PEER_FLAGS : Nat := key 0x59 0x14 0
/-- 59:15.00 (16_redundancy, U32 RO). -/
abbrev TOKEN_AGE : Nat := key 0x59 0x15 0
/-- 59:16.01–05 (16_redundancy, U32 RO). -/
abbrev MIRROR_AGE (e : Nat) : Nat := key 0x59 0x16 e
/-- 59:17.00 (16_redundancy, U8 RO). -/
abbrev OE_STATE : Nat := key 0x59 0x17 0
/-- 59:18.00 (16_redundancy, U32 RO). -/
abbrev TAKEOVER_CNT : Nat := key 0x59 0x18 0
/-- 59:19.00 (16_redundancy, U32 RO). -/
abbrev LAPSE_CNT : Nat := key 0x59 0x19 0
/-- 59:1A.00 (16_redundancy, U32 RO). -/
abbrev SPLIT_CNT : Nat := key 0x59 0x1A 0
/-- 59:1B.00 (16_redundancy, LTIME RO). -/
abbrev LAST_TAKEOVER : Nat := key 0x59 0x1B 0
/-- 59:1C.00 (16_redundancy, U32 RO). -/
abbrev LAST_TAKE_GAP : Nat := key 0x59 0x1C 0
/-- C0:01.00 (17_voner_line, BOOL RWA). -/
abbrev VON_EN : Nat := key 0xC0 0x01 0
/-- C0:02.00 (17_voner_line, ENUM8 RWA). -/
abbrev VON_COUPLING : Nat := key 0xC0 0x02 0
/-- C0:03.00 (17_voner_line, U8 RWA). -/
abbrev VON_TX_LEVEL : Nat := key 0xC0 0x03 0
/-- C0:04.00 (17_voner_line, U16 RW). -/
abbrev VON_BLANK_LVL : Nat := key 0xC0 0x04 0
/-- C0:05.00 (17_voner_line, U16 RW). -/
abbrev VON_BLANK_EXT : Nat := key 0xC0 0x05 0
/-- C0:06.00 (17_voner_line, U16 RW). -/
abbrev VON_DAMAGE_FRAC : Nat := key 0xC0 0x06 0
/-- C0:07.00 (17_voner_line, U8 RW). -/
abbrev VON_REPOLL_MAX : Nat := key 0xC0 0x07 0
/-- C0:08.00 (17_voner_line, U8 RW). -/
abbrev VON_LOST_N : Nat := key 0xC0 0x08 0
/-- C0:09.00 (17_voner_line, U32 RW). -/
abbrev VON_LOST_INT : Nat := key 0xC0 0x09 0
/-- C0:0A.00 (17_voner_line, U8 RW). -/
abbrev VON_TX_TRIES : Nat := key 0xC0 0x0A 0
/-- C0:0B.00 (17_voner_line, BLOB RW). -/
abbrev VON_BEACON_DATA : Nat := key 0xC0 0x0B 0
/-- C0:10.01–F0 (17_voner_line, U32 RWA). -/
abbrev VON_SLAVE (e : Nat) : Nat := key 0xC0 0x10 e
/-- C0:20.00 (17_voner_line, U8 RW). -/
abbrev VON_SEL : Nat := key 0xC0 0x20 0
/-- C0:21.00 (17_voner_line, BLOB RW). -/
abbrev VON_TX_BOX : Nat := key 0xC0 0x21 0
/-- C0:22.00 (17_voner_line, ENUM8 RO). -/
abbrev VON_TX_STATE : Nat := key 0xC0 0x22 0
/-- C0:23.00 (17_voner_line, BLOB RO). -/
abbrev VON_RX_BOX : Nat := key 0xC0 0x23 0
/-- C0:24.00 (17_voner_line, LTIME RO). -/
abbrev VON_RX_AT : Nat := key 0xC0 0x24 0
/-- C0:25.00 (17_voner_line, ENUM8 RO). -/
abbrev VON_SLAVE_STATE : Nat := key 0xC0 0x25 0
/-- C0:26.01–05 (17_voner_line, U32 RO). -/
abbrev VON_SLAVE_CNT (e : Nat) : Nat := key 0xC0 0x26 e
/-- C0:30.00 (17_voner_line, ENUM8 RO). -/
abbrev VON_STATE : Nat := key 0xC0 0x30 0
/-- C0:31.00 (17_voner_line, U32 RO). -/
abbrev VON_SLOT : Nat := key 0xC0 0x31 0
/-- C0:32.01–03 (17_voner_line, U16 RO). -/
abbrev VON_BLANK_LAST (e : Nat) : Nat := key 0xC0 0x32 e
/-- C0:33.01–03 (17_voner_line, U16 RO). -/
abbrev VON_BLANK_MAX (e : Nat) : Nat := key 0xC0 0x33 e
/-- C0:34.01–03 (17_voner_line, U16 RO). -/
abbrev VON_SNR (e : Nat) : Nat := key 0xC0 0x34 e
/-- C0:35.00 (17_voner_line, U32 RO). -/
abbrev VON_TX_FRAMES : Nat := key 0xC0 0x35 0
/-- C0:36.00 (17_voner_line, U32 RO). -/
abbrev VON_FOREIGN_CNT : Nat := key 0xC0 0x36 0
/-- D0:01.00 (18_service_update_test, U64 RW). -/
abbrev BIST_TARGET : Nat := key 0xD0 0x01 0
/-- D0:02.00 (18_service_update_test, ENUM8 RO). -/
abbrev BIST_STATE : Nat := key 0xD0 0x02 0
/-- D0:03.00 (18_service_update_test, U32 RO). -/
abbrev BIST_SIG : Nat := key 0xD0 0x03 0
/-- D0:04.00 (18_service_update_test, U32 RO). -/
abbrev BIST_EXPECT : Nat := key 0xD0 0x04 0
/-- D0:05.00 (18_service_update_test, U8 RO). -/
abbrev BIST_CHILD_COUNT : Nat := key 0xD0 0x05 0
/-- D0:06.01–48 (18_service_update_test, U32 RO). -/
abbrev BIST_CHILD_SIG (e : Nat) : Nat := key 0xD0 0x06 e
/-- D0:07.01–48 (18_service_update_test, U32 RO). -/
abbrev BIST_CHILD_EXP (e : Nat) : Nat := key 0xD0 0x07 e
/-- D0:08.00 (18_service_update_test, U64 RO). -/
abbrev BIST_FIRST_FAIL : Nat := key 0xD0 0x08 0
/-- D0:09.00 (18_service_update_test, U32 RO). -/
abbrev BIST_FAIL_COUNT : Nat := key 0xD0 0x09 0
/-- D0:0A.00 (18_service_update_test, ENUM8 RO). -/
abbrev BIST_ORIGIN : Nat := key 0xD0 0x0A 0
/-- D0:10.00 (18_service_update_test, U32 RO). -/
abbrev SVC_FRAME_ERR_CNT : Nat := key 0xD0 0x10 0
/-- D0:11.00 (18_service_update_test, U32 RO). -/
abbrev SVC_CRC_ERR_CNT : Nat := key 0xD0 0x11 0
/-- D0:12.00 (18_service_update_test, U32 RO). -/
abbrev SVC_ABORT_CNT : Nat := key 0xD0 0x12 0
/-- D0:18.00 (18_service_update_test, U8 RO). -/
abbrev JTAG_STATE : Nat := key 0xD0 0x18 0
/-- D0:19.00 (18_service_update_test, U32 RO). -/
abbrev JTAG_ENTRY_CNT : Nat := key 0xD0 0x19 0
/-- D1:01.01–03 (18_service_update_test, ENUM8 RO). -/
abbrev BOOT_SLOT (e : Nat) : Nat := key 0xD1 0x01 e
/-- D1:02.01–03 (18_service_update_test, ENUM8 RO). -/
abbrev RUN_SLOT (e : Nat) : Nat := key 0xD1 0x02 e
/-- D1:03.01–03 (18_service_update_test, BOOL RO). -/
abbrev SLOT_TRIAL (e : Nat) : Nat := key 0xD1 0x03 e
/-- D1:04.00 (18_service_update_test, U8 WO). -/
abbrev SLOT_CONFIRM : Nat := key 0xD1 0x04 0
/-- D1:05.00 (18_service_update_test, U8 RO). -/
abbrev TRIAL_RESETS : Nat := key 0xD1 0x05 0
/-- D1:10.00 (18_service_update_test, U8 RW). -/
abbrev UPD_TARGET : Nat := key 0xD1 0x10 0
/-- D1:11.00 (18_service_update_test, ENUM8 WO). -/
abbrev UPD_CONTROL : Nat := key 0xD1 0x11 0
/-- D1:12.00 (18_service_update_test, U32 RW). -/
abbrev UPD_OFFSET : Nat := key 0xD1 0x12 0
/-- D1:13.00 (18_service_update_test, BLOB WO). -/
abbrev UPD_CHUNK : Nat := key 0xD1 0x13 0
/-- D1:14.00 (18_service_update_test, ENUM8 RO). -/
abbrev UPD_STATE : Nat := key 0xD1 0x14 0
/-- D1:15.00 (18_service_update_test, U32 RO). -/
abbrev UPD_WRITTEN : Nat := key 0xD1 0x15 0
/-- D1:16.00 (18_service_update_test, U32 RO). -/
abbrev SWITCH_BLACKOUT_LAST : Nat := key 0xD1 0x16 0
/-- E0:01.00 (19_startup_reset_power, S32 RO). -/
abbrev VBAT_MV : Nat := key 0xE0 0x01 0
/-- E0:02.00 (19_startup_reset_power, U8 RO). -/
abbrev VBAT_STATUS : Nat := key 0xE0 0x02 0
/-- E0:03.00 (19_startup_reset_power, U8 RWA). -/
abbrev TAMP_EN : Nat := key 0xE0 0x03 0
/-- E0:04.00 (19_startup_reset_power, U8 RO). -/
abbrev TAMP_STATE : Nat := key 0xE0 0x04 0
/-- E0:05.01–04 (19_startup_reset_power, U32 RO). -/
abbrev TAMP_OPEN_CNT (e : Nat) : Nat := key 0xE0 0x05 e
/-- E0:06.01–04 (19_startup_reset_power, U32 RO). -/
abbrev TAMP_AMBIG_CNT (e : Nat) : Nat := key 0xE0 0x06 e
/-- E0:07.00 (19_startup_reset_power, ENUM8 RWA). -/
abbrev VAULT_SAMPLE_HZ : Nat := key 0xE0 0x07 0
/-- E0:08.00 (19_startup_reset_power, U8 RWA). -/
abbrev VAULT_WAKE_MASK : Nat := key 0xE0 0x08 0
/-- E0:09.00 (19_startup_reset_power, LTIME RW). -/
abbrev VAULT_WAKE_AT : Nat := key 0xE0 0x09 0
/-- E0:0A.00 (19_startup_reset_power, U8 RO). -/
abbrev WAKE_SOURCE : Nat := key 0xE0 0x0A 0
/-- E0:10.00 (19_startup_reset_power, U32 RO). -/
abbrev VEV_LAST : Nat := key 0xE0 0x10 0
/-- E0:11.00 (19_startup_reset_power, U32 RW). -/
abbrev VEV_ACK : Nat := key 0xE0 0x11 0
/-- E0:12.00 (19_startup_reset_power, U32 RW). -/
abbrev VEV_SEL : Nat := key 0xE0 0x12 0
/-- E0:13.00 (19_startup_reset_power, BLOB RO). -/
abbrev VEV_ENTRY : Nat := key 0xE0 0x13 0
/-- E0:14.00 (19_startup_reset_power, U32 RO). -/
abbrev VEV_LOST_CNT : Nat := key 0xE0 0x14 0
/-- E0:15.00 (19_startup_reset_power, S16 RWL). -/
abbrev RTC_TRIM : Nat := key 0xE0 0x15 0
/-- E0:16.00 (19_startup_reset_power, U8 RO). -/
abbrev RTC_STATUS : Nat := key 0xE0 0x16 0
/-- E1:01.00 (19_startup_reset_power, U16 RO). -/
abbrev SUPPLY_STATUS : Nat := key 0xE1 0x01 0
/-- E1:02.01–05 (19_startup_reset_power, S32 RO). -/
abbrev SUPPLY_MV (e : Nat) : Nat := key 0xE1 0x02 e
/-- E1:03.00 (19_startup_reset_power, U32 RO). -/
abbrev RESET_CAUSE : Nat := key 0xE1 0x03 0
/-- E1:04.01–08 (19_startup_reset_power, U32 RO). -/
abbrev RESET_HISTORY (e : Nat) : Nat := key 0xE1 0x04 e
/-- E1:05.00 (19_startup_reset_power, U32 WO). -/
abbrev RESET_REQUEST : Nat := key 0xE1 0x05 0
/-- E1:06.00 (19_startup_reset_power, U32 RO). -/
abbrev BOOT_TIME : Nat := key 0xE1 0x06 0
/-- E1:07.00 (19_startup_reset_power, U32 RO). -/
abbrev PFW_CNT : Nat := key 0xE1 0x07 0
/-- E1:08.00 (19_startup_reset_power, U32 RO). -/
abbrev NOWARN_LOSS_CNT : Nat := key 0xE1 0x08 0
/-- 00:13.00 (R28, BOOL RO). -/
abbrev ROLE_PENDING : Nat := key 0x00 0x13 0

end Reg

end Sys2Proof.Machine
end

