-- ==== Sys2Proof/Machine/Dict.lean ====
section
/-! DEFINITION. Dict: the object tables of spec/ as rows (R13 to R22, R36, R37): which elements exist, their type, access,
default, range and effect timing. -/

namespace Sys2Proof.Machine

/-- The data types of R17. -/
inductive Ty where
  | u8 | u16 | u32 | u64 | s16 | s32 | s48 | s64 | q15 | bool | enum8 | ltime | ctime | str32 | blob | cmd | res
  deriving DecidableEq, Repr

/-- The access codes of R19. -/
inductive Acc where
  | ro | rw | wo | rwa | rwl | cmd
  deriving DecidableEq, Repr

/-- The effect timings of R20. -/
inductive Eff where
  | immediate | period | commit | epoch | billing
  deriving DecidableEq, Repr

/-- A range column: the whole type, closed intervals, the bits that are not reserved, a BLOB's lengths, or a rule of its own. -/
inductive Rng where
  | full
  | iv (l : List (Int × Int))
  | mask (m : Nat)
  | blob (lo hi : Nat)
  | special
  deriving DecidableEq, Repr

/-- A default column: a number, an empty BLOB, an empty STR32, or a value that depends on the instance or element. -/
inductive Dflt where
  | n (i : Int)
  | byts
  | str
  | fn
  deriving DecidableEq, Repr

/-- One row of an object table: group, object and element ranges, then the columns. -/
structure Row where
  g0 : Nat
  g1 : Nat
  o0 : Nat
  o1 : Nat
  e0 : Nat
  e1 : Nat
  ty : Ty
  acc : Acc
  dflt : Dflt
  rng : Rng
  eff : Eff
  deriving DecidableEq, Repr

/-- Object rows of group 0x00 (part 1 of the object tables of spec/). -/
def tab00 : List Row := [
  /- PART_ID -/ ⟨0x00,0x00,0x01,0x01,0,0,.u32,.ro,.n 574619724,.full,.immediate⟩,
  /- STEPPING -/ ⟨0x00,0x00,0x02,0x02,0,0,.u16,.ro,.n 0,.full,.immediate⟩,
  /- UNIT_SERIAL -/ ⟨0x00,0x00,0x03,0x03,0,0,.str32,.ro,.str,.full,.immediate⟩,
  /- ROLE_MASK -/ ⟨0x00,0x00,0x10,0x10,0,0,.u16,.rwa,.n 0,.special,.commit⟩,
  /- ROLE_ACTIVE -/ ⟨0x00,0x00,0x11,0x11,0,0,.u16,.ro,.n 0,.full,.immediate⟩,
  /- XP_TYPE_n -/ ⟨0x00,0x00,0x12,0x12,1,4,.enum8,.rwa,.n 0,.iv [(0,2)],.commit⟩,
  /- REMOTE_WRITE -/ ⟨0x00,0x00,0x20,0x20,0,0,.enum8,.rwa,.n 0,.iv [(0,2)],.commit⟩,
  /- REMOTE_HOST_n -/ ⟨0x00,0x00,0x21,0x21,1,8,.u16,.rwa,.n 65535,.iv [(0,4095),(65535,65535)],.commit⟩,
  /- DICT_RX_COUNT -/ ⟨0x00,0x00,0x22,0x22,0,0,.u32,.ro,.n 0,.full,.immediate⟩,
  /- DICT_REJECT_COUNT -/ ⟨0x00,0x00,0x23,0x23,0,0,.u32,.ro,.n 0,.full,.immediate⟩,
  /- ROLE_PENDING -/ ⟨0x00,0x00,0x13,0x13,0,0,.bool,.ro,.n 0,.full,.immediate⟩]

/-- Object rows of group 0x01 (part 1 of the object tables of spec/). -/
def tab01 : List Row := [
  /- MODE_WORD -/ ⟨0x01,0x01,0x00,0x00,0,0,.u8,.rw,.n 1,.iv [(0,255)],.immediate⟩,
  /- MODE_IN_FORCE -/ ⟨0x01,0x01,0x01,0x01,0,0,.u8,.ro,.n 1,.full,.immediate⟩,
  /- MODE_TRANSIT -/ ⟨0x01,0x01,0x02,0x02,0,0,.u8,.ro,.n 0,.full,.immediate⟩,
  /- BOOT_MODE -/ ⟨0x01,0x01,0x03,0x03,0,0,.u8,.rwa,.n 1,.iv [(0,127)],.commit⟩,
  /- MODE_ORIGIN -/ ⟨0x01,0x01,0x04,0x04,0,0,.enum8,.ro,.n 0,.full,.immediate⟩,
  /- PRE_LOSS_WORD -/ ⟨0x01,0x01,0x05,0x05,1,1,.u8,.ro,.n 0,.full,.immediate⟩,
  /- PRE_LOSS_IN_FORCE -/ ⟨0x01,0x01,0x05,0x05,2,2,.u8,.ro,.n 0,.full,.immediate⟩,
  /- STOP_TIMEOUT -/ ⟨0x01,0x01,0x06,0x06,0,0,.u32,.rwa,.n 5000,.iv [(100,60000)],.commit⟩,
  /- MODE_CHANGES -/ ⟨0x01,0x01,0x07,0x07,0,0,.u32,.ro,.n 0,.full,.immediate⟩,
  /- FORCED_STOPS -/ ⟨0x01,0x01,0x08,0x08,0,0,.u32,.ro,.n 0,.full,.immediate⟩]

/-- Object rows of group 0x02 (part 1 of the object tables of spec/). -/
def tab02 : List Row := [
  /- CMD -/ ⟨0x02,0x02,0x10,0x1A,1,1,.cmd,.cmd,.n 0,.special,.immediate⟩,
  /- RES -/ ⟨0x02,0x02,0x10,0x1A,2,2,.res,.ro,.n 0,.full,.immediate⟩,
  /- CTRL -/ ⟨0x02,0x02,0x10,0x1A,3,3,.u8,.wo,.n 0,.iv [(1,2)],.immediate⟩]

/-- Object rows of group 0x03 (part 1 of the object tables of spec/). -/
def tab03 : List Row := [
  /- STAGE_COUNT -/ ⟨0x03,0x03,0x03,0x03,0,0,.u16,.ro,.n 0,.full,.immediate⟩,
  /- STAGE_BYTES -/ ⟨0x03,0x03,0x04,0x04,0,0,.u32,.ro,.n 0,.full,.immediate⟩,
  /- STAGE_PROBE_ADDR -/ ⟨0x03,0x03,0x05,0x05,0,0,.u32,.rw,.n 0,.mask 0x00FFFFFF,.immediate⟩,
  /- STAGE_PROBE_VALUE -/ ⟨0x03,0x03,0x06,0x06,0,0,.blob,.ro,.byts,.full,.immediate⟩,
  /- COMMIT_SEQ -/ ⟨0x03,0x03,0x07,0x07,0,0,.u32,.ro,.n 0,.full,.immediate⟩,
  /- COMMIT_STATE -/ ⟨0x03,0x03,0x08,0x08,0,0,.enum8,.ro,.n 0,.full,.immediate⟩,
  /- STAGE_DISCARDED -/ ⟨0x03,0x03,0x09,0x09,0,0,.u32,.ro,.n 0,.full,.immediate⟩,
  /- BILL_HOLD_COUNT -/ ⟨0x03,0x03,0x0A,0x0A,0,0,.u16,.ro,.n 0,.full,.immediate⟩,
  /- CMD -/ ⟨0x03,0x03,0x01,0x02,1,1,.cmd,.cmd,.n 0,.special,.immediate⟩,
  /- RES -/ ⟨0x03,0x03,0x01,0x02,2,2,.res,.ro,.n 0,.full,.immediate⟩,
  /- CTRL -/ ⟨0x03,0x03,0x01,0x02,3,3,.u8,.wo,.n 0,.iv [(1,2)],.immediate⟩]

/-- Object rows of group 0x04 (part 1 of the object tables of spec/). -/
def tab04 : List Row := [
  /- LTIME_NOW -/ ⟨0x04,0x04,0x01,0x01,0,0,.ltime,.ro,.n 0,.full,.immediate⟩,
  /- CTIME_NOW -/ ⟨0x04,0x04,0x02,0x02,0,0,.ctime,.ro,.n 0,.full,.immediate⟩,
  /- CIVIL_OFFSET -/ ⟨0x04,0x04,0x03,0x03,0,0,.s64,.ro,.n 0,.full,.immediate⟩,
  /- ECT_NOW -/ ⟨0x04,0x04,0x04,0x04,0,0,.ctime,.ro,.n 0,.full,.immediate⟩,
  /- CIVIL_SHIFT -/ ⟨0x04,0x04,0x05,0x05,0,0,.s64,.rw,.n 0,.iv [(-31536000000,31536000000)],.immediate⟩,
  /- TIME_ALLOW -/ ⟨0x04,0x04,0x06,0x06,0,0,.u32,.rwa,.n 60000,.iv [(0,3600000)],.commit⟩,
  /- ALLOW_NOW -/ ⟨0x04,0x04,0x07,0x07,0,0,.u32,.ro,.n 0,.full,.immediate⟩,
  /- TIME_TAMPER_CNT -/ ⟨0x04,0x04,0x08,0x08,0,0,.u32,.ro,.n 0,.full,.immediate⟩,
  /- TIME_FLAGS -/ ⟨0x04,0x04,0x09,0x09,0,0,.u8,.ro,.n 0,.full,.immediate⟩,
  /- LAST_TIME_SET -/ ⟨0x04,0x04,0x0A,0x0A,0,0,.ltime,.ro,.n 0,.full,.immediate⟩]

/-- Object rows of group 0x05 (part 1 of the object tables of spec/). -/
def tab05 : List Row := [
  /- PACE -/ ⟨0x05,0x05,0x01,0x01,0,0,.u16,.ro,.n 0,.full,.immediate⟩,
  /- PACE_REGION_n -/ ⟨0x05,0x05,0x02,0x02,1,7,.u16,.ro,.n 0,.full,.immediate⟩,
  /- PACE_MIN_SEEN -/ ⟨0x05,0x05,0x03,0x03,0,0,.u16,.ro,.n 65535,.full,.immediate⟩,
  /- PACE_FLOOR -/ ⟨0x05,0x05,0x04,0x04,0,0,.u16,.ro,.n 780,.full,.immediate⟩,
  /- FABRIC_STATUS -/ ⟨0x05,0x05,0x05,0x05,0,0,.u16,.ro,.n 0,.full,.immediate⟩,
  /- ISLAND_STATE_n -/ ⟨0x05,0x05,0x06,0x06,1,12,.enum8,.ro,.n 0,.full,.immediate⟩,
  /- FENCED_CELLS_n -/ ⟨0x05,0x05,0x07,0x07,1,7,.u16,.ro,.n 0,.full,.immediate⟩,
  /- FAB_ERR_COUNT_n -/ ⟨0x05,0x05,0x08,0x08,1,7,.u32,.ro,.n 0,.full,.immediate⟩,
  /- LAST_FAB_ERR -/ ⟨0x05,0x05,0x09,0x09,0,0,.u64,.ro,.n 0,.full,.immediate⟩,
  /- LAT_EVENT_TO_RING -/ ⟨0x05,0x05,0x0A,0x0A,1,1,.u32,.ro,.n 0,.full,.immediate⟩,
  /- LAT_EPOCH_TO_LOOP -/ ⟨0x05,0x05,0x0A,0x0A,2,2,.u32,.ro,.n 0,.full,.immediate⟩,
  /- LAT_SAMPLE_TO_PWM -/ ⟨0x05,0x05,0x0A,0x0A,3,3,.u32,.ro,.n 0,.full,.immediate⟩,
  /- ENSIGN_LAT_CLEAR -/ ⟨0x05,0x05,0x0B,0x0B,0,0,.bool,.wo,.n 0,.iv [(0,1)],.immediate⟩]

/-- Object rows of groups 0x10 to 0x13 (part 1 of the object tables of spec/). -/
def tab10p0 : List Row := [
  /- ROUTE_n -/ ⟨0x10,0x13,0x30,0x30,1,8,.u32,.rwa,.n 0,.special,.commit⟩,
  /- ROUTE_SELECT -/ ⟨0x10,0x13,0x31,0x31,0,0,.u8,.rw,.n 0,.iv [(0,0),(1,8)],.epoch⟩,
  /- ROUTE_STATE -/ ⟨0x10,0x13,0x32,0x32,0,0,.enum8,.ro,.n 0,.full,.immediate⟩,
  /- ROUTE_FB_TIMEOUT -/ ⟨0x10,0x13,0x33,0x33,0,0,.u32,.rw,.n 50000000,.iv [(5000000,200000000)],.immediate⟩,
  /- ROUTE_ZERO_I -/ ⟨0x10,0x13,0x34,0x34,0,0,.s32,.rw,.n 5000,.iv [(500,50000)],.immediate⟩,
  /- CARRIER -/ ⟨0x10,0x13,0x01,0x01,1,8,.enum8,.rw,.n 0,.iv [(0,1)],.commit⟩,
  /- ON_MIN -/ ⟨0x10,0x13,0x02,0x02,1,8,.u32,.rw,.n 100,.iv [(100,50000)],.commit⟩,
  /- ON_MAX -/ ⟨0x10,0x13,0x03,0x03,1,8,.u32,.rw,.n 50000,.iv [(100,50000)],.commit⟩,
  /- OFF_MIN -/ ⟨0x10,0x13,0x04,0x04,1,8,.u32,.rw,.n 100,.iv [(100,50000)],.commit⟩,
  /- OFF_MAX -/ ⟨0x10,0x13,0x05,0x05,1,8,.u32,.rw,.n 50000,.iv [(100,50000)],.commit⟩,
  /- PERIOD_MIN -/ ⟨0x10,0x13,0x06,0x06,1,8,.u32,.rw,.n 2000,.iv [(2000,50000)],.commit⟩,
  /- PERIOD_MAX -/ ⟨0x10,0x13,0x07,0x07,1,8,.u32,.rw,.n 50000,.iv [(2000,50000)],.commit⟩,
  /- DT_MIN -/ ⟨0x10,0x13,0x08,0x08,1,8,.u32,.rw,.n 20,.iv [(5,1000)],.commit⟩,
  /- DT_MAX -/ ⟨0x10,0x13,0x09,0x09,1,8,.u32,.rw,.n 500,.iv [(10,2000)],.commit⟩,
  /- MIN_PULSE -/ ⟨0x10,0x13,0x0A,0x0A,1,8,.u32,.rw,.n 40,.iv [(20,500)],.commit⟩,
  /- SHORT_MODE -/ ⟨0x10,0x13,0x0B,0x0B,1,8,.enum8,.rw,.n 0,.iv [(0,1)],.commit⟩,
  /- SWN_MODE -/ ⟨0x10,0x13,0x0C,0x0C,1,8,.enum8,.rw,.n 0,.iv [(0,1)],.commit⟩,
  /- FULL_ON_EN -/ ⟨0x10,0x13,0x0D,0x0D,1,8,.bool,.rwa,.n 0,.iv [(0,1)],.commit⟩,
  /- INTERLEAVE_FRAC -/ ⟨0x10,0x13,0x0E,0x0E,1,8,.u16,.rw,.n 8192,.iv [(0,65535)],.commit⟩,
  /- OVERRIDE -/ ⟨0x10,0x13,0x0F,0x0F,1,8,.u8,.rw,.n 0,.mask 0x7,.period⟩,
  /- SYNC_SRC -/ ⟨0x10,0x13,0x10,0x10,0,0,.enum8,.rw,.n 0,.special,.commit⟩,
  /- FLT_SCOPE -/ ⟨0x10,0x13,0x11,0x11,0,0,.enum8,.rw,.n 0,.iv [(0,2)],.commit⟩,
  /- ARM_HOLD -/ ⟨0x10,0x13,0x12,0x12,0,0,.u8,.rw,.n 0,.full,.immediate⟩,
  /- ARM_RELEASE -/ ⟨0x10,0x13,0x13,0x13,0,0,.u8,.wo,.n 0,.full,.immediate⟩,
  /- FAULT_LATCH -/ ⟨0x10,0x13,0x14,0x14,0,0,.u8,.ro,.n 0,.full,.immediate⟩,
  /- FAULT_CLEAR -/ ⟨0x10,0x13,0x15,0x15,0,0,.u8,.wo,.n 0,.full,.immediate⟩,
  /- SYNC_STATUS -/ ⟨0x10,0x13,0x16,0x16,0,0,.u8,.ro,.n 0,.full,.immediate⟩,
  /- COUNT_CLEAR -/ ⟨0x10,0x13,0x2B,0x2B,0,0,.u8,.wo,.n 0,.full,.immediate⟩,
  /- CMD_LAST -/ ⟨0x10,0x13,0x18,0x18,1,8,.u32,.ro,.n 0,.full,.immediate⟩,
  /- ON_MEAS -/ ⟨0x10,0x13,0x19,0x19,1,8,.u32,.ro,.n 0,.full,.immediate⟩,
  /- OFF_MEAS -/ ⟨0x10,0x13,0x1A,0x1A,1,8,.u32,.ro,.n 0,.full,.immediate⟩,
  /- PERIOD_MEAS -/ ⟨0x10,0x13,0x1B,0x1B,1,8,.u32,.ro,.n 0,.full,.immediate⟩,
  /- DT_A_LAST -/ ⟨0x10,0x13,0x1C,0x1C,1,8,.u32,.ro,.n 0,.full,.immediate⟩,
  /- DT_B_LAST -/ ⟨0x10,0x13,0x1D,0x1D,1,8,.u32,.ro,.n 0,.full,.immediate⟩,
  /- BOUNDARY_COUNT -/ ⟨0x10,0x13,0x1E,0x1E,1,8,.u32,.ro,.n 0,.full,.immediate⟩,
  /- CAPTURE_STATUS -/ ⟨0x10,0x13,0x1F,0x1F,1,8,.enum8,.ro,.n 0,.full,.immediate⟩,
  /- CAPTURE_AT -/ ⟨0x10,0x13,0x20,0x20,1,8,.u32,.ro,.n 0,.full,.immediate⟩,
  /- LEG_STATE -/ ⟨0x10,0x13,0x21,0x21,1,8,.enum8,.ro,.n 0,.full,.immediate⟩,
  /- HARD_SWITCH_CNT -/ ⟨0x10,0x13,0x22,0x22,1,8,.u32,.ro,.n 0,.full,.immediate⟩,
  /- FORCED_EDGE_CNT -/ ⟨0x10,0x13,0x23,0x23,1,8,.u32,.ro,.n 0,.full,.immediate⟩]

/-- Object rows of groups 0x10 to 0x13 (part 2 of the object tables of spec/). -/
def tab10p1 : List Row := [
  /- DROP_CNT -/ ⟨0x10,0x13,0x24,0x24,1,8,.u32,.ro,.n 0,.full,.immediate⟩,
  /- STRETCH_CNT -/ ⟨0x10,0x13,0x25,0x25,1,8,.u32,.ro,.n 0,.full,.immediate⟩,
  /- FULL_ON_CLAMP_CNT -/ ⟨0x10,0x13,0x26,0x26,1,8,.u32,.ro,.n 0,.full,.immediate⟩,
  /- LONG_PERIOD_CNT -/ ⟨0x10,0x13,0x27,0x27,1,8,.u32,.ro,.n 0,.full,.immediate⟩,
  /- SYNC_SLIP_CNT -/ ⟨0x10,0x13,0x28,0x28,1,8,.u32,.ro,.n 0,.full,.immediate⟩,
  /- FAULT_CNT -/ ⟨0x10,0x13,0x29,0x29,1,8,.u32,.ro,.n 0,.full,.immediate⟩,
  /- ON_MAX_HIT_CNT -/ ⟨0x10,0x13,0x2A,0x2A,1,8,.u32,.ro,.n 0,.full,.immediate⟩,
  /- SETP_SRC -/ ⟨0x10,0x13,0x40,0x40,0,0,.enum8,.rw,.n 0,.iv [(0,3)],.commit⟩,
  /- SETP_FS -/ ⟨0x10,0x13,0x41,0x41,0,0,.s32,.rw,.n 400000,.iv [(0,3000000)],.commit⟩,
  /- SETP_SLEW -/ ⟨0x10,0x13,0x42,0x42,0,0,.u32,.rw,.n 1000,.iv [(0,100000)],.commit⟩,
  /- RAMP_TIME -/ ⟨0x10,0x13,0x43,0x43,0,0,.u32,.rw,.n 0,.iv [(0,0),(100000,20000000)],.commit⟩,
  /- V_FLOOR -/ ⟨0x10,0x13,0x44,0x44,0,0,.s32,.rw,.n 50000,.iv [(10000,1250000)],.commit⟩,
  /- I_PHASE_MAX -/ ⟨0x10,0x13,0x45,0x45,1,8,.s32,.rw,.n 150000,.iv [(1000,400000)],.commit⟩,
  /- ISNS_FS -/ ⟨0x10,0x13,0x46,0x46,1,8,.s32,.rw,.n 250000,.iv [(10000,1000000)],.commit⟩,
  /- ISNS_GAIN_PPM -/ ⟨0x10,0x13,0x47,0x47,1,8,.s32,.rw,.n 0,.iv [(-50000,50000)],.commit⟩,
  /- ISNS_OFFSET -/ ⟨0x10,0x13,0x48,0x48,1,8,.s32,.rw,.n 0,.iv [(-5000,5000)],.commit⟩,
  /- VB_FS -/ ⟨0x10,0x13,0x49,0x49,0,0,.s32,.rw,.n 1500000,.iv [(100000,2000000)],.commit⟩,
  /- VO_FS -/ ⟨0x10,0x13,0x4A,0x4A,0,0,.s32,.rw,.n 1500000,.iv [(100000,2000000)],.commit⟩,
  /- V_IN_MIN -/ ⟨0x10,0x13,0x4B,0x4B,0,0,.s32,.rw,.n 100000,.iv [(10000,1500000)],.commit⟩,
  /- SHED_EN -/ ⟨0x10,0x13,0x4C,0x4C,0,0,.bool,.rw,.n 0,.iv [(0,1)],.commit⟩,
  /- SHED_CAP_n -/ ⟨0x10,0x13,0x4D,0x4D,1,7,.s32,.rw,.n 0,.iv [(0,3000000)],.commit⟩,
  /- SHED_HYST -/ ⟨0x10,0x13,0x4E,0x4E,0,0,.s32,.rw,.n 5000,.iv [(0,100000)],.commit⟩,
  /- SHED_DWELL -/ ⟨0x10,0x13,0x4F,0x4F,0,0,.u16,.rw,.n 200,.iv [(1,50000)],.commit⟩,
  /- SHED_ORDER -/ ⟨0x10,0x13,0x50,0x50,0,0,.u32,.rw,.n 69604183,.special,.commit⟩,
  /- STEP_THRESH -/ ⟨0x10,0x13,0x51,0x51,0,0,.s32,.rw,.n 20000,.iv [(1000,1000000)],.commit⟩,
  /- SHED_WINDOW -/ ⟨0x10,0x13,0x52,0x52,0,0,.u16,.rw,.n 8,.iv [(1,1000)],.commit⟩,
  /- NTC_RNOM -/ ⟨0x10,0x13,0x53,0x53,1,8,.u32,.rw,.n 10000,.iv [(1000,100000)],.commit⟩,
  /- NTC_BETA -/ ⟨0x10,0x13,0x54,0x54,1,8,.u16,.rw,.n 3435,.iv [(2000,5000)],.commit⟩,
  /- OT_WARN -/ ⟨0x10,0x13,0x55,0x55,0,0,.s16,.rw,.n 11000,.iv [(5000,15000)],.commit⟩,
  /- OT_SHUT -/ ⟨0x10,0x13,0x56,0x56,0,0,.s16,.rw,.n 13000,.iv [(6000,15000)],.commit⟩,
  /- OT_HYST -/ ⟨0x10,0x13,0x57,0x57,0,0,.s16,.rw,.n 2000,.iv [(500,5000)],.commit⟩,
  /- I_MEAS -/ ⟨0x10,0x13,0x58,0x58,1,8,.s32,.ro,.n 0,.full,.immediate⟩,
  /- I_GROUP_CMD -/ ⟨0x10,0x13,0x59,0x59,0,0,.s32,.ro,.n 0,.full,.immediate⟩,
  /- N_ACTIVE -/ ⟨0x10,0x13,0x5A,0x5A,0,0,.u8,.ro,.n 0,.full,.immediate⟩,
  /- SHED_STATE -/ ⟨0x10,0x13,0x5B,0x5B,0,0,.enum8,.ro,.n 0,.full,.immediate⟩,
  /- T_STAGE -/ ⟨0x10,0x13,0x5C,0x5C,1,8,.s16,.ro,.n 0,.full,.immediate⟩,
  /- OT_STATUS -/ ⟨0x10,0x13,0x5D,0x5D,0,0,.u32,.ro,.n 0,.full,.immediate⟩,
  /- V_IN_MEAS -/ ⟨0x10,0x13,0x5E,0x5E,0,0,.s32,.ro,.n 0,.full,.immediate⟩,
  /- V_OUT_MEAS -/ ⟨0x10,0x13,0x5F,0x5F,0,0,.s32,.ro,.n 0,.full,.immediate⟩,
  /- SHED_CNT -/ ⟨0x10,0x13,0x60,0x60,0,0,.u32,.ro,.n 0,.full,.immediate⟩]

/-- Object rows of groups 0x10 to 0x13 (part 3 of the object tables of spec/). -/
def tab10p2 : List Row := [
  /- SHED_CANCEL_CNT -/ ⟨0x10,0x13,0x61,0x61,0,0,.u32,.ro,.n 0,.full,.immediate⟩,
  /- STEP_LIMIT_CNT -/ ⟨0x10,0x13,0x62,0x62,0,0,.u32,.ro,.n 0,.full,.immediate⟩,
  /- OT_SHUT_CNT -/ ⟨0x10,0x13,0x63,0x63,1,8,.u32,.ro,.n 0,.full,.immediate⟩,
  /- SETP_FAULT -/ ⟨0x10,0x13,0x64,0x64,0,0,.u8,.ro,.n 0,.full,.immediate⟩]

/-- All object rows of group 0x10. -/
def tab10 : List Row := tab10p0 ++ tab10p1 ++ tab10p2

/-- Object rows of groups 0x20 to 0x45 (part 1 of the object tables of spec/). -/
def tab20 : List Row := [
  /- BIND -/ ⟨0x20,0x45,0x01,0x01,0,0,.u8,.rwa,.fn,.special,.commit⟩,
  /- BIND_ACTIVE -/ ⟨0x20,0x45,0x02,0x02,0,0,.u8,.ro,.fn,.full,.immediate⟩,
  /- COEF_SET -/ ⟨0x20,0x45,0x03,0x03,0,0,.blob,.rw,.fn,.special,.commit⟩,
  /- LOOP_RATE -/ ⟨0x20,0x45,0x04,0x04,0,0,.enum8,.rw,.n 1,.iv [(0,2)],.commit⟩,
  /- ENGINE_STATE -/ ⟨0x20,0x45,0x05,0x05,0,0,.enum8,.ro,.n 0,.full,.immediate⟩,
  /- REGION_ACTIVE -/ ⟨0x20,0x45,0x06,0x06,0,0,.u8,.ro,.n 0,.full,.immediate⟩,
  /- REGION_CHANGES -/ ⟨0x20,0x45,0x07,0x07,0,0,.u32,.ro,.n 0,.full,.immediate⟩,
  /- REGION_BUMP_CNT -/ ⟨0x20,0x45,0x08,0x08,0,0,.u32,.ro,.n 0,.full,.immediate⟩,
  /- INT_OUT -/ ⟨0x20,0x45,0x09,0x09,0,0,.s32,.ro,.n 0,.full,.immediate⟩,
  /- VALLEY_CMD -/ ⟨0x20,0x45,0x0A,0x0A,0,0,.s32,.ro,.n 0,.full,.immediate⟩,
  /- SHARE_LATCHED -/ ⟨0x20,0x45,0x0B,0x0B,0,0,.s32,.ro,.n 0,.full,.immediate⟩,
  /- SPARE_POLICY -/ ⟨0x20,0x45,0x0C,0x0C,0,0,.enum8,.rwa,.fn,.iv [(0,1)],.commit⟩,
  /- SILENCE_CNT -/ ⟨0x20,0x45,0x0D,0x0D,0,0,.u32,.ro,.n 0,.full,.immediate⟩,
  /- MODEL_STEPS -/ ⟨0x20,0x45,0x20,0x20,0,0,.u32,.ro,.n 0,.full,.immediate⟩,
  /- MODEL_STEP_MAX -/ ⟨0x20,0x45,0x21,0x21,0,0,.u32,.ro,.n 0,.full,.immediate⟩]

/-- Object rows of group 0x50 (part 1 of the object tables of spec/). -/
def tab50 : List Row := [
  /- EPOCH_PERIOD -/ ⟨0x50,0x50,0x01,0x01,0,0,.u32,.rwa,.n 2000000,.iv [(1000000,20000000)],.commit⟩,
  /- EPOCH_MARGIN -/ ⟨0x50,0x50,0x02,0x02,0,0,.u32,.rwa,.n 200000,.iv [(50000,5000000)],.commit⟩,
  /- EPOCH_NUMBER -/ ⟨0x50,0x50,0x03,0x03,0,0,.u64,.ro,.n 0,.full,.immediate⟩,
  /- EPOCH_MIN -/ ⟨0x50,0x50,0x04,0x04,0,0,.u32,.ro,.n 0,.full,.immediate⟩,
  /- ALLOC_STATE -/ ⟨0x50,0x50,0x05,0x05,0,0,.enum8,.ro,.n 0,.full,.immediate⟩,
  /- SITE_ISLAND -/ ⟨0x50,0x50,0x06,0x06,0,0,.bool,.ro,.n 0,.full,.immediate⟩,
  /- ALLOC_FLAGS -/ ⟨0x50,0x50,0x07,0x07,0,0,.u8,.ro,.n 0,.full,.immediate⟩,
  /- OUT_ATTACH_n -/ ⟨0x50,0x50,0x10,0x10,1,4,.u8,.rwa,.n 0,.iv [(0,63)],.commit⟩,
  /- OUT_TIER_n -/ ⟨0x50,0x50,0x11,0x11,1,4,.u8,.rwa,.n 2,.iv [(0,7)],.commit⟩,
  /- OUT_RAMP_n -/ ⟨0x50,0x50,0x12,0x12,1,4,.u16,.rwa,.n 100,.iv [(1,8191)],.commit⟩,
  /- OUT_SHAVE_n -/ ⟨0x50,0x50,0x13,0x13,1,4,.u32,.rw,.n 0,.iv [(0,0),(1,8388607)],.commit⟩,
  /- XP_ATTACH_n -/ ⟨0x50,0x50,0x14,0x14,1,4,.u8,.rwa,.n 0,.iv [(0,63)],.commit⟩,
  /- XP_TIER_n -/ ⟨0x50,0x50,0x15,0x15,1,4,.u8,.rwa,.n 3,.iv [(0,7)],.commit⟩,
  /- XP_RAMP_n -/ ⟨0x50,0x50,0x16,0x16,1,4,.u16,.rwa,.n 100,.iv [(1,8191)],.commit⟩,
  /- XP_FLOOR_n -/ ⟨0x50,0x50,0x17,0x17,1,4,.s32,.rw,.n 0,.iv [(-8388607,8388607)],.immediate⟩,
  /- XP_CEIL_n -/ ⟨0x50,0x50,0x18,0x18,1,4,.s32,.rw,.n 0,.iv [(-8388607,8388607)],.immediate⟩,
  /- PG_RATING_k -/ ⟨0x50,0x50,0x19,0x19,1,4,.u32,.rwa,.n 400000,.iv [(0,65535000)],.commit⟩,
  /- OUT_CLAIM_FLOOR_n -/ ⟨0x50,0x50,0x20,0x20,1,4,.s32,.ro,.n 0,.full,.immediate⟩,
  /- OUT_CLAIM_CEIL_n -/ ⟨0x50,0x50,0x21,0x21,1,4,.s32,.ro,.n 0,.full,.immediate⟩,
  /- XP_GRANT_n -/ ⟨0x50,0x50,0x22,0x22,1,4,.s32,.ro,.n 0,.full,.immediate⟩,
  /- PG_CAP_k -/ ⟨0x50,0x50,0x23,0x23,1,4,.u32,.ro,.n 0,.full,.immediate⟩,
  /- PG_GRANT_k -/ ⟨0x50,0x50,0x24,0x24,1,4,.s32,.ro,.n 0,.full,.immediate⟩]

/-- Object rows of group 0x51 (part 1 of the object tables of spec/). -/
def tab51 : List Row := [
  /- SITE_EXPORT -/ ⟨0x51,0x51,0x01,0x01,0,0,.u32,.rwa,.n 0,.iv [(0,2147483647)],.commit⟩,
  /- TREE_APPLY_EPOCH -/ ⟨0x51,0x51,0x02,0x02,0,0,.u32,.rwa,.n 0,.full,.commit⟩,
  /- ALLOC_HASH -/ ⟨0x51,0x51,0x03,0x03,0,0,.u32,.ro,.n 0,.full,.immediate⟩,
  /- TREE_STATE -/ ⟨0x51,0x51,0x04,0x04,0,0,.enum8,.ro,.n 0,.full,.immediate⟩,
  /- ALLOC_HASH_HELD -/ ⟨0x51,0x51,0x05,0x05,0,0,.u32,.ro,.n 0,.full,.immediate⟩,
  /- PARENT -/ ⟨0x51,0x51,0x40,0x7F,1,1,.u8,.rwa,.fn,.iv [(0,63),(255,255)],.commit⟩,
  /- LIMIT -/ ⟨0x51,0x51,0x40,0x7F,2,2,.u32,.rwa,.n 0,.iv [(0,2147483647)],.commit⟩,
  /- KIND -/ ⟨0x51,0x51,0x40,0x7F,3,3,.enum8,.rwa,.fn,.iv [(0,7)],.commit⟩]

/-- Object rows of group 0x52 (part 1 of the object tables of spec/). -/
def tab52 : List Row := [
  /- RESULT_CRC_OWN -/ ⟨0x52,0x52,0x01,0x01,0,0,.u32,.ro,.n 0,.full,.immediate⟩,
  /- RESULT_CRC_REF -/ ⟨0x52,0x52,0x02,0x02,0,0,.u32,.ro,.n 0,.full,.immediate⟩,
  /- CRC_AGREE -/ ⟨0x52,0x52,0x03,0x03,0,0,.u16,.ro,.n 0,.full,.immediate⟩,
  /- ROSTER_SIZE -/ ⟨0x52,0x52,0x04,0x04,0,0,.u16,.ro,.n 0,.full,.immediate⟩,
  /- SUBST_COUNT -/ ⟨0x52,0x52,0x05,0x05,0,0,.u16,.ro,.n 0,.full,.immediate⟩,
  /- FROZEN_COUNT -/ ⟨0x52,0x52,0x06,0x06,0,0,.u16,.ro,.n 0,.full,.immediate⟩,
  /- T_WAVE_MEAS -/ ⟨0x52,0x52,0x07,0x07,0,0,.u32,.ro,.n 0,.full,.immediate⟩,
  /- T_WAVE_MAX -/ ⟨0x52,0x52,0x08,0x08,0,0,.u32,.ro,.n 0,.full,.immediate⟩,
  /- T_CALC_LAST -/ ⟨0x52,0x52,0x09,0x09,0,0,.u32,.ro,.n 0,.full,.immediate⟩,
  /- T_CALC_MAX -/ ⟨0x52,0x52,0x0A,0x0A,0,0,.u32,.ro,.n 0,.full,.immediate⟩,
  /- MISSED_WAVE_CNT -/ ⟨0x52,0x52,0x0B,0x0B,0,0,.u32,.ro,.n 0,.full,.immediate⟩,
  /- LATE_BLOCK_CNT -/ ⟨0x52,0x52,0x0C,0x0C,0,0,.u32,.ro,.n 0,.full,.immediate⟩,
  /- DIVERGE_CNT -/ ⟨0x52,0x52,0x0D,0x0D,0,0,.u32,.ro,.n 0,.full,.immediate⟩,
  /- FLOOR_CUT_CNT -/ ⟨0x52,0x52,0x0E,0x0E,0,0,.u32,.ro,.n 0,.full,.immediate⟩,
  /- CALC_OVERRUN_CNT -/ ⟨0x52,0x52,0x0F,0x0F,0,0,.u32,.ro,.n 0,.full,.immediate⟩,
  /- LAST_SAFE_EPOCH -/ ⟨0x52,0x52,0x10,0x10,0,0,.u32,.ro,.n 0,.full,.immediate⟩]

/-- Object rows of group 0x58 (part 1 of the object tables of spec/). -/
def tab58 : List Row := [
  /- RING_ADDR -/ ⟨0x58,0x58,0x01,0x01,0,0,.u16,.rwa,.n 65535,.iv [(0,4095),(65535,65535)],.commit⟩,
  /- RING_ENABLE -/ ⟨0x58,0x58,0x02,0x02,0,0,.u8,.rwa,.n 3,.mask 0x03,.commit⟩,
  /- BYP_FORCE -/ ⟨0x58,0x58,0x03,0x03,0,0,.bool,.rw,.n 0,.iv [(0,1)],.immediate⟩,
  /- WRAP_HEAL -/ ⟨0x58,0x58,0x04,0x04,0,0,.u32,.rw,.n 100,.iv [(10,10000)],.immediate⟩,
  /- ROSTER_EVICT -/ ⟨0x58,0x58,0x05,0x05,0,0,.u16,.wo,.n 0,.iv [(0,4095)],.immediate⟩,
  /- HOIST_ADDR -/ ⟨0x58,0x58,0x06,0x06,0,0,.u16,.ro,.n 65535,.full,.immediate⟩,
  /- RING_NODES -/ ⟨0x58,0x58,0x07,0x07,0,0,.u16,.ro,.n 0,.full,.immediate⟩,
  /- ROSTER_STATE -/ ⟨0x58,0x58,0x08,0x08,0,0,.enum8,.ro,.n 0,.full,.immediate⟩,
  /- JOIN_REFUSE_REASON -/ ⟨0x58,0x58,0x09,0x09,0,0,.u8,.ro,.n 0,.full,.immediate⟩,
  /- RING_STATUS -/ ⟨0x58,0x58,0x0A,0x0A,0,0,.u16,.ro,.n 0,.full,.immediate⟩,
  /- POS_A -/ ⟨0x58,0x58,0x0B,0x0B,0,0,.u16,.ro,.n 0,.full,.immediate⟩,
  /- LOOP_TIME_n -/ ⟨0x58,0x58,0x0C,0x0C,1,2,.u32,.ro,.n 0,.full,.immediate⟩,
  /- REPEAT_DELAY -/ ⟨0x58,0x58,0x0D,0x0D,0,0,.u16,.ro,.n 0,.full,.immediate⟩,
  /- NEIGHBOUR_n -/ ⟨0x58,0x58,0x0E,0x0E,1,2,.u16,.ro,.n 65535,.full,.immediate⟩,
  /- LINK_ERR_CNT -/ ⟨0x58,0x58,0x0F,0x0F,1,2,.u32,.ro,.n 0,.full,.immediate⟩,
  /- WRAP_CNT -/ ⟨0x58,0x58,0x10,0x10,1,2,.u32,.ro,.n 0,.full,.immediate⟩,
  /- DISPLACE_CNT -/ ⟨0x58,0x58,0x11,0x11,0,0,.u32,.ro,.n 0,.full,.immediate⟩,
  /- ENSIGN_DEFER_CNT -/ ⟨0x58,0x58,0x12,0x12,0,0,.u32,.ro,.n 0,.full,.immediate⟩,
  /- AUTH_FAIL_CNT -/ ⟨0x58,0x58,0x13,0x13,0,0,.u32,.ro,.n 0,.full,.immediate⟩,
  /- FOREIGN_SLOT_CNT -/ ⟨0x58,0x58,0x14,0x14,0,0,.u32,.ro,.n 0,.full,.immediate⟩,
  /- PAIR_LANE_STATE -/ ⟨0x58,0x58,0x60,0x60,0,0,.u8,.ro,.n 0,.full,.immediate⟩,
  /- PAIR_LANE_ERR_CNT -/ ⟨0x58,0x58,0x61,0x61,1,2,.u32,.ro,.n 0,.full,.immediate⟩]

/-- Object rows of group 0x59 (part 1 of the object tables of spec/). -/
def tab59 : List Row := [
  /- PAIR_EN -/ ⟨0x59,0x59,0x01,0x01,0,0,.bool,.rwa,.n 0,.iv [(0,1)],.commit⟩,
  /- LEASE_PERIOD -/ ⟨0x59,0x59,0x02,0x02,0,0,.u32,.rwa,.n 24,.iv [(5,500)],.commit⟩,
  /- PAIR_RANK -/ ⟨0x59,0x59,0x03,0x03,0,0,.u8,.rwa,.n 0,.iv [(0,1)],.commit⟩,
  /- UNIT_ADDR -/ ⟨0x59,0x59,0x04,0x04,0,0,.u16,.rwa,.n 65535,.iv [(0,4095),(65535,65535)],.commit⟩,
  /- BURGEE_STATE -/ ⟨0x59,0x59,0x10,0x10,0,0,.enum8,.ro,.n 0,.full,.immediate⟩,
  /- LEASE_LEFT -/ ⟨0x59,0x59,0x11,0x11,0,0,.u32,.ro,.n 0,.full,.immediate⟩,
  /- PEER_SERIAL -/ ⟨0x59,0x59,0x12,0x12,0,0,.u32,.ro,.n 0,.full,.immediate⟩,
  /- PEER_MODE -/ ⟨0x59,0x59,0x13,0x13,0,0,.u8,.ro,.n 0,.full,.immediate⟩,
  /- PEER_FLAGS -/ ⟨0x59,0x59,0x14,0x14,0,0,.u8,.ro,.n 0,.full,.immediate⟩,
  /- TOKEN_AGE -/ ⟨0x59,0x59,0x15,0x15,0,0,.u32,.ro,.n 4294967295,.full,.immediate⟩,
  /- MIRROR_AGE -/ ⟨0x59,0x59,0x16,0x16,1,5,.u32,.ro,.n 4294967295,.full,.immediate⟩,
  /- OE_STATE -/ ⟨0x59,0x59,0x17,0x17,0,0,.u8,.ro,.n 0,.full,.immediate⟩,
  /- TAKEOVER_CNT -/ ⟨0x59,0x59,0x18,0x18,0,0,.u32,.ro,.n 0,.full,.immediate⟩,
  /- LAPSE_CNT -/ ⟨0x59,0x59,0x19,0x19,0,0,.u32,.ro,.n 0,.full,.immediate⟩,
  /- SPLIT_CNT -/ ⟨0x59,0x59,0x1A,0x1A,0,0,.u32,.ro,.n 0,.full,.immediate⟩,
  /- LAST_TAKEOVER -/ ⟨0x59,0x59,0x1B,0x1B,0,0,.ltime,.ro,.n 0,.full,.immediate⟩,
  /- LAST_TAKE_GAP -/ ⟨0x59,0x59,0x1C,0x1C,0,0,.u32,.ro,.n 0,.full,.immediate⟩]

/-- Object rows of groups 0x60 to 0x63 (part 1 of the object tables of spec/). -/
def tab60p0 : List Row := [
  /- OUT_KIND -/ ⟨0x60,0x63,0x01,0x01,0,0,.enum8,.rwa,.n 0,.iv [(0,1)],.commit⟩,
  /- PROTO_EN -/ ⟨0x60,0x63,0x02,0x02,0,0,.u8,.rwa,.n 15,.mask 0xF,.commit⟩,
  /- TLS_POLICY -/ ⟨0x60,0x63,0x03,0x03,0,0,.enum8,.rwa,.n 0,.iv [(0,1)],.commit⟩,
  /- OUT_V_MAX -/ ⟨0x60,0x63,0x04,0x04,0,0,.s32,.rwa,.n 1000000,.iv [(50000,1250000)],.commit⟩,
  /- OUT_I_MAX -/ ⟨0x60,0x63,0x05,0x05,0,0,.s32,.rwa,.n 500000,.iv [(1000,3000000)],.commit⟩,
  /- OUT_P_MAX -/ ⟨0x60,0x63,0x06,0x06,0,0,.s32,.rwa,.n 400000,.iv [(0,3750000)],.commit⟩,
  /- OUT_FLOOR -/ ⟨0x60,0x63,0x07,0x07,0,0,.s32,.rw,.n 0,.iv [(0,3750000)],.commit⟩,
  /- CTR_LS_POS -/ ⟨0x60,0x63,0x08,0x08,0,0,.u8,.rwa,.n 255,.iv [(0,15),(255,255)],.commit⟩,
  /- CTR_LS_NEG -/ ⟨0x60,0x63,0x09,0x09,0,0,.u8,.rwa,.n 255,.iv [(0,15),(255,255)],.commit⟩,
  /- CFB_POL -/ ⟨0x60,0x63,0x0A,0x0A,0,0,.u8,.rwa,.n 0,.mask 0x3,.commit⟩,
  /- CTR_TIMEOUT -/ ⟨0x60,0x63,0x0B,0x0B,0,0,.u32,.rw,.n 100,.iv [(20,1000)],.commit⟩,
  /- OPEN_I -/ ⟨0x60,0x63,0x0C,0x0C,0,0,.s32,.rw,.n 2000,.iv [(500,20000)],.commit⟩,
  /- ESTOP_OPEN -/ ⟨0x60,0x63,0x0D,0x0D,0,0,.u32,.rw,.n 200,.iv [(20,1000)],.commit⟩,
  /- ISO_WARN -/ ⟨0x60,0x63,0x0E,0x0E,0,0,.u16,.rw,.n 500,.iv [(50,5000)],.commit⟩,
  /- ISO_FAULT -/ ⟨0x60,0x63,0x0F,0x0F,0,0,.u16,.rw,.n 100,.iv [(50,1000)],.commit⟩,
  /- IMD_K -/ ⟨0x60,0x63,0x10,0x10,0,0,.u32,.rw,.n 1000,.iv [(10,100000)],.commit⟩,
  /- IMD_PWM_USE -/ ⟨0x60,0x63,0x11,0x11,0,0,.bool,.rw,.n 1,.iv [(0,1)],.commit⟩,
  /- IMD_DEBOUNCE -/ ⟨0x60,0x63,0x12,0x12,0,0,.u32,.rw,.n 20,.iv [(0,100)],.commit⟩,
  /- CHK_TIMEOUT -/ ⟨0x60,0x63,0x13,0x13,0,0,.u32,.rw,.n 20000,.iv [(5000,60000)],.commit⟩,
  /- PCH_TIMEOUT -/ ⟨0x60,0x63,0x14,0x14,0,0,.u32,.rw,.n 7000,.iv [(1000,20000)],.commit⟩,
  /- PCH_TOL -/ ⟨0x60,0x63,0x15,0x15,0,0,.s32,.rw,.n 20000,.iv [(1000,50000)],.commit⟩,
  /- CP_DEBOUNCE -/ ⟨0x60,0x63,0x16,0x16,0,0,.u32,.rw,.n 5,.iv [(1,50)],.commit⟩,
  /- PP_WIN -/ ⟨0x60,0x63,0x17,0x17,1,2,.s32,.rwa,.fn,.iv [(0,5000)],.commit⟩,
  /- AUTH -/ ⟨0x60,0x63,0x18,0x18,0,0,.enum8,.rw,.n 0,.iv [(0,2)],.immediate⟩,
  /- AUTH_TIMEOUT -/ ⟨0x60,0x63,0x19,0x19,0,0,.u32,.rw,.n 60000,.iv [(5000,300000)],.commit⟩,
  /- BPT_DIR -/ ⟨0x60,0x63,0x1A,0x1A,0,0,.enum8,.rw,.n 0,.iv [(0,1)],.immediate⟩,
  /- ACCOUNT_SLOT -/ ⟨0x60,0x63,0x1B,0x1B,0,0,.u16,.rw,.n 65535,.iv [(0,255),(65535,65535)],.immediate⟩,
  /- PLCA_CFG -/ ⟨0x60,0x63,0x1C,0x1C,1,4,.u8,.rwa,.fn,.special,.commit⟩,
  /- SLAC_ATTEN_MAX -/ ⟨0x60,0x63,0x1D,0x1D,0,0,.u8,.rwa,.n 40,.iv [(10,80)],.commit⟩,
  /- V_REF_MIN -/ ⟨0x60,0x63,0x1E,0x1E,0,0,.s32,.rw,.n 50000,.iv [(10000,1250000)],.commit⟩,
  /- CCP_VSET_FS -/ ⟨0x60,0x63,0x1F,0x1F,0,0,.s32,.rwa,.n 1250000,.iv [(100000,1500000)],.commit⟩,
  /- V2G_ROOT_n -/ ⟨0x60,0x63,0x30,0x30,1,8,.blob,.rwa,.byts,.blob 0 1024,.commit⟩,
  /- MO_ROOT_n -/ ⟨0x60,0x63,0x31,0x31,1,8,.blob,.rwa,.byts,.blob 0 1024,.commit⟩,
  /- SECC_CHAIN -/ ⟨0x60,0x63,0x32,0x32,0,0,.blob,.rwa,.byts,.blob 0 3072,.commit⟩,
  /- SECC_KEY_SLOT -/ ⟨0x60,0x63,0x33,0x33,0,0,.u8,.rwa,.n 255,.full,.commit⟩,
  /- OCSP_STAPLE -/ ⟨0x60,0x63,0x34,0x34,0,0,.blob,.rw,.byts,.blob 0 2048,.immediate⟩,
  /- CERT_REQ -/ ⟨0x60,0x63,0x35,0x35,0,0,.blob,.ro,.byts,.full,.immediate⟩,
  /- CERT_RES -/ ⟨0x60,0x63,0x36,0x36,0,0,.blob,.wo,.byts,.blob 0 1024,.immediate⟩,
  /- OUT_STATE -/ ⟨0x60,0x63,0x40,0x40,0,0,.enum8,.ro,.n 0,.full,.immediate⟩,
  /- REFUSE_REASON -/ ⟨0x60,0x63,0x41,0x41,0,0,.enum8,.ro,.n 0,.full,.immediate⟩]

/-- Object rows of groups 0x60 to 0x63 (part 2 of the object tables of spec/). -/
def tab60p1 : List Row := [
  /- SESSION_ID -/ ⟨0x60,0x63,0x42,0x42,0,0,.u32,.ro,.n 0,.full,.immediate⟩,
  /- PROTOCOL -/ ⟨0x60,0x63,0x43,0x43,0,0,.enum8,.ro,.n 0,.full,.immediate⟩,
  /- PILOT_STATE -/ ⟨0x60,0x63,0x44,0x44,0,0,.enum8,.ro,.n 0,.full,.immediate⟩,
  /- PP_MV -/ ⟨0x60,0x63,0x45,0x45,0,0,.s32,.ro,.n 0,.full,.immediate⟩,
  /- V_CABLE -/ ⟨0x60,0x63,0x46,0x46,0,0,.s32,.ro,.n 0,.full,.immediate⟩,
  /- I_OUTLET -/ ⟨0x60,0x63,0x47,0x47,0,0,.s32,.ro,.n 0,.full,.immediate⟩,
  /- OUT_GRANT -/ ⟨0x60,0x63,0x48,0x48,0,0,.s32,.ro,.n 0,.full,.immediate⟩,
  /- OFFERED_P -/ ⟨0x60,0x63,0x49,0x49,0,0,.s32,.ro,.n 0,.full,.immediate⟩,
  /- OFFERED_I -/ ⟨0x60,0x63,0x4A,0x4A,0,0,.s32,.ro,.n 0,.full,.immediate⟩,
  /- SESSION_CEIL -/ ⟨0x60,0x63,0x4B,0x4B,0,0,.s32,.ro,.n 0,.full,.immediate⟩,
  /- SESSION_FLOOR -/ ⟨0x60,0x63,0x4C,0x4C,0,0,.s32,.ro,.n 0,.full,.immediate⟩,
  /- EV_TARGET_I -/ ⟨0x60,0x63,0x4D,0x4D,0,0,.s32,.ro,.n 0,.full,.immediate⟩,
  /- EV_TARGET_V -/ ⟨0x60,0x63,0x4E,0x4E,0,0,.s32,.ro,.n 0,.full,.immediate⟩,
  /- ISO_R -/ ⟨0x60,0x63,0x4F,0x4F,0,0,.u32,.ro,.n 4294967295,.full,.immediate⟩,
  /- EVCC_ID -/ ⟨0x60,0x63,0x50,0x50,0,0,.str32,.ro,.str,.full,.immediate⟩,
  /- EMAID -/ ⟨0x60,0x63,0x51,0x51,0,0,.str32,.ro,.str,.full,.immediate⟩,
  /- CTR_STATE -/ ⟨0x60,0x63,0x52,0x52,0,0,.u8,.ro,.n 0,.full,.immediate⟩,
  /- FAULT_CLEAR -/ ⟨0x60,0x63,0x53,0x53,0,0,.bool,.wo,.n 0,.iv [(0,1)],.immediate⟩,
  /- SESSION_CNT -/ ⟨0x60,0x63,0x54,0x54,0,0,.u32,.ro,.n 0,.full,.immediate⟩,
  /- ESTOP_CNT -/ ⟨0x60,0x63,0x55,0x55,0,0,.u32,.ro,.n 0,.full,.immediate⟩,
  /- LOAD_OPEN_CNT -/ ⟨0x60,0x63,0x56,0x56,0,0,.u32,.ro,.n 0,.full,.immediate⟩,
  /- WELD_CNT -/ ⟨0x60,0x63,0x57,0x57,0,0,.u32,.ro,.n 0,.full,.immediate⟩,
  /- TLS_FAIL_CNT -/ ⟨0x60,0x63,0x58,0x58,0,0,.u32,.ro,.n 0,.full,.immediate⟩,
  /- SLAC_FAIL_CNT -/ ⟨0x60,0x63,0x59,0x59,0,0,.u32,.ro,.n 0,.full,.immediate⟩]

/-- All object rows of group 0x60. -/
def tab60 : List Row := tab60p0 ++ tab60p1

/-- Object rows of groups 0x64 to 0x67 (part 1 of the object tables of spec/). -/
def tab64p0 : List Row := [
  /- SENSOR_ASSIGN -/ ⟨0x64,0x67,0x01,0x01,1,7,.enum8,.rwa,.n 0,.special,.commit⟩,
  /- FLOW_K -/ ⟨0x64,0x67,0x02,0x02,0,0,.u32,.rwa,.n 400,.iv [(10,100000)],.commit⟩,
  /- R_CABLE -/ ⟨0x64,0x67,0x03,0x03,0,0,.u32,.rwa,.n 1000,.iv [(10,100000)],.commit⟩,
  /- ALPHA -/ ⟨0x64,0x67,0x04,0x04,0,0,.u16,.rwa,.n 3930,.iv [(0,10000)],.commit⟩,
  /- C_COND -/ ⟨0x64,0x67,0x05,0x05,0,0,.u32,.rwa,.n 2000,.iv [(10,1000000)],.commit⟩,
  /- C_COOL -/ ⟨0x64,0x67,0x06,0x06,0,0,.u32,.rwa,.n 4000,.iv [(10,1000000)],.commit⟩,
  /- G_NOM -/ ⟨0x64,0x67,0x07,0x07,0,0,.u32,.rwa,.n 400000,.iv [(1000,10000000)],.commit⟩,
  /- G_MIN -/ ⟨0x64,0x67,0x08,0x08,0,0,.u32,.rwa,.n 20000,.iv [(0,10000000)],.commit⟩,
  /- Q_NOM -/ ⟨0x64,0x67,0x09,0x09,0,0,.u32,.rwa,.n 20000,.iv [(1000,200000)],.commit⟩,
  /- CP_FLOW -/ ⟨0x64,0x67,0x0A,0x0A,0,0,.u16,.rwa,.n 3600,.iv [(1000,4500)],.commit⟩,
  /- R_HS -/ ⟨0x64,0x67,0x0B,0x0B,0,0,.u32,.rwa,.n 2,.iv [(0,1000)],.commit⟩,
  /- K_OBS -/ ⟨0x64,0x67,0x0C,0x0C,0,0,.q15,.rwa,.n 1024,.iv [(0,32767)],.commit⟩,
  /- T_TARGET -/ ⟨0x64,0x67,0x0D,0x0D,0,0,.s16,.rw,.n 7000,.iv [(2000,12000)],.commit⟩,
  /- PUMP_KP -/ ⟨0x64,0x67,0x0E,0x0E,0,0,.u32,.rw,.n 32768,.iv [(0,1048576)],.commit⟩,
  /- PUMP_KI -/ ⟨0x64,0x67,0x0F,0x0F,0,0,.u32,.rw,.n 8192,.iv [(0,1048576)],.commit⟩,
  /- PUMP_MIN -/ ⟨0x64,0x67,0x10,0x10,0,0,.u16,.rw,.n 200,.iv [(0,1000)],.commit⟩,
  /- PUMP_MAX -/ ⟨0x64,0x67,0x11,0x11,0,0,.u16,.rw,.n 1000,.iv [(0,1000)],.commit⟩,
  /- PUMP_FREQ -/ ⟨0x64,0x67,0x12,0x12,0,0,.u32,.rwa,.n 1000,.iv [(100,25000)],.commit⟩,
  /- PUMP_POL -/ ⟨0x64,0x67,0x13,0x13,0,0,.enum8,.rwa,.n 0,.iv [(0,1)],.commit⟩,
  /- VALVE_LS -/ ⟨0x64,0x67,0x14,0x14,0,0,.u8,.rwa,.n 255,.iv [(0,15),(255,255)],.commit⟩,
  /- DERATE_T -/ ⟨0x64,0x67,0x15,0x15,1,8,.s16,.rwa,.n 0,.iv [(-4000,20000)],.commit⟩,
  /- DERATE_I -/ ⟨0x64,0x67,0x16,0x16,1,8,.s32,.rwa,.n 0,.iv [(0,3000000)],.commit⟩,
  /- DERATE_RISE -/ ⟨0x64,0x67,0x17,0x17,0,0,.u32,.rw,.n 50000,.iv [(1000,3000000)],.commit⟩,
  /- PIN_TRIP -/ ⟨0x64,0x67,0x18,0x18,0,0,.s16,.rwa,.n 9000,.iv [(4000,15000)],.commit⟩,
  /- HS_TRIP -/ ⟨0x64,0x67,0x19,0x19,0,0,.s16,.rwa,.n 10500,.iv [(4000,20000)],.commit⟩,
  /- DEGRADED_I -/ ⟨0x64,0x67,0x1A,0x1A,0,0,.s32,.rwa,.n 0,.iv [(0,3000000)],.commit⟩,
  /- NOFLOW_I -/ ⟨0x64,0x67,0x1B,0x1B,0,0,.s32,.rwa,.n 0,.iv [(0,3000000)],.commit⟩,
  /- FALLBACK_T -/ ⟨0x64,0x67,0x1C,0x1C,0,0,.s16,.rwa,.n 5000,.iv [(0,10000)],.commit⟩,
  /- FLOW_LOST_T -/ ⟨0x64,0x67,0x1D,0x1D,0,0,.u32,.rw,.n 2000,.iv [(200,20000)],.commit⟩,
  /- RUNON_MIN -/ ⟨0x64,0x67,0x1E,0x1E,0,0,.u32,.rw,.n 1000,.iv [(0,600000)],.commit⟩,
  /- RUNON_MAX -/ ⟨0x64,0x67,0x1F,0x1F,0,0,.u32,.rw,.n 600000,.iv [(1000,3600000)],.commit⟩,
  /- RUNON_T -/ ⟨0x64,0x67,0x20,0x20,0,0,.s16,.rw,.n 4500,.iv [(0,10000)],.commit⟩,
  /- COOL_STATE -/ ⟨0x64,0x67,0x40,0x40,0,0,.enum8,.ro,.n 0,.full,.immediate⟩,
  /- T_INLET -/ ⟨0x64,0x67,0x41,0x41,0,0,.s16,.ro,.n 0,.full,.immediate⟩,
  /- T_OUTLET -/ ⟨0x64,0x67,0x42,0x42,0,0,.s16,.ro,.n 0,.full,.immediate⟩,
  /- T_PIN_n -/ ⟨0x64,0x67,0x43,0x43,1,4,.s16,.ro,.n 0,.full,.immediate⟩,
  /- FLOW_MEAS -/ ⟨0x64,0x67,0x44,0x44,0,0,.u32,.ro,.n 0,.full,.immediate⟩,
  /- T_COND -/ ⟨0x64,0x67,0x45,0x45,0,0,.s16,.ro,.n 0,.full,.immediate⟩,
  /- T_COOL -/ ⟨0x64,0x67,0x46,0x46,0,0,.s16,.ro,.n 0,.full,.immediate⟩,
  /- T_HS -/ ⟨0x64,0x67,0x47,0x47,0,0,.s16,.ro,.n 0,.full,.immediate⟩]

/-- Object rows of groups 0x64 to 0x67 (part 2 of the object tables of spec/). -/
def tab64p1 : List Row := [
  /- T_DERATE -/ ⟨0x64,0x67,0x48,0x48,0,0,.s16,.ro,.n 0,.full,.immediate⟩,
  /- P_LOSS -/ ⟨0x64,0x67,0x49,0x49,0,0,.u32,.ro,.n 0,.full,.immediate⟩,
  /- PUMP_DUTY -/ ⟨0x64,0x67,0x4A,0x4A,0,0,.u16,.ro,.n 0,.full,.immediate⟩,
  /- CABLE_I_CEIL -/ ⟨0x64,0x67,0x4B,0x4B,0,0,.s32,.ro,.n 0,.full,.immediate⟩,
  /- CABLE_P_CEIL -/ ⟨0x64,0x67,0x4C,0x4C,0,0,.s32,.ro,.n 0,.full,.immediate⟩,
  /- SENSOR_FAULT -/ ⟨0x64,0x67,0x4D,0x4D,0,0,.u8,.ro,.n 127,.full,.immediate⟩,
  /- COOL_ENGINE -/ ⟨0x64,0x67,0x4E,0x4E,0,0,.u8,.ro,.fn,.full,.immediate⟩,
  /- COOL_TRIP_CNT -/ ⟨0x64,0x67,0x4F,0x4F,0,0,.u32,.ro,.n 0,.full,.immediate⟩,
  /- SENSOR_FAULT_CNT -/ ⟨0x64,0x67,0x50,0x50,0,0,.u32,.ro,.n 0,.full,.immediate⟩]

/-- All object rows of group 0x64. -/
def tab64 : List Row := tab64p0 ++ tab64p1

/-- Object rows of group 0x70 (part 1 of the object tables of spec/). -/
def tab70 : List Row := [
  /- INRUSH_MULT -/ ⟨0x70,0x70,0x10,0x15,1,1,.u16,.rwa,.fn,.iv [(16,160)],.commit⟩,
  /- T_INRUSH -/ ⟨0x70,0x70,0x10,0x15,2,2,.u32,.rwa,.fn,.iv [(0,5000)],.commit⟩,
  /- T_SC_IN -/ ⟨0x70,0x70,0x10,0x15,3,3,.u32,.rwa,.fn,.iv [(50,5000000)],.commit⟩,
  /- T_OVL -/ ⟨0x70,0x70,0x10,0x15,4,4,.u32,.rwa,.fn,.iv [(1,10000)],.commit⟩,
  /- RETRY_MAX -/ ⟨0x70,0x70,0x10,0x15,5,5,.u8,.rwa,.fn,.iv [(0,15)],.commit⟩,
  /- RETRY_DELAY -/ ⟨0x70,0x70,0x10,0x15,6,6,.u32,.rwa,.fn,.iv [(10,60000)],.commit⟩,
  /- LS_SUPPLY -/ ⟨0x70,0x70,0x01,0x01,0,0,.s32,.ro,.n 0,.full,.immediate⟩,
  /- LS_TOTAL_I -/ ⟨0x70,0x70,0x02,0x02,0,0,.s32,.ro,.n 0,.full,.immediate⟩,
  /- LS_STATUS -/ ⟨0x70,0x70,0x03,0x03,0,0,.u16,.ro,.n 0,.full,.immediate⟩,
  /- CURTAIL_HOLD -/ ⟨0x70,0x70,0x04,0x04,0,0,.u32,.rwa,.n 100,.iv [(10,10000)],.commit⟩]

/-- Object rows of groups 0x72 to 0x81 (part 1 of the object tables of spec/). -/
def tab72 : List Row := [
  /- LOAD_TYPE -/ ⟨0x72,0x81,0x01,0x01,0,0,.enum8,.rwa,.n 0,.iv [(0,5)],.commit⟩,
  /- I_LIM -/ ⟨0x72,0x81,0x02,0x02,0,0,.s32,.rwa,.n 2000,.iv [(500,10000)],.commit⟩,
  /- FAILSAFE -/ ⟨0x72,0x81,0x03,0x03,0,0,.enum8,.rwa,.n 0,.iv [(0,2)],.commit⟩,
  /- HOLD_DUTY -/ ⟨0x72,0x81,0x04,0x04,0,0,.u16,.rwa,.n 1000,.iv [(200,1000)],.commit⟩,
  /- LS_ON -/ ⟨0x72,0x81,0x05,0x05,0,0,.bool,.rw,.n 0,.iv [(0,1)],.immediate⟩,
  /- LS_CLEAR -/ ⟨0x72,0x81,0x06,0x06,0,0,.bool,.wo,.n 0,.iv [(0,1)],.immediate⟩,
  /- LS_STATE -/ ⟨0x72,0x81,0x10,0x10,0,0,.enum8,.ro,.n 0,.full,.immediate⟩,
  /- LS_SOURCE -/ ⟨0x72,0x81,0x11,0x11,0,0,.enum8,.ro,.n 0,.full,.immediate⟩,
  /- LS_OWNER -/ ⟨0x72,0x81,0x12,0x12,0,0,.enum8,.ro,.n 0,.full,.immediate⟩,
  /- I_LS -/ ⟨0x72,0x81,0x13,0x13,0,0,.s32,.ro,.n 0,.full,.immediate⟩,
  /- T_LS -/ ⟨0x72,0x81,0x14,0x14,0,0,.s16,.ro,.n 0,.full,.immediate⟩,
  /- LS_FLAGS -/ ⟨0x72,0x81,0x15,0x15,0,0,.u16,.ro,.n 0,.full,.immediate⟩,
  /- LAST_TRIP -/ ⟨0x72,0x81,0x16,0x16,0,0,.enum8,.ro,.n 0,.full,.immediate⟩,
  /- RETRIES_LEFT -/ ⟨0x72,0x81,0x17,0x17,0,0,.u8,.ro,.n 0,.full,.immediate⟩,
  /- TRIP_CNT -/ ⟨0x72,0x81,0x18,0x18,0,0,.u32,.ro,.n 0,.full,.immediate⟩,
  /- RETRY_CNT -/ ⟨0x72,0x81,0x19,0x19,0,0,.u32,.ro,.n 0,.full,.immediate⟩,
  /- CURTAIL_CNT -/ ⟨0x72,0x81,0x1A,0x1A,0,0,.u32,.ro,.n 0,.full,.immediate⟩,
  /- CLAMP_CNT -/ ⟨0x72,0x81,0x1B,0x1B,0,0,.u32,.ro,.n 0,.full,.immediate⟩]

/-- Object rows of groups 0x88 to 0x8B (part 1 of the object tables of spec/). -/
def tab88 : List Row := [
  /- V_FS -/ ⟨0x88,0x8B,0x01,0x01,0,0,.s32,.rwl,.n 1500000,.iv [(100000,2000000)],.commit⟩,
  /- I_FS -/ ⟨0x88,0x8B,0x02,0x02,0,0,.s32,.rwl,.n 4000000,.iv [(10000,6000000)],.commit⟩,
  /- CAL_V_GAIN -/ ⟨0x88,0x8B,0x03,0x03,0,0,.s32,.rwl,.n 0,.iv [(-10000000,10000000)],.commit⟩,
  /- CAL_V_OFFSET -/ ⟨0x88,0x8B,0x04,0x04,0,0,.s32,.rwl,.n 0,.iv [(-1048576,1048576)],.commit⟩,
  /- CAL_I_GAIN -/ ⟨0x88,0x8B,0x05,0x05,0,0,.s32,.rwl,.n 0,.iv [(-10000000,10000000)],.commit⟩,
  /- CAL_I_OFFSET -/ ⟨0x88,0x8B,0x06,0x06,0,0,.s32,.rwl,.n 0,.iv [(-1048576,1048576)],.commit⟩,
  /- CAL_DELAY -/ ⟨0x88,0x8B,0x07,0x07,0,0,.s16,.rwl,.n 0,.iv [(-1024,1024)],.commit⟩,
  /- CREEP_I -/ ⟨0x88,0x8B,0x08,0x08,0,0,.s32,.rwl,.n 1000,.iv [(0,100000)],.commit⟩,
  /- V_INST -/ ⟨0x88,0x8B,0x20,0x20,0,0,.s32,.ro,.n 0,.full,.immediate⟩,
  /- I_INST -/ ⟨0x88,0x8B,0x21,0x21,0,0,.s32,.ro,.n 0,.full,.immediate⟩,
  /- P_INST -/ ⟨0x88,0x8B,0x22,0x22,0,0,.s32,.ro,.n 0,.full,.immediate⟩,
  /- E_IMPORT -/ ⟨0x88,0x8B,0x23,0x23,0,0,.u64,.ro,.n 0,.full,.immediate⟩,
  /- E_EXPORT -/ ⟨0x88,0x8B,0x24,0x24,0,0,.u64,.ro,.n 0,.full,.immediate⟩,
  /- MISSING_MS -/ ⟨0x88,0x8B,0x25,0x25,0,0,.u32,.ro,.n 0,.full,.immediate⟩,
  /- OVR_MS -/ ⟨0x88,0x8B,0x26,0x26,0,0,.u32,.ro,.n 0,.full,.immediate⟩,
  /- MC_STATUS -/ ⟨0x88,0x8B,0x27,0x27,0,0,.u8,.ro,.n 0,.full,.immediate⟩]

/-- Object rows of group 0x8C (part 1 of the object tables of spec/). -/
def tab8C : List Row := [
  /- SEAL_STATE -/ ⟨0x8C,0x8C,0x01,0x01,0,0,.enum8,.ro,.n 0,.full,.immediate⟩,
  /- SEAL_OPEN_CNT -/ ⟨0x8C,0x8C,0x02,0x02,0,0,.u32,.ro,.n 0,.full,.immediate⟩,
  /- SEAL_LAST_CHANGE -/ ⟨0x8C,0x8C,0x03,0x03,0,0,.ltime,.ro,.n 0,.full,.immediate⟩,
  /- CAL_HASH -/ ⟨0x8C,0x8C,0x04,0x04,0,0,.blob,.ro,.byts,.full,.immediate⟩,
  /- CAL_HOLD_HASH -/ ⟨0x8C,0x8C,0x05,0x05,0,0,.blob,.ro,.byts,.full,.immediate⟩,
  /- LEGAL_FW_VERSION -/ ⟨0x8C,0x8C,0x06,0x06,0,0,.u32,.ro,.n 0,.full,.immediate⟩,
  /- LEGAL_FW_HASH -/ ⟨0x8C,0x8C,0x07,0x07,0,0,.blob,.ro,.byts,.full,.immediate⟩,
  /- PAIR_TOL_PPM -/ ⟨0x8C,0x8C,0x08,0x08,0,0,.u32,.rwl,.n 1000,.iv [(10,10000)],.commit⟩,
  /- PAIR_DIFF_CNT -/ ⟨0x8C,0x8C,0x09,0x09,0,0,.u32,.ro,.n 0,.full,.immediate⟩]

/-- Object rows of group 0x90 (part 1 of the object tables of spec/). -/
def tab90 : List Row := [
  /- SEASON_START_n -/ ⟨0x90,0x90,0x01,0x01,1,4,.u16,.rw,.n 65535,.special,.commit⟩,
  /- WEEK_MAP_n -/ ⟨0x90,0x90,0x02,0x02,1,4,.u32,.rw,.n 0,.mask 0x07777777,.commit⟩,
  /- POINT -/ ⟨0x90,0x90,0x10,0x17,1,16,.u16,.rw,.n 0,.special,.commit⟩,
  /- SPECIAL_n -/ ⟨0x90,0x90,0x20,0x20,1,64,.u32,.rw,.n 0,.special,.commit⟩,
  /- TARIFF_NOW -/ ⟨0x90,0x90,0x30,0x30,0,0,.u8,.ro,.n 0,.full,.immediate⟩,
  /- SEASON_NOW -/ ⟨0x90,0x90,0x31,0x31,0,0,.u8,.ro,.n 1,.full,.immediate⟩,
  /- DAYTYPE_NOW -/ ⟨0x90,0x90,0x32,0x32,0,0,.u8,.ro,.n 0,.full,.immediate⟩,
  /- NEXT_BOUNDARY -/ ⟨0x90,0x90,0x33,0x33,0,0,.ctime,.ro,.n 0,.full,.immediate⟩,
  /- LAST_BOUNDARY -/ ⟨0x90,0x90,0x34,0x34,0,0,.ctime,.ro,.n 0,.full,.immediate⟩]

/-- Object rows of group 0x91 (part 1 of the object tables of spec/). -/
def tab91 : List Row := [
  /- REG_IMPORT -/ ⟨0x91,0x91,0x10,0x13,1,8,.u64,.ro,.n 0,.full,.immediate⟩,
  /- REG_EXPORT -/ ⟨0x91,0x91,0x18,0x1B,1,8,.u64,.ro,.n 0,.full,.immediate⟩,
  /- SESS_IMPORT -/ ⟨0x91,0x91,0x20,0x23,1,1,.u64,.ro,.n 0,.full,.immediate⟩,
  /- SESS_EXPORT -/ ⟨0x91,0x91,0x20,0x23,2,2,.u64,.ro,.n 0,.full,.immediate⟩,
  /- SESS_START -/ ⟨0x91,0x91,0x20,0x23,3,3,.ltime,.ro,.n 0,.full,.immediate⟩,
  /- SESS_COST -/ ⟨0x91,0x91,0x20,0x23,4,4,.s48,.ro,.n 0,.full,.immediate⟩,
  /- REG_COMMIT_SEQ -/ ⟨0x91,0x91,0x30,0x30,0,0,.u32,.ro,.n 0,.full,.immediate⟩,
  /- REG_COMMIT_AT -/ ⟨0x91,0x91,0x31,0x31,0,0,.ltime,.ro,.n 0,.full,.immediate⟩]

/-- Object rows of group 0x92 (part 1 of the object tables of spec/). -/
def tab92 : List Row := [
  /- DEMAND_LEN -/ ⟨0x92,0x92,0x01,0x01,0,0,.enum8,.rw,.n 2,.iv [(0,4)],.commit⟩,
  /- DMD_RESET -/ ⟨0x92,0x92,0x02,0x02,0,0,.bool,.wo,.n 0,.iv [(0,1)],.billing⟩,
  /- DMD_RESET_CNT -/ ⟨0x92,0x92,0x03,0x03,0,0,.u32,.ro,.n 0,.full,.immediate⟩,
  /- DMD_MAX -/ ⟨0x92,0x92,0x10,0x13,1,8,.u32,.ro,.n 0,.full,.immediate⟩,
  /- DMD_MAX_AT -/ ⟨0x92,0x92,0x18,0x1B,1,8,.ltime,.ro,.n 0,.full,.immediate⟩,
  /- INT_START -/ ⟨0x92,0x92,0x20,0x23,1,1,.ltime,.ro,.n 0,.full,.immediate⟩,
  /- INT_IMPORT -/ ⟨0x92,0x92,0x20,0x23,2,2,.u64,.ro,.n 0,.full,.immediate⟩,
  /- INT_COVERED -/ ⟨0x92,0x92,0x20,0x23,3,3,.u32,.ro,.n 0,.full,.immediate⟩,
  /- DMD_LAST -/ ⟨0x92,0x92,0x20,0x23,4,4,.u32,.ro,.n 0,.full,.immediate⟩,
  /- DMD_LAST_FLAGS -/ ⟨0x92,0x92,0x20,0x23,5,5,.u8,.ro,.n 0,.full,.immediate⟩]

/-- Object rows of group 0x93 (part 1 of the object tables of spec/). -/
def tab93 : List Row := [
  /- ACCT_SEL -/ ⟨0x93,0x93,0x01,0x01,0,0,.u8,.rw,.n 0,.iv [(0,255)],.immediate⟩,
  /- ACCT_ID -/ ⟨0x93,0x93,0x02,0x02,0,0,.u32,.rw,.n 0,.iv [(0,0),(1,4294967295)],.immediate⟩,
  /- ACCT_CREDIT -/ ⟨0x93,0x93,0x03,0x03,0,0,.s48,.ro,.n 0,.full,.immediate⟩,
  /- ACCT_EC_AMOUNT -/ ⟨0x93,0x93,0x04,0x04,0,0,.s48,.rw,.n 0,.iv [(0,140737488355327)],.immediate⟩,
  /- ACCT_EC_OUT -/ ⟨0x93,0x93,0x05,0x05,0,0,.s48,.ro,.n 0,.full,.immediate⟩,
  /- ACCT_STATE -/ ⟨0x93,0x93,0x06,0x06,0,0,.u8,.ro,.n 0,.full,.immediate⟩,
  /- ACCT_LAST_REF -/ ⟨0x93,0x93,0x07,0x07,0,0,.u16,.ro,.n 0,.full,.immediate⟩,
  /- TOPUP_AMOUNT -/ ⟨0x93,0x93,0x08,0x08,0,0,.s48,.rw,.n 0,.iv [(0,140737488355327)],.immediate⟩,
  /- PRICE_t -/ ⟨0x93,0x93,0x10,0x10,1,8,.u32,.rw,.n 0,.iv [(0,4294967295)],.commit⟩,
  /- FRIENDLY_WEEK_d -/ ⟨0x93,0x93,0x20,0x20,1,7,.u32,.rw,.n 0,.special,.commit⟩,
  /- FRIENDLY_SPECIAL -/ ⟨0x93,0x93,0x21,0x21,0,0,.u64,.rw,.n 0,.full,.commit⟩,
  /- CREDIT_STOP_CNT -/ ⟨0x93,0x93,0x22,0x22,0,0,.u32,.ro,.n 0,.full,.immediate⟩]

/-- Object rows of group 0x94 (part 1 of the object tables of spec/). -/
def tab94 : List Row := [
  /- LOG_LAST_SEQ -/ ⟨0x94,0x94,0x01,0x01,0,0,.u32,.ro,.n 0,.full,.immediate⟩,
  /- LOG_ACK_SEQ -/ ⟨0x94,0x94,0x02,0x02,0,0,.u32,.rw,.n 0,.special,.immediate⟩,
  /- LOG_FREE -/ ⟨0x94,0x94,0x03,0x03,0,0,.u32,.ro,.n 32768,.full,.immediate⟩,
  /- LOG_STATE -/ ⟨0x94,0x94,0x04,0x04,0,0,.enum8,.ro,.n 0,.full,.immediate⟩,
  /- LOG_RESERVE -/ ⟨0x94,0x94,0x05,0x05,0,0,.u16,.rwa,.n 1024,.iv [(128,8192)],.commit⟩,
  /- LOG_READ_SEQ -/ ⟨0x94,0x94,0x06,0x06,0,0,.u32,.rw,.n 0,.full,.immediate⟩,
  /- LOG_RECORD -/ ⟨0x94,0x94,0x07,0x07,0,0,.blob,.ro,.byts,.full,.immediate⟩,
  /- LOG_BLOCKED_CNT -/ ⟨0x94,0x94,0x08,0x08,0,0,.u32,.ro,.n 0,.full,.immediate⟩,
  /- LOG_COALESCED_CNT -/ ⟨0x94,0x94,0x09,0x09,0,0,.u32,.ro,.n 0,.full,.immediate⟩]

/-- Object rows of group 0xA0 (part 1 of the object tables of spec/). -/
def tabA0 : List Row := [
  /- TRUST_STATE -/ ⟨0xA0,0xA0,0x01,0x01,0,0,.enum8,.ro,.n 0,.full,.immediate⟩,
  /- KEY_SEL -/ ⟨0xA0,0xA0,0x02,0x02,0,0,.u8,.rw,.n 0,.iv [(0,255)],.immediate⟩,
  /- KEY_INFO -/ ⟨0xA0,0xA0,0x03,0x03,0,0,.u64,.ro,.n 0,.full,.immediate⟩,
  /- KEY_PUB -/ ⟨0xA0,0xA0,0x04,0x04,0,0,.blob,.ro,.byts,.full,.immediate⟩,
  /- KEY_CREATE -/ ⟨0xA0,0xA0,0x05,0x05,0,0,.blob,.rwa,.byts,.blob 12 153,.immediate⟩,
  /- KEY_CREATE_ERR -/ ⟨0xA0,0xA0,0x06,0x06,0,0,.enum8,.ro,.n 0,.full,.immediate⟩,
  /- SLOTS_USED -/ ⟨0xA0,0xA0,0x07,0x07,0,0,.u16,.ro,.n 2,.full,.immediate⟩,
  /- REMASK_PERIOD -/ ⟨0xA0,0xA0,0x08,0x08,0,0,.u32,.rwa,.n 64,.iv [(16,1024)],.commit⟩,
  /- REMASK_LATE_CNT -/ ⟨0xA0,0xA0,0x09,0x09,0,0,.u32,.ro,.n 0,.full,.immediate⟩,
  /- KEY_MISUSE_CNT -/ ⟨0xA0,0xA0,0x0A,0x0A,0,0,.u32,.ro,.n 0,.full,.immediate⟩,
  /- IMPORT_FAIL_CNT -/ ⟨0xA0,0xA0,0x0B,0x0B,0,0,.u32,.ro,.n 0,.full,.immediate⟩,
  /- ERASE_PENDING -/ ⟨0xA0,0xA0,0x0C,0x0C,0,0,.u16,.ro,.n 0,.full,.immediate⟩,
  /- IMPORT_CERT -/ ⟨0xA0,0xA0,0x10,0x10,0,0,.blob,.ro,.byts,.full,.immediate⟩,
  /- LEGAL_CERT -/ ⟨0xA0,0xA0,0x11,0x11,0,0,.blob,.ro,.byts,.full,.immediate⟩,
  /- CSR_SUBJECT -/ ⟨0xA0,0xA0,0x18,0x18,0,0,.blob,.rwa,.byts,.blob 0 257,.immediate⟩,
  /- CSR_OUT -/ ⟨0xA0,0xA0,0x19,0x19,0,0,.blob,.ro,.byts,.full,.immediate⟩,
  /- RING_KEY_SLOT -/ ⟨0xA0,0xA0,0x20,0x20,0,0,.u8,.rwa,.n 255,.iv [(8,255)],.commit⟩,
  /- RING_KEY_NEXT -/ ⟨0xA0,0xA0,0x21,0x21,0,0,.u8,.rwa,.n 255,.iv [(8,255)],.commit⟩,
  /- RING_KEY_SWITCH -/ ⟨0xA0,0xA0,0x22,0x22,0,0,.u32,.rwa,.n 0,.full,.commit⟩,
  /- RING_KEY_STATE -/ ⟨0xA0,0xA0,0x23,0x23,0,0,.enum8,.ro,.n 0,.full,.immediate⟩,
  /- RING_KEY_AGE -/ ⟨0xA0,0xA0,0x24,0x24,0,0,.u64,.ro,.n 0,.full,.immediate⟩,
  /- RING_KEY_HIGH -/ ⟨0xA0,0xA0,0x25,0x25,0,0,.u64,.ro,.n 0,.full,.immediate⟩,
  /- RING_GUARD_CNT -/ ⟨0xA0,0xA0,0x26,0x26,0,0,.u32,.ro,.n 0,.full,.immediate⟩,
  /- UPDATE_GATE_SLOT -/ ⟨0xA0,0xA0,0x27,0x27,0,0,.u8,.rwa,.n 255,.iv [(8,255)],.commit⟩]

/-- Object rows of group 0xA1 (part 1 of the object tables of spec/). -/
def tabA1 : List Row := [
  /- BOOT_STATE -/ ⟨0xA1,0xA1,0x01,0x01,0,0,.enum8,.ro,.n 0,.full,.immediate⟩,
  /- IMG_VERSION -/ ⟨0xA1,0xA1,0x02,0x02,1,3,.u32,.ro,.n 0,.full,.immediate⟩,
  /- IMG_SVN -/ ⟨0xA1,0xA1,0x03,0x03,1,3,.u8,.ro,.n 0,.full,.immediate⟩,
  /- IMG_HASH -/ ⟨0xA1,0xA1,0x04,0x04,1,3,.blob,.ro,.byts,.full,.immediate⟩,
  /- SVN_FLOOR -/ ⟨0xA1,0xA1,0x05,0x05,1,3,.u8,.ro,.n 0,.full,.immediate⟩,
  /- SVN_ADVANCE -/ ⟨0xA1,0xA1,0x06,0x06,0,0,.u16,.wo,.n 0,.special,.immediate⟩,
  /- KEY_REVOKED -/ ⟨0xA1,0xA1,0x07,0x07,0,0,.u8,.ro,.n 0,.full,.immediate⟩,
  /- IMG_VERIFY -/ ⟨0xA1,0xA1,0x08,0x08,1,6,.enum8,.ro,.n 0,.full,.immediate⟩,
  /- BOOT_FAIL_CNT -/ ⟨0xA1,0xA1,0x09,0x09,0,0,.u32,.ro,.n 0,.full,.immediate⟩]

/-- Object rows of group 0xB0 (part 1 of the object tables of spec/). -/
def tabB0 : List Row := [
  /- EQ_MODE -/ ⟨0xB0,0xB0,0x01,0x01,0,0,.enum8,.rwa,.n 0,.iv [(0,1)],.commit⟩,
  /- EQ_CAPACITY -/ ⟨0xB0,0xB0,0x02,0x02,0,0,.u16,.rwa,.n 32768,.iv [(16,32768)],.commit⟩,
  /- PEN_QUOTA -/ ⟨0xB0,0xB0,0x03,0x03,0,0,.u16,.rwa,.n 4096,.iv [(0,32768)],.commit⟩,
  /- EQ_THRESH -/ ⟨0xB0,0xB0,0x04,0x04,0,0,.u16,.rw,.n 256,.iv [(1,32768)],.immediate⟩,
  /- EQ_CONSUMER -/ ⟨0xB0,0xB0,0x05,0x05,0,0,.u16,.rw,.n 65534,.iv [(0,0x0FFF),(0xFFFE,0xFFFF)],.immediate⟩,
  /- EQ_WORD -/ ⟨0xB0,0xB0,0x06,0x06,0,0,.u64,.ro,.n 0,.full,.immediate⟩,
  /- EQ_PACKET -/ ⟨0xB0,0xB0,0x07,0x07,0,0,.blob,.ro,.byts,.full,.immediate⟩,
  /- EQ_STATUS -/ ⟨0xB0,0xB0,0x08,0x08,0,0,.u16,.ro,.n 1,.full,.immediate⟩,
  /- EQ_CLEAR -/ ⟨0xB0,0xB0,0x09,0x09,0,0,.u16,.wo,.n 0,.mask 0x000C,.immediate⟩,
  /- EQ_LEVEL -/ ⟨0xB0,0xB0,0x0A,0x0A,0,0,.u16,.ro,.n 0,.full,.immediate⟩,
  /- EQ_PACKETS -/ ⟨0xB0,0xB0,0x0B,0x0B,0,0,.u16,.ro,.n 0,.full,.immediate⟩,
  /- EQ_WORDS_LEFT -/ ⟨0xB0,0xB0,0x0C,0x0C,0,0,.u8,.ro,.n 0,.full,.immediate⟩,
  /- PEN_SEQ_LAST -/ ⟨0xB0,0xB0,0x0D,0x0D,0,0,.u32,.ro,.n 0,.full,.immediate⟩,
  /- STR_SEQ_LAST -/ ⟨0xB0,0xB0,0x0E,0x0E,0,0,.u32,.ro,.n 0,.full,.immediate⟩,
  /- EQ_LEVEL_MAX -/ ⟨0xB0,0xB0,0x0F,0x0F,0,0,.u16,.ro,.n 0,.full,.immediate⟩,
  /- EQ_UNDERRUN_CNT -/ ⟨0xB0,0xB0,0x10,0x10,0,0,.u32,.ro,.n 0,.full,.immediate⟩,
  /- STR_LOST_CNT -/ ⟨0xB0,0xB0,0x11,0x11,0,0,.u32,.ro,.n 0,.full,.immediate⟩,
  /- STR_LOST_WORDS -/ ⟨0xB0,0xB0,0x12,0x12,0,0,.u32,.ro,.n 0,.full,.immediate⟩,
  /- PEN_DEFERRED_CNT -/ ⟨0xB0,0xB0,0x13,0x13,0,0,.u32,.ro,.n 0,.full,.immediate⟩,
  /- PEN_COALESCED_CNT -/ ⟨0xB0,0xB0,0x14,0x14,0,0,.u32,.ro,.n 0,.full,.immediate⟩,
  /- GAP_CNT -/ ⟨0xB0,0xB0,0x15,0x15,0,0,.u32,.ro,.n 0,.full,.immediate⟩,
  /- EQ_FLUSH_WORDS -/ ⟨0xB0,0xB0,0x16,0x16,0,0,.u32,.ro,.n 0,.full,.immediate⟩,
  /- EQ_MALFORMED_CNT -/ ⟨0xB0,0xB0,0x17,0x17,0,0,.u32,.ro,.n 0,.full,.immediate⟩,
  /- ARCH_LAST -/ ⟨0xB0,0xB0,0x20,0x20,0,0,.u32,.ro,.n 0,.full,.immediate⟩,
  /- ARCH_SEL -/ ⟨0xB0,0xB0,0x21,0x21,0,0,.u32,.rw,.n 0,.full,.immediate⟩,
  /- ARCH_RECORD -/ ⟨0xB0,0xB0,0x22,0x22,0,0,.blob,.ro,.byts,.full,.immediate⟩,
  /- ARCH_SKIP_CNT -/ ⟨0xB0,0xB0,0x23,0x23,0,0,.u32,.ro,.n 0,.full,.immediate⟩]

/-- Object rows of group 0xB1 (part 1 of the object tables of spec/). -/
def tabB1 : List Row := [
  /- ALARM_NODE -/ ⟨0xB1,0xB1,0x01,0x01,0,0,.u16,.rwa,.n 65535,.iv [(0,4095),(65535,65535)],.commit⟩,
  /- RING_PEN_RATE -/ ⟨0xB1,0xB1,0x02,0x02,0,0,.u32,.rwa,.n 100,.iv [(1,100000)],.commit⟩,
  /- RING_PEN_BURST -/ ⟨0xB1,0xB1,0x03,0x03,0,0,.u8,.rwa,.n 16,.iv [(1,64)],.commit⟩,
  /- RING_PEN_GATHER -/ ⟨0xB1,0xB1,0x04,0x04,0,0,.u32,.rwa,.n 2,.iv [(0,100)],.commit⟩,
  /- COAL_WINDOW -/ ⟨0xB1,0xB1,0x05,0x05,0,0,.u32,.rw,.n 1000,.iv [(10,60000)],.commit⟩,
  /- ARCHIVE_LEVEL -/ ⟨0xB1,0xB1,0x06,0x06,0,0,.u8,.rwa,.n 1,.iv [(0,6)],.commit⟩,
  /- ALARM_RULE_n -/ ⟨0xB1,0xB1,0x10,0x10,1,32,.u64,.rw,.n 0,.special,.commit⟩,
  /- EV_CAT_COUNT -/ ⟨0xB1,0xB1,0x20,0x20,0,0,.u16,.ro,.n 0,.full,.immediate⟩,
  /- EV_CAT_SEL -/ ⟨0xB1,0xB1,0x21,0x21,0,0,.u16,.rw,.n 0,.iv [(0,65535)],.immediate⟩,
  /- EV_CAT_ENTRY -/ ⟨0xB1,0xB1,0x22,0x22,0,0,.u64,.ro,.n 0,.full,.immediate⟩,
  /- OUTBOX_LEVEL -/ ⟨0xB1,0xB1,0x30,0x30,0,0,.u16,.ro,.n 0,.full,.immediate⟩,
  /- RING_TOKENS -/ ⟨0xB1,0xB1,0x31,0x31,0,0,.u8,.ro,.n 16,.full,.immediate⟩,
  /- RING_PEN_SENT_CNT -/ ⟨0xB1,0xB1,0x32,0x32,0,0,.u32,.ro,.n 0,.full,.immediate⟩,
  /- RING_PEN_RX_CNT -/ ⟨0xB1,0xB1,0x33,0x33,0,0,.u32,.ro,.n 0,.full,.immediate⟩,
  /- PEN_NO_DEST_CNT -/ ⟨0xB1,0xB1,0x34,0x34,0,0,.u32,.ro,.n 0,.full,.immediate⟩,
  /- PEN_SUPPRESSED_CNT -/ ⟨0xB1,0xB1,0x35,0x35,0,0,.u32,.ro,.n 0,.full,.immediate⟩]

/-- Object rows of group 0xB2 (part 1 of the object tables of spec/). -/
def tabB2 : List Row := [
  /- TRACE_EN -/ ⟨0xB2,0xB2,0x01,0x01,0,0,.u8,.rw,.n 0,.mask 0x1F,.immediate⟩,
  /- TRACE_LEGS -/ ⟨0xB2,0xB2,0x02,0x02,0,0,.u32,.rw,.n 0,.full,.immediate⟩,
  /- TRACE_DECIM -/ ⟨0xB2,0xB2,0x03,0x03,0,0,.u16,.rw,.n 100,.iv [(1,65535)],.immediate⟩,
  /- TRACE_OUTLETS -/ ⟨0xB2,0xB2,0x04,0x04,0,0,.u8,.rw,.n 15,.mask 0xF,.immediate⟩,
  /- TRACE_LS -/ ⟨0xB2,0xB2,0x05,0x05,0,0,.u16,.rw,.n 0,.full,.immediate⟩,
  /- TRACE_DEST -/ ⟨0xB2,0xB2,0x06,0x06,0,0,.enum8,.rw,.n 0,.iv [(0,1)],.immediate⟩,
  /- TRACE_NODE -/ ⟨0xB2,0xB2,0x07,0x07,0,0,.u16,.rw,.n 65535,.iv [(0,4095),(65535,65535)],.immediate⟩,
  /- TRACE_OUTBOX_LEVEL -/ ⟨0xB2,0xB2,0x08,0x08,0,0,.u32,.ro,.n 0,.full,.immediate⟩]

/-- Object rows of group 0xC0 (part 1 of the object tables of spec/). -/
def tabC0 : List Row := [
  /- VON_EN -/ ⟨0xC0,0xC0,0x01,0x01,0,0,.bool,.rwa,.n 0,.iv [(0,1)],.commit⟩,
  /- VON_COUPLING -/ ⟨0xC0,0xC0,0x02,0x02,0,0,.enum8,.rwa,.n 0,.iv [(0,1)],.commit⟩,
  /- VON_TX_LEVEL -/ ⟨0xC0,0xC0,0x03,0x03,0,0,.u8,.rwa,.n 0,.iv [(0,60)],.commit⟩,
  /- VON_BLANK_LVL -/ ⟨0xC0,0xC0,0x04,0x04,0,0,.u16,.rw,.n 16384,.iv [(1024,65535)],.commit⟩,
  /- VON_BLANK_EXT -/ ⟨0xC0,0xC0,0x05,0x05,0,0,.u16,.rw,.n 12,.iv [(0,120)],.commit⟩,
  /- VON_DAMAGE_FRAC -/ ⟨0xC0,0xC0,0x06,0x06,0,0,.u16,.rw,.n 120,.iv [(10,500)],.commit⟩,
  /- VON_REPOLL_MAX -/ ⟨0xC0,0xC0,0x07,0x07,0,0,.u8,.rw,.n 2,.iv [(0,7)],.commit⟩,
  /- VON_LOST_N -/ ⟨0xC0,0xC0,0x08,0x08,0,0,.u8,.rw,.n 5,.iv [(1,50)],.commit⟩,
  /- VON_LOST_INT -/ ⟨0xC0,0xC0,0x09,0x09,0,0,.u32,.rw,.n 10000,.iv [(1000,600000)],.commit⟩,
  /- VON_TX_TRIES -/ ⟨0xC0,0xC0,0x0A,0x0A,0,0,.u8,.rw,.n 8,.iv [(1,50)],.commit⟩,
  /- VON_BEACON_DATA -/ ⟨0xC0,0xC0,0x0B,0x0B,0,0,.blob,.rw,.byts,.blob 0 88,.immediate⟩,
  /- VON_SLAVE_n -/ ⟨0xC0,0xC0,0x10,0x10,1,240,.u32,.rwa,.n 0,.special,.commit⟩,
  /- VON_SEL -/ ⟨0xC0,0xC0,0x20,0x20,0,0,.u8,.rw,.n 1,.iv [(1,240)],.immediate⟩,
  /- VON_TX_BOX -/ ⟨0xC0,0xC0,0x21,0x21,0,0,.blob,.rw,.byts,.blob 0 96,.immediate⟩,
  /- VON_TX_STATE -/ ⟨0xC0,0xC0,0x22,0x22,0,0,.enum8,.ro,.n 0,.full,.immediate⟩,
  /- VON_RX_BOX -/ ⟨0xC0,0xC0,0x23,0x23,0,0,.blob,.ro,.byts,.full,.immediate⟩,
  /- VON_RX_AT -/ ⟨0xC0,0xC0,0x24,0x24,0,0,.ltime,.ro,.n 0,.full,.immediate⟩,
  /- VON_SLAVE_STATE -/ ⟨0xC0,0xC0,0x25,0x25,0,0,.enum8,.ro,.n 0,.full,.immediate⟩,
  /- VON_SLAVE_CNT -/ ⟨0xC0,0xC0,0x26,0x26,1,5,.u32,.ro,.n 0,.full,.immediate⟩,
  /- VON_STATE -/ ⟨0xC0,0xC0,0x30,0x30,0,0,.enum8,.ro,.n 0,.full,.immediate⟩,
  /- VON_SLOT -/ ⟨0xC0,0xC0,0x31,0x31,0,0,.u32,.ro,.n 0,.full,.immediate⟩,
  /- VON_BLANK_LAST -/ ⟨0xC0,0xC0,0x32,0x32,1,3,.u16,.ro,.n 0,.full,.immediate⟩,
  /- VON_BLANK_MAX -/ ⟨0xC0,0xC0,0x33,0x33,1,3,.u16,.ro,.n 0,.full,.immediate⟩,
  /- VON_SNR -/ ⟨0xC0,0xC0,0x34,0x34,1,3,.u16,.ro,.n 0,.full,.immediate⟩,
  /- VON_TX_FRAMES -/ ⟨0xC0,0xC0,0x35,0x35,0,0,.u32,.ro,.n 0,.full,.immediate⟩,
  /- VON_FOREIGN_CNT -/ ⟨0xC0,0xC0,0x36,0x36,0,0,.u32,.ro,.n 0,.full,.immediate⟩]

/-- Object rows of group 0xD0 (part 1 of the object tables of spec/). -/
def tabD0 : List Row := [
  /- BIST_TARGET -/ ⟨0xD0,0xD0,0x01,0x01,0,0,.u64,.rw,.n 6,.special,.immediate⟩,
  /- BIST_STATE -/ ⟨0xD0,0xD0,0x02,0x02,0,0,.enum8,.ro,.n 0,.full,.immediate⟩,
  /- BIST_SIG -/ ⟨0xD0,0xD0,0x03,0x03,0,0,.u32,.ro,.n 0,.full,.immediate⟩,
  /- BIST_EXPECT -/ ⟨0xD0,0xD0,0x04,0x04,0,0,.u32,.ro,.n 0,.full,.immediate⟩,
  /- BIST_CHILD_COUNT -/ ⟨0xD0,0xD0,0x05,0x05,0,0,.u8,.ro,.n 0,.full,.immediate⟩,
  /- BIST_CHILD_SIG -/ ⟨0xD0,0xD0,0x06,0x06,1,72,.u32,.ro,.n 0,.full,.immediate⟩,
  /- BIST_CHILD_EXP -/ ⟨0xD0,0xD0,0x07,0x07,1,72,.u32,.ro,.n 0,.full,.immediate⟩,
  /- BIST_FIRST_FAIL -/ ⟨0xD0,0xD0,0x08,0x08,0,0,.u64,.ro,.n 18446744073709551615,.full,.immediate⟩,
  /- BIST_FAIL_COUNT -/ ⟨0xD0,0xD0,0x09,0x09,0,0,.u32,.ro,.n 0,.full,.immediate⟩,
  /- BIST_ORIGIN -/ ⟨0xD0,0xD0,0x0A,0x0A,0,0,.enum8,.ro,.n 0,.full,.immediate⟩,
  /- SVC_FRAME_ERR_CNT -/ ⟨0xD0,0xD0,0x10,0x10,0,0,.u32,.ro,.n 0,.full,.immediate⟩,
  /- SVC_CRC_ERR_CNT -/ ⟨0xD0,0xD0,0x11,0x11,0,0,.u32,.ro,.n 0,.full,.immediate⟩,
  /- SVC_ABORT_CNT -/ ⟨0xD0,0xD0,0x12,0x12,0,0,.u32,.ro,.n 0,.full,.immediate⟩,
  /- JTAG_STATE -/ ⟨0xD0,0xD0,0x18,0x18,0,0,.u8,.ro,.n 0,.full,.immediate⟩,
  /- JTAG_ENTRY_CNT -/ ⟨0xD0,0xD0,0x19,0x19,0,0,.u32,.ro,.n 0,.full,.immediate⟩]

/-- Object rows of group 0xD1 (part 1 of the object tables of spec/). -/
def tabD1 : List Row := [
  /- BOOT_SLOT -/ ⟨0xD1,0xD1,0x01,0x01,1,3,.enum8,.ro,.n 0,.full,.immediate⟩,
  /- RUN_SLOT -/ ⟨0xD1,0xD1,0x02,0x02,1,3,.enum8,.ro,.n 0,.full,.immediate⟩,
  /- SLOT_TRIAL -/ ⟨0xD1,0xD1,0x03,0x03,1,3,.bool,.ro,.n 0,.full,.immediate⟩,
  /- SLOT_CONFIRM -/ ⟨0xD1,0xD1,0x04,0x04,0,0,.u8,.wo,.n 0,.mask 0x7,.immediate⟩,
  /- TRIAL_RESETS -/ ⟨0xD1,0xD1,0x05,0x05,0,0,.u8,.ro,.n 0,.full,.immediate⟩,
  /- UPD_TARGET -/ ⟨0xD1,0xD1,0x10,0x10,0,0,.u8,.rw,.n 0,.special,.immediate⟩,
  /- UPD_CONTROL -/ ⟨0xD1,0xD1,0x11,0x11,0,0,.enum8,.wo,.n 0,.iv [(1,4)],.immediate⟩,
  /- UPD_OFFSET -/ ⟨0xD1,0xD1,0x12,0x12,0,0,.u32,.rw,.n 0,.special,.immediate⟩,
  /- UPD_CHUNK -/ ⟨0xD1,0xD1,0x13,0x13,0,0,.blob,.wo,.byts,.blob 1 1022,.immediate⟩,
  /- UPD_STATE -/ ⟨0xD1,0xD1,0x14,0x14,0,0,.enum8,.ro,.n 0,.full,.immediate⟩,
  /- UPD_WRITTEN -/ ⟨0xD1,0xD1,0x15,0x15,0,0,.u32,.ro,.n 0,.full,.immediate⟩,
  /- SWITCH_BLACKOUT_LAST -/ ⟨0xD1,0xD1,0x16,0x16,0,0,.u32,.ro,.n 0,.full,.immediate⟩]

/-- Object rows of group 0xE0 (part 1 of the object tables of spec/). -/
def tabE0 : List Row := [
  /- VBAT_MV -/ ⟨0xE0,0xE0,0x01,0x01,0,0,.s32,.ro,.n 0,.full,.immediate⟩,
  /- VBAT_STATUS -/ ⟨0xE0,0xE0,0x02,0x02,0,0,.u8,.ro,.n 0,.full,.immediate⟩,
  /- TAMP_EN -/ ⟨0xE0,0xE0,0x03,0x03,0,0,.u8,.rwa,.n 7,.special,.commit⟩,
  /- TAMP_STATE -/ ⟨0xE0,0xE0,0x04,0x04,0,0,.u8,.ro,.n 0,.full,.immediate⟩,
  /- TAMP_OPEN_CNT -/ ⟨0xE0,0xE0,0x05,0x05,1,4,.u32,.ro,.n 0,.full,.immediate⟩,
  /- TAMP_AMBIG_CNT -/ ⟨0xE0,0xE0,0x06,0x06,1,4,.u32,.ro,.n 0,.full,.immediate⟩,
  /- VAULT_SAMPLE_HZ -/ ⟨0xE0,0xE0,0x07,0x07,0,0,.enum8,.rwa,.n 3,.iv [(0,4)],.commit⟩,
  /- VAULT_WAKE_MASK -/ ⟨0xE0,0xE0,0x08,0x08,0,0,.u8,.rwa,.n 1,.mask 0x3F,.commit⟩,
  /- VAULT_WAKE_AT -/ ⟨0xE0,0xE0,0x09,0x09,0,0,.ltime,.rw,.n 0,.full,.immediate⟩,
  /- WAKE_SOURCE -/ ⟨0xE0,0xE0,0x0A,0x0A,0,0,.u8,.ro,.n 0,.full,.immediate⟩,
  /- VEV_LAST -/ ⟨0xE0,0xE0,0x10,0x10,0,0,.u32,.ro,.n 0,.full,.immediate⟩,
  /- VEV_ACK -/ ⟨0xE0,0xE0,0x11,0x11,0,0,.u32,.rw,.n 0,.special,.immediate⟩,
  /- VEV_SEL -/ ⟨0xE0,0xE0,0x12,0x12,0,0,.u32,.rw,.n 0,.full,.immediate⟩,
  /- VEV_ENTRY -/ ⟨0xE0,0xE0,0x13,0x13,0,0,.blob,.ro,.byts,.full,.immediate⟩,
  /- VEV_LOST_CNT -/ ⟨0xE0,0xE0,0x14,0x14,0,0,.u32,.ro,.n 0,.full,.immediate⟩,
  /- RTC_TRIM -/ ⟨0xE0,0xE0,0x15,0x15,0,0,.s16,.rwl,.n 0,.iv [(-2000,2000)],.commit⟩,
  /- RTC_STATUS -/ ⟨0xE0,0xE0,0x16,0x16,0,0,.u8,.ro,.n 1,.full,.immediate⟩]

/-- Object rows of group 0xE1 (part 1 of the object tables of spec/). -/
def tabE1 : List Row := [
  /- SUPPLY_STATUS -/ ⟨0xE1,0xE1,0x01,0x01,0,0,.u16,.ro,.n 0,.full,.immediate⟩,
  /- SUPPLY_MV -/ ⟨0xE1,0xE1,0x02,0x02,1,5,.s32,.ro,.n 0,.full,.immediate⟩,
  /- RESET_CAUSE -/ ⟨0xE1,0xE1,0x03,0x03,0,0,.u32,.ro,.n 0,.full,.immediate⟩,
  /- RESET_HISTORY -/ ⟨0xE1,0xE1,0x04,0x04,1,8,.u32,.ro,.n 0,.full,.immediate⟩,
  /- RESET_REQUEST -/ ⟨0xE1,0xE1,0x05,0x05,0,0,.u32,.wo,.n 0,.iv [(0x5E7A,0x5E7A)],.immediate⟩,
  /- BOOT_TIME -/ ⟨0xE1,0xE1,0x06,0x06,0,0,.u32,.ro,.n 0,.full,.immediate⟩,
  /- PFW_CNT -/ ⟨0xE1,0xE1,0x07,0x07,0,0,.u32,.ro,.n 0,.full,.immediate⟩,
  /- NOWARN_LOSS_CNT -/ ⟨0xE1,0xE1,0x08,0x08,0,0,.u32,.ro,.n 0,.full,.immediate⟩]

/-- Object rows of group 0xE2 (part 1 of the object tables of spec/). -/
def tabE2 : List Row := [
  /- WD_EN -/ ⟨0xE2,0xE2,0x01,0x01,0,0,.bool,.rwa,.n 0,.iv [(0,1)],.commit⟩,
  /- HB_BAUD -/ ⟨0xE2,0xE2,0x02,0x02,0,0,.u32,.rwa,.n 19200,.iv [(9600,115200)],.commit⟩,
  /- HB_MIN -/ ⟨0xE2,0xE2,0x03,0x03,0,0,.u32,.rwa,.n 5,.iv [(1,1000)],.commit⟩,
  /- HB_MAX -/ ⟨0xE2,0xE2,0x04,0x04,0,0,.u32,.rwa,.n 100,.iv [(10,5000)],.commit⟩,
  /- HB_FAULT_MAX -/ ⟨0xE2,0xE2,0x05,0x05,0,0,.u8,.rwa,.n 3,.iv [(1,15)],.commit⟩,
  /- HB_RESYNC -/ ⟨0xE2,0xE2,0x06,0x06,0,0,.u8,.rwa,.n 8,.iv [(2,255)],.commit⟩,
  /- WD_STATE -/ ⟨0xE2,0xE2,0x07,0x07,0,0,.enum8,.ro,.n 0,.full,.immediate⟩,
  /- WD_RELEASE -/ ⟨0xE2,0xE2,0x08,0x08,0,0,.bool,.wo,.n 0,.iv [(0,1)],.immediate⟩,
  /- HB_SEQ_LAST -/ ⟨0xE2,0xE2,0x09,0x09,0,0,.u8,.ro,.n 0,.full,.immediate⟩,
  /- HB_FAULT_CNT -/ ⟨0xE2,0xE2,0x0A,0x0A,0,0,.u32,.ro,.n 0,.full,.immediate⟩,
  /- WD_EXPIRE_CNT -/ ⟨0xE2,0xE2,0x0B,0x0B,0,0,.u32,.ro,.n 0,.full,.immediate⟩,
  /- LIMP_MAP_n -/ ⟨0xE2,0xE2,0x10,0x10,1,16,.u8,.rwa,.n 255,.iv [(0,7),(255,255)],.commit⟩,
  /- LIMP_PINS -/ ⟨0xE2,0xE2,0x11,0x11,0,0,.u16,.ro,.n 0,.full,.immediate⟩,
  /- LIMP_DEBOUNCE -/ ⟨0xE2,0xE2,0x12,0x12,0,0,.u32,.rwa,.n 1,.iv [(0,50)],.commit⟩]

/-- The rows of one group (R37: a group absent from the map has none). -/
def rowsOf (g : Nat) : List Row :=
  if g == 0x00 then tab00 else
  if g == 0x01 then tab01 else
  if g == 0x02 then tab02 else
  if g == 0x03 then tab03 else
  if g == 0x04 then tab04 else
  if g == 0x05 then tab05 else
  if (0x10 <= g && g <= 0x13) then tab10 else
  if (0x20 <= g && g <= 0x45) then tab20 else
  if g == 0x50 then tab50 else
  if g == 0x51 then tab51 else
  if g == 0x52 then tab52 else
  if g == 0x58 then tab58 else
  if g == 0x59 then tab59 else
  if (0x60 <= g && g <= 0x63) then tab60 else
  if (0x64 <= g && g <= 0x67) then tab64 else
  if g == 0x70 then tab70 else
  if (0x72 <= g && g <= 0x81) then tab72 else
  if (0x88 <= g && g <= 0x8B) then tab88 else
  if g == 0x8C then tab8C else
  if g == 0x90 then tab90 else
  if g == 0x91 then tab91 else
  if g == 0x92 then tab92 else
  if g == 0x93 then tab93 else
  if g == 0x94 then tab94 else
  if g == 0xA0 then tabA0 else
  if g == 0xA1 then tabA1 else
  if g == 0xB0 then tabB0 else
  if g == 0xB1 then tabB1 else
  if g == 0xB2 then tabB2 else
  if g == 0xC0 then tabC0 else
  if g == 0xD0 then tabD0 else
  if g == 0xD1 then tabD1 else
  if g == 0xE0 then tabE0 else
  if g == 0xE1 then tabE1 else
  if g == 0xE2 then tabE2 else
  []

/-- The size of a type in a transfer (R17); a BLOB's length field alone. -/
def Ty.size : Ty → Nat
  | .u8 | .bool | .enum8 => 1
  | .u16 | .s16 | .q15 => 2
  | .u32 | .s32 | .cmd => 4
  | .u64 | .s48 | .s64 | .ltime | .ctime => 8
  | .str32 => 32
  | .res => 16
  | .blob => 2

/-- The types read as two's complement. -/
def Ty.signed : Ty → Bool
  | .s16 | .s32 | .s48 | .s64 | .q15 => true
  | _ => false

/-- The parts of a key (R13). -/
abbrev keyG (k : Nat) : Nat := k / 65536
/-- The object of a key. -/
abbrev keyO (k : Nat) : Nat := k / 256 % 256
/-- The element of a key. -/
abbrev keyE (k : Nat) : Nat := k % 256

/-- The row of an element 01 upward, or of an object with a single value. -/
def rowExact (k : Nat) : Option Row :=
  (rowsOf (keyG k)).find? fun r => r.o0 <= keyO k && keyO k <= r.o1 && r.e0 <= keyE k && keyE k <= r.e1

/-- The highest element of a record object, 0 where the object is none (R14). -/
def topElement (g o : Nat) : Nat :=
  (rowsOf g).foldl (fun acc r => if r.o0 <= o && o <= r.o1 && acc < r.e1 then r.e1 else acc) 0

/-- The row of element 00 of a record object: a U8, read only (R14). -/
def recordRow (g o : Nat) : Row := ⟨g, g, o, o, 0, 0, .u8, .ro, .n (topElement g o), .full, .immediate⟩

/-- The row of any element, element 00 of a record object among them (R14, R36). -/
def rowAt (k : Nat) : Option Row :=
  match rowExact k with
  | some r => some r
  | none => if keyE k == 0 && topElement (keyG k) (keyO k) != 0 then some (recordRow (keyG k) (keyO k)) else none

/-- One region of the default coefficient set (R142): T_TARGET 5,000 ns, everything else zero. -/
def defaultRegion : List Byte := zeros 30 ++ leBytes 2 5000

/-- The default coefficient set (R142). -/
def defaultCoefSet : List Byte :=
  leBytes 4 10000 ++ leBytes 4 20000 ++ leBytes 4 2000 ++ leBytes 2 4 ++ zeros 2 ++
    defaultRegion ++ defaultRegion ++ defaultRegion ++ defaultRegion ++
    defaultRegion ++ defaultRegion ++ defaultRegion ++ defaultRegion

/-- The profile defaults of R270, by object 70:10 to 70:15 and element 01 to 06. CAPACITIVE's T_SC_IN is not used; the model
gives it the smallest value of its range (DESIGN CHOICE, log entry 4). -/
def defaultProfile (o e : Nat) : Int :=
  let row : List Int := match o with
    | 0x10 => [16, 0, 50, 1, 0, 1000]
    | 0x11 => [48, 30, 2000, 1, 3, 200]
    | 0x12 => [64, 300, 20000, 100, 2, 2000]
    | 0x13 => [24, 100, 500, 10, 0, 1000]
    | 0x14 => [16, 100, 50, 1, 1, 500]
    | _ => [32, 50, 50, 1, 1, 1000]
  row.getD (e - 1) 0

/-- The binding an engine starts with (06_phase_loops.md, BIND). -/
def defaultBind (n : Nat) : Int := if n < 32 then n else if n < 36 then (0x40 + (n - 32) : Nat) else 0xFF

/-- The defaults that depend on the instance or the element, as their tables give them. -/
def defaultFn (g o e : Nat) : Val :=
  if 0x20 <= g && g <= 0x45 then
    if o == 0x03 then .bytes defaultCoefSet
    else if o == 0x0C then .num (if g - 0x20 == 36 || g - 0x20 == 37 then 1 else 0)
    else .num (defaultBind (g - 0x20))
  else if g == 0x51 then .num (if o == 0x40 then (if e == 1 then 0 else 1) else if e == 1 then 0xFF else 0)
  else if g == 0x70 then .num (defaultProfile o e)
  else if o == 0x17 then .num (if e == 1 then 1500 else 3500)
  else if o == 0x1C then .num (if e == 2 then 1 else if e == 3 then 32 else 0)
  else .num (0x20 + (g - 0x64) : Nat)

/-- The value an element holds on a new part (R44, the Default column). -/
def defaultVal (k : Nat) : Val :=
  match rowAt k with
  | none => .num 0
  | some r =>
    match r.dflt with
    | .n i => .num i
    | .byts => .bytes []
    | .str => .bytes (zeros 32)
    | .fn => defaultFn (keyG k) (keyO k) (keyE k)

/-- Whether an element is persistent: at-commit, RWA and RWL objects (R44). -/
def persistentKey (k : Nat) : Bool :=
  match rowAt k with
  | none => false
  | some r => r.eff == .commit || r.acc == .rwa || r.acc == .rwl

/-- Groups that an OKM-2240-N does not have (R2, R37). -/
def absentOnN (g : Nat) : Bool := (0x88 <= g && g <= 0x8C) || (0x90 <= g && g <= 0x94)

end Sys2Proof.Machine
end

