-- ==== Sys2Proof/Machine/State.lean ====
section
/-! DEFINITION. State: everything the spec gives the block, as plain data, and its value after reset. -/

namespace Sys2Proof.Machine

/-- Sixteen characters "0", zero padded: UNIT_SERIAL is programmed per unit (R3, log entry 3). -/
def serialReset : List Byte := List.replicate 16 0x30 ++ List.replicate 16 0

/-! ## The part and its dictionary (chapters 00 to 02) -/

/-- The two variants of the part (R1). -/
inductive Variant where
  | l | n
  deriving DecidableEq, Repr

/-- What is fixed in one unit (00:01 to 00:03). -/
structure Part where
  variant : Variant
  stepping : Nat
  serial : List Byte
  deriving DecidableEq, Repr

/-- The transaction status codes (R40). -/
inductive Status where
  | ok | noSuchObject | accessError | rangeError | writeOnly | typeError | busy | stageFull | notAuthorised
  deriving DecidableEq, Repr

/-- A response (R39): whom it answers, the request's opcode and tag, the status and the data. -/
structure Response where
  src : Src
  opcode : Nat
  tag : Nat
  status : Status
  data : List Byte
  deriving DecidableEq, Repr

/-- The status field of a result (R59). -/
inductive ResStatus where
  | idle | pending | completed | aborted | failed | refused
  deriving DecidableEq, Repr

/-- The result record of a command (R59), with the argument of the command it belongs to. -/
structure Res where
  status : ResStatus
  abortLate : Bool
  abortReq : Bool
  part : Bool
  readCount : Nat
  seq : Nat
  detail : Nat
  value : Nat
  arg : Nat
  deriving DecidableEq, Repr

/-- A result as every reset leaves it (R63). -/
def Res.reset : Res := ⟨.idle, false, false, false, 0, 0, 0, 0, 0⟩

/-- The single segment buffer (R499): the object, its declared length and the bytes held. -/
structure SegBuf where
  key : Nat
  declared : Nat
  held : List Byte
  deriving DecidableEq, Repr

/-- What the dictionary mechanics hold beside the objects' values (R41, R48 to R56, R58 to R66). -/
structure DictState where
  /-- staged entries, oldest first (R49, R50) -/
  staging : List (Nat × Val)
  /-- the segment buffer (R499) -/
  seg : Option SegBuf
  /-- the frozen commit set (R51) -/
  commitSet : List (Nat × Val)
  /-- entries waiting for the next billing boundary (R53) -/
  billHold : List (Nat × Val)
  /-- the configuration store in MRAM: the persistent values in effect from the next boot (R44, R51, R65) -/
  store : List (Nat × Val)
  /-- the commit set journaled as stored but not applied, with its COMMIT_SEQ (R55) -/
  journal : List (Nat × Val)
  /-- whether a stored commit set waits in the journal (R55) -/
  journalled : Bool
  /-- the mark that the store is blank (R65, R87) -/
  blank : Bool
  /-- an erase ordered and not yet stored (R65) -/
  erasing : Bool
  /-- the present commit set was ordered before an erase, so the store does not keep it (R65) -/
  commitErased : Bool
  /-- the results of the thirteen commands (R58, R64) -/
  res : Vector Res 13
  /-- transactions waiting at the ordering point (R41, R48) -/
  queue : List (Src × Request)
  /-- responses waiting for their transport, oldest first (R39) -/
  responses : List Response
  deriving DecidableEq, Repr

/-- The dictionary mechanics on a new part. -/
def DictState.reset : DictState :=
  ⟨[], none, [], [], [], [], false, true, false, false, Vector.replicate 13 Res.reset, [], []⟩

/-! ## Modes and power states (chapter 03) -/

/-- The behaviours a resource class can take (R71, R72). -/
inductive Beh where
  | run | runI | park | track | off | opened | closed | mirror | failsafe | host | full | fullI | zero | listen
  | bypassed | meter | idle | keep | stopped | ready | service | active | low | vault
  deriving DecidableEq, Repr

/-- What the mode machinery holds beside group 0x01 (R69 to R87). -/
structure ModeState where
  /-- the behaviour each class has reached, in the order of MODE_TRANSIT (R68, R70) -/
  beh : Vector Beh 8
  /-- the LIMP bit the load-switch class has reached (R69, R70) -/
  limpReached : Bool
  /-- the pin LIMP_EN (R69) -/
  limpEn : Bool
  /-- an orderly stop is under way (R78) -/
  stopping : Bool
  /-- legal time of the write that started the stop (R79) -/
  stopAt : Nat
  /-- outlets whose 5 ms contactor delay runs (R78, step 4) -/
  ctrDelay : Vector Bool 4
  /-- the last step of a VAULT entry made: 0 none, 6 power removed (R85) -/
  vaultStep : Nat
  /-- classes whose engines are being powered and restored (R80) -/
  restoring : Vector Bool 8
  /-- the outage intervals' start while integration is stopped by a VAULT entry (R85) -/
  meterStopped : Bool
  deriving DecidableEq, Repr

/-- Word 0x01: every class at its unclaimed behaviour (R70, R87). -/
def ModeState.reset : ModeState :=
  ⟨⟨#[.park, .closed, .host, .zero, .meter, .keep, .ready, .active], rfl⟩, false, false, false, 0,
   Vector.replicate 4 false, 0, Vector.replicate 8 false, false⟩

/-! ## Fabric, islands and containment (chapter 04) -/

/-- What the fabric holds beside group 0x05 (R90 to R103). Blocks are (region, block), cells (region, block, cell). -/
structure FabState where
  /-- consecutive measurements at or above PACE_FLOOR (R92) -/
  paceRun : Nat
  /-- fenced cells (R101, R103) -/
  cells : List (Nat × Nat × Nat)
  /-- fenced blocks -/
  blocks : List (Nat × Nat)
  /-- fenced regions -/
  regions : List Nat
  /-- legs wait for the first epoch boundary after a relock (R96) -/
  clockHold : Bool
  deriving DecidableEq, Repr

/-- No fence after a reset (R103). -/
def FabState.reset : FabState := ⟨0, [], [], [], false⟩

/-! ## Phase legs: pulse generation (chapter 05). Times are in fine ticks of 156.25 ps, written ft. -/

/-- Where a leg stands in its period (R109, R110, R113, R120). -/
inductive Interval where
  | parked      -- pins low; virtual boundaries continue
  | heldOff     -- captured CMD 0
  | heldOn      -- captured CMD 0xFFFF_FFFF with FULL_ON_EN
  | high        -- the high side conducts
  | deadA       -- after a high-side turn-off
  | low         -- the low side conducts
  | deadB       -- after a low-side turn-off
  | dropped     -- CONST_ON pulse dropped: off until the next virtual boundary
  | dropWait    -- CONST_OFF pulse dropped: the high side turns on at the next boundary
  deriving DecidableEq, Repr

/-- The committed values that shape a period (R116, R130), in their table units. -/
structure LegCfg where
  carrier : Nat
  onMin : Nat
  onMax : Nat
  offMin : Nat
  offMax : Nat
  periodMin : Nat
  periodMax : Nat
  dtMin : Nat
  dtMax : Nat
  minPulse : Nat
  shortMode : Nat
  swnMode : Nat
  fullOn : Bool
  frac : Nat
  deriving DecidableEq, Repr

/-- The defaults of R130. -/
def LegCfg.reset : LegCfg := ⟨0, 100, 50000, 100, 50000, 2000, 50000, 20, 500, 40, 0, 0, false, 0x2000⟩

/-- One update in a leg's shadow (R116): a command word with its flags, committed values, or an override. -/
inductive Upd where
  | cmd (word : Nat) (forcedA forcedB : Bool) (engine : Nat)
  | cfg (c : LegCfg)
  | ovr (v : Nat)
  deriving DecidableEq, Repr

/-- An update with the moment it reached the shadow, whether it missed a boundary by the two-tick window, and whether it was
put off at a boundary at which the leg conducted (R116, R121). -/
structure Pend where
  at_ : Nat
  upd : Upd
  late : Bool
  deferred : Bool
  /-- a newer update has been captured before it: CAPTURE_STATUS no longer reports it (R116) -/
  old : Bool
  deriving DecidableEq, Repr

/-- One leg PH n. -/
structure Leg where
  iv : Interval
  /-- the captured command word and flags (R111) -/
  cmd : Nat
  forcedA : Bool
  forcedB : Bool
  /-- the engine whose command was captured last (R129, R137) -/
  cmdEngine : Nat
  /-- the active set (R116) -/
  act : LegCfg
  /-- the captured override (R121) -/
  ovr : Nat
  /-- the shadow, oldest update first (R116) -/
  shadow : List Pend
  /-- the hold buffer's committed values and override (R117) -/
  holdCfg : Option LegCfg
  holdOvr : Option Nat
  /-- the last boundary, real or virtual -/
  bnd : Nat
  /-- the start of the present interval: a turn-on, or t_off of a dead time -/
  start : Nat
  /-- TIME_ACTIVE of the period (R111), and the pulse that is timed after the short-pulse rule -/
  timeActive : Nat
  /-- dead times that precede the pulses of this period, 0 where none does (R120) -/
  dtA : Nat
  dtB : Nat
  /-- conduction of the present period (ON_MEAS, OFF_MEAS) -/
  onTime : Nat
  offTime : Nat
  /-- high-side conduction of the last completed period, which ON_MEAS does not show while the leg is held on (R131) -/
  onLast : Nat
  /-- an END_OFF or END_ON that has arrived in this conduction (R109, R110) -/
  endAt : Option Nat
  /-- the end event has been accepted, at this moment -/
  accepted : Option Nat
  /-- the timed low-side conduction of CONST_OFF has ended -/
  timedDone : Bool
  /-- previous boundary + PERIOD_MIN has passed -/
  minDone : Bool
  /-- the governing slot has been reached -/
  slotDone : Bool
  /-- the level registered on SWN, and when it was first registered at the target of the dead time that runs (R118) -/
  swn : Bool
  swnHit : Option Nat
  /-- a dead time under way when the leg was shut down: it still runs to its end and makes no turn-on; true is edge A (R118,
  R129) -/
  cut : Option Bool
  /-- the moment of the next turn-on at a boundary, once the dead-time algorithm has yielded it -/
  turnOn : Option Nat
  /-- sync slots computed and not spent, each with the T_p it was computed from (R123) -/
  slots : List (Nat × Nat)
  /-- the predecessor's last pulse -/
  predAt : Option Nat
  /-- a real boundary was made since reset (R113, R123) -/
  realSeen : Bool
  /-- a CMD was delivered since the leg left PARK or lost its engine (R111, R126) -/
  cmdSeen : Bool
  /-- a fault was cleared: the leg resumes with a nonzero CMD only (R128) -/
  afterFault : Bool
  /-- the pin FLT_N reads low (R127, R128) -/
  fltLow : Bool
  /-- parked because its engine fell silent (R134) -/
  silent : Bool
  /-- shut down on temperature or on its sensor, and not returned (R148) -/
  otOut : Bool
  /-- left by shedding (R149), and its boundary at which it was held off has come (R150, R151) -/
  shed : Bool
  left : Bool
  /-- soft entry: 0 none, 1 before its first boundary, 2 before its second, 3 entered while others still enter (R150) -/
  entry : Nat
  /-- the latched share in mA (R150) -/
  share : Int
  /-- edge-path samples, newest last, at most three, as (moment represented, mA) (R141) -/
  edges : List (Nat × Int)
  /-- sums of value × overlap for the present period and for the last completed one (R139) -/
  accCur : Int
  accPrev : Int
  perStart : Nat
  perEnd : Nat
  perOpen : Bool
  /-- the crossing the engine predicts for END_OFF or END_ON (R141) -/
  predict : Option Nat
  deriving DecidableEq, Repr

/-- A leg after reset: parked, nothing captured. -/
def Leg.reset : Leg :=
  ⟨.parked, 0, false, false, 0xFF, LegCfg.reset, 0, [], none, none, 0, 0, 0, 0, 0, 0, 0, 0, none, none, false, false, false,
   false, none, none, none, [], none, false, false, false, false, false, false, false, false, 0, 0, [], 0, 0, 0, 0, false, none⟩

/-! ## Loop engines and regulation (chapter 06) -/

/-- One loop engine LE n, beside its objects (R140, R143, R144). -/
structure Engine where
  /-- the integrator S, mA·µs with 16 fraction bits -/
  s : Int
  windup : Bool
  /-- samples for which the candidate region has differed from the active one, and that candidate (R143) -/
  dwell : Nat
  cand : Nat
  /-- the coefficient set in use; it follows COEF_SET at the first sample after a commit (R143) -/
  coef : List Byte
  /-- the command word, the flags and the valley command last computed, for the shadow comparison (R137) -/
  lastCmd : Nat
  lastA : Bool
  lastB : Bool
  lastI : Int
  deriving DecidableEq, Repr

/-- An engine after reset; its coefficient set is empty until its first sample takes COEF_SET (R143). -/
def Engine.reset : Engine := ⟨0, false, 0, 0, [], 0, false, false, 0⟩

/-- A rebind under way (R135 to R137). -/
structure Rebind where
  target : Nat
  newE : Nat
  oldE : Nat        -- 0xFF where the target had none
  auto : Bool
  warm : Bool
  /-- 0 waiting for the copy, 1 shadowing, 2 switched, 3 captured and not recorded, 4 recorded and not captured, 5 both -/
  phase : Nat
  matched : Nat     -- shadow samples that agreed
  bcount : Nat      -- BOUNDARY_COUNT at the first capture of a CMD from the new engine
  deriving DecidableEq, Repr

/-- One phase group PG k, beside its objects (R32, R145, R146, R149 to R151). -/
structure Group where
  /-- the target and the command, mA (R145, R146) -/
  target : Int
  cmd : Int
  /-- the GRANT target of the present epoch, and the grant it came from -/
  grantTarget : Int
  /-- the ramp: its start value, its start moment in ft and T_R in ns; T_R 0 where no ramp runs -/
  rampFrom : Int
  rampAt : Nat
  rampNs : Nat
  /-- the change and the time, in ns, behind the present rate -/
  rateNum : Int
  rateDen : Nat
  /-- a PORT_STOP or an emergency stop holds the target at zero until the next delivery (R34, R194) -/
  portStopped : Bool
  /-- the epoch, modulo 65,536, of the PORT_STOP (R194) -/
  stopEpoch : Nat
  /-- parked: both gate outputs of every leg low (R72, R78, R32 step 2) -/
  parked : Bool
  /-- legs that carry when nothing is shed or the number shedding has left (R149) -/
  nTarget : Nat
  /-- the N before the shed decision, while the window is open (R151) -/
  nBefore : Nat
  windowOpen : Bool
  /-- when the last leaving leg was held off, from which the window runs on (R151) -/
  windowFrom : Option Nat
  /-- the candidate N of R149 and for how many samples it has held -/
  candN : Nat
  candRun : Nat
  /-- the route last energised, 0 none; and the target of the switch-over (R32) -/
  routeNow : Nat
  routeNext : Nat
  /-- the ROUTE_n value under which the contactor of routeNow was energised, 0 none: its coil and its feedback (R31, R32) -/
  nowVal : Nat
  /-- ROUTE_SELECT was written and its epoch has not come (R32) -/
  routeWritten : Bool
  /-- the group was connected at the last epoch boundary and places claims (R32 step 4, R163) -/
  claims : Bool
  /-- the regulation-path voltages last sampled, mV -/
  vin : Int
  vout : Int
  /-- the pin's target before any limit, mA (R145, R163) -/
  pin : Int
  /-- the last pulse taken on SYNC_IN, and the last sync pulse of the leg before the group's first (R122, R123) -/
  pinPulse : Option Nat
  upPulse : Option Nat
  deriving DecidableEq, Repr

/-- A group after reset: parked, no route. -/
def Group.reset : Group :=
  ⟨0, 0, 0, 0, 0, 0, 0, 1, false, 0, true, 8, 8, false, none, 8, 0, 0, 0, 0, false, false, 0, 0, 0, none, none⟩

/-! ## Site allocation (chapter 07) -/

/-- A port entry of a claim block (R158). -/
structure PortEntry where
  valid : Bool
  attach : Nat
  src : Bool
  floor : Nat
  stor : Bool
  ceil : Nat
  prev : Nat
  prevNeg : Bool
  ramp : Nat
  tier : Nat
  deriving DecidableEq, Repr

/-- A group entry (R159). -/
structure GroupEntry where
  node : Nat
  kind : Nat
  index : Nat
  cap : Nat
  deriving DecidableEq, Repr

/-- A claim block (R157): eight port entries and four group entries. -/
structure Block where
  node : Nat
  island : Bool
  hold : Bool
  crcv : Bool
  epoch : Nat
  crc : Nat
  ports : List PortEntry
  groups : List GroupEntry
  deriving DecidableEq, Repr

/-- The last block received from a roster member, and its absence (R180): how many waves in a row it has missed, and the
grants of its ports in the third substituted wave. -/
structure Subst where
  block : Block
  missed : Nat
  frozen : List Int
  deriving DecidableEq, Repr

/-- The grants that concern this node: OUT0 to OUT3 and XP0 to XP3, and PG0 to PG3, in W (R156, R175, R183). -/
structure Grants where
  ports : Vector Int 8
  groups : Vector Int 4
  deriving DecidableEq, Repr

/-- No grant. -/
def Grants.zero : Grants := ⟨Vector.replicate 8 0, Vector.replicate 4 0⟩

/-- The claim buffer of one outlet (R104, R160, R234): session ceiling and floor, and DIR. -/
structure ClaimBuf where
  ceil : Nat
  floor : Nat
  src : Bool
  deriving DecidableEq, Repr

/-- What the allocation holds beside its objects. -/
structure SiteState where
  /-- the claim buffers of the outlets -/
  claims : Vector ClaimBuf 4
  /-- blocks of the present wave, the node's own among them (R169) -/
  got : List Block
  /-- the last block of each member (R180) -/
  last : List Subst
  /-- the snapshot is fixed; its blocks, each with whether its ports are fixed (R169, R172, R180) -/
  frozen : Bool
  snap : List (Block × Bool)
  /-- the wave is complete (R170, R203) -/
  waveDone : Bool
  /-- whether the snapshot is computable, and the results for the next boundary with their checksum (R174, R176) -/
  toCompute : Bool
  computed : Option (Grants × Nat)
  /-- the grants released, and the last safe ones (R177, R178) -/
  applied : Grants
  safe : Grants
  /-- the checksum of the grants computed for the last boundary, where there is one (CRCV) -/
  crc : Option Nat
  /-- the node holds, and the next block clears HOLD (R178, R179) -/
  hold : Bool
  clearHold : Bool
  /-- the node's checksum matched the reference in this epoch's vote (R179) -/
  matched : Bool
  /-- caps while isolated (R164); isolation that waits for a boundary marked before the loss (R184) -/
  isoCap : Option Grants
  isoSoon : Bool
  /-- consecutive epochs with EPOCH_PERIOD below and at or above EPOCH_MIN (R171) -/
  shortRun : Nat
  longRun : Nat
  /-- a run of epochs with floor cuts is under way (R174) -/
  cutRun : Bool
  /-- E_rem of each outlet and the remaining interval in ms, as last delivered (R161) -/
  budget : Vector (Nat × Nat) 4
  /-- a tree is held, and then the tree in use (R168) -/
  treeHeld : Bool
  treeInUse : List (Nat × Val)
  /-- RT of each group's destination port in the last snapshot (R163) -/
  groupRt : Vector Nat 4
  /-- groups routed to a port that no node declares, and the ports the last snapshot declared: node and index (R30) -/
  noPort : Vector Bool 4
  declared : List (Nat × Nat)
  /-- W lost to each outlet's feeding groups since the last boundary (R238) -/
  offerLoss : Vector Nat 4
  deriving DecidableEq, Repr

/-- The allocation after a reset. -/
def SiteState.reset : SiteState :=
  ⟨Vector.replicate 4 ⟨0, 0, false⟩, [], [], false, [], false, false, none, Grants.zero, Grants.zero, none, false, false, false, none, false, 0, 0,
   false, Vector.replicate 4 (0, 0), false, [], Vector.replicate 4 0, Vector.replicate 4 false, [], Vector.replicate 4 0⟩

/-! ## The Halyard ring (chapter 08) -/

/-- A member of the roster, or a pending one (R210). -/
structure Member where
  addr : Nat
  tag : Nat
  deriving DecidableEq, Repr

/-- An own Ensign item that waits for release (R194, R197). -/
structure Item where
  kind : Nat
  port : Nat
  group : Nat
  lost : Nat
  /-- its SEQ once its first slot has left, and the rings it has left on -/
  seq : Option Nat
  sent : List Nat
  deriving DecidableEq, Repr

/-- A frame under reassembly (R195): the ring it comes on, its sender, the TYPE of its slots, its FRAME_ID, where it goes, and the payloads
so far. -/
structure FramePart where
  ring : Nat
  src : Nat
  typ : Nat
  id : Nat
  dest : Nat
  bytes : List Byte
  deriving DecidableEq, Repr

/-- What the ring engine holds beside its objects. -/
structure RingState where
  /-- the roster and the changes published and not yet effective (R210) -/
  roster : List Member
  changes : List Change
  /-- changes this node places in its next mark while it is the hoist (R211 to R214) -/
  toPlace : List Change
  /-- address and SERIAL_TAG of the launcher followed (R200), and the node that HOIST_TO named (R201) -/
  launcher : Option (Nat × Nat)
  nextHoist : Option Nat
  /-- the launcher followed before and the EPOCH of the last mark it followed of it; the EPOCH of the last mark followed (R200, R202) -/
  prior : Option (Nat × Nat × Nat)
  markEpoch : Nat
  /-- milliseconds since a mark was followed (R200) -/
  quiet : Nat
  /-- this launcher started cold, with no roster (R200, R212); its last mark has left (R201) -/
  cold : Bool
  lastMark : Bool
  /-- epochs whose mark has passed since the node began to join (R211) -/
  marks : Nat
  /-- PERIOD_NS of the last mark, and whether it differs from EPOCH_PERIOD (R202) -/
  period : Nat
  mismatch : Bool
  /-- a boundary has come and its grants are not released yet -/
  due : Bool
  /-- between the mark and the completion of the wave (R198) -/
  window : Bool
  /-- passes of the CLOSE_MARK of the present wave on each ring, and the time of the first (R203) -/
  passes : Vector Nat 2
  firstPass : Vector Nat 2
  /-- passes of the CLOSE_MARK of the epoch before, which its launcher still strips (R203) -/
  oldPasses : Vector Nat 2
  /-- the node's own block has left on each ring; a CLOSE_MARK is held on each ring, with its HOPS_LEFT (R203) -/
  blockOut : Vector Bool 2
  heldClose : Vector (Option Nat) 2
  /-- own Ensign items, oldest first; those ready at each output, as HOPS_LEFT, payload and whether a full relay buffer has
  deferred it; and the next SEQ (R194, R197) -/
  items : List Item
  ready : Vector (List (Nat × List Byte × Bool)) 2
  seq : Nat
  /-- slots held in the relay buffer of each ring (R197) -/
  relay : Vector (List (List Byte)) 2
  /-- slots that wait for an EMPTY slot of each output: marks and claim blocks, each with whether it is the node's own block (R193, R203);
  and the slots of frames with their TYPE (R195, R199) -/
  wave : Vector (List (Bool × List Byte)) 2
  shared : Vector (List (Nat × List Byte)) 2
  /-- the place in the rotation of the shared classes, and whether the next EMPTY slot is let pass (R199) -/
  turn : Vector Nat 2
  letPass : Vector Bool 2
  /-- slots a hoist has originated on each ring, modulo 16 (R190) -/
  origin : Vector Nat 2
  frameId : Nat
  /-- frames accepted: SRC, FRAME_ID and epoch (R195) -/
  accepted : List (Nat × Nat × Nat)
  parts : List FramePart
  /-- frames of firmware data received: sender and data (R195) -/
  firmware : List (Nat × List Byte)
  /-- NEIGHBOUR_CHANGE reports: reporter, ring, old and new upstream neighbour (R214) -/
  reports : List (Nat × Nat × Nat × Nat)
  /-- epochs since the last JOIN (R211) -/
  sinceJoin : Nat
  /-- at the hoist: rings on which its mark has returned unturned since one was turned; a mark has returned turned; a mark has
  returned since the last launch (R200, R206) -/
  unturned : Vector Bool 2
  siteTurned : Bool
  returned : Bool
  /-- BYP_HOLD waits for its conditions (R207) -/
  bypWanted : Bool
  deriving DecidableEq, Repr

/-- The ring engine after a reset: outside any roster. -/
def RingState.reset : RingState :=
  ⟨[], [], [], none, none, none, 0, 0, false, false, 0, 2000000, false, false, false, Vector.replicate 2 0, Vector.replicate 2 0,
   Vector.replicate 2 0, Vector.replicate 2 false, Vector.replicate 2 none, [], Vector.replicate 2 [], 0, Vector.replicate 2 [],
   Vector.replicate 2 [], Vector.replicate 2 [], Vector.replicate 2 0, Vector.replicate 2 false, Vector.replicate 2 0, 0, [], [], [], [], 0,
   Vector.replicate 2 false, false, true, false⟩

/-! ## Outlets and the vehicle conversation (chapter 09) -/

/-- What the session core answers the vehicle with (R226 to R236). -/
inductive Answer where
  /-- the discovery's answer: the outlet's link-local address, its TCP port, and whether TLS is offered (R226, R229) -/
  | discovery (address : BitVec 128) (port : Nat) (tls : Bool)
  /-- the device's side of a TLS handshake: SECC_CHAIN, and the stapled OCSP response where the host has written one (R228, R229) -/
  | handshake (chain : List Byte) (staple : Option (List Byte))
  /-- the protocol selected (R227) -/
  | protocol (code : Nat)
  /-- the positive answer, the failure code and the "ongoing" value -/
  | ok
  | failed
  | ongoing
  /-- the services offered: DC, and BPT where allowed (R227) -/
  | services (bpt : Bool)
  /-- the outlet's limits, mV, mA, W -/
  | limits (v i p : Int)
  /-- the one schedule: its length in s and its limit in W (R228) -/
  | schedule (seconds : Nat) (p : Int)
  /-- the cable check: 0 ongoing, 1 valid, 2 warning (R232) -/
  | check (status : Nat)
  /-- the present voltage in mV, and whether the precharge voltage is reached (R233, R236) -/
  | voltage (v : Int) (reached : Bool)
  /-- offered power and current, present voltage and current, and the direction (R235) -/
  | offer (p i v cur : Int) (discharge : Bool)
  /-- the meter's totals, mWh (R228) -/
  | meter (imp exp : Nat)
  /-- the host's response body (R228) -/
  | certificate (body : List Byte)
  deriving DecidableEq, Repr

/-- What drives CP of an outlet (R224, R450). -/
inductive PilotDrive where
  /-- not driven -/
  | none
  /-- a constant −12 V, state F -/
  | stateF
  /-- 1 kHz with a duty in 0.1 % -/
  | pwm (duty : Nat)
  /-- a DC level with no PWM, on an MCS outlet -/
  | level
  deriving DecidableEq, Repr

/-- How the 10BASE-T1S PHY of an outlet runs (R220, R222). -/
inductive LineMode where
  /-- powered down, or not driven in MIRROR -/
  | off
  /-- point-to-point CSMA/CD -/
  | csma
  /-- PLCA as coordinator: its node ID, the node count, TO_TIMER and the burst count -/
  | plca (id count toTimer burst : Nat)
  deriving DecidableEq, Repr

/-- What a session core holds of one outlet beside its objects. -/
structure Outlet where
  /-- IMD_OK as last read (R219, R232) -/
  imdOk : Bool
  /-- outputs CCP_EN and CCP_SET, the latter as its target in mV (R232, R233) -/
  ccpEn : Bool
  ccpSet : Int
  /-- the connector is plugged and latched (R225) -/
  plugged : Bool
  /-- the pilot is outside every window of R224 (R221, log entry 40) -/
  pilotOut : Bool
  /-- SLAC matched or the link is up; TLS is complete, and at version 1.3; the protocol handshake is accepted (R223, R227, R229) -/
  linked : Bool
  secured : Bool
  tls13 : Bool
  handshake : Bool
  /-- the network membership key of the association (R223), and the TCP port of the outlet's one connection (R226) -/
  nmk : List Byte
  tcpPort : Option Nat
  /-- the identifiers as received (R230) -/
  evcc : List Byte
  emaid : List Byte
  /-- identification is complete; the host accepted (R230) -/
  identified : Bool
  authorised : Bool
  /-- the vehicle's maximum voltage, mV, and the test voltage of the cable check (R232) -/
  maxV : Int
  testV : Int
  /-- the result of the cable check, 0 none, 1 valid, 2 warning; the precharge voltage was reached (R232, R233) -/
  checked : Nat
  reached : Bool
  /-- the direction taken at the last charge-loop request (R234, R241) -/
  discharge : Bool
  /-- the stop under way is an emergency, and END_CAUSE, none where no listed cause applies (R237, R243, R301) -/
  emergency : Bool
  cause : Option Nat
  /-- both contactors have read closed, so an end record follows (R231) -/
  started : Bool
  deriving DecidableEq, Repr

/-- An outlet after a reset. -/
def Outlet.reset : Outlet :=
  ⟨false, false, 0, false, false, false, false, false, false, [], none, [], [], false, false, 0, 0, 0, false, false, false, none, false⟩

/-! ## Cable and connector cooling (chapter 10) -/

/-- What a cooling loop holds beside its objects. -/
structure Cool where
  /-- the model has been initialised since the engine started (R251) -/
  started : Bool
  /-- conductor and coolant node, µK (R250) -/
  tc : Int
  tk : Int
  /-- the pump integrator, 0.1 % (R254) -/
  ui : Int
  /-- the active period, and legal time in ms at which run-on began (R254, R256) -/
  active : Bool
  runon : Option Nat
  /-- a trip hold stands (R257) -/
  hold : Bool
  /-- consecutive steps each pin has been at PIN_TRIP, and whether T_HS was at HS_TRIP (R257) -/
  pinRun : Vector Nat 4
  hot : Bool
  /-- the last readings within range of the six PT1000 inputs, 0.01 °C -/
  rd : Vector Int 6
  /-- consecutive bad samples of the six PT1000 inputs, up to 10 (R248) -/
  bad : Vector Nat 6
  /-- inputs failed by their readings: six PT1000 and the flow (R248, R249) -/
  failed : Vector Bool 7
  /-- sum and count of the I_OUTLET values published since the last step (R250) -/
  iSum : Int
  iNum : Nat
  /-- the loop has no running engine (R259); and the engine whose model stands, 0xFF none (R251) -/
  noEngine : Bool
  engine : Nat
  /-- the last T_COND reported, 0.01 °C, kept through a boot (R251) -/
  lastCond : Int
  deriving DecidableEq, Repr

/-- A cooling loop after a reset. -/
def Cool.reset : Cool :=
  ⟨false, 0, 0, 0, false, none, false, Vector.replicate 4 0, false, Vector.replicate 6 0, Vector.replicate 6 0, Vector.replicate 7 false,
   0, 0, false, 0xFF, 0⟩

/-! ## Load-switch channels and the heartbeat watchdog (chapter 11) -/

/-- The profile a channel took at its last turn-on (R268, R271). -/
structure Profile where
  loadType : Nat
  tInrush : Nat
  tScIn : Nat
  tOvl : Nat
  retryMax : Nat
  retryDelay : Nat
  deriving DecidableEq, Repr

/-- One channel LS n, beside its objects (R267 to R275). -/
structure Chan where
  /-- the inrush window runs (R268) -/
  window : Bool
  /-- the profile of the present turn-on -/
  prof : Profile
  /-- the state last commanded by the source in force; HOLD keeps it (R266, R274) -/
  cmdOn : Bool
  /-- what the owning function commands (R267) -/
  devCmd : Bool
  /-- the retry that is due follows CURTAILED and consumes nothing (R269) -/
  freeRetry : Bool
  deriving DecidableEq, Repr

/-- A channel after a power-up. -/
def Chan.reset : Chan := ⟨false, ⟨0, 0, 50, 1, 0, 1000⟩, false, false, false⟩

/-- What the power-analog die holds beside the objects (R266, R274, R276, R277, R279). -/
structure LsState where
  chans : Vector Chan 16
  /-- the last sums of the channel currents, one per ms, newest first, at most 1,000 (R266) -/
  sums : List Int
  /-- the retained channel table was lost with both supplies and not reloaded (R279) -/
  tableLost : Bool
  /-- the internal link is silent (R274) -/
  linkSilent : Bool
  /-- a boot has not reached step B7: the channel table alone governs (R279, R450) -/
  booting : Bool
  /-- consecutive valid words and consecutive faults (R276, R277) -/
  validRun : Nat
  faultRun : Nat
  /-- the next word may carry any SEQ; and a word has been valid since power-up (R276) -/
  anySeq : Bool
  seen : Bool
  deriving DecidableEq, Repr

/-- The power-analog die after a power-up. -/
def LsState.reset : LsState := ⟨Vector.replicate 16 Chan.reset, [], false, false, false, 0, 0, true, false⟩

/-! ## Metrology (chapter 12) -/

/-- One metrology channel MC c, beside its objects (R285 to R288, R295, R300, R301, R316). -/
structure Meter where
  /-- the last 128 bits of the two bitstreams, and consecutive words of 64 bits that held both levels, up to 128 (R285, R286) -/
  vBits : Nat
  iBits : Nat
  /-- words of 64 bits the filters hold since they were restarted, up to 3 (R286, R289) -/
  words : Nat
  vGood : Nat
  iGood : Nat
  /-- raw samples, newest first (R286) -/
  rvs : List Int
  ris : List Int
  /-- residuals in pW × 1/128,000 s (R287) -/
  resImp : Nat
  resExp : Nat
  /-- sums and count of the samples since the last publication (R288) -/
  sumV : Int
  sumI : Int
  sumN : Nat
  /-- streams held at one level, and when each was found (R285) -/
  vStuck : Bool
  iStuck : Bool
  /-- legal time in ms at which the present gap began, and whether its Pennant was raised (R285) -/
  gapAt : Option Nat
  gapTold : Bool
  /-- samples at or above 0.95 of full scale not yet counted as a millisecond (R285) -/
  ovrSamples : Nat
  /-- MISSING and OVERRANGE since the channel's last legal record (R285, R300) -/
  missing : Bool
  ovr : Bool
  /-- a session lies between its start and end records; the start's RECORD_SEQ and MISSING_MS (R301, R316) -/
  inSession : Bool
  startSeq : Nat
  startMissing : Nat
  /-- a capture under way: sums of rv and ri and the samples summed (R295) -/
  capture : Option (Int × Int × Nat)
  /-- the unrecorded intervals of R330: union of kinds, start of the earliest, highest demand, and how many -/
  unrecorded : Option (Nat × Nat × Nat × Nat)
  deriving DecidableEq, Repr

/-- A channel of a new part. -/
def Meter.reset : Meter := ⟨0, 0, 0, 0, 0, [], [], 0, 0, 0, 0, 0, false, false, none, false, 0, false, false, false, 0, 0, none, none⟩

/-! ## Billing, accounts and the legal log (chapter 13) -/

/-- One account slot (R320 to R324). -/
structure Acct where
  id : Nat
  credit : Int
  ecAmount : Int
  ecOut : Int
  /-- emergency credit was granted and is not AVAILABLE -/
  granted : Bool
  /-- the cost residual in 10^-6 milli-units (R321) -/
  res : Nat
  lastRef : Nat
  /-- a new ACCT_ID that waits for the session's end (R320) -/
  newId : Option Nat
  deriving DecidableEq, Repr

/-- An unused slot. -/
def Acct.empty : Acct := ⟨0, 0, 0, 0, false, 0, 0, none⟩

/-- A requested legal record: what its requester supplies and what the Legal region takes at the event (R299 to R301). -/
structure LegalReq where
  typ : Nat
  /-- the channel, or none for a device-wide record -/
  chan : Option (Fin 4)
  /-- FLAGS beyond those the Legal region sets itself -/
  flags : Nat
  /-- legal time of the event, ms -/
  at_ : Nat
  session : Nat
  detail : List Byte
  /-- the vault event it records, 0 for none (R461, R462) -/
  vev : Nat
  deriving DecidableEq, Repr

/-- One written record: RECORD_SEQ and 128 bytes (R299, R328). -/
structure LegalRec where
  seq : Nat
  bytes : List Byte
  deriving DecidableEq, Repr

/-- The registers that are committed to MRAM together, as one of the two copies (R325). -/
structure RegCopy where
  objs : List (Nat × Val)
  meters : Vector Meter 4
  accts : List (Nat × Acct)
  ect : Nat
  now : Nat
  intLen : Nat
  deriving DecidableEq, Repr

/-- What billing holds beside its objects. -/
structure BillState where
  meters : Vector Meter 4
  /-- clock returns of the two metrology engines (R285) -/
  clock : Vector Bool 2
  /-- metrology engines that are fenced (R298) -/
  engFenced : Vector Bool 2
  /-- ECT in ms (R309) -/
  ect : Nat
  /-- the nominal length of the present interval in ms (R317) -/
  intLen : Nat
  /-- DMD_RESET waits for the next boundary's records (R318) -/
  dmdReset : Bool
  /-- slots not empty, by number (R320) -/
  accts : List (Nat × Acct)
  /-- records written, oldest first (R328) -/
  log : List LegalRec
  /-- requested session records whose requester waits, oldest first (R329) -/
  requests : List LegalReq
  /-- records without admission that are written once admitted (R330) -/
  waiting : List LegalReq
  /-- the newest committed copy of the registers (R325) -/
  copy : RegCopy
  deriving DecidableEq, Repr

/-- Billing of a new part: interval of 15 minutes from legal time zero. -/
def BillState.reset : BillState :=
  ⟨Vector.replicate 4 Meter.reset, Vector.replicate 2 false, Vector.replicate 2 false, 0, 900000, false, [], [], [], [],
   ⟨[], Vector.replicate 4 Meter.reset, [], 0, 0, 900000⟩⟩

/-! ## Keys and trust (chapter 14) -/

/-- One key slot: its slot word with STATE, LEVEL and ORIGIN, its generation and its material as a number (R340, R343). -/
structure KeySlot where
  word : Nat
  gen : Nat
  mat : Nat
  deriving DecidableEq, Repr

/-- A working copy: the slot, or none for the device root, and its first share; the second is what the key leaves of it (R351). -/
structure WorkCopy where
  slot : Option Nat
  a : Nat
  deriving DecidableEq, Repr

/-- What the keystore holds beside its objects (R338 to R352). -/
structure TrustState where
  /-- slots that are not EMPTY or were once written, by number -/
  slots : List (Nat × KeySlot)
  /-- working copies, least recently used first, at most 64 (R351) -/
  copies : List WorkCopy
  /-- the last re-mask pass was late (R351) -/
  lateRun : Bool
  /-- RING_KEY_START (R350) -/
  ringStart : Nat
  /-- EPOCH_NUMBER lies behind RING_KEY_HIGH + 65,536 after a boot: no tagged frame is sent (R350) -/
  ringGuard : Nat
  /-- the ring key's slot before a switch, the switch epoch, and boundaries left until its copy is dropped (R349) -/
  oldRing : Option (Nat × Nat × Nat)
  /-- the highest epoch number under which a tagged frame was sent; RING_KEY_HIGH is its persisted copy (R350) -/
  ringSent : Nat
  /-- the Pennant at an age of 2^31 epochs was raised under this key (R350) -/
  ageTold : Bool
  deriving DecidableEq, Repr

/-- The factory slots of an -L part: 0 the import key, 1 the legal signing key (R342). -/
def TrustState.reset : TrustState :=
  ⟨[(0, ⟨3 + 64 + 256 + 16777216 + 134217728 + 268435456 + 2147483648 + 4294967296, 1, 0⟩),
    (1, ⟨3 + 8 + 512 + 16777216 + 134217728 + 268435456 + 2147483648 + 4294967296, 1, 0⟩)],
   [⟨none, 0⟩], false, 0, 0, none, 0, false⟩

/-! ## Events, alarms and traces (chapter 15) -/

/-- One packet of the queue or of an outbox: its 64-bit words and its priority (R362, R363, R367). -/
structure Packet where
  words : List Nat
  prio : Nat
  deriving DecidableEq, Repr

/-- A pending GAP of one destination (R365, R378). -/
structure Gap where
  lostPen : Nat
  lostStr : Nat
  lostWords : Nat
  reason : Nat
  due : Bool
  deriving DecidableEq, Repr

/-- A deferral entry of one destination (R377); an overflow entry has the pair 0xFFFF, 0xFFF. -/
structure DeferEntry where
  ring : Bool
  origin : Nat
  source : Nat
  event : Nat
  first : Packet
  prio : Nat
  count : Nat
  firstSeq : Nat
  lastTime : Nat
  lastSeq : Nat
  deriving DecidableEq, Repr

/-- An open coalescing window of one pair (R376): what was folded, and where its SUMMARY goes (R379). -/
structure CoalEntry where
  source : Nat
  event : Nat
  prio : Nat
  toLocal : Bool
  toRing : Bool
  toArchive : Bool
  count : Nat
  firstSeq : Nat
  firstTime : Nat
  lastSeq : Nat
  lastTime : Nat
  deriving DecidableEq, Repr

/-- A sample of a trace: its kind and instance, the reference a record that begins with it carries, and its word (R383). -/
structure TraceSample where
  kind : Nat
  inst : Nat
  reference : Nat
  word : Nat
  deriving DecidableEq, Repr

/-- The router, the queue, the outboxes and the archive (R361 to R389). -/
structure EvState where
  /-- packets raised and not yet whole in the tail, oldest first (R367) -/
  lane : List Packet
  /-- words of the first Pennant-class and of the first TRACE packet of the lane that have passed, and the words Pennant has sent in
  this round of the rotation, 4 where the turn has passed on (R98) -/
  lanePen : Nat
  laneStr : Nat
  laneTurn : Nat
  /-- the current packet and how many of its words were popped (R370) -/
  cur : Option (Packet × Nat)
  /-- whole packets waiting, oldest first; in COMPAT those of the draining bank (R368, R369) -/
  waiting : List Packet
  /-- whole packets of the filling bank, COMPAT only (R369) -/
  filling : List Packet
  /-- the last word any pop returned (R372) -/
  lastWord : Nat
  /-- EQ_STATUS [1] END_LAST -/
  endLast : Bool
  /-- EQ_STATUS [2] UNDERRUN -/
  underrun : Bool
  /-- EQ_STATUS [3] IRQ and the pin EVT_IRQ_N, asserted together (R373) -/
  irq : Bool
  /-- EQ_STATUS [4]: a FLUSH waits for a packet boundary (R374) -/
  flushPending : Bool
  /-- the pending GAP of the local queue (R378) -/
  gap : Option Gap
  /-- deferral entries of both destinations (R377) -/
  defers : List DeferEntry
  /-- open coalescing windows (R376) -/
  coal : List CoalEntry
  /-- the ring outbox (R380) -/
  outbox : List Packet
  /-- the trace outbox (R383) -/
  traceBox : List Packet
  /-- the pending GAP of the trace outbox (R383) -/
  traceGap : Option Gap
  /-- archive entries held, oldest first, 48 bytes each (R384) -/
  archive : List (List Byte)
  /-- legal times of the entries archived in the last 100 ms (R384) -/
  archTimes : List Nat
  /-- set from PFW until the next boot: the archive accepts nothing (R384) -/
  archStopped : Bool
  /-- trace samples taken and not yet in a record, oldest first (R383) -/
  samples : List TraceSample
  /-- samples left out of a LOOP trace since one was kept, by leg (R383) -/
  skips : Vector Nat 32
  deriving DecidableEq, Repr

/-- Events after a reset of a new part (R385). -/
def EvState.reset : EvState :=
  ⟨[], 0, 0, 0, none, [], [], 0, false, false, false, false, none, [], [], [], [], none, [], [], false, [], Vector.replicate 32 0⟩

/-! ## Active and standby pairs (chapter 16) -/

/-- An outlet's session as mirrored: none. -/
def noSession : SessionImage := ⟨0, 0, 0, [], [], 0xFFFF, 0, 0⟩

/-- What a unit of a pair holds beside group 0x59. -/
structure PairState where
  /-- SEQ of the tokens sent (R395) -/
  seq : Nat
  /-- a CLAIM was sent and its guard runs (R399) -/
  claimed : Bool
  /-- a RELEASE came last, and its 2 ms guard runs while OE_PEER reads low (R397) -/
  released : Bool
  /-- the newest grants mirrored, with their epoch (R394, R400) -/
  grants : Option (Nat × Grants)
  /-- loop states mirrored, by engine, with their age in µs (R394, R400) -/
  loops : List (Fin 38 × LoopImage × Nat)
  /-- ROUTE_STATE and ROUTE_SELECT of each group as mirrored (R394, R400) -/
  routes : Vector (Option (Nat × Nat)) 4
  /-- sessions as mirrored (R394, R402) -/
  sessions : Vector SessionImage 4
  /-- the newest journal entry, and this unit's own totals stored beside it (R394, R401) -/
  journal : List (Nat × Val)
  own : Option (Vector (Nat × Nat) 4)
  /-- for each channel the SESS_START of the mirrored session, this unit's totals at its start, and whether its end was compared
  (R297) -/
  compare : Vector (Nat × Nat × Nat × Bool) 4
  /-- a rehearsal: 0 none, 1 waiting for a quiet boundary, 2 swapped; the epochs waited; and the swap epoch (R404) -/
  phase : Nat
  waited : Nat
  swapEpoch : Nat
  deriving DecidableEq, Repr

/-- A single unit. -/
def PairState.reset : PairState :=
  ⟨0, false, false, none, [], Vector.replicate 4 none, Vector.replicate 4 noSession, [], none,
   Vector.replicate 4 (0, 0, 0, false), 0, 0, 0⟩

/-! ## The Voner line (chapter 17) -/

/-- One slave of the Voner line (R415 to R421). -/
structure VonSlave where
  /-- VON_SLAVE_STATE: 0 UNUSED, 1 SEARCH, 2 ONLINE, 3 LOST -/
  state : Nat
  /-- DSEQ; the mailbox: VON_TX_STATE, its data and the polls that carried it -/
  dseq : Nat
  tx : Nat
  data : List Byte
  tries : Nat
  rx : List Byte
  rxAt : Nat
  /-- GOOD, DAMAGED, CRC_FAIL, SILENT, REPOLL -/
  cnt : Vector Nat 5
  /-- legal time in ms of the last poll and at which the next is due -/
  lastPoll : Nat
  dueAt : Nat
  /-- consecutive polls without GOOD -/
  misses : Nat
  deriving DecidableEq, Repr

/-- A slave after a reset. -/
def VonSlave.reset : VonSlave := ⟨0, 0, 0, [], 0, [], 0, Vector.replicate 5 0, 0, 0, 0⟩

/-- What the modem engine holds beside group 0xC0. -/
structure VonState where
  /-- the number of the next master slot (R411, R414) -/
  next : Nat
  /-- slaves that differ from their reset, by address, rising -/
  slaves : List (Nat × VonSlave)
  /-- the poll whose reply is awaited: address, DSEQ it carried, and its place in a run of re-polls (R416, R419) -/
  poll : Option (Nat × Nat × Nat)
  /-- the re-poll that is due: address and its place in the run (R419) -/
  repoll : Option (Nat × Nat)
  /-- the line polled at the last master slot (R422) -/
  running : Bool
  deriving DecidableEq, Repr

/-- The line after a reset. -/
def VonState.reset : VonState := ⟨0, [], none, none, false⟩

/-! ## Service, live update and self-test (chapter 18) -/

/-- What live update, BIST and the firmware slots hold beside groups 0xD0 and 0xD1. Areas are numbered class × 2 + slot. -/
structure UpdState where
  /-- the firmware slots in MRAM, slot A from address 0 and slot B from 5 MiB, in canonical form (R425, log entry 52) -/
  mem : List (Nat × Byte)
  /-- areas that still hold the image they left the factory with (log entry 52) -/
  factory : Vector Bool 6
  /-- the slot of the legal image whose use was last recorded, none once that slot has been loaded anew (R296) -/
  legalRun : Option Nat
  /-- the area under load, and whether it is VERIFYING (R426) -/
  loading : Option (Nat × Bool)
  /-- REVOKE of the running image of each class (R353, R355) -/
  revoke : Vector Nat 3
  /-- the classes a pending SLOT_SWITCH switches live, and the boundaries it has waited (R428) -/
  live : Nat
  waited : Nat
  /-- MAIN and LOOP in their blackouts, the switch epoch and the longest blackout so far in µs (R428, R430) -/
  black : Vector Bool 2
  swEpoch : Nat
  longest : Nat
  /-- target and kind of the test under way, and whether a macro or array has begun (R433, R436) -/
  bistTarget : Nat
  bistKind : Nat
  /-- a test deferred to boot, in the configuration store (R437) -/
  bistBoot : Option (Nat × Nat)
  deriving DecidableEq, Repr

/-- A new part: the factory images stand in slot A (log entry 52). -/
def UpdState.reset : UpdState :=
  ⟨[], ⟨#[true, false, true, false, true, false], rfl⟩, some 0, none, Vector.replicate 3 0, 0, 0, Vector.replicate 2 false, 0, 0, 6, 0, none⟩

/-! ## Supplies, reset and the vault (chapter 19) -/

/-- One vault event (R461), and whether its legal record has been written (R462). -/
structure VaultEvent where
  ltime : Nat
  seq : Nat
  kind : Nat
  which : Nat
  powered : Bool
  recorded : Bool
  deriving DecidableEq, Repr

/-- One tamper loop (R460, R462). -/
structure Loop where
  /-- the last sample's level, open or not, how many equal ones in a row, and the LTIME of the first -/
  last : Bool
  run : Nat
  since : Nat
  /-- an ambiguous run is in progress -/
  ambig : Bool
  /-- the last recorded state, kept in MRAM -/
  kept : Bool
  deriving DecidableEq, Repr

/-- What the power-analog die and the vault hold beside the objects. -/
structure PowerState where
  /-- the control die is held in reset, or has not booted yet (R448, R451) -/
  held : Bool
  /-- power-on reset is not released yet (R448); RESET_N is low (R452); VDD_ANA is out of range (R497) -/
  por : Bool
  resetLow : Bool
  anaLost : Bool
  /-- the main supplies are in range (R446) -/
  mains : Bool
  /-- the cause word the next boot records (R451) -/
  cause : Nat
  /-- a taken PFW is being handled, no transaction is answered (R455); and step 5 of R326 has completed -/
  pfw : Bool
  pfwDone : Bool
  /-- the mains were lost since the last boot (R451, R325) -/
  lost : Bool
  /-- the cause of a reset that comes 1 ms after RESET_REQUEST or REBOOT was written, 0 none (R442, R452) -/
  scheduled : Nat
  /-- vault event memory, oldest first, at most 256 entries (R461) -/
  events : List VaultEvent
  loops : Vector Loop 4
  /-- the loop counters' copies in MRAM (R459) -/
  loopCopies : List Nat
  /-- vault contents were lost since the last boot (R459) -/
  vaultLost : Bool
  /-- a commanded VAULT was entered: a wake reads cause 0x04 (R465) -/
  inVault : Bool
  /-- a wake source taken during steps 2 to 5 of the entry (R466) -/
  wakePending : Option Nat
  /-- the TAP: out of Test-Logic-Reset, its instruction, its boundary register, and TRST_N low (R438, R439) -/
  tapOn : Bool
  tapInstr : Nat
  bscan : List Bool
  trstLow : Bool
  /-- departures from Test-Logic-Reset whose Pennant waits for the firmware (R439) -/
  tapTold : Nat
  /-- TESTMODE is high (R476) -/
  testMode : Bool
  deriving DecidableEq, Repr

/-- Supplies in range, booted; the TAP rests in Test-Logic-Reset with IDCODE as its instruction. -/
def PowerState.reset : PowerState :=
  ⟨false, false, false, false, true, 0, false, false, false, 0, [], Vector.replicate 4 ⟨false, 0, 0, false, false⟩,
   [0, 0, 0, 0, 0, 0, 0, 0], false, false, none, false, 2, [], false, 0, false⟩


/-! ## What the block sends -/

/-- One thing the block sends: the model keeps what was sent, oldest first, in State.sent (log entry 6). -/
inductive Emit where
  /-- a pulse on SYNC_OUT of a group, at a moment in ft (R122) -/
  | syncOut (g t : Nat)
  /-- one slot on the output of ring A (0) or B (1): its delimiter and the 127 characters after it (R189, R191, R197) -/
  | slot (ring : Nat) (delim : Delim) (chars : List Byte)
  /-- a message of an outlet's session core to its vehicle (R226 to R236) -/
  | vehicle (o : Nat) (a : Answer)
  /-- IMD_TEST of an outlet high for 100 ms (R232) -/
  | imdTest (o : Nat)
  /-- a slot on a lane of the pair link: the 127 characters after its K28.1 (R189, R216); it carries a Burgee token (R395) -/
  | pairSlot (lane : Nat) (chars : List Byte)
  /-- a mirrored item on a lane of the pair link (R216, R394) -/
  | mirror (lane : Nat) (item : MirrorItem)
  /-- a frame on the Voner line: the slot, the attenuation in 0.5 dB, and for each of the 32 payload symbols the phase increment of its 20 carriers in steps of
  45° (R411, R412) -/
  | voner (slot level : Nat) (symbols : List (List Nat))
  /-- a response frame of the service port as SVC_MISO carries it (R440) -/
  | svcFrame (bytes : List Byte)
  /-- bits shifted out at TDO: how many, and their value, first bit lowest (R438) -/
  | tdo (len value : Nat)
  deriving DecidableEq, Repr

/-! ## The whole state -/

/-- The state of the block. -/
structure State where
  /-- what is fixed in this unit (R1, R3) -/
  part : Part
  /-- the dictionary's values in effect, by address, in canonical form: addresses strictly rising, no entry equal to its default (R13, R36, R43) -/
  objs : List (Nat × Val)
  /-- legal time in milliseconds since its origin (R306) -/
  now : Nat
  /-- transactions, staging, commits and results -/
  dict : DictState
  /-- resource classes and mode changes -/
  modes : ModeState
  /-- fences and clock loss -/
  fab : FabState
  /-- router, event queue, outboxes and archive -/
  ev : EvState
  /-- the latest moment of the PWM timebase seen, in fine ticks (R108) -/
  pwmNow : Nat
  /-- phase legs PH0 to PH31 -/
  legs : Vector Leg 32
  /-- loop engines LE0 to LE37 -/
  engines : Vector Engine 38
  /-- phase groups PG0 to PG3 -/
  groups : Vector Group 4
  /-- the levels of the matrix feedback inputs MTX_FB0 to MTX_FB7 (R31) -/
  matrixFb : Vector Bool 8
  /-- rebinds under way (R135 to R137) -/
  rebinds : List Rebind
  /-- committed BIND values that wait for a rebind to end (R152) -/
  bindHeld : List (Nat × Val)
  /-- claims, the wave, the snapshot and the grants -/
  site : SiteState
  /-- the ring engine: roster, marks, frames and items -/
  ring : RingState
  /-- the session cores of OUT0 to OUT3 -/
  outs : Vector Outlet 4
  /-- the four cooling loops (chapter 10) -/
  cools : Vector Cool 4
  /-- load-switch channels and the heartbeat watchdog -/
  ls : LsState
  /-- the pair: tokens, mirrored items and a rehearsal -/
  pair : PairState
  /-- the Voner line's slaves and its polling -/
  von : VonState
  /-- metrology channels, billing registers, accounts and the legal log -/
  bill : BillState
  /-- the keystore -/
  trust : TrustState
  /-- firmware slots, live update and self-test -/
  upd : UpdState
  /-- supplies, reset, the vault and test access -/
  power : PowerState
  /-- what the block has sent, oldest first (the model's own output record, log entry 6) -/
  sent : List Emit
  /-- how many free values have been drawn (the model's own counter, log entry 2) -/
  fresh : Nat
  /-- the commands that wait, first in, first out -/
  pending : List Instr
  deriving DecidableEq, Repr

/-- The block right after reset: a new part of the legal-for-trade variant, booted, with nothing commanded yet (log entry 1). -/
def State.reset : State where
  part := ⟨.l, 0xA0, serialReset⟩
  objs := []
  now := 0
  dict := DictState.reset
  modes := ModeState.reset
  fab := FabState.reset
  ev := EvState.reset
  pwmNow := 0
  legs := Vector.replicate 32 Leg.reset
  engines := Vector.replicate 38 Engine.reset
  groups := Vector.replicate 4 Group.reset
  matrixFb := Vector.replicate 8 false
  rebinds := []
  bindHeld := []
  site := SiteState.reset
  ring := RingState.reset
  outs := Vector.replicate 4 Outlet.reset
  cools := Vector.replicate 4 Cool.reset
  ls := LsState.reset
  pair := PairState.reset
  von := VonState.reset
  bill := BillState.reset
  trust := TrustState.reset
  upd := UpdState.reset
  power := PowerState.reset
  sent := []
  fresh := 0
  pending := []

/-- The block stops with a fault. No command of this spec makes it stop, so the type has no constructor that a meaning
answers; the one below keeps the type inhabited for the interface. -/
inductive Fault where
  /-- Raised by no meaning (safe: it would only stop a run). -/
  | none
  deriving DecidableEq, Repr

/-- The block has no meaning for a command. -/
inductive Refusal where
  /-- The command's arm is not modelled yet; raised only by Machine/Dispatch.lean (safe: it only stops a run). -/
  | notModelled (mnemonic : String)
  deriving DecidableEq, Repr

end Sys2Proof.Machine
end

