-- ==== Sys2Proof/Machine/Ops.lean ====
section
/-! DEFINITION. Ops: the named operations every meaning uses: reading and writing dictionary elements, values' encodings,
results of commands, free values, what is sent, and raising a Pennant. -/

namespace Sys2Proof.Machine

/-! ## The store of dictionary elements -/

/-- The value listed for an address, where one is. -/
def cellFind : List (Nat × Val) → Nat → Option Val
  | [], _ => none
  | (a, v) :: t, k => if a == k then some v else cellFind t k

/-- The list without an address. -/
def cellDrop : List (Nat × Val) → Nat → List (Nat × Val)
  | [], _ => []
  | (a, v) :: t, k => if a == k then cellDrop t k else (a, v) :: cellDrop t k

/-- The list with a value put in at its place by rising address. -/
def cellPut : List (Nat × Val) → Nat → Val → List (Nat × Val)
  | [], k, v => [(k, v)]
  | (a, w) :: t, k, v =>
    if k < a then (k, v) :: (a, w) :: t else if a == k then (k, v) :: t else (a, w) :: cellPut t k v

/-- What an address reads as: the listed value, or the element's default (R44). -/
def objGet (l : List (Nat × Val)) (k : Nat) : Val := (cellFind l k).getD (defaultVal k)

/-- Write an element and keep the canonical form: writing the default removes the entry. -/
def objPut (l : List (Nat × Val)) (k : Nat) (v : Val) : List (Nat × Val) :=
  if v = defaultVal k then cellDrop l k else cellPut l k v

/-- Addresses strictly rising from a lower limit. -/
def risingFrom : Nat → List (Nat × Val) → Bool
  | _, [] => true
  | lo, (a, _) :: t => lo <= a && risingFrom (a + 1) t

/-- The canonical form: addresses strictly rising, and no entry equal to its default. -/
def objWf (l : List (Nat × Val)) : Bool := risingFrom 0 l && l.all fun c => c.2 != defaultVal c.1

/-- The value of an element. -/
def State.get (s : State) (k : Nat) : Val := objGet s.objs k

/-- Set the value of an element. -/
def State.put (s : State) (k : Nat) (v : Val) : State := { s with objs := objPut s.objs k v }

/-- A number element as an integer. -/
def State.int (s : State) (k : Nat) : Int := (s.get k).int

/-- A number element as a natural number. -/
def State.nat (s : State) (k : Nat) : Nat := (s.int k).toNat

/-- A BLOB or STR32 element's bytes. -/
def State.blob (s : State) (k : Nat) : List Byte := (s.get k).blob

/-- Set a number element to an integer. -/
def State.putI (s : State) (k : Nat) (i : Int) : State := s.put k (.num i)

/-- Set a number element to a natural number. -/
def State.putN (s : State) (k n : Nat) : State := s.put k (.num n)

/-- Set a BLOB or STR32 element. -/
def State.putB (s : State) (k : Nat) (bs : List Byte) : State := s.put k (.bytes bs)

/-- Add n to a U32 counter that wraps at 2^32. -/
def State.addC (s : State) (k n : Nat) : State := s.putN k ((s.nat k + n) % 4294967296)

/-- Add one to a U32 counter that wraps at 2^32. -/
def State.count (s : State) (k : Nat) : State := s.addC k 1

/-- Set one bit of a number element. -/
def State.putBit (s : State) (k i : Nat) (b : Bool) : State := s.putN k (setBit (s.nat k) i b)

/-- Raise a number element to n where it is lower. -/
def State.putMax (s : State) (k n : Nat) : State := if s.nat k < n then s.putN k n else s

/-- A tree entry's value in use (R168): the objects show a held tree while one is held. -/
def State.treeVal (s : State) (k : Nat) : Nat := if s.site.treeHeld then (objGet s.site.treeInUse k).int.toNat else s.nat k

/-- The EPOCH_PERIOD in use, ns (R168, R171). -/
def State.period (s : State) : Nat := s.treeVal Reg.EPOCH_PERIOD

/-- Put a value into a place of the configuration store (R44). -/
def State.putStore (s : State) (k : Nat) (v : Val) : State := { s with dict := { s.dict with store := objPut s.dict.store k v } }

/-- Put a value in effect and into the configuration store. -/
def State.putBoth (s : State) (k : Nat) (v : Val) : State := (s.put k v).putStore k v

/-! ## Encodings of values (R16, R17) -/

/-- A value in its transfer encoding. -/
def encodeVal (ty : Ty) (v : Val) : List Byte :=
  match ty with
  | .blob => leBytes 2 v.blob.length ++ v.blob
  | .str32 => padTo 32 v.blob
  | .res => padTo 16 v.blob
  | t => leBytes t.size (ofS (8 * t.size) v.int)

/-- The value that a transfer encoding carries. -/
def decodeVal (ty : Ty) (data : List Byte) : Val :=
  match ty with
  | .blob => .bytes (data.drop 2)
  | .str32 => .bytes data
  | .res => .bytes data
  | t => .num (if t.signed then toS (8 * t.size) (leNat data) else leNat data)

/-- The type check of R42: the data has the size of the type; a BLOB's length field counts what follows it. -/
def typeOk (ty : Ty) (data : List Byte) : Bool :=
  match ty with
  | .blob => 2 <= data.length && data.length == 2 + leAt data 0 2
  | t => data.length == t.size

/-- A sum as S48 holds it (R17): itself within 48 bits; beyond them the spec states no value (log entry 8). -/
def s48 (x : Int) : Int :=
  if -140737488355328 <= x && x <= 140737488355327 then x else toS 48 (Config.s48Beyond x)

/-- Received bytes as a STR32 value (R17): themselves, padded, where they are valid; else a text the spec does not state, and the
empty one should that be none (log entry 9). -/
def str32Of (bs : List Byte) : List Byte :=
  if bs.length <= 32 && str32Ok (padTo 32 bs) then padTo 32 bs
  else if str32Ok (Config.text bs) then Config.text bs else zeros 32

/-! ## Legal time, sending, free values -/

/-- Legal time in the LTIME layout (R17): [63:10] seconds, [9:0] milliseconds. -/
def ltimeOf (ms : Nat) : Nat := ms / 1000 * 1024 + ms % 1000

/-- Milliseconds of an LTIME or CTIME value. -/
def msOf (lt : Nat) : Nat := lt / 1024 * 1000 + lt % 1024

/-- The present legal time as an LTIME value (R306). -/
def State.ltime (s : State) : Nat := ltimeOf s.now

/-- Send something. -/
def State.send (s : State) (e : Emit) : State := { s with sent := s.sent ++ [e] }

/-- A free value at a place: whatever Config.free gives for this draw. -/
def State.freeAt (s : State) (place : Nat) : Nat := Config.free place s.fresh

/-- Note that a free value was drawn. -/
def State.drawn (s : State) : State := { s with fresh := s.fresh + 1 }

/-- Whether this unit of a pair holds the Burgee (R392): HOLDER, or on its way to a release. -/
def State.holds (s : State) : Bool := s.nat Reg.PAIR_EN == 1 && (s.nat Reg.BURGEE_STATE == 1 || s.nat Reg.BURGEE_STATE == 6)

/-- The lane an item belongs on: snapshots, loop states and routes on lane 0, sessions and the journal on lane 1 (R216, R394). -/
def mirrorLane : MirrorItem → Nat
  | .grants _ _ _ _ | .loop _ _ | .route _ _ _ => 0
  | .session _ _ | .journal _ _ => 1

/-- The lane that carries what belongs on a lane: that one, or the other while it is down; none with both down (R216). -/
def State.laneFor (s : State) (l : Nat) : Option Nat :=
  if bit (s.nat Reg.PAIR_LANE_STATE) l then some l else if bit (s.nat Reg.PAIR_LANE_STATE) (1 - l) then some (1 - l) else none

/-- The holder mirrors an item to its partner while a lane of the pair link is up (R216, R394). -/
def State.mirror (s : State) (it : MirrorItem) : State :=
  match s.laneFor (mirrorLane it) with
  | some l => if s.holds then s.send (.mirror l it) else s
  | none => s

/-- A latency measured on a bounded path (R93): a free value, in ticks of 2.5 ns, within the path's bound while the bounds hold
(R104, R105); nothing is measured while REFCLK is lost (log entry 23). -/
def State.measureLat (s : State) (k place boundTicks : Nat) (bounded : Bool) : State :=
  if bit (s.nat Reg.FABRIC_STATUS) 1 then s
  else
    let t := s.freeAt place
    let t := if bounded && !bit (s.nat Reg.FABRIC_STATUS) 4 then t % (boundTicks + 1) else t
    (s.putMax k (t * 5 / 2 % 4294967296)).drawn

/-! ## Results of commands (R58 to R63) -/

/-- The place of a command in the list of results. -/
def cmdIdx : CmdId → Fin 13
  | .sessionStop => 0 | .slotSwitch => 1 | .bist => 2 | .calCapture => 3 | .rehearsal => 4 | .engineRebind => 5
  | .keyDestroy => 6 | .accountTopup => 7 | .queueFlush => 8 | .civilTimeSet => 9 | .configErase => 10
  | .commit => 11 | .stageDiscard => 12

/-- The address of a command's element 00 (R58, R64). -/
def cmdBase : CmdId → Nat
  | .commit => key 0x03 0x01 0
  | .stageDiscard => key 0x03 0x02 0
  | c => key 0x02 (0x10 + (cmdIdx c).val) 0

/-- The result of a command. -/
def State.res (s : State) (c : CmdId) : Res := s.dict.res[cmdIdx c]

/-- Set the result of a command. -/
def State.setRes (s : State) (c : CmdId) (r : Res) : State :=
  { s with dict := { s.dict with res := s.dict.res.set (cmdIdx c) r } }

/-- Whether a command's result is PENDING. -/
def State.isPending (s : State) (c : CmdId) : Bool := (s.res c).status == .pending

/-- The next command number: 0x0001 upward, wrapping from 0xFFFF to 0x0001 (R59). -/
def nextSeq (n : Nat) : Nat := if n < 0xFFFF then n + 1 else 1

/-- Start a command: the old result goes, RES is PENDING with a new SEQ (R60). -/
def State.startCmd (s : State) (c : CmdId) (arg : Nat) : State :=
  s.setRes c { Res.reset with status := .pending, seq := nextSeq (s.res c).seq, arg := arg }

/-- End a command with a final status, a DETAIL and a VALUE; SEQ and the argument stay, and so does ABORT_REQ (R59, R60, R62). -/
def State.endCmd (s : State) (c : CmdId) (st : ResStatus) (detail value : Nat) : State :=
  s.setRes c { s.res c with
    status := st, abortReq := (s.res c).abortReq || st == .aborted, readCount := 0, detail := detail, value := value }

/-- End a command COMPLETED. -/
def State.completed (s : State) (c : CmdId) (detail value : Nat) : State := s.endCmd c .completed detail value

/-- End a command REFUSED with a DETAIL. -/
def State.refusedWith (s : State) (c : CmdId) (detail : Nat) : State := s.endCmd c .refused detail 0

/-- End a command FAILED with a DETAIL. -/
def State.failedWith (s : State) (c : CmdId) (detail : Nat) : State := s.endCmd c .failed detail 0

/-! ## Answering a transaction (R39, R48) -/

/-- The queue of the ordering point without the oldest transaction of a source (R48). -/
def dequeue (src : Src) : List (Src × Request) → List (Src × Request)
  | [] => []
  | (a, rq) :: t => if a = src then t else (a, rq) :: dequeue src t

/-- Whether the control die runs: not from step 6 of a VAULT entry (R45, R85), and not while it is held in reset (R451). -/
def State.running (s : State) : Bool := s.modes.vaultStep < 6 && !s.power.held

/-- Whether the boot ended at B4 with BOOT_STATE RECOVERY (R356, R449). -/
def State.inRecovery (s : State) : Bool := s.nat Reg.BOOT_STATE == 3

/-- Whether the firmware runs: a running control die that is not in RECOVERY (R45, R85, R442, R449, R451). -/
def State.powered (s : State) : Bool := s.running && !s.inRecovery

/-- Whether a class is in its blackout of a live switch: 0 MAIN, 1 LOOP (R430). -/
def State.blackMain (s : State) : Bool := s.upd.black[(0 : Fin 2)]
/-- Whether LOOP is in its blackout (R430). -/
def State.blackLoop (s : State) : Bool := s.upd.black[(1 : Fin 2)]

/-- Whether a cell, as region, block and cell, lies in a fenced cell, block or region (R103). -/
def FabState.fenced (f : FabState) (c : Nat × Nat × Nat) : Bool :=
  f.regions.contains c.1 || f.blocks.contains (c.1, c.2.1) || f.cells.contains c

/-- Whether a target of BIST lies wholly inside a fenced part (R103, R431, R434). -/
def State.bistFenced (s : State) (t : Nat) : Bool :=
  field t 2 0 <= 4 && !bit t 3 && (s.fab.regions.contains (field t 6 4) ||
    (field t 2 0 <= 3 && s.fab.fenced (field t 6 4, (Config.bistPart t).1, (Config.bistPart t).2)))

/-- Whether a test runs on a part of a region of the control die, 0 to 6, or of the power-analog die, 7 (R434): a subtree that a fence
has stopped already has no further effect. -/
def State.testing (s : State) (region : Nat) : Bool :=
  (s.nat Reg.BIST_STATE == 1 || s.nat Reg.BIST_STATE == 2) &&
    (bit s.upd.bistTarget 3 == (region == 7)) && (region == 7 || field s.upd.bistTarget 6 4 == region) &&
    !s.bistFenced s.upd.bistTarget

/-- The cell of a session core, of a pilot-line modem engine, and of the other engines of R97, by the table's order (log entry 12). -/
def outletCell (o : Nat) : Nat × Nat × Nat := (1, 0, o)
/-- The pilot-line modem engine of an outlet: one for OUT0 and OUT1, one for OUT2 and OUT3. -/
def modemCell (o : Nat) : Nat × Nat × Nat := (1, 0, 4 + o / 2)
/-- The ring engine. -/
def ringCell : Nat × Nat × Nat := (2, 0, 0)
/-- The allocation engine. -/
def allocCell : Nat × Nat × Nat := (2, 0, 1)
/-- A metrology engine. -/
def meterCell (e : Nat) : Nat × Nat × Nat := (3, 0, e)
/-- The crypto engine. -/
def cryptoCell : Nat × Nat × Nat := (4, 0, 0)
/-- The Voner line modem engine. -/
def vonerCell : Nat × Nat × Nat := (5, 0, 2)

/-- Whether the ring engine places nothing of its own: a MAIN blackout, a test of the Ring region, or a fence (R103, R430, R434). -/
def State.ringQuiet (s : State) : Bool := s.blackMain || s.testing 2 || s.fab.fenced ringCell
/-- Whether the allocation engine computes nothing and places no claims: it is fenced (R103). -/
def State.allocFenced (s : State) : Bool := s.fab.fenced allocCell

/-- Whether a source's transactions are carried out: by a running control die, not from the detection of PFW onward (R455), not in
a MAIN blackout (R430), in RECOVERY from the service port only (R442), and not while the 16 response buffers of the port are full
(R440, log entry 51). -/
def State.answersTo (s : State) (src : Src) : Bool :=
  s.running && !s.power.pfw && !s.blackMain &&
  match src with
  | .service => (s.dict.responses.filter fun r => r.src = Src.service).length < 16
  | .node _ => !s.inRecovery

/-- An effect that only a powered control die has (R45, R85). -/
def State.live (s : State) (f : State → State) : State := if s.powered then f s else s

/-- Answer a transaction: the response waits for its transport, the transaction leaves the ordering point, the counters count. -/
def State.answer (s : State) (src : Src) (opcode tag : Nat) (st : Status) (data : List Byte) : State :=
  let s := { s with dict := { s.dict with
    queue := dequeue src s.dict.queue,
    responses := s.dict.responses ++ [(⟨src, opcode, tag, st, data⟩ : Response)] } }
  let s := s.count Reg.DICT_RX_COUNT
  if st = .ok then s else s.count Reg.DICT_REJECT_COUNT

/-- The answer to a write command (R38, R39). -/
def State.answerW (s : State) (h : Hdr) (st : Status) : State := s.answer h.src 2 h.tag st []

/-- The answer to a read command (R38, R39). -/
def State.answerR (s : State) (h : Hdr) (st : Status) (data : List Byte) : State := s.answer h.src 1 h.tag st data

/-! ## Raising a Pennant (R362 to R366, R376, R377, R379, R384) -/

/-- The second word of a record: SOURCE, CODE and SEQUENCE (R362). -/
def recWord1 (source kind event seq : Nat) : Nat := source + (event + kind * 4096) * 65536 + seq * 4294967296

/-- SOURCE of a record. -/
def Packet.source (p : Packet) : Nat := field (p.words.getD 1 0) 15 0
/-- EVENT of a record. -/
def Packet.event (p : Packet) : Nat := field (p.words.getD 1 0) 27 16
/-- KIND of a record: 0 PENNANT, 1 SUMMARY, 2 GAP, 3 TRACE. -/
def Packet.kind (p : Packet) : Nat := field (p.words.getD 1 0) 30 28
/-- SEQUENCE of a record. -/
def Packet.seq (p : Packet) : Nat := field (p.words.getD 1 0) 63 32
/-- The length of a packet in words. -/
def Packet.size (p : Packet) : Nat := p.words.length

/-- The first 64 bits of a value: a number extended to 8 bytes, or the first 8 bytes of a byte list (R365). -/
def val64 : Val → Nat
  | .num i => ofS 64 i
  | .bytes bs => leNat (bs.take 8)

/-- The routing of one record (R379). -/
structure Route where
  prio : Nat
  toLocal : Bool
  toRing : Bool
  coal : Bool
  toArchive : Bool
  deriving DecidableEq, Repr

/-- Whether a rule is valid and matches a pair (R379). -/
def ruleMatches (rule source event : Nat) : Bool :=
  bit rule 63 && Nat.land (Nat.xor source (field rule 15 0)) (field rule 31 16) == 0
    && Nat.land (Nat.xor event (field rule 43 32)) (field rule 55 44) == 0

/-- The routing a rule gives (R379). -/
def ruleRoute (rule : Nat) : Route := ⟨field rule 58 56, bit rule 59, bit rule 60, bit rule 61, bit rule 62⟩

/-- The routing of a pair: the first valid rule that matches, or the catalogue priority with LOCAL and COAL (R379). -/
def State.routeOf (s : State) (source event prio : Nat) : Route :=
  match ((List.range 32).map fun i => s.nat (Reg.ALARM_RULE (i + 1))).find? (ruleMatches · source event) with
  | some rule => ruleRoute rule
  | none => ⟨prio, true, false, true, prio <= s.nat Reg.ARCHIVE_LEVEL⟩

/-- The 48-byte archive entry of a record (R384). -/
def archiveEntry (p : Packet) (origin seq prio : Nat) : List Byte :=
  padTo 32 ((p.words.take 4).flatMap (leBytes 8)) ++ leBytes 8 origin ++ leBytes 4 seq ++ leBytes 1 prio ++ zeros 3

/-- Write a record to the archive, or count it as skipped (R384). -/
def State.archiveWrite (s : State) (p : Packet) (origin : Nat) : State :=
  let recent := s.ev.archTimes.filter fun t => s.now < t + 100
  if s.ev.archStopped || 100 <= recent.length then s.count Reg.ARCH_SKIP_CNT
  else
    let seq := (s.nat Reg.ARCH_LAST + 1) % 4294967296
    let kept := s.ev.archive ++ [archiveEntry p origin seq p.prio]
    { s.putN Reg.ARCH_LAST seq with
      ev := { s.ev with archive := kept.drop (kept.length - 16384), archTimes := recent ++ [s.now] } }

/-- Entries of the table shared by windows and deferrals that are in use; an overflow entry always exists beside it (R376, R377). -/
def EvState.entriesUsed (e : EvState) : Nat :=
  e.coal.length + (e.defers.filter fun d => !(d.source == 0xFFFF && d.event == 0xFFF)).length

/-- Records one record stands for: 1, or a SUMMARY's COUNT (R377). -/
def Packet.stands (p : Packet) : Nat := if p.kind == 1 then field (p.words.getD 2 0) 31 0 else 1
/-- The first sequence number a record stands for: its own, or a SUMMARY's FIRST_SEQ (R377). -/
def Packet.firstSeq (p : Packet) : Nat := if p.kind == 1 then field (p.words.getD 2 0) 63 32 else p.seq

/-- Fold a record into a deferral entry (R377). -/
def DeferEntry.fold (d : DeferEntry) (p : Packet) : DeferEntry :=
  { d with count := min (d.count + p.stands) 0xFFFFFFFF, lastTime := p.words.getD 0 0, lastSeq := p.seq }

/-- A new deferral entry (R377). -/
def DeferEntry.ofPacket (ring : Bool) (origin source event prio : Nat) (p : Packet) : DeferEntry :=
  ⟨ring, origin, source, event, p, prio, p.stands, p.firstSeq, p.words.getD 0 0, p.seq⟩

/-- Defer a record for a destination: into its pair's entry, a free entry, or the overflow entry of priority 1 (R363, R377). -/
def deferInto (e : EvState) (ring : Bool) (origin : Nat) (p : Packet) : List DeferEntry :=
  let hit (src ev org : Nat) : DeferEntry → Bool := fun d => d.ring == ring && d.origin == org && d.source == src && d.event == ev
  if e.defers.any (hit p.source p.event origin) then
    e.defers.map fun d => if hit p.source p.event origin d then d.fold p else d
  else if e.entriesUsed < 512 then e.defers ++ [DeferEntry.ofPacket ring origin p.source p.event p.prio p]
  else if e.defers.any (hit 0xFFFF 0xFFF 0) then e.defers.map fun d => if hit 0xFFFF 0xFFF 0 d then d.fold p else d
  else e.defers ++ [DeferEntry.ofPacket ring 0 0xFFFF 0xFFF 1 p]

/-- Defer a record and count it (R375, R377). -/
def State.deferPacket (s : State) (ring : Bool) (origin : Nat) (p : Packet) : State :=
  { s.count Reg.PEN_DEFERRED_CNT with ev := { s.ev with defers := deferInto s.ev ring origin p } }

/-- Put a record into the lane of the local queue (R367). -/
def State.toLane (s : State) (p : Packet) : State := { s with ev := { s.ev with lane := s.ev.lane ++ [p] } }

/-- Put a record into the ring outbox, or defer it where the outbox is full; count it where no destination is set; take it
locally where the alarm node is this node (R380). -/
def State.toOutbox (s : State) (p : Packet) : State :=
  if s.nat Reg.ALARM_NODE == 0xFFFF then s.count Reg.PEN_NO_DEST_CNT
  else if s.nat Reg.ALARM_NODE == s.nat Reg.RING_ADDR then s.toLane p
  else if s.ev.outbox.length < 8192 then { s with ev := { s.ev with outbox := s.ev.outbox ++ [p] } }
  else s.deferPacket true 0 p

/-- Send a record to the destinations of its routing: the archive first (R379, R380, R384). -/
def State.dispatch (s : State) (r : Route) (p : Packet) : State :=
  let s := if r.toArchive then s.archiveWrite p 0 else s
  let s := if r.toLocal then s.toLane p else s
  if r.toRing && !(r.toLocal && s.nat Reg.ALARM_NODE == s.nat Reg.RING_ADDR && s.nat Reg.ALARM_NODE != 0xFFFF)
  then s.toOutbox p else s

/-- Fold a record into the open window of its pair (R376). -/
def CoalEntry.fold (c : CoalEntry) (p : Packet) : CoalEntry :=
  if c.count == 0 then
    { c with count := 1, firstSeq := p.seq, firstTime := p.words.getD 0 0, lastSeq := p.seq, lastTime := p.words.getD 0 0 }
  else { c with count := min (c.count + 1) 0xFFFFFFFF, lastSeq := p.seq, lastTime := p.words.getD 0 0 }

/-- Pass a numbered PENNANT record through coalescing and routing (R376, R379): a folded record goes no further. -/
def State.routePennant (s : State) (r : Route) (p : Packet) : State :=
  if !(r.toLocal || r.toRing || r.toArchive) then s.count Reg.PEN_SUPPRESSED_CNT
  else if r.coal && s.ev.coal.any (fun c => c.source == p.source && c.event == p.event) then
    { s.count Reg.PEN_COALESCED_CNT with ev := { s.ev with
        coal := s.ev.coal.map fun c => if c.source == p.source && c.event == p.event then c.fold p else c } }
  else
    let s := if r.coal && s.ev.entriesUsed < 512 then
        { s with ev := { s.ev with coal := s.ev.coal ++
            [⟨p.source, p.event, r.prio, r.toLocal, r.toRing, r.toArchive, 0, 0, 0, 0, 0⟩] } }
      else s
    s.dispatch r p

/-- The next PENNANT or TRACE sequence number: 1 after a reset, wrapping from 0xFFFF_FFFF to 1 (R366). -/
def nextSeq32 (n : Nat) : Nat := if n < 0xFFFFFFFF then n + 1 else 1

/-! ## Trace samples (R383) -/

/-- Whether a trace kind and instance are enabled (R383). -/
def State.traceOn (s : State) (kind inst : Nat) : Bool :=
  1 <= kind && kind <= 5 && bit (s.nat Reg.TRACE_EN) (kind - 1) &&
  (match kind with
   | 1 => bit (s.nat Reg.TRACE_LEGS) inst
   | 2 => inst == 0
   | 4 => bit (s.nat Reg.TRACE_LS) inst
   | _ => inst < 4 && bit (s.nat Reg.TRACE_OUTLETS) inst)

/-- Whether the next sample of a LOOP trace is kept: one in TRACE_DECIM, the first of a leg among them. -/
def State.traceKept (s : State) (n : Fin 32) : Bool := s.ev.skips[n] == 0

/-- A sample of a trace whose kind and instance are enabled waits for its record (R383). -/
def State.traceSample (s : State) (kind inst reference word : Nat) : State :=
  if s.traceOn kind inst then
    { s with ev := { s.ev with samples := s.ev.samples ++ [⟨kind, inst, reference % 4294967296, word⟩] } }
  else s

/-- A sample of a leg's LOOP trace, one in TRACE_DECIM kept: I_AVG and I_cmd (R383). -/
def State.traceLoop (s : State) (n : Fin 32) (reference : Nat) (iavg icmd : Int) : State :=
  if !s.traceOn 1 n.val then s
  else
    let kept := s.traceKept n
    let next := if s.nat Reg.TRACE_DECIM <= s.ev.skips[n] + 1 then 0 else s.ev.skips[n] + 1
    let s := { s with ev := { s.ev with skips := s.ev.skips.set n next } }
    if kept then s.traceSample 1 n.val reference (ofS 32 iavg + ofS 32 icmd * 4294967296) else s

/-- VALUE_B of a Pennant, by the catalogue's DETAIL_KIND: the value before the event, or the LTIME or address given (R365). -/
def valueB (detailKind before extra : Nat) : Nat :=
  match detailKind with
  | 0 => 0
  | 1 => before
  | _ => extra

/-- Raise one Pennant with a given VALUE_A: stamp it, number it, and pass it on (R362, R365, R366). -/
def State.raiseVal (s : State) (source event prio detailKind before extra a : Nat) : State :=
  if !s.powered then s else
  let seq := nextSeq32 (s.nat Reg.PEN_SEQ_LAST)
  let s := s.putN Reg.PEN_SEQ_LAST seq
  let r := s.routeOf source event prio
  s.routePennant r ⟨[s.ltime, recWord1 source 0 event seq, a, valueB detailKind before extra], r.prio⟩

/-- The address of the object that EVENT names: of the instance that SOURCE names where the object has one element for each, else of
the object itself (R362, R365). -/
def shownAt (source event : Nat) : Nat :=
  let k := key (source / 256) (event % 256) (source % 256)
  if (rowAt k).isSome then k else key (source / 256) (event % 256) 0

/-- Raise one Pennant; VALUE_A is the value, after the event, of the object that EVENT names (R365). -/
def State.raise (s : State) (source event prio detailKind before extra : Nat) : State :=
  s.raiseVal source event prio detailKind before extra (val64 (s.get (shownAt source event)))

/-- Raise a Pennant of R498 with DETAIL_KIND 1: VALUE_B is the object's value before the event. -/
def State.raise1 (s : State) (source event prio : Nat) (before : Val) : State :=
  s.raise source event prio 1 (val64 before) 0

/-- Raise a Pennant whose code R498 does not fix: SOURCE and the object follow R498's rule, and the variant, the priority and
the DETAIL_KIND are the firmware's catalogue's (log entry 10). -/
def State.raiseCat (s : State) (source object condition : Nat) (before : Val) : State :=
  s.raise source (object + 256 * (Config.catVariant condition).val) (Config.catPrio condition).val
    (Config.catDetail condition).val (val64 before) s.ltime

/-- A Pennant whose code R498 does not fix, of an object that shows one slot of several: the values of the slot it concerns (log
entry 10). -/
def State.raiseCatV (s : State) (source object condition prio before after : Nat) : State :=
  s.raiseVal source (object + 256 * (Config.catVariant condition).val) prio (Config.catDetail condition).val before s.ltime after

/-- A Pennant whose code R498 does not fix and whose priority its rule gives (log entry 10). -/
def State.raiseCatP (s : State) (source object condition prio : Nat) (before : Val) : State :=
  s.raise source (object + 256 * (Config.catVariant condition).val) prio (Config.catDetail condition).val (val64 before) s.ltime

end Sys2Proof.Machine
end

