-- ==== Sys2Proof/Machine/Access.lean ====
section
/-! DEFINITION. Access: the checks every transaction passes: existence, authority, access, type and range (R2, R12, R14, R17
to R19, R26, R31, R36, R40, R42, R45, R47, R60), and staging (R49, R50). -/

namespace Sys2Proof.Machine

/-! ## Existence (R2, R36, R37) -/

/-- The row of an element this variant has (R2, R36, R37). -/
def State.rowFor (s : State) (k : Nat) : Option Row :=
  if s.part.variant = .n && absentOnN (keyG k) then none else rowAt k

/-! ## Authority (R46, R47) -/

/-- Whether a source may write: the service port always, a ring node by REMOTE_WRITE (R46, R47). -/
def State.mayWrite (s : State) (src : Src) : Bool :=
  match src with
  | .service => true
  | .node a =>
    if s.nat Reg.REMOTE_WRITE == 2 then true
    else if s.nat Reg.REMOTE_WRITE == 1 then
      ((List.range 8).map fun i => s.nat (Reg.REMOTE_HOST (i + 1))).any fun x => x == a && x != 0xFFFF
    else false

/-! ## Fences and unpowered classes (R45, R103) -/

/-- The fabric region that owns a group's objects (R97, log entry 12). -/
def regionOf (g : Nat) : Nat :=
  if (0x10 <= g && g <= 0x13) || (0x20 <= g && g <= 0x45) || (0x64 <= g && g <= 0x67) then 0
  else if 0x60 <= g && g <= 0x63 then 1
  else if (0x50 <= g && g <= 0x52) || g == 0x58 || g == 0x59 then 2
  else if 0x88 <= g && g <= 0x94 then 3
  else if g == 0xA0 || g == 0xA1 then 4
  else if g == 0x03 || g == 0xD1 then 6
  else 5

/-- The cells of the engines that own a group's objects: each alone fences them (R97, log entry 12). The legal log, the tariffs and the
seal belong to both metrology engines, and the pulse generators, the cooling hardware and the Archive to none. -/
def cellsOf (g : Nat) : List (Nat × Nat × Nat) :=
  match regionOf g with
  | 0 => if 0x20 <= g && g <= 0x45 then [(0, (g - 0x20) / 8, (g - 0x20) % 8)] else []
  | 1 => [outletCell (g - 0x60)]
  | 2 => if g <= 0x52 then [allocCell] else [ringCell]
  | 3 => if g <= 0x8B then [meterCell ((g - 0x88) / 2)] else []
  | 4 => [cryptoCell]
  | 5 => if g == 0xC0 then [vonerCell] else [(5, 0, 0), (5, 0, 1)]
  | _ => []

/-- Whether a group's objects belong to a fenced part (R103): its region, one of its owners, or the block that holds them all. -/
def State.groupFenced (s : State) (g : Nat) : Bool :=
  s.fab.regions.contains (regionOf g) || (cellsOf g).any s.fab.fenced ||
    (regionOf g == 3 && s.fab.blocks.contains (3, 0))

/-- Whether an address belongs to a fenced part: the event archive is the Archive region's (R97, R103). -/
def State.addrFenced (s : State) (k : Nat) : Bool :=
  s.groupFenced (keyG k) || (keyG k == 0xB0 && 0x20 <= keyO k && keyO k <= 0x23 && s.fab.regions.contains 6)

/-- Whether a loop engine is fenced (R103). -/
def State.engineFenced (s : State) (n : Nat) : Bool := s.groupFenced (0x20 + n)

/-- The resource class of a group's objects, in the order of MODE_TRANSIT, where one owns it (R45, R70, log entry 12). -/
def classOf (g : Nat) : Option (Fin 8) :=
  if 0x10 <= g && g <= 0x13 then some 0
  else if 0x60 <= g && g <= 0x67 then some 1
  else if g == 0x70 || (0x72 <= g && g <= 0x81) then some 2
  else if g == 0x58 then some 3
  else if 0x88 <= g && g <= 0x8C then some 4
  else if 0x90 <= g && g <= 0x94 then some 5
  else if (0x20 <= g && g <= 0x45) || (0x50 <= g && g <= 0x52) then some 6
  else none

/-- Whether a group's objects belong to an unpowered subsystem (R45): behaviour OFF, or a fence. -/
def State.unpowered (s : State) (g : Nat) : Bool :=
  s.groupFenced g || (match classOf g with | some c => s.modes.beh[c] == .off | none => false)

/-- Whether a unit of a pair does not hold the Burgee: it is not the ring node of its address, and without SHADOW in its word it
waits (R393, R399). One that makes its orderly stop before a release still holds it. -/
def State.waitsBurgee (s : State) : Bool :=
  s.nat Reg.PAIR_EN == 1 && s.nat Reg.BURGEE_STATE != 1 && s.nat Reg.BURGEE_STATE != 6

/-- Whether the unit is a standby: SHADOW is in force, or it waits for the Burgee (R71, R76, R399). -/
def State.isStandby (s : State) : Bool := bit (s.nat Reg.MODE_IN_FORCE) 3 || s.waitsBurgee

/-! ## Access codes (R14, R19, R21, R45) -/

/-- Whether RECOVERY leaves an address answered: 00:01 to 00:03, group 0xA1 and group 0xD1 (R442). -/
def State.recoveryOk (s : State) (k : Nat) : Bool :=
  s.nat Reg.BOOT_STATE != 3 || keyG k == 0xA1 || keyG k == 0xD1 || (keyG k == 0 && 1 <= keyO k && keyO k <= 3)

/-- Whether the address is LS_ON of a channel; a write of it is accepted under every behaviour of its class (R267). -/
def isLsOn (k : Nat) : Bool := 0x72 <= keyG k && keyG k <= 0x81 && keyO k == 5

/-- The access rules of single objects: LS_ON of an owned channel (R267), UPD_CHUNK outside OPEN (R426). -/
def State.accessSpecial (s : State) (k : Nat) : Bool :=
  if isLsOn k then s.nat (Reg.LS_OWNER (keyG k - 0x72)) == 0
  else if k == Reg.UPD_CHUNK then s.nat Reg.UPD_STATE == 1
  else true

/-- Whether the seal loop between SEAL_A and SEAL_B is open, by the loop's state in the vault: on an -N part too, which has no
SEAL_STATE (R2, R19, R292, R459). -/
def State.sealOpen (s : State) : Bool := bit (s.nat Reg.TAMP_STATE) 2

/-- Whether a write passes the access check of R42. -/
def State.accessOk (s : State) (r : Row) (k : Nat) : Bool :=
  s.recoveryOk k && (isLsOn k || !(s.unpowered (keyG k))) && !(s.addrFenced k) && s.accessSpecial k &&
  match r.acc with
  | .ro => false
  | .rw | .wo | .cmd => true
  | .rwa => bit (s.nat Reg.MODE_WORD) 0
  | .rwl => s.sealOpen

/-- BYP_FORCE 0x01 is accepted only while the phases are PARK, TRACK or OFF and the outlets CLOSED or MIRROR (R207). -/
def State.accessValue (s : State) (k : Nat) (v : Val) : Bool :=
  let p := s.modes.beh[(0 : Fin 8)]
  let o := s.modes.beh[(1 : Fin 8)]
  !(k == Reg.BYP_FORCE && v == .num 1) ||
    ((p == .park || p == .track || p == .off) && (o == .closed || o == .mirror))

/-! ## Ranges (R12, R17, R18 and the Range columns) -/

/-- The size of a class area in a firmware slot (R425). -/
def classArea (c : Nat) : Nat :=
  match c with
  | 0 => 3584 * 1024
  | _ => 768 * 1024

/-- The argument layouts of the commands (R65, R66, R136, R240, R295, R310, R324, R352, R374, R404, R428, R433, R51). -/
def cmdArgOk (c : CmdId) (a : Nat) : Bool :=
  match c with
  | .commit | .stageDiscard => a == 0
  | .configErase => a == 0x0000E4A5
  | .queueFlush => a == 1 || a == 2
  | .bist => 1 <= a && a <= 3
  | .engineRebind => a < 65536 && field a 15 8 <= 37 && (field a 7 0 < 32 || (0x40 <= field a 7 0 && field a 7 0 <= 0x43))
  | .accountTopup => field a 15 8 == 0
  | .sessionStop => field a 7 2 == 0 && field a 31 9 == 0
  | .slotSwitch => field a 15 4 == 0 && field a 2 0 != 0 && field a 31 16 != 0
  | .calCapture => field a 7 2 == 0 && field a 31 16 == 0 && field a 15 8 != 0
  | .rehearsal => 1 <= a && a <= 65535
  | .keyDestroy => field a 15 8 == 0 && field a 31 16 == 0x0D57
  | .civilTimeSet => a == 0

/-- The command whose element .01 an address is (R58, R64). -/
def cmdOfKey (k : Nat) : Option CmdId :=
  match keyG k, keyO k with
  | 2, 0x10 => some .sessionStop | 2, 0x11 => some .slotSwitch | 2, 0x12 => some .bist | 2, 0x13 => some .calCapture
  | 2, 0x14 => some .rehearsal | 2, 0x15 => some .engineRebind | 2, 0x16 => some .keyDestroy
  | 2, 0x17 => some .accountTopup | 2, 0x18 => some .queueFlush | 2, 0x19 => some .civilTimeSet
  | 2, 0x1A => some .configErase | 3, 1 => some .commit | 3, 2 => some .stageDiscard
  | _, _ => none

/-- A BIST target's reserved bits, its LEVEL, and zeros below the level it names (R431). -/
def bistTargetOk (v : Nat) : Bool :=
  let lv := field v 2 0
  bitN v 7 == 0 && field v 63 51 == 0 && lv <= 6 && field v 50 44 <= 71 &&
  (lv == 0 || field v 50 44 == 0) && (lv <= 1 || field v 43 24 == 0) && (lv <= 2 || field v 23 16 == 0) &&
  (lv <= 3 || field v 15 8 == 0) && (lv <= 4 || field v 6 4 == 0) && (lv <= 5 || bitN v 3 == 0)

/-- One region of a coefficient set (R142): KP, KI, RAMP_INJ, SLOPE_LEAD and T_TARGET within their ranges. -/
def coefRegionOk (bs : List Byte) (r : Nat) : Bool :=
  let o := 16 + 32 * r
  leAt bs (o + 16) 4 <= 0x00400000 && leAt bs (o + 20) 4 <= 0x00040000 && leAt bs (o + 26) 2 <= 50000 &&
  leAt bs (o + 28) 2 <= 20000 && ((2000 <= leAt bs (o + 30) 2 && leAt bs (o + 30) 2 <= 50000) || leAt bs (o + 30) 2 == 0xFFFF)

/-- The range of a coefficient set (R142). -/
def coefSetOk (bs : List Byte) : Bool :=
  bs.length == 272 && (1000 <= leAt bs 0 4 && leAt bs 0 4 <= 400000) && (1000 <= leAt bs 4 4 && leAt bs 4 4 <= 1000000) &&
  leAt bs 8 4 <= 50000 && (1 <= leAt bs 12 2 && leAt bs 12 2 <= 1000) && leAt bs 14 2 == 0 &&
  (List.range 8).all (coefRegionOk bs)

/-- The ranges that a rule states in words, by address. -/
def State.rangeSpecial (s : State) (k : Nat) (v : Val) : Bool :=
  let i := v.int
  let n := i.toNat
  let g := keyG k
  let o := keyO k
  let e := keyE k
  match cmdOfKey k with
  | some c => cmdArgOk c n
  | none =>
  if k == Reg.ROLE_MASK then n < 0x2000 && !(s.part.variant = .n && field n 7 4 != 0)
  else if 0x10 <= g && g <= 0x13 && o == 0x30 then field n 7 0 == 0 && field n 19 18 != 3
  else if 0x10 <= g && g <= 0x13 && o == 0x10 then n <= 2 && !(n == 2 && g == 0x10)
  else if 0x10 <= g && g <= 0x13 then
    ((List.range 8).all fun d => (List.range 8).any fun j => field n (4 * j + 3) (4 * j) == d)
  else if 0x20 <= g && g <= 0x45 then
    if o == 0x03 then coefSetOk v.blob else n < 0x20 || (0x40 <= n && n <= 0x43) || n == 0xFF
  else if 0x60 <= g && g <= 0x63 then
    if e == 1 then n <= 1 else if e == 2 then 1 <= n && n <= 8 else if e == 3 then 1 <= n && n <= 255 else n <= 255
  else if 0x64 <= g && g <= 0x67 then n <= 2 && !(n == 2 && (e == 1 || e == 2 || e == 7))
  else if g == 0x90 then
    if o == 0x01 then true
    else if o == 0x20 then field n 6 0 == 0 && (field n 31 20 == 0 || 2000 <= field n 31 20)
    else bitN n 14 == 0 && !(bit n 15 && 1439 < field n 10 0)
  else if g == 0x93 then Nat.land n 0xF800F800 == 0 && field n 10 0 <= 1439 && field n 26 16 <= 1439
  else if k == Reg.LOG_ACK_SEQ then s.nat Reg.LOG_ACK_SEQ <= n && n <= s.nat Reg.LOG_LAST_SEQ
  else if k == Reg.SVN_ADVANCE then
    field n 7 0 <= 2 && field n 15 8 == s.nat (Reg.IMG_SVN (field n 7 0 + 1)) && s.nat (Reg.SVN_FLOOR (field n 7 0 + 1)) < field n 15 8
  else if g == 0xB1 then field n 58 56 != 7
  else if k == Reg.BIST_TARGET then bistTargetOk n
  else if k == Reg.VEV_ACK then s.nat Reg.VEV_ACK <= n && n <= s.nat Reg.VEV_LAST
  else if g == 0xC0 then field n 7 1 == 0 && field n 31 16 == 0 && !(bit n 0 && field n 15 8 == 0)
  else if k == Reg.UPD_TARGET then field n 1 0 <= 2 && Nat.land n 0xEC == 0
  else if k == Reg.UPD_OFFSET then n <= classArea (field (s.nat Reg.UPD_TARGET) 1 0)
  else if k == Reg.TAMP_EN then n < 16 && !(s.part.variant = .l && bitN n 2 == 0)
  else true

/-- The rules every value of a type obeys (R17, R18). -/
def typeRangeOk (ty : Ty) (v : Val) : Bool :=
  match ty with
  | .bool => 0 <= v.int && v.int <= 1
  | .s48 => -140737488355328 <= v.int && v.int <= 140737488355327
  | .ltime | .ctime => v.int.toNat % 1024 <= 999
  | .str32 => str32Ok v.blob
  | _ => true

/-- The range check of R42. -/
def State.rangeOk (s : State) (r : Row) (k : Nat) (v : Val) : Bool :=
  typeRangeOk r.ty v &&
  match r.rng with
  | .full => true
  | .iv l => l.any fun p => p.1 <= v.int && v.int <= p.2
  | .mask m => Nat.land v.int.toNat m == v.int.toNat
  | .blob lo hi => lo <= v.blob.length && v.blob.length <= hi
  | .special => s.rangeSpecial k v

/-! ## The write checks in the order of R42 -/

/-- Whether a commit set is STORING or WAITING_EPOCH (R51). -/
def State.committing (s : State) : Bool := s.nat Reg.COMMIT_STATE == 1 || s.nat Reg.COMMIT_STATE == 2

/-- Existence, authority and access of a write, in this order; the row where all pass. -/
def State.writeGate (s : State) (src : Src) (k : Nat) : Except Status Row :=
  match s.rowFor k with
  | none => .error .noSuchObject
  | some r =>
    if !s.mayWrite src then .error .notAuthorised
    else if !s.accessOk r k then .error .accessError
    else .ok r

/-- The whole check of a write of encoded data (R42); R60's BUSY for a PENDING command comes before type and range. -/
def State.writeCheck (s : State) (src : Src) (k : Nat) (data : List Byte) : Except Status Val :=
  match s.writeGate src k with
  | .error e => .error e
  | .ok r =>
    match cmdOfKey k with
    | some c =>
      if keyE k == 1 && (s.isPending c || (c == .commit && s.committing)) then .error .busy
      else if !typeOk r.ty data then .error .typeError
      else if !s.rangeOk r k (decodeVal r.ty data) then .error .rangeError
      else .ok (decodeVal r.ty data)
    | none =>
      if typeOk r.ty data && !s.accessValue k (decodeVal r.ty data) then .error .accessError
      else if !typeOk r.ty data then .error .typeError
      else if !s.rangeOk r k (decodeVal r.ty data) then .error .rangeError
      else .ok (decodeVal r.ty data)

/-- The data that carries a number for a type of k bytes; one that does not fit takes a byte more, and fails the type check. -/
def dataOf (k n : Nat) : List Byte := if n < 256 ^ k then leBytes k n else leBytes (k + 1) n

/-- A write command of its own row: the value n goes through the checks of R42 as a WRITE of the address in the encoding of its
type; where all pass, the effect happens and the write is answered OK. -/
def State.hostWrite (s : State) (h : Hdr) (k n : Nat) (effect : State → State) : State :=
  if !s.answersTo h.src then s
  else match s.rowFor k with
  | none => s.answerW h .noSuchObject
  | some r =>
    match s.writeCheck h.src k (dataOf r.ty.size n) with
    | .error e => s.answerW h e
    | .ok _ => (effect s).answerW h .ok

/-- A CMD write of its own row (R60): where the checks pass, the old result goes, RES is PENDING, and the operation starts. -/
def State.hostCmd (s : State) (h : Hdr) (c : CmdId) (arg : Nat) (start : State → State) : State :=
  s.hostWrite h (cmdBase c + 1) arg fun s => start (s.startCmd c arg)

/-! ## Staging (R49, R50) -/

/-- The cost of one entry: 8 bytes and the size of its value (R50). -/
def entryCost (k : Nat) (v : Val) : Nat :=
  8 + (match rowAt k with | some r => (encodeVal r.ty v).length | none => 0)

/-- The bytes a set of entries costs (R50, R52). -/
def entriesCost (l : List (Nat × Val)) : Nat := l.foldl (fun a e => a + entryCost e.1 e.2) 0

/-- The staging area with an entry put in, replacing one for the same object (R50). -/
def stagePut (l : List (Nat × Val)) (k : Nat) (v : Val) : List (Nat × Val) :=
  if l.any (fun e => e.1 == k) then l.map fun e => if e.1 == k then (k, v) else e else l ++ [(k, v)]

/-- Set the staging area and its readbacks STAGE_COUNT and STAGE_BYTES (R56). -/
def State.setStaging (s : State) (l : List (Nat × Val)) : State :=
  let s := { s with dict := { s.dict with staging := l } }
  (s.putN Reg.STAGE_COUNT l.length).putN Reg.STAGE_BYTES (entriesCost l)

/-- Whether the limits of R50 hold: 2,048 entries and 65,536 bytes. -/
def stageFits (l : List (Nat × Val)) : Bool := l.length <= 2048 && entriesCost l <= 65536

end Sys2Proof.Machine
end

