-- ==== Sys2Proof/Machine/Keys.lean ====
section
/-! DEFINITION. Keys: the keystore's slots, their creation, use, re-masking and destruction (chapter 14). The cryptographic
functions are opaque (log entry 11). -/

namespace Sys2Proof.Machine

/-! ## Slots (R340, R342, R343) -/

/-- The record of a slot; an unlisted slot is EMPTY. -/
def State.slotOf (s : State) (n : Nat) : KeySlot :=
  match s.trust.slots.find? fun x => x.1 == n with
  | some x => x.2
  | none => ⟨0, 0, 0⟩

/-- Set the record of a slot. -/
def State.setSlot (s : State) (n : Nat) (k : KeySlot) : State :=
  let old := s.trust.slots
  let new := if (old.any fun x => x.1 == n) then (old.map fun x => if x.1 == n then (n, k) else x) else old ++ [(n, k)]
  { s with trust := { s.trust with slots := new } }

/-- STATE of a slot word (R340): 0 EMPTY, 1 VALID, 2 ORPHANED, 3 ERASING, 4 DAMAGED. -/
def kState (w : Nat) : Nat := field w 30 28
/-- TYPE of a slot word. -/
def kType (w : Nat) : Nat := field w 2 0
/-- LEVEL of a slot word. -/
def kLevel (w : Nat) : Nat := field w 27 25
/-- PARENT of a slot word. -/
def kParent (w : Nat) : Nat := field w 23 16
/-- Whether the parent is the device root. -/
def kRooted (w : Nat) : Bool := bit w 24
/-- A slot word with another STATE. -/
def kWith (w st : Nat) : Nat := w - kState w * 268435456 + st * 268435456

/-- Whether a slot's key is usable: VALID, and the root was derived (R339, R348). -/
def State.slotValid (s : State) (n : Nat) : Bool := kState (s.slotOf n).word == 1 && s.nat Reg.TRUST_STATE != 1

/-- KEY_INFO of a slot: under ROOT_FAIL every slot reads DAMAGED (R339, R340). -/
def State.keyInfo (s : State) (n : Nat) : Nat :=
  if s.nat Reg.TRUST_STATE == 1 then kWith (s.slotOf n).word 4 else (s.slotOf n).word

/-- Slots in use (SLOTS_USED, R359). -/
def State.slotsUsed (s : State) : Nat := (s.trust.slots.filter fun x => kState x.2.word != 0).length

/-- The material of a slot; the factory slots' is the unit's own (R342). -/
def State.keyMat (s : State) (n : Nat) : Nat :=
  if bit (s.slotOf n).word 31 then Config.factoryKey n else (s.slotOf n).mat

/-- The material's size in bytes: 48 for P-384, else 32. -/
def matBytes (w : Nat) : Nat := if kType w == 4 then 48 else 32
/-- The material as bytes. -/
def State.keyBytes (s : State) (n : Nat) : List Byte := beBytes (matBytes (s.slotOf n).word) (s.keyMat n)

/-- KEY_PUB of a slot: SEC1 uncompressed for an ECC slot, else nothing (R359). -/
def State.keyPub (s : State) (n : Nat) : List Byte :=
  let w := (s.slotOf n).word
  if s.slotValid n && (kType w == 3 || kType w == 4) then Config.eccPublic (kType w) (s.keyBytes n) else []

/-- Whether a legal signing key is present (R57, R231, R342, R356). -/
def State.legalKey (s : State) : Bool :=
  s.part.variant = .l && s.slotValid 1 && s.nat Reg.BOOT_STATE != 2 && s.nat Reg.BOOT_STATE != 3

/-- The slots with a key, be it damaged, whose parent is one of a list. -/
def State.childrenOf (s : State) (l : List Nat) : List Nat :=
  (s.trust.slots.filter fun x => (kState x.2.word == 1 || kState x.2.word == 4) && !kRooted x.2.word && l.contains (kParent x.2.word)).map (·.1)

/-- A slot and all its descendants; levels end at 4 (R340, R352). -/
def State.subtree (s : State) (n : Nat) : List Nat :=
  let a := s.childrenOf [n]
  let b := s.childrenOf a
  let c := s.childrenOf b
  n :: (a ++ b ++ c)

/-! ## Creating keys (R341, R344 to R346) -/

/-- The order of the P-256 or P-384 group (R345, log entry 18). -/
def curveOrder (ty : Nat) : Nat :=
  if ty == 4 then 0xffffffffffffffffffffffffffffffffffffffffffffffffc7634d81f4372ddf581a0db248b0a77aecec196accc52973
  else 0xffffffff00000000ffffffffffffffffbce6faada7179e84f3b9cac2fc632551

/-- The material that output bytes give: an ECC scalar is reduced modulo n − 1, plus 1 (R345). -/
def matOf (ty : Nat) (out : List Byte) : Nat :=
  if ty == 3 || ty == 4 then beNat out % (curveOrder ty - 1) + 1 else beNat out
/-- The bytes of output a type needs (R345). -/
def outLen (ty : Nat) : Nat := if ty == 4 then 64 else if ty == 3 then 48 else 32

/-- Whether USES and MASK are ones R341 admits. -/
def usesOk (w : Nat) : Bool :=
  let ty := kType w
  let ecc := ty == 3 || ty == 4
  (ty != 0) && (!(bit w 5 || bit w 7) || ty == 1) && !bit w 9 &&
  (!bit w 10 || (ecc && bit w 3)) && (!bit w 11 || (ty == 1 && bit w 3 && bit w 4)) && (!bit w 12 || (ty == 2 && bit w 4))

/-- The bits of WORD a definition may set: TYPE, USES, MASK, PARENT and PARENT_IS_ROOT (R344). -/
def wordReserved (w : Nat) : Bool := Nat.land w 0x01FF1FFF != w || 5 <= kType w

/-- The level a definition would give (R340). -/
def State.newLevel (s : State) (w : Nat) : Nat := if kRooted w then 1 else kLevel (s.slotOf (kParent w)).word + 1

/-- Whether the length matches METHOD and TYPE (R344). -/
def lengthOk (method ty len : Nat) : Bool :=
  match method with
  | 1 => len == 12
  | 2 => len == 44
  | 3 => len == (if ty == 4 then 153 else 137)
  | _ => false

/-- Whether a definition's parent can carry it: the device root that was derived, or a VALID slot with WRAP (R339, R344). -/
def State.parentOk (s : State) (w : Nat) : Bool :=
  if kRooted w then s.nat Reg.TRUST_STATE != 1 else s.slotValid (kParent w) && bit (s.slotOf (kParent w)).word 5

/-- The checks of KEY_CREATE before the material, as KEY_CREATE_ERR (R344); the reasons are tried in the table's order, but 8 ahead of
3, and the length before the ones that read the material (log entry 19). -/
def State.createErr (s : State) (slot method rsv w len : Nat) : Nat :=
  let p := s.slotOf (kParent w)
  if kState (s.slotOf slot).word != 0 then 1
  else if slot < 8 || rsv != 0 || wordReserved w then 2
  else if (method == 1 || method == 3) && (s.nat Reg.TRUST_STATE == 1 || s.nat Reg.TRUST_STATE == 2) then 8
  else if !s.parentOk w then 3
  else if 4 < s.newLevel w then 4
  else if !usesOk w then 5
  else if method == 2 && !kRooted w && !bit p.word 6 then 6
  else if !lengthOk method (kType w) len then 9
  else 0

/-- Bytes 0 to 11 of a definition. -/
def defHead (slot method rsv w : Nat) : List Byte := leBytes 1 slot ++ leBytes 1 method ++ leBytes 2 rsv ++ leBytes 8 w

/-- The material of a checked definition; none where an import fails, as without a usable import key (R345, R346, R348). -/
def State.createMat (s : State) (slot method rsv w : Nat) (rest : List Byte) : Option Nat :=
  let ty := kType w
  match method with
  | 1 => some (matOf ty (Config.drbg s.fresh (outLen ty)))
  | 2 =>
    let parent := if kRooted w then beBytes 32 Config.deviceRoot else s.keyBytes (kParent w)
    some (matOf ty (Config.hkdf parent (rest ++ leBytes 8 w) (outLen ty)))
  | _ =>
    match (if s.slotValid 0 then Config.unwrap (s.keyBytes 0 ++ s.part.serial) (defHead slot method rsv w ++ rest) else none) with
    | none => none
    | some m =>
      let v := beNat m
      if (ty == 3 || ty == 4) && !(1 <= v && v < curveOrder ty) then none else some v

/-- Reject a definition: KEY_CREATE_ERR gives the reason and the slot is unchanged (R344). -/
def State.createReject (s : State) (e : Nat) : State × Status :=
  (s.putN Reg.KEY_CREATE_ERR e, .rangeError)

/-- KEY_CREATE: check, make and store (R344 to R346). -/
def State.keyCreate (s : State) (slot method rsv w : Nat) (rest : List Byte) : State × Status :=
  let e := s.createErr slot method rsv w (12 + rest.length)
  if e != 0 then s.createReject e
  else
    match s.createMat slot method rsv w rest with
    | none =>
      let before := s.get Reg.IMPORT_FAIL_CNT
      ((s.count Reg.IMPORT_FAIL_CNT).raiseCat 0xA000 0x0B 20 before).createReject 7
    | some m =>
      let word := w + s.newLevel w * 33554432 + 268435456 + (method + 1) * 4294967296
      (((((s.setSlot slot ⟨word, (s.slotOf slot).gen + 1, m⟩).putN Reg.KEY_CREATE_ERR 0).putBoth Reg.KEY_CREATE
        (.bytes (defHead slot method rsv w ++ rest))).drawn), .ok)

/-- KEY_CREATE from the bytes of a definition. -/
def State.keyCreateBytes (s : State) (bs : List Byte) : State × Status :=
  s.keyCreate (leAt bs 0 1) (leAt bs 1 1) (leAt bs 2 2) (leAt bs 4 8) (bs.drop 12)

/-- A write of a BLOB object of its own row: the checks of R42, then an effect that may itself reject the value. -/
def State.hostWriteB (s : State) (h : Hdr) (k : Nat) (data : List Byte) (effect : State → State × Status) : State :=
  if !s.answersTo h.src then s
  else match s.writeCheck h.src k (leBytes 2 data.length ++ data) with
  | .error e => s.answerW h e
  | .ok _ => (effect s).1.answerW h (effect s).2

/-- A write of a KEY_CREATE definition of a method. -/
def State.hostCreate (s : State) (h : Hdr) (slot method rsv w : Nat) (rest : List Byte) : State :=
  s.hostWriteB h Reg.KEY_CREATE (defHead slot method rsv w ++ rest) fun s =>
    s.keyCreateBytes (defHead slot method rsv w ++ rest)

/-- KEY_GENERATE. -/
def execKeyGenerate (h : Hdr) (slot rsv word : Nat) (s : State) : Host.Outcome State Fault Refusal :=
  .next (s.hostCreate h slot 1 rsv word [])

/-- KEY_DERIVE. -/
def execKeyDerive (h : Hdr) (slot rsv word : Nat) (rest : List Byte) (s : State) : Host.Outcome State Fault Refusal :=
  .next (s.hostCreate h slot 2 rsv word rest)

/-- KEY_IMPORT. -/
def execKeyImport (h : Hdr) (slot rsv word : Nat) (rest : List Byte) (s : State) : Host.Outcome State Fault Refusal :=
  .next (s.hostCreate h slot 3 rsv word rest)

/-! ## Using keys (R348, R351) -/

/-- The material behind a working copy. -/
def State.copyMat (s : State) (c : WorkCopy) : Nat :=
  match c.slot with | none => Config.deviceRoot | some n => s.keyMat n

/-- Whether a working copy is of an ECC key. -/
def State.copyEcc (s : State) (c : WorkCopy) : Nat :=
  match c.slot with
  | none => 0
  | some n => if kType (s.slotOf n).word == 3 || kType (s.slotOf n).word == 4 then kType (s.slotOf n).word else 0

/-- The second share of a working copy: k XOR a, or (d − a) mod n (R351). -/
def State.shareB (s : State) (c : WorkCopy) : Nat :=
  if s.copyEcc c == 0 then Nat.xor (s.copyMat c) c.a
  else (s.copyMat c + curveOrder (s.copyEcc c) - c.a % curveOrder (s.copyEcc c)) % curveOrder (s.copyEcc c)

/-- Re-mask a working copy with a fresh value (R351). -/
def State.remaskCopy (s : State) (v : Nat) (c : WorkCopy) : WorkCopy :=
  { c with a := if s.copyEcc c == 0 then Nat.xor c.a (v % 2 ^ 256) else (c.a + v) % curveOrder (s.copyEcc c) }

/-- Make or renew the working copy of a slot; the least recently used is zeroised beyond 64 (R351). -/
def State.touchCopy (s : State) (n : Nat) : State :=
  let c : WorkCopy := match s.trust.copies.find? fun (x : WorkCopy) => x.slot == some n with
    | some x => x
    | none => s.remaskCopy (beNat (Config.drbg s.fresh 48)) ⟨some n, 0⟩
  let rest := s.trust.copies.filter fun (x : WorkCopy) => x.slot != some n
  let root := rest.filter fun (x : WorkCopy) => x.slot.isNone
  let used := rest.filter fun (x : WorkCopy) => x.slot.isSome
  let used := used.drop (used.length + root.length + 1 - 64)
  { s.drawn with trust := { s.trust with copies := root ++ used ++ [c] } }

/-- A request for a key (R348): delivered, or refused and counted. -/
def State.keyAsk (s : State) (slot engine use : Nat) : State × Bool :=
  let w := (s.slotOf slot).word
  if slot < 256 && s.slotValid slot && 8 <= engine && engine <= 12 && bit w engine && 3 <= use && use <= 7 && bit w use then
    (s.touchCopy slot, true)
  else
    let before := s.get Reg.KEY_MISUSE_CNT
    ((s.count Reg.KEY_MISUSE_CNT).raiseCat 0xA000 0x0A 21 before, false)

/-- KEY_REQUEST. -/
def execKeyRequest (slot engine use : Nat) (s : State) : Host.Outcome State Fault Refusal :=
  .next (s.live fun s => (s.keyAsk slot engine use).1)

/-- REMASK_PASS (R351): under ENTROPY_FAIL nothing is re-masked and the period counts; under a test of the Trust region the pass
pauses without counting (R434). -/
def State.remask (s : State) (late : Bool) : State :=
  let before := s.get Reg.REMASK_LATE_CNT
  if s.testing 4 then s
  else if s.nat Reg.TRUST_STATE == 2 then s.count Reg.REMASK_LATE_CNT
  else
    let v := beNat (Config.drbg s.fresh 48)
    let s := { s.drawn with trust := { s.trust with copies := s.trust.copies.map (s.remaskCopy v) } }
    if !late then { s with trust := { s.trust with lateRun := false } }
    else
      let first := !s.trust.lateRun
      let s := { s.count Reg.REMASK_LATE_CNT with trust := { s.trust with lateRun := true } }
      if first then s.raiseCat 0xA000 0x09 22 before else s

/-- REMASK_PASS. -/
def execRemaskPass (late : Bool) (s : State) : Host.Outcome State Fault Refusal := .next (s.live (·.remask late))

/-- TRUST_STATE without an entropy failure: STORE_DAMAGED where a slot is damaged (R339). -/
def State.trustBase (s : State) : Nat := if s.trust.slots.any (fun x => kState x.2.word == 4) then 3 else 0

/-- ENTROPY_FAIL (R339). -/
def execEntropyFail (s : State) : Host.Outcome State Fault Refusal :=
  .next (s.live fun s =>
    if s.nat Reg.TRUST_STATE == 1 || s.nat Reg.TRUST_STATE == 2 then s
    else
      let before := s.get Reg.TRUST_STATE
      (s.putN Reg.TRUST_STATE 2).raiseCat 0xA000 0x01 23 before)

/-- ENTROPY_RECOVER (R339). -/
def execEntropyRecover (s : State) : Host.Outcome State Fault Refusal :=
  .next (s.live fun s => if s.nat Reg.TRUST_STATE == 2 then s.putN Reg.TRUST_STATE s.trustBase else s)

/-! ## Destroying keys (R352) -/

/-- Orphan a list of slots: their working copies are zeroised, and they read ERASING once the invalidation is stored (R352). -/
def State.orphan (s : State) (l : List Nat) : State :=
  let s := l.foldl (fun (st : State) (n : Nat) =>
    st.setSlot n { st.slotOf n with word := kWith (st.slotOf n).word 3 }) s
  { s with trust := { s.trust with copies := s.trust.copies.filter fun (x : WorkCopy) =>
      match x.slot with | none => true | some n => !l.contains n } }

/-- KEY_DESTROY after its CMD write was accepted (R352). -/
def State.keyDestroy (s : State) (arg : Nat) : State :=
  let n := field arg 7 0
  let tree := s.subtree n
  if n < 8 then s.refusedWith .keyDestroy 0x0100
  else if !s.slotValid n then s.refusedWith .keyDestroy 0x0101
  else if tree.any (fun x => x != 0xFF && (x == s.nat Reg.RING_KEY_SLOT || x == s.nat Reg.RING_KEY_NEXT)) then
    s.refusedWith .keyDestroy 0x0102
  else
    let s := s.orphan tree
    let s := s.putN Reg.ERASE_PENDING (s.nat Reg.ERASE_PENDING + tree.length)
    s.completed .keyDestroy 0 tree.length

/-- KEY_DESTROY. -/
def execKeyDestroy (h : Hdr) (arg : Nat) (s : State) : Host.Outcome State Fault Refusal :=
  .next (s.hostCmd h .keyDestroy arg (·.keyDestroy arg))

/-- The eraser has overwritten a slot's record: it reads EMPTY (R352). -/
def State.slotErased (s : State) (n : Nat) : State :=
  if kState (s.slotOf n).word == 3 then
    (s.setSlot n ⟨0, (s.slotOf n).gen, 0⟩).putN Reg.ERASE_PENDING (s.nat Reg.ERASE_PENDING - 1)
  else s

/-- KEY_SLOT_ERASED. -/
def execKeySlotErased (slot : Nat) (s : State) : Host.Outcome State Fault Refusal := .next (s.live (·.slotErased slot))

/-! ## Certificate requests (R347) -/

/-- A write of CSR_SUBJECT: the request signed with the slot's key, or nothing (R347). -/
def State.csrSubject (s : State) (data : List Byte) : State × Status :=
  let n := leAt data 0 1
  let w := (s.slotOf n).word
  if 1 <= data.length && s.slotValid n && (kType w == 3 || kType w == 4) && bit w 3 && bit w 10 then
    let out := (Config.pkcs10 (s.keyBytes n) (s.keyPub n) (data.drop 1) s.fresh).take 1024
    (((s.putBoth Reg.CSR_SUBJECT (.bytes data)).putB Reg.CSR_OUT out).drawn, .ok)
  else (s.putB Reg.CSR_OUT [], .rangeError)

/-- CSR_SUBJECT_WRITE. -/
def execCsrSubjectWrite (h : Hdr) (data : List Byte) (s : State) : Host.Outcome State Fault Refusal :=
  .next (s.hostWriteB h Reg.CSR_SUBJECT data fun s => s.csrSubject data)

end Sys2Proof.Machine
end

