-- ==== Sys2Proof/Machine/Alloc.lean ====
section
/-! DEFINITION. Alloc: the site allocation's algorithm on a snapshot of claim blocks (R157 to R159, R165 to R168, R172 to R176,
R180, R182). It reads the snapshot and the tree in use alone. -/

namespace Sys2Proof.Machine

/-! ## The claim block (R157 to R159) -/

/-- A port entry's 12 bytes (R158). -/
def PortEntry.encode (e : PortEntry) : List Byte :=
  leBytes 1 (e.attach % 64 + 64 * b2n e.src + 128 * b2n e.valid)
    ++ leBytes 3 (e.floor % 8388608 + 8388608 * b2n e.stor)
    ++ leBytes 3 (e.ceil % 8388608)
    ++ leBytes 3 (e.prev % 8388608 + 8388608 * b2n e.prevNeg)
    ++ leBytes 2 (e.ramp % 8192 + 8192 * (e.tier % 8))

/-- The port entry at the head of 12 bytes. -/
def PortEntry.decode (bs : List Byte) : PortEntry :=
  let a := leAt bs 0 1
  let f := leAt bs 1 3
  let p := leAt bs 7 3
  let r := leAt bs 10 2
  ⟨bit a 7, field a 5 0, bit a 6, field f 22 0, bit f 23, field (leAt bs 4 3) 22 0, field p 22 0, bit p 23, field r 12 0, field r 15 13⟩

/-- A group entry's 4 bytes (R159). -/
def GroupEntry.encode (e : GroupEntry) : List Byte :=
  leBytes 4 (e.node % 4096 + 4096 * (e.kind % 4) + 16384 * (e.index % 4) + 65536 * (e.cap % 65536))

/-- The group entry at the head of 4 bytes. -/
def GroupEntry.decode (bs : List Byte) : GroupEntry :=
  let w := leAt bs 0 4
  ⟨field w 11 0, field w 13 12, field w 15 14, field w 31 16⟩

/-- A claim block's 120 bytes (R157). -/
def Block.encode (b : Block) : List Byte :=
  leBytes 2 (b.node % 4096 + 4096 * b2n b.island + 8192 * b2n b.hold + 32768 * b2n b.crcv) ++ leBytes 2 b.epoch ++ leBytes 4 b.crc
    ++ b.ports.flatMap PortEntry.encode ++ b.groups.flatMap GroupEntry.encode

/-- The claim block that 120 bytes carry. -/
def Block.decode (bs : List Byte) : Block :=
  let h := leAt bs 0 2
  ⟨field h 11 0, bit h 12, bit h 13, bit h 15, leAt bs 2 2, leAt bs 4 4,
   (List.range 8).map fun i => PortEntry.decode (bs.drop (8 + 12 * i)),
   (List.range 4).map fun i => GroupEntry.decode (bs.drop (104 + 4 * i))⟩

/-- Blocks in ascending NODE order (R159). -/
def insertBlock (x : Block × Bool) : List (Block × Bool) → List (Block × Bool)
  | [] => [x]
  | y :: t => if x.1.node < y.1.node then x :: y :: t else y :: insertBlock x t

/-- CRC-32 of IEEE 802.3 (R176). -/
def crc32 (bs : List Byte) : Nat := Nat.xor (crcLsb 0xEDB88320 0xFFFFFFFF bs) 0xFFFFFFFF

/-! ## The limit tree (R57, R165 to R168) -/

/-- Whether a limit node is used (R166): node 0 always. -/
def State.nodeUsed (s : State) (n : Nat) : Bool := n == 0 || s.treeVal (Reg.PARENT n) != 0xFF

/-- The path from a node up to node 0, or none where a parent link is broken, unused or loops (R57, R167). -/
def State.pathFrom (s : State) : (fuel : Nat) → Nat → Option (List Nat)
  | 0, _ => none
  | f + 1, n =>
    if n == 0 then some [0]
    else if 64 <= n || !s.nodeUsed n then none
    else (s.pathFrom f (s.treeVal (Reg.PARENT n))).map (n :: ·)

/-- The addresses of the tree entries (R168). -/
def treeKeys : List Nat :=
  ((List.range 64).flatMap fun n => [Reg.PARENT n, Reg.LIMIT n, Reg.KIND n]) ++ [Reg.SITE_EXPORT, Reg.EPOCH_PERIOD]

/-- The CRC-32 of a tree, given by its values (R168). -/
def treeHash (v : Nat → Nat) : Nat :=
  crc32 (((List.range 64).flatMap fun n => leBytes 1 (v (Reg.PARENT n)) ++ leBytes 4 (v (Reg.LIMIT n)) ++ leBytes 1 (v (Reg.KIND n)))
    ++ leBytes 4 (v Reg.SITE_EXPORT) ++ leBytes 4 (v Reg.EPOCH_PERIOD))

/-- ALLOC_HASH: the tree in use (R168). -/
def State.allocHash (s : State) : Nat := treeHash s.treeVal
/-- ALLOC_HASH_HELD: the held tree, 0 while none is held (R168). -/
def State.allocHashHeld (s : State) : Nat := if s.site.treeHeld then treeHash s.nat else 0

/-! ## Bounds (R172) -/

/-- One claim of the computation. -/
structure Claim where
  node : Nat
  idx : Nat
  e : PortEntry
  path : Option (List Nat)
  src : Bool
  lo : Nat
  hi : Nat
  g : Nat
  deriving DecidableEq, Repr

/-- The ramp per epoch of a port entry, W (R172). -/
def rampPer (period : Nat) (e : PortEntry) : Nat := e.ramp * period / 1000

/-- Whether a group entry names a port: outlets are index 0 to 3 of kind 1, external ports of kind 2 (R158, R159). -/
def GroupEntry.names (g : GroupEntry) (node idx : Nat) : Bool :=
  g.node == node && g.kind == idx / 4 + 1 && g.index == idx % 4

/-- CAPS of a port: 1,000 × the capacities of the groups that name it (R172). -/
def capsOf (snap : List (Block × Bool)) (node idx : Nat) : Nat :=
  1000 * snap.foldl (fun a b => a + (b.1.groups.filter (·.names node idx)).foldl (fun a g => a + g.cap) 0) 0

/-- A claim with its bounds (R172); a fixed one stays at its previous grant. -/
def State.claimOf (s : State) (snap : List (Block × Bool)) (b : Block) (fixed : Bool) (idx : Nat) (e : PortEntry) : Claim :=
  let rt := rampPer s.period e
  let caps := capsOf snap b.node idx
  let reversing := 0 < e.prev && e.prevNeg != e.src
  let d := if reversing then e.prevNeg else e.src
  let f := if reversing then 0 else e.floor
  let c := if reversing then 0 else e.ceil
  let up := e.prev + rt
  let dn := e.prev - rt
  let hi := min c (min up caps)
  let lo := min (max (min f up) dn) caps
  let path := s.pathFrom 65 e.attach
  if fixed || b.hold then ⟨b.node, idx, e, path, e.prevNeg, min e.prev caps, min e.prev caps, 0⟩
  else ⟨b.node, idx, e, path, d, lo, max hi lo, 0⟩

/-- The valid claims of a snapshot in ascending key (R159, R172). -/
def State.claimsIn (s : State) (snap : List (Block × Bool)) : List Claim :=
  snap.flatMap fun b => ((List.range 8).zip b.1.ports).filterMap fun (i, e) =>
    if e.valid then some (s.claimOf snap b.1 b.2 i e) else none

/-! ## FILL (R173) -/

/-- Headroom of a node; none is unlimited. -/
def headAt (h : List (Option Nat)) (n : Nat) : Option Nat := (h[n]?).getD (some 0)

/-- Whether a claim has no way up: a broken path, or a node without headroom (R167, R173). -/
def Claim.blocked (c : Claim) (h : List (Option Nat)) : Bool :=
  match c.path with
  | none => true
  | some p => p.any fun n => headAt h n == some 0

/-- Whether a node lies on a claim's path. -/
def Claim.on (c : Claim) (n : Nat) : Bool := match c.path with | none => false | some p => p.contains n

/-- Give 1 W to the claims on node m that still have headroom, in key order (R173). -/
def fillOnes (act : Claim → Bool) (m : Nat) : List Claim → List (Option Nat) → List Claim × List (Option Nat)
  | [], h => ([], h)
  | c :: t, h =>
    if act c && c.on m && !c.blocked h then
      let h := (List.range 64).map fun n => if c.on n then (headAt h n).map (· - 1) else headAt h n
      let r := fillOnes act m t h
      ({ c with g := c.g + 1 } :: r.1, r.2)
    else
      let r := fillOnes act m t h
      (c :: r.1, r.2)

/-- The loop of FILL (R173). Every round finishes a claim, blocks one, or is followed by one that does; the fuel covers them. -/
def fillLoop (inK : Claim → Bool) (goal : Claim → Nat) :
    (fuel : Nat) → List Claim → List (Option Nat) → List Claim × List (Option Nat)
  | 0, cs, h => (cs, h)
  | f + 1, cs, h =>
    let act : Claim → Bool := fun c => inK c && c.g < goal c && !c.blocked h
    let a := cs.filter act
    match a with
    | [] => (cs, h)
    | c0 :: _ =>
      let cnt (n : Nat) : Nat := (a.filter (·.on n)).length
      let quot (n : Nat) : Option Nat := if 0 < cnt n then (headAt h n).map (· / cnt n) else none
      let s1 := a.foldl (fun m c => min m (goal c - c.g)) (goal c0 - c0.g)
      let step := (List.range 64).foldl (fun m n => match quot n with | some q => min m q | none => m) s1
      if 0 < step then
        fillLoop inK goal f (cs.map fun c => if act c then { c with g := c.g + step } else c)
          ((List.range 64).map fun n => (headAt h n).map (· - step * cnt n))
      else
        let m := ((List.range 64).find? fun n => quot n == some 0).getD 0
        let r := fillOnes act m cs h
        fillLoop inK goal f r.1 r.2

/-- FILL for one kind of claim, over both goals and all tiers in order (R173, R174). -/
def fillAll (src : Bool) (cs : List Claim) (h : List (Option Nat)) : List Claim × List (Option Nat) :=
  let rounds : List (Bool × Nat) := ((List.range 8).map fun t => (false, t)) ++ ((List.range 8).map fun t => (true, t))
  rounds.foldl (fun acc r =>
    fillLoop (fun c => c.src == src && c.e.tier == r.2) (fun c => if r.1 then c.hi else c.lo) (4 * cs.length + 4) acc.1 acc.2) (cs, h)

/-! ## The grants (R174 to R176) -/

/-- The sum of the grants of one kind. -/
def sumOf (src : Bool) (cs : List Claim) : Nat := (cs.filter fun c => c.src == src).foldl (fun a c => a + c.g) 0

/-- Cut sources back, in descending (tier, key), by an excess, to a base (R174). -/
def cutBack (toLo : Bool) (cs : List Claim) (excess : Nat) : List Claim × Nat :=
  let order : List (Nat × Nat) := ([7, 6, 5, 4, 3, 2, 1, 0].flatMap fun t => (cs.filter fun c => c.src && c.e.tier == t).reverse).map
    fun c => (c.node, c.idx)
  order.foldl (fun (acc : List Claim × Nat) k =>
    match acc.1.find? fun c => (c.node, c.idx) == k with
    | none => acc
    | some c =>
      let r := min acc.2 (c.g - (if toLo then c.lo else 0))
      (acc.1.map fun x => if (x.node, x.idx) == k then { x with g := x.g - r } else x, acc.2 - r)) (cs, excess)

/-- The claims with their grants (R174). -/
def State.fillSite (s : State) (island : Bool) (cs : List Claim) : List Claim :=
  let limit (n : Nat) : Nat := if s.nodeUsed n then s.treeVal (Reg.LIMIT n) else 0
  let l0 := if island then 0 else s.treeVal (Reg.LIMIT 0)
  let x := if island then 0 else s.treeVal Reg.SITE_EXPORT
  let heads (root : Option Nat) : List (Option Nat) := (List.range 64).map fun n => if n == 0 then root else some (limit n)
  let a := (fillAll true cs (heads none)).1
  let total := sumOf true a
  let b := (fillAll false a (heads (some (l0 + total)))).1
  let excess := total - (sumOf false b + x)
  let c := cutBack true b excess
  (cutBack false c.1 c.2).1

/-- The signed grant of a claim (R174). -/
def Claim.grant (c : Claim) : Int := if c.src then -(c.g : Int) else c.g

/-- The grant of a port, 0 where it has no valid claim (R175). -/
def grantAt (cs : List Claim) (node idx : Nat) : Int :=
  match cs.find? fun c => c.node == node && c.idx == idx with
  | some c => c.grant
  | none => 0

/-- The group entries of a snapshot in ascending key: node, group index, entry. -/
def groupEntries (snap : List (Block × Bool)) : List (Nat × Nat × GroupEntry) :=
  snap.flatMap fun b => ((List.range 4).zip b.1.groups).filterMap fun (i, g) => if g.kind == 0 then none else some (b.1.node, i, g)

/-- One port's grant shared among the groups that name it: in proportion to CAP, the remainder 1 W each in key order among those
with a nonzero CAP (R175). -/
def shareOut (grant : Int) (gs : List (Nat × Nat × GroupEntry)) : List (Nat × Nat × Int) :=
  let total : Nat := gs.foldl (fun (a : Nat) x => a + x.2.2.cap) 0
  let base := gs.map fun x => (x, if total == 0 then (0 : Int) else Int.tdiv (grant * (x.2.2.cap : Int)) (total : Int))
  let used : Nat := base.foldl (fun (a : Nat) x => a + x.2.natAbs) 0
  let rest : Nat := grant.natAbs - used
  (base.foldl (fun (acc : List (Nat × Nat × Int) × Nat) x =>
    let one := 0 < acc.2 && 0 < x.1.2.2.cap
    (acc.1 ++ [(x.1.1, x.1.2.1, if one then x.2 + grant.sign else x.2)], if one then acc.2 - 1 else acc.2)) ([], rest)).1

/-- The grants of all group entries, in ascending key (R175). -/
def groupGrants (cs : List Claim) (snap : List (Block × Bool)) : List (Nat × Nat × Int) :=
  let all := groupEntries snap
  all.map fun x =>
    let port := 4 * (x.2.2.kind - 1) + x.2.2.index
    let peers := all.filter fun y => y.2.2.names x.2.2.node port
    let shares := shareOut (grantAt cs x.2.2.node port) peers
    match shares.find? fun y => y.1 == x.1 && y.2.1 == x.2.1 with
    | some y => y
    | none => (x.1, x.2.1, 0)

/-- RESULT_CRC over the result table (R176). -/
def resultCrc (cs : List Claim) (gs : List (Nat × Nat × Int)) : Nat :=
  crc32 ((cs.flatMap fun c => leBytes 2 c.node ++ leBytes 1 c.idx ++ leBytes 4 (ofS 32 c.grant))
    ++ gs.flatMap fun g => leBytes 2 g.1 ++ leBytes 1 (8 + g.2.1) ++ leBytes 4 (ofS 32 g.2.2))

/-- The result of one computation: all claims with their grants, all group grants, and the checksum. -/
structure Result where
  claims : List Claim
  groups : List (Nat × Nat × Int)
  crc : Nat

/-- Whether the site is islanded: any block of the snapshot carries ISLAND (R182). -/
def siteIsland (snap : List (Block × Bool)) : Bool := snap.any fun b => b.1.island

/-- The computation on a snapshot (R172 to R176, R182). -/
def State.allocate (s : State) (snap : List (Block × Bool)) : Result :=
  let cs := s.fillSite (siteIsland snap) (s.claimsIn snap)
  let gs := groupGrants cs snap
  ⟨cs, gs, resultCrc cs gs⟩

end Sys2Proof.Machine
end

