-- ==== Sys2Proof/Machine/Classes.lean ====
section
/-! DEFINITION. Classes: the composition of the mode word into one behaviour for each resource class (R67 to R73, R399). -/

namespace Sys2Proof.Machine

/-- The modes, by their bit (R67). -/
inductive Mode where
  | assemble | dispense | island | shadow | limp | service | quiesce | vault
  deriving DecidableEq, Repr

/-- The bit of a mode (R67). -/
def Mode.bitNo : Mode → Nat
  | .assemble => 0 | .dispense => 1 | .island => 2 | .shadow => 3 | .limp => 4 | .service => 5 | .quiesce => 6 | .vault => 7

/-- The claiming modes of a class with what each contributes, highest first, and the unclaimed behaviour (R70, R71). LIMP claims
only masked channels and is handled by the channels themselves. -/
def claimsOf (c : Fin 8) : List (Mode × Beh) × Beh :=
  match c.val with
  | 0 => ([(.vault, .off), (.shadow, .track), (.service, .park), (.quiesce, .park), (.island, .runI), (.dispense, .run)], .park)
  | 1 => ([(.vault, .off), (.shadow, .mirror), (.service, .closed), (.quiesce, .closed), (.island, .opened), (.dispense, .opened)],
          .closed)
  | 2 => ([(.vault, .off), (.shadow, .off), (.quiesce, .failsafe)], .host)
  | 3 => ([(.vault, .bypassed), (.shadow, .listen), (.service, .zero), (.quiesce, .zero), (.island, .fullI), (.dispense, .full)], .zero)
  | 4 => ([(.vault, .off), (.service, .meter), (.quiesce, .idle), (.shadow, .meter)], .meter)
  | 5 => ([(.vault, .stopped), (.shadow, .mirror)], .keep)
  | 6 => ([(.vault, .off), (.service, .service), (.quiesce, .idle), (.shadow, .track), (.island, .run), (.dispense, .run)], .ready)
  | _ => ([(.vault, .vault), (.service, .active), (.quiesce, .low)], .active)

/-- The behaviour a word gives a class (R70). -/
def compose (word : Nat) (c : Fin 8) : Beh :=
  match (claimsOf c).1.find? fun (m, _) => bit word m.bitNo with
  | some (_, b) => b
  | none => (claimsOf c).2

/-- The word the classes move toward: MODE_WORD with LIMP_EN (R69); a unit of a pair that does not hold the Burgee behaves as
under SHADOW in the classes R399 names. -/
def State.targetWord (s : State) : Nat := if s.modes.limpEn then setBit (s.nat Reg.MODE_WORD) 4 true else s.nat Reg.MODE_WORD

/-- The behaviour a class moves toward (R70, R77, R399). -/
def State.targetBeh (s : State) (c : Fin 8) : Beh :=
  if s.waitsBurgee && (c.val == 0 || c.val == 1 || c.val == 2 || c.val == 3 || c.val == 5) then
    compose (setBit s.targetWord 3 true) c
  else compose s.targetWord c

/-- The behaviour a class has reached. -/
def State.beh (s : State) (c : Fin 8) : Beh := s.modes.beh[c]
/-- Set the behaviour a class has reached. -/
def State.setBeh (s : State) (c : Fin 8) (b : Beh) : State := { s with modes := { s.modes with beh := s.modes.beh.set c b } }

/-- Whether a behaviour runs phases. -/
def runsPhases (b : Beh) : Bool := b == .run || b == .runI
/-- Whether the phases are leaving RUN or RUN-I (R78). -/
def State.phasesLeave (s : State) : Bool := runsPhases (s.beh 0) && !runsPhases (s.targetBeh 0)

/-- Whether a class is on its way (R68, R77); the load switches' bit covers the LIMP bit too (R69, R70). -/
def State.onTheWay (s : State) (c : Fin 8) : Bool :=
  s.beh c != s.targetBeh c || (c.val == 2 && s.modes.limpReached != bit s.targetWord 4)

/-- MODE_TRANSIT as the classes stand (R68). -/
def State.transit (s : State) : Nat := (List.finRange 8).foldl (fun (a : Nat) c => a + b2n (s.onTheWay c) * 2 ^ c.val) 0

/-- MODE_TRANSIT follows the classes, and MODE_IN_FORCE takes the word once nothing is on its way (R77). -/
def State.refreshTransit (s : State) : State :=
  let s := s.putN Reg.MODE_TRANSIT s.transit
  if s.transit == 0 then s.putN Reg.MODE_IN_FORCE s.targetWord else s

/-- What a class takes when it arrives: under VAULT phases and outlets stop at PARK and CLOSED until step 6 of R85 removes the power. -/
def State.reach (s : State) (c : Fin 8) : Beh :=
  match c.val, s.targetBeh c with
  | 0, .off => .park
  | 1, .off => .closed
  | _, b => b

/-- A class reaches its behaviour (R77). -/
def State.arrive (s : State) (c : Fin 8) : State :=
  let s := s.setBeh c (s.reach c)
  let s := if c.val == 2 then { s with modes := { s.modes with limpReached := bit s.targetWord 4 } } else s
  s.refreshTransit

end Sys2Proof.Machine
end

