-- ==== Sys2Proof/Machine/Phase.lean ====
section
/-! DEFINITION. Phase: the pulse generators of the 32 legs (chapter 05): shadows and capture, the period's intervals, the dead
time, short pulses, overrides, the sync chain and the hardwired shutdown. Moments are in fine ticks (ft). -/

namespace Sys2Proof.Machine

/-! ## Names of a leg's place -/

/-- The group offset of a leg (R23). -/
abbrev legG (n : Fin 32) : Nat := n.val / 8
/-- The element of a leg within its group's records (R130). -/
abbrev legE (n : Fin 32) : Nat := n.val % 8 + 1
/-- The group of a leg. -/
def legGroup (n : Fin 32) : Fin 4 := ⟨n.val / 8, by have := n.isLt; omega⟩
/-- The leg i of group g. -/
def legOf (g : Fin 4) (i : Fin 8) : Fin 32 := ⟨8 * g.val + i.val, by have := g.isLt; have := i.isLt; omega⟩

/-- Change one leg. -/
def State.setLeg (s : State) (n : Fin 32) (l : Leg) : State := { s with legs := s.legs.set n l }
/-- Change one group. -/
def State.setGroup (s : State) (g : Fin 4) (x : Group) : State := { s with groups := s.groups.set g x }
/-- A value of the group of a leg. -/
def State.groupOf (s : State) (n : Fin 32) : Group := s.groups[legGroup n]
/-- Do something for each leg of a group, in order. -/
def State.forLegs (s : State) (g : Fin 4) (f : Fin 32 → State → State) : State :=
  (List.finRange 8).foldl (fun st i => f (legOf g i) st) s
/-- Do something for all 32 legs, in order. -/
def State.forAllLegs (s : State) (f : Fin 32 → State → State) : State := (List.finRange 32).foldl (fun st n => f n st) s

/-! ## Units (R108, R111) -/

/-- The first 2.5 ns tick at or after a moment: 16 ft to a tick (R108). -/
def tickUp (t : Nat) : Nat := (t + 15) / 16 * 16
/-- Nanoseconds in ft: times 32, divided by 5, the remainder discarded (R111). -/
def nsFt (ns : Nat) : Nat := ns * 32 / 5

/-- The committed values of a leg (R130). -/
def State.legCfg (s : State) (n : Fin 32) : LegCfg :=
  let v (f : Nat → Nat → Nat) : Nat := s.nat (f (legG n) (legE n))
  ⟨v Reg.CARRIER, v Reg.ON_MIN, v Reg.ON_MAX, v Reg.OFF_MIN, v Reg.OFF_MAX, v Reg.PERIOD_MIN, v Reg.PERIOD_MAX,
   v Reg.DT_MIN, v Reg.DT_MAX, v Reg.MIN_PULSE, v Reg.SHORT_MODE, v Reg.SWN_MODE, v Reg.FULL_ON_EN == 1, v Reg.INTERLEAVE_FRAC⟩

/-- TIME_ACTIVE of a command word (R111): the clamp takes the lower bound first and the upper bound second (R130). -/
def timeActive (c : LegCfg) (cmd : Nat) : Nat :=
  let lo := nsFt (if c.carrier == 0 then c.onMin else c.offMin)
  let hi := nsFt (if c.carrier == 0 then c.onMax else c.offMax)
  if cmd == 0xFFFFFFFF then (if c.carrier == 0 then hi else min lo hi)
  else if 0x0004E200 < cmd then hi
  else min (max cmd lo) hi

/-- T_SHORT from the dead time that precedes a pulse (R120). -/
def tShort (c : LegCfg) (dead : Nat) : Nat := max (nsFt c.minPulse) dead

/-! ## When a leg may run (R126, R127) -/

/-- Whether REFCLK or the PLL is lost (R96). -/
def State.clockLost (s : State) : Bool := bit (s.nat Reg.FABRIC_STATUS) 1 || bit (s.nat Reg.FABRIC_STATUS) 2
/-- Whether a leg's fault latch is set (R127). -/
def State.latched (s : State) (n : Fin 32) : Bool := bit (s.nat (Reg.FAULT_LATCH (legG n))) (n.val % 8)
/-- Whether a hardwired-off source is active at a leg (R118, R127, R455). -/
def State.hardOff (s : State) (n : Fin 32) : Bool := s.latched n || s.clockLost || s.fab.clockHold || s.power.pfw || !s.powered
/-- Whether the phases class runs (R72). -/
def State.phasesRun (s : State) : Bool := s.modes.beh[(0 : Fin 8)] == .run || s.modes.beh[(0 : Fin 8)] == .runI
/-- Whether a leg may leave PARK (R25, R126): its group has its role and is CONNECTED, or still
ramping down (R32). -/
def State.legMayRun (s : State) (n : Fin 32) : Bool :=
  !s.hardOff n && s.phasesRun && bit (s.nat Reg.ROLE_ACTIVE) (legG n) && (s.nat (Reg.ROUTE_STATE (legG n)) == 4 || s.nat (Reg.ROUTE_STATE (legG n)) == 1) && !(s.groupOf n).parked && !s.legs[n].silent
/-- Whether a leg is shut down on temperature or on its sensor (R148). -/
def State.legShut (s : State) (n : Fin 32) : Bool := bit (s.nat (Reg.OT_STATUS (legG n))) (8 + n.val % 8)
/-- Whether a leg is one the claim ceiling covers: not shut down, not parked by silence, not latched (R148). -/
def State.legUp (s : State) (n : Fin 32) : Bool := !s.legShut n && !s.legs[n].silent && !s.latched n
/-- Whether a leg is in the count of available legs, which a leg shut down leaves at the next sample (R148). -/
def State.legAvailable (s : State) (n : Fin 32) : Bool := !s.legs[n].otOut && !s.legs[n].silent && !s.latched n
/-- Whether a leg carries a share: available and not shed (R147, R149). -/
def State.legCarries (s : State) (n : Fin 32) : Bool := s.legAvailable n && !s.legs[n].shed

/-- The legs of a group. -/
def legsOf (g : Fin 4) : List (Fin 32) := (List.finRange 8).map (legOf g)

/-- LEG_STATE of an interval (R131). The held-off rest of a dropped period reads 1 RUNNING (log entry 27). -/
def legStateOf (latched : Bool) : Interval → Nat
  | .parked => if latched then 4 else 0
  | .heldOff => 2
  | .heldOn => 3
  | _ => 1

/-- Put a leg record and its LEG_STATE. -/
def State.putLeg (s : State) (n : Fin 32) (l : Leg) : State :=
  (s.setLeg n l).putN (Reg.LEG_STATE (legG n) (legE n)) (legStateOf (s.latched n) l.iv)

/-- A readback of a measured time in ft (R131); what it shows of a time beyond a U32 number is free (log entry 28). -/
def State.putFt (s : State) (k ft : Nat) : State := s.putN k (if ft < 4294967296 then ft else Config.longFt ft % 4294967296)

/-- The dead time a leg is in, true at edge A: one that has not yet yielded, or one cut by a shutdown (R118). -/
def Leg.deadEdge (l : Leg) : Option Bool :=
  match l.iv with
  | .deadA => some true
  | .deadB => if l.turnOn.isNone then some false else none
  | .parked => l.cut
  | _ => none

/-- A leg whose gates a shutdown or a park puts low: the conduction so far stays in the period's measure, and a dead time runs on
(R118, R131; log entry 28). -/
def Leg.shut (l : Leg) (seen : Nat) : Leg :=
  let c := Config.cutShort l.start seen
  { l with iv := .parked, cut := l.deadEdge, turnOn := none, endAt := none, accepted := none, cmdSeen := false, predict := none,
           onTime := if l.iv == .high || l.iv == .heldOn then c else l.onTime
           offTime := if l.iv == .low then c else l.offTime }

/-- Park a leg: its pins go low; it must have a new CMD before it starts (R72, R111, R126). ON_MEAS no longer reads as held on
(R131). -/
def State.parkLeg (s : State) (n : Fin 32) : State :=
  let l := s.legs[n]
  let s := if l.iv == .heldOn then s.putFt (Reg.ON_MEAS (legG n) (legE n)) l.onLast else s
  s.putLeg n (l.shut s.pwmNow)

/-- Park a whole group (R32 step 2, R78 step 3). -/
def State.parkGroup (s : State) (g : Fin 4) : State :=
  (s.forLegs g fun n st => st.parkLeg n).setGroup g { s.groups[g] with parked := true }

/-- Whether an update is a command word. -/
def Upd.isCmd : Upd → Bool
  | .cmd _ _ _ _ => true
  | _ => false

/-- A leg leaves PARK (R111, R126): until its engine delivers anew its command is 0 with both flags clear. -/
def State.leavePark (s : State) (n : Fin 32) : State :=
  s.setLeg n { s.legs[n] with cmd := 0, forcedA := false, forcedB := false, cmdSeen := false,
                              shadow := s.legs[n].shadow.filter fun p => !p.upd.isCmd }

/-! ## Shares (R147, R150) -/

/-- The engine that drives a target: the lowest-numbered one that names it in force (R133). -/
def State.engineOf (s : State) (target : Nat) : Option (Fin 38) :=
  (List.finRange 38).find? fun e => s.nat (Reg.BIND_ACTIVE e) == target

/-- Legs of a group that carry. -/
def State.carrying (s : State) (g : Fin 4) : List (Fin 32) := (legsOf g).filter fun n => s.legCarries n
/-- Whether some leg of the group is in soft entry. -/
def State.entering (s : State) (g : Fin 4) : Bool :=
  (s.carrying g).any fun n => s.legs[n].entry == 1 || s.legs[n].entry == 2

/-- The number I_G is divided by (R147, R149): the legs that carry, and the places of silent legs that no other leg has taken, whose
share nothing makes up (R134, log entry 29). -/
def State.divisor (s : State) (g : Fin 4) : Nat :=
  let able := (legsOf g).filter fun n => !s.legs[n].otOut && !s.latched n
  max (s.carrying g).length (min s.groups[g].nTarget able.length)

/-- The share a leg would latch now, before the clamp (R147, R150): nothing where it does not carry; half and then all of I_G ÷ N in a
soft entry; what the entering legs leave where others enter; I_G ÷ N otherwise. -/
def State.wantShare (s : State) (n : Fin 32) : Int :=
  let g := legGroup n
  let i := s.groups[g].cmd
  let k := s.divisor g
  if !s.legCarries n then 0
  else if s.legs[n].entry == 1 then Int.tdiv (Int.tdiv i k) 2
  else if s.legs[n].entry == 0 && s.entering g then
    let back := (s.carrying g).filter fun m => s.legs[m].entry != 0
    let sum := back.foldl (fun a m => a + s.legs[m].share) 0
    Int.tdiv (i - sum) (k - back.length : Nat)
  else Int.tdiv i k

/-- Set the latched share of a leg and its readback at the engine that drives it (R133, R150). -/
def State.setShare (s : State) (n : Fin 32) (share : Int) (entry : Nat) : State :=
  let s := s.setLeg n { s.legs[n] with share := share, entry := entry }
  match s.engineOf n.val with
  | some e => s.putI (Reg.SHARE_LATCHED e) share
  | none => s

/-- Clear the marks of finished entries once no leg of the group is still entering (R150). -/
def State.endEntries (s : State) (g : Fin 4) : State :=
  if s.entering g then s else
    s.forLegs g fun n st => if st.legs[n].entry == 3 then st.setLeg n { st.legs[n] with entry := 0 } else st

/-- A leg latches its share at a boundary, clamped to ±I_PHASE_MAX; a soft entry goes a boundary on (R147, R150). -/
def State.latchShare (s : State) (n : Fin 32) : State :=
  let m := s.int (Reg.I_PHASE_MAX (legG n) (legE n))
  let share := clampI (-m) m (s.wantShare n)
  let l := s.legs[n]
  let out := !s.legCarries n
  let s := s.setLeg n { l with left := out && (l.cmd == 0 || l.iv == .parked) }
  if !out && l.entry == 1 then s.setShare n share 2
  else if !out && l.entry == 2 then (s.setShare n share 3).endEntries (legGroup n)
  else s.setShare n share l.entry

/-- The shed window runs from the boundary at which the last leaving leg is held off (R151). -/
def State.noteLeft (s : State) (g : Fin 4) (t : Nat) : State :=
  let x := s.groups[g]
  let gone := (legsOf g).all fun n => !s.legs[n].shed || s.legs[n].left || !s.legAvailable n
  if x.windowOpen && x.windowFrom.isNone && gone then s.setGroup g { x with windowFrom := some t } else s

/-! ## Capture (R116, R117, R121) -/

/-- Put one committed or command update into the active set. -/
def Leg.take (l : Leg) : Upd → Leg
  | .cmd w a b e => { l with cmd := w, forcedA := a, forcedB := b, cmdEngine := e }
  | .cfg c => { l with act := c }
  | .ovr v => { l with ovr := v }

/-- Whether an update is an override. -/
def Upd.isOvr : Upd → Bool
  | .ovr _ => true
  | _ => false
/-- Whether an update reached the shadow at or before the tick two ticks before a boundary (R116). -/
def Pend.inTime (p : Pend) (t : Nat) : Bool := p.at_ + 32 <= t

/-- Whether a held-on leg conducts through a boundary at which it takes the active set of a: it does not where it is held off, nor
where the period's timed pulse is dropped (R120, R121, R129). -/
def Leg.conductsOn (l a : Leg) : Bool :=
  let on := a.cmd == 0xFFFFFFFF && a.act.fullOn
  let dropped := !on && a.act.carrier == 0 && a.act.shortMode == 0 && Machine.timeActive a.act a.cmd < tShort a.act 0
  l.iv == .heldOn && a.cmd != 0 && !dropped

/-- The leg after a capture at t, and CAPTURE_STATUS where the most recent update from commit, OVERRIDE or ARM was captured (R116,
R121). -/
def Leg.capture (l : Leg) (t : Nat) : Leg × Option Nat :=
  let a := (l.shadow.filter fun p => p.inTime t && !p.upd.isOvr).foldl (fun x p => x.take p.upd) l
  let conducts := l.conductsOn a
  let goes (p : Pend) : Bool := p.inTime t && !(p.upd.isOvr && conducts)
  let b := (l.shadow.filter fun p => goes p && p.upd.isOvr).foldl (fun x p => x.take p.upd) a
  let last := (l.shadow.filter fun p => !p.upd.isCmd).getLast?
  let newest := last.any fun p => goes p && !p.old && l.holdCfg.isNone && l.holdOvr.isNone
  let left := (l.shadow.filter fun p => !goes p).map fun p =>
    if p.inTime t then { p with deferred := true, old := p.old || newest } else { p with late := p.late || p.at_ <= t }
  let status := if newest then last.map fun p => if p.deferred then 5 else if p.late then 4 else 3 else none
  ({ b with shadow := left }, status)

/-- Put an update into a leg's shadow; from commit, OVERRIDE or ARM it makes CAPTURE_STATUS PENDING (R116). -/
def State.toShadow (s : State) (n : Fin 32) (t : Nat) (u : Upd) : State :=
  let s := s.setLeg n { s.legs[n] with shadow := s.legs[n].shadow ++ [⟨t, u, false, false, false⟩] }
  if u.isCmd then s else s.putN (Reg.CAPTURE_STATUS (legG n) (legE n)) 1

/-- Whether ARM_HOLD holds a leg's updates (R117). -/
def State.armHeld (s : State) (n : Fin 32) : Bool := bit (s.nat (Reg.ARM_HOLD (legG n))) (n.val % 8)

/-- An update from commit or OVERRIDE: into the hold buffer while the leg's bit is set in ARM_HOLD, else into the shadow
(R116, R117). -/
def State.legUpdate (s : State) (n : Fin 32) (t : Nat) (u : Upd) : State :=
  if s.armHeld n then
    let l := match u with
      | .cfg c => { s.legs[n] with holdCfg := some c }
      | .ovr v => { s.legs[n] with holdOvr := some v }
      | .cmd _ _ _ _ => s.legs[n]
    (s.setLeg n l).putN (Reg.CAPTURE_STATUS (legG n) (legE n)) 2
  else s.toShadow n t u

/-- Move a leg's hold buffer into its shadow at one tick; an empty buffer changes nothing (R117). -/
def State.armRelease (s : State) (n : Fin 32) (t : Nat) : State :=
  let c := s.legs[n].holdCfg
  let v := s.legs[n].holdOvr
  let s := s.setLeg n { s.legs[n] with holdCfg := none, holdOvr := none }
  let s := match c with | some c => s.toShadow n t (.cfg c) | none => s
  match v with | some v => s.toShadow n t (.ovr v) | none => s

/-- The engine delivers a command word with its flags into the leg's shadow (R111, R116); commands are never held (R117). -/
def State.deliverCmd (s : State) (n : Fin 32) (t w : Nat) (a b : Bool) (engine : Nat) : State :=
  (s.setLeg n { s.legs[n] with cmdSeen := true }).toShadow n t (.cmd w a b engine)

/-! ## Sync chain (R122 to R124) -/

/-- Whether a leg has a predecessor in force (R122, R124). -/
def State.hasPred (s : State) (n : Fin 32) : Bool :=
  n.val % 8 != 0 || (s.nat (Reg.SYNC_SRC (legG n)) != 0 && !bit (s.nat (Reg.SYNC_STATUS (legG n))) 0)

/-- A predecessor's pulse at t gives a leg one slot (R123); at the first leg of a group it clears SYNC_LOST (R124). -/
def State.predPulse (s : State) (n : Fin 32) (t : Nat) : State :=
  let l := s.legs[n]
  let tp := match l.predAt with
    | some p => t - p
    | none => if l.realSeen then s.nat (Reg.PERIOD_MEAS (legG n) (legE n)) else nsFt l.act.periodMax
  let slot := t + l.act.frac * tp / 65536
  let s := s.setLeg n { l with predAt := some t, slots := if l.bnd < slot then l.slots ++ [(slot, tp)] else l.slots }
  if n.val % 8 == 0 then s.putBit (Reg.SYNC_STATUS (legG n)) 0 false else s

/-- Note the last pulse of a source that the first leg of a group may follow, whether or not SYNC_SRC names it now (R123). -/
def State.notePulse (s : State) (g : Fin 4) (pin : Bool) (t : Nat) : State :=
  s.setGroup g (if pin then { s.groups[g] with pinPulse := some t } else { s.groups[g] with upPulse := some t })

/-- A leg's sync pulse: to the next leg of its group, or to SYNC_OUT and an INTERNAL successor group (R122). -/
def State.emitSync (s : State) (n : Fin 32) (t : Nat) : State :=
  if h : n.val % 8 < 7 then s.predPulse ⟨n.val + 1, by have := n.isLt; omega⟩ t
  else
    let s := s.send (.syncOut (legG n) t)
    if h2 : n.val + 1 < 32 then
      let m : Fin 32 := ⟨n.val + 1, h2⟩
      (if s.nat (Reg.SYNC_SRC (legG m)) == 2 then s.predPulse m t else s).notePulse (legGroup m) false t
    else s

/-- The governing slot of a leg, with its T_p: the first that lies after its previous boundary (R123). -/
def Leg.governing (l : Leg) : Option (Nat × Nat) := l.slots.find? fun q => l.bnd < q.1
/-- The moment of the governing slot (R123). -/
def Leg.slot (l : Leg) : Option Nat := l.governing.map (·.1)

/-! ## Boundaries (R108, R113, R114, R116) -/

/-- Close the period's average at a boundary: the sums move on, and the last one is closed where it was still open (R139). -/
def State.rollAverage (s : State) (n : Fin 32) (t : Nat) : State :=
  let l := s.legs[n]
  let s := if l.perOpen && l.perStart < l.perEnd then
      s.putI (Reg.I_MEAS (legG n) (legE n)) (Int.tdiv l.accPrev (l.perEnd - l.perStart : Nat)) else s
  s.setLeg n { l with accPrev := l.accCur, accCur := 0, perStart := l.bnd, perEnd := t, perOpen := true }

/-- The first capture of a command from the new engine of a rebind: its BOUNDARY_COUNT is kept for VALUE[63:32] (R137). -/
def State.noteCapture (s : State) (n : Fin 32) : State :=
  { s with rebinds := s.rebinds.map fun r =>
      if r.target == n.val && (r.phase == 2 || r.phase == 4) && s.legs[n].cmdEngine == r.newE then
        { r with phase := r.phase + 1, bcount := s.nat (Reg.BOUNDARY_COUNT (legG n) (legE n)) } else r }

/-- What every boundary does, real or virtual: the measured period, the count, capture, share, slots and the sync pulse
(R108, R113, R116, R123, R150). -/
def State.boundaryAt (s : State) (n : Fin 32) (t : Nat) : State :=
  let g := legG n
  let e := legE n
  let s := { s with pwmNow := max s.pwmNow t }
  let s := s.rollAverage n t
  let s := s.putFt (Reg.PERIOD_MEAS g e) (t - s.legs[n].bnd)
  let s := s.count (Reg.BOUNDARY_COUNT g e)
  let r := s.legs[n].capture t
  let s := s.setLeg n { r.1 with bnd := t, slots := r.1.slots.filter fun q => t < q.1, slotDone := false, minDone := false,
                                 endAt := none, accepted := none, timedDone := false, turnOn := none, dtA := 0, predict := none }
  let s := match r.2 with
    | some st => (s.putN (Reg.CAPTURE_STATUS g e) st).putN (Reg.CAPTURE_AT g e) (s.nat (Reg.BOUNDARY_COUNT g e))
    | none => s
  let s := s.putN (Reg.CMD_LAST g e) s.legs[n].cmd
  ((((s.noteCapture n).latchShare n).noteLeft (legGroup n) t).emitSync n t)

/-- Start what the captured command asks for at a boundary t: held off, held on, or a period, with the short-pulse rule for a
timed high side (R111, R113, R120). -/
def State.startPeriod (s : State) (n : Fin 32) (t : Nat) : State :=
  let g := legG n
  let e := legE n
  let l := { s.legs[n] with afterFault := false, cut := none }
  if l.cmd == 0 then s.putLeg n { l with iv := .heldOff, start := t }
  else if l.cmd == 0xFFFFFFFF && l.act.fullOn then
    (s.putLeg n { l with iv := .heldOn, start := t }).putN (Reg.ON_MEAS g e) 0xFFFFFFFF
  else
    let s := if l.cmd == 0xFFFFFFFF then s.count (Reg.FULL_ON_CLAMP_CNT g e) else s
    let ta := timeActive l.act l.cmd
    if l.act.carrier == 0 && ta < tShort l.act l.dtB then
      if l.act.shortMode == 0 then
        (s.count (Reg.DROP_CNT g e)).putLeg n { l with iv := .dropped, start := t, timeActive := ta, onTime := 0, offTime := 0 }
      else
        (s.count (Reg.STRETCH_CNT g e)).putLeg n { l with iv := .high, start := t, timeActive := tShort l.act l.dtB }
    else s.putLeg n { l with iv := .high, start := t, timeActive := ta }

/-- Readbacks of the period that ends at a boundary t; held on, the high side conducted all through it (R113, R131). -/
def State.measPeriod (s : State) (n : Fin 32) (t : Nat) : State :=
  let l := s.legs[n]
  let on := if l.iv == .heldOn then t - l.start else l.onTime
  ((s.setLeg n { l with onLast := on }).putFt (Reg.ON_MEAS (legG n) (legE n)) on).putFt (Reg.OFF_MEAS (legG n) (legE n)) l.offTime

/-- A real period boundary at the moment the dead-time algorithm gave (R108, R114, R116, R120, R123). -/
def State.realBoundary (s : State) (n : Fin 32) : State :=
  let l := s.legs[n]
  match l.turnOn with
  | none => s
  | some t =>
    let s := if nsFt l.act.periodMax < t - l.bnd then s.count (Reg.LONG_PERIOD_CNT (legG n) (legE n)) else s
    let s := match l.governing with
      | some q => if s.hasPred n && q.2 < 2 * (t - q.1) then s.count (Reg.SYNC_SLIP_CNT (legG n) (legE n)) else s
      | none => s
    let s := s.measPeriod n t
    let s := s.boundaryAt n t
    let s := s.setLeg n { s.legs[n] with realSeen := true, onTime := 0, offTime := 0,
                                         dtB := if l.iv == .dropWait then 0 else s.legs[n].dtB }
    if s.legMayRun n then s.startPeriod n t else s.parkLeg n

/-- Whether a leg makes virtual boundaries (R113, R120). -/
def Leg.virtual (l : Leg) : Bool := l.iv == .parked || l.iv == .heldOff || l.iv == .heldOn || l.iv == .dropped

/-- The moment of a leg's next virtual boundary (R113). -/
def State.virtualAt (s : State) (n : Fin 32) : Option Nat :=
  let l := s.legs[n]
  if s.hasPred n then l.slot.map tickUp
  else some (tickUp (l.bnd + (if l.realSeen then s.nat (Reg.PERIOD_MEAS (legG n) (legE n)) else nsFt l.act.periodMax)))

/-- A virtual boundary (R113, R126, R128): a leg that may run starts what its captured command asks for. -/
def State.virtualBoundary (s : State) (n : Fin 32) : State :=
  match s.virtualAt n with
  | none => s
  | some t =>
    let s := s.measPeriod n t
    let s := s.boundaryAt n t
    let s := s.setLeg n { s.legs[n] with onTime := 0, offTime := 0, dtB := 0 }
    let l := s.legs[n]
    if !s.legMayRun n then s.putLeg n { l with iv := .parked }
    else if l.iv == .parked && (!l.cmdSeen || (l.afterFault && l.cmd == 0)) then s
    else s.startPeriod n t

/-! ## The end of conductions and the dead time (R109, R110, R118) -/

/-- The high side turns off at t: dead A begins. A node already low counts as registered then (R118). -/
def State.highOff (s : State) (n : Fin 32) (t : Nat) : State :=
  let l := s.legs[n]
  s.putLeg n { l with iv := .deadA, onTime := t - l.start, start := t, endAt := none, accepted := none,
                      swnHit := if l.swn then none else some t }

/-- The low side turns off at t: dead B begins. A node already high counts as registered then (R118). -/
def State.lowOff (s : State) (n : Fin 32) (t : Nat) : State :=
  let l := s.legs[n]
  s.putLeg n { l with iv := .deadB, offTime := t - l.start, start := t, swnHit := if l.swn then some t else none }

/-- The acceptance minimum's end of an event-ended pulse (R109, R110, R120). -/
def Leg.acceptEnd (l : Leg) : Nat :=
  if l.act.carrier == 0 then l.start + max (tShort l.act l.dtA) (nsFt l.act.offMin)
  else l.start + max (tShort l.act l.dtB) (nsFt l.act.onMin)

/-- End the low side once all the moments that end it have come: the end event or the timed length, the sync slot, and the
previous boundary plus PERIOD_MIN (R109, R110). The edge is on the tick grid unless a timed value is the latest (R108). Where the
leg has lost the predecessor whose slot it waited for, freed is the moment it did (R124, R130). -/
def State.lowOffFrom (s : State) (n : Fin 32) (freed : Nat) : State :=
  let l := s.legs[n]
  let slotOk := !s.hasPred n || l.slotDone
  let q := if s.hasPred n then l.slot.getD 0 else freed
  let m := l.bnd + nsFt l.act.periodMin
  if l.iv == .low && slotOk && l.minDone then
    if l.act.carrier == 0 then
      match l.accepted with
      | some a => s.lowOff n (tickUp (max a (max q m)))
      | none => s
    else if l.timedDone then
      let timed := l.start + l.timeActive
      s.lowOff n (if max q m <= timed then timed else tickUp (max q m))
    else s
  else s

/-- The same at an event that only adds to those moments. -/
def State.tryLowOff (s : State) (n : Fin 32) : State := s.lowOffFrom n 0

/-- TIME_ACTIVE_END (R109, R110). -/
def execTimeActiveEnd (leg : Fin 32) (s : State) : Host.Outcome State Fault Refusal :=
  .next (s.live fun s =>
    let l := s.legs[leg]
    if l.iv == .high && l.act.carrier == 0 then s.highOff leg (l.start + l.timeActive)
    else if l.iv == .low && l.act.carrier == 1 then (s.setLeg leg { l with timedDone := true }).tryLowOff leg
    else s)

/-- The moment of an END_OFF or END_ON: the crossing the engine has predicted, in this conduction; the command's own where the edge path
gives no prediction (R141, log entry 15). -/
def Leg.endMoment (l : Leg) (t : Nat) : Nat :=
  match l.predict with
  | some p => max p l.start
  | none => t

/-- END_OFF arrives (R109): latched until the acceptance minimum has passed. -/
def execEndOff (leg : Fin 32) (t : Nat) (s : State) : Host.Outcome State Fault Refusal :=
  .next (s.live fun s =>
    let l := s.legs[leg]
    let t := l.endMoment t
    if l.iv == .low && l.act.carrier == 0 && l.endAt.isNone then
      (s.setLeg leg { l with endAt := some t, accepted := if l.acceptEnd <= t then some t else none }).tryLowOff leg
    else s)

/-- END_ON arrives (R110): latched until the acceptance minimum has passed. -/
def execEndOn (leg : Fin 32) (t : Nat) (s : State) : Host.Outcome State Fault Refusal :=
  .next (s.live fun s =>
    let l := s.legs[leg]
    let t := l.endMoment t
    if l.iv == .high && l.act.carrier == 1 && l.endAt.isNone then
      if l.acceptEnd <= t then s.highOff leg (tickUp t) else s.setLeg leg { l with endAt := some t }
    else s)

/-- ACCEPTANCE_MINIMUM_END: a latched end event is acted on now (R110). -/
def execAcceptanceMinimumEnd (leg : Fin 32) (s : State) : Host.Outcome State Fault Refusal :=
  .next (s.live fun s =>
    let l := s.legs[leg]
    if l.endAt.isSome && l.accepted.isNone then
      if l.iv == .low && l.act.carrier == 0 then (s.setLeg leg { l with accepted := some l.acceptEnd }).tryLowOff leg
      else if l.iv == .high && l.act.carrier == 1 then s.highOff leg (tickUp l.acceptEnd)
      else s
    else s)

/-- ON_MAX_HIT (R110): a latched END_ON whose acceptance minimum ends in the same tick goes first, and nothing is counted (R129). -/
def execOnMaxHit (leg : Fin 32) (s : State) : Host.Outcome State Fault Refusal :=
  .next (s.live fun s =>
    let l := s.legs[leg]
    let m := l.start + nsFt l.act.onMax
    if l.iv == .high && l.act.carrier == 1 then
      if l.endAt.isSome && tickUp l.acceptEnd <= tickUp m then s.highOff leg (tickUp l.acceptEnd)
      else (s.highOff leg m).count (Reg.ON_MAX_HIT_CNT (legG leg) (legE leg))
    else s)

/-- PERIOD_MIN_EXPIRY (R109, R110). -/
def execPeriodMinExpiry (leg : Fin 32) (s : State) : Host.Outcome State Fault Refusal :=
  .next (s.live fun s => (s.setLeg leg { s.legs[leg] with minDone := true }).tryLowOff leg)

/-- SYNC_SLOT: the governing slot is reached and releases the boundary it gates (R123). -/
def execSyncSlot (leg : Fin 32) (s : State) : Host.Outcome State Fault Refusal :=
  .next (s.live fun s =>
    if s.legs[leg].slot.isSome then (s.setLeg leg { s.legs[leg] with slotDone := true }).tryLowOff leg else s)

/-- The dead time ends with a turn-on at the first tick at or after t (R118): dead A starts the low side, with the short-pulse
rule where it is timed (R120); dead B gives the moment of the boundary; one cut by a shutdown makes no turn-on (R129). -/
def State.deadEnd (s : State) (n : Fin 32) (t : Nat) : State :=
  let g := legG n
  let e := legE n
  let l := s.legs[n]
  let on := tickUp t
  let d := on - l.start
  if l.iv == .deadA then
    let s := s.putN (Reg.DT_A_LAST g e) d
    let l := { l with dtA := d, endAt := none, accepted := none, timedDone := false }
    if s.hardOff n then s.setLeg n l
    else if l.act.carrier == 1 && l.timeActive < tShort l.act d then
      if l.act.shortMode == 0 then
        (s.count (Reg.DROP_CNT g e)).putLeg n { l with iv := .dropWait, offTime := 0, turnOn := some (tickUp (on + l.timeActive)) }
      else (s.count (Reg.STRETCH_CNT g e)).putLeg n { l with iv := .low, start := on, timeActive := tShort l.act d }
    else s.putLeg n { l with iv := .low, start := on }
  else if l.iv == .deadB then
    (s.putN (Reg.DT_B_LAST g e) d).setLeg n { l with dtB := d, turnOn := some on }
  else
    (s.putN (if l.cut == some true then Reg.DT_A_LAST g e else Reg.DT_B_LAST g e) d).setLeg n { l with cut := none }

/-- Whether the edge's FORCED flag is set (R118). -/
def Leg.forced (l : Leg) : Bool := if l.deadEdge == some true then l.forcedA else l.forcedB
/-- Whether SWN is at the edge's target level: low at edge A, high at edge B (R118). -/
def Leg.swnReady (l : Leg) : Bool := if l.deadEdge == some true then !l.swn else l.swn
/-- Whether the dead time waits for SWN: sensed, not forced, DT_MIN below DT_MAX (R57, R118, R119). -/
def Leg.senses (l : Leg) : Bool := l.act.swnMode == 0 && !l.forced && l.act.dtMin < l.act.dtMax

/-- SWN_REGISTERED (R118): the target level's first registration within the dead time is kept, and ends it where DT_MIN has
passed. -/
def execSwnRegistered (leg : Fin 32) (level : Bool) (t : Nat) (s : State) : Host.Outcome State Fault Refusal :=
  .next (s.live fun s =>
    let l := { s.legs[leg] with swn := level }
    let hit := if l.deadEdge.isSome && l.swnHit.isNone && l.swnReady && t <= l.start + nsFt l.act.dtMax then some t else l.swnHit
    let s := s.setLeg leg { l with swnHit := hit }
    if l.deadEdge.isSome && l.senses && hit == some t && l.start + nsFt l.act.dtMin <= t then s.deadEnd leg t else s)

/-- DT_MIN_EXPIRY (R118): a forced edge ends here and counts; with DT_MIN at or above DT_MAX every sensed edge does, and counts
a hard switch where SWN has not been registered; otherwise an edge whose target level has been registered ends here. -/
def execDtMinExpiry (leg : Fin 32) (s : State) : Host.Outcome State Fault Refusal :=
  .next (s.live fun s =>
    let l := s.legs[leg]
    let t := l.start + nsFt l.act.dtMin
    if l.deadEdge.isNone || l.act.swnMode == 1 then s
    else if l.forced then (s.count (Reg.FORCED_EDGE_CNT (legG leg) (legE leg))).deadEnd leg t
    else if l.act.dtMax <= l.act.dtMin then
      (if l.swnHit.isSome then s else s.count (Reg.HARD_SWITCH_CNT (legG leg) (legE leg))).deadEnd leg t
    else if l.swnHit.isSome then s.deadEnd leg t
    else s)

/-- DT_MAX (R118, R119): FIXED ends here without a count; a sensed edge without SWN ends here as a hard switch. -/
def State.dtMaxOver (s : State) (leg : Fin 32) : State :=
  let l := s.legs[leg]
  let t := l.start + nsFt l.act.dtMax
  if l.deadEdge.isNone then s
  else if l.act.swnMode == 1 then s.deadEnd leg t
  else if l.senses then
    match l.swnHit with
    | some h => s.deadEnd leg (max h (l.start + nsFt l.act.dtMin))
    | none => (s.count (Reg.HARD_SWITCH_CNT (legG leg) (legE leg))).deadEnd leg t
  else s

/-- DT_MAX_EXPIRY. -/
def execDtMaxExpiry (leg : Fin 32) (s : State) : Host.Outcome State Fault Refusal := .next (s.live (·.dtMaxOver leg))

/-! ## The sync pins (R124) -/

/-- SYNC_IN_PULSE (R124): a pulse under 10 ns is ignored, one of 25 ns or more is taken, and one between is taken or not as a
free value has it (log entry 2). Only SYNC_SRC PIN listens. -/
def execSyncInPulse (g : Fin 4) (t widthNs : Nat) (s : State) : Host.Outcome State Fault Refusal :=
  .next (s.live fun s =>
    let taken := 25 <= widthNs || (10 <= widthNs && s.freeAt 1 % 2 == 1)
    let s := if 10 <= widthNs && widthNs < 25 then s.drawn else s
    if taken then (if s.nat (Reg.SYNC_SRC g) == 1 then s.predPulse (legOf g 0) t else s).notePulse g true t else s)

/-- SYNC_LOST (R124): the first leg runs without a predecessor, and the next pulse is a first one. -/
def execSyncLost (g : Fin 4) (s : State) : Host.Outcome State Fault Refusal :=
  .next (s.live fun s =>
    if s.nat (Reg.SYNC_SRC g) == 0 then s
    else
      let n := legOf g 0
      let freed := match s.legs[n].predAt with
        | some p => p + 2 * nsFt s.legs[n].act.periodMax
        | none => s.pwmNow
      let x := s.groups[g]
      let s := s.setGroup g (if s.nat (Reg.SYNC_SRC g) == 1 then { x with pinPulse := none } else { x with upPulse := none })
      ((s.setLeg n { s.legs[n] with predAt := none, slots := [] }).putBit (Reg.SYNC_STATUS g) 0 true).lowOffFrom n freed)

/-- SYNC_SRC has changed from old at a commit: the first leg follows its new predecessor, with the pulses that one has emitted; a leg
that waited only for a slot waits no longer under NONE (R122, R123, R130). -/
def State.syncSrcChanged (s : State) (g : Fin 4) (old : Nat) : State :=
  if s.nat (Reg.SYNC_SRC g) == old then s
  else
    let n := legOf g 0
    let last := if s.nat (Reg.SYNC_SRC g) == 1 then s.groups[g].pinPulse else if s.nat (Reg.SYNC_SRC g) == 2 then s.groups[g].upPulse else none
    (s.setLeg n { s.legs[n] with predAt := last, slots := [], slotDone := false }).lowOffFrom n s.pwmNow

/-! ## Host writes of this chapter -/

/-- The effect of a write of OVERRIDE (R121, R43): the value last accepted reads back, and the update goes its way. -/
def State.overrideEffect (s : State) (n : Fin 32) (v t : Nat) : State :=
  (s.putN (Reg.OVERRIDE (legG n) (legE n)) v).legUpdate n t (.ovr v)

/-- OVERRIDE_WRITE. -/
def execOverrideWrite (h : Hdr) (leg : Fin 32) (v t : Nat) (s : State) : Host.Outcome State Fault Refusal :=
  .next (s.hostWrite h (Reg.OVERRIDE (legG leg) (legE leg)) v fun s => s.overrideEffect leg v t)

/-- The effect of a write of ARM_HOLD: clearing a leg's bit releases its buffer (R117). -/
def State.armHoldEffect (s : State) (g : Fin 4) (mask t : Nat) : State :=
  let old := s.nat (Reg.ARM_HOLD g)
  let s := s.putN (Reg.ARM_HOLD g) mask
  s.forLegs g fun n st => if bit old (n.val % 8) && !bit mask (n.val % 8) then st.armRelease n t else st

/-- ARM_HOLD_WRITE. -/
def execArmHoldWrite (h : Hdr) (g : Fin 4) (mask t : Nat) (s : State) : Host.Outcome State Fault Refusal :=
  .next (s.hostWrite h (Reg.ARM_HOLD g) mask fun s => s.armHoldEffect g mask t)

/-- The effect of a write of ARM_RELEASE (R117). -/
def State.armReleaseEffect (s : State) (g : Fin 4) (mask t : Nat) : State :=
  s.forLegs g fun n st => if bit mask (n.val % 8) then st.armRelease n t else st

/-- ARM_RELEASE. -/
def execArmRelease (h : Hdr) (g : Fin 4) (mask t : Nat) (s : State) : Host.Outcome State Fault Refusal :=
  .next (s.hostWrite h (Reg.ARM_RELEASE g) mask fun s => s.armReleaseEffect g mask t)

/-- The counters 10:22 to 10:2A of a leg (R130). -/
def legCounters (n : Fin 32) : List Nat :=
  [Reg.HARD_SWITCH_CNT (legG n) (legE n), Reg.FORCED_EDGE_CNT (legG n) (legE n), Reg.DROP_CNT (legG n) (legE n),
   Reg.STRETCH_CNT (legG n) (legE n), Reg.FULL_ON_CLAMP_CNT (legG n) (legE n), Reg.LONG_PERIOD_CNT (legG n) (legE n),
   Reg.SYNC_SLIP_CNT (legG n) (legE n), Reg.FAULT_CNT (legG n) (legE n), Reg.ON_MAX_HIT_CNT (legG n) (legE n)]

/-- The effect of a write of COUNT_CLEAR (R130). -/
def State.countClearEffect (s : State) (g : Fin 4) (mask : Nat) : State :=
  s.forLegs g fun n st =>
    if bit mask (n.val % 8) then (legCounters n).foldl (fun x k => x.putN k 0) st else st

/-- COUNT_CLEAR. -/
def execCountClear (h : Hdr) (g : Fin 4) (mask : Nat) (s : State) : Host.Outcome State Fault Refusal :=
  .next (s.hostWrite h (Reg.COUNT_CLEAR g) mask fun s => s.countClearEffect g mask)

/-! ## The hardwired shutdown (R127, R128) -/

/-- Latch one leg: its gates go low at once, and the leg leaves the available legs; an entry under way is abandoned (R127,
R152). -/
def State.latchLeg (s : State) (n : Fin 32) : State :=
  let s := s.putBit (Reg.FAULT_LATCH (legG n)) (n.val % 8) true
  let s := s.setLeg n { s.legs[n] with entry := 0 }
  s.parkLeg n

/-- FLT_N asserts on a leg: the scope of FLT_SCOPE is latched, and the leg's own assertion counts (R127). -/
def State.fltAssert (s : State) (n : Fin 32) : State :=
  let before := s.get (Reg.FAULT_LATCH (legG n))
  let s := s.setLeg n { s.legs[n] with fltLow := true }
  let s := s.count (Reg.FAULT_CNT (legG n) (legE n))
  let s := match s.nat (Reg.FLT_SCOPE (legG n)) with
    | 0 => s.latchLeg n
    | 1 => s.forLegs (legGroup n) fun m st => st.latchLeg m
    | _ => s.forAllLegs fun m st => st.latchLeg m
  s.raiseCat ((0x10 + legG n) * 256) 0x14 1 before

/-- FLT_N_ASSERT (R127): a low pulse under 10 ns is ignored, one of 25 ns or more is taken, one between as a free value has it
(log entry 2); a rise of the pin is only noted. -/
def execFltNAssert (leg : Fin 32) (low : Bool) (widthNs : Nat) (s : State) : Host.Outcome State Fault Refusal :=
  .next (s.live fun s =>
    if !low then s.setLeg leg { s.legs[leg] with fltLow := false }
    else
      let taken := 25 <= widthNs || (10 <= widthNs && s.freeAt 2 % 2 == 1)
      let s := if 10 <= widthNs && widthNs < 25 then s.drawn else s
      if taken then s.fltAssert leg else s)

/-- The effect of FAULT_CLEAR on one leg (R128): nothing where it is not latched or its FLT_N still reads low. It returns by
soft entry (R150). -/
def State.faultClearLeg (s : State) (n : Fin 32) : State :=
  if s.latched n && !s.legs[n].fltLow then
    let s := s.putBit (Reg.FAULT_LATCH (legG n)) (n.val % 8) false
    s.putLeg n { s.legs[n] with afterFault := true, entry := 1 }
  else s

/-- The effect of a write of FAULT_CLEAR (R128). -/
def State.faultClearEffect (s : State) (g : Fin 4) (mask : Nat) : State :=
  s.forLegs g fun n st => if bit mask (n.val % 8) then st.faultClearLeg n else st

/-- FAULT_CLEAR. -/
def execFaultClear (h : Hdr) (g : Fin 4) (mask : Nat) (s : State) : Host.Outcome State Fault Refusal :=
  .next (s.hostWrite h (Reg.FAULT_CLEAR g) mask fun s => s.faultClearEffect g mask)

/-! ## The pins (R107, R121) -/

/-- The levels of PWMH and PWML of a leg: INV first, then SWAP; low in PARK, under a latch and under any hardwired-off source
(R121). -/
def State.gatePins (s : State) (n : Fin 32) : Bool × Bool :=
  let l := s.legs[n]
  if l.iv == .parked || s.hardOff n then (false, false)
  else
    let h := l.iv == .high || l.iv == .heldOn
    let w := l.iv == .low
    let h := if bit l.ovr 1 then !h else h
    let w := if bit l.ovr 2 then !w else w
    if bit l.ovr 0 then (w, h) else (h, w)

end Sys2Proof.Machine
end

