-- ==== Sys2Proof/Machine/LoadSwitch.lean ====
section
/-! DEFINITION. LoadSwitch: the sixteen protected channels, their sources, trips, fail-safe states and the heartbeat watchdog
(chapter 11). The moments of timed events are the environment's (log entry 7). -/

namespace Sys2Proof.Machine

/-! ## The retained channel table and the owners (R267, R279) -/

/-- Change one channel. -/
def State.setChan (s : State) (n : Fin 16) (c : Chan) : State := { s with ls := { s.ls with chans := s.ls.chans.set n c } }

/-- A value of the retained channel table: what the last commit left there, or nothing where the table was lost (R279). -/
def State.lsTab (s : State) (k : Nat) : Nat := if s.ls.tableLost then (if keyO k == 0x10 then 0xFF else 0) else s.nat k

/-- The owner that committed configuration names for a channel: 1 an outlet's contactor, 2 a route, 3 a valve, else 0 (R267). -/
def State.ownersOf (s : State) (n : Nat) : List Nat :=
  let ctr := (List.range 4).any fun i => s.nat (Reg.CTR_LS_POS i) == n || s.nat (Reg.CTR_LS_NEG i) == n
  let route := (List.range 4).any fun i => (List.range 8).any fun e =>
    field (s.nat (Reg.ROUTE i (e + 1))) 19 18 != 0 && field (s.nat (Reg.ROUTE i (e + 1))) 15 12 == n
  let valve := (List.range 4).any fun i => s.nat (Reg.VALVE_LS i) == n
  (if ctr then [1] else []) ++ (if route then [2] else []) ++ (if valve then [3] else [])

/-- Whether more than one place names a channel: two kinds, or two of one kind (R267). -/
def State.ownerConflict (s : State) (n : Nat) : Bool :=
  let ctr := (List.range 4).foldl (fun a i =>
    a + b2n (s.nat (Reg.CTR_LS_POS i) == n) + b2n (s.nat (Reg.CTR_LS_NEG i) == n)) 0
  let valve := (List.range 4).foldl (fun a i => a + b2n (s.nat (Reg.VALVE_LS i) == n)) 0
  1 < (s.ownersOf n).length || 1 < ctr || 1 < valve

/-- The pin that drives a channel, where one does (R279). -/
def State.limpPin (s : State) (n : Fin 16) : Option Nat :=
  let p := s.lsTab (Reg.LIMP_MAP (n.val + 1))
  if p < 8 then some p else none

/-! ## Sources (R267) -/

/-- Whether the watchdog holds the HOST channels at their fail-safe states (R267, R277). -/
def State.wdHolds (s : State) : Bool :=
  s.lsTab Reg.WD_EN == 1 && s.nat Reg.WD_STATE != 0 && s.nat Reg.WD_STATE != 2

/-- Whether the classes command the channels: from step B7 of a boot on (R450). -/
def State.classesUp (s : State) : Bool := s.powered && !s.ls.booting

/-- Whether masked channels follow their pins: by the class once the device has booted, before that by LIMP_EN (R279, R454). -/
def State.limpNow (s : State) : Bool := if s.classesUp then s.modes.limpReached else s.modes.limpEn && s.modes.vaultStep < 6

/-- Whether the power-analog die applies the fail-safe states: a reset or RECOVERY, a power-fail warning, its own test, a silent
link, or the watchdog (R274, R434, R450, R455). -/
def State.failsafeNow (s : State) : Bool :=
  !s.classesUp || s.power.pfw || s.testing 7 || s.ls.linkSilent || s.wdHolds

/-- Whether the power-analog die is supplied: not without VDD_ANA, nor from step 6 of a VAULT entry on (R85, R497). -/
def State.anaUp (s : State) : Bool := s.modes.vaultStep < 6 && !s.power.anaLost

/-- LS_SOURCE of a channel (R70, R267, R274, R454): without power from step 6 of a VAULT entry on or without VDD_ANA. -/
def State.lsSource (s : State) (n : Fin 16) : Nat :=
  if !s.anaUp || (s.classesUp && s.modes.beh[(2 : Fin 8)] == .off && bit (s.nat Reg.MODE_WORD) 7) then 4
  else if s.limpNow && (s.limpPin n).isSome then 2
  else if s.classesUp && s.modes.beh[(2 : Fin 8)] == .off then 4
  else if s.modes.beh[(2 : Fin 8)] == .failsafe || s.failsafeNow then 3
  else if s.nat (Reg.LS_OWNER n) != 0 then 1
  else 0

/-- What the source in force commands: on, off, or as the channel stands (R267, R274, R279). -/
def State.lsCommand (s : State) (n : Fin 16) : Bool :=
  match s.lsSource n with
  | 0 => s.nat (Reg.LS_ON n) == 1
  | 1 => s.ls.chans[n].devCmd
  | 2 => match s.limpPin n with | some p => bit (s.nat Reg.LIMP_PINS) p | none => false
  | 3 => match s.lsTab (Reg.FAILSAFE n) with | 1 => true | 2 => s.ls.chans[n].cmdOn | _ => false
  | _ => false

/-- Whether VS_LS is out of range (R266). -/
def State.vsBad (s : State) : Bool := bit (s.nat Reg.LS_STATUS) 0 || bit (s.nat Reg.LS_STATUS) 1

/-! ## Windows and limits (R268, R272) -/

/-- The profile LOAD_TYPE selects (R268, R271). -/
def State.profileOf (s : State) (n : Fin 16) : Profile :=
  let t := s.lsTab (Reg.LOAD_TYPE n)
  ⟨t, s.nat (Reg.T_INRUSH t), s.nat (Reg.T_SC_IN t), s.nat (Reg.T_OVL t), s.nat (Reg.RETRY_MAX t), s.nat (Reg.RETRY_DELAY t)⟩

/-- I_INRUSH = min(I_LIM × INRUSH_MULT ÷ 16, 10,000 mA), truncated (R268). -/
def State.iInrush (s : State) (n : Fin 16) : Nat :=
  min (s.nat (Reg.I_LIM n) * s.nat (Reg.INRUSH_MULT s.ls.chans[n].prof.loadType) / 16) 10000

/-- Whether a channel is curtailed (R272). -/
def State.curtailed (s : State) (n : Fin 16) : Bool := bit (s.nat (Reg.LS_FLAGS n)) 2

/-- The present current limit of a channel that is on (R268, R272). -/
def State.chanLimit (s : State) (n : Fin 16) : Nat :=
  if s.ls.chans[n].window && !s.curtailed n then s.iInrush n else s.nat (Reg.I_LIM n)

/-- Whether a channel conducts: INRUSH, ON or LIMIT. -/
def State.chanOn (s : State) (n : Fin 16) : Bool :=
  let st := s.nat (Reg.LS_STATE n)
  st == 1 || st == 2 || st == 3

/-- Bits [3] to [5] of LS_STATUS from the channels and the watchdog (R271). -/
def State.refreshLsStatus (s : State) : State :=
  let any (i : Nat) : Bool := (List.finRange 16).any fun n => bit (s.nat (Reg.LS_FLAGS n)) i
  let s1 := s.putBit Reg.LS_STATUS 3 s.wdHolds
  (s1.putBit Reg.LS_STATUS 4 (any 2)).putBit Reg.LS_STATUS 5 (any 4)

/-! ## Turning on and off (R268, R269, R273) -/

/-- Turn a channel on; it takes its profile, and its window opens where T_INRUSH is not 0. A turn-on commanded from off reloads
RETRIES_LEFT (R268, R269). -/
def State.chanTurnOn (s : State) (n : Fin 16) (reload : Bool) : State :=
  let p := s.profileOf n
  let c := { s.ls.chans[n] with prof := p, window := p.tInrush != 0, cmdOn := true, freeRetry := false }
  let s := (s.setChan n c).putN (Reg.LS_STATE n) (if p.tInrush == 0 then 2 else 1)
  if reload then s.putN (Reg.RETRIES_LEFT n) p.retryMax else s

/-- The clamp of a turn-off: whether it lasts longer than 5 µs is the load's, a free value (R273, log entry 2). -/
def State.chanClamp (s : State) (n : Fin 16) : State :=
  (if s.freeAt 3 % 2 == 1 then s.count (Reg.CLAMP_CNT n) else s).drawn

/-- A channel that conducts goes to a state with its output off. -/
def State.chanCut (s : State) (n : Fin 16) (st : Nat) : State :=
  let s := if s.chanOn n then s.chanClamp n else s
  (s.setChan n { s.ls.chans[n] with window := false }).putN (Reg.LS_STATE n) st

/-- Turn a channel off; a retry that was due is cancelled, and LATCHED stays (R269, R281). -/
def State.chanTurnOff (s : State) (n : Fin 16) : State :=
  let s := s.setChan n { s.ls.chans[n] with cmdOn := false }
  if s.nat (Reg.LS_STATE n) == 5 then s else s.chanCut n 0

/-- What OUT_LS of a channel carries, as its duty in 0.1 %: 0 where it is off, 1,000 in its window; after the window a VALVE load is
switched at 4 kHz with HOLD_DUTY (R268). -/
def State.chanDuty (s : State) (n : Fin 16) : Nat :=
  if !s.chanOn n then 0
  else if !s.ls.chans[n].window && s.ls.chans[n].prof.loadType == 4 then s.lsTab (Reg.HOLD_DUTY n) else 1000

/-- Whether a command to turn off waits for the legs: a contactor channel whose fail-safe state is OFF, at its fail-safe state
(R275). -/
def State.fsWaits (s : State) (n : Fin 16) : Bool :=
  s.lsSource n == 3 && bit (s.nat (Reg.LS_FLAGS n)) 3 && s.chanOn n

/-- Bring a channel to what its source commands (R267, R269, R275, R281). -/
def State.driveChan (s : State) (n : Fin 16) : State :=
  let s := s.putN (Reg.LS_SOURCE n) (s.lsSource n)
  let st := s.nat (Reg.LS_STATE n)
  let on := s.lsCommand n
  if on then
    let s := s.putBit (Reg.LS_FLAGS n) 4 false
    if s.vsBad then
      let s := if st == 0 && !s.ls.chans[n].cmdOn then s.putN (Reg.RETRIES_LEFT n) (s.profileOf n).retryMax else s
      s.setChan n { s.ls.chans[n] with cmdOn := true }
    else if st == 0 then s.chanTurnOn n true
    else s.setChan n { s.ls.chans[n] with cmdOn := true }
  else if s.fsWaits n then
    if bit (s.nat (Reg.LS_FLAGS n)) 4 then s
    else
      let before := s.get (Reg.LS_FLAGS n)
      let s := (s.putBit (Reg.LS_FLAGS n) 4 true).putBit Reg.LS_STATUS 5 true
      s.raise1 ((0x72 + n.val) * 256) 0x415 3 before
  else (s.putBit (Reg.LS_FLAGS n) 4 false).chanTurnOff n

/-- Bring every channel to what its source commands. -/
def State.driveAll (s : State) : State :=
  ((List.finRange 16).foldl (fun (st : State) (n : Fin 16) => st.driveChan n) s).refreshLsStatus

/-- An owning function commands its channel (R267). -/
def State.devSwitch (s : State) (n : Fin 16) (on : Bool) : State :=
  (s.setChan n { s.ls.chans[n] with devCmd := on }).driveChan n |>.refreshLsStatus

/-- An owning function commands the channel of a number; 0xFF names none. A function that does not own it has no effect
(R267). -/
def State.ownerSwitch (s : State) (ch owner : Nat) (on : Bool) : State :=
  if h : ch < 16 then (if s.nat (Reg.LS_OWNER ch) == owner then s.devSwitch ⟨ch, h⟩ on else s) else s

/-- One Pennant for a commit that leaves a conflict of owners, with the lowest channel that has one as its source (R267). -/
def State.conflictPennant (s : State) : State :=
  match (List.range 16).find? fun n => s.ownerConflict n with
  | some n => s.raise ((0x72 + n) * 256) 0x112 2 0 0 0
  | none => s

/-- The owners after a commit or a boot: a channel whose owner changes keeps its state until the new owner commands it (R267,
R281). -/
def State.applyOwners (s : State) : State :=
  let s := (List.finRange 16).foldl (fun (st : State) (n : Fin 16) =>
    let old := st.nat (Reg.LS_OWNER n)
    let new := (st.ownersOf n).headD 0
    let st := if new == old then st else st.setChan n { st.ls.chans[n] with devCmd := st.ls.chans[n].cmdOn }
    let st := st.putN (Reg.LS_OWNER n) new
    st.putBit (Reg.LS_FLAGS n) 3 (new == 1 || new == 2)) s
  s.driveAll

/-! ## Trips (R269, R272) -/

/-- The neighbours of a channel on its edge (R272). -/
def neighbours (n : Fin 16) : List (Fin 16) :=
  (List.finRange 16).filter fun m => (m.val + 1 == n.val || n.val + 1 == m.val) && m.val / 8 == n.val / 8

/-- Curtail one channel; a further SHORT beside a curtailed one only moves the end (R272). -/
def State.curtail (s : State) (n : Fin 16) : State :=
  if s.curtailed n then s else (s.putBit (Reg.LS_FLAGS n) 2 true).count (Reg.CURTAIL_CNT n)

/-- A trip of a kind, 1 SHORT, 2 OVERLOAD, 3 THERMAL; inside its own window while curtailed it is CURTAILED. A SHORT, and any trip with
RETRIES_LEFT at 0, leaves the channel LATCHED (R269, R281). -/
def State.trip (s : State) (n : Fin 16) (kind : Nat) : State :=
  let cur := s.ls.chans[n].window && s.curtailed n
  let k := if cur then 4 else kind
  let before := s.get (Reg.LAST_TRIP n)
  let latch := k == 1 || s.nat (Reg.RETRIES_LEFT n) == 0
  let s := s.chanCut n (if latch then 5 else 4)
  let s := s.setChan n { s.ls.chans[n] with freeRetry := k == 4 }
  let s := (s.count (Reg.TRIP_CNT n)).putN (Reg.LAST_TRIP n) k
  let s := if k == 1 then (neighbours n).foldl (fun (st : State) (m : Fin 16) => st.curtail m) s else s
  (s.raiseCat ((0x72 + n.val) * 256) 0x16 10 before).refreshLsStatus

/-- Whether a short counts at this moment: a CAPACITIVE channel's does not inside its window (R268). -/
def State.shortCounts (s : State) (n : Fin 16) : Bool :=
  s.chanOn n && !(s.ls.chans[n].window && s.ls.chans[n].prof.loadType == 5)

/-- SHORT_TRIP. -/
def execShortTrip (ch : Fin 16) (s : State) : Host.Outcome State Fault Refusal :=
  .next (if s.shortCounts ch then s.trip ch 1 else s)

/-- OVERLOAD_TRIP: only outside the window (R269). -/
def execOverloadTrip (ch : Fin 16) (s : State) : Host.Outcome State Fault Refusal :=
  .next (if s.chanOn ch && !s.ls.chans[ch].window then s.trip ch 2 else s)

/-- THERMAL_TRIP. -/
def execThermalTrip (ch : Fin 16) (s : State) : Host.Outcome State Fault Refusal :=
  .next (if s.chanOn ch then s.trip ch 3 else s)

/-- INRUSH_WINDOW_END: the limit drops to I_LIM; a CAPACITIVE channel makes its one short test (R268, R269). -/
def execInrushWindowEnd (ch : Fin 16) (short : Bool) (s : State) : Host.Outcome State Fault Refusal :=
  .next (
    if !(s.chanOn ch && s.ls.chans[ch].window) then s
    else if short && s.ls.chans[ch].prof.loadType == 5 then s.trip ch 1
    else (s.setChan ch { s.ls.chans[ch] with window := false }).putN (Reg.LS_STATE ch) 2)

/-- LS_RETRY: the channel turns on again, unless it is still curtailed or VS_LS is out of range (R269, R272, R281). -/
def State.lsRetry (s : State) (n : Fin 16) : State :=
  if s.nat (Reg.LS_STATE n) != 4 || s.curtailed n || s.vsBad then s
  else
    let s := if s.ls.chans[n].freeRetry then s else s.putN (Reg.RETRIES_LEFT n) (s.nat (Reg.RETRIES_LEFT n) - 1)
    (s.chanTurnOn n false).count (Reg.RETRY_CNT n)

/-- LS_RETRY. -/
def execLsRetry (ch : Fin 16) (s : State) : Host.Outcome State Fault Refusal := .next (s.lsRetry ch)

/-- CURTAIL_END (R272). -/
def execCurtailEnd (ch : Fin 16) (s : State) : Host.Outcome State Fault Refusal :=
  .next ((s.putBit (Reg.LS_FLAGS ch) 2 false).refreshLsStatus)

/-- RETRIES_RELOAD (R269). -/
def execRetriesReload (ch : Fin 16) (s : State) : Host.Outcome State Fault Refusal :=
  .next (if s.chanOn ch then s.putN (Reg.RETRIES_LEFT ch) s.ls.chans[ch].prof.retryMax else s)

/-- Release a latched channel: it follows its source again, and LS_CLEAR reloads RETRIES_LEFT (R269). -/
def State.unlatch (s : State) (n : Fin 16) (reload : Bool) : State :=
  if s.nat (Reg.LS_STATE n) != 5 then s
  else
    let s := s.putN (Reg.LS_STATE n) 0
    let s := if reload then s.putN (Reg.RETRIES_LEFT n) s.ls.chans[n].prof.retryMax else s
    (s.driveChan n).refreshLsStatus

/-! ## The supply and the readings (R266, R280) -/

/-- VS_LS_OUT_OF_RANGE: every channel turns off; no trip, no retry consumed; a retry that is due stays due (R266, R281). -/
def execVsLsOutOfRange (high : Bool) (s : State) : Host.Outcome State Fault Refusal :=
  let s := s.putBit Reg.LS_STATUS (if high then 1 else 0) true
  .next ((List.finRange 16).foldl (fun (st : State) (n : Fin 16) => if st.chanOn n then st.chanCut n 0 else st) s)

/-- VS_LS_RESTORED: each channel takes its commanded state again with a fresh window (R266). -/
def execVsLsRestored (s : State) : Host.Outcome State Fault Refusal :=
  let s := (s.putBit Reg.LS_STATUS 0 false).putBit Reg.LS_STATUS 1 false
  .next (((List.finRange 16).foldl (fun (st : State) (n : Fin 16) =>
    if st.nat (Reg.LS_STATE n) == 0 && st.lsCommand n then st.chanTurnOn n false else st) s).driveAll)

/-- The sum of a list of currents. -/
def sumI (l : List Int) : Int := l.foldl (· + ·) 0

/-- The LIMIT reading of a channel outside its window, or curtailed in it: its current stands at its limit (R272, log entry 13). -/
def State.chanReading (s : State) (n : Fin 16) (i : Int) : State :=
  let s := s.putI (Reg.I_LS n) i
  if !s.chanOn n then s
  else if (!s.ls.chans[n].window || s.curtailed n) && (s.nat (Reg.I_LIM n) : Int) <= i then s.putN (Reg.LS_STATE n) 3
  else s.putN (Reg.LS_STATE n) (if s.ls.chans[n].window then 1 else 2)

/-- PKG_CURRENT_CHECK (R266): the sum of the currents, its average over 1 s and PKG_OVER. -/
def State.pkgCheck (s : State) (vs : Int) (currents : List Int) : State :=
  let s := s.putI Reg.LS_SUPPLY vs
  let s := (List.finRange 16).foldl (fun (st : State) (n : Fin 16) => st.chanReading n (currents.getD n 0)) s
  let total := sumI (currents.take 16)
  let s := s.putI Reg.LS_TOTAL_I total
  let sums := (total :: s.ls.sums).take 1000
  let s := { s with ls := { s.ls with sums := sums } }
  if sums.length < 1000 then s
  else if !bit (s.nat Reg.LS_STATUS) 2 && 16000000 < sumI sums then
    let before := s.get Reg.LS_STATUS
    (s.putBit Reg.LS_STATUS 2 true).raiseCat 0x7000 0x03 11 before
  else if bit (s.nat Reg.LS_STATUS) 2 && sumI sums < 15000000 then s.putBit Reg.LS_STATUS 2 false
  else s

/-- PKG_CURRENT_CHECK. -/
def execPkgCurrentCheck (vsLs : Int) (currents : List Int) (s : State) : Host.Outcome State Fault Refusal :=
  .next (s.live (·.pkgCheck vsLs currents))

/-- OPEN_LOAD (R280). -/
def execOpenLoad (ch : Fin 16) (below : Bool) (s : State) : Host.Outcome State Fault Refusal :=
  .next (if below then (if s.chanOn ch then s.putBit (Reg.LS_FLAGS ch) 1 true else s) else s.putBit (Reg.LS_FLAGS ch) 1 false)

/-- CHANNEL_THERMAL_WARNING (R280). -/
def execChannelThermalWarning (ch : Fin 16) (rising : Bool) (t : Int) (s : State) : Host.Outcome State Fault Refusal :=
  .next (
    let s := s.putI (Reg.T_LS ch) t
    let before := s.get (Reg.LS_FLAGS ch)
    if !rising then s.putBit (Reg.LS_FLAGS ch) 0 false
    else if bit (s.nat (Reg.LS_FLAGS ch)) 0 then s
    else (s.putBit (Reg.LS_FLAGS ch) 0 true).raiseCat ((0x72 + ch.val) * 256) 0x15 12 before)

/-! ## Fail-safe (R274, R275) -/

/-- FAILSAFE_TRIGGER: while the internal link is silent every channel is at its stored fail-safe state (R274). The other triggers
act inside their own steps. -/
def execFailsafeTrigger (silent : Bool) (s : State) : Host.Outcome State Fault Refusal :=
  .next ({ s with ls := { s.ls with linkSilent := silent } }).driveAll

/-- Whether every gate output of the device is low (R275). -/
def State.gatesLow (s : State) : Bool := (List.finRange 32).all fun n => s.gatePins n == (false, false)

/-- FS_WAIT_END (R275). -/
def execFsWaitEnd (ch : Fin 16) (s : State) : Host.Outcome State Fault Refusal :=
  .next (if bit (s.nat (Reg.LS_FLAGS ch)) 4 && s.gatesLow then
      ((s.putBit (Reg.LS_FLAGS ch) 4 false).chanTurnOff ch).refreshLsStatus
    else s)

/-! ## The heartbeat watchdog (R276, R277) -/

/-- Break a run of valid words: the next may carry any SEQ (R276). -/
def State.wdBreak (s : State) : State := { s with ls := { s.ls with validRun := 0, anySeq := true } }

/-- The watchdog expires: the fail-safe states are applied, one Pennant (R277). -/
def State.wdExpire (s : State) : State :=
  let before := s.get Reg.WD_STATE
  let s := (s.putN Reg.WD_STATE 3).count Reg.WD_EXPIRE_CNT
  let s := { s.wdBreak with ls := { s.wdBreak.ls with faultRun := 0 } }
  s.driveAll.raiseCat 0xE200 0x07 13 before

/-- A faulty word (R276, R277). -/
def State.wdFault (s : State) : State :=
  let s := s.count Reg.HB_FAULT_CNT
  let n := s.ls.faultRun + 1
  let s := { s with ls := { s.ls with validRun := 0, faultRun := n } }
  match s.nat Reg.WD_STATE with
  | 2 => if s.lsTab Reg.HB_FAULT_MAX <= n then s.wdExpire else s
  | 4 => s.wdBreak.putN Reg.WD_STATE 3
  | _ => s.wdBreak

/-- A valid word (R276, R277). -/
def State.wdValid (s : State) (seq : Nat) : State :=
  let n := s.ls.validRun + 1
  let s := { s.putN Reg.HB_SEQ_LAST seq with ls := { s.ls with validRun := n, faultRun := 0, anySeq := false, seen := true } }
  match s.nat Reg.WD_STATE with
  | 1 => if s.lsTab Reg.HB_RESYNC <= n then (s.putN Reg.WD_STATE 2).driveAll else s
  | 3 => if s.lsTab Reg.HB_RESYNC <= n then s.putN Reg.WD_STATE 4 else s
  | _ => s

/-- HEARTBEAT_WORD (R276, R277): a watchdog that reads DISABLED, or without its supply, judges no word. -/
def execHeartbeatWord (framed : Bool) (seq chk sinceMs : Nat) (s : State) : Host.Outcome State Fault Refusal :=
  .next (
    if s.nat Reg.WD_STATE == 0 || !s.anaUp then s
    else
      let good := framed && chk == Nat.xor seq 0xA5 && seq < 256 &&
        (s.ls.anySeq || seq == (s.nat Reg.HB_SEQ_LAST + 1) % 256) && (!s.ls.seen || s.lsTab Reg.HB_MIN <= sinceMs)
      if good then s.wdValid seq else s.wdFault)

/-- HB_MAX_EXPIRY (R277): RUNNING expires; a missing word takes RESYNCED back to EXPIRED and breaks a resynchronisation. -/
def execHbMaxExpiry (s : State) : Host.Outcome State Fault Refusal :=
  .next (if !s.anaUp then s else match s.nat Reg.WD_STATE with
    | 2 => s.wdExpire
    | 4 => s.wdBreak.putN Reg.WD_STATE 3
    | 0 => s
    | _ => s.wdBreak)

/-- The watchdog after a commit or a power-up: DISABLED without WD_EN, WAIT_SYNC when it becomes enabled (R277). -/
def State.wdApply (s : State) : State :=
  if s.lsTab Reg.WD_EN != 1 then (s.putN Reg.WD_STATE 0).driveAll
  else if s.nat Reg.WD_STATE == 0 then (s.wdBreak.putN Reg.WD_STATE 1).driveAll
  else s.driveAll

/-- The power-analog die loses its supply: its latches and readings are gone, and its watchdog waits for words as at a power-up (R274,
R277, R280). -/
def State.anaReset (s : State) : State :=
  let s := (List.range 16).foldl (fun (st : State) (n : Nat) =>
    let st := ((st.putN (Reg.LS_STATE n) 0).putN (Reg.RETRIES_LEFT n) 0).putN (Reg.LS_FLAGS n) (st.nat (Reg.LS_FLAGS n) / 8 % 2 * 8)
    (st.putI (Reg.I_LS n) 0).putI (Reg.T_LS n) 0) s
  let s := { s with ls := { LsState.reset with tableLost := s.ls.tableLost, booting := s.ls.booting } }
  let s := ((s.putN Reg.LS_STATUS 0).putI Reg.LS_SUPPLY 0).putI Reg.LS_TOTAL_I 0
  (s.putN Reg.HB_SEQ_LAST 0).putN Reg.WD_STATE (b2n (s.lsTab Reg.WD_EN == 1))

/-- The effect of a write of WD_RELEASE (R277). -/
def State.wdRelease (s : State) (v : Nat) : State :=
  if v == 1 && s.nat Reg.WD_STATE == 4 then (s.putN Reg.WD_STATE 2).driveAll else s

/-- WD_RELEASE. -/
def execWdRelease (h : Hdr) (v : Nat) (s : State) : Host.Outcome State Fault Refusal :=
  .next (s.hostWrite h Reg.WD_RELEASE v (·.wdRelease v))

/-! ## Host writes and pins -/

/-- The effect of a write of LS_ON (R267). -/
def State.lsOnEffect (s : State) (n : Fin 16) (v : Nat) : State := ((s.putN (Reg.LS_ON n) v).driveChan n).refreshLsStatus

/-- LS_ON_WRITE. -/
def execLsOnWrite (h : Hdr) (ch : Fin 16) (v : Nat) (s : State) : Host.Outcome State Fault Refusal :=
  .next (s.hostWrite h (Reg.LS_ON ch) v (·.lsOnEffect ch v))

/-- The effect of a write of LS_CLEAR (R269, R280). -/
def State.lsClearEffect (s : State) (n : Fin 16) (v : Nat) : State := if v == 1 then s.unlatch n true else s

/-- LS_CLEAR. -/
def execLsClear (h : Hdr) (ch : Fin 16) (v : Nat) (s : State) : Host.Outcome State Fault Refusal :=
  .next (s.hostWrite h (Reg.LS_CLEAR ch) v (·.lsClearEffect ch v))

/-- LIMP_IN_CHANGE (R269, R279): the masked channels follow; 10 ms at low release the latched ones under PINS. -/
def execLimpInChange (pin : Fin 8) (level : Bool) (held10ms : Bool) (s : State) : Host.Outcome State Fault Refusal :=
  let s := s.putBit Reg.LIMP_PINS pin level
  .next (((List.finRange 16).foldl (fun (st : State) (n : Fin 16) =>
    if st.lsSource n == 2 && st.limpPin n == some pin.val then
      (if !level && held10ms then st.unlatch n false else st).driveChan n
    else st) s).refreshLsStatus)

end Sys2Proof.Machine
end

