-- ==== Sys2Proof/Machine/Routes.lean ====
section
/-! DEFINITION. Routes: the roles in force and the switch matrix (chapter 01). -/

namespace Sys2Proof.Machine

/-! ## Roles (R25 to R30) -/

/-- A bit of ROLE_ACTIVE (R25). -/
def State.role (s : State) (i : Nat) : Bool := bit (s.nat Reg.ROLE_ACTIVE) i
/-- Whether a role is leaving: in ROLE_ACTIVE and not in ROLE_MASK (R27). -/
def State.roleLeaving (s : State) (i : Nat) : Bool := s.role i && !bit (s.nat Reg.ROLE_MASK) i
/-- Whether ROLE_MASK declares a role; an XP bit counts only with a type other than UNUSED (R28, R30). -/
def State.roleWanted (s : State) (i : Nat) : Bool :=
  bit (s.nat Reg.ROLE_MASK) i && !(8 <= i && i <= 11 && s.nat (Reg.XP_TYPE (i - 7)) == 0)

/-- Whether an outlet has a session (R231): OUT_STATE from LINK to OPENING. -/
def State.inSession (s : State) (o : Nat) : Bool := 3 <= s.nat (Reg.OUT_STATE o) && s.nat (Reg.OUT_STATE o) <= 9

/-- ROLE_PENDING (R28). -/
def State.rolePublish (s : State) : State :=
  s.putN Reg.ROLE_PENDING (b2n ((List.range 13).any fun i => s.role i != s.roleWanted i))

/-- Set the duty of an outlet's pump, and the valve with it (R254, R255); an outlet whose role is clear drives neither (R25). -/
def State.setPump (s : State) (o : Fin 4) (duty : Nat) : State :=
  let duty := if s.role (4 + o.val) then duty else 0
  (s.putN (Reg.PUMP_DUTY o.val) duty).ownerSwitch (s.nat (Reg.VALVE_LS o.val)) 3 (duty != 0)

/-! ## Routes (R31, R32) -/

/-- The value of a selected route; none for 0 and for an element whose KIND is 0b00 (R32). -/
def State.routeVal (s : State) (g : Fin 4) (r : Nat) : Option Nat :=
  if 1 <= r && r <= 8 && field (s.nat (Reg.ROUTE g r)) 19 18 != 0 then some (s.nat (Reg.ROUTE g r)) else none

/-- ROUTE_SELECT as it counts: an unused element is selection 0 (R32). -/
def State.routeSel (s : State) (g : Fin 4) : Nat :=
  if (s.routeVal g (s.nat (Reg.ROUTE_SELECT g))).isSome then s.nat (Reg.ROUTE_SELECT g) else 0

/-- Whether the feedback of the route last energised reads closed: by the value it was energised under, whatever a commit has made
of its element since (R31, R32). -/
def State.nowClosed (s : State) (g : Fin 4) : Bool :=
  let v := s.groups[g].nowVal
  field v 19 18 != 0 && ((s.matrixFb.toList)[field v 11 9]?).getD false != bit v 8

/-- Switch off the DRIVE_LS channel of the route last energised (R31, R32, R267). -/
def State.dropRoute (s : State) (g : Fin 4) : State :=
  let v := s.groups[g].nowVal
  if field v 19 18 == 0 then s else s.ownerSwitch (field v 15 12) 2 false

/-- Energise a route's contactor: it is the group's route from here on (R31, R32, R267). -/
def State.takeRoute (s : State) (g : Fin 4) (r v : Nat) : State :=
  (s.setGroup g { s.groups[g] with routeNow := r, nowVal := v }).ownerSwitch (field v 15 12) 2 true

/-- The port a group's route names: node, and index 0 to 7 (R31, R159). -/
def State.groupPort (s : State) (g : Fin 4) : Option (Nat × Nat) :=
  (s.routeVal g s.groups[g].routeNow).map fun v => (field v 31 20, 4 * (field v 19 18 - 1) + field v 17 16)

/-- Whether the port a group is routed to was declared in the last snapshot (R30). -/
def State.portDeclared (s : State) (g : Fin 4) : Bool :=
  match s.groupPort g with | some p => s.site.declared.contains p | none => false

/-- The group current: the magnitude of the sum of I_MEAS (R32). -/
def State.groupCurrent (s : State) (g : Fin 4) : Nat :=
  ((legsOf g).foldl (fun (a : Int) n => a + s.int (Reg.I_MEAS (legG n) (legE n))) 0).natAbs
/-- Whether the group current is at or below ROUTE_ZERO_I. -/
def State.groupZero (s : State) (g : Fin 4) : Bool := (s.groupCurrent g : Int) <= s.int (Reg.ROUTE_ZERO_I g)

/-- ROUTE_STATE of a group: 0 IDLE, 1 RAMP_DOWN, 2 OPENING, 3 CLOSING, 4 CONNECTED, 5 FAULT. -/
def State.routeState (s : State) (g : Fin 4) : Nat := s.nat (Reg.ROUTE_STATE g)

/-- Set ROUTE_STATE; the holder of a pair mirrors each change (R394). -/
def State.putRoute (s : State) (g : Fin 4) (n : Nat) : State :=
  let t := s.putN (Reg.ROUTE_STATE g) n
  if s.routeState g == n then t else t.mirror (.route g n (t.nat (Reg.ROUTE_SELECT g)))

/-- A group may carry once it is connected, in its role, and routed to a port the last snapshot declares, while the phases run on
(R25, R30, R78, R126, R455). -/
def State.unparkGroup (s : State) (g : Fin 4) : State :=
  if s.phasesRun && !s.phasesLeave && !s.power.pfw && s.routeState g == 4 && s.role g && s.portDeclared g && s.groups[g].parked then
    (s.forLegs g fun n st => st.leavePark n).setGroup g { s.groups[g] with parked := false }
  else s

/-- A route step fails (R32): FAULT, parked, all route channels off, one Pennant (R498). -/
def State.routeFault (s : State) (g : Fin 4) : State :=
  let before := s.get (Reg.ROUTE_STATE g)
  (((s.dropRoute g).parkGroup g).putRoute g 5).raise1 ((0x10 + g.val) * 256) 0x132 1 before

/-- Steps 3 and 4 where their conditions hold (R32): once the old route reads open the new one is energised; once the new one
reads closed the group is CONNECTED. No step is made while the phases are held. -/
def State.routeStep (s : State) (g : Fin 4) : State :=
  let x := s.groups[g]
  if !s.phasesRun then s
  else if s.routeState g == 2 && !s.nowClosed g then
    match s.routeVal g x.routeNext with
    | none => (s.setGroup g { x with routeNow := 0, routeNext := 0, nowVal := 0 }).putRoute g 0
    | some v =>
      let s := s.takeRoute g x.routeNext v
      if s.nowClosed g then (s.putRoute g 4).unparkGroup g else s.putRoute g 3
  else if s.routeState g == 3 && s.nowClosed g then (s.putRoute g 4).unparkGroup g
  else s

/-- Step 2 (R32): the group is parked, the old route is switched off, OPENING. -/
def State.routeOpen (s : State) (g : Fin 4) : State :=
  (((s.parkGroup g).dropRoute g).putRoute g 2).routeStep g

/-- A route selection takes effect at an epoch boundary (R32 step 1, R33), once the phases run. A write that had not taken effect
when the group entered FAULT leaves FAULT as a new one does (log entry 17). -/
def State.routeEpoch (s : State) (g : Fin 4) : State :=
  let x := s.groups[g]
  let st := s.routeState g
  let sel := s.routeSel g
  let inForce := if (s.routeVal g x.routeNow).isSome then x.routeNow else 0
  let s :=
    if !x.routeWritten || !s.phasesRun || !s.role g || st == 3 then s
    else
      let x := { x with routeWritten := false }
      if st == 1 || st == 2 then s.setGroup g { x with routeNext := sel }
      else if (st == 0 && sel == 0) || (st == 4 && sel == inForce) then s.setGroup g x
      else
        let s := (s.setGroup g { x with routeNext := sel }).putRoute g 1
        if x.nowVal == 0 then s.routeOpen g else s
  s.setGroup g { s.groups[g] with claims := s.routeState g == 4 || s.routeState g == 1 }

/-- A current above ROUTE_ZERO_I during OPENING or CLOSING is a fault (R33). -/
def State.routeCurrent (s : State) (g : Fin 4) : State :=
  if (s.routeState g == 2 || s.routeState g == 3) && !s.groupZero g then s.routeFault g else s

/-- The effect of a write of ROUTE_SELECT (R30, R32): it waits for the next epoch boundary. -/
def State.routeSelectEffect (s : State) (g : Fin 4) (v : Nat) : State :=
  let s := (s.putN (Reg.ROUTE_SELECT g) v).setGroup g { s.groups[g] with routeWritten := true }
  s.mirror (.route g (s.routeState g) v)

/-- A group leaves ROLE_ACTIVE: none of its outputs is driven (R25); it stands without a route until a new write of ROUTE_SELECT
(log entry 20). -/
def State.groupLeave (s : State) (g : Fin 4) : State :=
  let s := (s.parkGroup g).dropRoute g
  (s.setGroup g { s.groups[g] with routeNow := 0, routeNext := 0, nowVal := 0, claims := false }).putRoute g 0

/-- A role leaves ROLE_ACTIVE (R27). -/
def State.roleClear (s : State) (i : Nat) : State :=
  let s := s.putBit Reg.ROLE_ACTIVE i false
  let s := if h : i < 4 then s.groupLeave ⟨i, h⟩ else if i < 8 then s.setPump (Fin.ofNat 4 i) 0 else s
  s.rolePublish

/-- A committed ROLE_MASK or XP_TYPE (R27, R30): what it adds appears; SHARE, an outlet without a session and a port made UNUSED
leave at once; a group and a declared port leave at a boundary with a zero grant. -/
def State.rolesCommitted (s : State) : State :=
  let s := (List.range 13).foldl (fun (st : State) (i : Nat) =>
    if st.roleWanted i then st.putBit Reg.ROLE_ACTIVE i true
    else if !st.role i then st
    else if i < 4 then st
    else if i < 8 then (if st.inSession (i - 4) then st else st.roleClear i)
    else if i < 12 then (if st.nat (Reg.XP_TYPE (i - 7)) == 0 then st.roleClear i else st)
    else st.roleClear i) s
  s.rolePublish

/-- A session has ended: an outlet that is leaving leaves (R27). -/
def State.roleSessionEnd (s : State) (o : Nat) : State :=
  if s.roleLeaving (4 + o) && !s.inSession o then s.roleClear (4 + o) else s

/-- The first boundary with a zero grant lets a leaving group or port go (R27). -/
def State.rolesBoundary (s : State) : State :=
  let s := (List.range 4).foldl (fun (st : State) (i : Nat) =>
    if st.roleLeaving i && st.int (Reg.PG_GRANT (i + 1)) == 0 then st.roleClear i else st) s
  (List.range 4).foldl (fun (st : State) (i : Nat) =>
    if st.roleLeaving (8 + i) && st.int (Reg.XP_GRANT (i + 1)) == 0 then st.roleClear (8 + i) else st) s

/-- MTX_FB_CHANGE (R32). -/
def execMtxFbChange (fb : Fin 8) (level : Bool) (s : State) : Host.Outcome State Fault Refusal :=
  .next (s.live fun s =>
    (List.finRange 4).foldl (fun (st : State) (g : Fin 4) => st.routeStep g) { s with matrixFb := s.matrixFb.set fb level })

/-- ROUTE_FB_TIMEOUT (R32): a held group does not time out, but an opening in progress does. -/
def execRouteFbTimeout (g : Fin 4) (s : State) : Host.Outcome State Fault Refusal :=
  .next (s.live fun s =>
    let st := s.routeState g
    let opening := st == 2 && s.nowClosed g
    if (s.phasesRun && (st == 1 || st == 2 || st == 3)) || opening then s.routeFault g else s)

end Sys2Proof.Machine
end

