-- ==== Sys2Proof/Machine/Loops.lean ====
section
/-! DEFINITION. Loops: loop engines, regulation, setpoints, stage temperature and shedding (chapter 06). -/

namespace Sys2Proof.Machine

/-! ## Engines and their targets (R132, R133) -/

/-- Change one engine. -/
def State.setEngine (s : State) (e : Fin 38) (x : Engine) : State := { s with engines := s.engines.set e x }

/-- Whether the engines class runs loops: RUN, or TRACK on mirrored state (R72); not in a LOOP blackout or under a test of
the Power region (R430, R434). -/
def State.enginesRun (s : State) : Bool :=
  (s.modes.beh[(6 : Fin 8)] == .run || s.modes.beh[(6 : Fin 8)] == .track) && !s.blackLoop && !s.testing 0

/-- A leg number as an index. -/
def legIx (b : Nat) : Fin 32 := ⟨b % 32, Nat.mod_lt _ (by decide)⟩

/-- ENGINE_STATE as the bindings and fences give it (R132 to R134, R137, log entry 75). -/
def State.engineStateOf (s : State) (e : Fin 38) : Nat :=
  let b := s.nat (Reg.BIND_ACTIVE e)
  if s.engineFenced e then 4
  else if s.rebinds.any fun r => r.newE == e.val && r.phase == 1 then 3
  else if b == 0xFF then 0
  else if s.engineOf b ≠ some e then 6
  else if 0x40 <= b then 5
  else if s.legs[legIx b].silent then 2
  else if s.enginesRun then 1 else 0

/-- Bring ENGINE_STATE of every engine up to date. -/
def State.refreshEngines (s : State) : State :=
  (List.finRange 38).foldl (fun (st : State) (e : Fin 38) => st.putN (Reg.ENGINE_STATE e) (st.engineStateOf e)) s

/-- The committed bindings come into force (R132, R133). -/
def State.applyBinds (s : State) : State :=
  ((List.finRange 38).foldl (fun st e => st.put (Reg.BIND_ACTIVE e) (st.get (Reg.BIND e))) s).refreshEngines

/-- The engine that serves the cooling of each outlet, for COOL_ENGINE (R132); after a change of the binding the loop starts its model anew,
but not where a warm rebind has handed it on (R251, R259). -/
def State.refreshCoolEngines (s : State) : State :=
  (List.finRange 4).foldl (fun (st : State) (i : Fin 4) =>
    let e := match st.engineOf (0x40 + i.val) with | some e => e.val | none => 0xFF
    let moved := e != st.nat (Reg.COOL_ENGINE i.val) && e != st.cools[i].engine
    let st := if moved then { st with cools := st.cools.set i { st.cools[i] with started := false } } else st
    st.putN (Reg.COOL_ENGINE i.val) e) s

/-! ## Sensing (R138) -/

/-- The decimation ratio of the regulation path at a LOOP_RATE (R138). -/
def decimation (rate : Nat) : Nat := match rate with | 0 => 80 | 1 => 40 | _ => 20
/-- The sample period in µs at a LOOP_RATE (R134, R138). -/
def sampleUs (rate : Nat) : Nat := match rate with | 0 => 4 | 1 => 2 | _ => 1

/-- A voltage from a Sinc³ count: full scale is the decimation ratio cubed (R138, log entry 14). -/
def voltOf (count fs : Int) (r : Nat) : Int := Int.tdiv (count * fs) (r * r * r : Nat)

/-- A current from a Sinc² count of ratio 4, with gain and offset, truncated toward zero (R138, log entry 14). -/
def State.edgeCurrent (s : State) (n : Fin 32) (count : Int) : Int :=
  let fs := s.int (Reg.ISNS_FS (legG n) (legE n))
  let ppm := s.int (Reg.ISNS_GAIN_PPM (legG n) (legE n))
  let off := s.int (Reg.ISNS_OFFSET (legG n) (legE n))
  Int.tdiv (count * fs * (1000000 + ppm) + off * 16000000) 16000000

/-! ## Coefficient sets (R142, R143) -/

/-- A signed 32-bit field of a coefficient set. -/
def coefS (bs : List Byte) (off : Nat) : Int := toS 32 (leAt bs off 4)
/-- INT_LIM. -/
def intLim (bs : List Byte) : Int := coefS bs 0
/-- L_PHASE. -/
def lPhase (bs : List Byte) : Int := leAt bs 4 4
/-- ZVS_MARGIN. -/
def zvsMargin (bs : List Byte) : Int := coefS bs 8
/-- REGION_DWELL. -/
def regionDwell (bs : List Byte) : Nat := leAt bs 12 2
/-- KP of a region. -/
def kpOf (bs : List Byte) (r : Nat) : Int := coefS bs (32 + 32 * r)
/-- KI of a region. -/
def kiOf (bs : List Byte) (r : Nat) : Int := coefS bs (36 + 32 * r)
/-- K_RIP of a region. -/
def kRip (bs : List Byte) (r : Nat) : Int := leAt bs (40 + 32 * r) 2
/-- RAMP_INJ of a region. -/
def rampInj (bs : List Byte) (r : Nat) : Int := leAt bs (42 + 32 * r) 2
/-- SLOPE_LEAD of a region. -/
def slopeLead (bs : List Byte) (r : Nat) : Int := leAt bs (44 + 32 * r) 2
/-- T_TARGET of a region. -/
def tTarget (bs : List Byte) (r : Nat) : Nat := leAt bs (46 + 32 * r) 2

/-- Whether a region contains an operating point (R143). -/
def regionHas (bs : List Byte) (r : Nat) (vout iavg : Int) : Bool :=
  coefS bs (16 + 32 * r) <= vout && vout < coefS bs (20 + 32 * r) &&
  coefS bs (24 + 32 * r) <= iavg && iavg < coefS bs (28 + 32 * r)

/-- The candidate region: the lowest-numbered that contains the point, or region 0 (R57, R143). -/
def regionAt (bs : List Byte) (vout iavg : Int) : Nat := ((List.range 8).find? fun r => regionHas bs r vout iavg).getD 0

/-! ## The control law (R140) -/

/-- What one sample's computation needs beside the coefficients. -/
structure LoopIn where
  vin : Int
  vout : Int
  vinMin : Int
  share : Int
  iavg : Int
  rateNum : Int     -- change of the group command, mA
  rateDen : Nat     -- over this many ns
  constOn : Bool
  iMax : Int
  ts : Int
  deriving DecidableEq, Repr

/-- What one sample's computation gives. -/
structure LoopOut where
  s : Int
  windup : Bool
  cmd : Nat
  a : Bool
  b : Bool
  icmd : Int
  deriving DecidableEq, Repr

/-- The integrator term KI × S ÷ 2^32 (R140). -/
def intTerm (ki s : Int) : Int := Int.tdiv (ki * s) 4294967296

/-- U_I (R140). -/
def uI (bs : List Byte) (r : Nat) (s : Int) : Int := clampI (-(intLim bs)) (intLim bs) (intTerm (kiOf bs r) s)

/-- The output U of R140 for a region, an integrator and an error. -/
def uOf (bs : List Byte) (r : Nat) (s e : Int) : Int := Int.tdiv (kpOf bs r * e) 65536 + uI bs r s

/-- The integration step of R140. -/
def integrate (windup : Bool) (s e ts : Int) : Int := if windup then s else s + e * ts * 65536

/-- One sample's output from an integrator already stepped (R140), in the order the procedure gives. lastI is the valley command
before it, which stands where the procedure stops early. -/
def loopOutput (bs : List Byte) (r : Nat) (x : LoopIn) (s : Int) (windup : Bool) (lastI : Int) : LoopOut :=
  if tTarget bs r == 0xFFFF then
    let off := x.vin < x.vinMin || x.share == 0 || x.iMax < x.iavg.natAbs
    ⟨s, windup, if off then 0 else 0xFFFFFFFF, false, false, x.share⟩
  else
    let e := x.share - x.iavg
    let u := uOf bs r s e
    if x.vin < x.vinMin then ⟨s, windup, 0, false, false, lastI⟩
    else
      let tt : Int := tTarget bs r
      let tact := if x.constOn then Int.tdiv (tt * max x.vout 0) x.vin else Int.tdiv (tt * max (x.vin - x.vout) 0) x.vin
      let di := if x.constOn then Int.tdiv ((x.vin - x.vout) * tact) (lPhase bs) else Int.tdiv (x.vout * tact) (lPhase bs)
      let lead := Int.tdiv (slopeLead bs r * x.rateNum) x.rateDen
      let rip := Int.tdiv (kRip bs r * di) 65536
      let i0 := if x.constOn then x.share + lead - rip + u else x.share + lead + rip + u
      let wind := x.iMax < i0.natAbs || intLim bs <= (intTerm (kiOf bs r) s).natAbs
      let i := clampI (-x.iMax) x.iMax i0
      let cmd := if tact == 0 then 1 else (Int.tdiv (tact * 32) 5).toNat
      let atA := if x.constOn then i + di else i
      let atB := if x.constOn then i else i - di
      ⟨s, wind, cmd, atA < zvsMargin bs, -(zvsMargin bs) < atB, i⟩

/-- The rescaled integrator of a switch, and whether it counts as a bump (R144). -/
def rescale (bs : List Byte) (r : Nat) (uold e : Int) : Int × Bool :=
  let ki := kiOf bs r
  let want := uold - Int.tdiv (kpOf bs r * e) 65536
  if ki == 0 then (0, true)
  else
    let s := Int.tdiv (want * 4294967296) ki
    if intLim bs < (intTerm ki s).natAbs then
      (Int.tdiv ((if s < 0 then -(intLim bs) else intLim bs) * 4294967296) ki, true)
    else (s, false)

/-! ## Shedding (R149 to R151) -/

/-- Whether an engine that is not fenced drives a leg that is not silent (R103, R133, R134). -/
def State.isDriven (s : State) (m : Fin 32) : Bool :=
  !s.legs[m].silent && match s.engineOf m.val with | some e => !s.engineFenced e | none => false

/-- The engine of a leg that must leave delivers CMD 0 (R148, R150); a leg without one that delivers gets none (R133, R134). -/
def State.deliverZero (s : State) (n : Fin 32) : State :=
  match s.engineOf n.val with
  | some e => if s.isDriven n && s.modes.beh[(6 : Fin 8)] == .run && s.enginesRun then s.deliverCmd n s.pwmNow 0 false false e.val else s
  | none => s

/-- SHED_ORDER as leg offsets, the first to leave first (R149). -/
def State.shedOrder (s : State) (g : Fin 4) : List (Fin 8) :=
  (List.range 8).map fun i => ⟨field (s.nat (Reg.SHED_ORDER g)) (4 * i + 3) (4 * i) % 8, Nat.mod_lt _ (by decide)⟩

/-- SHED_CAP of n legs; 8 is unlimited (R149). -/
def State.shedCap (s : State) (g : Fin 4) (n : Nat) : Option Int := if 1 <= n && n <= 7 then some (s.int (Reg.SHED_CAP g n)) else none

/-- Whether a magnitude exceeds SHED_CAP of n legs. -/
def State.overCap (s : State) (g : Fin 4) (n : Nat) (i : Int) : Bool :=
  match s.shedCap g n with | some c => decide (c < i.natAbs) | none => false

/-- Let n legs carry: the last n available ones of SHED_ORDER stay or return, by soft entry where they had left; the others leave with
CMD 0 (R149 to R151). -/
def State.applyN (s : State) (g : Fin 4) (n : Nat) : State :=
  let avail := ((s.shedOrder g).map (legOf g)).filter fun m => s.legAvailable m
  let keep := avail.drop (avail.length - n)
  let s := s.forLegs g fun m st =>
    let l := st.legs[m]
    if keep.contains m then (if l.shed then st.setLeg m { l with shed := false, entry := if l.left then 1 else l.entry } else st)
    else if avail.contains m && !l.shed then (st.setLeg m { l with shed := true, entry := 0 }).deliverZero m
    else st
  let s := s.setGroup g { s.groups[g] with nTarget := n }
  s.putN (Reg.N_ACTIVE g) (s.carrying g).length

/-- SHED_STATE from the window, the entries and N (R149 to R151). -/
def State.refreshShed (s : State) (g : Fin 4) : State :=
  s.putN (Reg.SHED_STATE g) (if s.groups[g].windowOpen then 1 else if s.entering g then 3
    else if s.groups[g].nTarget < 8 then 2 else 0)

/-- After a change of the available legs: the next leg in order takes a place that became free (R149, R152). -/
def State.reshed (s : State) (g : Fin 4) : State := (s.applyN g s.groups[g].nTarget).refreshShed g

/-- The smallest n whose SHED_CAP less SHED_HYST covers a magnitude (R149); 8 where none does. -/
def State.shedFit (s : State) (g : Fin 4) (i : Int) : Nat :=
  (([1, 2, 3, 4, 5, 6, 7] : List Nat).find? fun n => (i.natAbs : Int) <= s.int (Reg.SHED_CAP g n) - s.int (Reg.SHED_HYST g)).getD 8

/-- The smallest n whose SHED_CAP covers a magnitude; 8 where none does. -/
def State.riseFit (s : State) (g : Fin 4) (i : Int) : Nat :=
  (([1, 2, 3, 4, 5, 6, 7] : List Nat).find? fun n => !s.overCap g n i).getD 8

/-- Cancel a shed inside its window (R151). -/
def State.shedCancel (s : State) (g : Fin 4) : State :=
  let n := s.groups[g].nBefore
  let s := s.setGroup g { s.groups[g] with windowOpen := false, windowFrom := none }
  ((s.applyN g n).count (Reg.SHED_CANCEL_CNT g)).refreshShed g

/-- Legs that have shut down leave the count of available legs at a sample; an entry under way ends (R148). -/
def State.noteShut (s : State) (g : Fin 4) : State :=
  s.forLegs g fun n st =>
    if st.legShut n && !st.legs[n].otOut then st.setLeg n { st.legs[n] with otOut := true, entry := 0 } else st

/-- Whether the shed window has run its SHED_WINDOW periods of the group's first remaining leg at t (R151). -/
def State.windowOver (s : State) (g : Fin 4) (t : Nat) : Bool :=
  match s.groups[g].windowFrom, s.carrying g with
  | some w, n :: _ => w + s.nat (Reg.SHED_WINDOW g) * s.nat (Reg.PERIOD_MEAS (legG n) (legE n)) <= t
  | _, _ => false

/-- The shed window closes (R151). -/
def State.closeWindow (s : State) (g : Fin 4) : State :=
  (s.setGroup g { s.groups[g] with windowOpen := false, windowFrom := none }).refreshShed g

/-- What a sample at t does for shedding (R148, R149, R151): the available legs as they now are, the end of the window, cancellation
inside it, a rise outside it, and the count toward a shed decision. -/
def State.shedSample (s : State) (g : Fin 4) (t : Nat) : State :=
  let s := (s.noteShut g).reshed g
  let s := if s.groups[g].windowOpen && s.windowOver g t then s.closeWindow g else s
  let x := s.groups[g]
  if s.nat (Reg.SHED_EN g) == 0 then
    if x.nTarget == 8 then s
    else ((s.setGroup g { x with windowOpen := false, windowFrom := none, candRun := 0 }).applyN g 8).refreshShed g
  else
    let sum := (legsOf g).foldl (fun a n => a + s.int (Reg.I_MEAS (legG n) (legE n))) 0
    if x.windowOpen && (s.overCap g x.nTarget x.cmd || s.int (Reg.STEP_THRESH g) < (x.cmd - sum).natAbs) then s.shedCancel g
    else if !x.windowOpen && s.overCap g x.nTarget x.cmd then (s.applyN g (s.riseFit g x.cmd)).refreshShed g
    else
      let c := s.shedFit g x.cmd
      s.setGroup g { x with candN := c, candRun := if c < x.nTarget then (if x.candN == c then x.candRun + 1 else 1) else 0 }

/-! ## Setpoints and the ramp (R145, R146) -/

/-- The command a ramp stands at, at a moment t (R146): start + (target − start) × min(t, T_R) ÷ T_R. -/
def Group.rampValue (x : Group) (t : Nat) : Int :=
  if x.rampNs == 0 then x.target
  else x.rampFrom + Int.tdiv ((x.target - x.rampFrom) * (min (5 * (t - x.rampAt)) (32 * x.rampNs) : Nat)) (32 * x.rampNs : Nat)

/-- Whether a ramp is still under way at t. -/
def Group.ramping (x : Group) (t : Nat) : Bool := x.rampNs != 0 && 5 * (t - x.rampAt) < 32 * x.rampNs

/-- The target a GRANT gives (R145). -/
def State.grantTarget (s : State) (g : Fin 4) (grantW : Int) : Int :=
  Int.tdiv (grantW * 1000000) (max s.groups[g].vout (s.int (Reg.V_FLOOR g)))

/-- The target a pin gives, linear about its zero point, where the pin is in its valid range (R145); the pin is in µV, Hz or
ppm of duty. -/
def State.pinTarget (s : State) (g : Fin 4) (pin : Nat) : Option Int :=
  let fs := s.int (Reg.SETP_FS g)
  match s.nat (Reg.SETP_SRC g) with
  | 1 => if 100000 <= pin && pin <= 4900000 then some (Int.tdiv (((pin : Int) - 2500000) * fs) 2250000) else none
  | 2 => if 500 <= pin && pin <= 10500 then some (Int.tdiv (((pin : Int) - 5500) * fs) 4500) else none
  | _ => if 50000 <= pin && pin <= 950000 then some (Int.tdiv (((pin : Int) - 500000) * fs) 400000) else none

/-- An integer limited to a magnitude, keeping its sign (R145, R146). -/
def limitMag (m i : Int) : Int := clampI (-(m.natAbs : Int)) m.natAbs i

/-- SETP_FAULT begins: the target goes to zero, the bit is set, one Pennant (R145). -/
def State.setpFaultOn (s : State) (g : Fin 4) : State :=
  if bit (s.nat (Reg.SETP_FAULT g)) 0 then s
  else
    let before := s.get (Reg.SETP_FAULT g)
    let s := s.putBit (Reg.SETP_FAULT g) 0 true
    let s := s.setGroup g { s.groups[g] with target := 0 }
    s.raiseCat ((0x10 + g.val) * 256) 0x64 2 before

/-- The group command at a sample of the group at t (R145, R146): the ramp of a GRANT, or a step of a pin source toward its
target; a PORT_STOP keeps it at zero (R34, R194). -/
def State.commandSample (s : State) (g : Fin 4) (t ts pin : Nat) : State :=
  let x := s.groups[g]
  let s :=
    if x.portStopped then s.setGroup g { x with cmd := 0, rateNum := 0, rateDen := 1 }
    else if s.nat (Reg.SETP_SRC g) == 0 then
      s.setGroup g { x with cmd := x.rampValue t, rateNum := if x.ramping t then x.target - x.rampFrom else 0,
                            rateDen := if x.ramping t then x.rampNs else 1 }
    else
      let s := match s.pinTarget g pin with
        | some _ => s
        | none => s.setpFaultOn g
      let x := { x with pin := (s.pinTarget g pin).getD 0 }
      let target := if bit (s.nat (Reg.SETP_FAULT g)) 0 then 0 else limitMag x.grantTarget ((s.pinTarget g pin).getD 0)
      let step : Int := s.nat (Reg.SETP_SLEW g) * ts
      let moved := if step == 0 then target else clampI (x.cmd - step) (x.cmd + step) target
      let c := limitMag x.grantTarget moved
      s.setGroup g { s.groups[g] with pin := x.pin, target := target, cmd := c, rateNum := c - x.cmd, rateDen := ts * 1000 }
  s.putI (Reg.I_GROUP_CMD g) s.groups[g].cmd

/-- Count a sample at which the clamp of a carrying leg's share keeps current from being delivered (R151). -/
def State.stepLimit (s : State) (g : Fin 4) : State :=
  let limited := (s.carrying g).any fun n => s.int (Reg.I_PHASE_MAX (legG n) (legE n)) < (s.wantShare n).natAbs
  if limited then s.count (Reg.STEP_LIMIT_CNT g) else s

/-- Whether a leg is the one whose samples step its group: the lowest driven one (log entry 75). -/
def State.isReference (s : State) (n : Fin 32) : Bool := (legsOf (legGroup n)).find? s.isDriven == some n

/-! ## One regulation sample (R140, R143, R144, R137) -/

/-- The inputs of a leg's computation. -/
def State.loopIn (s : State) (n : Fin 32) (e : Fin 38) : LoopIn :=
  let x := s.groupOf n
  ⟨x.vin, x.vout, s.int (Reg.V_IN_MIN (legG n)), s.legs[n].share, s.int (Reg.I_MEAS (legG n) (legE n)), x.rateNum, x.rateDen,
   s.nat (Reg.CARRIER (legG n) (legE n)) == 0, s.int (Reg.I_PHASE_MAX (legG n) (legE n)), sampleUs (s.nat (Reg.LOOP_RATE e))⟩

/-- Whether the sample is a switch: a dwell that is complete, or a coefficient set committed (R143). -/
def State.switchDue (s : State) (e : Fin 38) : Bool :=
  let x := s.engines[e]
  (!x.coef.isEmpty && x.coef != s.blob (Reg.COEF_SET e)) || (regionDwell x.coef <= x.dwell && x.dwell != 0)

/-- The integrator of a sample before any switch: it steps, but in a held-on region it is held (R140). -/
def stepS (bs : List Byte) (r : Nat) (x : Engine) (err ts : Int) : Int :=
  if tTarget bs r == 0xFFFF then x.s else integrate x.windup x.s err ts

/-- The region part of a sample: a switch, or the count toward one; the integrator after it, and whether a switch was made
(R143, R144). An engine that has no set yet takes the committed one, in the region it stands in. -/
def State.regionSample (s : State) (e : Fin 38) (i : LoopIn) : State × Int :=
  let x := if s.engines[e].coef.isEmpty then { s.engines[e] with coef := s.blob (Reg.COEF_SET e) } else s.engines[e]
  let err := i.share - i.iavg
  let r := s.nat (Reg.REGION_ACTIVE e)
  let s1 := stepS x.coef r x err i.ts
  if s.switchDue e then
    let bs := s.blob (Reg.COEF_SET e)
    let r' := if regionDwell x.coef <= x.dwell && x.dwell != 0 then x.cand else r
    let z := rescale bs r' (uOf x.coef r s1 err) err
    let s := s.setEngine e { x with coef := bs, dwell := 0 }
    let s := s.putN (Reg.REGION_ACTIVE e) r'
    let s := if r' != r then s.count (Reg.REGION_CHANGES e) else s
    (if z.2 then s.count (Reg.REGION_BUMP_CNT e) else s, z.1)
  else
    let c := regionAt x.coef i.vout i.iavg
    (s.setEngine e { x with cand := c, dwell := if c == r then 0 else x.dwell + 1 }, s1)

/-- The computation of one engine for one leg: the state after it, with the engine's last output (R140). -/
def State.compute (s : State) (e : Fin 38) (n : Fin 32) : State :=
  let i := s.loopIn n e
  let q := s.regionSample e i
  let s := q.1
  let x := s.engines[e]
  let r := s.nat (Reg.REGION_ACTIVE e)
  let o := loopOutput x.coef r i q.2 x.windup x.lastI
  let cmd := if s.legCarries n && !s.legShut n then o.cmd else 0
  let s := s.setEngine e { x with s := o.s, windup := o.windup, lastCmd := cmd, lastA := o.a, lastB := o.b, lastI := o.icmd }
  (s.putI (Reg.INT_OUT e) (uI x.coef r o.s)).putI (Reg.VALLEY_CMD e) o.icmd

/-- Copy the running state, the coefficient set and LOOP_RATE of an engine to another (R137, step 1). -/
def State.copyEngine (s : State) (old new : Fin 38) : State :=
  let s := s.setEngine new s.engines[old]
  let s := s.put (Reg.COEF_SET new) (s.get (Reg.COEF_SET old))
  let s := s.put (Reg.LOOP_RATE new) (s.get (Reg.LOOP_RATE old))
  s.put (Reg.REGION_ACTIVE new) (s.get (Reg.REGION_ACTIVE old))

/-- An engine number as an index. -/
def engineIx (e : Nat) : Fin 38 := ⟨e % 38, Nat.mod_lt _ (by decide)⟩

/-- A rebind is over: bindings committed meanwhile are applied and govern (R152). -/
def State.rebindOver (s : State) (r : Rebind) : State :=
  let s := { s with rebinds := s.rebinds.filter fun x => decide (x ≠ r) }
  if s.rebinds.isEmpty && !s.bindHeld.isEmpty then
    let held := s.bindHeld
    ({ held.foldl (fun (st : State) (x : Nat × Val) => st.putBoth x.1 x.2) s with bindHeld := [] }).applyBinds.refreshCoolEngines
  else s.refreshEngines

/-- End a rebind without a change of the binding (R137, R152). -/
def State.rebindFailed (s : State) (r : Rebind) (detail : Nat) : State :=
  (if r.auto then s else s.failedWith .engineRebind detail).rebindOver r

/-- After the old engine's sample: a waiting warm rebind copies at this boundary (R137, step 1). -/
def State.rebindCopy (s : State) (e : Fin 38) : State :=
  match s.rebinds.find? fun r => r.warm && r.phase == 0 && r.oldE == e.val with
  | none => s
  | some r =>
    let s := s.copyEngine e (engineIx r.newE)
    let s := { s with rebinds := s.rebinds.map fun x => if x = r then { r with phase := 1 } else x }
    s.refreshEngines

/-- A sample of an engine that computes in shadow: it is compared with the old engine's, and a single difference ends the
rebind (R137, step 2). -/
def State.shadowSample (s : State) (r : Rebind) (e : Fin 38) (n : Fin 32) : State :=
  let s := s.compute e n
  let a := s.engines[e]
  let b := s.engines[engineIx r.oldE]
  if a.lastCmd == b.lastCmd && a.lastA == b.lastA && a.lastB == b.lastB && a.lastI == b.lastI then
    { s with rebinds := s.rebinds.map fun x => if x = r then { r with matched := r.matched + 1 } else x }
  else s.rebindFailed r 0x0101

/-- A leg whose engine delivers again after silence returns by soft entry (R134, R150). -/
def State.unsilence (s : State) (e : Fin 38) (n : Fin 32) : State :=
  if s.legs[n].silent then
    ((s.setLeg n { s.legs[n] with silent := false, entry := 1 }).putN (Reg.ENGINE_STATE e) 1).reshed (legGroup n)
  else s

/-- The running state of an engine and its leg as it is mirrored (R137, R394). -/
def State.loopImage (s : State) (e : Fin 38) (n : Fin 32) : LoopImage :=
  let x := s.engines[e]
  let g := s.groupOf n
  let l := s.legs[n]
  ⟨x.s, x.windup, s.nat (Reg.REGION_ACTIVE e), x.cand, x.dwell, g.cmd, g.rampFrom, g.rampAt, g.rampNs, l.share, l.entry, l.edges⟩

/-- An engine that tracks takes the running state mirrored to it (R72, R394). -/
def State.loadLoop (s : State) (e : Fin 38) (n : Fin 32) (x : LoopImage) : State :=
  let g := legGroup n
  let s := s.setEngine e { s.engines[e] with s := x.s, windup := x.windup, cand := x.cand, dwell := x.dwell }
  let s := s.putN (Reg.REGION_ACTIVE e) x.region
  let s := s.setGroup g { s.groups[g] with cmd := x.cmd, rampFrom := x.rampFrom, rampAt := x.rampAt, rampNs := x.rampNs }
  s.setLeg n { s.legs[n] with share := x.share, entry := x.entry, edges := x.edges }

/-- LOOP_SAMPLE (R138, R140, R143 to R151): the group's voltages and, at the reference leg, its command and its shedding; then
the engine's computation, whose command word is delivered into the leg's shadow. -/
def State.loopSample (s : State) (e : Fin 38) (t : Nat) (vin vout : Int) (pin : Nat) : State :=
  let b := s.nat (Reg.BIND_ACTIVE e)
  let shadow := s.rebinds.find? fun r => r.newE == e.val && r.phase == 1 && r.target < 32
  let s := { s with pwmNow := max s.pwmNow t }
  if s.engineFenced e || !s.enginesRun then s
  else match shadow with
    | some r => s.shadowSample r e (legIx r.target)
    | none =>
      if 32 <= b || s.engineOf b ≠ some e then s
      else
        let n := legIx b
        let g := legGroup n
        let rate := s.nat (Reg.LOOP_RATE e)
        let s := s.unsilence e n
        let s := s.setGroup g { s.groups[g] with
          vin := voltOf vin (s.int (Reg.VB_FS g)) (decimation rate), vout := voltOf vout (s.int (Reg.VO_FS g)) (decimation rate) }
        let s := (s.putI (Reg.V_IN_MEAS g) s.groups[g].vin).putI (Reg.V_OUT_MEAS g) s.groups[g].vout
        let s := if s.isReference n then ((s.commandSample g t (sampleUs rate) pin).shedSample g t).stepLimit g else s
        let iavg := (s.loopIn n e).iavg
        let s := s.compute e n
        let x := s.engines[e]
        let s := s.traceLoop n (s.nat (Reg.BOUNDARY_COUNT (legG n) (legE n))) iavg x.lastI
        let s := if s.modes.beh[(6 : Fin 8)] == .run then
            (s.deliverCmd n t x.lastCmd x.lastA x.lastB e.val).measureLat Reg.LAT_SAMPLE_TO_PWM 14 180 true else s
        let s := if t / 640000 != (t - 6400 * sampleUs rate) / 640000 then s.mirror (.loop e (s.loopImage e n)) else s
        s.rebindCopy e

/-- LOOP_SAMPLE. -/
def execLoopSample (e : Fin 38) (t : Nat) (vin vout : Int) (pin : Nat) (s : State) : Host.Outcome State Fault Refusal :=
  .next (s.live (·.loopSample e t vin vout pin))

/-! ## The edge path (R139, R141) -/

/-- The overlap of two intervals. -/
def overlap (a b c d : Nat) : Nat := min b d - max a c

/-- A sample's part in the averages of the present and of the last completed period (R139). -/
def State.averageSample (s : State) (n : Fin 32) (t : Nat) (i : Int) : State :=
  let l := s.legs[n]
  let a := t - 2240
  let b := t - 960
  let l := { l with accCur := l.accCur + i * overlap a b l.bnd b,
                    accPrev := if l.perOpen then l.accPrev + i * overlap a b l.perStart l.perEnd else l.accPrev }
  if l.perOpen && l.perEnd <= b && l.perStart < l.perEnd then
    (s.setLeg n { l with perOpen := false }).putI (Reg.I_MEAS (legG n) (legE n)) (Int.tdiv l.accPrev (l.perEnd - l.perStart : Nat))
  else s.setLeg n l

/-- The predicted crossing of the valley or peak threshold by a line through the last three edge samples (R141, log entry 15):
none where the line does not run toward the threshold. -/
def predictCross (es : List (Nat × Int)) (constOn : Bool) (icmd ramp : Int) (ton : Nat) : Option Nat :=
  match es with
  | [(t1, v1), (t2, v2), (t3, v3)] =>
    let d : Int := (t3 : Int) - t1
    let r := if constOn then ramp else -ramp
    let den := (v3 - v1) * 6400 - r * d
    let num := ((3 * icmd - (v1 + v2 + v3)) * 6400 + 3 * r * ((t2 : Int) - ton)) * d
    let toward := if constOn then den < 0 else 0 < den
    if toward then
      let x := (t2 : Int) + Int.tdiv num (3 * den)
      some x.toNat
    else none
  | _ => none

/-- EDGE_SAMPLE (R138, R139, R141). -/
def State.edgeSample (s : State) (n : Fin 32) (t : Nat) (count : Int) : State :=
  let i := s.edgeCurrent n count
  let s := s.averageSample n t i
  let l := s.legs[n]
  let es := (l.edges ++ [(t - 960, i)]).drop ((l.edges.length + 1) - 3)
  let p := match s.engineOf n.val with
    | none => none
    | some e =>
      let x := s.engines[e]
      if (l.iv == .low && l.act.carrier == 0) || (l.iv == .high && l.act.carrier == 1) then
        predictCross es (l.act.carrier == 0) x.lastI (rampInj x.coef (s.nat (Reg.REGION_ACTIVE e))) l.start
      else none
  { s.setLeg n { l with edges := es, predict := p } with pwmNow := max s.pwmNow t }

/-- EDGE_SAMPLE. -/
def execEdgeSample (leg : Fin 32) (t : Nat) (count : Int) (s : State) : Host.Outcome State Fault Refusal :=
  .next (s.live fun s => (s.edgeSample leg t count).routeCurrent (legGroup leg))

/-! ## Setpoint deliveries (R145, R146) -/

/-- The ramp time of a group in ns: RAMP_TIME, or the epoch period (R146). -/
def State.rampTime (s : State) (g : Fin 4) : Nat :=
  if s.nat (Reg.RAMP_TIME g) == 0 then s.period else s.nat (Reg.RAMP_TIME g)

/-- Whether a target lies nearer zero than a command, or on the other side of it (R146). -/
def nearer (target cmd : Int) : Bool := target.natAbs <= cmd.natAbs || (cmd < 0 && 0 < target) || (0 < cmd && target < 0)

/-- SETPOINT_DELIVERY (R145, R146, R183): the group's grant PG_GRANT is converted; a differing GRANT target is taken at once where
it lies nearer zero or on the other side, and starts a ramp from the present command otherwise; for a pin source it is the limit.
A PORT_STOP keeps the target at zero (R194, R243). -/
def State.deliverSetpoint (s : State) (g : Fin 4) (t : Nat) : State :=
  let target := if s.groups[g].portStopped then 0 else s.grantTarget g (s.int (Reg.PG_GRANT (g.val + 1)))
  let x := { s.groups[g] with grantTarget := target }
  let s := { s with pwmNow := max s.pwmNow t }
  if s.nat (Reg.SETP_SRC g) != 0 then s.setGroup g x
  else if target == x.target then s.setGroup g x
  else
    let now := if s.groups[g].portStopped then 0 else x.rampValue t
    let s := if nearer target now && target != now then
        s.setGroup g { x with target := target, cmd := target, rampNs := 0, rateNum := 0, rateDen := 1 }
      else s.setGroup g { x with target := target, cmd := now, rampFrom := now, rampAt := t, rampNs := s.rampTime g,
                                 rateNum := target - now, rateDen := s.rampTime g }
    s.putI (Reg.I_GROUP_CMD g) s.groups[g].cmd

/-- SETPOINT_DELIVERY. -/
def execSetpointDelivery (g : Fin 4) (t : Nat) (s : State) : Host.Outcome State Fault Refusal :=
  .next (s.live (·.deliverSetpoint g t))

/-- SETP_FAULT (R145, R152). -/
def execSetpFault (g : Fin 4) (s : State) : Host.Outcome State Fault Refusal :=
  .next (s.live fun s => if s.nat (Reg.SETP_SRC g) == 0 then s else s.setpFaultOn g)

/-- SETP_FAULT_CLEAR (R145): the bit clears, and the target follows the pin again from the next sample. -/
def execSetpFaultClear (g : Fin 4) (s : State) : Host.Outcome State Fault Refusal :=
  .next (s.live fun s => s.putBit (Reg.SETP_FAULT g) 0 false)

/-- A PORT_STOP or an emergency stop takes the group's target to zero at its next sample (R34, R194). -/
def State.stopTarget (s : State) (g : Fin 4) : State :=
  s.setGroup g { s.groups[g] with target := 0, rampNs := 0, portStopped := true }

/-! ## Stage temperature (R148) -/

/-- A fixed-point exponential: x is scaled by 2^96 (log entry 16). -/
def expTerms : (k : Nat) → (i : Nat) → (term x acc : Int) → Int
  | 0, _, _, _, acc => acc
  | k + 1, i, term, x, acc =>
    let t := Int.tdiv (term * x) ((i + 1 : Nat) * 79228162514264337593543950336)
    expTerms k (i + 1) t x (acc + t)

/-- exp(num ÷ den) scaled by 2^96, by 64 terms of its series; exact enough for every argument of R148 (log entry 16). -/
def expFixed (num den : Int) : Int :=
  expTerms 64 0 79228162514264337593543950336 (Int.tdiv (num * 79228162514264337593543950336) den) 79228162514264337593543950336

/-- Whether the beta equation gives at least h ÷ 200 °C for a resistance (R148). -/
def ntcAtLeast (ohms rnom beta : Nat) (h : Int) : Bool :=
  (ohms : Int) * 79228162514264337593543950336 <=
    (rnom : Int) * expFixed ((beta : Int) * 200 * (5000 - h)) ((h + 54630) * 59630)

/-- The greatest of n + 1 temperatures from lo upward, in 0.01 °C, that the beta equation reaches, rounded to nearest. -/
def ntcSearch (ohms rnom beta : Nat) : (fuel : Nat) → (lo hi : Int) → Int
  | 0, lo, _ => lo
  | f + 1, lo, hi =>
    if hi <= lo then lo
    else
      let mid := (lo + hi + 1) / 2
      if ntcAtLeast ohms rnom beta (2 * mid - 1) then ntcSearch ohms rnom beta f mid hi
      else ntcSearch ohms rnom beta f lo (mid - 1)

/-- T_STAGE in 0.01 °C of a resistance (R148), between −50 °C and +205 °C. -/
def ntcTemp (ohms rnom beta : Nat) : Int := ntcSearch ohms rnom beta 20 (-5000) 20500

/-- A leg shuts down on temperature or on its sensor (R148): its engine delivers CMD 0, and OT_SHUT_CNT counts; it leaves the count of
available legs at the next sample. -/
def State.otShut (s : State) (n : Fin 32) : State := (s.count (Reg.OT_SHUT_CNT (legG n) (legE n))).deliverZero n

/-- A leg returns by soft entry after a shutdown (R148, R150). -/
def State.otReturn (s : State) (n : Fin 32) : State :=
  let s := s.putBit (Reg.OT_STATUS (legG n)) (8 + n.val % 8) false
  let s := s.putBit (Reg.OT_STATUS (legG n)) (16 + n.val % 8) false
  (s.setLeg n { s.legs[n] with otOut := false, entry := 1 }).reshed (legGroup n)

/-- NTC_SAMPLE (R148): a reading outside −45 °C to +200 °C is a sensor fault and a shutdown; otherwise warning, shutdown and
recovery against their limits; a shutdown is raised together with its warning (R153). -/
def State.ntcSample (s : State) (n : Fin 32) (ohms : Nat) : State :=
  let g := legG n
  let i := n.val % 8
  let src := (0x10 + g) * 256 + legE n
  let t := ntcTemp ohms (s.nat (Reg.NTC_RNOM g (legE n))) (s.nat (Reg.NTC_BETA g (legE n)))
  let before := s.get (Reg.OT_STATUS g)
  let st := s.nat (Reg.OT_STATUS g)
  if t < -4500 || 20000 < t then
    if bit st (16 + i) then s
    else
      let s := (s.putBit (Reg.OT_STATUS g) (8 + i) true).putBit (Reg.OT_STATUS g) (16 + i) true
      (s.otShut n).raise1 src 0x25D 2 before
  else
    let s := s.putI (Reg.T_STAGE g (legE n)) t
    let s :=
      if s.int (Reg.OT_WARN g) <= t || s.int (Reg.OT_SHUT g) <= t then
        if bit st i then s else (s.putBit (Reg.OT_STATUS g) i true).raise1 src 0x05D 2 before
      else if t < s.int (Reg.OT_WARN g) - s.int (Reg.OT_HYST g) then s.putBit (Reg.OT_STATUS g) i false
      else s
    if s.int (Reg.OT_SHUT g) <= t then
      if bit st (8 + i) then s
      else
        let before := s.get (Reg.OT_STATUS g)
        ((s.putBit (Reg.OT_STATUS g) (8 + i) true).otShut n).raise1 src 0x15D 1 before
    else if bit st (8 + i) && !bit st (16 + i) && t < s.int (Reg.OT_SHUT g) - s.int (Reg.OT_HYST g) then s.otReturn n
    else s

/-- NTC_SAMPLE. -/
def execNtcSample (leg : Fin 32) (ohms : Nat) (s : State) : Host.Outcome State Fault Refusal :=
  .next (s.live (·.ntcSample leg ohms))

/-- SENSOR_VALID_RETURN (R148): the sensor has been valid for 1 s; the leg returns once it lies below OT_SHUT − OT_HYST. -/
def execSensorValidReturn (leg : Fin 32) (s : State) : Host.Outcome State Fault Refusal :=
  .next (s.live fun s =>
    if bit (s.nat (Reg.OT_STATUS (legG leg))) (16 + leg.val % 8) &&
        s.int (Reg.T_STAGE (legG leg) (legE leg)) < s.int (Reg.OT_SHUT (legG leg)) - s.int (Reg.OT_HYST (legG leg))
    then s.otReturn leg else s)

/-! ## Shed decisions (R149, R151) -/

/-- SHED_DECISION (R149): the candidate has held for SHED_DWELL samples; N falls and the window opens. -/
def execShedDecision (g : Fin 4) (s : State) : Host.Outcome State Fault Refusal :=
  .next (s.live fun s =>
    let x := s.groups[g]
    if s.nat (Reg.SHED_EN g) == 1 && x.candN < x.nTarget && s.nat (Reg.SHED_DWELL g) <= x.candRun then
      let s := s.setGroup g { x with nBefore := x.nTarget, windowOpen := true, windowFrom := none, candRun := 0 }
      ((s.applyN g x.candN).count (Reg.SHED_CNT g)).refreshShed g
    else s)

/-- SHED_WINDOW_CLOSE (R151): none before the last leaving leg has been held off. A sample that finds SHED_WINDOW periods gone by closes
the window as well. -/
def execShedWindowClose (g : Fin 4) (s : State) : Host.Outcome State Fault Refusal :=
  .next (s.live fun s => if s.groups[g].windowOpen && s.groups[g].windowFrom.isSome then s.closeWindow g else s)

/-! ## Silence and rebinding (R134 to R137, R152) -/

/-- Begin a rebind: warm where the target's present engine is RUNNING, cold otherwise and where the supervisor starts it (R135 to R137). A cold one loads the target's
coefficient set and LOOP_RATE, starts with the integrator at zero, and brings the leg in by soft entry. -/
def State.beginRebind (s : State) (target newE : Nat) (auto : Bool) : State :=
  let old := s.engineOf target
  let warm := !auto && match old with
    | some e => s.nat (Reg.ENGINE_STATE e) == 1 || (s.nat (Reg.ENGINE_STATE e) == 5 && !s.cools[(Fin.ofNat 4 target : Fin 4)].noEngine)
    | none => false
  let oldN := match old with | some e => e.val | none => 0xFF
  let r : Rebind := ⟨target, newE, oldN, auto, warm, if warm then 0 else 2, 0, 0⟩
  let s := { s with rebinds := s.rebinds ++ [r] }
  if warm then s
  else
    let nE := engineIx newE
    let s := match old with
      | some e =>
        (s.put (Reg.COEF_SET nE) (s.get (Reg.COEF_SET e))).put (Reg.LOOP_RATE nE) (s.get (Reg.LOOP_RATE e))
      | none => s
    let s := (s.setEngine nE Engine.reset).putN (Reg.REGION_ACTIVE nE) 0
    let s := if oldN == 0xFF then s else s.putN (Reg.BIND_ACTIVE oldN) 0xFF
    let s := s.putN (Reg.BIND_ACTIVE nE) target
    let s := if target < 32 then
        let n := legIx target
        (s.setLeg n { s.legs[n] with silent := false, entry := 1 }).reshed (legGroup n)
      else s
    s.refreshEngines.refreshCoolEngines

/-- The lowest-numbered engine a silent target may move to by itself (R135). -/
def State.autoSpare (s : State) : Option (Fin 38) :=
  (List.finRange 38).find? fun e =>
    s.nat (Reg.BIND e) == 0xFF && s.nat (Reg.SPARE_POLICY e) == 1 && !s.engineFenced e && !(s.rebinds.any fun r => r.newE == e.val)

/-- The classes of the engines and the unit's part in a pair under which ENGINE_REBIND is refused, by DETAIL (R136). -/
def State.rebindBar (s : State) : Option Nat :=
  let b := s.modes.beh[(6 : Fin 8)]
  if b == .service || b == .idle || b == .off then some 0x0001 else if s.isStandby then some 0x0003 else none

/-- An automatic cold rebind where a spare exists and ENGINE_REBIND would not be refused (R135); it reports through its Pennant and the
BIND objects. -/
def State.autoRebind (s : State) (target : Nat) : State :=
  match s.autoSpare with
  | none => s
  | some e =>
    if s.rebindBar.isSome then s
    else
      let before := s.get (Reg.BIND e)
      (s.beginRebind target e.val true).raiseCat ((0x20 + e.val) * 256) 0x01 3 before

/-- The engine a silent leg's count goes to: the one that drives it, or the one whose CMD it captured last where none names it any more
(R134). -/
def State.silentEngine (s : State) (n : Fin 32) : Option (Fin 38) :=
  match s.engineOf n.val with
  | some e => some e
  | none => if h : s.legs[n].cmdEngine < 38 then some ⟨s.legs[n].cmdEngine, h⟩ else none

/-- CMD_SILENCE_TIMEOUT (R134, R135, R152): the leg is parked, its engine reads SILENT, and a shadowing rebind of it fails. -/
def State.cmdSilence (s : State) (n : Fin 32) : State :=
  let st := s.nat (Reg.LEG_STATE (legG n) (legE n))
  if st == 0 || st == 4 then s
  else
    let s := (s.parkLeg n)
    let s := s.setLeg n { s.legs[n] with silent := true, entry := 0 }
    let s := s.reshed (legGroup n)
    let s := match s.silentEngine n with
      | none => s
      | some e =>
        let before := s.get (Reg.ENGINE_STATE e)
        let s := (s.count (Reg.SILENCE_CNT e)).refreshEngines
        let s := match s.rebinds.find? fun (r : Rebind) => r.oldE == e.val && r.phase <= 1 with
          | some r => s.rebindFailed r 0x0103
          | none => s
        s.raiseCat ((0x20 + e.val) * 256) 0x05 4 before
    s.autoRebind n.val

/-- CMD_SILENCE_TIMEOUT. -/
def execCmdSilenceTimeout (leg : Fin 32) (s : State) : Host.Outcome State Fault Refusal := .next (s.live (·.cmdSilence leg))

/-- ENGINE_REBIND after its CMD write was accepted (R136). -/
def State.engineRebind (s : State) (arg : Nat) : State :=
  let target := field arg 7 0
  let e := field arg 15 8
  if s.rebindBar == some 0x0001 then s.refusedWith .engineRebind 0x0001
  else if s.nat (Reg.BIND e) != 0xFF then s.refusedWith .engineRebind 0x0002
  else if s.rebindBar.isSome then s.refusedWith .engineRebind 0x0003
  else if s.engineFenced e then s.refusedWith .engineRebind 0x0100
  else s.beginRebind target e false

/-- ENGINE_REBIND. -/
def execEngineRebind (h : Hdr) (arg : Nat) (s : State) : Host.Outcome State Fault Refusal :=
  .next (s.hostCmd h .engineRebind arg (·.engineRebind arg))

/-- REBIND_SWITCH (R137, step 3): after eight matching samples the new engine delivers. -/
def execRebindSwitch (newE : Fin 38) (s : State) : Host.Outcome State Fault Refusal :=
  .next (s.live fun s =>
    match s.rebinds.find? fun r => r.newE == newE.val && r.phase == 1 && 8 <= r.matched with
    | none => s
    | some r =>
      let s := { s with rebinds := s.rebinds.map fun x => if x = r then { r with phase := 2 } else x }
      let s := if r.oldE == 0xFF then s else s.putN (Reg.BIND_ACTIVE r.oldE) 0xFF
      let s := if 0x40 <= r.target then
          let o : Fin 4 := Fin.ofNat 4 r.target
          { s with cools := s.cools.set o { s.cools[o] with engine := newE.val } }
        else s
      (s.putN (Reg.BIND_ACTIVE newE) r.target).refreshEngines.refreshCoolEngines)

/-- A rebind that is recorded, and whose new engine's first CMD the leg has captured, completes (R137, step 4). -/
def State.rebindComplete (s : State) (r : Rebind) : State :=
  (if r.auto then s else s.completed .engineRebind (if r.warm then 0 else 0x0102)
    (r.newE + r.oldE * 256 + r.bcount * 4294967296)).rebindOver r

/-- After a boundary: rebinds that have both complete. -/
def State.rebindsCaptured (s : State) : State :=
  match s.rebinds.find? fun (r : Rebind) => r.phase == 5 with
  | some r => s.rebindComplete r
  | none => s

/-- REBIND_RECORDED (R137, step 4): the bindings are in the configuration store. A leg's rebind completes once its first CMD from the new
engine has been captured; a cooling loop captures none. -/
def execRebindRecorded (newE : Fin 38) (s : State) : Host.Outcome State Fault Refusal :=
  .next (s.live fun s =>
    match s.rebinds.find? fun (r : Rebind) => r.newE == newE.val && (r.phase == 2 || r.phase == 3) with
    | none => s
    | some r =>
      let s := s.putBoth (Reg.BIND newE) (.num r.target)
      let s := if r.oldE == 0xFF then s else s.putBoth (Reg.BIND r.oldE) (.num 0xFF)
      if r.phase == 3 || 32 <= r.target then s.rebindComplete r
      else ({ s with rebinds := s.rebinds.map fun x => if x = r then { r with phase := 4 } else x }).refreshEngines)

/-! ## Boundaries as commands (R108, R113) -/

/-- PERIOD_BOUNDARY. -/
def execPeriodBoundary (leg : Fin 32) (s : State) : Host.Outcome State Fault Refusal :=
  .next (s.live fun s => if s.hardOff leg then s else (s.realBoundary leg).rebindsCaptured)

/-- VIRTUAL_BOUNDARY: none while the clock is lost or the phases class is OFF (R96, R126, R129). -/
def execVirtualBoundary (leg : Fin 32) (s : State) : Host.Outcome State Fault Refusal :=
  .next (s.live fun s =>
    if s.legs[leg].virtual && !s.clockLost && s.modes.beh[(0 : Fin 8)] != .off then (s.virtualBoundary leg).rebindsCaptured else s)

end Sys2Proof.Machine
end

