-- ==== Sys2Proof/Machine/Records.lean ====
section
/-! DEFINITION. Records: legal and civil time, the tariff calendar, the vault's events, the legal log, the committed registers,
billing boundaries and the loops (chapters 12, 13 and 19). -/

namespace Sys2Proof.Machine

/-! ## Civil time and the calendar (R308, R312, R313) -/

/-- Milliseconds of a day. -/
def dayMs : Nat := 86400000

/-- Civil time in ms for a legal time (R308); CIVIL_TIME_SET never lets it fall below zero (R310). -/
def State.civilAt (s : State) (t : Nat) : Nat := ((t : Int) + s.int Reg.CIVIL_OFFSET).toNat
/-- Civil time now. -/
def State.civil (s : State) : Nat := s.civilAt s.now

/-- A date of the Gregorian calendar. -/
structure Date where
  year : Nat
  month : Nat
  day : Nat
  deriving DecidableEq, Repr

/-- The date that many days after 2000-01-01 (R308). -/
def dateOf (d : Nat) : Date :=
  let z := d + 730425
  let era := z / 146097
  let doe := z % 146097
  let yoe := (doe - doe / 1460 + doe / 36524 - doe / 146096) / 365
  let doy := doe - (365 * yoe + yoe / 4 - yoe / 100)
  let mp := (5 * doy + 2) / 153
  let m := if mp < 10 then mp + 3 else mp - 9
  ⟨yoe + era * 400 + (if m <= 2 then 1 else 0), m, doy - (153 * mp + 2) / 5 + 1⟩

/-- The weekday, 0 Monday to 6 Sunday; 2000-01-01 is a Saturday (R308, R312). -/
def weekdayOf (d : Nat) : Nat := (5 + d) % 7

/-- Whether a year is a leap year. -/
def leapYear (y : Nat) : Bool := y % 4 == 0 && (y % 100 != 0 || y % 400 == 0)
/-- The days of a month. -/
def monthDays (y m : Nat) : Nat :=
  if m == 2 then (if leapYear y then 29 else 28) else if m == 4 || m == 6 || m == 9 || m == 11 then 30 else 31
/-- Whether a date exists (R312). -/
def dateExists (y m d : Nat) : Bool := 1 <= m && m <= 12 && 1 <= d && d <= monthDays y m

/-- The start of a season entry that is the latest at or before a date, as year × 65,536 + its code; nine years back reach
every date that exists (R312). -/
def seasonStart (e : Nat) (t : Date) : Option Nat :=
  if e == 0xFFFF then none
  else ((List.range 9).map (t.year - ·)).findSome? fun y =>
    if dateExists y (field e 15 8) (field e 7 0) && y * 65536 + e <= t.year * 65536 + t.month * 256 + t.day then some (y * 65536 + e) else none

/-- The season in force on a date, 1 to 4; without an entry season 1 (R312). -/
def State.seasonOn (s : State) (t : Date) : Nat :=
  ([1, 2, 3, 4].foldl (fun (acc : Nat × Nat) n =>
    match seasonStart (s.nat (Reg.SEASON_START n)) t with
    | some v => if acc.2 < v then (n, v) else acc
    | none => acc) (1, 0)).1

/-- Whether a SPECIAL entry is valid and matches a date (R312). -/
def specialMatches (e : Nat) (t : Date) : Bool :=
  bit e 7 && (field e 31 20 == 0 || field e 31 20 == t.year) && field e 19 16 == t.month && field e 15 11 == t.day

/-- The lowest special entry that matches a date, 1 to 64 (R312). -/
def State.specialOn (s : State) (t : Date) : Option Nat :=
  ((List.range 64).map (· + 1)).find? fun n => specialMatches (s.nat (Reg.SPECIAL n)) t

/-- The day type of a day (R312). -/
def State.dayTypeOn (s : State) (d : Nat) : Nat :=
  match s.specialOn (dateOf d) with
  | some n => field (s.nat (Reg.SPECIAL n)) 10 8
  | none => field (s.nat (Reg.WEEK_MAP (s.seasonOn (dateOf d)))) (4 * weekdayOf d + 2) (4 * weekdayOf d)

/-- The POINT elements of a day type, 1 to 16. -/
def State.pointsOf (s : State) (dt : Nat) : List Nat := (List.range 16).map fun i => s.nat (key 0x90 (0x10 + dt) (i + 1))

/-- The tariff of a list of points at a minute of the day: the latest valid point, the higher element at one minute; 0 before
the first (R313). -/
def tariffAt (points : List Nat) (minute : Nat) : Nat :=
  (points.foldl (fun (acc : Option Nat × Nat) p =>
    if bit p 15 && field p 10 0 <= minute && acc.1.all (· <= field p 10 0) then (some (field p 10 0), field p 13 11) else acc)
    (none, 0)).2

/-- The tariff in force at an effective civil time (R313). -/
def State.tariffOn (s : State) (ect : Nat) : Nat := tariffAt (s.pointsOf (s.dayTypeOn (ect / dayMs))) (ect % dayMs / 60000)

/-- The length of a demand interval in ms for DEMAND_LEN (R335). -/
def demandMs (v : Nat) : Nat :=
  match v with
  | 0 => 300000 | 1 => 600000 | 2 => 900000 | 3 => 1800000 | _ => 3600000

/-- The next civil moment after t at which a boundary is due: a demand grid point from midnight, a valid switching point of the
day type in force, or midnight (R314). -/
def State.nextMoment (s : State) (t : Nat) : Nat :=
  let day := t / dayMs
  let len := demandMs (s.nat Reg.DEMAND_LEN)
  let grid := day * dayMs + (t % dayMs / len + 1) * len
  let points := ((s.pointsOf (s.dayTypeOn day)).filter (bit · 15)).map fun p => day * dayMs + field p 10 0 * 60000
  (points.filter (t < ·)).foldl min (min grid ((day + 1) * dayMs))

/-- Whether a boundary is due: ECT has reached a moment after the last boundary (R314). -/
def State.boundaryDue (s : State) : Bool := s.nextMoment (msOf (s.nat Reg.LAST_BOUNDARY)) <= s.bill.ect

/-- The calendar readbacks for the present ECT (R313, R333). -/
def State.refreshTariff (s : State) : State :=
  let d := s.bill.ect / dayMs
  let dt := s.dayTypeOn d
  let tn := s.tariffOn s.bill.ect
  ((s.putN Reg.TARIFF_NOW tn).putN Reg.SEASON_NOW (s.seasonOn (dateOf d))).putN Reg.DAYTYPE_NOW dt

/-! ## Metrology channels and the passing of legal time (R285, R289, R309, R317) -/

/-- One metrology channel. -/
def State.meter (s : State) (c : Fin 4) : Meter := s.bill.meters[c]
/-- Set one metrology channel. -/
def State.setMeter (s : State) (c : Fin 4) (m : Meter) : State := { s with bill := { s.bill with meters := s.bill.meters.set c m } }
/-- The metrology engine of a channel (R282). -/
def engineOfMeter (c : Fin 4) : Fin 2 := if c.val < 2 then 0 else 1

/-- Whether billing is KEEP (R317): also through a reset with the mains present (R458), not in VAULT or an outage. -/
def State.keeping (s : State) : Bool := s.modes.beh[(5 : Fin 8)] == .keep && s.power.mains && !s.power.inVault && s.modes.vaultStep < 6
/-- Whether the metrology class is METER in a part that has metrology (R2, R289). -/
def State.metering (s : State) : Bool :=
  s.part.variant = .l && s.modes.beh[(4 : Fin 8)] == .meter && s.power.mains && s.modes.vaultStep < 6 &&
    s.nat Reg.BOOT_STATE != 2

/-- Whether a channel's inputs and its engine let it integrate (R285, R298). -/
def State.channelGood (s : State) (c : Fin 4) : Bool :=
  s.bill.clock[engineOfMeter c] && !(s.meter c).vStuck && !(s.meter c).iStuck && !s.bill.engFenced[engineOfMeter c]
    && !s.fab.regions.contains 3

/-- Whether a channel integrates (R285, R289, R298, R326, R85). -/
def State.integrating (s : State) (c : Fin 4) : Bool :=
  s.metering && s.channelGood c && !s.testing 3 && !s.modes.meterStopped && !s.power.pfwDone && s.powered

/-- MC_STATUS of a channel; bit [3] as given (R304). -/
def State.refreshMc (s : State) (c : Fin 4) (ovr : Bool) : State :=
  let m := s.meter c
  s.putN (Reg.MC_STATUS c) (b2n s.bill.clock[engineOfMeter c] + 2 * b2n (!m.vStuck) + 4 * b2n (!m.iStuck) + 8 * b2n ovr
    + 16 * b2n (s.integrating c))

/-- MC_STATUS of all channels, the overrange bits unchanged. -/
def State.refreshMcs (s : State) : State :=
  if s.part.variant = .n then s
  else [0, 1, 2, 3].foldl (fun (st : State) (c : Fin 4) => st.refreshMc c (bit (st.nat (Reg.MC_STATUS c)) 3)) s

/-- The passing of d ms for one channel: missing time where it should integrate and does not, and the Pennant of a clock gap
longer than 1 ms (R285, R289, R298). -/
def State.advanceMeter (s : State) (d : Nat) (c : Fin 4) : State :=
  let s := if s.keeping then s.addC (Reg.INT_COVERED c) d else s
  if !s.metering || s.integrating c then s
  else
    let s := (s.addC (Reg.MISSING_MS c) d).setMeter c { s.meter c with missing := true }
    match (s.meter c).gapAt with
    | some t =>
      if (s.meter c).gapTold || s.now <= t + 1 then s
      else
        let s := s.setMeter c { s.meter c with gapTold := true }
        s.raise ((0x88 + c.val) * 256) 0x027 2 2 0 (ltimeOf t)
    | none => s

/-- Legal time moves on to t ms (R306); ECT follows civil time upward (R309); the covered and the missing time count. -/
def State.advance (s : State) (t : Nat) : State :=
  if t <= s.now then s
  else
    let d := t - s.now
    let s := { s with now := t }
    let s := { s with bill := { s.bill with ect := max s.bill.ect s.civil } }
    if s.part.variant = .n then s
    else
      [0, 1, 2, 3].foldl (fun (st : State) (c : Fin 4) => st.advanceMeter d c) s

/-! ## The vault's event memory (R461, R462) -/

/-- Free entries that are acknowledged and recorded (R461). -/
def State.freeEvents (s : State) : State :=
  { s with power := { s.power with events := s.power.events.filter fun e => !(e.recorded && e.seq <= s.nat Reg.VEV_ACK) } }

/-- Whether events are recorded on this part at once: an -N part writes no records, and only loop events have one (R461, R462). -/
def State.noRecord (s : State) (kind : Nat) : Bool := s.part.variant = .n || !(kind == 1 || kind == 2)

/-- Store a vault event, or count it as lost (R461). -/
def State.vevAdd (s : State) (kind which at_ : Nat) : State :=
  if 256 <= s.power.events.length then s.count Reg.VEV_LOST_CNT
  else
    let seq := s.nat Reg.VEV_LAST + 1
    let e : VaultEvent := ⟨ltimeOf at_, seq, kind, which, s.powered, s.noRecord kind⟩
    { s.putN Reg.VEV_LAST seq with power := { s.power with events := s.power.events ++ [e] } }

/-- An entry's 16 bytes (R461). -/
def VaultEvent.bytes (e : VaultEvent) : List Byte :=
  leBytes 8 e.ltime ++ leBytes 4 e.seq ++ leBytes 1 e.kind ++ leBytes 1 e.which ++ leBytes 1 (b2n e.powered) ++ zeros 1

/-- Note that the record of an event has been written. -/
def State.vevRecorded (s : State) (seq : Nat) : State :=
  if seq == 0 then s
  else
    let s := { s with power := { s.power with events := s.power.events.map fun (e : VaultEvent) => if e.seq == seq then { e with recorded := true } else e } }
    s.freeEvents

/-! ## The calibration set (R294) -/

/-- The addresses of the calibration set, in the order of CAL_HASH. -/
def calKeys : List Nat :=
  ((List.range 4).flatMap fun c => (List.range 8).map fun o => key (0x88 + c) (o + 1) 0) ++ [Reg.PAIR_TOL_PPM]

/-- Whether an address belongs to the calibration set. -/
def isCal (k : Nat) : Bool := calKeys.contains k

/-- The encoding of a value by the type of its address. -/
def encAt (k : Nat) (v : Val) : List Byte := match rowAt k with | some r => encodeVal r.ty v | none => []

/-- The value the billing hold has for an address. -/
def State.held (s : State) (k : Nat) : Option Val := (s.dict.billHold.find? fun e => e.1 == k).map (·.2)

/-- CAL_HASH (R294). -/
def State.calHash (s : State) : List Byte := Config.sha256 (calKeys.flatMap fun k => encAt k (s.get k))
/-- Whether the billing hold carries calibration (R300). -/
def State.calPending (s : State) : Bool := s.dict.billHold.any fun e => isCal e.1
/-- CAL_HOLD_HASH (R294). -/
def State.calHoldHash (s : State) : List Byte :=
  if s.calPending then Config.sha256 (calKeys.flatMap fun k => encAt k ((s.held k).getD (s.get k))) else []

/-! ## The legal log (R299 to R302, R328 to R330) -/

/-- LOG_FREE for the present sequence numbers (R328). -/
def State.logFree (s : State) : Nat := 32768 - (s.nat Reg.LOG_LAST_SEQ - s.nat Reg.LOG_ACK_SEQ)

/-- LOG_STATE for a number of free slots (R329). -/
def logStateOf (free reserve : Nat) : Nat :=
  if reserve < free then 0 else if 65 <= free then 1 else if 5 <= free then 2 else if 1 <= free then 3 else 4

/-- LOG_FREE and LOG_STATE follow; each change of LOG_STATE raises one Pennant (R329). -/
def State.refreshLog (s : State) : State :=
  let s := s.putN Reg.LOG_FREE s.logFree
  let new := logStateOf s.logFree (s.nat Reg.LOG_RESERVE)
  if new == s.nat Reg.LOG_STATE then s
  else
    let before := s.get Reg.LOG_STATE
    (s.putN Reg.LOG_STATE new).raise1 0x9400 0x004 2 before

/-- Whether LOG_STATE admits a record of a TYPE (R329). -/
def State.admits (s : State) (typ : Nat) : Bool :=
  match s.nat Reg.LOG_STATE with
  | 0 | 1 => true
  | 2 => typ != 3 && typ != 7
  | 3 => typ == 2
  | _ => false

/-- Whether the outlets class is MIRROR: the unit writes no session, boundary or receipt record (R297); a unit that has just
taken the Burgee does (R400). -/
def State.mirrors (s : State) : Bool := s.modes.beh[(1 : Fin 8)] == .mirror && !s.holds

/-- PAIR_ROLE of a record: 0 single, 1 active, 2 standby (R299). -/
def State.pairRole (s : State) : Nat := if s.nat Reg.PAIR_EN == 0 then 0 else if s.mirrors then 2 else 1

/-- The FLAGS the Legal region sets itself (R300); a fault that still stands is one since the last record (R285, R303). -/
def State.recFlags (s : State) (r : LegalReq) : Nat :=
  let m : Bool × Bool := match r.chan with
    | some c => ((s.meter c).missing || (s.metering && !s.channelGood c), (s.meter c).ovr)
    | none => (false, false)
  let own := b2n s.sealOpen + 2 * b2n s.calPending + 4 * b2n m.1 + 8 * b2n m.2 + 16 * b2n s.mirrors
    + 256 * b2n (Nat.land (s.nat Reg.TAMP_STATE) 0xB != 0)
  Nat.lor own r.flags

/-- The energy totals of a record: the channel's, or the sums for a device-wide one (R299). -/
def State.recTotals (s : State) (chan : Option (Fin 4)) : Nat × Nat :=
  match chan with
  | some c => (s.nat (Reg.E_IMPORT c), s.nat (Reg.E_EXPORT c))
  | none => ([0, 1, 2, 3].foldl (fun a (c : Fin 4) => a + s.nat (Reg.E_IMPORT c)) 0,
             [0, 1, 2, 3].foldl (fun a (c : Fin 4) => a + s.nat (Reg.E_EXPORT c)) 0)

/-- SOURCE of a record (R299): RING_ADDR, or 0xFFF where it is unassigned. -/
def State.recSource (s : State) (chan : Option (Fin 4)) : Nat :=
  (if s.nat Reg.RING_ADDR == 0xFFFF then 0xFFF else s.nat Reg.RING_ADDR % 4096) +
    (match chan with | some c => c.val * 4096 | none => 32768)

/-- Bytes 0 to 63 of a record (R299). -/
def State.recBody (s : State) (r : LegalReq) (seq : Nat) : List Byte :=
  let e := s.recTotals r.chan
  leBytes 1 1 ++ leBytes 1 r.typ ++ leBytes 2 (s.recFlags r) ++ leBytes 4 seq ++ leBytes 8 (ltimeOf r.at_)
    ++ leBytes 8 (ltimeOf (s.civilAt r.at_)) ++ leBytes 2 (s.recSource r.chan) ++ leBytes 1 (s.nat Reg.TARIFF_NOW)
    ++ leBytes 1 s.pairRole ++ leBytes 4 r.session ++ leBytes 8 e.1 ++ leBytes 8 e.2 ++ padTo 16 r.detail

/-- Sign and write a record: it takes the next RECORD_SEQ, and the channel's MISSING and OVERRANGE begin anew (R285, R299, R302,
R328). -/
def State.writeRecord (s : State) (r : LegalReq) : State :=
  let seq := s.nat Reg.LOG_LAST_SEQ + 1
  let body := s.recBody r seq
  let rec_ : LegalRec := ⟨seq, body ++ padTo 64 (Config.ecdsaSign (s.keyBytes 1) (Config.sha256 body) s.fresh)⟩
  let log := s.bill.log ++ [rec_]
  let s := { s.drawn with bill := { s.bill with log := log.drop (log.length - 32768) } }
  let s := s.putN Reg.LOG_LAST_SEQ seq
  let s := match r.chan with | some c => s.setMeter c { s.meter c with missing := false, ovr := false } | none => s
  (s.vevRecorded r.vev).refreshLog

/-- Write the waiting records that are admitted, in order (R330). -/
def State.writeWaiting : List LegalReq → State → State
  | [], s => s
  | r :: t, s =>
    if s.admits r.typ then State.writeWaiting t (s.writeRecord r)
    else State.writeWaiting t { s with bill := { s.bill with waiting := s.bill.waiting ++ [r] } }

/-- Try the waiting records again (R330). -/
def State.drainWaiting (s : State) : State := State.writeWaiting s.bill.waiting { s with bill := { s.bill with waiting := [] } }

/-- Whether records can be written at all: an -L part, its signing key, and a Legal region that is not fenced (R298, R302). -/
def State.canRecord (s : State) : Bool := s.legalKey && !s.fab.regions.contains 3

/-- Request a record that needs no requester to wait: written where admitted; HANDOVER and RECEIPT without admission are counted;
the others wait (R330). -/
def State.record (s : State) (r : LegalReq) : State :=
  if !s.canRecord then s
  else if s.admits r.typ then s.writeRecord r
  else if r.typ == 8 || r.typ == 9 then s.count Reg.LOG_BLOCKED_CNT
  else { s with bill := { s.bill with waiting := s.bill.waiting ++ [r] } }

/-- The record READ through LOG_READ_SEQ; length 0 where it is not held (R328). -/
def State.logRecord (s : State) : List Byte :=
  match s.bill.log.find? fun r => r.seq == s.nat Reg.LOG_READ_SEQ with
  | some r => r.bytes
  | none => []

/-! ## The committed registers (R325) -/

/-- Whether an address belongs to the registers that are committed together (R304, R325, R332, R336); the calendar's readbacks
go with them (log entry 30). -/
def isRegister (k : Nat) : Bool :=
  let g := keyG k
  let o := keyO k
  g == 0x91 || (g == 0x92 && o != 0x01) || (0x88 <= g && g <= 0x8B && 0x23 <= o && o <= 0x26) ||
  (g == 0x90 && 0x30 <= o) || (g == 0x93 && o == 0x22) ||
  k == Reg.CIVIL_OFFSET || k == Reg.TIME_TAMPER_CNT || k == Reg.LAST_TIME_SET

/-- An account slot as the billing journal carries it (R394). -/
def Acct.image (a : Acct) : AcctImage := ⟨a.id, a.credit, a.ecAmount, a.ecOut, a.granted, a.res, a.lastRef, a.newId⟩

/-- The billing journal's entry of the registers as they stand (R394). -/
def State.journalItem (s : State) : MirrorItem :=
  .journal (s.objs.filter fun c => isRegister c.1) (s.bill.accts.map fun x => (x.1, Acct.image x.2))

/-- The committed copy takes the registers as they stand (R325). -/
def State.copyRegs (s : State) : State :=
  { s with bill := { s.bill with
      copy := ⟨s.objs.filter fun c => isRegister c.1, s.bill.meters, s.bill.accts, s.bill.ect, s.now, s.bill.intLen⟩ } }

/-- Commit the registers: one whole copy, with its sequence number (R325); the holder of a pair mirrors it (R394). An -N part has the
time objects and legal time alone to commit (R307, R332). -/
def State.commitRegs (s : State) : State :=
  if s.part.variant = .n then s.copyRegs
  else
    let s := ((s.count Reg.REG_COMMIT_SEQ).putN Reg.REG_COMMIT_AT s.ltime).copyRegs
    s.mirror s.journalItem

/-! ## Billing boundaries (R314 to R319, R330, R331) -/

/-- Whether a channel gets boundary records: its outlet is in ROLE_ACTIVE and billing is KEEP (R319). -/
def State.billed (s : State) (c : Fin 4) : Bool := bit (s.nat Reg.ROLE_ACTIVE) (4 + c.val) && s.keeping

/-- Close the demand interval of one channel: its demand, the maximum and the readbacks (R317). -/
def State.closeInterval (s : State) (c : Fin 4) : State :=
  let covered := s.nat (Reg.INT_COVERED c)
  let len := s.bill.intLen
  let d := s.nat (Reg.INT_IMPORT c) * 3600 / max len covered
  let t := s.nat Reg.TARIFF_NOW + 1
  let part := covered < len
  let up := s.nat (Reg.DMD_MAX c t) < d && (!part || len / 2 <= covered)
  let s := if up then (s.putN (Reg.DMD_MAX c t) d).putN (Reg.DMD_MAX_AT c t) (s.nat (Reg.INT_START c)) else s
  (s.putN (Reg.DMD_LAST c) d).putN (Reg.DMD_LAST_FLAGS c) (b2n part + 2 * b2n up)

/-- Open the next demand interval of one channel (R315, step 6). -/
def State.openInterval (s : State) (c : Fin 4) : State :=
  ((s.putN (Reg.INT_START c) s.ltime).putN (Reg.INT_IMPORT c) 0).putN (Reg.INT_COVERED c) 0

/-- Whether an entry applies at step 2 of R315. -/
def atStep2 (k : Nat) : Bool := keyG k == 0x90 || keyG k == 0x92 || keyG k == 0x93

/-- Whether an entry goes to the billing hold at step 4 of R51 (R21, R53, R294, R333 to R336). -/
def isHeld (k : Nat) : Bool := persistentKey k && (atStep2 k || isCal k)

/-- Whether every entry of a list is one of those. -/
def heldAll (l : List (Nat × Val)) : Bool := l.all fun e => isHeld e.1

/-- Apply the held entries a test selects: in effect, in the store, and out of the hold (R53, R55, R315). -/
def State.applyHeld (s : State) (sel : Nat → Bool) : State :=
  let now := s.dict.billHold.filter fun e => sel e.1
  let rest := s.dict.billHold.filter fun e => !sel e.1
  let s := now.foldl (fun (st : State) e => st.put e.1 e.2) s
  let s := { s with dict := { s.dict with billHold := rest, store := now.foldl (fun l (e : Nat × Val) => objPut l e.1 e.2) s.dict.store } }
  s.putN Reg.BILL_HOLD_COUNT rest.length

/-- DETAIL of a BOUNDARY record (R301). -/
def boundaryDetail (kind new old demand start : Nat) : List Byte :=
  leBytes 1 kind ++ leBytes 1 new ++ leBytes 1 old ++ zeros 1 ++ leBytes 4 demand ++ leBytes 8 start

/-- Note a record that found no admission at a boundary; closed intervals are counted (R330). -/
def noteUnrecorded (u : Option (Nat × Nat × Nat × Nat)) (kind start demand : Nat) : Nat × Nat × Nat × Nat :=
  match u with
  | some (k, st, d, n) => (Nat.lor k kind, min st start, max d demand, n + bitN kind 0)
  | none => (kind, start, demand, bitN kind 0)

/-- The BOUNDARY record of one channel, or its note where the log does not admit it; a record covers the intervals left
unrecorded (R319, R330). -/
def State.boundaryRecord (s : State) (c : Fin 4) (kind new old demand start : Nat) : State :=
  let m := s.meter c
  if !s.canRecord || s.mirrors then s
  else if !s.admits 3 then s.setMeter c { m with unrecorded := some (noteUnrecorded m.unrecorded kind start demand) }
  else
    let u := match m.unrecorded with | some x => x | none => (0, start, 0, 0)
    let s := (s.setMeter c { m with unrecorded := none }).addC Reg.LOG_COALESCED_CNT u.2.2.2
    let flags := if s.dict.billHold.any (fun e => isCal e.1 && keyG e.1 == 0x88 + c.val) && !bit kind 2 then 512 else 0
    s.writeRecord ⟨3, some c, flags, s.now, s.nat (Reg.SESSION_ID c),
      boundaryDetail (Nat.lor kind u.1) new old (max demand u.2.2.1) (min start u.2.1), 0⟩

/-- The BOUNDARY records of the channels of R319, for one boundary. -/
def State.boundaryRecords (s : State) (kindOf : Fin 4 → Nat) (new old : Nat) (start : Fin 4 → Nat) (closed : Bool) : State :=
  [0, 1, 2, 3].foldl (fun (st : State) (c : Fin 4) =>
    if st.billed c && kindOf c != 0 then
      st.boundaryRecord c (kindOf c) new old (if closed then st.nat (Reg.DMD_LAST c) else 0) (start c)
    else st) s

/-- DMD_RESET after the boundary's records (R318). -/
def State.resetDemand (s : State) : State :=
  if !s.bill.dmdReset then s
  else
    let s := { s with bill := { s.bill with dmdReset := false } }
    let s := [0, 1, 2, 3].foldl (fun (st : State) (c : Fin 4) =>
      (List.range 8).foldl (fun (st : State) t => (st.putN (Reg.DMD_MAX c (t + 1)) 0).putN (Reg.DMD_MAX_AT c (t + 1)) 0) st) s
    s.count Reg.DMD_RESET_CNT

/-- A billing boundary in the order of R315: close, apply held entries where asked, switch, record, calibrate where asked, open.
extra are further bits of KIND. An interval that began at this very moment is not closed again (R315). -/
def State.takeBoundary (s : State) (applies : Bool) (extra : Nat) : State :=
  let closes := s.nat (Reg.INT_START 0) != s.ltime && s.keeping
  let all : List (Fin 4) := [0, 1, 2, 3]
  let old := s.nat Reg.TARIFF_NOW
  let start (c : Fin 4) : Nat := s.nat (Reg.INT_START c)
  let s1 := if closes then all.foldl (fun (st : State) c => st.closeInterval c) s else s
  let s2 := if applies then s1.applyHeld atStep2 else s1
  let s3 := s2.refreshTariff
  let new := s3.nat Reg.TARIFF_NOW
  let kindOf (c : Fin 4) : Nat :=
    Nat.lor (b2n closes + 2 * b2n (new != old) + 8 * b2n (closes && bit (s3.nat (Reg.DMD_LAST_FLAGS c)) 0)) extra
  let s4 := ((s3.boundaryRecords kindOf new old start closes).resetDemand).commitRegs
  let s5 := if applies then s4.applyHeld isCal else s4
  let s6 := if closes then all.foldl (fun (st : State) c => st.openInterval c) s5 else s5
  let s6 := { s6 with bill := { s6.bill with intLen := demandMs (s6.nat Reg.DEMAND_LEN) } }
  s6.putN Reg.LAST_BOUNDARY (ltimeOf s6.bill.ect)

/-- Steps 1 and 2 of R326, also of a VAULT entry (R85): a due boundary without held entries, its record bearing KIND [2];
otherwise one record per channel with KIND [2] alone. -/
def State.powerFailRecords (s : State) : State :=
  if s.part.variant = .n then s
  else if s.boundaryDue && s.keeping then s.takeBoundary false 4
  else
    let t := s.nat Reg.TARIFF_NOW
    s.boundaryRecords (fun _ => 4) t t (fun c => s.nat (Reg.INT_START c)) false

/-- BILLING_BOUNDARY: legal time has come to t and ECT has reached a grid point, a switching point or midnight (R314, R315). On a
standby the registers follow the partner's journal, and only the calendar and the held entries move (R331). -/
def State.billingBoundary (s : State) (t : Nat) : State :=
  let s := s.advance t
  if s.part.variant = .l && s.boundaryDue && (s.keeping || s.modes.beh[(5 : Fin 8)] == .mirror) then s.takeBoundary true 0 else s

/-- The meaning of BILLING_BOUNDARY. -/
def execBillingBoundary (t : Nat) (s : State) : Host.Outcome State Fault Refusal := .next (s.live (·.billingBoundary t))

/-- REGISTER_COMMIT: the periodic commit, every 10 s (R325); one in progress at PFW is abandoned (R326). -/
def execRegisterCommit (s : State) : Host.Outcome State Fault Refusal :=
  .next (s.live fun s => if s.power.pfw then s else s.commitRegs)

/-- The effect of a write of DMD_RESET: 0x01 resets at the next boundary, 0x00 has no effect (R318, R335). -/
def State.dmdResetEffect (s : State) (v : Nat) : State :=
  if v == 1 then { s with bill := { s.bill with dmdReset := true } } else s

/-- The meaning of DMD_RESET. -/
def execDmdReset (h : Hdr) (v : Nat) (s : State) : Host.Outcome State Fault Refusal :=
  .next (s.hostWrite h Reg.DMD_RESET v (·.dmdResetEffect v))

/-- The effect of a write of LOG_ACK_SEQ: the slots are free, and what waited may be written (R328 to R330). -/
def State.logAckEffect (s : State) (v : Nat) : State := ((s.putN Reg.LOG_ACK_SEQ v).refreshLog).drainWaiting

/-- The meaning of LOG_ACK_SEQ_WRITE. -/
def execLogAckSeqWrite (h : Hdr) (v : Nat) (s : State) : Host.Outcome State Fault Refusal :=
  .next (s.hostWrite h Reg.LOG_ACK_SEQ v (·.logAckEffect v))

/-- The effect of a write of VEV_ACK: recorded entries up to it are freed (R461). -/
def State.vevAckEffect (s : State) (v : Nat) : State := (s.putN Reg.VEV_ACK v).freeEvents

/-- The meaning of VEV_ACK_WRITE. -/
def execVevAckWrite (h : Hdr) (v : Nat) (s : State) : Host.Outcome State Fault Refusal :=
  .next (s.hostWrite h Reg.VEV_ACK v (·.vevAckEffect v))

/-! ## The loops and the seal (R54, R292, R293, R460, R462) -/

/-- Whether an address is RWL (R19). -/
def isRwl (k : Nat) : Bool := match rowAt k with | some r => r.acc == .rwl | none => false

/-- The seal loop closed: staged and not yet applied RWL entries go, each counted and each with a Pennant (R54). -/
def State.discardRwl (s : State) : State :=
  let gone := (s.dict.staging ++ s.dict.commitSet).filter fun e => isRwl e.1
  let keep (l : List (Nat × Val)) : List (Nat × Val) := l.filter fun e => !isRwl e.1
  let s := { s.setStaging (keep s.dict.staging) with dict := { (s.setStaging (keep s.dict.staging)).dict with
    commitSet := keep s.dict.commitSet, journal := keep s.dict.journal } }
  gone.foldl (fun (st : State) e => (st.count Reg.STAGE_DISCARDED).raise 0x0300 0x009 3 3 0 e.1) s

/-- DETAIL of SEAL_OPEN and SEAL_CLOSE (R301). -/
def State.sealDetail (s : State) (opens : Bool) (at_ : Nat) : List Byte :=
  padTo 8 (if !opens && s.calPending then s.calHoldHash else s.calHash) ++ leBytes 4 (s.nat Reg.SEAL_OPEN_CNT) ++ leBytes 4 (ltimeOf at_ / 1024)

/-- The seal's new state in the objects: SEAL_STATE, SEAL_LAST_CHANGE and the count of openings (R293, R305). -/
def State.sealNote (s : State) (opens : Bool) (at_ : Nat) : State :=
  let s := (s.putN Reg.SEAL_STATE (b2n opens)).putN Reg.SEAL_LAST_CHANGE (ltimeOf at_)
  if opens then s.count Reg.SEAL_OPEN_CNT else s

/-- The record of a loop change: SEAL_OPEN, SEAL_CLOSE or TAMPER (R301, R462). -/
def State.loopRecord (s : State) (i : Fin 4) (opens : Bool) (at_ flags vev : Nat) : State :=
  if i.val == 2 then s.record ⟨if opens then 4 else 5, none, flags, at_, 0, s.sealDetail opens at_, vev⟩
  else s.record ⟨6, none, flags, at_, 0, leBytes 1 i.val ++ leBytes 1 (if opens then 1 else 2) ++ zeros 2
    ++ leBytes 4 (s.nat (Reg.TAMP_OPEN_CNT (i.val + 1))) ++ leBytes 8 (ltimeOf at_), vev⟩

/-- A loop. -/
def State.loop (s : State) (i : Fin 4) : Loop := s.power.loops[i]
/-- Set a loop. -/
def State.setLoop (s : State) (i : Fin 4) (l : Loop) : State := { s with power := { s.power with loops := s.power.loops.set i l } }

/-- The sequence number of the newest event, or 0 where a loop's event found no room (R461). -/
def State.vevOf (s : State) (before : Nat) : Nat := if s.nat Reg.VEV_LAST == before then 0 else s.nat Reg.VEV_LAST

/-- A new state of a loop: the vault's event; and while the control die runs its record, the seal's effects and its Pennant
(R293, R460 to R462). A seal that closes discards the RWL entries of an -N part too (R54); all else of it is an -L part's. -/
def State.loopTaken (s : State) (i : Fin 4) (opens : Bool) (at_ : Nat) : State :=
  let last := s.nat Reg.VEV_LAST
  let s := s.putBit Reg.TAMP_STATE i.val opens
  let s := if opens then s.count (Reg.TAMP_OPEN_CNT (i.val + 1)) else s
  let s := s.vevAdd (if opens then 1 else 2) i.val at_
  let vev := s.vevOf last
  let s := if s.powered then s.setLoop i { s.loop i with kept := opens } else s
  let s := if s.powered && i.val == 2 && !opens then s.discardRwl else s
  if !s.powered || s.part.variant = .n then s
  else
    if i.val == 2 then
      let s := s.sealNote opens at_
      let s := s.loopRecord i opens at_ 0 vev
      if opens then s.raise 0x8C00 0x001 2 2 0 (ltimeOf at_) else s
    else s.loopRecord i opens at_ 0 vev

/-- An ambiguous reading: the last state stays, and a run is counted and logged once (R292, R460). -/
def State.loopAmbiguous (s : State) (i : Fin 4) : State :=
  let l := s.loop i
  let s := s.setLoop i { l with run := 0, ambig := true }
  if l.ambig then s
  else ((s.putBit Reg.TAMP_STATE (4 + i.val) true).count (Reg.TAMP_AMBIG_CNT (i.val + 1))).vevAdd 3 i.val s.now

/-- An intact or open reading: three consecutive equal samples give a new state, stamped with the first of them (R292, R460). -/
def State.loopReading (s : State) (i : Fin 4) (opens : Bool) : State :=
  let l := s.loop i
  let run := if l.last == opens && l.run != 0 then l.run + 1 else 1
  let since := if run == 1 then s.now else l.since
  let s := (s.setLoop i { l with last := opens, run := min run 3, since := since, ambig := false }).putBit Reg.TAMP_STATE (4 + i.val) false
  if 3 <= run && bit (s.nat Reg.TAMP_STATE) i.val != opens then s.loopTaken i opens since else s

/-- One sample of an enabled loop: below 1 kΩ intact, above 10 kΩ open, between the two ambiguous (R292, R460). The vault samples
while it is supplied. -/
def State.loopSense (s : State) (i : Fin 4) (ohms : Nat) : State :=
  if !bit (s.nat Reg.TAMP_EN) i.val || (s.power.vaultLost && !s.power.mains) then s
  else if ohms < 1000 then s.loopReading i false
  else if 10000 < ohms then s.loopReading i true
  else s.loopAmbiguous i

/-- SEAL_LOOP_SAMPLE: the 1 ms sample of the seal loop (R292). -/
def execSealLoopSample (ohms : Nat) (s : State) : Host.Outcome State Fault Refusal := .next (s.loopSense 2 ohms)

/-- TAMPER_LOOP_SAMPLE: a sample of one loop, 1 ms or VAULT_SAMPLE_HZ apart (R460). -/
def execTamperLoopSample (loop : Fin 4) (ohms : Nat) (s : State) : Host.Outcome State Fault Refusal := .next (s.loopSense loop ohms)

/-! ## Setting civil time (R310, R311) -/

/-- ALLOW_NOW: the allowance at the ordering point (R311). -/
def State.allowNow (s : State) : Nat :=
  let a := s.nat Reg.TIME_ALLOW
  let e := s.now - msOf (s.nat Reg.LAST_TIME_SET)
  min (7 * a) (max a (a * e / 86400000))

/-- A tamper-class set: counted, flagged, in the vault's memory, and one Pennant at ALARM (R311). -/
def State.timeTamper (s : State) : State :=
  let before := s.get Reg.TIME_TAMPER_CNT
  let s := (s.count Reg.TIME_TAMPER_CNT).putBit Reg.TIME_FLAGS 1 true
  (s.vevAdd 9 0 s.now).raise1 0x0400 0x008 1 before

/-- ECT moves where the new civil time is above it (R309, R310). -/
def State.raiseEct (s : State) : State := { s with bill := { s.bill with ect := max s.bill.ect s.civil } }

/-- The set itself: on an -L part the TIME_SET record first, then ECT, then the boundary crossed (R310, R314). The RECORD_SEQ is 0
where no record is written (log entry 85). -/
def State.timeSetSteps (s : State) (old new : Nat) : State × Nat :=
  if s.part.variant = .n then (s.raiseEct, 0)
  else
    let seq := if s.canRecord then s.nat Reg.LOG_LAST_SEQ + 1 else 0
    let s := (s.record ⟨7, none, 0, s.now, 0, leBytes 8 (ltimeOf old) ++ leBytes 8 (ltimeOf new), 0⟩).raiseEct
    (if s.boundaryDue && s.keeping then s.takeBoundary true 0 else s, seq)

/-- CIVIL_TIME_SET at the ordering point; the registers are committed (R310, R311, R325). -/
def State.civilTimeSet (s : State) : State :=
  let c := CmdId.civilTimeSet
  let shift := s.int Reg.CIVIL_SHIFT
  let old := s.civil
  let newOff := s.int Reg.CIVIL_OFFSET + shift
  if s.isStandby then s.refusedWith c 3
  else if s.part.variant = .l && 2 <= s.nat Reg.LOG_STATE then s.refusedWith c 0x100
  else if (s.now : Int) + newOff < 0 then s.refusedWith c 0x101
  else
    let tamper := !s.sealOpen && (s.allowNow : Int) < shift.natAbs
    let s := s.putI Reg.CIVIL_OFFSET newOff
    let r := s.timeSetSteps old s.civil
    let s := (r.1.putN Reg.LAST_TIME_SET r.1.ltime).putN Reg.TIME_FLAGS 0
    let s := (if tamper then s.timeTamper else s).commitRegs
    s.completed c 0 (r.2 % 4294967296 + 4294967296 * b2n tamper)

/-- The meaning of CIVIL_TIME_SET. -/
def execCivilTimeSet (h : Hdr) (arg : Nat) (s : State) : Host.Outcome State Fault Refusal :=
  .next (s.hostCmd h .civilTimeSet arg (·.civilTimeSet))

end Sys2Proof.Machine
end

