-- ==== Sys2Proof/Machine/RingKey.lean ====
section
/-! DEFINITION. RingKey: the ring authentication key, its switch and its age (R349, R350), and how slots and frames are formed and wait
for a ring (R189, R193, R195). -/

namespace Sys2Proof.Machine

/-- Whether a 32-bit epoch number lies 1 to 2^31 − 1 epochs ahead of another, modulo 2^32 (R168, R349). -/
def epochAhead (a now : Nat) : Bool :=
  let d := (a + 4294967296 - now % 4294967296) % 4294967296
  1 <= d && d < 2147483648

/-- EPOCH_NUMBER. -/
def State.epochNo (s : State) : Nat := s.nat Reg.EPOCH_NUMBER

/-- Whether a slot holds a key usable for ring frames; 0xFF names none: valid, for RING_AUTH, to sign and verify (R341, R348). -/
def State.ringUsable (s : State) (slot : Nat) : Bool :=
  let w := (s.slotOf slot).word
  slot < 0xFF && s.slotValid slot && bit w 11 && bit w 3 && bit w 4

/-- The slot for a frame whose header epoch is e (R349): before the switch epoch the current key, from it onward the next; for
three boundaries after a switch, the key before it for what lies before it. -/
def State.ringSlotFor (s : State) (e : Nat) : Nat :=
  let now := if s.nat Reg.RING_KEY_NEXT != 0xFF && !epochAhead (s.nat Reg.RING_KEY_SWITCH) e then s.nat Reg.RING_KEY_NEXT
    else s.nat Reg.RING_KEY_SLOT
  match s.trust.oldRing with
  | some (slot, at_, _) => if epochAhead at_ e then slot else now
  | none => now

/-- RING_KEY_AGE (R350). -/
def State.ringAge (s : State) : Nat := s.epochNo - s.trust.ringStart

/-- RING_KEY_AGE and RING_KEY_STATE follow (R349, R350). -/
def State.refreshRingKey (s : State) : State :=
  let st := if s.nat Reg.RING_KEY_SLOT != 0xFF && 4294901760 <= s.ringAge then 3
    else if s.nat Reg.RING_KEY_NEXT != 0xFF then 2 else if s.nat Reg.RING_KEY_SLOT == 0xFF then 0 else 1
  (s.putN Reg.RING_KEY_AGE s.ringAge).putN Reg.RING_KEY_STATE st

/-- Whether the node may send a tagged frame but for the guard of R350: a usable key that is not exhausted (R350, R360). -/
def State.ringCanTag (s : State) : Bool := s.ringUsable (s.ringSlotFor s.epochNo) && s.ringAge < 4294901760

/-- Whether the guard after a boot withholds tagged frames (R350). -/
def State.ringWithheld (s : State) : Bool := s.trust.ringGuard != 0 && s.epochNo <= s.trust.ringGuard

/-- Store a value in the configuration store as well (R349). -/
def State.putStored (s : State) (k n : Nat) : State :=
  s.putBoth k (.num n)

/-- The boundaries for which the key before a switch is still kept, B_(E+3) included (R349); none after a switch epoch of zero or one
that lies further back. -/
def State.oldRingLeft (s : State) : Option Nat :=
  let left := (s.nat Reg.RING_KEY_SWITCH + 3 + 4294967296 - s.epochNo % 4294967296) % 4294967296
  if s.nat Reg.RING_KEY_SWITCH != 0 && 1 <= left && left <= 3 then some left else none

/-- The next key becomes current (R349). -/
def State.ringKeySwitch (s : State) : State :=
  let old := s.oldRingLeft.map fun n => (s.nat Reg.RING_KEY_SLOT, s.nat Reg.RING_KEY_SWITCH, n)
  let s := (s.putStored Reg.RING_KEY_SLOT (s.nat Reg.RING_KEY_NEXT)).putStored Reg.RING_KEY_NEXT 0xFF
  ({ s with trust := { s.trust with ringStart := s.epochNo, ageTold := false,
                                    oldRing := old } }).refreshRingKey

/-- A commit of the ring key's objects (R349): a switch epoch that is zero or has passed takes hold at once; a new current key
starts its age. -/
def State.ringKeyCommitted (s : State) (oldSlot : Nat) : State :=
  let s := if oldSlot == s.nat Reg.RING_KEY_SLOT then s
    else { s with trust := { s.trust with ringStart := s.epochNo, ageTold := false, oldRing := none } }
  if s.nat Reg.RING_KEY_NEXT != 0xFF && (s.nat Reg.RING_KEY_SWITCH == 0 || !epochAhead (s.nat Reg.RING_KEY_SWITCH) s.epochNo)
  then s.ringKeySwitch else s.refreshRingKey

/-- Persist RING_KEY_HIGH (R350). -/
def State.ringKeyPersist (s : State) : State := s.putN Reg.RING_KEY_HIGH (max (s.nat Reg.RING_KEY_HIGH) s.trust.ringSent)

/-- What an epoch boundary does for the ring key (R349, R350). -/
def State.ringKeyBoundary (s : State) : State :=
  let s := match s.trust.oldRing with
    | some (slot, e, left) =>
      { s with trust := { s.trust with oldRing := if left <= 1 then none else some (slot, e, left - 1) } }
    | none => s
  let s := if s.nat Reg.RING_KEY_NEXT != 0xFF && !epochAhead (s.nat Reg.RING_KEY_SWITCH) s.epochNo then s.ringKeySwitch else s
  let before := s.get Reg.RING_KEY_AGE
  let s := s.refreshRingKey
  let s := if s.epochNo % 65536 == 0 then s.ringKeyPersist else s
  if 2147483648 <= s.ringAge && !s.trust.ageTold && s.nat Reg.RING_KEY_SLOT != 0xFF then
    ({ s with trust := { s.trust with ageTold := true } }).raiseCat 0xA000 0x24 24 before
  else s

/-- SRC of a frame of a CONTENT, 0xFFFF where the unit sends none (R195, R393): RING_ADDR; in a pair the dictionary, Pennant and
trace frames bear UNIT_ADDR where it is set, and a unit that does not hold the Burgee sends no other frame. -/
def State.frameSrc (s : State) (content : Nat) : Nat :=
  let own := 2 <= content && content <= 4
  if s.nat Reg.RING_ADDR == 0xFFFF then 0xFFFF
  else if s.nat Reg.PAIR_EN == 1 && own && s.nat Reg.UNIT_ADDR != 0xFFFF then s.nat Reg.UNIT_ADDR
  else if s.waitsBurgee then 0xFFFF else s.nat Reg.RING_ADDR

/-! ## Slots (R189) -/

/-- The header of a slot (R189). -/
def slotHeader (typ src hops : Nat) (first last : Bool) : Nat :=
  typ * 268435456 + src % 4096 * 65536 + hops % 4096 * 16 + 8 * b2n first + 4 * b2n last

/-- CRC-24 of a slot: characters 1 to 124 with HOPS_LEFT taken as zero (R189). -/
def crc24 (chars : List Byte) : Nat :=
  let h := leAt chars 0 4
  crcMsb 24 0x5D6DCB 0xFEDCBA (leBytes 4 (h - field h 15 4 * 16) ++ (chars.drop 4).take 120)

/-- The 127 characters of a FULL slot with a header (R189). -/
def slotChars (header : Nat) (payload : List Byte) : List Byte :=
  let c := leBytes 4 header ++ padTo 120 payload
  c ++ leBytes 3 (crc24 c)

/-! ## Where own traffic leaves (R193, R215, R218) -/

/-- Whether a ring is up at this node: its input is locked and it is not wrapped here (R203, R205). -/
def State.ringUp (s : State) (r : Nat) : Bool := bit (s.nat Reg.RING_STATUS) r && !bit (s.nat Reg.RING_STATUS) (2 + r)
/-- Whether some ring is up. -/
def State.anyRing (s : State) : Bool := s.ringUp 0 || s.ringUp 1
/-- Whether a ring may be used for insertion (R218). -/
def State.ringOn (s : State) (r : Nat) : Bool := bit (s.nat Reg.RING_ENABLE) r
/-- Whether this node has wrapped an input of its own (R205). -/
def State.wrappedAt (s : State) (r : Nat) : Bool := bit (s.nat Reg.RING_STATUS) (2 + r)
/-- Whether the ring is wrapped: here, or by the flag of the present epoch's mark (R193, R206). -/
def State.ringWrapped (s : State) : Bool := bit (s.nat Reg.RING_STATUS) 4 || s.wrappedAt 0 || s.wrappedAt 1

/-- The one output that carries the loop of a wrapped site, A where both do (R193): at a node whose own input is faulty it is the output
the other ring is turned onto. -/
def State.loopOut (s : State) : Option Nat :=
  if (!s.wrappedAt 1 || s.wrappedAt 0) && s.ringOn 0 then some 0
  else if (!s.wrappedAt 0 || s.wrappedAt 1) && s.ringOn 1 then some 1 else none

/-- The output of a unicast frame (R195, R215): ring A, or B where A is not up; in a wrapped site the output that carries the loop
(log entry 36). -/
def State.unicastOut (s : State) : Option Nat :=
  if !s.anyRing then none
  else if s.ringWrapped then s.loopOut
  else if s.ringUp 0 && s.ringOn 0 then some 0 else if s.ringUp 1 && s.ringOn 1 then some 1 else none

/-- Where a broadcast slot of this node leaves, with its HOPS_LEFT (R193): on both rings; while the site is wrapped once, on the output
that carries the loop; or once on the only ring that is up. A disabled ring is not used for insertion (R218). -/
def State.broadcastPlan (s : State) : List (Nat × Nat) :=
  let m := s.nat Reg.RING_NODES
  let ha := m / 2
  let hb := m - 1 - ha
  if !s.anyRing then []
  else if !bit (s.nat Reg.RING_STATUS) 4 && s.ringUp 0 && s.ringUp 1 && s.ringOn 0 && s.ringOn 1 then
    [(0, ha)] ++ (if 0 < hb then [(1, hb)] else [])
  else match s.unicastOut with | some r => [(r, 0)] | none => []

/-! ## Frames (R195) -/

/-- The TYPE of the slots of a frame's CONTENT (R189, R195). -/
def contentType (content : Nat) : Nat := if content == 3 then 2 else if content == 4 then 3 else if content < 0x10 then 4 else 5

/-- The bytes of a frame: header, data and tag, in whole slots of 120 (R195). -/
def State.frameBytesOf (s : State) (src id dest content : Nat) (data : List Byte) : List Byte :=
  let n := (28 + data.length + 119) / 120
  let e := s.epochNo % 4294967296
  let text := padTo (120 * n - 16) (leBytes 2 dest ++ leBytes 2 id ++ leBytes 2 data.length ++ leBytes 1 content ++ leBytes 1 n
    ++ leBytes 4 e ++ data)
  let nonce := leBytes 2 src ++ leBytes 2 id ++ leBytes 4 e ++ zeros 4
  text ++ padTo 16 (Config.macTag (s.keyBytes (s.ringSlotFor s.epochNo)) nonce text 16)

/-- The slots of a frame on one ring, with their TYPE (R189, R195). -/
def frameSlots (typ src hops : Nat) (bytes : List Byte) : List (Nat × List Byte) :=
  let n := bytes.length / 120
  (List.range n).map fun i => (typ, slotChars (slotHeader typ src hops (i == 0) (i + 1 == n)) ((bytes.drop (120 * i)).take 120))

/-- Slots of frames wait for an output (R199). -/
def State.queueShared (s : State) (r : Nat) (l : List (Nat × List Byte)) : State :=
  let f : Fin 2 := Fin.ofNat 2 r
  { s with ring := { s.ring with shared := s.ring.shared.set f (s.ring.shared[f] ++ l) } }

/-- Send a tagged frame (R193, R195, R215, R350): nothing without a usable key, at exhaustion, without an address or a ring to leave on;
counted where the guard after a boot withholds it. Its slots wait for EMPTY ones: a broadcast's on every ring of the plan, any other's on
one. -/
def State.sendFrame (s : State) (content dest : Nat) (data : List Byte) : State :=
  let plan := if dest == 0xFFFF then s.broadcastPlan else match s.unicastOut with | some r => [(r, 0)] | none => []
  if s.frameSrc content == 0xFFFF || !s.ringCanTag || plan.isEmpty then s
  else if s.ringWithheld then s.count Reg.RING_GUARD_CNT
  else
    let id := s.ring.frameId
    let bytes := s.frameBytesOf (s.frameSrc content) id dest content data
    let src := s.frameSrc content
    let s := { s with trust := { s.trust with ringSent := max s.trust.ringSent s.epochNo },
                      ring := { s.ring with frameId := (id + 1) % 65536 } }
    plan.foldl (fun (st : State) p => st.queueShared p.1 (frameSlots (contentType content) src p.2 bytes)) s

/-- Whether a tagged frame of a CONTENT can leave now. -/
def State.canSendFrame (s : State) (content : Nat) : Bool :=
  s.frameSrc content != 0xFFFF && s.ringCanTag && s.unicastOut.isSome && !s.ringWithheld

end Sys2Proof.Machine
end

