-- ==== Sys2Proof/Machine/Site.lean ====
section
/-! DEFINITION. Site: the node's claims, the wave, the freeze, the vote and the boundary (chapter 07). -/

namespace Sys2Proof.Machine

/-! ## Where the node stands (R29, R164, R210, R500) -/

/-- NODE of this device's blocks and claim keys (R157). -/
def State.ownNode (s : State) : Nat := if s.nat Reg.RING_ADDR == 0xFFFF then 0xFFF else s.nat Reg.RING_ADDR
/-- Whether the node shares: SHARE, or a member that still leaves (R213). -/
def State.shares (s : State) : Bool := s.role 12 || s.nat Reg.ROSTER_STATE == 4
/-- Whether boundaries come from the marks (R202, R500): the node shares, a ring is up, and a mark has passed since. -/
def State.byMarks (s : State) : Bool := s.shares && s.anyRing && s.ring.launcher.isSome
/-- Whether the node is in the roster it knows (R210). -/
def State.isMember (s : State) : Bool := s.nat Reg.RING_ADDR != 0xFFFF && s.ring.roster.any fun m => m.addr == s.nat Reg.RING_ADDR
/-- Whether the ring class keeps the node's slot without claims, or the node away (R72). -/
def State.listens (s : State) : Bool := s.beh 3 == .listen || s.beh 3 == .bypassed

/-- ALLOC_STATE (R164, R178, R500): 0 LOCAL, 1 SYNC, 2 HOLD, 3 ISOLATED. A node that holds reads HOLD wherever it stands, and a sharing
node outside the roster reads HOLD (log entry 35). -/
def State.allocStateOf (s : State) : Nat :=
  if s.site.hold then 2 else if s.site.isoCap.isSome then 3 else if !s.byMarks then 0 else if !s.isMember then 2 else 1
/-- ALLOC_STATE follows; off a ring EPOCH_MIN reads 0 and EPOCH_SHORT is clear (R171). -/
def State.refreshAlloc (s : State) : State :=
  let s := s.putN Reg.ALLOC_STATE s.allocStateOf
  if s.byMarks then s else (s.putN Reg.EPOCH_MIN 0).putN Reg.ALLOC_FLAGS 0

/-! ## Claims (R160 to R164) -/

/-- One grant of this node's ports, 0 to 3 outlets and 4 to 7 external ports. -/
def Grants.port (g : Grants) (i : Nat) : Int := (g.ports.toList[i]?).getD 0
/-- One grant of this node's groups. -/
def Grants.group (g : Grants) (i : Nat) : Int := (g.groups.toList[i]?).getD 0

/-- A ceiling under the caps of isolation (R164). -/
def State.isoPort (s : State) (i c : Nat) : Nat := match s.site.isoCap with | some g => min c (g.port i).natAbs | none => c

/-- The shaving ceiling of an outlet, where one applies (R161). -/
def State.shaveCeil (s : State) (o : Fin 4) : Option Nat :=
  if s.nat (Reg.OUT_SHAVE (o.val + 1)) == 0 || !s.inSession o.val then none
  else
    let b := s.site.budget[o]
    some (max (b.1 * 3600 / max b.2 (s.period / 1000000)) s.site.claims[o].floor)

/-- The lowest of the session ceiling, the derated cable ceiling and the shaving ceiling (R160). -/
def State.outletCeil (s : State) (o : Fin 4) : Nat :=
  let c := min s.site.claims[o].ceil (s.nat (Reg.CABLE_P_CEIL o.val))
  match s.shaveCeil o with | some v => min c v | none => c

/-- A port entry that is not there. -/
def PortEntry.absent : PortEntry := ⟨false, 0, false, 0, false, 0, 0, false, 0, 0⟩

/-- The entry of an outlet (R158, R160). -/
def State.outletEntry (s : State) (o : Fin 4) : PortEntry :=
  let e := o.val + 1
  if !s.role (4 + o.val) || s.listens then PortEntry.absent
  else
    let c := if s.beh 3 == .zero then 0 else s.isoPort o.val (s.outletCeil o)
    let p := s.site.applied.port o.val
    ⟨true, s.nat (Reg.OUT_ATTACH e), s.site.claims[o].src, min s.site.claims[o].floor c, false, c, p.natAbs, p < 0,
     s.nat (Reg.OUT_RAMP e), s.nat (Reg.OUT_TIER e)⟩

/-- The entry of an external port (R158, R162); a port that leaves claims zero (R27). -/
def State.xpEntry (s : State) (n : Fin 4) : PortEntry :=
  let e := n.val + 1
  if !s.role (8 + n.val) || s.listens then PortEntry.absent
  else
    let ceil := s.int (Reg.XP_CEIL e)
    let floor := s.int (Reg.XP_FLOOR e)
    let pv := s.nat (Reg.XP_TYPE e) == 2 && 0 < ceil
    let zero := s.beh 3 == .zero || s.roleLeaving (8 + n.val) || pv
    let c := if zero then 0 else s.isoPort (4 + n.val) ceil.natAbs
    let f := if ceil.sign == floor.sign then floor.natAbs else 0
    let p := s.site.applied.port (4 + n.val)
    ⟨true, s.nat (Reg.XP_ATTACH e), ceil < 0, min f c, s.nat (Reg.XP_TYPE e) == 1, c, p.natAbs, p < 0,
     s.nat (Reg.XP_RAMP e), s.nat (Reg.XP_TIER e)⟩

/-- CAP_PHYS of a group in W (R163); with a pin source it is the pin target's. -/
def State.capPhys (s : State) (g : Fin 4) : Nat :=
  let amps : Nat := if s.nat (Reg.SETP_SRC g) == 0 then
      ((legsOf g).filter fun n => s.legUp n).foldl (fun (a : Nat) n => a + s.nat (Reg.I_PHASE_MAX (legG n) (legE n))) 0
    else s.groups[g].pin.natAbs
  amps * (max s.groups[g].vout (s.int (Reg.V_FLOOR g))).toNat / 1000000

/-- CAP_TARGET (R163, R194): PG_RATING, or zero while the group ramps down, its slot is at zero, its role leaves, its phases do not
run, or a PORT_STOP holds it. -/
def State.capTarget (s : State) (g : Fin 4) : Nat :=
  if s.routeState g == 1 || s.beh 3 == .zero || s.roleLeaving g.val || !s.phasesRun then 0 else s.nat (Reg.PG_RATING (g.val + 1))

/-- CAP_W of a group (R163, R164); zero at once after a PORT_STOP (R194). -/
def State.capW (s : State) (g : Fin 4) : Nat :=
  if s.groups[g].portStopped then 0
  else
    let w := min (s.capPhys g) (max (s.capTarget g) ((s.site.applied.group g.val).natAbs - s.site.groupRt[g]))
    match s.site.isoCap with | some c => min w (c.group g.val).natAbs | none => w

/-- The entry of a group (R159, R163): only while it is connected, or ramping down. -/
def State.groupEntry (s : State) (g : Fin 4) : GroupEntry :=
  match s.routeVal g s.groups[g].routeNow with
  | some v =>
    if s.role g.val && s.groups[g].claims && !s.listens && (s.routeState g == 4 || s.routeState g == 1) then
      ⟨field v 31 20, field v 19 18, field v 17 16, min 65535 (s.capW g / 1000)⟩
    else ⟨0, 0, 0, 0⟩
  | none => ⟨0, 0, 0, 0⟩

/-- The node's claim block for the present epoch (R157). -/
def State.ownBlock (s : State) : Block :=
  ⟨s.ownNode, s.beh 3 == .fullI, s.site.hold, s.site.crc.isSome, s.epochNo % 65536, s.site.crc.getD 0,
   (List.finRange 4).map s.outletEntry ++ (List.finRange 4).map s.xpEntry, (List.finRange 4).map s.groupEntry⟩

/-- Show what a block of this node places (R160, R163). -/
def State.showClaims (s : State) (b : Block) : State :=
  let s := (List.range 4).foldl (fun (st : State) i =>
    match b.ports[i]? with
    | some e => (st.putN (Reg.OUT_CLAIM_FLOOR (i + 1)) e.floor).putN (Reg.OUT_CLAIM_CEIL (i + 1)) e.ceil
    | none => st) s
  (List.range 4).foldl (fun (st : State) i =>
    match b.groups[i]? with | some e => st.putN (Reg.PG_CAP (i + 1)) (1000 * e.cap) | none => st) s

/-- The session core's values reach the claim buffer (R104, R160, R234). -/
def State.claimUpdate (s : State) (o : Fin 4) : State :=
  let c : ClaimBuf := ⟨s.nat (Reg.SESSION_CEIL o.val), s.nat (Reg.SESSION_FLOOR o.val), s.outs[o].discharge⟩
  { s with site := { s.site with claims := s.site.claims.set o c } }

/-- CLAIM_UPDATE. -/
def execClaimUpdate (o : Fin 4) (s : State) : Host.Outcome State Fault Refusal := .next (s.live (·.claimUpdate o))

/-! ## The wave (R169, R170, R193, R203) -/

/-- A group held at zero by a PORT_STOP is free again once a later block of the port's owner shows the port's claim (R194). -/
def State.portShown (s : State) (b : Block) : State :=
  (List.finRange 4).foldl (fun (st : State) (g : Fin 4) =>
    let x := st.groups[g]
    match st.groupPort g with
    | some (node, i) =>
      let shows := match b.ports[i]? with | some e => e.valid | none => false
      if x.portStopped && node == b.node && shows && b.epoch != x.stopEpoch then st.setGroup g { x with portStopped := false } else st
    | none => st) s

/-- Keep a block of the present wave, in place of an earlier one of its node. -/
def State.keepBlock (s : State) (b : Block) : State :=
  { s.portShown b with site := { s.site with got := (s.site.got.filter fun x => x.node != b.node) ++ [b] } }

/-- A slot waits for an EMPTY slot of an output; own is the node's own block (R193, R198). -/
def State.queueWave (s : State) (r : Nat) (own : Bool) (chars : List Byte) : State :=
  let f : Fin 2 := Fin.ofNat 2 r
  { s with ring := { s.ring with wave := s.ring.wave.set f (s.ring.wave[f] ++ [(own, chars)]) } }

/-- The payload of a CLOSE_MARK (R196). -/
def closePayload (epoch : Nat) : List Byte := leBytes 8 epoch ++ zeros 112

/-- Whether the hoist sends a CLOSE_MARK on a ring (R203, R218). -/
def State.closesRing (s : State) (r : Nat) : Bool := bit (s.nat Reg.RING_STATUS) 5 && s.byMarks && s.ringUp r && s.ringOn r

/-- The own block waits on the outputs of the plan (R193); a hoist's CLOSE_MARK waits directly behind it, on every ring (R203). -/
def State.queueBlock (s : State) (b : Block) : State :=
  let own := s.nat Reg.RING_ADDR
  let s := s.broadcastPlan.foldl (fun (st : State) p => st.queueWave p.1 true (slotChars (slotHeader 0 own p.2 false false) b.encode)) s
  [0, 1].foldl (fun (st : State) (r : Nat) =>
    if st.closesRing r then st.queueWave r false (slotChars (slotHeader 7 own 4095 false false) (closePayload st.ring.markEpoch)) else st) s

/-- CLAIM_BLOCK_INSERT (R157, R169, R179, R193, R203): the block is built, shown, kept for the node's own snapshot, and put into the wave
queue. A unit of a pair that does not hold the Burgee inserts none (R393), and a sharing node outside the roster inserts nothing (R210). -/
def State.insertClaims (s : State) : State :=
  let s := if s.site.clearHold then { s with site := { s.site with hold := false, clearHold := false } } else s
  if s.byMarks && (!s.isMember || s.beh 3 == .bypassed) then s.refreshAlloc
  else
    let b := s.ownBlock
    let s := s.showClaims b
    if s.waitsBurgee then s.refreshAlloc
    else
      let s := s.keepBlock b
      let s := if s.byMarks then s.queueBlock b else { s with site := { s.site with waveDone := true } }
      s.refreshAlloc

/-- WAVE_BLOCK_RECEIVE (R170, R191): a block from outside the roster is not delivered; one of another epoch, or after the freeze,
is discarded. The wave of a node off the ring is its own block alone (R500). -/
def State.waveBlock (s : State) (src : Nat) (payload : List Byte) : State :=
  if !s.byMarks then s
  else if !(s.ring.roster.any fun m => m.addr == src) then s.count Reg.FOREIGN_SLOT_CNT
  else
    let b := Block.decode payload
    if b.epoch != s.epochNo % 65536 || s.site.frozen then s.count Reg.LATE_BLOCK_CNT
    else s.keepBlock b

/-- WAVE_BLOCK_RECEIVE. -/
def execWaveBlockReceive (src : Nat) (payload : List Byte) (s : State) : Host.Outcome State Fault Refusal :=
  .next (s.live (·.waveBlock src payload))

/-- Whether the wave is complete: its CLOSE_MARK has passed every ring that is up for the second time (R203). -/
def State.wavePassed (s : State) : Bool :=
  s.anyRing && (!s.ringUp 0 || 2 <= s.ring.passes[0]) && (!s.ringUp 1 || 2 <= s.ring.passes[1])

/-- The CLOSE_MARK passes a ring, ns after the boundary (R203): the times are measured, and the wave completes where this was the last pass
it waited for, after the freeze too (R198). -/
def State.closePass (s : State) (r : Fin 2) (ns : Nat) : State :=
  let n := s.ring.passes[r] + 1
  let first := if n == 1 then s.ring.firstPass.set r ns else s.ring.firstPass
  let s := { s with ring := { s.ring with passes := s.ring.passes.set r n, firstPass := first } }
  let s := if n == 2 then s.putN (Reg.LOOP_TIME (r.val + 1)) (ns - s.ring.firstPass[r]) else s
  if s.wavePassed && s.ring.window then
    let s := { s with site := { s.site with waveDone := s.site.waveDone || !s.site.frozen }, ring := { s.ring with window := false } }
    let s := (s.putN Reg.T_WAVE_MEAS ns).putMax Reg.T_WAVE_MAX ns
    if s.byMarks then s.putN Reg.EPOCH_MIN (ns + 250000 + s.nat Reg.EPOCH_MARGIN) else s
  else s

/-- Whether a CLOSE_MARK is held: the node's own block has yet to leave on that ring (R203). -/
def State.mustHold (s : State) (r : Fin 2) : Bool :=
  s.byMarks && s.isMember && !s.ringQuiet && !s.allocFenced && !s.waitsBurgee && s.beh 3 != .bypassed && !s.ring.blockOut[r]
    && s.ring.passes[r] == 0 && s.broadcastPlan.any fun p => p.1 == r.val

/-- CLOSE_MARK of the epoch of the last mark (R203): one that comes before the node's own block has left is held, and sent again after it;
DISPLACE_CNT counts it (R192). One of the epoch before is only counted, for its launcher to strip. -/
def State.closeMark (s : State) (r : Fin 2) (hops epoch ns : Nat) : State :=
  if !s.ringUp r.val then s
  else if epoch + 1 == s.ring.markEpoch then
    { s with ring := { s.ring with oldPasses := s.ring.oldPasses.set r (s.ring.oldPasses[r] + 1) } }
  else if epoch != s.ring.markEpoch then s
  else
    let s := if s.mustHold r && s.ring.heldClose[r].isNone then
        { s.count Reg.DISPLACE_CNT with ring := { s.ring with heldClose := s.ring.heldClose.set r (some hops) } }
      else s
    s.closePass r ns

/-- HOPS_LEFT of a mark one node on: a countdown modulo 4,096 (R189). -/
def hopsOn (h : Nat) : Nat := (h + 4095) % 4096

/-- CLAIM_BLOCK_INSERT; in a MAIN blackout and under a test of the Ring region the node inserts none (R430, R434). -/
def execClaimBlockInsert (s : State) : Host.Outcome State Fault Refusal :=
  .next (s.live fun s => if s.ringQuiet || s.allocFenced then s else s.insertClaims)

/-! ## The freeze (R169, R170, R180) -/

/-- A port entry fixed at a grant (R180). -/
def PortEntry.atGrant (e : PortEntry) (g : Int) : PortEntry := { e with prev := g.natAbs, prevNeg := g < 0 }

/-- The block that stands for a member that has missed n waves, and whether its ports are fixed (R180). Where no grants were computed in
the third substituted wave, it stays a substitute until some are (log entry 34). -/
def Subst.stand (x : Subst) : Block × Bool :=
  if x.missed <= 3 || x.frozen.isEmpty then (x.block, false)
  else ({ x.block with ports := (x.block.ports.zip x.frozen).map fun p => p.1.atGrant p.2 }, true)

/-- Note the blocks of a complete wave and the members that are missing (R180). -/
def State.noteWave (s : State) : State :=
  let here := s.site.got
  let kept := s.site.last.filter fun (x : Subst) =>
    (s.ring.roster.any fun m => m.addr == x.block.node) && !(here.any fun b => b.node == x.block.node)
  let l := (kept.map fun (x : Subst) => { x with missed := x.missed + 1 }) ++ here.map fun b => (⟨b, 0, []⟩ : Subst)
  { s with site := { s.site with last := l } }

/-- Note the blocks that came in a wave that is not complete: each is its sender's last received one, and none counts as missing
(R180). -/
def State.noteCame (s : State) : State :=
  let here := s.site.got
  let kept := s.site.last.filter fun (x : Subst) => !(here.any fun b => b.node == x.block.node)
  { s with site := { s.site with last := kept ++ here.map fun b => (⟨b, 0, []⟩ : Subst) } }

/-- The snapshot (R159, R170, R180): the blocks received and the stand-ins, in ascending NODE order. -/
def State.snapshot (s : State) : List (Block × Bool) :=
  let all := (s.site.got.map fun b => (b, false)) ++ (s.site.last.filter fun (x : Subst) => 0 < x.missed).map Subst.stand
  all.foldl (fun l x => insertBlock x l) []

/-- Whether the allocation engine computes (R72): the engines class is neither IDLE nor OFF. -/
def State.allocRuns (s : State) : Bool := s.beh 6 != .idle && s.beh 6 != .off

/-- RT of each group's destination port in the snapshot (R163, R172). -/
def State.noteGroupRt (s : State) : State :=
  let rt (g : Fin 4) : Nat :=
      match s.groupPort g with
      | some (node, i) =>
        match (s.site.snap.find? fun b => b.1.node == node).bind fun b => b.1.ports[i]? with
        | some e => if e.valid then rampPer s.period e else 0
        | none => 0
      | none => 0
  { s with site := { s.site with groupRt := Vector.ofFn rt } }

/-! ## Grants and the vote (R174 to R179) -/

/-- This node's grants in a result. -/
def Result.own (r : Result) (node : Nat) : Grants :=
  ⟨Vector.ofFn fun i => grantAt r.claims node i.val,
   Vector.ofFn fun i => match r.groups.find? fun x => x.1 == node && x.2.1 == i.val with | some x => x.2.2 | none => 0⟩

/-- Put grants into the grant objects (R183, R185). -/
def State.putGrants (s : State) (g : Grants) : State :=
  (List.range 4).foldl (fun (st : State) i =>
    ((st.putI (Reg.OUT_GRANT i) (g.port i)).putI (Reg.XP_GRANT (i + 1)) (g.port (4 + i))).putI (Reg.PG_GRANT (i + 1)) (g.group i)) s

/-- Apply grants. -/
def State.applyGrants (s : State) (g : Grants) : State :=
  ({ s with site := { s.site with applied := g } }).putGrants g

/-- The floor cuts of this node's claims, and one Pennant at the start of a run of epochs with one (R174). -/
def State.floorCuts (s : State) (cs : List Claim) : State :=
  let n := (cs.filter fun c => c.node == s.ownNode && c.g < c.lo).length
  let before := s.get Reg.FLOOR_CUT_CNT
  let first := n != 0 && !s.site.cutRun
  let s := { s.addC Reg.FLOOR_CUT_CNT n with site := { s.site with cutRun := n != 0 } }
  if first then s.raise1 0x5200 0x00E 2 before else s

/-- Groups routed to a port that no node declares are parked; each change raises one Pennant (R30). -/
def State.notePorts (s : State) (cs : List Claim) : State :=
  let s := { s with site := { s.site with declared := cs.map fun c => (c.node, c.idx) } }
  (List.finRange 4).foldl (fun (st : State) (g : Fin 4) =>
    let lost := st.role g.val && (st.routeState g == 4) && !st.waitsBurgee && !st.portDeclared g
    let told := st.site.noPort[g]
    let st := { st with site := { st.site with noPort := st.site.noPort.set g lost } }
    let st := if lost then st.parkGroup g else st.unparkGroup g
    if told == lost then st
    else st.raise1 ((0x10 + g.val) * 256) 0x232 2 (st.get (Reg.ROUTE_STATE g))) s

/-- Keep the grants of the members in their third substituted wave (R180, log entry 34). -/
def State.keepFrozen (s : State) (cs : List Claim) : State :=
  let keep (x : Subst) : Subst :=
    if 3 <= x.missed && x.frozen.isEmpty then { x with frozen := (List.range 8).map fun i => grantAt cs x.block.node i } else x
  { s with site := { s.site with last := s.site.last.map keep } }

/-- The reference checksum of a snapshot (R177): the value most blocks with CRCV carry, the lowest of a tie; none without such a
block. -/
def refCrc (snap : List (Block × Bool)) : Option Nat :=
  let l := (snap.filter fun b => b.1.crcv).map fun b => b.1.crc
  l.foldl (fun (best : Option Nat) x =>
    match best with
    | none => some x
    | some y => if l.count y < l.count x || (l.count y == l.count x && x < y) then some x else some y) none

/-- The node enters HOLD (R178). -/
def State.holdNow (s : State) : State := { s with site := { s.site with hold := true, clearHold := false } }

/-- The vote on the wave (R177 to R179). A node without a checksum of its own for the boundary neither diverges nor matches. -/
def State.vote (s : State) (snap : List (Block × Bool)) : State :=
  let reference := (refCrc snap).getD (s.site.crc.getD 0)
  let s := s.putN Reg.RESULT_CRC_REF reference
  let s := s.putN Reg.CRC_AGREE (snap.filter fun b => b.1.crcv && b.1.crc == reference).length
  match s.site.crc with
  | none => s
  | some own =>
    if own != reference then
      let before := s.get Reg.DIVERGE_CNT
      let s := (s.count Reg.DIVERGE_CNT).raise1 0x5200 0x00D 1 before
      s.holdNow.applyGrants s.site.safe
    else
      let s := { s with site := { s.site with matched := true } }
      if s.site.hold then s
      else ({ s with site := { s.site with safe := s.site.applied } }).putN Reg.LAST_SAFE_EPOCH (s.epochNo % 4294967296)

/-- WAVE_FREEZE (R169, R170, R177, R178, R180): a wave that is not complete is a missed one; the vote is taken on what has come either
way, and both may count in one epoch (R184). -/
def State.waveFreeze (s : State) : State :=
  if s.site.frozen then s
  else
    let s := { s with site := { s.site with frozen := true } }
    if !s.allocRuns then s
    else if s.byMarks && !s.isMember then s
    else
      let own := s.site.got.filter fun b => s.byMarks || b.node == s.ownNode
      let s := { s with site := { s.site with got := own } }
      if !s.site.waveDone || s.ringQuiet then
        let s := (if s.ringQuiet then s else s.vote (own.map fun b => (b, false))).count Reg.MISSED_WAVE_CNT
        ((if s.byMarks then s.noteCame else s).holdNow).refreshAlloc
      else
        let s := if s.byMarks then s.noteWave else s
        let snap := if s.byMarks then s.snapshot else own.map fun b => (b, false)
        let s := ({ s with site := { s.site with snap := snap, toCompute := true } }).noteGroupRt
        let n (p : Subst → Bool) : Nat := if s.byMarks then (s.site.last.filter p).length else 0
        let s := (s.putN Reg.SUBST_COUNT (n fun x => 0 < x.missed && x.missed <= 3)).putN Reg.FROZEN_COUNT (n fun x => 3 < x.missed)
        (s.vote snap).refreshAlloc

/-- WAVE_FREEZE. -/
def execWaveFreeze (s : State) : Host.Outcome State Fault Refusal := .next (s.live (·.waveFreeze))

/-- ALLOC_CALC_DONE (R171, R174, R176). -/
def State.calcDone (s : State) (ns : Nat) : State :=
  if !s.site.toCompute || s.site.computed.isSome || s.allocFenced then s
  else
    let r := s.allocate s.site.snap
    let s := { s with site := { s.site with computed := some (r.own s.ownNode, r.crc) } }
    let s := ((s.putN Reg.RESULT_CRC_OWN r.crc).putN Reg.T_CALC_LAST ns).putMax Reg.T_CALC_MAX ns
    let s := s.putN Reg.SITE_ISLAND (b2n (siteIsland s.site.snap))
    ((s.floorCuts r.claims).notePorts r.claims).keepFrozen r.claims

/-- ALLOC_CALC_DONE. -/
def execAllocCalcDone (ns : Nat) (s : State) : Host.Outcome State Fault Refusal := .next (s.live (·.calcDone ns))

/-! ## The boundary (R168, R169, R171, R183, R500) -/

/-- Whether TREE_APPLY_EPOCH names an epoch ahead; 0 means no wait (R166, R168). -/
def State.treeAhead (s : State) : Bool := s.nat Reg.TREE_APPLY_EPOCH != 0 && epochAhead (s.nat Reg.TREE_APPLY_EPOCH) s.epochNo

/-- The held tree replaces the tree in use once its epoch has come (R168). -/
def State.treeBoundary (s : State) : State :=
  if s.site.treeHeld && !s.treeAhead then
    ({ s with site := { s.site with treeHeld := false, treeInUse := [] } }).putN Reg.TREE_STATE 0
  else s

/-- What the boundary releases, and the checksum of it (R171, R175, R178, R183); a node that holds clears HOLD in its next block where
its wave was complete, its grants came in time and its checksum matched (R179). -/
def State.released (s : State) : State :=
  let overrun := s.site.toCompute && s.site.computed.isNone
  let s := if overrun then (s.count Reg.CALC_OVERRUN_CNT).holdNow
    else if s.site.hold && s.site.computed.isSome && s.site.matched then { s with site := { s.site with clearHold := true } } else s
  let crc := s.site.computed.map (·.2)
  let next : Grants :=
    if s.byMarks && !s.isMember then Grants.zero
    else if s.site.hold then s.site.safe
    else match s.site.computed with | some r => r.1 | none => s.site.applied
  { s.applyGrants next with site := { s.site with applied := next, crc := crc } }

/-- EPOCH_SHORT (R171). -/
def State.epochShort (s : State) : State :=
  if !s.byMarks then
    { (s.putN Reg.EPOCH_MIN 0).putN Reg.ALLOC_FLAGS 0 with site := { s.site with shortRun := 0, longRun := 0 } }
  else
    let short := s.period < s.nat Reg.EPOCH_MIN
    let a := if short then min 16 (s.site.shortRun + 1) else 0
    let b := if short then 0 else min 16 (s.site.longRun + 1)
    let s := { s with site := { s.site with shortRun := a, longRun := b } }
    let before := s.get Reg.ALLOC_FLAGS
    if a == 16 && s.nat Reg.ALLOC_FLAGS == 0 then (s.putN Reg.ALLOC_FLAGS 1).raise1 0x5000 0x007 2 before
    else if b == 16 then s.putN Reg.ALLOC_FLAGS 0
    else s

/-- The ring class moves at a boundary: its slot carries the new claims from here on, live ones once the engines are
restored (R78, R80, R81). -/
def State.ringClassMoves (s : State) : State :=
  let b := s.targetBeh 3
  let live := b == .full || b == .fullI
  if s.beh 3 != b && b != .bypassed && s.beh 3 != .bypassed && (!live || s.beh 6 == .run) then s.arrive 3 else s

/-- The samples of an ALLOC trace: the grants now applied beside the ceilings and capacities of the own block, port entries before groups
(R383). -/
def State.traceAlloc (s : State) : State :=
  let b := s.ownBlock
  let s := (List.finRange 8).foldl (fun (st : State) (i : Fin 8) =>
    st.traceSample 2 0 st.epochNo (ofS 32 st.site.applied.ports[i] + (b.ports[i.val]?).elim 0 (·.ceil) % 4294967296 * 4294967296)) s
  (List.finRange 4).foldl (fun (st : State) (g : Fin 4) =>
    st.traceSample 2 0 st.epochNo (ofS 32 st.site.applied.groups[g] + 1000 * (b.groups[g.val]?).elim 0 (·.cap) * 4294967296)) s

/-- Everything an epoch boundary does at this node once EPOCH_NUMBER is set (R27, R32, R96, R105, R168, R169, R171, R183, R349). The repeat
delay of a ring that is up is measured: a free value of at most 96 ns (R218, log entry 2). -/
def State.boundaryActs (s : State) : State :=
  let fresh := s.site.computed.isSome && !s.site.hold
  let s := s.treeBoundary.released.traceAlloc
  let s := if fresh then s.measureLat Reg.LAT_EPOCH_TO_LOOP 13 8000 s.anyRing else s
  let s := if s.anyRing then (s.putN Reg.REPEAT_DELAY (s.freeAt 15 % 97)).drawn else s
  let s := s.mirror (.grants s.epochNo s.site.applied.ports.toList s.site.applied.groups.toList (s.site.crc.getD 0))
  let s := if s.pair.phase == 1 then { s with pair := { s.pair with waited := s.pair.waited + 1 } } else s
  let s := if s.upd.live != 0 then { s with upd := { s.upd with waited := s.upd.waited + 1 } } else s
  let s := if s.fab.clockHold then s.forAllLegs fun n st => st.leavePark n else s
  let s := { s with
    fab := { s.fab with clockHold := false },
    ring := { s.ring with due := false },
    site := { s.site with got := [], frozen := false, snap := [], waveDone := false, toCompute := false, computed := none, matched := false,
                          offerLoss := Vector.replicate 4 0 } }
  let s := s.rolesBoundary
  let s := (List.finRange 4).foldl (fun (st : State) (g : Fin 4) => st.routeEpoch g) s
  s.ringClassMoves.ringKeyBoundary.epochShort.refreshAlloc

/-- EPOCH_BOUNDARY: where a mark has set it (R169, R202). -/
def execEpochBoundary (s : State) : Host.Outcome State Fault Refusal :=
  .next (s.live fun s => if s.ring.due then s.boundaryActs else s)

/-- The node is isolated: its claims are capped at the grants of the last boundary (R164). -/
def State.isolate (s : State) : State := { s with site := { s.site with isoCap := some s.site.applied, isoSoon := false } }

/-- LOCAL_EPOCH_BOUNDARY (R500): EPOCH_NUMBER counts on. -/
def execLocalEpochBoundary (s : State) : Host.Outcome State Fault Refusal :=
  .next (s.live fun s =>
    if s.byMarks then s
    else
      let s := if s.site.isoSoon then s.isolate else s
      (s.putN Reg.EPOCH_NUMBER ((s.epochNo + 1) % 18446744073709551616)).boundaryActs)

/-! ## Isolation, budgets, port stops (R161, R164, R194) -/

/-- RING_ISOLATED (R164, R500); where a boundary has been marked and is not yet made, its grants are released, and ISOLATED applies
from the next boundary (R184). -/
def execRingIsolated (s : State) : Host.Outcome State Fault Refusal :=
  .next (s.live fun s =>
    if s.role 12 && !s.anyRing && s.isMember && s.site.isoCap.isNone then
      let s := { s with ring := { s.ring with launcher := none } }
      (if s.ring.due then { s with site := { s.site with isoSoon := true } } else s.isolate).refreshAlloc
    else s)

/-- The caps of isolation end (R164). -/
def State.endIsolation (s : State) : State := ({ s with site := { s.site with isoCap := none, isoSoon := false } }).refreshAlloc

/-- E_rem of an outlet and the remaining interval in ms (R161, R314). -/
def State.budgetOf (s : State) (o : Fin 4) : Nat × Nat :=
  (s.nat (Reg.OUT_SHAVE (o.val + 1)) * s.bill.intLen / 3600 - s.nat (Reg.INT_IMPORT o.val),
   s.nextMoment s.bill.ect - s.bill.ect)

/-- DEMAND_BUDGET_DELIVERY. -/
def execDemandBudgetDelivery (e : Fin 2) (s : State) : Host.Outcome State Fault Refusal :=
  .next (s.live fun s =>
    if s.part.variant = .n then s
    else
      let deliver (o : Fin 4) (st : State) : State :=
        { st with site := { st.site with budget := st.site.budget.set o (st.budgetOf o) } }
      if e.val == 0 then deliver 1 (deliver 0 s) else deliver 3 (deliver 2 s))

/-- A port stops outside the epoch schedule: every group of this node routed to it goes to zero at its next sample (R34, R194). -/
def State.stopGroups (s : State) (node idx epoch : Nat) : State :=
  (List.finRange 4).foldl (fun (st : State) (g : Fin 4) =>
    if st.groupPort g == some (node, idx) then
      let st := st.stopTarget g
      st.setGroup g { st.groups[g] with stopEpoch := epoch }
    else st) s

/-- The port index of an encoded PORT (R159, R194): none where its kind is no port. -/
def portIndex (port : Nat) : Option Nat :=
  if field port 13 12 == 1 then some (field port 15 14) else if field port 13 12 == 2 then some (4 + field port 15 14) else none

/-- PORT_STOP (R191, R194). -/
def State.portStopped (s : State) (src port epoch : Nat) : State :=
  if !(s.ring.roster.any fun m => m.addr == src) then s.count Reg.FOREIGN_SLOT_CNT
  else match portIndex port with
    | some i => s.stopGroups (field port 11 0) i epoch
    | none => s

/-- PORT_STOP. -/
def execPortStop (src port epoch : Nat) (s : State) : Host.Outcome State Fault Refusal :=
  .next (s.live (·.portStopped src port epoch))

/-- Queue an own Ensign item; one for the same port or group that waits is merged into it, with the sum of their LOST_CAP (R194,
R197). -/
def State.queueItem (s : State) (it : Item) : State :=
  let same : Item → Bool := fun x => x.kind == it.kind && x.port == it.port && x.group == it.group && x.sent.isEmpty
  let old := (s.ring.items.find? same).map (·.lost)
  let it := { it with lost := min 65535 (it.lost + old.getD 0) }
  { s with ring := { s.ring with items := (s.ring.items.filter fun x => !same x) ++ [it] } }

/-- The limit this node offers on one of its ports goes to zero outside the epoch schedule (R34, R194): its own groups stop, and a
PORT_STOP is queued for the others. -/
def State.stopPort (s : State) (idx : Nat) : State :=
  let s := s.stopGroups s.ownNode idx (s.epochNo % 65536)
  if s.byMarks && s.isMember then
    s.queueItem ⟨1, s.ownNode % 4096 + 4096 * (idx / 4 + 1) + 16384 * (idx % 4), 0, 0, none, []⟩
  else s

/-! ## Capacity lost in mid-epoch (R194, R235, R238) -/

/-- OFFERED_P and OFFERED_I as they would be sent now: the grant in use less what a feeding group has lost since the boundary, and
zero outside TRANSFER (R235 to R238, R243). -/
def State.refreshOffer (s : State) (o : Fin 4) : State :=
  let p : Nat := if s.nat (Reg.OUT_STATE o.val) == 7 then (s.site.applied.port o.val).natAbs - s.site.offerLoss[o] else 0
  let v := (max (s.int (Reg.V_CABLE o.val)) (s.int (Reg.V_REF_MIN o.val))).toNat
  let i := if v == 0 then s.nat (Reg.OUT_I_MAX o.val) else min (p * 1000000 / v) (s.nat (Reg.OUT_I_MAX o.val))
  (s.putN (Reg.OFFERED_P o.val) p).putN (Reg.OFFERED_I o.val) i

/-- GROUP_LOSS (R191, R194, R238): the owner of an outlet lowers the limit it offers the vehicle at once. -/
def State.lossReceived (s : State) (src port lost : Nat) : State :=
  if !(s.ring.roster.any fun m => m.addr == src) then s.count Reg.FOREIGN_SLOT_CNT
  else if field port 11 0 != s.ownNode || field port 13 12 != 1 then s
  else
    let o : Fin 4 := Fin.ofNat 4 (field port 15 14)
    let l := s.site.offerLoss.set o (s.site.offerLoss[o] + 1000 * lost)
    ({ s with site := { s.site with offerLoss := l } }).refreshOffer o

/-- GROUP_LOSS. -/
def execGroupLoss (src port lost : Nat) (s : State) : Host.Outcome State Fault Refusal :=
  .next (s.live (·.lossReceived src port lost))

end Sys2Proof.Machine
end

