-- ==== Sys2Proof/Machine/Outlet.lean ====
section
/-! DEFINITION. Outlet: the session cores, the session sequence, the outlet contactors and the stops (chapter 09). -/

namespace Sys2Proof.Machine

/-! ## Names -/

/-- What the session core of an outlet holds. -/
def State.out (s : State) (o : Fin 4) : Outlet := s.outs[o]
/-- Set what the session core of an outlet holds. -/
def State.setOut (s : State) (o : Fin 4) (x : Outlet) : State := { s with outs := s.outs.set o x }
/-- OUT_STATE (R231): 0 CLOSED, 1 IDLE, 2 PLUGGED, 3 LINK, 4 NEGOTIATE, 5 CABLE_CHECK, 6 PRECHARGE, 7 TRANSFER, 8 STOPPING,
9 OPENING, 10 ENDED, 11 FAULT, 12 MIRROR. -/
def State.outState (s : State) (o : Fin 4) : Nat := s.nat (Reg.OUT_STATE o.val)
/-- The session of an outlet as it is mirrored (R394). -/
def State.sessionItem (s : State) (o : Fin 4) : MirrorItem :=
  let x := s.out o
  .session o ⟨s.outState o, s.nat (Reg.SESSION_ID o.val), s.nat (Reg.PROTOCOL o.val), x.evcc, x.emaid,
    s.nat (Reg.ACCOUNT_SLOT o.val), b2n x.authorised, if (s.meter o).inSession then (s.meter o).startSeq else 0⟩
/-- Set OUT_STATE; the holder of a pair mirrors each change (R394). -/
def State.toState (s : State) (o : Fin 4) (n : Nat) : State :=
  let t := s.putN (Reg.OUT_STATE o.val) n
  if s.outState o == n then t else t.mirror (t.sessionItem o)
/-- SOURCE of an outlet's Pennants (R498). -/
def outSource (o : Fin 4) : Nat := (0x60 + o.val) * 256
/-- A bit of CTR_STATE (R246): 0 DC+ drive, 1 DC− drive, 2 DC+ reads closed, 3 DC− reads closed, 4 REQ_PENDING. -/
def State.ctr (s : State) (o : Fin 4) (i : Nat) : Bool := bit (s.nat (Reg.CTR_STATE o.val)) i
/-- Answer the vehicle: an outlet whose role is clear drives nothing (R25). -/
def State.tell (s : State) (o : Fin 4) (a : Answer) : State := if s.role (4 + o.val) then s.send (.vehicle o.val a) else s
/-- Whether the outlets class stays OPEN (R72, R243). -/
def State.outletsOpen (s : State) : Bool := s.beh 1 == .opened && s.targetBeh 1 == .opened

/-- An effect of an outlet's session core: it is served on an -L part by a core that is powered and not fenced, and in MIRROR
nothing is driven or answered, but a session adopted at a takeover is ended (R2, R26, R45, R72, R103, R402). -/
def State.outletLive (s : State) (o : Fin 4) (f : State → State) : State :=
  s.live fun s => if s.part.variant = .l && !s.unpowered (0x60 + o.val) && (s.beh 1 != .mirror || s.inSession o.val) then f s else s

/-- What an outlet's pins read at a session core that is powered and not fenced, also in MIRROR (R2, R103, R391). -/
def State.outletSense (s : State) (o : Fin 4) (f : State → State) : State :=
  s.live fun s => if s.part.variant = .l && !s.unpowered (0x60 + o.val) then f s else s

/-- An effect on an outlet's hardware on an -L part while the outlets class is powered: its cooling runs in MIRROR too (R2, R260). -/
def State.outletPart (s : State) (o : Fin 4) (f : State → State) : State :=
  s.live fun s => if s.part.variant = .l && !s.unpowered (0x64 + o.val) then f s else s

/-- What arrives over the outlet's link: on a CCS outlet the modem engine brings it (R103, R220). -/
def State.linkLive (s : State) (o : Fin 4) (f : State → State) : State :=
  s.outletLive o fun s => if s.nat (Reg.OUT_KIND o.val) == 0 && s.fab.fenced (modemCell o.val) then s else f s

/-- An effect of a message in the states given; in another state it is answered with the failure code and changes nothing. -/
def State.inStates (s : State) (o : Fin 4) (l : List Nat) (f : State → State) : State :=
  s.linkLive o fun s => if l.contains (s.outState o) then f s else s.tell o .failed

/-! ## Pilot, line and source outputs (R219 to R224, R450) -/

/-- Whether the session core of an outlet drives its outputs: by the class and the role, with the firmware running (R25, R72, R450). -/
def State.outletDrives (s : State) (o : Fin 4) : Bool :=
  s.powered && s.part.variant = .l && s.power.mains && !s.power.por && s.beh 1 != .off && s.beh 1 != .mirror && s.role (4 + o.val)

/-- Whether digital communication is offered on the pilot (R224, R231; log entry 40): plugged with no failed condition, or in a session. -/
def State.dataOffered (s : State) (o : Fin 4) : Bool :=
  s.inSession o.val || (s.outState o == 2 && s.nat (Reg.REFUSE_REASON o.val) == 0)

/-- The drive of CP (R72, R224, R450). -/
def State.pilotDrive (s : State) (o : Fin 4) : PilotDrive :=
  if s.part.variant = .n || !s.power.mains || s.power.por || 6 <= s.modes.vaultStep then .none
  else if !s.powered then .stateF
  else if !s.outletDrives o then .none
  else if s.nat (Reg.OUT_KIND o.val) == 1 then .level
  else if s.beh 1 == .closed then .stateF
  else if s.dataOffered o then .pwm 50 else .pwm 1000

/-- How the 10BASE-T1S PHY of an outlet runs (R220, R222): as coordinator with node ID 0 where PLCA is enabled. -/
def State.lineMode (s : State) (o : Fin 4) : LineMode :=
  if s.nat (Reg.OUT_KIND o.val) == 0 || !s.outletDrives o then .off
  else if s.nat (Reg.PLCA_CFG o.val 1) == 0 then .csma
  else .plca 0 (s.nat (Reg.PLCA_CFG o.val 2)) (s.nat (Reg.PLCA_CFG o.val 3)) (s.nat (Reg.PLCA_CFG o.val 4))

/-- The MAC address and the link-local address of an outlet (R222, R226). -/
def State.outletMac (s : State) (o : Fin 4) : BitVec 48 := Config.mac s.part.serial o.val
/-- The link-local address. -/
def State.outletAddress (s : State) (o : Fin 4) : BitVec 128 := Config.linkLocal (s.outletMac o)

/-- The level of CCP_EN (R219, R232, R233). -/
def State.ccpEnPin (s : State) (o : Fin 4) : Bool := s.outletDrives o && (s.out o).ccpEn
/-- The high time of CCP_SET in its 10 kHz period, in edges of 2.5 ns of which the period has 40,000: 0 to 100 % for 0 to CCP_VSET_FS (R219). -/
def State.ccpSetPin (s : State) (o : Fin 4) : Nat :=
  if s.outletDrives o then min 40000 ((s.out o).ccpSet.toNat * 40000 / s.nat (Reg.CCP_VSET_FS o.val)) else 0

/-! ## Refusals (R57, R231, R298) -/

/-- Whether the outlet's legal signing key counts as present (R231, R298). -/
def State.outKey (s : State) (o : Fin 4) : Bool :=
  s.canRecord && !s.bill.engFenced[engineOfMeter o]

/-- The first failed condition of a session start as REFUSE_REASON gives it, 0 for none (R231). -/
def State.refusal (s : State) (o : Fin 4) : Nat :=
  if !s.role (4 + o.val) || s.roleLeaving (4 + o.val) then 1
  else if !s.outletsOpen then 2
  else if !s.outKey o then 3
  else if s.nat Reg.LOG_STATE != 0 then 4
  else if s.outState o == 11 then 5
  else 0

/-- REFUSE_REASON takes a reason; a missing legal key raises one Pennant (R57, R231). -/
def State.refuse (s : State) (o : Fin 4) (reason : Nat) : State :=
  let before := s.get (Reg.REFUSE_REASON o.val)
  let s := s.putN (Reg.REFUSE_REASON o.val) reason
  if reason == 3 then s.raiseCat (outSource o) 0x41 31 before else s

/-! ## Rest (R224, R225, R231) -/

/-- Where an outlet rests without a session, from the pilot, the plug and the class (R231). -/
def State.rest (s : State) (o : Fin 4) : State :=
  let a := s.nat (Reg.PILOT_STATE o.val) == 0 && !(s.out o).pilotOut
  let b := s.nat (Reg.PILOT_STATE o.val) == 1 && !(s.out o).pilotOut
  let plugged := (s.out o).plugged
  let st := s.outState o
  if !s.outletsOpen then s
  else
    let s := if (st == 10 && (a || !plugged)) || (st == 2 && a && !plugged) then s.toState o 1 else s
    if s.outState o == 1 && plugged && b then (s.toState o 2).refuse o (s.refusal o) else s

/-! ## Contactor drives (R231) -/

/-- Drive one contactor through its load-switch channel, DC+ or with neg DC− (R219, R231, R267). -/
def State.driveCtr (s : State) (o : Fin 4) (neg on : Bool) : State :=
  let ch := s.nat (if neg then Reg.CTR_LS_NEG o.val else Reg.CTR_LS_POS o.val)
  (s.putBit (Reg.CTR_STATE o.val) (b2n neg) on).ownerSwitch ch 1 on

/-- Both drives off. -/
def State.drivesOff (s : State) (o : Fin 4) : State :=
  let s := if s.ctr o 0 then s.driveCtr o false false else s
  if s.ctr o 1 then s.driveCtr o true false else s

/-! ## The end of a session -/

/-- Run-on begins (R256). -/
def State.runOn (s : State) (o : Fin 4) : State :=
  { s with cools := s.cools.set o { s.cools[o] with runon := some s.now } }

/-- The session ceiling and floor go to zero in the claim buffer (R234, R236). -/
def State.zeroClaim (s : State) (o : Fin 4) : State :=
  ((s.putN (Reg.SESSION_CEIL o.val) 0).putN (Reg.SESSION_FLOOR o.val) 0).claimUpdate o

/-- SESSION_STOP completes for the outlet it names: SESSION_ID and the session's energy in Wh as S32 (R240). -/
def State.stopDone (s : State) (o : Fin 4) (wh : Int) : State :=
  if s.isPending .sessionStop && (s.res .sessionStop).arg % 4 == o.val then
    s.completed .sessionStop 0 (s.nat (Reg.SESSION_ID o.val) + 4294967296 * ofS 32 wh)
  else s

/-- What the core holds of a session goes; the plug and IMD_OK stay. -/
def Outlet.ended (x : Outlet) : Outlet := { Outlet.reset with imdOk := x.imdOk, plugged := x.plugged, pilotOut := x.pilotOut }

/-! ## Account slots (R320 to R324) -/

/-- An account slot. -/
def State.acct (s : State) (n : Nat) : Acct := ((s.bill.accts.find? fun x => x.1 == n).map (·.2)).getD Acct.empty

/-- Slots in ascending order with one set; an empty slot is not listed. -/
def acctPut (l : List (Nat × Acct)) (n : Nat) (a : Acct) : List (Nat × Acct) :=
  let rest := l.filter fun x => x.1 != n
  if a = Acct.empty then rest else (rest.filter fun x => x.1 < n) ++ [(n, a)] ++ rest.filter fun x => n < x.1

/-- Set an account slot. -/
def State.setAcct (s : State) (n : Nat) (a : Acct) : State := { s with bill := { s.bill with accts := acctPut s.bill.accts n a } }

/-- Whether a session runs on an outlet, or a record of it is still to come (R316, R320). -/
def State.sessionRuns (s : State) (o : Fin 4) : Bool :=
  s.inSession o.val || (s.meter o).inSession || s.bill.requests.any fun r => r.chan == some o

/-- Whether a running session's ACCOUNT_SLOT names a slot (R320). -/
def State.acctInUse (s : State) (n : Nat) : Bool :=
  (List.finRange 4).any fun o => s.sessionRuns o && s.nat (Reg.ACCOUNT_SLOT o.val) == n

/-- A new ACCT_ID: credit, outstanding emergency credit and residual go, and emergency credit is available (R320). -/
def Acct.renew (a : Acct) (id : Nat) : Acct := { a with id := id, credit := 0, ecOut := 0, granted := false, res := 0, newId := none }

/-- Account changes that waited for a session's end take effect (R320; log entry 83). -/
def State.acctsFree (s : State) : State :=
  s.bill.accts.foldl (fun (st : State) x =>
    match x.2.newId with
    | some id => if st.acctInUse x.1 then st else st.setAcct x.1 ((st.acct x.1).renew id)
    | none => st) s

/-! ## The end of a session -/

/-- The session is over: ENDED, or CLOSED where the class is leaving OPEN, and run-on begins (R231, R243, R256). A leaving role
leaves (R27). -/
def State.sessionOver (s : State) (o : Fin 4) : State :=
  let s := (s.setOut o (s.out o).ended).zeroClaim o
  let s := (s.putBit (Reg.CTR_STATE o.val) 4 false).runOn o
  let s := s.toState o (if s.outletsOpen then 10 else 0)
  (s.roleSessionEnd o.val).rest o

/-- A session without contactor action ends, without a record (R240, R243). -/
def State.endQuiet (s : State) (o : Fin 4) : State := ((s.stopDone o 0).sessionOver o).acctsFree

/-- A session in LINK or NEGOTIATE is refused for a reason (R227, R230, R243). -/
def State.endRefused (s : State) (o : Fin 4) (reason : Nat) : State :=
  ((s.refuse o reason).tell o .failed).endQuiet o

/-- The request for the end record: its cause is supplied, and is free where R301 lists none for the stop (R231, R282, R301). -/
def State.requestEnd (s : State) (o : Fin 4) : State :=
  let cause := (s.out o).cause.getD (s.freeAt 4 % 65536)
  let r : LegalReq := ⟨2, some o, 0, s.now, s.nat (Reg.SESSION_ID o.val), leBytes 2 cause, 0⟩
  { s.drawn with bill := { s.bill with requests := s.bill.requests ++ [r] } }

/-- Both contactors read open after an opening: the end record is requested and the session is over (R231, R236). -/
def State.opened (s : State) (o : Fin 4) : State :=
  if (s.out o).started then (s.requestEnd o).sessionOver o else s.endQuiet o

/-- The account slot a new session names and how it was authorised (R301): 2 prepaid, 1 by contract, 0 by the host. -/
def State.authOf (s : State) (o : Fin 4) : Nat :=
  if s.nat (Reg.ACCOUNT_SLOT o.val) != 0xFFFF then 2 else if (s.out o).emaid.isEmpty then 0 else 1

/-- Both contactors read closed for the first time: the start record is requested (R231, R301). -/
def State.closedFirst (s : State) (o : Fin 4) : State :=
  let x := s.out o
  let ident := if x.emaid.isEmpty then x.evcc else x.emaid
  let detail := leBytes 2 (s.nat (Reg.ACCOUNT_SLOT o.val)) ++ leBytes 1 (s.nat (Reg.PROTOCOL o.val)) ++ leBytes 1 (s.authOf o)
    ++ padTo 12 (Config.sha256 ident)
  let r : LegalReq := ⟨1, some o, 0, s.now, s.nat (Reg.SESSION_ID o.val), detail, 0⟩
  { s.setOut o { x with started := true } with bill := { s.bill with requests := s.bill.requests ++ [r] } }

/-! ## Closing and opening (R231, R236) -/

/-- The next step of a contactor sequence, as the feedbacks stand: closing from CABLE_CHECK on, DC− first; opening in OPENING, DC+
first (R231). -/
def State.ctrStep (s : State) (o : Fin 4) : State :=
  if 5 <= s.outState o && s.outState o <= 7 then
    if s.ctr o 1 && s.ctr o 3 && !s.ctr o 0 then s.driveCtr o false true
    else if s.ctr o 0 && s.ctr o 1 && s.ctr o 2 && s.ctr o 3 && !(s.out o).started then s.closedFirst o
    else s
  else if s.outState o == 9 then
    let s := if !s.ctr o 0 && !s.ctr o 2 && s.ctr o 1 then s.driveCtr o true false else s
    if !s.ctr o 0 && !s.ctr o 1 && !s.ctr o 2 && !s.ctr o 3 then s.opened o else s
  else s

/-- The opening sequence begins (R231, R236 step 3). -/
def State.openContactors (s : State) (o : Fin 4) : State :=
  let s := s.toState o 9
  ((if s.ctr o 0 then s.driveCtr o false false else s).ctrStep o)

/-! ## Stops (R236, R237, R243) -/

/-- STOPPING: the ceilings go to zero and CCP_EN is released (R236 step 1). -/
def State.beginStop (s : State) (o : Fin 4) (cause : Option Nat) : State :=
  ((s.setOut o { s.out o with cause := cause, ccpEn := false }).toState o 8).zeroClaim o

/-- A normal stop (R236); the first stop names the cause (R243). -/
def State.normalStop (s : State) (o : Fin 4) (cause : Option Nat) : State :=
  let st := s.outState o
  if st == 3 || st == 4 then s.endQuiet o
  else if 5 <= st && st <= 7 then s.beginStop o cause
  else s

/-- An emergency stop (R237); it governs from its cause on (R243), and counts once. -/
def State.emergencyStop (s : State) (o : Fin 4) (cause : Nat) : State :=
  let st := s.outState o
  if !s.inSession o.val || (s.out o).emergency then s
  else
    let s := if 5 <= st && st <= 7 then s.beginStop o (some cause) else s
    let s := s.setOut o { s.out o with emergency := true, cause := some cause }
    let s := ((s.stopPort o.val).zeroClaim o).refreshOffer o
    let s := s.count (Reg.ESTOP_CNT o.val)
    let s := s.raise (outSource o) 0x055 1 2 0 s.ltime
    if st == 3 || st == 4 then s.endQuiet o else s

/-! ## FAULT (R239) -/

/-- In FAULT the end record of a session that both contactors had closed for is requested once both read open again (R231). -/
def State.endInFault (s : State) (o : Fin 4) : State :=
  if s.outState o == 11 && (s.out o).started && !s.ctr o 2 && !s.ctr o 3 then
    (s.requestEnd o).setOut o { s.out o with started := false, cause := none }
  else s

/-- An outlet enters FAULT: both drives off, nothing claimed. The end record of a session that both contactors had closed for
follows once both read open again (R231). -/
def State.toFault (s : State) (o : Fin 4) : State :=
  let had := s.inSession o.val
  let x := s.out o
  let s := (s.drivesOff o).zeroClaim o
  let s := if had then (s.runOn o).putBit (Reg.CTR_STATE o.val) 4 false else s
  let s := if had && !x.started then s.stopDone o 0 else s
  let s := s.setOut o { x.ended with started := x.started, cause := x.cause }
  (((s.toState o 11).roleSessionEnd o.val).endInFault o).acctsFree

/-- A contactor reads closed with its drive released (R239). -/
def State.welded (s : State) (o : Fin 4) : State :=
  let before := s.get (Reg.WELD_CNT o.val)
  let s := s.count (Reg.WELD_CNT o.val)
  (s.toFault o).raise1 (outSource o) 0x057 1 before

/-- CONTACTOR_FEEDBACK (R231, R237, R239). -/
def State.feedback (s : State) (o : Fin 4) (neg high : Bool) : State :=
  let i := b2n neg
  let closed := high != bit (s.nat (Reg.CFB_POL o.val)) i
  let was := s.ctr o (2 + i)
  let s := s.putBit (Reg.CTR_STATE o.val) (2 + i) closed
  let st := s.outState o
  let s :=
    if s.ctr o i && was && !closed && 5 <= st && st <= 9 then s.emergencyStop o 4
    else if !s.ctr o i && closed && !was && !s.inSession o.val && st != 12 then s.welded o
    else s
  (s.endInFault o).ctrStep o

/-- The meaning of CONTACTOR_FEEDBACK: the pins are read by every powered unit; a mirroring one drives nothing. -/
def execContactorFeedback (o : Fin 4) (neg : Bool) (high : Bool) (s : State) : Host.Outcome State Fault Refusal :=
  .next (s.live fun s => if s.part.variant = .l then s.feedback o neg high else s)

/-- CTR_TIMEOUT (R239): a contactor that is driven and does not read closed, or released and still reads closed. -/
def execCtrTimeout (o : Fin 4) (neg : Bool) (s : State) : Host.Outcome State Fault Refusal :=
  .next (s.outletLive o fun s =>
    let i := b2n neg
    if s.ctr o i && !s.ctr o (2 + i) && s.inSession o.val then
      let before := s.get (Reg.CTR_STATE o.val)
      (s.toFault o).raise1 (outSource o) 0x152 1 before
    else if !s.ctr o i && s.ctr o (2 + i) then s.welded o
    else s)

/-- The effect of a write of FAULT_CLEAR (R239). -/
def State.outFaultClearEffect (s : State) (o : Fin 4) (v : Nat) : State :=
  if v == 1 && s.outState o == 11 && !s.ctr o 2 && !s.ctr o 3 then
    (s.toState o (if s.outletsOpen then 1 else 0)).rest o
  else s
/-- OUTLET_FAULT_CLEAR. -/
def execOutletFaultClear (h : Hdr) (o : Fin 4) (v : Nat) (s : State) : Host.Outcome State Fault Refusal :=
  .next (s.hostWrite h (Reg.OUT_FAULT_CLEAR o.val) v (·.outFaultClearEffect o v))

/-! ## Pilot, plug and links (R222 to R226) -/

/-- The window of R224 that a high and a low level in mV fall in, none outside every window: 0 A, 1 B, 2 C, 3 D, 4 E, 5 F, and with
a PWM that runs 6 DIODE_FAULT. -/
def pilotWindow (pwm : Bool) (hi lo : Int) : Option Nat :=
  let diode := pwm && -10500 < lo
  if 1500 <= hi then
    some (if diode then 6 else if 10500 <= hi then 0 else if 7500 <= hi then 1 else if 4500 <= hi then 2 else 3)
  else if -1500 <= hi then some 4
  else if hi < -10500 then some 5
  else none

/-- PILOT_STATE takes a level (R224); one outside every window reads as no stated code (log entry 40). -/
def State.senseState (s : State) (o : Fin 4) (hi lo : Int) : State :=
  let pwm := match s.pilotDrive o with | .pwm d => decide (d < 1000) | _ => false
  match pilotWindow pwm hi lo with
  | some c => (s.setOut o { s.out o with pilotOut := false }).putN (Reg.PILOT_STATE o.val) c
  | none => (s.setOut o { s.out o with pilotOut := true }).drawn.putN (Reg.PILOT_STATE o.val) (s.freeAt 17 % 7)

/-- PILOT_STATE_CHANGE (R221, R224, R237): states E and F, DIODE_FAULT and a level outside every window stop a session. -/
def execPilotStateChange (o : Fin 4) (level : PilotLevel) (s : State) : Host.Outcome State Fault Refusal :=
  .next (s.outletSense o fun s =>
    let s := s.senseState o level.hi level.lo
    (if (s.out o).pilotOut || 4 <= s.nat (Reg.PILOT_STATE o.val) then s.emergencyStop o 4 else s).rest o)

/-- PP_CHANGE (R225, R237, R243). -/
def execPpChange (o : Fin 4) (mv : Nat) (s : State) : Host.Outcome State Fault Refusal :=
  .next (s.outletSense o fun s =>
    let inside := s.int (Reg.PP_WIN o.val 1) <= mv && (mv : Int) <= s.int (Reg.PP_WIN o.val 2)
      && s.int (Reg.PP_WIN o.val 1) < s.int (Reg.PP_WIN o.val 2)
    let left := (s.out o).plugged && !inside
    let s := (s.putN (Reg.PP_MV o.val) (min mv 5000)).setOut o { s.out o with plugged := inside }
    (if left then s.emergencyStop o 4 else s).rest o)

/-- SLAC_MATCH (R223): above SLAC_ATTEN_MAX the match is refused and the procedure is repeated. The crypto engine makes the network
membership key of each association, and none under ENTROPY_FAIL (R339). -/
def execSlacMatch (o : Fin 4) (atten : Nat) (s : State) : Host.Outcome State Fault Refusal :=
  .next (s.linkLive o fun s =>
    if s.nat (Reg.OUT_KIND o.val) == 0 && s.outState o == 2 && atten <= s.nat (Reg.SLAC_ATTEN_MAX o.val) && s.nat Reg.TRUST_STATE != 2 then
      s.drawn.setOut o { s.out o with linked := true, nmk := Config.drbg s.fresh 16 }
    else s)

/-- SLAC_FAIL (R223, R492): counted, and an outlet that has only its link returns to PLUGGED. -/
def execSlacFail (o : Fin 4) (s : State) : Host.Outcome State Fault Refusal :=
  .next (s.outletLive o fun s =>
    if s.nat (Reg.OUT_KIND o.val) != 0 then s
    else
      let s := (s.count (Reg.SLAC_FAIL_CNT o.val)).setOut o { s.out o with linked := false, nmk := [] }
      if s.outState o == 3 then
        let s := ((s.stopDone o 0).setOut o (s.out o).ended).zeroClaim o
        (((s.runOn o).toState o 2).roleSessionEnd o.val).acctsFree
      else s)

/-- Whether a usable SECC chain and key are there (R229, R245). -/
def State.secc (s : State) (o : Fin 4) : Bool :=
  let n := s.nat (Reg.SECC_KEY_SLOT o.val)
  !(s.blob (Reg.SECC_CHAIN o.val)).isEmpty && s.slotValid n && bit (s.slotOf n).word 10 && bit (s.slotOf n).word 3

/-- The TCP port that the discovery names: that of the outlet's one connection where it has one, else a port the spec does not give
(R226, log entry 41). -/
def State.tcpPort (s : State) (o : Fin 4) : Nat := (s.out o).tcpPort.getD (s.freeAt 18 % 65536)

/-- SDP_REQUEST (R226, R231): answered on a link that is up; a session starts where no condition fails. -/
def execSdpRequest (o : Fin 4) (s : State) : Host.Outcome State Fault Refusal :=
  .next (s.linkLive o fun s =>
    let up := (s.out o).linked || s.nat (Reg.OUT_KIND o.val) == 1
    if !up then s
    else
      let port := s.tcpPort o
      let s := s.drawn.tell o (.discovery (s.outletAddress o) port (s.secc o))
      if s.outState o == 11 then s.refuse o (s.refusal o)
      else if s.outState o != 2 then s
      else
        let r := s.refusal o
        let s := s.refuse o r
        if r != 0 then s
        else ((s.setOut o { (s.out o).ended with linked := true, nmk := (s.out o).nmk, tcpPort := some port }).putN
          (Reg.PROTOCOL o.val) 0).toState o 3)

/-! ## TLS, protocol and identification (R227 to R230) -/

/-- NEGOTIATE once the handshake is accepted, with TLS complete where it is used (R231). -/
def State.negotiate (s : State) (o : Fin 4) : State :=
  if s.outState o == 3 && (s.out o).handshake then s.toState o 4 else s

/-- Whether a chain of at most four certificates leads to one of the eight roots stored at an object (R229): an element of length 0 is
unused (R245). -/
def State.chainHolds (s : State) (root : Nat → Nat) (c : List Byte × Nat) : Bool :=
  1 <= c.2 && c.2 <= 4 && !c.1.isEmpty && (List.range 8).any fun n => s.blob (root (n + 1)) == c.1

/-- The staple that goes with the device's chain: OCSP_STAPLE, or none while it is absent (R228). -/
def State.staple (s : State) (o : Fin 4) : Option (List Byte) :=
  let b := s.blob (Reg.OCSP_STAPLE o.val)
  if b.isEmpty then none else some b

/-- TLS_HANDSHAKE (R228, R229): it needs the chain and its key, which the session core asks for (R348), and stops under ENTROPY_FAIL
(R339). The chain that a vehicle offers under TLS 1.3 must lead to a root of V2G_ROOT. -/
def execTlsHandshake (o : Fin 4) (hello : TlsHello) (s : State) : Host.Outcome State Fault Refusal :=
  .next (s.linkLive o fun s =>
    let theirs := match hello.client with | some c => !hello.v13 || s.chainHolds (Reg.V2G_ROOT o.val) c | none => true
    if s.outState o != 3 then s
    else if hello.good && theirs && s.secc o && s.nat Reg.TRUST_STATE != 2 then
      let k := s.keyAsk (s.nat (Reg.SECC_KEY_SLOT o.val)) 10 3
      let s := k.1.tell o (.handshake (s.blob (Reg.SECC_CHAIN o.val)) (s.staple o))
      (s.setOut o { s.out o with secured := true, tls13 := hello.v13 }).negotiate o
    else s.count (Reg.TLS_FAIL_CNT o.val))

/-- Whether an entry of the vehicle's is enabled and allowed (R220, R227, R229, R245): ISO 15118-20 needs TLS 1.3, DIN SPEC 70121 has
no TLS, and ISO 15118-2 has TLS 1.2, which TLS_POLICY 1 asks of it. -/
def State.entryOk (s : State) (o : Fin 4) (e : Fin 3) : Bool :=
  let tls := (s.out o).secured
  let v13 := (s.out o).tls13
  bit (s.nat (Reg.PROTO_EN o.val)) e.val && (s.nat (Reg.OUT_KIND o.val) == 0 || e.val == 2) &&
  match e.val with
  | 0 => !tls
  | 1 => if tls then !v13 else s.nat (Reg.TLS_POLICY o.val) == 0
  | _ => tls && v13

/-- A message that is not in the protocol's list: the failure code, and the session ends as a normal stop (R227). -/
def State.unlisted (s : State) (o : Fin 4) : State :=
  if s.inSession o.val then (s.tell o .failed).normalStop o none else s.tell o .failed

/-- Whether the session's protocol lists the messages that DIN SPEC 70121 lacks, and those of ISO 15118-20 alone (R227). -/
def State.beyondDin (s : State) (o : Fin 4) : Bool := s.nat (Reg.PROTOCOL o.val) != 1
/-- The messages of ISO 15118-20 alone. -/
def State.only20 (s : State) (o : Fin 4) : Bool := s.nat (Reg.PROTOCOL o.val) == 0 || 3 <= s.nat (Reg.PROTOCOL o.val)

/-- APP_PROTOCOL_HANDSHAKE (R57, R227, R231). -/
def execAppProtocolHandshake (o : Fin 4) (entries : List (Fin 3)) (s : State) : Host.Outcome State Fault Refusal :=
  .next (s.inStates o [3] fun s =>
    match entries.find? fun e => s.entryOk o e with
    | none => (s.endRefused o 8).raiseCat (outSource o) 0x41 32 (s.get (Reg.REFUSE_REASON o.val))
    | some e =>
      let code := if e.val == 2 then (if s.nat (Reg.OUT_KIND o.val) == 1 then 5 else 3) else e.val + 1
      let s := (s.putN (Reg.PROTOCOL o.val) code).setOut o { s.out o with handshake := true }
      (s.tell o (.protocol code)).negotiate o)

/-- SESSION_SETUP (R227, R230). -/
def execSessionSetup (o : Fin 4) (evcc : List Byte) (s : State) : Host.Outcome State Fault Refusal :=
  .next (s.inStates o [4] fun s => (s.setOut o { s.out o with evcc := evcc }).tell o .ok)

/-- Whether bidirectional services are offered: an ISO 15118-20 session with BPT allowed (R227, R244). -/
def State.bptOffered (s : State) (o : Fin 4) : Bool := 3 <= s.nat (Reg.PROTOCOL o.val) && bit (s.nat (Reg.PROTO_EN o.val)) 3

/-- SERVICE_DISCOVERY (R227). -/
def execServiceDiscovery (o : Fin 4) (s : State) : Host.Outcome State Fault Refusal :=
  .next (s.inStates o [4] fun s => s.tell o (.services (s.bptOffered o)))

/-- SERVICE_SELECTION (R227, R246): a bidirectional service makes PROTOCOL 4 or 6. -/
def execServiceSelection (o : Fin 4) (bpt : Bool) (s : State) : Host.Outcome State Fault Refusal :=
  .next (s.inStates o [4] fun s =>
    if !bpt then s.tell o .ok
    else if !s.bptOffered o then s.tell o .failed
    else
      let p := s.nat (Reg.PROTOCOL o.val)
      (s.putN (Reg.PROTOCOL o.val) (if p == 3 then 4 else if p == 5 then 6 else p)).tell o .ok)

/-- Identification is complete (R230): SESSION_ID, EVCC_ID, EMAID and AUTH, and one Pennant for the host; a contract chain that
leads to no root of MO_ROOT is rejected without it (R229). -/
def State.identify (s : State) (o : Fin 4) (emaid : List Byte) (chain : List Byte × Nat) : State :=
  let before := s.get (Reg.SESSION_ID o.val)
  let id := if s.nat (Reg.SESSION_ID o.val) == 4294967295 then 1 else s.nat (Reg.SESSION_ID o.val) + 1
  let s := s.setOut o { s.out o with emaid := emaid, identified := true }
  let s := (s.putN (Reg.SESSION_ID o.val) id).putB (Reg.EVCC_ID o.val) (str32Of (s.out o).evcc)
  let s := (s.putB (Reg.EMAID o.val) (str32Of emaid)).putN (Reg.AUTH o.val) 0
  if !emaid.isEmpty && !s.chainHolds (Reg.MO_ROOT o.val) chain then s.endRefused o 6 else s.raiseCat (outSource o) 0x42 30 before

/-- AUTHORIZATION (R227, R230): DIN SPEC 70121 has external identification only. -/
def execAuthorization (o : Fin 4) (emaid : List Byte) (chain : List Byte × Nat) (s : State) : Host.Outcome State Fault Refusal :=
  .next (s.inStates o [4] fun s =>
    if !emaid.isEmpty && !s.beyondDin o then s.unlisted o else
    let s := if (s.out o).identified then s else s.identify o emaid chain
    if s.outState o != 4 then s else if (s.out o).authorised then s.tell o .ok else s.tell o .ongoing)

/-- The effect of a write of AUTH (R230): none outside NEGOTIATE, and none after the first ACCEPT or REJECT. -/
def State.authEffect (s : State) (o : Fin 4) (v : Nat) : State :=
  if s.outState o != 4 then s
  else
    let s := s.putN (Reg.AUTH o.val) v
    if !(s.out o).identified || (s.out o).authorised then s
    else if v == 1 then s.setOut o { s.out o with authorised := true }
    else if v == 2 then s.endRefused o 6
    else s
/-- AUTH_WRITE. -/
def execAuthWrite (h : Hdr) (o : Fin 4) (v : Nat) (s : State) : Host.Outcome State Fault Refusal :=
  .next (s.hostWrite h (Reg.AUTH o.val) v (·.authEffect o v))

/-- AUTH_TIMEOUT (R230, R243). -/
def execAuthTimeout (o : Fin 4) (s : State) : Host.Outcome State Fault Refusal :=
  .next (s.outletLive o fun s =>
    if s.outState o == 4 && (s.out o).identified && !(s.out o).authorised then s.endRefused o 7 else s)

/-- CHARGE_PARAMETER_DISCOVERY (R227, R232). -/
def execChargeParameterDiscovery (o : Fin 4) (maxV : Nat) (s : State) : Host.Outcome State Fault Refusal :=
  .next (s.inStates o [4] fun s =>
    (s.setOut o { s.out o with maxV := maxV }).tell o
      (.limits (s.int (Reg.OUT_V_MAX o.val)) (s.int (Reg.OUT_I_MAX o.val)) (s.int (Reg.OUT_P_MAX o.val))))

/-- SCHEDULE_EXCHANGE (R227, R228): a message of ISO 15118-20. -/
def execScheduleExchange (o : Fin 4) (s : State) : Host.Outcome State Fault Refusal :=
  .next (s.linkLive o fun s =>
    if !s.only20 o then s.unlisted o
    else s.inStates o [4, 7] fun s => s.tell o (.schedule 86400 (s.int (Reg.OUT_P_MAX o.val))))

/-! ## Cable check and precharge (R232, R233) -/

/-- Whether V_CABLE is within PCH_TOL of a voltage (R232, R233). -/
def State.vNear (s : State) (o : Fin 4) (v : Int) : Bool := (s.int (Reg.V_CABLE o.val) - v).natAbs <= s.nat (Reg.PCH_TOL o.val)

/-- ISO_R in kΩ from the duty of IMD_PWM in 0.1 % (R232). -/
def State.isoR (s : State) (o : Fin 4) (duty : Option Nat) : Nat :=
  match duty with
  | none => 0xFFFFFFFF
  | some d =>
    if s.nat (Reg.IMD_PWM_USE o.val) == 0 || d <= 50 then 0xFFFFFFFF
    else if 950 <= d then 0
    else s.nat (Reg.IMD_K o.val) * (950 - d) / (d - 50)

/-- With IMD_PWM_USE false ISO_R reads 0xFFFF_FFFF (R232). -/
def State.isoUnused (s : State) (o : Fin 4) : State :=
  if s.nat (Reg.IMD_PWM_USE o.val) == 0 then s.putN (Reg.ISO_R o.val) 0xFFFFFFFF else s

/-- Whether ISO_R reaches a band of so many Ω/V at the test voltage (R232); the comparison is exact. -/
def State.isoAbove (s : State) (o : Fin 4) (band : Nat) : Bool :=
  band * (s.out o).testV.toNat <= s.nat (Reg.ISO_R o.val) * 1000000

/-- CABLE_CHECK_JUDGED (R232). -/
def State.judgeCheck (s : State) (o : Fin 4) (imdOk : Bool) (duty : Option Nat) : State :=
  let before := s.get (Reg.ISO_R o.val)
  let s := (s.setOut o { s.out o with imdOk := imdOk }).putN (Reg.ISO_R o.val) (s.isoR o duty)
  let onlyOk := duty.isNone || s.nat (Reg.IMD_PWM_USE o.val) == 0
  if !imdOk || (!onlyOk && !s.isoAbove o (s.nat (Reg.ISO_FAULT o.val))) then
    (s.raiseCat (outSource o) 0x4F 34 before).normalStop o none
  else if onlyOk || s.isoAbove o (s.nat (Reg.ISO_WARN o.val)) then
    (s.setOut o { s.out o with checked := 1, reached := false }).toState o 6
  else
    ((s.setOut o { s.out o with checked := 2, reached := false }).toState o 6).raiseCat (outSource o) 0x4F 33 before

/-- CABLE_CHECK_JUDGED: in CABLE_CHECK, with V_CABLE at the test voltage. -/
def execCableCheckJudged (o : Fin 4) (imdOk : Bool) (duty : Option Nat) (s : State) : Host.Outcome State Fault Refusal :=
  .next (s.outletLive o fun s =>
    if s.outState o == 5 && s.vNear o (s.out o).testV then s.judgeCheck o imdOk duty else s)

/-- CHK_TIMEOUT (R232). -/
def execChkTimeout (o : Fin 4) (s : State) : Host.Outcome State Fault Refusal :=
  .next (s.outletLive o fun s =>
    if s.outState o == 5 then (s.raiseCat (outSource o) 0x4F 35 (s.get (Reg.ISO_R o.val))).normalStop o none else s)

/-- PRE_CHARGE (R233). -/
def execPreCharge (o : Fin 4) (target : Nat) (s : State) : Host.Outcome State Fault Refusal :=
  .next (s.inStates o [6] fun s =>
    let v : Int := min (target : Int) (s.int (Reg.OUT_V_MAX o.val))
    let r := s.vNear o v
    let s := s.putI (Reg.EV_TARGET_V o.val) (min (target : Int) 2147483647)
    let s := s.setOut o { s.out o with ccpEn := true, ccpSet := v, reached := r }
    s.tell o (.voltage (s.int (Reg.V_CABLE o.val)) r))

/-- PCH_TIMEOUT (R233). -/
def execPchTimeout (o : Fin 4) (s : State) : Host.Outcome State Fault Refusal :=
  .next (s.outletLive o fun s => if s.outState o == 6 && !(s.out o).reached then s.normalStop o none else s)

/-- POWER_DELIVERY (R231, R236). -/
def execPowerDelivery (o : Fin 4) (start : Bool) (s : State) : Host.Outcome State Fault Refusal :=
  .next (s.inStates o [5, 6, 7] fun s =>
    if !start then (s.normalStop o (some 1)).tell o .ok
    else if s.outState o == 6 && (s.out o).reached then
      ((s.toState o 7).count (Reg.SESSION_CNT o.val)).tell o .ok
    else s.tell o .failed)

/-! ## The charge loop (R233 to R235, R241) -/

/-- A limit in W that a current in mA gives at V_CABLE (R234). -/
def State.watts (s : State) (o : Fin 4) (i : Nat) : Nat := i * (s.int (Reg.V_CABLE o.val)).toNat / 1000000

/-- The session ceiling (R234). -/
def State.sessionCeil (s : State) (o : Fin 4) (i : Nat) (p : Option Nat) : Nat :=
  let c := s.watts o i
  let c := match p with | some x => min c x | none => c
  min (min c (s.nat (Reg.OUT_P_MAX o.val))) (s.watts o (s.nat (Reg.OUT_I_MAX o.val)))

/-- Whether the discharge direction governs: a session with BPT, and BPT_DIR DISCHARGE (R234, R241). -/
def State.discharging (s : State) (o : Fin 4) : Bool :=
  (s.nat (Reg.PROTOCOL o.val) == 4 || s.nat (Reg.PROTOCOL o.val) == 6) && s.nat (Reg.BPT_DIR o.val) == 1

/-- The claim of a charge-loop request in TRANSFER (R233, R234, R241). -/
def State.chargeLoop (s : State) (o : Fin 4) (i v : Nat) (p : Option Nat) (di : Nat) (dp : Option Nat) : State :=
  let d := s.discharging o
  let ceil := if d then s.sessionCeil o di dp else s.sessionCeil o i p
  let s := s.setOut o { s.out o with ccpEn := false, discharge := d }
  let s := (s.putI (Reg.EV_TARGET_I o.val) (min (i : Int) 2147483647)).putI (Reg.EV_TARGET_V o.val) (min (v : Int) 2147483647)
  let s := (s.putN (Reg.SESSION_CEIL o.val) ceil).putN (Reg.SESSION_FLOOR o.val) (min (s.nat (Reg.OUT_FLOOR o.val)) ceil)
  let s := s.claimUpdate o
  s.mirror (s.sessionItem o)

/-- The response with the offered limits of this moment (R235). -/
def State.offer (s : State) (o : Fin 4) : State :=
  let s := s.refreshOffer o
  s.tell o (.offer (s.int (Reg.OFFERED_P o.val)) (s.int (Reg.OFFERED_I o.val)) (s.int (Reg.V_CABLE o.val))
    (s.int (Reg.I_OUTLET o.val)) (s.out o).discharge)

/-- CHARGE_LOOP_REQUEST (R233 to R237). The vehicle's emergency stop or error code stops a session in every state, although the loop
itself runs from TRANSFER on. -/
def execChargeLoopRequest (o : Fin 4) (error : Bool) (i v : Nat) (p : Option Nat) (di : Nat) (dp : Option Nat) (s : State) :
    Host.Outcome State Fault Refusal :=
  .next (s.linkLive o fun s =>
    if error && 3 <= s.outState o && s.outState o <= 6 then (s.emergencyStop o 4).tell o .failed
    else s.inStates o [7, 8, 9] fun s =>
    if error then (s.emergencyStop o 4).offer o
    else if s.outState o == 7 then (s.chargeLoop o i v p di dp).offer o
    else s.offer o)

/-! ## Receipts, certificates and other messages (R227, R228) -/

/-- METERING_RECEIPT (R227, R228, R301): not a message of DIN SPEC 70121. -/
def execMeteringReceipt (o : Fin 4) (body : List Byte) (s : State) : Host.Outcome State Fault Refusal :=
  .next (s.linkLive o fun s => if !s.beyondDin o then s.unlisted o else s.inStates o [7, 8, 9, 10] fun s =>
    let s := s.tell o (.meter (s.nat (Reg.E_IMPORT o.val)) (s.nat (Reg.E_EXPORT o.val)))
    s.record ⟨9, some o, 0, s.now, s.nat (Reg.SESSION_ID o.val), padTo 16 (Config.sha256 body), 0⟩)

/-- CERTIFICATE_REQUEST (R227, R228, R245): not a message of DIN SPEC 70121; a body longer than CERT_REQ is answered with the failure
response. -/
def execCertificateRequest (o : Fin 4) (body : List Byte) (s : State) : Host.Outcome State Fault Refusal :=
  .next (s.linkLive o fun s => if !s.beyondDin o then s.unlisted o else s.inStates o [4] fun s =>
    if 1024 < body.length then s.tell o .failed
    else (s.putB (Reg.CERT_REQ o.val) body).putBit (Reg.CTR_STATE o.val) 4 true)

/-- The effect of a write of CERT_RES (R228). -/
def State.certResEffect (s : State) (o : Fin 4) (body : List Byte) : State :=
  if s.ctr o 4 then (s.putBit (Reg.CTR_STATE o.val) 4 false).tell o (.certificate body) else s
/-- CERT_RES_WRITE. -/
def execCertResWrite (h : Hdr) (o : Fin 4) (data : List Byte) (s : State) : Host.Outcome State Fault Refusal :=
  .next (s.hostWriteB h (Reg.CERT_RES o.val) data fun s => (s.certResEffect o data, .ok))

/-- CERT_RES_TIMEOUT (R228). -/
def execCertResTimeout (o : Fin 4) (s : State) : Host.Outcome State Fault Refusal :=
  .next (s.outletLive o fun s => if s.ctr o 4 then (s.putBit (Reg.CTR_STATE o.val) 4 false).tell o .failed else s)

/-- UNKNOWN_MESSAGE (R227). -/
def execUnknownMessage (o : Fin 4) (s : State) : Host.Outcome State Fault Refusal :=
  .next (s.linkLive o (·.unlisted o))

/-- WELDING_DETECTION (R236). -/
def execWeldingDetection (o : Fin 4) (s : State) : Host.Outcome State Fault Refusal :=
  .next (s.inStates o [8, 9, 10] fun s => s.tell o (.voltage (s.int (Reg.V_CABLE o.val)) false))

/-- SESSION_STOP_REQ (R236): the conversation ends; ENDED follows at once without contactor action, else once the contactors read
open. -/
def execSessionStopReq (o : Fin 4) (s : State) : Host.Outcome State Fault Refusal :=
  .next (s.inStates o [3, 4, 5, 6, 7, 8, 9, 10] fun s => (s.tell o .ok).normalStop o (some 1))

/-! ## The course of a stop (R236, R237) -/

/-- FEEDING_GROUPS_PARKED (R236, steps 2 and 3). -/
def execFeedingGroupsParked (o : Fin 4) (s : State) : Host.Outcome State Fault Refusal :=
  .next (s.outletLive o fun s =>
    if s.outState o == 8 && s.int (Reg.OUT_GRANT o.val) == 0 && (s.int (Reg.I_OUTLET o.val)).natAbs <= s.nat (Reg.OPEN_I o.val) then
      s.openContactors o
    else s)

/-- ESTOP_OPEN_EXPIRY (R237, step 3). -/
def execEstopOpenExpiry (o : Fin 4) (s : State) : Host.Outcome State Fault Refusal :=
  .next (s.outletLive o fun s =>
    if s.outState o == 8 && (s.out o).emergency then
      let s := if s.nat (Reg.OPEN_I o.val) < (s.int (Reg.I_OUTLET o.val)).natAbs then s.count (Reg.LOAD_OPEN_CNT o.val) else s
      s.openContactors o
    else s)

/-- IMD_FAULT (R237). -/
def execImdFault (o : Fin 4) (s : State) : Host.Outcome State Fault Refusal :=
  .next (s.outletLive o fun s =>
    let s := s.setOut o { s.out o with imdOk := false }
    if 5 <= s.outState o && s.outState o <= 7 then s.emergencyStop o 4 else s)

/-- IMD_PWM_EDGE_LOST (R232). -/
def execImdPwmEdgeLost (o : Fin 4) (s : State) : Host.Outcome State Fault Refusal :=
  .next (s.outletLive o (·.putN (Reg.ISO_R o.val) 0xFFFFFFFF))

/-- SESSION_STOP after its CMD write was accepted (R240). -/
def State.sessionStop (s : State) (arg : Nat) : State :=
  let o : Fin 4 := Fin.ofNat 4 (arg % 4)
  if s.isStandby then s.refusedWith .sessionStop 3
  else if !s.inSession o.val then s.refusedWith .sessionStop 0x100
  else if bit arg 8 then s.emergencyStop o 3
  else s.normalStop o (some 2)
/-- SESSION_STOP. -/
def execSessionStop (h : Hdr) (arg : Nat) (s : State) : Host.Outcome State Fault Refusal :=
  .next (s.hostCmd h .sessionStop arg (·.sessionStop arg))

/-! ## The outlets class (R72, R78, R80, R243) -/

/-- The outlets that a group of this node feeds (R31). -/
def State.feeds (s : State) (g : Fin 4) (o : Fin 4) : Bool := s.groupPort g == some (s.ownNode, o.val)

/-- Whether the last group that feeds an outlet has just parked (R78, step 4): groups of this node feed it and all of them stand
parked, and its grant is zero, by which the groups of other nodes count (R236 step 2, log entry 22). An outlet that only other nodes
feed opens by R236 alone. -/
def State.feedersParked (s : State) (o : Fin 4) : Bool :=
  ((List.finRange 4).any fun g => s.feeds g o) && ((List.finRange 4).all fun g => !s.feeds g o || s.groups[g].parked) &&
    s.int (Reg.OUT_GRANT o.val) == 0

/-- While the outlets leave OPEN, the contactor delay of an outlet that stops starts once the last group that feeds it has parked
(R78, step 4). -/
def State.noteParked (s : State) : State :=
  let run (o : Fin 4) : Bool := s.modes.ctrDelay[o] || (s.outState o == 8 && s.feedersParked o)
  if s.beh 1 == .opened && s.targetBeh 1 != .opened then { s with modes := { s.modes with ctrDelay := Vector.ofFn run } } else s

/-- The outlets class leaves OPEN: every running session is stopped (R78 step 1, R243). -/
def State.outletsStop (s : State) : State :=
  (List.finRange 4).foldl (fun (st : State) (o : Fin 4) => st.normalStop o (some 5)) s

/-- The engine that runs a cooling loop, where one does (R259, R260). -/
def State.coolEngine (s : State) (o : Fin 4) : Option (Fin 38) :=
  if s.beh 6 == .idle || s.beh 6 == .off || s.beh 1 == .off then none
  else (s.engineOf (0x40 + o.val)).filter fun e => !s.engineFenced e.val && !s.testing 0

/-- An outlet opens once its cooling engine runs (R80, R231, R259). -/
def State.openOutlet (s : State) (o : Fin 4) : State :=
  if s.beh 1 == .opened && s.outState o == 0 && (s.coolEngine o).isSome && !s.cools[o].noEngine then (s.toState o 1).rest o else s

/-- The outlets class reached a behaviour: outlets without a session follow it (R231). -/
def State.outletsArrived (s : State) : State :=
  (List.finRange 4).foldl (fun (st : State) (o : Fin 4) =>
    if st.beh 1 == .mirror then st.toState o 12
    else if st.inSession o.val || st.outState o == 11 then st
    else if st.beh 1 == .opened then (if st.outState o == 12 then (st.toState o 0).openOutlet o else (st.openOutlet o).rest o)
    else st.toState o 0) s

end Sys2Proof.Machine
end

