-- ==== Sys2Proof/Machine/Billing.lean ====
section
/-! DEFINITION. Billing: prepaid accounts, the session records and the registers an increment of energy reaches (chapters 12 and
13). -/

namespace Sys2Proof.Machine

/-! ## Prepaid accounts (R320 to R324) -/

/-- The effect of a write of ACCT_ID (R320). -/
def State.acctIdEffect (s : State) (id : Nat) : State :=
  let n := s.nat Reg.ACCT_SEL
  if s.acctInUse n then s.setAcct n { s.acct n with newId := some id } else s.setAcct n ((s.acct n).renew id)

/-- ACCT_ID_WRITE. -/
def execAcctIdWrite (h : Hdr) (v : Nat) (s : State) : Host.Outcome State Fault Refusal :=
  .next (s.hostWrite h Reg.ACCT_ID v (·.acctIdEffect v))

/-- Whether a minute of the day lies in a window; one that wraps has its end at or before its start, and an empty one its end at
its start (R323). -/
def inWindow (w minute : Nat) (tail : Bool) : Bool :=
  let a := field w 10 0
  let b := field w 26 16
  if a == b then false
  else if a < b then !tail && a <= minute && minute < b
  else if tail then minute < b else a <= minute

/-- Friendly hours at an effective civil time (R323). -/
def State.friendlyAt (s : State) (ect : Nat) : Bool :=
  let d := ect / dayMs
  let m := ect % dayMs / 60000
  inWindow (s.nat (Reg.FRIENDLY_WEEK (weekdayOf d + 1))) m false
    || inWindow (s.nat (Reg.FRIENDLY_WEEK ((weekdayOf d + 6) % 7 + 1))) m true
    || (s.specialOn (dateOf d)).any fun n => bit (s.nat Reg.FRIENDLY_SPECIAL) (n - 1)

/-- Friendly hours now (R323). -/
def State.friendly (s : State) : Bool := s.friendlyAt s.bill.ect

/-- ACCT_STATE of a slot (R320, R322, R323, R336). -/
def State.acctState (s : State) (a : Acct) : Nat :=
  b2n (a.id != 0) + 2 * b2n a.granted + 4 * b2n (a.credit < 0) + 8 * b2n s.friendly + 16 * b2n a.newId.isSome

/-- A credit stop: a normal stop of each session on the slot that is not stopping yet (R322, R236). -/
def State.creditStop (s : State) (n : Nat) : State :=
  (List.finRange 4).foldl (fun (st : State) (o : Fin 4) =>
    let running := 5 <= st.outState o && st.outState o <= 7 && (st.meter o).inSession
    if running && st.nat (Reg.ACCOUNT_SLOT o.val) == n then (st.count Reg.CREDIT_STOP_CNT).normalStop o (some 6) else st) s

/-- A slot whose credit is spent, with no emergency credit to grant (R322). -/
def State.creditSpent (s : State) (n : Nat) : State := if s.friendly then s else s.creditStop n

/-- Emergency credit is granted, with one Pennant (R322). -/
def State.grantCredit (s : State) (n : Nat) : State :=
  let a := s.acct n
  let b := { a with credit := s48 (a.credit + a.ecAmount), ecOut := a.ecAmount, granted := true }
  (s.setAcct n b).raiseCatV 0x9300 0x06 36 (Config.catPrio 36).val (s.acctState a) (s.acctState b)

/-- A slot is evaluated (R322); the grant is itself a change of credit (R331). -/
def State.evaluate (s : State) (n : Nat) : State :=
  let a := s.acct n
  if a.id == 0 || 0 < a.credit then s
  else if !a.granted && 0 < a.ecAmount then
    let s := s.grantCredit n
    if 0 < (s.acct n).credit then s else s.creditSpent n
  else s.creditSpent n

/-- FRIENDLY_HOURS_CHANGE: every slot is evaluated (R322). -/
def execFriendlyHoursChange (s : State) : Host.Outcome State Fault Refusal :=
  .next (s.live fun s =>
    if s.part.variant = .l && s.keeping then s.bill.accts.foldl (fun (st : State) x => st.evaluate x.1) s else s)

/-- ACCOUNT_TOPUP after its CMD write was accepted (R324); the slot is journaled with the registers (R325). -/
def State.accountTopup (s : State) (arg : Nat) : State :=
  let n := field arg 7 0
  let ref := field arg 31 16
  let a := s.acct n
  let amount := s.int Reg.TOPUP_AMOUNT
  if s.isStandby then s.refusedWith .accountTopup 3
  else if a.id == 0 then s.refusedWith .accountTopup 0x100
  else if ref == a.lastRef then s.refusedWith .accountTopup 0x101
  else if amount == 0 then s.refusedWith .accountTopup 0x102
  else
    let s := s.setAcct n { a with credit := s48 (a.credit + amount - a.ecOut), ecOut := 0, granted := false, lastRef := ref }
    let s := (s.evaluate n).commitRegs
    s.completed .accountTopup 0 (ofS 48 (s.acct n).credit)

/-- ACCOUNT_TOPUP. -/
def execAccountTopup (h : Hdr) (arg : Nat) (s : State) : Host.Outcome State Fault Refusal :=
  .next (s.hostCmd h .accountTopup arg (·.accountTopup arg))

/-! ## Increments of energy (R287, R316, R321) -/

/-- Add to a U64 register. -/
def State.addE (s : State) (k n : Nat) : State := s.putN k ((s.nat k + n) % 18446744073709551616)

/-- Import increments are charged to the session's account (R321). -/
def State.charge (s : State) (c : Fin 4) (n : Nat) : State :=
  let slot := s.nat (Reg.ACCOUNT_SLOT c.val)
  let a := s.acct slot
  if !(s.meter c).inSession || 256 <= slot || a.id == 0 then s
  else
    let r := a.res + n * s.nat (Reg.PRICE (s.nat Reg.TARIFF_NOW + 1))
    let whole := r / 1000000
    let s := s.setAcct slot { a with res := r % 1000000, credit := s48 (a.credit - whole) }
    if whole == 0 then s else (s.putI (Reg.SESS_COST c.val) (s48 (s.int (Reg.SESS_COST c.val) + whole))).evaluate slot

/-- Import increments reach the tariff, interval and session registers and the account (R316, R321). -/
def State.attribImport (s : State) (c : Fin 4) (n : Nat) : State :=
  if n == 0 || s.beh 5 == .mirror then s
  else
    let s := (s.addE (Reg.REG_IMPORT c.val (s.nat Reg.TARIFF_NOW + 1)) n).addE (Reg.INT_IMPORT c.val) n
    (if (s.meter c).inSession then s.addE (Reg.SESS_IMPORT c.val) n else s).charge c n

/-- Export increments reach the tariff and session registers (R316). -/
def State.attribExport (s : State) (c : Fin 4) (n : Nat) : State :=
  if n == 0 || s.beh 5 == .mirror then s
  else
    let s := s.addE (Reg.REG_EXPORT c.val (s.nat Reg.TARIFF_NOW + 1)) n
    if (s.meter c).inSession then s.addE (Reg.SESS_EXPORT c.val) n else s

/-- Import increments of a channel reach its registers; on a standby only its own totals count (R297, R316, R331). -/
def State.imported (s : State) (c : Fin 4) (n : Nat) : State :=
  if n == 0 then s else (s.addE (Reg.E_IMPORT c.val) n).attribImport c n

/-- Export increments of a channel reach its registers (R316). -/
def State.exported (s : State) (c : Fin 4) (n : Nat) : State :=
  if n == 0 then s else (s.addE (Reg.E_EXPORT c.val) n).attribExport c n

/-! ## Session records (R231, R240, R299 to R301, R316, R329) -/

/-- The SESSION_START record: the session registers begin at zero (R301, R316, R325). -/
def State.startRecord (s : State) (r : LegalReq) (c : Fin 4) : State :=
  let s := ((s.putN (Reg.SESS_IMPORT c.val) 0).putN (Reg.SESS_EXPORT c.val) 0).putN (Reg.SESS_COST c.val) 0
  let s := (s.putN (Reg.SESS_START c.val) (ltimeOf r.at_)).writeRecord r
  let m := { s.meter c with inSession := true, startSeq := s.nat Reg.LOG_LAST_SEQ, startMissing := s.nat (Reg.MISSING_MS c.val) }
  (s.setMeter c m).commitRegs

/-- DETAIL of a SESSION_END record from its supplied cause (R301). -/
def State.endDetail (s : State) (c : Fin 4) (cause : List Byte) : List Byte :=
  let m := s.meter c
  leBytes 4 m.startSeq ++ leBytes 4 ((s.nat (Reg.MISSING_MS c.val) + 4294967296 - m.startMissing) % 4294967296)
    ++ padTo 2 cause ++ leBytes 2 (s.nat (Reg.ACCOUNT_SLOT c.val))

/-- The SESSION_END record: the session registers hold, waiting account changes are made, and SESSION_STOP completes (R240, R298,
R316, R320, R325). -/
def State.endRecord (s : State) (r : LegalReq) (c : Fin 4) : State :=
  let lost := if s.bill.engFenced[engineOfMeter c] then 128 else 0
  let s := s.writeRecord { r with detail := s.endDetail c r.detail, flags := Nat.lor r.flags lost }
  let s := (s.setMeter c { s.meter c with inSession := false }).acctsFree.commitRegs
  s.stopDone c (Int.tdiv ((s.nat (Reg.SESS_IMPORT c.val) : Int) - s.nat (Reg.SESS_EXPORT c.val)) 1000)

/-- The oldest request that LOG_STATE admits, and the rest (R329). -/
def firstAdmitted (p : LegalReq → Bool) : List LegalReq → Option (LegalReq × List LegalReq)
  | [] => none
  | r :: t =>
    if p r then some (r, t)
    else match firstAdmitted p t with
      | some (x, rest) => some (x, r :: rest)
      | none => none

/-- LEGAL_RECORD_WRITTEN (R329). -/
def State.recordWritten (s : State) : State :=
  if !s.canRecord then s
  else match firstAdmitted (fun r => s.admits r.typ) s.bill.requests with
    | none => s
    | some (r, rest) =>
      let s := { s with bill := { s.bill with requests := rest } }
      match r.chan with
      | some c => if r.typ == 1 then s.startRecord r c else s.endRecord r c
      | none => s.writeRecord r

/-- LEGAL_RECORD_WRITTEN. -/
def execLegalRecordWritten (s : State) : Host.Outcome State Fault Refusal := .next (s.live (·.recordWritten))

end Sys2Proof.Machine
end

