-- ==== Sys2Proof/Machine/Cooling.lean ====
section
/-! DEFINITION. Cooling: the inputs, the thermal model, the derated ceiling, the pump, run-on and the trips (chapter 10). -/

namespace Sys2Proof.Machine

/-! ## Inputs (R248, R249, R258) -/

/-- The characteristic of IEC 60751 for a platinum sensor, scaled: R/R0 times 1.6 × 10^24 at x half-hundredths of a degree, with
A = 3.9083 × 10^-3, B = -5.775 × 10^-7 and, below 0 °C, C = -4.183 × 10^-12 (R248, log entry 31). -/
def pt1000Scaled (x : Int) : Int :=
  1600000000000000000000000 + 39083 * x * 800000000000000 - 5775 * x * x * 4000000000
    - (if x < 0 then 4183 * (x - 20000) * x * x * x else 0)

/-- Whether a resistance in mΩ, of a sensor of 1,000 Ω, lies at or above the characteristic at x half-hundredths. -/
def pt1000At (mohm : Nat) (x : Int) : Bool := pt1000Scaled x * 1000000 <= (mohm : Int) * 1600000000000000000000000

/-- The highest value of n below lo + 2^fuel that holds, where p holds up to some value and lo holds. -/
def highest (p : Int → Bool) : (fuel : Nat) → Int → Int
  | 0, lo => lo
  | f + 1, lo => if p (lo + 2 ^ f) then highest p f (lo + 2 ^ f) else highest p f lo

/-- The temperature of a PT1000 in 0.01 °C, to the nearest, halves away from zero (R248), within -200 °C and the range of the
readback (log entry 31). -/
def pt1000 (mohm : Nat) : Int :=
  if pt1000At mohm 0 then min 32767 (highest (fun n => pt1000At mohm (2 * n - 1)) 16 0)
  else
    let below := highest (fun n => pt1000At mohm (2 * n + 1)) 15 (-20001)
    if pt1000At mohm (2 * below + 1) && pt1000Scaled (2 * below + 1) * 1000000 == (mohm : Int) * 1600000000000000000000000 then below
    else max (-20000) (below + 1)

/-- SENSOR_ASSIGN of an input: 0 UNASSIGNED, 1 FITTED, 2 ABSENT. -/
def State.assign (s : State) (o : Fin 4) (i : Nat) : Nat := s.nat (Reg.SENSOR_ASSIGN o.val (i + 1))

/-- Whether an input counts as failed: UNASSIGNED, or FITTED and failed by its readings (R248, R249). -/
def State.inputFailed (s : State) (o : Fin 4) (i : Fin 7) : Bool :=
  s.assign o i.val == 0 || (s.assign o i.val == 1 && s.cools[o].failed[i])

/-- Whether a PT1000 input is valid: FITTED, not failed, and its last reading is in range. -/
def State.inputValid (s : State) (o : Fin 4) (i : Fin 6) : Bool :=
  s.assign o i.val == 1 && !s.cools[o].failed[i.val] && s.cools[o].bad[i] == 0

/-- SENSOR_FAULT follows the inputs; each failure that begins is counted and raises one Pennant (R258). -/
def State.refreshSensors (s : State) (o : Fin 4) : State :=
  (List.finRange 7).foldl (fun (st : State) (i : Fin 7) =>
    let before := st.get (Reg.SENSOR_FAULT o.val)
    let now := st.inputFailed o i
    let was := bit (st.nat (Reg.SENSOR_FAULT o.val)) i.val
    let st := st.putBit (Reg.SENSOR_FAULT o.val) i.val now
    if now && !was then (st.count (Reg.SENSOR_FAULT_CNT o.val)).raise1 ((0x64 + o.val) * 256) 0x04D 2 before else st) s

/-- Change what a cooling loop holds. -/
def State.setCool (s : State) (o : Fin 4) (c : Cool) : State := { s with cools := s.cools.set o c }

/-- The readback of a PT1000 input. -/
def tempReg (o : Fin 4) (i : Nat) : Nat :=
  match i with
  | 0 => Reg.T_INLET o.val
  | 1 => Reg.T_OUTLET o.val
  | n => Reg.T_PIN o.val (n - 1)

/-- One reading of a PT1000 input (R248): ten consecutive bad ones mark it failed. An input set ABSENT is not read. -/
def State.readInput (s : State) (o : Fin 4) (i : Fin 6) (mohm : Nat) : State :=
  if s.assign o i.val == 2 then s
  else
    let t := pt1000 mohm
    let c := s.cools[o]
    let isBad := t < -5500 || 25000 < t
    let n := if isBad then min 10 (c.bad[i] + 1) else 0
    let rd := if isBad then c.rd else c.rd.set i t
    let failed := if 10 <= n then c.failed.set i.val true else c.failed
    (s.setCool o { c with bad := c.bad.set i n, rd := rd, failed := failed }).putI (tempReg o i.val) t

/-- The flow reading (R249): Q in mL/min; above four times Q_NOM the input is failed. -/
def State.readFlow (s : State) (o : Fin 4) (pulses us : Nat) : State :=
  let q := pulses * 1000000 * 60000 / (us * s.nat (Reg.FLOW_K o.val))
  let s := s.putN (Reg.FLOW_MEAS o.val) (min q 4294967295)
  if 4 * s.nat (Reg.Q_NOM o.val) < q then s.setCool o { s.cools[o] with failed := s.cools[o].failed.set 6 true } else s

/-- FLOW_LOST (R249): a pump that is stopped fails no input. -/
def execFlowLost (o : Fin 4) (s : State) : Host.Outcome State Fault Refusal :=
  .next (s.outletPart o fun s =>
    if s.assign o 6 == 1 && s.nat (Reg.PUMP_MIN o.val) <= s.nat (Reg.PUMP_DUTY o.val) && s.nat (Reg.PUMP_DUTY o.val) != 0 then
      (s.setCool o { s.cools[o] with failed := s.cools[o].failed.set 6 true }).refreshSensors o
    else s)

/-- INPUT_VALID_RETURN (R248, R249). -/
def execInputValidReturn (o : Fin 4) (input : Fin 7) (s : State) : Host.Outcome State Fault Refusal :=
  .next (s.outletPart o fun s =>
    if s.assign o input.val == 1 then
      (s.setCool o { s.cools[o] with failed := s.cools[o].failed.set input false }).refreshSensors o
    else s)

/-! ## The thermal model (R250, R251) -/

/-- The readings of the valid pins, 0.01 °C. -/
def State.validPins (s : State) (o : Fin 4) : List Int :=
  ([2, 3, 4, 5] : List (Fin 6)).filterMap fun i => if s.inputValid o i then some s.cools[o].rd[i] else none

/-- Start the model (R251): from the valid readings, the last T_COND reported and FALLBACK_T. -/
def State.startModel (s : State) (o : Fin 4) (e : Nat) : State :=
  let out := if s.inputValid o 1 then [s.cools[o].rd[1]] else []
  let tc := (s.validPins o ++ out).foldl max s.cools[o].lastCond
  let cool := ([0, 1] : List (Fin 6)).filterMap fun i => if s.inputValid o i then some s.cools[o].rd[i] else none
  let tk := match cool with
    | [a, b] => Int.tdiv ((a + b) * 10000) 2
    | [a] => a * 10000
    | _ => s.int (Reg.FALLBACK_T o.val) * 10000
  s.setCool o { s.cools[o] with started := true, engine := e, tc := tc * 10000, tk := tk, ui := 0 }

/-- The inlet temperature the model takes, µK (R250, R258). -/
def State.tIn (s : State) (o : Fin 4) : Int :=
  10000 * (if !s.inputFailed o 0 then s.cools[o].rd[0] else if !s.inputFailed o 1 then s.cools[o].rd[1]
    else s.int (Reg.FALLBACK_T o.val))

/-- What one step of the model computes: Tc, Tk, T_HS and P (R250). -/
def State.model (s : State) (o : Fin 4) (i q : Int) : Int × Int × Int × Int :=
  let n := o.val
  let c := s.cools[o]
  let p0 := Int.tdiv (Int.tdiv (i * i) 1000000 * s.int (Reg.R_CABLE n)) 1000
  let p := Int.tdiv (p0 * (1000000 + Int.tdiv (s.int (Reg.ALPHA n) * (c.tc - 20000000)) 1000000)) 1000000
  let g := s.int (Reg.G_MIN n) + Int.tdiv ((s.int (Reg.G_NOM n) - s.int (Reg.G_MIN n)) * min q (s.int (Reg.Q_NOM n))) (s.int (Reg.Q_NOM n))
  let w := Int.tdiv (q * s.int (Reg.CP_FLOW n)) 60
  let h := Int.tdiv (g * (c.tc - c.tk)) 1000000
  let x := Int.tdiv (2 * w * (c.tk - s.tIn o)) 1000000
  let tc := c.tc + Int.tdiv ((p - h) * 10) (s.int (Reg.C_COND n))
  let tk := c.tk + Int.tdiv ((h - x) * 10) (s.int (Reg.C_COOL n))
  let mean := Int.tdiv (s.tIn o + 10000 * c.rd[1]) 2
  let tk := if s.inputValid o 0 && s.inputValid o 1 then tk + Int.tdiv (s.int (Reg.K_OBS n) * (mean - tk)) 32768 else tk
  let tc := clampI (-55000000) 300000000 tc
  let tk := clampI (-55000000) 300000000 tk
  (tc, tk, tc + s.int (Reg.R_HS n) * p, p)

/-- A temperature readback in 0.01 °C; outside S16 the spec states no value, and a free one stands there (log entry 2). -/
def State.putTemp (s : State) (k : Nat) (uK : Int) : State :=
  let t := Int.tdiv uK 10000
  if -32768 <= t && t <= 32767 then s.putI k t else (s.putI k (toS 16 (s.freeAt 5))).drawn

/-! ## Derating (R252, R253) -/

/-- The points of the curve that are kept: each above the last one kept (R252). -/
def keepPoints : List (Int × Int) → List (Int × Int)
  | [] => []
  | p :: t => p :: (t.foldl (fun (a : List (Int × Int) × Int) q => if a.2 < q.1 then (a.1 ++ [q], q.1) else a) ([], p.1)).1

/-- The curve's value at a temperature (R252). -/
def curveAt : List (Int × Int) → Int → Int
  | [], _ => 0
  | [p], _ => p.2
  | p :: q :: t, x =>
    if x <= p.1 then p.2
    else if x < q.1 then p.2 + Int.tdiv ((q.2 - p.2) * (x - p.1)) (q.1 - p.1)
    else curveAt (q :: t) x

/-- The points of DERATE_T and DERATE_I (R252). -/
def State.points (s : State) (o : Fin 4) : List (Int × Int) :=
  (List.range 8).map fun i => (s.int (Reg.DERATE_T o.val (i + 1)), s.int (Reg.DERATE_I o.val (i + 1)))

/-- The ceiling before the limit on its rise (R253). -/
def State.ceilingOf (s : State) (o : Fin 4) (td : Int) : Int :=
  if s.cools[o].hold then 0
  else
    let c := curveAt (keepPoints (s.points o)) (Int.tdiv td 10000)
    let c := if ([0, 1, 2, 3, 4, 5] : List (Fin 7)).any fun i => s.inputFailed o i then min c (s.int (Reg.DEGRADED_I o.val)) else c
    if s.inputFailed o 6 then min c (s.int (Reg.NOFLOW_I o.val)) else c

/-- CABLE_P_CEIL follows CABLE_I_CEIL and V_CABLE (R253). -/
def State.refreshPCeil (s : State) (o : Fin 4) : State :=
  let v := max (s.int (Reg.V_CABLE o.val)) (s.int (Reg.V_REF_MIN o.val))
  s.putI (Reg.CABLE_P_CEIL o.val) (Int.tdiv (s.int (Reg.CABLE_I_CEIL o.val) * v) 1000000)

/-- The ceiling of a step: a fall at once, a rise by DERATE_RISE ÷ 100 at most (R253). -/
def State.stepCeiling (s : State) (o : Fin 4) (td : Int) : State :=
  let old := s.int (Reg.CABLE_I_CEIL o.val)
  let c := s.ceilingOf o td
  (s.putI (Reg.CABLE_I_CEIL o.val) (if old < c then min c (old + s.nat (Reg.DERATE_RISE o.val) / 100) else c)).refreshPCeil o

/-! ## Pump, valve and run-on (R254 to R256, R259, R260) -/

/-- COOL_STATE (R257, R259, R260, R263). -/
def State.refreshCool (s : State) (o : Fin 4) : State :=
  let c := s.cools[o]
  let off := s.beh 6 == .idle || s.beh 6 == .off || s.beh 1 == .off
  s.putN (Reg.COOL_STATE o.val)
    (if off then 0 else if c.noEngine then 4 else if s.beh 1 == .mirror then 5 else if c.hold then 3
     else if c.runon.isSome then 2 else if c.active then 1 else 0)

/-- The duty of a step inside the active period, and the integrator after it (R254). -/
def State.pumpStep (s : State) (o : Fin 4) (td : Int) : State :=
  let n := o.val
  let c := s.cools[o]
  let lo := s.int (Reg.PUMP_MIN n)
  let hi := s.int (Reg.PUMP_MAX n)
  if s.beh 1 == .mirror || !c.active then s.setPump o 0
  else
    let e := Int.tdiv td 10000 - s.int (Reg.T_TARGET n)
    let u := Int.tdiv (s.int (Reg.PUMP_KP n) * e) 65536 + c.ui
    let duty := min (max u lo) hi
    let ui := if !(hi < u && 0 < e) && !(u < lo && e < 0) then
        clampI 0 hi (c.ui + Int.tdiv (Int.tdiv (s.int (Reg.PUMP_KI n) * e) 65536) 100) else c.ui
    let full := s.inputFailed o 0 || s.inputFailed o 1 || s.inputFailed o 6 || c.hold
    (s.setCool o { c with ui := ui }).setPump o (if full then hi else duty).toNat

/-- Whether run-on ends at this step (R256); a trip hold keeps it (R257). -/
def State.runonEnds (s : State) (o : Fin 4) (td : Int) : Bool :=
  match s.cools[o].runon with
  | none => false
  | some t =>
    let el := s.now - t
    let good := !((List.finRange 7).any fun i => s.inputFailed o i)
    !s.cools[o].hold && ((s.nat (Reg.RUNON_MIN o.val) <= el && td < 10000 * s.int (Reg.RUNON_T o.val) && good)
      || s.nat (Reg.RUNON_MAX o.val) <= el)

/-- Run-on is judged (R256). -/
def State.judgeRunon (s : State) (o : Fin 4) (td : Int) : State :=
  if s.runonEnds o td then s.setCool o { s.cools[o] with active := false, runon := none } else s

/-! ## Trips (R257) -/

/-- A trip: counted, held with the ceiling at zero, one Pennant of a variant, and an emergency stop in the states of R257. Outside a session the hold is
run-on. -/
def State.coolTrip (s : State) (o : Fin 4) (variant : Nat) : State :=
  let before := s.get (Reg.COOL_TRIP_CNT o.val)
  let c := s.cools[o]
  let runon := if s.inSession o.val then c.runon else some (c.runon.getD s.now)
  let s := (s.count (Reg.COOL_TRIP_CNT o.val)).setCool o { c with hold := true, active := true, runon := runon }
  let s := (s.putI (Reg.CABLE_I_CEIL o.val) (min (s.int (Reg.CABLE_I_CEIL o.val)) 0)).refreshPCeil o
  let s := s.raise1 ((0x64 + o.val) * 256) (0x04F + 256 * variant) 1 before
  if 5 <= s.outState o && s.outState o <= 8 then s.emergencyStop o 4 else s

/-- The trips of a step (R257): each cause trips as it arises, and stops an outlet that it finds in one of the states without an emergency
stop. -/
def State.tripStep (s : State) (o : Fin 4) (ths td : Int) : State :=
  let c := s.cools[o]
  let hold := c.hold && !(td < 10000 * s.int (Reg.T_TARGET o.val))
  let run (i : Fin 4) : Nat :=
    let j : Fin 6 := ⟨i.val + 2, by omega⟩
    if s.inputValid o j && s.int (Reg.PIN_TRIP o.val) <= c.rd[j] then min 3 (c.pinRun[i] + 1) else 0
  let due (st : State) : Bool := 5 <= st.outState o && st.outState o <= 8 && !(st.out o).emergency
  let pins := (List.finRange 4).any fun i => run i == 2 || (run i == 3 && due s)
  let hot := 10000 * s.int (Reg.HS_TRIP o.val) <= ths
  let s := s.setCool o { c with hold := hold, pinRun := Vector.ofFn run, hot := hot }
  let s := if pins then s.coolTrip o 0 else s
  if hot && (!c.hot || due s) then s.coolTrip o 1 else s

/-! ## The step (R250, R259, R260) -/

/-- A warm rebind of the loop copies, and then counts matching steps (R137, R259). -/
def State.coolRebind (s : State) (o : Fin 4) : State :=
  { s with rebinds := s.rebinds.map fun (r : Rebind) =>
      if r.target == 0x40 + o.val && r.warm && r.phase == 0 then { r with phase := 1 }
      else if r.target == 0x40 + o.val && r.warm && r.phase == 1 then { r with matched := r.matched + 1 } else r }

/-- The readbacks and effects of a step whose model has been computed (R250 to R257). -/
def State.coolAfter (s : State) (o : Fin 4) (m : Int × Int × Int × Int) : State :=
  let td := (s.validPins o).foldl (fun (a : Int) x => max a (10000 * x)) m.2.2.1
  let s := s.setCool o { s.cools[o] with tc := m.1, tk := m.2.1, noEngine := false }
  let s := ((s.putTemp (Reg.T_COND o.val) m.1).putTemp (Reg.T_COOL o.val) m.2.1).putTemp (Reg.T_HS o.val) m.2.2.1
  let s := (s.putTemp (Reg.T_DERATE o.val) td).putN (Reg.P_LOSS o.val) (Int.tdiv m.2.2.2 1000).toNat
  let s := s.setCool o { s.cools[o] with lastCond := s.int (Reg.T_COND o.val) }
  let s := (s.tripStep o m.2.2.1 td).stepCeiling o td
  (((s.judgeRunon o td).pumpStep o td).refreshCool o).openOutlet o

/-- The sample of a COOLING trace (R383). -/
def State.traceCool (s : State) (o : Fin 4) (e : Fin 38) : State :=
  s.traceSample 5 o.val (s.nat (Reg.MODEL_STEPS e.val))
    (ofS 16 (s.int (Reg.T_HS o.val)) + ofS 16 (s.int (Reg.T_DERATE o.val)) * 65536 + s.nat (Reg.PUMP_DUTY o.val) % 65536 * 4294967296)

/-- COOLING_STEP. -/
def State.coolingStep (s : State) (o : Fin 4) (ohms : List Nat) (pulses us ns : Nat) : State :=
  match if s.blackLoop then none else s.coolEngine o with
  | none => s
  | some e =>
    let s := (List.finRange 6).foldl (fun (st : State) (i : Fin 6) => st.readInput o i ((ohms[i.val]?).getD 0)) s
    let s := (s.readFlow o pulses us).refreshSensors o
    let c := s.cools[o]
    let s := if c.started && c.engine == e.val then s else s.startModel o e.val
    let i := if c.iNum == 0 then s.int (Reg.I_OUTLET o.val) else Int.tdiv c.iSum c.iNum
    let q : Int := if s.inputFailed o 6 then 0 else s.nat (Reg.FLOW_MEAS o.val)
    let s := (s.count (Reg.MODEL_STEPS e.val)).putMax (Reg.MODEL_STEP_MAX e.val) (min ns 4294967295)
    let s := s.setCool o { s.cools[o] with iSum := 0, iNum := 0 }
    ((s.coolAfter o (s.model o i q)).traceCool o e).coolRebind o

/-- COOLING_STEP. -/
def execCoolingStep (o : Fin 4) (ohms : List Nat) (pulses us ns : Nat) (s : State) : Host.Outcome State Fault Refusal :=
  .next (s.outletPart o (·.coolingStep o ohms pulses us ns))

/-- COOL_LOOP_SILENT (R257, R259, R260): a loop without a running engine; the supervisor drives the pump, and a spare may take it. -/
def State.coolSilent (s : State) (o : Fin 4) : State :=
  if s.beh 6 == .idle || s.beh 6 == .off then s
  else
    let first := !s.cools[o].noEngine
    let before := s.get (Reg.COOL_TRIP_CNT o.val)
    let s := s.setCool o { s.cools[o] with noEngine := true }
    let trips := 5 <= s.outState o && s.outState o <= 8 && (first || !(s.out o).emergency)
    let s := if trips then s.coolTrip o 2
      else if first then s.raise1 ((0x64 + o.val) * 256) 0x24F 1 before else s
    let s := s.setPump o (if s.beh 1 == .mirror then 0 else s.nat (Reg.PUMP_MAX o.val))
    let s := if first then (s.autoRebind (0x40 + o.val)).setCool o { (s.autoRebind (0x40 + o.val)).cools[o] with started := false } else s
    s.refreshCool o

/-- COOL_LOOP_SILENT. -/
def execCoolLoopSilent (o : Fin 4) (s : State) : Host.Outcome State Fault Refusal := .next (s.outletPart o (·.coolSilent o))

/-- A loop without a running engine ends its run-on when RUNON_MAX has passed (R256). -/
def State.runonEnd (s : State) (o : Fin 4) : State :=
  match s.cools[o].runon with
  | none => s
  | some t =>
    if !s.cools[o].hold && s.nat (Reg.RUNON_MAX o.val) <= s.now - t then
      (s.setCool o { s.cools[o] with active := false, runon := none }).refreshCool o
    else s

/-- The end of the run-on of every loop. -/
def State.runonTick (s : State) : State :=
  (List.finRange 4).foldl (fun (st : State) (o : Fin 4) => st.runonEnd o) s

/-- Under engines IDLE or OFF the models halt with the pumps low, and they start anew afterwards (R260). -/
def State.coolHalt (s : State) : State :=
  (List.finRange 4).foldl (fun (st : State) (o : Fin 4) =>
    ((st.setCool o { st.cools[o] with started := false, noEngine := false }).setPump o 0).refreshCool o) s

/-- The outlets class reached a behaviour: in MIRROR the pumps go low, and COOL_STATE follows (R260). -/
def State.coolArrived (s : State) : State :=
  (List.finRange 4).foldl (fun (st : State) (o : Fin 4) =>
    (if st.beh 1 == .mirror then st.setPump o 0 else st).refreshCool o) s

/-- What PUMP carries (R254, R260): low, or PWM at PUMP_FREQ with the duty as its high fraction in 0.1 %, or as its low fraction under
INVERTED. -/
def State.pumpPin (s : State) (o : Fin 4) : Option (Nat × Nat) :=
  if !s.outletDrives o || s.beh 6 == .idle || s.beh 6 == .off then none
  else
    let d := s.nat (Reg.PUMP_DUTY o.val)
    some (s.nat (Reg.PUMP_FREQ o.val), if s.nat (Reg.PUMP_POL o.val) == 1 then 1000 - d else d)

/-! ## The entry into CABLE_CHECK -/

/-- CABLE_CHECK is entered: the active period of the cooling begins, the test voltage is set and the contactors close; without a
running cooling engine the outlet trips (R231, R232, R254, R256, R257). -/
def State.enterCheck (s : State) (o : Fin 4) : State :=
  let v := min (s.out o).maxV (s.int (Reg.OUT_V_MAX o.val))
  let s := { s with cools := s.cools.set o { s.cools[o] with active := true, runon := none } }
  let s := s.setOut o { s.out o with testV := v, ccpEn := true, ccpSet := v, checked := 0 }
  let s := (s.toState o 5).send (.imdTest o.val)
  let s := (s.driveCtr o true true).ctrStep o
  if s.cools[o].noEngine then s.coolTrip o 2 else s

/-- CABLE_CHECK_REQUEST (R231, R232, R243). -/
def execCableCheckRequest (o : Fin 4) (s : State) : Host.Outcome State Fault Refusal :=
  .next (s.inStates o [4, 5, 6] fun s =>
    if s.outState o != 4 then s.tell o (.check (s.out o).checked)
    else if !(s.out o).authorised then s.tell o .failed
    else if s.nat Reg.LOG_STATE != 0 then s.endRefused o 4
    else (s.enterCheck o).tell o (.check 0))

end Sys2Proof.Machine
end

