-- ==== Sys2Proof/Machine/Events.lean ====
section
/-! DEFINITION. Events: the event queue, its losses, windows, outboxes and archive (chapter 15), and their commands. -/

namespace Sys2Proof.Machine

/-! ## Levels -/

/-- The words of a list of packets. -/
def wordsOf (l : List Packet) : Nat := l.foldl (fun a p => a + p.size) 0

/-- Unread words of the current packet (EQ_WORDS_LEFT, R371). -/
def EvState.wordsLeft (e : EvState) : Nat :=
  match e.cur with
  | some (p, n) => p.size - n
  | none => 0

/-- EQ_LEVEL: the words of waiting packets, in both banks, and the unread words of the current one (R371, R373). -/
def EvState.level (e : EvState) : Nat := wordsOf e.waiting + wordsOf e.filling + e.wordsLeft

/-- Whether the compatibility arrangement is in use (R369). -/
def State.compat (s : State) : Bool := s.nat Reg.EQ_MODE == 1

/-- The capacity C of the admission rules: EQ_CAPACITY, or a bank of 256 words (R369, R375). -/
def State.eqCap (s : State) : Nat := if s.compat then 256 else s.nat Reg.EQ_CAPACITY

/-- The quota Q: PEN_QUOTA, at most C, and at most 128 in COMPAT (R369, R375). -/
def State.eqQuota (s : State) : Nat := min (s.nat Reg.PEN_QUOTA) (if s.compat then 128 else s.eqCap)

/-- The level U of the admission rules: EQ_LEVEL, or the words of the filling bank (R369, R375). -/
def State.eqUsed (s : State) : Nat := if s.compat then wordsOf s.ev.filling else s.ev.level

/-- The packets among which a TRACE may be displaced: those waiting, in COMPAT those of the filling bank (R369, R375). -/
def State.eqPool (s : State) : List Packet := if s.compat then s.ev.filling else s.ev.waiting

/-- TRACE words in waiting packets, S of R375. -/
def traceWords (l : List Packet) : Nat := wordsOf (l.filter fun p => p.kind == 3)

/-- Note a change of the level from a value before: the threshold, IRQ and the highest level (R373). -/
def State.levelNoted (s : State) (before : Nat) : State :=
  let n := s.ev.level
  let thr := s.nat Reg.EQ_THRESH
  let s := s.putMax Reg.EQ_LEVEL_MAX n
  if before < thr && thr <= n then { s with ev := { s.ev with irq := true } } else s

/-! ## Packet boundaries (R370) -/

/-- The most urgent priority in a list of packets. -/
def topPrio (l : List Packet) : Nat := l.foldl (fun a p => min a p.prio) 8

/-- Take the oldest packet of a priority out of a list. -/
def takePrio (q : Nat) : List Packet → Option (Packet × List Packet)
  | [] => none
  | p :: t =>
    if p.prio == q then some (p, t)
    else match takePrio q t with
      | some (x, rest) => some (x, p :: rest)
      | none => none

/-- A packet boundary: the oldest whole packet of the highest priority waiting is presented; in COMPAT the banks swap first
when the draining bank is empty (R369, R370). -/
def EvState.boundary (e : EvState) : EvState :=
  let e := if e.waiting.isEmpty then { e with waiting := e.filling, filling := [] } else e
  match takePrio (topPrio e.waiting) e.waiting with
  | some (p, rest) => { e with cur := some (p, 0), waiting := rest }
  | none => { e with cur := none }

/-! ## GAP records (R365, R366, R378) -/

/-- The losses of one discarded packet: LOST_PEN, LOST_STR, LOST_WORDS (R378); words is how many of its words were lost. -/
def lossOf (p : Packet) (words : Nat) : Nat × Nat × Nat :=
  match p.kind with
  | 0 => (1, 0, words)
  | 1 => (field (p.words.getD 2 0) 31 0, 0, words)
  | 2 => (field (p.words.getD 2 0) 31 0, field (p.words.getD 2 0) 63 32, field (p.words.getD 3 0) 31 0 + words)
  | _ => (0, 1, words)

/-- Gather a loss into a pending GAP; the first loss of a run gives its REASON (R378). -/
def Gap.gather (g : Option Gap) (loss : Nat × Nat × Nat) (reason : Nat) : Gap :=
  let g := g.getD ⟨0, 0, 0, reason, false⟩
  { g with lostPen := min (g.lostPen + loss.1) 0xFFFFFFFF, lostStr := min (g.lostStr + loss.2.1) 0xFFFFFFFF,
           lostWords := min (g.lostWords + loss.2.2) 0xFFFFFFFF }

/-- A GAP that has fallen due (R378). -/
def Gap.makeDue (g : Gap) : Gap := { g with due := true }

/-- The GAP record (R365): SOURCE 0xB000, EVENT 0x015, the PEN_SEQ last assigned, priority 2 (R363). -/
def State.gapPacket (s : State) (g : Gap) : Packet :=
  ⟨[s.ltime, recWord1 0xB000 2 0x015 (s.nat Reg.PEN_SEQ_LAST), g.lostPen + g.lostStr * 4294967296,
    g.lostWords + g.reason * 4294967296], 2⟩

/-- Gather a loss of the local queue. -/
def State.loseLocal (s : State) (loss : Nat × Nat × Nat) (reason : Nat) : State :=
  { s with ev := { s.ev with gap := some (Gap.gather s.ev.gap loss reason) } }

/-! ## Admission (R375) -/

/-- Take the oldest TRACE packet out of a list. -/
def takeTrace : List Packet → Option (Packet × List Packet)
  | [] => none
  | p :: t =>
    if p.kind == 3 then some (p, t)
    else match takeTrace t with
      | some (x, rest) => some (x, p :: rest)
      | none => none

/-- Set the pool of R375. -/
def State.setPool (s : State) (l : List Packet) : State :=
  if s.compat then { s with ev := { s.ev with filling := l } } else { s with ev := { s.ev with waiting := l } }

/-- Count a lost TRACE record. -/
def State.countTraceLost (s : State) (words : Nat) : State :=
  (s.count Reg.STR_LOST_CNT).addC Reg.STR_LOST_WORDS words

/-- Discard waiting TRACE packets, oldest first, until n words fit or none is left (R375). -/
def State.displace : (fuel : Nat) → (n : Nat) → State → State
  | 0, _, s => s
  | f + 1, n, s =>
    if s.eqUsed + n <= s.eqCap then s
    else match takeTrace s.eqPool with
      | none => s
      | some (p, rest) =>
        State.displace f n (((s.setPool rest).countTraceLost p.size).loseLocal (lossOf p p.size) 1)

/-- Whether a Pennant-class packet of n words can be admitted: it fits, or fits once waiting TRACE packets are discarded (R375). -/
def State.penFits (s : State) (n : Nat) : Bool := s.eqUsed + n - traceWords s.eqPool <= s.eqCap

/-- Put an admitted packet into the queue; a packet boundary follows when nothing is presented (R368, R370, R373). -/
def State.enqueue (s : State) (p : Packet) : State :=
  let before := s.ev.level
  let s := s.setPool (s.eqPool ++ [p])
  let s := if s.ev.cur.isNone then { s with ev := s.ev.boundary } else s
  s.levelNoted before

/-- Queue a Pennant-class packet that penFits (R375). -/
def State.enqueuePen (s : State) (p : Packet) : State := (s.displace s.eqPool.length p.size).enqueue p

/-! ## Deferral entries (R377) and a due GAP (R378) -/

/-- What a deferral entry emits: its stored record, or a SUMMARY (R365, R377). -/
def DeferEntry.emit (d : DeferEntry) : Packet :=
  if d.count == 1 && d.first.kind == 0 then d.first
  else
    let w1 := recWord1 d.source 1 d.event d.lastSeq
    let w1 := if bit (d.first.words.getD 1 0) 31 then w1 + 2147483648 else w1
    let firstTime := d.first.words.getD (if d.first.kind == 1 then 3 else 0) 0
    ⟨[d.lastTime, w1, d.count + d.firstSeq * 4294967296, firstTime] ++ d.first.words.drop 4, d.prio⟩

/-- Whether a comes before b among deferral entries: highest priority first, then lowest FIRST_SEQ (R377). -/
def DeferEntry.before (a b : DeferEntry) : Bool := a.prio < b.prio || (a.prio == b.prio && a.firstSeq <= b.firstSeq)

/-- The first deferral entry of a destination in the order of R377. -/
def firstDefer (ring : Bool) (l : List DeferEntry) : Option DeferEntry :=
  (l.filter (·.ring == ring)).foldl (fun a d => match a with
    | none => some d
    | some x => if d.before x && d ≠ x then some d else some x) none

/-- The due GAP of the local queue, queued where it can be admitted (R378). -/
def State.emitGap (s : State) : State :=
  match s.ev.gap with
  | none => s
  | some g =>
    if g.due && s.penFits 4 then
      let s := s.displace s.eqPool.length 4
      let g := s.ev.gap.getD g
      let s := { s with ev := { s.ev with gap := none } }
      (s.count Reg.GAP_CNT).enqueue (s.gapPacket g)
    else s

/-- Emit deferral entries of the local queue while they fit, a due GAP ahead of those of its own priority (R377, R378). -/
def State.emitDeferred : (fuel : Nat) → State → State
  | 0, s => s.emitGap
  | f + 1, s =>
    match firstDefer false s.ev.defers with
    | none => s.emitGap
    | some d =>
      let s := if d.prio < 2 then s else s.emitGap
      if s.penFits d.emit.size then
        State.emitDeferred f
          ({ s with ev := { s.ev with defers := s.ev.defers.filter fun x => decide (x ≠ d) } }.enqueuePen d.emit)
      else s.emitGap

/-- What follows a fall of the queue's level (R377): deferred entries and a due GAP are emitted while they fit. -/
def State.levelFell (s : State) : State := s.emitDeferred (s.ev.defers.length + 1)

/-- Emit deferral entries of the ring outbox while it has room (R377, R380). -/
def State.emitRingDeferred : (fuel : Nat) → State → State
  | 0, s => s
  | f + 1, s =>
    match firstDefer true s.ev.defers with
    | none => s
    | some d =>
      if s.ev.outbox.length < 8192 then
        State.emitRingDeferred f { s with ev := { s.ev with
          defers := s.ev.defers.filter fun x => decide (x ≠ d), outbox := s.ev.outbox ++ [d.emit] } }
      else s

/-! ## Packets that become whole (R367, R370, R375) -/

/-- The origin word of a remote record, 0 for a record of this node (R381). -/
def Packet.origin (p : Packet) : Nat :=
  if bit (p.words.getD 1 0) 31 then p.words.getLastD 0 else 0

/-- Admit a Pennant-class packet, or defer it (R375). -/
def State.admitPen (s : State) (p : Packet) : State :=
  if s.penFits p.size then s.enqueuePen p else s.deferPacket false p.origin p

/-- Admit a TRACE packet, or drop it; a TRACE that would be admitted makes a pending GAP due (R375, R378). -/
def State.admitTrace (s : State) (p : Packet) : State :=
  let fits := s.eqUsed + p.size <= s.eqCap && traceWords s.eqPool + p.size <= s.eqCap - s.eqQuota
  match s.ev.gap with
  | none => if fits then s.enqueue p else (s.countTraceLost p.size).loseLocal (lossOf p p.size) 1
  | some g =>
    let s := (s.countTraceLost p.size).loseLocal (lossOf p p.size) 1
    if fits then
      { s with ev := { s.ev with gap := some (s.ev.gap.getD g).makeDue } }.emitGap
    else s

/-- The weighted rotation of the shared lane (R98) from the words left of the first Pennant-class and of the first TRACE packet, 0
where none waits, and Pennant's words in this round: 4 words to Pennant, then 1 to Streamer, until one of the packets is whole. The
class that is first, with what is left of both and the turn; Bulk has no packet for the router. -/
def laneRound : (fuel pen str turn : Nat) → Bool × Nat × Nat × Nat
  | 0, pen, str, turn => (false, pen, str, turn)
  | f + 1, pen, str, turn =>
    if turn < 4 && pen != 0 then
      if pen == 1 then (false, 0, str, turn + 1) else laneRound f (pen - 1) str (turn + 1)
    else if str == 1 then (true, pen, 0, 0)
    else laneRound f pen (str - 1) 0

/-- The next packet of the shared lane that is whole in the tail, and the lane without it (R98, R367). -/
def EvState.laneNext (e : EvState) : Option (Packet × EvState) :=
  let pens := e.lane.filter fun p => p.kind != 3
  let strs := e.lane.filter fun p => p.kind == 3
  let n (l : List Packet) (gone : Nat) : Nat := match l with | p :: _ => p.size - gone | [] => 0
  let r := laneRound 128 (n pens e.lanePen) (n strs e.laneStr) e.laneTurn
  match if r.1 then strs else pens with
  | [] => none
  | p :: _ =>
    some (p, { e with
      lane := e.lane.erase p, laneTurn := r.2.2.2
      lanePen := if r.1 then e.lanePen + (n pens e.lanePen - r.2.1) else 0
      laneStr := if r.1 then 0 else e.laneStr + (n strs e.laneStr - r.2.2.1) })

/-- The next packet of the lane is in the tail with its end mark: it is whole, and is admitted or not (R98, R367, R375). -/
def State.packetWhole (s : State) : State :=
  match s.ev.laneNext with
  | none => s
  | some (p, e) =>
    let s := { s with ev := e }
    if p.kind == 3 then s.admitTrace p else s.admitPen p

/-- QUEUE_PACKET_WHOLE. -/
def execQueuePacketWhole (s : State) : Host.Outcome State Fault Refusal := .next (s.live (·.packetWhole))

/-! ## Popping (R371, R372) -/

/-- Whether a source is the consumer EQ_CONSUMER names (R371). -/
def State.isConsumer (s : State) (src : Src) : Bool :=
  let c := s.nat Reg.EQ_CONSUMER
  c == 0xFFFF || (match src with | .service => c == 0xFFFE | .node a => c == a)

/-- Whether a FLUSH waits for a boundary (R374). -/
def EvState.flushing (e : EvState) : Bool := e.flushPending

/-- Discard the current packet's rest and every waiting packet: the words and the packets discarded. A discard of no words is a loss
too (R374, R378). -/
def State.flushAll (s : State) (reason : Nat) : State × Nat × Nat :=
  let rest : List (Packet × Nat) := match s.ev.cur with
    | some (p, n) => [(p, p.size - n)]
    | none => []
  let lost := rest ++ (s.ev.waiting ++ s.ev.filling).map fun p => (p, p.size)
  let words := lost.foldl (fun a x => a + x.2) 0
  let s := (lost.foldl (fun st x => st.loseLocal (lossOf x.1 x.2) reason) s).loseLocal (0, 0, 0) reason
  let s := s.addC Reg.EQ_FLUSH_WORDS words
  let s := { s with ev := { s.ev with cur := none, waiting := [], filling := [], flushPending := false,
                                      gap := s.ev.gap.map Gap.makeDue } }
  (s.levelFell, words, lost.length)

/-- VALUE of QUEUE_FLUSH: [31:0] words and [47:32] packets discarded (R374). -/
def flushValue (words packets : Nat) : Nat := words + packets * 4294967296

/-- A pending FLUSH at a packet boundary (R374). -/
def State.flushAtBoundary (s : State) : State :=
  if s.ev.flushing then
    let r := s.flushAll 3
    r.1.completed .queueFlush 0 (flushValue r.2.1 r.2.2)
  else s

/-- A packet boundary after a pop or a discard: a pending FLUSH first, then the next packet, then deferred entries (R370, R374,
R377). -/
def State.atBoundary (s : State) : State :=
  if s.ev.flushing then ({ s with ev := { s.ev with cur := none } }).flushAtBoundary
  else ({ s with ev := s.ev.boundary }).levelFell

/-- A pop while the queue is empty (R372). -/
def State.underrun (s : State) : State :=
  { s.count Reg.EQ_UNDERRUN_CNT with ev := { s.ev with underrun := true } }

/-- Pop n words of the current packet (R370, R371). -/
def State.popWords (s : State) (n : Nat) : State :=
  match s.ev.cur with
  | none => s
  | some (p, k) =>
    let last := p.size <= k + n
    let s := { s with ev := { s.ev with cur := some (p, min (k + n) p.size), endLast := last,
                                        lastWord := p.words.getD (min (k + n) p.size - 1) 0 } }
    if last then s.atBoundary else s.levelFell

/-- The unread words of the current packet (R371). -/
def EvState.unread (e : EvState) : List Nat :=
  match e.cur with
  | some (p, k) => p.words.drop k
  | none => []

/-- A read of EQ_WORD: one word of the current packet, or an underrun (R371, R372). -/
def State.readWord (s : State) (src : Src) : State × Status × List Byte :=
  if !s.recoveryOk Reg.EQ_WORD || !s.isConsumer src then (s, .accessError, [])
  else if s.ev.wordsLeft == 0 then (s.underrun, .ok, leBytes 8 s.ev.lastWord)
  else (s.popWords 1, .ok, leBytes 8 (s.ev.unread.headD 0))

/-- A read of EQ_PACKET: the rest of the current packet, or an underrun (R371, R372). -/
def State.readPacket (s : State) (src : Src) : State × Status × List Byte :=
  if !s.recoveryOk Reg.EQ_PACKET || !s.isConsumer src then (s, .accessError, [])
  else if s.ev.wordsLeft == 0 then (s.underrun, .ok, leBytes 2 0)
  else (s.popWords s.ev.wordsLeft, .ok, leBytes 2 (8 * s.ev.wordsLeft) ++ s.ev.unread.flatMap (leBytes 8))

/-- EQ_WORD_READ (R371, R372). -/
def execEqWordRead (h : Hdr) (s : State) : Host.Outcome State Fault Refusal :=
  if !s.answersTo h.src then .next s
  else .next ((s.readWord h.src).1.answerR h (s.readWord h.src).2.1 (s.readWord h.src).2.2)

/-- EQ_PACKET_READ (R371, R372). -/
def execEqPacketRead (h : Hdr) (s : State) : Host.Outcome State Fault Refusal :=
  if !s.answersTo h.src then .next s
  else .next ((s.readPacket h.src).1.answerR h (s.readPacket h.src).2.1 (s.readPacket h.src).2.2)

/-- The effect of a write of EQ_CLEAR (R372, R373). -/
def State.eqClear (s : State) (v : Nat) : State :=
  { s with ev := { s.ev with underrun := s.ev.underrun && !bit v 2, irq := s.ev.irq && !bit v 3 } }

/-- EQ_CLEAR. -/
def execEqClear (h : Hdr) (v : Nat) (s : State) : Host.Outcome State Fault Refusal :=
  .next (s.hostWrite h Reg.EQ_CLEAR v (·.eqClear v))

/-! ## QUEUE_FLUSH (R374) -/

/-- The committed capacity as QUEUE_FLUSH takes it: COMPAT counts as 512 (R374). -/
def State.flushCap (s : State) : Nat := if s.compat then 512 else s.nat Reg.EQ_CAPACITY

/-- DROP_REST at its ordering point (R374). -/
def State.dropRest (s : State) : State :=
  match s.ev.cur with
  | none => s.completed .queueFlush 0 0
  | some (p, n) =>
    let words := p.size - n
    let s := s.loseLocal (lossOf p words) 4
    let s := { s with ev := { s.ev with gap := s.ev.gap.map Gap.makeDue } }
    let s := s.addC Reg.EQ_FLUSH_WORDS words
    (s.atBoundary).completed .queueFlush 0 (flushValue words 1)

/-- FLUSH at its ordering point: at once, or PENDING until the next packet boundary (R374). -/
def State.flush (s : State) : State :=
  let unpopped := match s.ev.cur with
    | some (_, n) => n == 0
    | none => true
  if s.flushCap <= 512 || unpopped then
    let r := s.flushAll 3
    r.1.completed .queueFlush 0 (flushValue r.2.1 r.2.2)
  else { s with ev := { s.ev with flushPending := true } }

/-- QUEUE_FLUSH after its CMD write was accepted: who sent it, the capacity, and the operation (R374). -/
def State.queueFlush (s : State) (src : Src) (arg : Nat) : State :=
  if !s.isConsumer src then s.refusedWith .queueFlush 0x0100
  else if arg == 1 then (if 512 < s.flushCap then s.refusedWith .queueFlush 0x0101 else s.dropRest)
  else s.flush

/-- DROP_REST. -/
def execDropRest (h : Hdr) (arg : Nat) (s : State) : Host.Outcome State Fault Refusal :=
  .next (s.hostCmd h .queueFlush arg (·.queueFlush h.src arg))

/-- FLUSH. -/
def execFlush (h : Hdr) (arg : Nat) (s : State) : Host.Outcome State Fault Refusal :=
  .next (s.hostCmd h .queueFlush arg (·.queueFlush h.src arg))

/-- Whether some words of the current packet have been popped and others not: no packet boundary (R370). -/
def EvState.midPacket (e : EvState) : Bool :=
  match e.cur with
  | some (p, k) => 0 < k && k < p.size
  | none => false

/-- FLUSH_AT_BOUNDARY: the packet boundary a pending FLUSH waits for (R370, R374). -/
def execFlushAtBoundary (s : State) : Host.Outcome State Fault Refusal :=
  .next (s.live fun s => if s.ev.midPacket then s else s.flushAtBoundary)

/-! ## Raising (R366, R383) -/

/-- PENNANT_RAISE: a Pennant whose code, catalogue priority and DETAIL_KIND the source gives. -/
def execPennantRaise (source event prio detailKind before extra : Nat) (s : State) : Host.Outcome State Fault Refusal :=
  .next (s.live (·.raise source event prio detailKind before extra))

/-- SOURCE of a trace (R362, R383): the group of the subsystem that raises it, with the leg's element for LOOP. -/
def traceSource (kind inst : Nat) : Nat :=
  match kind with
  | 1 => (0x10 + inst / 8) * 256 + (inst % 8 + 1)
  | 2 => 0x5000
  | 3 => (0x60 + inst) * 256
  | 4 => (0x72 + inst) * 256
  | _ => (0x64 + inst) * 256

/-- The TRACE record of a kind (R383): header, descriptor, at most twelve samples; priority 7 (R363). -/
def State.tracePacket (s : State) (kind inst reference seq : Nat) (samples : List Nat) : Packet :=
  let ss := samples.take 12
  ⟨[s.ltime, recWord1 (traceSource kind inst) 3 0 seq, kind + inst * 256 + ss.length * 65536 + reference % 4294967296 * 4294967296] ++ ss, 7⟩

/-- Bytes held in the trace outbox (TRACE_OUTBOX_LEVEL). -/
def EvState.traceBytes (e : EvState) : Nat := 8 * wordsOf e.traceBox

/-- Take a TRACE record into the trace outbox, or drop it (R383). -/
def State.toTraceBox (s : State) (p : Packet) : State :=
  if s.nat Reg.TRACE_NODE == 0xFFFF then s
  else if s.ev.traceBytes + 8 * p.size <= 262144 then { s with ev := { s.ev with traceBox := s.ev.traceBox ++ [p] } }
  else { s.countTraceLost p.size with ev := { s.ev with traceGap := some (Gap.gather s.ev.traceGap (lossOf p p.size) 2) } }

/-- A TRACE record leaves under the next STR_SEQ (R366, R383). -/
def State.traceRecord (s : State) (kind inst reference : Nat) (samples : List Nat) : State :=
  let seq := nextSeq32 (s.nat Reg.STR_SEQ_LAST)
  let s := s.putN Reg.STR_SEQ_LAST seq
  let p := s.tracePacket kind inst reference seq samples
  if s.nat Reg.TRACE_DEST == 0 then s.toLane p else s.toTraceBox p

/-- The samples of a kind and instance that wait (R383). -/
def EvState.samplesOf (e : EvState) (kind inst : Nat) : List TraceSample :=
  e.samples.filter fun x => x.kind == kind && x.inst == inst

/-- The samples of a kind and instance without its first ones. -/
def EvState.dropSamples (e : EvState) (kind inst n : Nat) : EvState :=
  { e with samples := e.samples.filter (fun x => !(x.kind == kind && x.inst == inst)) ++ (e.samplesOf kind inst).drop n }

/-- The sample of a SESSION trace: the message and its length with the outlet's PROTOCOL (R383). -/
def State.sessionSample (s : State) (o message length : Nat) : Nat :=
  message % 131072 + s.nat (Reg.PROTOCOL o) % 256 * 16777216 + length % 4294967296 * 4294967296

/-- TRACE_RAISE (R366, R383): of SESSION, one record a message; of the other kinds, one record once twelve samples wait, with the
reference of the first. What waits of a trace that is off is dropped. -/
def State.traceRaise (s : State) (kind inst message length : Nat) : State :=
  if !s.traceOn kind inst then { s with ev := s.ev.dropSamples kind inst s.ev.samples.length }
  else if kind == 3 then s.traceRecord 3 inst (s.nat (Reg.SESSION_ID inst)) [s.sessionSample inst message length]
  else
    let l := (s.ev.samplesOf kind inst).take 12
    if l.length < 12 then s
    else ({ s with ev := s.ev.dropSamples kind inst 12 }).traceRecord kind inst ((l.head?.map fun (x : TraceSample) => x.reference).getD 0) (l.map fun (x : TraceSample) => x.word)

/-- TRACE_RAISE. -/
def execTraceRaise (kind inst message length : Nat) (s : State) : Host.Outcome State Fault Refusal :=
  .next (s.live (·.traceRaise kind inst message length))

/-! ## Windows, due GAPs, outboxes -/

/-- The SUMMARY of a window (R365, R376). -/
def CoalEntry.summary (c : CoalEntry) : Packet :=
  ⟨[c.lastTime, recWord1 c.source 1 c.event c.lastSeq, c.count + c.firstSeq * 4294967296, c.firstTime], c.prio⟩

/-- The end of a window (R376, R386): with a count above zero one SUMMARY and a new window; otherwise it closes. -/
def State.coalWindowEnd (s : State) (source event : Nat) : State :=
  match s.ev.coal.find? fun c => c.source == source && c.event == event with
  | none => s
  | some c =>
    if c.count == 0 then
      { s with ev := { s.ev with coal := s.ev.coal.filter fun (x : CoalEntry) => !(x.source == source && x.event == event) } }
    else
      let s := { s with ev := { s.ev with coal := s.ev.coal.map fun (x : CoalEntry) =>
        if x.source == source && x.event == event then
          { x with count := 0, firstSeq := 0, firstTime := 0, lastSeq := 0, lastTime := 0 }
        else x } }
      s.dispatch ⟨c.prio, c.toLocal, c.toRing, true, c.toArchive⟩ c.summary

/-- COAL_WINDOW_END. -/
def execCoalWindowEnd (source event : Nat) (s : State) : Host.Outcome State Fault Refusal :=
  .next (s.live (·.coalWindowEnd source event))

/-- A pending GAP falls due and is queued where it fits (R378). -/
def State.gapDue (s : State) : State := { s with ev := { s.ev with gap := s.ev.gap.map Gap.makeDue } }.emitGap

/-- GAP_DUE. -/
def execGapDue (s : State) : Host.Outcome State Fault Refusal :=
  .next (s.live (·.gapDue))

/-- One token more, up to RING_PEN_BURST (R380). -/
def State.tokenGain (s : State) : State :=
  if s.nat Reg.RING_TOKENS < s.nat Reg.RING_PEN_BURST then s.putN Reg.RING_TOKENS (s.nat Reg.RING_TOKENS + 1) else s

/-- RING_TOKEN_GAIN. -/
def execRingTokenGain (s : State) : Host.Outcome State Fault Refusal := .next (s.live (·.tokenGain))

/-- The data bytes of a frame of k slots (R380). -/
def frameBytes (k : Nat) : Nat := if k <= 1 then 92 else 120 * k - 28

/-- The slots n records of 32 bytes need (R380), at most 16. -/
def slotsFor (n : Nat) : Nat := ((List.range 16).map (· + 1)).find? (fun k => 32 * n <= frameBytes k) |>.getD 16

/-- Take n packets of an outbox in the order of R370. -/
def takeOrdered : (n : Nat) → List Packet → List Packet × List Packet
  | 0, l => ([], l)
  | n + 1, l =>
    match takePrio (topPrio l) l with
    | none => ([], l)
    | some (p, rest) =>
      let r := takeOrdered n rest
      (p :: r.1, r.2)

/-- RING_OUTBOX_SEND: a frame leaves when records wait, a token is held, and 59 records wait or the oldest has waited long
enough; a fall of the outbox emits its deferral entries (R377, R380). A frame that cannot be tagged now stays and is counted (R350). -/
def State.outboxSend (s : State) (waitedMs : Nat) : State :=
  let n := s.ev.outbox.length
  let tokens := s.nat Reg.RING_TOKENS
  if n == 0 || tokens == 0 || !(59 <= n || s.nat Reg.RING_PEN_GATHER <= waitedMs) then s
  else if !s.canSendFrame 3 then s.sendFrame 3 (s.nat Reg.ALARM_NODE) []
  else
    let k := min tokens (min 16 (slotsFor n))
    let r := takeOrdered (min n (frameBytes k / 32)) s.ev.outbox
    let s := { s with ev := { s.ev with outbox := r.2 } }
    let s := s.putN Reg.RING_TOKENS (tokens - k)
    let s := s.addC Reg.RING_PEN_SENT_CNT r.1.length
    let s := s.sendFrame 3 (s.nat Reg.ALARM_NODE) (r.1.flatMap fun p => (p.words.take 4).flatMap (leBytes 8))
    s.emitRingDeferred (s.ev.defers.length + 1)

/-- RING_OUTBOX_SEND. -/
def execRingOutboxSend (waitedMs : Nat) (s : State) : Host.Outcome State Fault Refusal :=
  .next (s.live (·.outboxSend waitedMs))

/-- As many whole packets as fit into the largest frame's bytes (R383). -/
def takeFit : (room : Nat) → List Packet → List Packet × List Packet
  | _, [] => ([], [])
  | room, p :: t =>
    if 8 * p.size <= room then
      let r := takeFit (room - 8 * p.size) t
      (p :: r.1, r.2)
    else ([], p :: t)

/-- TRACE_OUTBOX_SEND: a frame of whole TRACE records, the outbox's GAP ahead of them (R383). -/
def State.traceSend (s : State) : State :=
  let all := (match s.ev.traceGap with | some g => [s.gapPacket g] | none => []) ++ s.ev.traceBox
  if all.isEmpty || s.nat Reg.TRACE_NODE == 0xFFFF then s
  else if !s.canSendFrame 4 then s.sendFrame 4 (s.nat Reg.TRACE_NODE) []
  else
    let r := takeFit (frameBytes 16) all
    let s := if s.ev.traceGap.isSome then s.count Reg.GAP_CNT else s
    let s := { s with ev := { s.ev with traceGap := none, traceBox := r.2 } }
    s.sendFrame 4 (s.nat Reg.TRACE_NODE) (r.1.flatMap fun p => p.words.flatMap (leBytes 8))

/-- TRACE_OUTBOX_SEND. -/
def execTraceOutboxSend (s : State) : Host.Outcome State Fault Refusal :=
  .next (s.live (·.traceSend))

/-! ## Remote records (R381) -/

/-- Pass one record of a received frame through the router: REMOTE set, the origin word appended, no coalescing, never to the
ring again (R381). -/
def State.remoteRecord (s : State) (origin : Nat) (words : List Nat) : State :=
  let w1 := words.getD 1 0
  let p : Packet := ⟨[words.getD 0 0, setBit w1 31 true] ++ words.drop 2 ++ [origin], 7⟩
  let s := s.count Reg.RING_PEN_RX_CNT
  if p.kind == 3 then s.toLane p
  else if p.kind == 2 then s.toLane { p with prio := 2 }
  else
    let r := s.routeOf p.source p.event (Config.catPrio (p.source * 4096 + p.event)).val
    let p := { p with prio := r.prio }
    let s := if r.toArchive then s.archiveWrite p origin else s
    if r.toLocal then s.toLane p else if r.toArchive then s else s.count Reg.PEN_SUPPRESSED_CNT

/-- The 64-bit words of a byte list. -/
def wordsOfBytes : (n : Nat) → List Byte → List Nat
  | 0, _ => []
  | n + 1, bs => leAt bs 0 8 :: wordsOfBytes n (bs.drop 8)

/-- The records of a CONTENT 0x03 frame, 32 bytes each (R380, R381). -/
def State.remotePennants : (n : Nat) → (origin : Nat) → List Byte → State → State
  | 0, _, _, s => s
  | n + 1, origin, bs, s => State.remotePennants n origin (bs.drop 32) (s.remoteRecord origin (wordsOfBytes 4 bs))

/-- The length in words of the record at the head of a CONTENT 0x04 frame (R365, R383). -/
def traceRecordWords (bs : List Byte) : Nat :=
  if field (leAt bs 8 8) 30 28 == 3 then 3 + min 12 (field (leAt bs 16 8) 23 16) else 4

/-- The records of a CONTENT 0x04 frame (R381, R383). The fuel bounds their number. -/
def State.remoteTraces : (fuel : Nat) → (origin : Nat) → List Byte → State → State
  | 0, _, _, s => s
  | f + 1, origin, bs, s =>
    if bs.length < 24 || bs.length < 8 * traceRecordWords bs then s
    else State.remoteTraces f origin (bs.drop (8 * traceRecordWords bs))
      (s.remoteRecord origin (wordsOfBytes (traceRecordWords bs) bs))

/-- What COMMIT_APPLY does for the event objects: the token bucket holds no more than
RING_PEN_BURST (R380), and a change of EQ_MODE discards the queue and queues one GAP (R385). -/
def State.eventsCommitted (s : State) (oldMode : Nat) : State :=
  let s := s.putN Reg.RING_TOKENS (min (s.nat Reg.RING_TOKENS) (s.nat Reg.RING_PEN_BURST))
  if s.nat Reg.EQ_MODE == oldMode then s
  else
    let lost := (match s.ev.cur with | some (p, n) => [(p, p.size - n)] | none => []) ++
      (s.ev.waiting ++ s.ev.filling).map fun p => (p, p.size)
    let s := lost.foldl (fun st x => st.loseLocal (lossOf x.1 x.2) 5) s
    let s := s.loseLocal (0, 0, 0) 5
    let s := { s with ev := { s.ev with cur := none, waiting := [], filling := [],
                                        gap := s.ev.gap.map Gap.makeDue } }
    s.levelFell

/-- EQ_STATUS as it reads (R371, R372, R378). -/
def State.eqStatus (s : State) : Nat :=
  b2n (s.ev.level == 0) + 2 * b2n s.ev.endLast + 4 * b2n s.ev.underrun + 8 * b2n s.ev.irq + 16 * b2n s.ev.flushPending
    + 32 * b2n s.ev.gap.isSome + 64 * b2n (s.ev.defers.any fun d => !d.ring)
    + 256 * (match s.ev.cur with | some (p, _) => p.prio | none => 0)

/-- The archive entry with a given ARCH_SEQ, length 0 where none is held (R384). -/
def EvState.archEntry (e : EvState) (seq : Nat) : List Byte :=
  (e.archive.find? fun r => leAt r 40 4 == seq).getD []

end Sys2Proof.Machine
end

