-- ==== Sys2Proof/Machine/Ring.lean ====
section
/-! DEFINITION. Ring: slots, marks, the hoist, wraps, bypass, frames and the roster of the Halyard ring (chapter 08). -/

namespace Sys2Proof.Machine

/-! ## Names -/

/-- SERIAL_TAG of this unit (R196). -/
def State.serialTag (s : State) : Nat := crc32 s.part.serial
/-- Whether this node is the hoist (R218). -/
def State.isHoist (s : State) : Bool := bit (s.nat Reg.RING_STATUS) 5
/-- Change the ring engine's record. -/
def State.withRing (s : State) (r : RingState) : State := { s with ring := r }
/-- ROSTER_SIZE follows the roster (R186). -/
def State.refreshRoster (s : State) : State := s.putN Reg.ROSTER_SIZE s.ring.roster.length

/-! ## Marks on the wire (R189, R196) -/

/-- One roster change's 12 bytes (R196). -/
def Change.encode (c : Change) : List Byte :=
  leBytes 2 c.addr ++ leBytes 1 c.action ++ leBytes 1 c.reason ++ leBytes 4 c.tag ++ leBytes 4 c.epoch
/-- The change at the head of 12 bytes. -/
def Change.decode (bs : List Byte) : Change := ⟨leAt bs 0 2, leAt bs 2 1, leAt bs 3 1, leAt bs 4 4, leAt bs 8 4⟩

/-- An EPOCH_MARK's 120 bytes (R196). -/
def Mark.payload (m : Mark) : List Byte :=
  padTo 120 (leBytes 8 m.epoch ++ leBytes 4 m.tag ++ leBytes 4 m.period ++ leBytes 2 m.nodes
    ++ leBytes 1 (b2n m.wrapped + 2 * b2n m.succession) ++ leBytes 1 (min 8 m.changes.length) ++ zeros 4
    ++ (m.changes.take 8).flatMap Change.encode)

/-- The EPOCH_MARK of a header and a payload (R189, R196). -/
def Mark.decode (src hops : Nat) (turned : Bool) (bs : List Byte) : Mark :=
  ⟨src, hops, turned, leAt bs 0 8, leAt bs 8 4, leAt bs 12 4, leAt bs 16 2, bit (leAt bs 18 1) 0, bit (leAt bs 18 1) 1,
   (List.range (min 8 (leAt bs 19 1))).map fun i => Change.decode (bs.drop (24 + 12 * i))⟩

/-! ## The roster (R210 to R214, R501) -/

/-- This node joins the roster (R181): it holds, without a checksum and with nothing granted. -/
def State.becomeMember (s : State) : State :=
  let s := { s with site := { s.site with hold := true, clearHold := false, crc := none, applied := Grants.zero, safe := Grants.zero,
                                          last := [] } }
  s.putN Reg.ROSTER_STATE 2

/-- Own WAVE and ENSIGN slots that wait are dropped (R501). -/
def State.dropOwn (s : State) : State :=
  { s with ring := { s.ring with items := [], ready := Vector.replicate 2 [],
                                 wave := s.ring.wave.map fun (l : List (Bool × List Byte)) => l.filter fun x => !x.1 } }

/-- This node learns of its removal (R213, R501): it stops inserting WAVE and ENSIGN slots. -/
def State.learnRemoved (s : State) : State :=
  let s := s.dropOwn
  let s := { s with ring := { s.ring with roster := s.ring.roster.filter fun m => m.addr != s.nat Reg.RING_ADDR, marks := 0 } }
  let s := { s with site := { s.site with hold := false, clearHold := false, crc := none, safe := Grants.zero } }
  (s.putN Reg.ROSTER_STATE 0).refreshRoster.refreshAlloc

/-- Whether a change concerns this unit itself. -/
def State.names (s : State) (c : Change) : Bool := c.addr == s.nat Reg.RING_ADDR && (c.action != 1 || c.tag == s.serialTag)

/-- One roster change takes effect (R202, R210, R212). The hoist of a wrapped site corrects M by it. -/
def State.applyChange (s : State) (c : Change) : State :=
  let wrappedHoist := s.isHoist && bit (s.nat Reg.RING_STATUS) 4
  if c.action == 1 then
    let rest := s.ring.roster.filter fun m => m.addr != c.addr
    let s := { s with ring := { s.ring with roster := rest ++ [(⟨c.addr, c.tag⟩ : Member)] } }
    let s := if wrappedHoist then s.putN Reg.RING_NODES (s.nat Reg.RING_NODES + 1) else s
    (if s.names c then s.becomeMember else s).refreshRoster
  else if c.action == 2 then
    let s := { s with ring := { s.ring with roster := s.ring.roster.filter fun m => m.addr != c.addr } }
    let s := if wrappedHoist then s.putN Reg.RING_NODES (s.nat Reg.RING_NODES - 1) else s
    (if c.addr == s.nat Reg.RING_ADDR then s.learnRemoved else s).refreshRoster
  else s

/-- The changes whose epoch has come take effect, in the order they were published (R210). -/
def State.applyChanges (s : State) : State :=
  let now := s.ring.changes.filter fun c => !epochAhead c.epoch s.ring.markEpoch
  let s := { s with ring := { s.ring with changes := s.ring.changes.filter fun c => epochAhead c.epoch s.ring.markEpoch } }
  now.foldl (fun (st : State) (c : Change) => st.applyChange c) s

/-- A refusal in a mark (R212): the refused node reads it, with one Pennant. -/
def State.refused (s : State) (c : Change) : State :=
  if c.action == 3 && c.addr == s.nat Reg.RING_ADDR && c.tag == s.serialTag && s.nat Reg.ROSTER_STATE != 2 then
    let before := s.get Reg.ROSTER_STATE
    let s := (s.putN Reg.ROSTER_STATE 3).putN Reg.JOIN_REFUSE_REASON c.reason
    s.raiseCat 0x5800 0x08 27 before
  else s

/-- The changes of a mark are noted; refusals act at once, and a successor that HOIST_TO names is known before its first mark (R196, R201,
R211, R212). -/
def State.noteChanges (s : State) (cs : List Change) : State :=
  let s := cs.foldl (fun (st : State) (c : Change) => st.refused c) s
  let new := cs.filter fun c => (c.action == 1 || c.action == 2) && !s.ring.changes.contains c
  let next := match cs.find? fun c => c.action == 4 with | some c => some c.addr | none => s.ring.nextHoist
  { s with ring := { s.ring with changes := s.ring.changes ++ new, nextHoist := next } }

/-! ## Epoch marks (R200 to R202, R206) -/

/-- The wave of a new epoch begins (R198, R203); an own block of an earlier wave that still waits is dropped (log entry 36). -/
def State.openWindow (s : State) : State :=
  let r := s.ring
  { s with ring := { r with window := true, oldPasses := r.passes, passes := Vector.replicate 2 0, firstPass := Vector.replicate 2 0,
                            blockOut := Vector.replicate 2 false, heldClose := Vector.replicate 2 none,
                            wave := r.wave.map fun (l : List (Bool × List Byte)) => l.filter fun x => !x.1,
                            marks := r.marks + 1, sinceJoin := r.sinceJoin + 1 } }

/-- Whether the node may join (R210). -/
def State.mayJoin (s : State) : Bool :=
  s.nat Reg.RING_ADDR != 0xFFFF && s.role 12 && s.beh 3 != .bypassed && s.anyRing && !s.isMember && !s.waitsBurgee

/-- A node that may join reads JOINING once two marks have passed (R211). -/
def State.noteJoining (s : State) : State :=
  if 2 <= s.ring.marks && s.mayJoin && s.nat Reg.ROSTER_STATE == 0 then s.putN Reg.ROSTER_STATE 1 else s

/-- PERIOD_NS of a mark against the committed EPOCH_PERIOD: one Pennant per change of the mismatch (R202). -/
def State.notePeriod (s : State) (period : Nat) : State :=
  let bad := period != s.nat Reg.EPOCH_PERIOD
  let change := bad != s.ring.mismatch
  let s := { s with ring := { s.ring with period := period, mismatch := bad } }
  if change then s.raiseCat 0x5000 0x01 25 (s.get Reg.EPOCH_PERIOD) else s

/-- Whether the launcher followed has fallen silent: no mark of it for 2 × PERIOD_NS (R200, R201, log entry 38). -/
def State.launcherSilent (s : State) : Bool := 2 * s.ring.period <= s.ring.quiet * 1000000

/-- Whether a mark is to be followed (R200 to R202). A late one of the launcher followed before is not. Of another launcher's: the
successor that was named, or one with SUCCESSION for a later epoch, is; any is where the one followed has fallen silent; where two
circulate, the lower address or the lower tag is. -/
def State.followMark (s : State) (m : Mark) : Bool :=
  match s.ring.launcher with
  | none => true
  | some (addr, tag) =>
    if m.src == addr && m.tag == tag then true
    else if s.ring.prior.any fun x => x.1 == m.src && x.2.1 == m.tag && m.epoch <= x.2.2 then false
    else if (m.succession || s.ring.nextHoist == some m.src) && s.ring.markEpoch < m.epoch then true
    else s.launcherSilent || m.src < addr || (m.src == addr && m.tag < tag)

/-- A mark of this unit's own returns (R200, R202, R203, R206): M is measured from ring A, and turns are noted. -/
def State.ownMark (s : State) (r : Fin 2) (m : Mark) : State :=
  let s := { s with ring := { s.ring with returned := true } }
  if m.turned then
    { s with ring := { s.ring with siteTurned := true, unturned := Vector.replicate 2 false } }
  else
    let s := if r.val == 0 then s.putN Reg.RING_NODES (if m.hops == 0 then 4096 else 4096 - m.hops) else s
    let u := s.ring.unturned.set r true
    { s with ring := { s.ring with unturned := u, siteTurned := s.ring.siteTurned && !(u[0] && u[1]) } }

/-- A node that started cold and whose marks are stripped joins as any node (R200, R212): the roster it began alone is gone. -/
def State.loseCold (s : State) : State :=
  if s.ring.cold then
    let s := { s.learnRemoved with ring := { s.learnRemoved.ring with roster := [], changes := [], toPlace := [], cold := false } }
    s.refreshRoster
  else s

/-- The node follows a launcher from here on (R200, R201). -/
def State.takeLauncher (s : State) (m : Mark) : State :=
  let prior := match s.ring.launcher with
    | some (a, t) => if a == m.src && t == m.tag then s.ring.prior else some (a, t, s.ring.markEpoch)
    | none => s.ring.prior
  let s := if s.isHoist then s.loseCold else s
  { s with ring := { s.ring with launcher := some (m.src, m.tag), prior := prior, quiet := 0, lastMark := false,
                                 nextHoist := if s.ring.nextHoist == some m.src then none else s.ring.nextHoist } }

/-- A mark that the node follows (R200, R202, R206): its readbacks, and for the first arrival the boundary with the roster changes of the
epoch; a later arrival of an earlier epoch's mark is none. A node that does not share keeps the roster, and takes no boundary (R210,
R500). -/
def State.takeMark (s : State) (r : Fin 2) (m : Mark) : State :=
  let same := s.ring.launcher == some (m.src, m.tag)
  if same && m.epoch < s.ring.markEpoch then s
  else
    let first := !(same && m.epoch == s.ring.markEpoch)
    let s := s.takeLauncher m
    let s := (s.putN Reg.HOIST_ADDR m.src).putBit Reg.RING_STATUS 5 false
    let s := (s.putBit Reg.RING_STATUS 4 m.wrapped).putN Reg.RING_NODES m.nodes
    let s := if r.val == 0 then s.putN Reg.POS_A ((4096 - m.hops) % 4096) else s
    let s := s.notePeriod m.period
    if !first then s
    else
      let s := ({ s with ring := { s.ring with markEpoch := m.epoch } }).openWindow
      let s := if s.byMarks then
          let s := s.endIsolation
          ({ s with ring := { s.ring with due := true } }).putN Reg.EPOCH_NUMBER m.epoch
        else s
      ((s.noteChanges m.changes).applyChanges.noteJoining).refreshAlloc

/-- An epoch mark (R200 to R202). -/
def State.epochMark (s : State) (r : Fin 2) (m : Mark) : State :=
  if m.src == s.nat Reg.RING_ADDR && m.tag == s.serialTag then s.ownMark r m
  else if s.followMark m then s.takeMark r m
  else s

/-- Whether a mark goes on from this node: it is stripped where it is its own or not followed (R191, R200). -/
def State.markGoesOn (s : State) (m : Mark) : Bool :=
  !(m.src == s.nat Reg.RING_ADDR && m.tag == s.serialTag) && s.followMark m

/-- Whether the node may launch (R96, R200, R201): with an address, SHARE, a ring that is up and its clock. A hoist that leaves goes on until
it has named its successor. -/
def State.canLaunch (s : State) : Bool :=
  s.nat Reg.RING_ADDR != 0xFFFF && (s.role 12 || (s.isHoist && s.shares)) && s.anyRing && !s.clockLost && !s.waitsBurgee

/-- The node launches the mark of the next epoch on every ring that is up and enabled (R196, R200, R201, R206, R218): it is the hoist; in a
MAIN blackout each mark is followed directly by its CLOSE_MARK (R430). A mark with HOIST_TO is its last (R201). -/
def State.launch (s : State) (succession : Bool) : State :=
  let epoch := (s.epochNo + 1) % 18446744073709551616
  let own := s.nat Reg.RING_ADDR
  let placed := s.ring.toPlace.take 8
  let s := { s with ring := { s.ring with launcher := some (own, s.serialTag), nextHoist := none, returned := false, quiet := 0,
                                          markEpoch := epoch, due := true, toPlace := s.ring.toPlace.drop 8,
                                          lastMark := placed.any fun c => c.action == 4 } }
  let s := (s.putN Reg.HOIST_ADDR own).putBit Reg.RING_STATUS 5 true
  let s := (s.putBit Reg.RING_STATUS 4 s.ring.siteTurned).putN Reg.POS_A 0
  let s := (s.putN Reg.EPOCH_NUMBER epoch).openWindow
  let m : Mark := ⟨own, 4095, false, epoch, s.serialTag, s.period, s.nat Reg.RING_NODES, s.ring.siteTurned, succession,
    placed.map fun c => { c with epoch := (c.epoch + epoch) % 4294967296 }⟩
  let s := [0, 1].foldl (fun (st : State) (r : Nat) =>
    if st.ringUp r && st.ringOn r then
      let st := st.queueWave r false (slotChars (slotHeader 6 own 4095 false false) (Mark.payload m))
      if st.ringQuiet then st.queueWave r false (slotChars (slotHeader 7 own 4095 false false) (closePayload epoch)) else st
    else st) s
  let s := s.notePeriod s.period
  ((s.endIsolation.noteChanges m.changes).applyChanges).refreshAlloc

/-- A cold-start launcher with an empty roster is its first member (R200, R210). -/
def State.coldMember (s : State) : State :=
  if s.ring.roster.isEmpty then
    ({ s with ring := { s.ring with roster := [⟨s.nat Reg.RING_ADDR, s.serialTag⟩], cold := true } }).becomeMember.refreshRoster
  else s

/-- The hoist stops launching (R200, R201). -/
def State.stopLaunching (s : State) : State :=
  { s.putBit Reg.RING_STATUS 5 false with ring := { s.ring with launcher := none, lastMark := false, cold := false } }

/-- MARK_LAUNCH (R200, R201): by the hoist, by the node HOIST_TO named, by a unit that has taken the Burgee of
the hoist, with SUCCESSION (R400), or at cold start. A hoist whose last mark has not
returned, or without its clock, stops; one that has named its successor launches no more. -/
def execMarkLaunch (cold : Bool) (s : State) : Host.Outcome State Fault Refusal :=
  .next (s.live fun s =>
    if s.isHoist && (!s.canLaunch || !s.ring.returned) then s.stopLaunching.refreshAlloc
    else if !s.canLaunch || (s.isHoist && s.ring.lastMark) then s
    else if s.isHoist || s.ring.nextHoist == some (s.nat Reg.RING_ADDR) then s.launch false
    else if s.holds && s.ring.launcher.isSome && s.nat Reg.HOIST_ADDR == s.nat Reg.RING_ADDR then s.launch true
    else if cold then s.coldMember.launch false
    else s)

/-- HOIST_SUCCESSION (R201): one Pennant. -/
def execHoistSuccession (s : State) : Host.Outcome State Fault Refusal :=
  .next (s.live fun s =>
    if s.canLaunch && s.isMember && !s.isHoist && s.ring.launcher.isSome then
      let before := s.get Reg.HOIST_ADDR
      (s.launch true).raiseCat 0x5800 0x06 26 before
    else s)

/-! ## Frames (R195) -/

/-- Whether a frame is discarded for its tag, its age or a repetition (R195). -/
def State.frameBad (s : State) (f : Frame) : Bool :=
  !f.authentic || !s.ringUsable (s.ringSlotFor f.epoch) || epochAhead (s.epochNo % 4294967296) (f.epoch + 2)
    || s.ring.accepted.any fun x => x.1 == f.src && x.2.1 == f.id

/-- Whether an address is this unit's alone in a pair: its UNIT_ADDR, unless a roster member has it (R393, R408). -/
def State.isUnitAddr (s : State) (a : Nat) : Bool :=
  s.nat Reg.PAIR_EN == 1 && a == s.nat Reg.UNIT_ADDR && a != 0xFFFF && !(s.ring.roster.any fun m => m.addr == a)

/-- Whether a frame's destination is this node alone: RING_ADDR at the ring node of that address, or the unit's own (R195, R393). -/
def State.destMine (s : State) (a : Nat) : Bool :=
  s.nat Reg.RING_ADDR != 0xFFFF && ((a == s.nat Reg.RING_ADDR && !s.waitsBurgee) || s.isUnitAddr a)

/-- Whether a frame is for this node (R195, R210, R212, R393). -/
def State.frameForMe (s : State) (f : Frame) : Bool :=
  s.nat Reg.RING_ADDR != 0xFFFF && (f.dest == 0xFFFF || (s.destMine f.dest && (s.nat Reg.ROSTER_STATE != 3 || s.isUnitAddr f.dest)))

/-- Take a frame, or discard it without a response and count it (R195). -/
def State.takeFrame (s : State) (f : Frame) (act : State → State) : State :=
  if !s.frameForMe f then s
  else if s.frameBad f then s.count Reg.AUTH_FAIL_CNT
  else
    let kept := s.ring.accepted.filter fun x => !epochAhead (s.epochNo % 4294967296) (x.2.2 + 2)
    act { s with ring := { s.ring with accepted := kept ++ [(f.src, f.id, f.epoch)] } }

/-- A transaction arrives at the ordering point, or is answered BUSY where it is full (R41, R48); in a MAIN blackout only the
service port's are taken (R430). -/
def State.orderIn (s : State) (src : Src) (rq : Request) : State :=
  if !s.running || s.power.pfw || (src != .service && (s.blackMain || s.inRecovery)) then s
  else if 64 <= s.dict.queue.length || 16 <= (s.dict.queue.filter fun x => x.1 = src).length then
    s.answer src rq.opcode rq.tag .busy [] |> fun t => { t with dict := { t.dict with queue := s.dict.queue } }
  else { s with dict := { s.dict with queue := s.dict.queue ++ [(src, rq)] } }

/-- The request that a transport's bytes carry (R38). -/
def requestOf (bs : List Byte) : Request :=
  ⟨leAt bs 0 1, leAt bs 1 1, leAt bs 2 1, leAt bs 3 1, leAt bs 4 1, leAt bs 5 1, leAt bs 6 2, leAt bs 8 4, bs.drop 12⟩

/-- The response that a transport sends (R39). -/
def Response.encode (r : Response) : List Byte :=
  let code := match r.status with
    | .ok => 0 | .noSuchObject => 1 | .accessError => 2 | .rangeError => 3 | .writeOnly => 4 | .typeError => 5 | .busy => 6
    | .stageFull => 7 | .notAuthorised => 8
  leBytes 1 (r.opcode % 128 + 128) ++ leBytes 1 r.tag ++ leBytes 1 code ++ zeros 1 ++ leBytes 2 r.data.length ++ zeros 2 ++ r.data

/-- DICT_REQUEST_FRAME (R215). -/
def State.frameRequest (s : State) (f : Frame) : State := s.takeFrame f fun s => s.orderIn (.node f.src) (requestOf f.data)
/-- DICT_REQUEST_FRAME. -/
def execDictRequestFrame (f : Frame) (s : State) : Host.Outcome State Fault Refusal := .next (s.live (·.frameRequest f))

/-- Take the oldest response to a source out of a list. -/
def takeResponse (src : Src) : List Response → Option (Response × List Response)
  | [] => none
  | r :: t =>
    if r.src = src then some (r, t)
    else match takeResponse src t with
      | some (x, rest) => some (x, r :: rest)
      | none => none

/-- DICT_RESPONSE_FRAME (R215): the response leaves in a frame to the node that sent the request. -/
def execDictResponseFrame (node : Nat) (s : State) : Host.Outcome State Fault Refusal :=
  .next (s.live fun s =>
    match takeResponse (.node node) s.dict.responses with
    | some (r, rest) =>
      if s.canSendFrame 2 then ({ s with dict := { s.dict with responses := rest } }).sendFrame 2 node r.encode
      else s.sendFrame 2 node []
    | none => s)

/-- The origin word of a received frame (R381). -/
def Frame.origin (f : Frame) : Nat := f.src % 4096 + f.epoch % 4294967296 * 4294967296

/-- Pennant records through this node's router (R381). -/
def State.framePennants (s : State) (f : Frame) : State :=
  s.takeFrame f fun s => State.remotePennants (f.data.length / 32) (Frame.origin f) f.data s
/-- PENNANT_RECORDS_FRAME. -/
def execPennantRecordsFrame (f : Frame) (s : State) : Host.Outcome State Fault Refusal := .next (s.live (·.framePennants f))

/-- Streamer records through this node's router (R381). -/
def State.frameTraces (s : State) (f : Frame) : State :=
  s.takeFrame f fun s => State.remoteTraces f.data.length (Frame.origin f) f.data s
/-- STREAMER_RECORDS_FRAME. -/
def execStreamerRecordsFrame (f : Frame) (s : State) : Host.Outcome State Fault Refusal := .next (s.live (·.frameTraces f))

/-- Firmware data is received (R195); the spec gives its frames no layout, and an image enters the update area through group 0xD1
alone. -/
def State.frameFirmware (s : State) (f : Frame) : State :=
  s.takeFrame f fun s => { s with ring := { s.ring with firmware := s.ring.firmware ++ [(f.src, f.data)] } }
/-- FIRMWARE_DATA_FRAME. -/
def execFirmwareDataFrame (f : Frame) (s : State) : Host.Outcome State Fault Refusal := .next (s.live (·.frameFirmware f))

/-! ## Joining and leaving (R211 to R214, R501) -/

/-- Place a change in the next mark; its epoch counts from that mark's. -/
def State.place (s : State) (c : Change) : State :=
  if s.ring.toPlace.contains c then s else { s with ring := { s.ring with toPlace := s.ring.toPlace ++ [c] } }

/-- The roster as a ROSTER frame carries it: the members as admissions that have passed, then the pending changes (R211). -/
def State.rosterBytes (s : State) : List Byte :=
  (s.ring.roster.flatMap fun m => Change.encode ⟨m.addr, 1, 0, m.tag, s.epochNo % 4294967296⟩) ++ s.ring.changes.flatMap Change.encode

/-- The roster and its pending changes in ROSTER frames of at most 157 entries (R195, R211). The fuel bounds their number. -/
def State.sendRoster : (fuel : Nat) → (addr : Nat) → List Byte → State → State
  | 0, _, _, s => s
  | f + 1, addr, bs, s =>
    if bs.length <= 1884 then s.sendFrame 0x12 addr bs
    else State.sendRoster f addr (bs.drop 1884) (s.sendFrame 0x12 addr (bs.take 1884))

/-- A JOIN at the hoist (R211, R212, R214): refused as a duplicate, taken as a rejoin, or admitted. -/
def State.admitJoin (s : State) (addr tag : Nat) : State :=
  let member := s.ring.roster.find? fun m => m.addr == addr
  let coming := (s.ring.changes ++ s.ring.toPlace).find? fun c => c.addr == addr && c.action == 1
  match member, coming with
  | some m, _ =>
    if m.tag != tag then s.place ⟨addr, 3, 1, tag, 0⟩
    else ((State.sendRoster 64 addr s.rosterBytes s).place ⟨addr, 2, 4, tag, 1⟩).place ⟨addr, 1, 0, tag, 2⟩
  | none, some c => if c.tag != tag then s.place ⟨addr, 3, 1, tag, 0⟩ else State.sendRoster 64 addr s.rosterBytes s
  | none, none => (State.sendRoster 64 addr s.rosterBytes s).place ⟨addr, 1, 0, tag, 1⟩

/-- JOIN: at the hoist alone; one that fails authentication is counted and refused (R195, R211, R212). -/
def State.joinFrame (s : State) (f : Frame) : State :=
  if !s.isHoist || !s.frameForMe f then s
  else if !f.authentic || !s.ringUsable (s.ringSlotFor f.epoch) then
    (s.count Reg.AUTH_FAIL_CNT).place ⟨leAt f.data 0 2, 3, 2, leAt f.data 2 4, 0⟩
  else s.takeFrame f fun s => s.admitJoin (leAt f.data 0 2) (leAt f.data 2 4)
/-- JOIN. -/
def execJoin (f : Frame) (s : State) : Host.Outcome State Fault Refusal := .next (s.live (·.joinFrame f))

/-- Send a JOIN to the hoist (R211). -/
def State.sendJoin (s : State) : State :=
  let s := (s.putN Reg.ROSTER_STATE 1).sendFrame 0x10 (s.nat Reg.HOIST_ADDR)
    (leBytes 2 (s.nat Reg.RING_ADDR) ++ leBytes 4 s.serialTag ++ leBytes 4 s.allocHash)
  { s with ring := { s.ring with sinceJoin := 0 } }

/-- JOIN_SEND. -/
def execJoinSend (s : State) : Host.Outcome State Fault Refusal :=
  .next (s.live fun s => if s.mayJoin && 2 <= s.ring.marks && s.nat Reg.ROSTER_STATE <= 1 then s.sendJoin else s)

/-- JOIN_RETRY (R211, R212): a refused node goes on reading REFUSED. -/
def execJoinRetry (s : State) : Host.Outcome State Fault Refusal :=
  .next (s.live fun s =>
    if !s.mayJoin then s
    else if s.nat Reg.ROSTER_STATE == 3 then s.sendJoin.putN Reg.ROSTER_STATE 3
    else if s.nat Reg.ROSTER_STATE == 1 && 8 <= s.ring.sinceJoin then s.sendJoin
    else s)

/-- The successor a leaving hoist names: the member with the lowest other address (R201, log entry 38). -/
def State.successor (s : State) : Option Member :=
  let others := s.ring.roster.filter fun m => m.addr != s.nat Reg.RING_ADDR
  others.find? fun m => others.all fun x => m.addr <= x.addr

/-- The hoist names its successor in its next mark (R196, R201). -/
def State.placeSuccessor (s : State) : State :=
  match s.successor with | some m => s.place ⟨m.addr, 4, 0, m.tag, 1⟩ | none => s

/-- A node leaves (R213): LEAVE goes to the hoist; the hoist places its own removal and names a successor. -/
def State.sendLeave (s : State) : State :=
  let own := s.nat Reg.RING_ADDR
  let s := s.putN Reg.ROSTER_STATE 4
  if s.isHoist then
    let s := s.place ⟨own, 2, 1, s.serialTag, 1⟩
    s.placeSuccessor
  else s.sendFrame 0x11 (s.nat Reg.HOIST_ADDR) (leBytes 2 own)

/-- LEAVE_SEND. -/
def execLeaveSend (s : State) : Host.Outcome State Fault Refusal :=
  .next (s.live fun s =>
    if s.isMember && !s.waitsBurgee && s.nat Reg.ROSTER_STATE == 2 && (!s.role 12 || s.nat Reg.MODE_WORD == 0x80) then s.sendLeave else s)

/-- LEAVE at the hoist (R213, R214). -/
def State.leaveFrame (s : State) (f : Frame) : State :=
  if !s.isHoist then s
  else s.takeFrame f fun s =>
    match s.ring.roster.find? fun m => m.addr == f.src with
    | some m => s.place ⟨m.addr, 2, 1, m.tag, 1⟩
    | none => s
/-- LEAVE. -/
def execLeave (f : Frame) (s : State) : Host.Outcome State Fault Refusal := .next (s.live (·.leaveFrame f))

/-- The changes a ROSTER frame carries. -/
def rosterOf (bs : List Byte) : List Change := (List.range (bs.length / 12)).map fun i => Change.decode (bs.drop (12 * i))

/-- ROSTER at a joining node (R211). -/
def State.rosterFrame (s : State) (f : Frame) : State :=
  if s.isMember then s
  else s.takeFrame f fun s =>
    let l := rosterOf f.data
    let now := l.filter fun c => c.action == 1 && !epochAhead c.epoch s.epochNo
    let new := l.filter fun c => epochAhead c.epoch s.epochNo && !s.ring.changes.contains c
    let kept := s.ring.roster.filter fun m => !(now.any fun c => c.addr == m.addr)
    ({ s with ring := { s.ring with roster := kept ++ now.map fun (c : Change) => (⟨c.addr, c.tag⟩ : Member),
                                    changes := s.ring.changes ++ new } }).refreshRoster
/-- ROSTER. -/
def execRoster (f : Frame) (s : State) : Host.Outcome State Fault Refusal := .next (s.live (·.rosterFrame f))

/-- Whether the reports confirm that a node is bypassed (R214): on every ring that is up its downstream neighbour now sees the node
that lay before it, each being the other's report on the other ring. -/
def State.confirmedAway (s : State) (x : Nat) : Bool :=
  let on (r : Nat) := s.ring.reports.filter fun q => q.2.1 == r && q.2.2.1 == x && q.2.2.2 != 0xFFFF
  let pair := (on 0).any fun q => (on 1).any fun p => p.1 == q.2.2.2 && p.2.2.2 == q.1
  if s.ringUp 0 && s.ringUp 1 then pair else if s.ringUp 0 then !(on 0).isEmpty else !(on 1).isEmpty

/-- A report at the hoist that a node sees a new upstream neighbour (R214): an absence it confirms is a removal as BYPASSED. -/
def State.noteReport (s : State) (src ring old new : Nat) : State :=
  let rest := s.ring.reports.filter fun q => !(q.1 == src && q.2.1 == ring)
  let s := { s with ring := { s.ring with reports := rest ++ [(src, ring, old, new)] } }
  match s.ring.roster.find? fun m => m.addr == old with
  | some m => if s.confirmedAway old then s.place ⟨m.addr, 2, 2, m.tag, 1⟩ else s
  | none => s

/-- NEIGHBOUR_CHANGE at the hoist (R214). -/
def State.neighbourFrame (s : State) (f : Frame) : State :=
  if !s.isHoist then s else s.takeFrame f fun s => s.noteReport f.src (leAt f.data 0 1) (leAt f.data 1 2) (leAt f.data 3 2)
/-- NEIGHBOUR_CHANGE. -/
def execNeighbourChange (f : Frame) (s : State) : Host.Outcome State Fault Refusal := .next (s.live (·.neighbourFrame f))

/-- The hoist removes a node that the host names (R214); where it is itself, it names a successor as it leaves (R201). -/
def State.placeEvict (s : State) (addr : Nat) : State :=
  match s.ring.roster.find? fun m => m.addr == addr with
  | some m =>
    let s := s.place ⟨m.addr, 2, 3, m.tag, 1⟩
    if addr == s.nat Reg.RING_ADDR then s.placeSuccessor else s
  | none => s

/-- EVICT (R501): the node it names learns of its removal; at the hoist it is a host's request made at another member (R214). -/
def State.evictFrame (s : State) (f : Frame) : State :=
  s.takeFrame f fun s =>
    let addr := leAt f.data 0 2
    if s.isHoist then s.placeEvict addr else if addr == s.nat Reg.RING_ADDR then s.learnRemoved else s
/-- EVICT. -/
def execEvict (f : Frame) (s : State) : Host.Outcome State Fault Refusal := .next (s.live (·.evictFrame f))

/-- The effect of a write of ROSTER_EVICT (R214). -/
def State.rosterEvictEffect (s : State) (v : Nat) : State :=
  if s.isHoist then s.placeEvict v
  else if s.isMember then s.sendFrame 0x14 (s.nat Reg.HOIST_ADDR) (leBytes 2 v)
  else s
/-- ROSTER_EVICT. -/
def execRosterEvict (h : Hdr) (v : Nat) (s : State) : Host.Outcome State Fault Refusal :=
  .next (s.hostWrite h Reg.ROSTER_EVICT v (·.rosterEvictEffect v))

/-! ## Wraps and the bypass (R205 to R207) -/

/-- Tell the hoist of a new upstream neighbour (R205, R214); the hoist itself takes its own observation. -/
def State.tellNeighbour (s : State) (r : Fin 2) (old new : Nat) : State :=
  if s.isHoist then s.noteReport (s.nat Reg.RING_ADDR) r.val old new
  else s.sendFrame 0x13 (s.nat Reg.HOIST_ADDR) (leBytes 1 r.val ++ leBytes 2 old ++ leBytes 2 new)

/-- WRAP (R205). -/
def execWrap (ring : Fin 2) (s : State) : Host.Outcome State Fault Refusal :=
  .next (s.live fun s =>
    let s := s.putBit Reg.RING_STATUS ring.val false
    if bit (s.nat Reg.RING_STATUS) (2 + ring.val) then s.refreshAlloc
    else
      let s := (s.putBit Reg.RING_STATUS (2 + ring.val) true).count (Reg.WRAP_CNT (ring.val + 1))
      (s.tellNeighbour ring (s.nat (Reg.NEIGHBOUR (ring.val + 1))) 0xFFFF).refreshAlloc)

/-- UNWRAP (R164, R206): the input carries the ring again, and the caps of isolation end. -/
def execUnwrap (ring : Fin 2) (s : State) : Host.Outcome State Fault Refusal :=
  .next (s.live fun s =>
    if bit (s.nat Reg.RING_STATUS) (2 + ring.val) then
      ((s.putBit Reg.RING_STATUS (2 + ring.val) false).putBit Reg.RING_STATUS ring.val true).endIsolation
    else s)

/-- BYP_HOLD_A and BYP_HOLD_B together (R207). -/
def State.driveByp (s : State) (on : Bool) : State := (s.putBit Reg.RING_STATUS 6 on).putBit Reg.RING_STATUS 7 on
/-- Whether the bypass may be held open: supplies in range and the PLL locked (R207). -/
def State.bypConditions (s : State) : Bool := s.power.mains && !bit (s.nat Reg.FABRIC_STATUS) 2

/-- The effect of BYP_FORCE 0x01 (R207, R217): a hoist is silent from here on. -/
def State.bypReleaseEffect (s : State) : State :=
  let s := { (s.putN Reg.BYP_FORCE 1).driveByp false with ring := { s.ring with bypWanted := false } }
  if s.isHoist then s.stopLaunching.refreshAlloc else s
/-- BYP_FORCE_RELEASE. -/
def execBypForceRelease (h : Hdr) (s : State) : Host.Outcome State Fault Refusal :=
  .next (s.hostWrite h Reg.BYP_FORCE 1 (·.bypReleaseEffect))

/-- The effect of BYP_FORCE 0x00 (R207). -/
def State.bypHoldEffect (s : State) : State :=
  let s := s.putN Reg.BYP_FORCE 0
  if s.bypConditions then s.driveByp true else { s with ring := { s.ring with bypWanted := true } }
/-- BYP_FORCE_HOLD. -/
def execBypForceHold (h : Hdr) (s : State) : Host.Outcome State Fault Refusal :=
  .next (s.hostWrite h Reg.BYP_FORCE 0 (·.bypHoldEffect))

/-- BYP_HOLD_DRIVE (R207): after power-up, or once the conditions of a 0x00 hold. -/
def execBypHoldDrive (s : State) : Host.Outcome State Fault Refusal :=
  .next (s.live fun s =>
    if s.bypConditions && s.nat Reg.BYP_FORCE == 0 then
      { s.driveByp true with ring := { s.ring with bypWanted := false } }
    else s)

/-! ## Slots (R189 to R194, R197) -/

/-- Bits [27:16] of the header that an EMPTY or RESERVED slot carries from this node (R190). -/
def State.idleChars (s : State) : List Byte := leBytes 4 (s.nat Reg.RING_ADDR % 4096 * 65536) ++ zeros 123

/-- A slot leaves on an output. -/
def State.emitSlot (s : State) (r : Fin 2) (delim : Delim) (chars : List Byte) : State := s.send (.slot r.val delim chars)

/-- The rotation of the shared classes: four turns of Pennant, two of Bulk, one of Streamer (R199). -/
def rotation : List Nat := [2, 2, 2, 2, 4, 4, 3]

/-- The frame slot whose turn it is, and the place of the rotation after it: CONTROL first, outside the rotation (log entry 36); then the
next turn, from a place on, of a class with something waiting (R199). -/
def nextShared (l : List (Nat × List Byte)) (turn : Nat) : Option (Nat × Nat) :=
  if l.any fun x => x.1 == 5 then some (5, turn)
  else
    let places := (List.range 7).map fun i => (turn + i) % 7
    (places.find? fun q => l.any fun x => x.1 == rotation.getD q 0).map fun q => (rotation.getD q 0, (q + 1) % 7)

/-- Take the first slot of a class out of a list. -/
def takeClass (c : Nat) : List (Nat × List Byte) → Option (List Byte × List (Nat × List Byte))
  | [] => none
  | x :: t => if x.1 == c then some (x.2, t) else (takeClass c t).map fun y => (y.1, x :: y.2)

/-- The node's own block has left on an output: a CLOSE_MARK that was held for it follows in the next free slot (R203). -/
def State.blockLeft (s : State) (r : Fin 2) : State :=
  let held := s.ring.heldClose[r]
  let s := { s with ring := { s.ring with blockOut := s.ring.blockOut.set r true, heldClose := s.ring.heldClose.set r none } }
  match held, s.ring.launcher with
  | some h, some (a, _) => s.queueWave r.val false (slotChars (slotHeader 7 a (hopsOn h) false false) (closePayload s.ring.markEpoch))
  | _, _ => s

/-- An EMPTY slot of an output that no item and no shifted slot has taken: what waits for it leaves in it, marks and WAVE first, and shared
classes outside the wave's window, after letting one EMPTY slot pass (R193, R198, R199). -/
def State.fillEmpty (s : State) (r : Fin 2) (chars : List Byte) : State :=
  match s.ring.wave[r] with
  | (own, c) :: rest =>
    let s := ({ s with ring := { s.ring with wave := s.ring.wave.set r rest } }).emitSlot r .full c
    if own then s.blockLeft r else s
  | [] =>
    if s.ring.letPass[r] then
      ({ s with ring := { s.ring with letPass := s.ring.letPass.set r false } }).emitSlot r .empty chars
    else if s.ring.window || s.ringQuiet then s.emitSlot r .empty chars
    else match nextShared s.ring.shared[r] s.ring.turn[r] with
      | none => s.emitSlot r .empty chars
      | some (c, turn) =>
        match takeClass c s.ring.shared[r] with
        | none => s.emitSlot r .empty chars
        | some (x, rest) =>
          ({ s with ring := { s.ring with shared := s.ring.shared.set r rest, turn := s.ring.turn.set r turn,
                                          letPass := s.ring.letPass.set r true } }).emitSlot r .full x

/-- What leaves for a slot time on an output: an own item that is ready takes an EMPTY or RESERVED slot, shifts a FULL one where the relay
buffer has room, and is deferred otherwise; shifted slots go before the one that arrived (R192, R197). -/
def State.output (s : State) (r : Fin 2) (delim : Delim) (chars : List Byte) : State :=
  let buf := s.ring.relay[r]
  let idle := delim != .full
  match s.ring.ready[r] with
  | (h, p, told) :: rest =>
    let item := slotChars (slotHeader 1 (s.nat Reg.RING_ADDR) h false false) p
    if idle then ({ s with ring := { s.ring with ready := s.ring.ready.set r rest } }).emitSlot r .full item
    else if buf.length < 16 then
      (({ s with ring := { s.ring with ready := s.ring.ready.set r rest, relay := s.ring.relay.set r (buf ++ [chars]) } }).count
        Reg.DISPLACE_CNT).emitSlot r .full item
    else
      let s := if told then s else s.count Reg.ENSIGN_DEFER_CNT
      let s := { s with ring := { s.ring with ready := s.ring.ready.set r ((h, p, true) :: rest),
                                              relay := s.ring.relay.set r (buf.drop 1 ++ [chars]) } }
      (s.count Reg.DISPLACE_CNT).emitSlot r .full (buf.headD [])
  | [] =>
    match buf with
    | [] => if delim == .empty then s.fillEmpty r chars else s.emitSlot r delim chars
    | x :: t =>
      if idle then ({ s with ring := { s.ring with relay := s.ring.relay.set r t } }).emitSlot r .full x
      else (({ s with ring := { s.ring with relay := s.ring.relay.set r (t ++ [chars]) } }).count Reg.DISPLACE_CNT).emitSlot r .full x

/-- A FULL slot as it is turned at a wrap (R191): WRAPPED set, and no hop count left but in a mark; one with a bad CRC goes as received. -/
def turnedChars (chars : List Byte) : List Byte :=
  let h := leAt chars 0 4
  if leAt chars 124 3 != crc24 chars || 8 <= field h 31 28 then chars
  else
    let h := if field h 31 28 == 6 || field h 31 28 == 7 then setBit h 1 true else setBit (h - field h 15 4 * 16) 1 true
    slotChars h ((chars.drop 4).take 120)

/-- The other ring. -/
def otherRing (r : Fin 2) : Fin 2 := if r.val == 0 then 1 else 0

/-- A slot goes on: onto its own ring's output, and turned onto the other output where that input is faulty (R191, R205). -/
def State.goOn (s : State) (r : Fin 2) (delim : Delim) (chars : List Byte) : State :=
  let s := s.output r delim chars
  if !s.wrappedAt (otherRing r).val then s
  else s.output (otherRing r) delim (if delim == .full then turnedChars chars else chars)

/-- The idle slot that this node sends of itself: every 16th that a hoist originates on a ring is RESERVED (R190, log entry 36). -/
def State.originate (s : State) (r : Fin 2) (delim : Delim) : State × Delim :=
  if s.isHoist && delim == .empty then
    let n := (s.ring.origin[r] + 1) % 16
    ({ s with ring := { s.ring with origin := s.ring.origin.set r n } }, if n == 0 then .reserved else .empty)
  else (s, delim)

/-- A slot that cannot be read is replaced by EMPTY (R191). -/
def State.goEmpty (s : State) (r : Fin 2) : State :=
  let x := s.originate r .empty
  x.1.goOn r x.2 s.idleChars

/-- A slot of a TYPE is stripped, and an idle one is inserted again (R191, R192): an emptied ENSIGN slot goes back to RESERVED (R190, log
entry 36). -/
def State.strip (s : State) (r : Fin 2) (typ : Nat) : State :=
  let x := (s.count Reg.DISPLACE_CNT).originate r (if typ == 1 then .reserved else .empty)
  x.1.goOn r x.2 s.idleChars

/-- A mark goes on with its countdown, turned at a wrap (R189, R191). -/
def State.markOn (s : State) (r : Fin 2) (chars : List Byte) : State :=
  let h := leAt chars 0 4
  let hops := field h 15 4
  s.goOn r .full (slotChars (h - hops * 16 + hopsOn hops * 16) ((chars.drop 4).take 120))

/-- An EPOCH_MARK's slot: acted on, then repeated or stripped (R191, R200). -/
def State.markIn (s : State) (r : Fin 2) (m : Mark) (chars : List Byte) : State :=
  if s.markGoesOn m then (s.epochMark r m).markOn r chars else (s.epochMark r m).strip r 6

/-- EPOCH_MARK: the mark's slot on an input that is not faulty. -/
def execEpochMark (ring : Fin 2) (m : Mark) (s : State) : Host.Outcome State Fault Refusal :=
  .next (s.live fun s =>
    if s.wrappedAt ring.val then s
    else s.markIn ring m (slotChars (slotHeader 6 m.src m.hops false false + 2 * b2n m.turned) (Mark.payload m)))

/-- Whether the launcher of a CLOSE_MARK strips it: at its second return (R191, R203). -/
def State.closeReturned (s : State) (r : Fin 2) (src epoch : Nat) : Bool :=
  src == s.nat Reg.RING_ADDR &&
    (if epoch == s.ring.markEpoch then 2 <= s.ring.passes[r]
     else if epoch + 1 == s.ring.markEpoch then 2 <= s.ring.oldPasses[r] else true)

/-- A CLOSE_MARK's slot (R191, R203): held for the node's own block with EMPTY in its place, stripped by its launcher at its second return,
or repeated. -/
def State.closeIn (s : State) (r : Fin 2) (chars : List Byte) (ns : Nat) : State :=
  let h := leAt chars 0 4
  let epoch := leAt ((chars.drop 4).take 120) 0 8
  let held := s.ring.heldClose[r].isSome
  let s := s.closeMark r (field h 15 4) epoch ns
  if !held && s.ring.heldClose[r].isSome then s.goEmpty r
  else if s.closeReturned r (field h 27 16) epoch then s.strip r 7
  else s.markOn r chars

/-- CLOSE_MARK: its slot, from the launcher followed. -/
def execCloseMark (ring : Fin 2) (hops epoch ns : Nat) (s : State) : Host.Outcome State Fault Refusal :=
  .next (s.live fun s =>
    if s.wrappedAt ring.val then s
    else
      let src := match s.ring.launcher with | some (a, _) => a | none => s.nat Reg.HOIST_ADDR
      s.closeIn ring (slotChars (slotHeader 7 src hops false false) (closePayload epoch)) ns)

/-- A received ENSIGN item (R194, R238). -/
def State.ensignItem (s : State) (r : Fin 2) (src : Nat) (p : List Byte) : State :=
  match leAt p 0 1 with
  | 1 => s.portStopped src (leAt p 4 2) (leAt p 2 2)
  | 2 => s.lossReceived src (leAt p 4 2) (leAt p 8 2)
  | _ => s.count (Reg.LINK_ERR_CNT (r.val + 1))

/-- The frame of a reassembled train (R195): the tag is checked with the key of the header's epoch. -/
def State.frameOf (s : State) (src : Nat) (bytes : List Byte) : Nat × Frame :=
  let epoch := leAt bytes 8 4
  let text := bytes.take (bytes.length - 16)
  let nonce := leBytes 2 src ++ leBytes 2 (leAt bytes 2 2) ++ leBytes 4 epoch ++ zeros 4
  let good := padTo 16 (Config.macTag (s.keyBytes (s.ringSlotFor epoch)) nonce text 16) == bytes.drop (bytes.length - 16)
  (leAt bytes 6 1, ⟨src, leAt bytes 0 2, leAt bytes 2 2, epoch, good, (bytes.drop 12).take (leAt bytes 4 2)⟩)

/-- Deliver a frame by its CONTENT; other values are discarded (R195). -/
def State.deliverFrame (s : State) (content : Nat) (f : Frame) : State :=
  match content with
  | 0x01 => s.frameRequest f
  | 0x03 => s.framePennants f
  | 0x04 => s.frameTraces f
  | 0x05 => s.frameFirmware f
  | 0x10 => s.joinFrame f
  | 0x11 => s.leaveFrame f
  | 0x12 => s.rosterFrame f
  | 0x13 => s.neighbourFrame f
  | 0x14 => s.evictFrame f
  | _ => s

/-- One slot of a frame (R195): the first opens a reassembly under its FRAME_ID, each later one of the sender's class on that ring goes to
the one opened last, and the last delivers it where all its slots have come; whether the slot is addressed to this node alone. -/
def State.frameSlot (s : State) (r src typ : Nat) (first last : Bool) (p : List Byte) : State × Bool :=
  let mine : FramePart → Bool := fun x => x.ring == r && x.src == src && x.typ == typ
  let cur : Option FramePart := if first then some ⟨r, src, typ, leAt p 2 2, leAt p 0 2, []⟩ else (s.ring.parts.filter mine).getLast?
  match cur with
  | none => (s, false)
  | some x =>
    let rest := s.ring.parts.filter fun y => !(y.src == src && y.id == x.id && y.ring == r)
    let x := { x with bytes := x.bytes ++ p }
    let only := s.destMine x.dest
    let whole := x.bytes.length == 120 * leAt x.bytes 7 1
    let s := { s with ring := { s.ring with parts := if last then rest else rest ++ [x] } }
    if last && whole && (only || x.dest == 0xFFFF) then
      let f := s.frameOf src x.bytes
      (s.deliverFrame f.1 f.2, only)
    else (s, only)

/-- A WAVE or ENSIGN slot of an address outside the roster: the hoist sends it EVICT (R191, R501). -/
def State.foreign (s : State) (src : Nat) : State :=
  if s.isHoist && !((s.ring.changes ++ s.ring.toPlace).any fun c => c.addr == src && c.action == 1) then
    s.sendFrame 0x14 src (leBytes 2 src)
  else s

/-- Whether a slot of this node's own has come back to the ring it was inserted on (R191): on a wrapped site, to the input that feeds the
output that carries the loop. -/
def State.ownReturns (s : State) (r src : Nat) : Bool :=
  !s.waitsBurgee && (src == s.nat Reg.RING_ADDR || s.isUnitAddr src) &&
    (!s.ringWrapped || match s.loopOut with | some o => (if s.wrappedAt o then r != o else r == o) | none => true)

/-- A FULL slot with a good CRC (R191): delivered where it concerns the node, then repeated, counted down or stripped. -/
def State.fullSlot (s : State) (r : Fin 2) (chars : List Byte) (ns : Nat) : State :=
  let h := leAt chars 0 4
  let typ := field h 31 28
  let src := field h 27 16
  let hops := field h 15 4
  let p := (chars.drop 4).take 120
  let repeated (s : State) : State :=
    if hops == 1 then s.strip r typ else s.goOn r .full (slotChars (if 2 <= hops then h - 16 else h) p)
  if typ == 6 then s.markIn r (Mark.decode src hops (bit h 1) p) chars
  else if typ == 7 then s.closeIn r chars ns
  else if s.ownReturns r.val src then s.strip r typ
  else if typ <= 1 then
    let here := s.ring.roster.any fun m => m.addr == src
    let s := if typ == 0 then s.waveBlock src p else if here then s.ensignItem r src p else s.count Reg.FOREIGN_SLOT_CNT
    repeated (if here then s else s.foreign src)
  else
    let d := s.frameSlot r.val src typ (bit h 3) (bit h 2) p
    if d.2 then d.1.strip r typ else repeated d.1

/-- The upstream neighbour that an idle slot names (R190); a change is told to the hoist (R214). -/
def State.noteNeighbour (s : State) (r : Fin 2) (a : Nat) : State :=
  let old := s.nat (Reg.NEIGHBOUR (r.val + 1))
  if old == a then s
  else
    let s := s.putN (Reg.NEIGHBOUR (r.val + 1)) a
    if old == 0xFFFF then s else s.tellNeighbour r old a

/-- A slot arrives at a running node (R189 to R191). An input that delivers decodable slots has character lock; what arrives on a faulty
input goes nowhere (R205). -/
def State.slotIn (s : State) (r : Fin 2) (delim : Delim) (chars : List Byte) (ns : Nat) : State :=
  let err := Reg.LINK_ERR_CNT (r.val + 1)
  let broken := delim == .broken || chars.length != 127
  let s := if broken then s.count err
    else if bit (s.nat Reg.RING_STATUS) r.val then s
    else ((s.putBit Reg.RING_STATUS r.val true).putN (Reg.ISLAND_STATE (4 + r.val)) 1).refreshAlloc
  let h := leAt chars 0 4
  if s.wrappedAt r.val then s
  else if broken then s.goEmpty r
  else if delim != .full then (s.noteNeighbour r (field h 27 16)).goOn r delim s.idleChars
  else if leAt chars 124 3 != crc24 chars || 8 <= field h 31 28 then (s.count err).goOn r .full chars
  else s.fullSlot r chars ns

/-- A slot goes on past a node in reset: onto its own output, and turned where that input is wrapped (R205, R209). -/
def State.passOn (s : State) (r : Fin 2) (delim : Delim) (chars : List Byte) : State :=
  let s := s.emitSlot r delim chars
  if s.wrappedAt (otherRing r).val then s.emitSlot (otherRing r) delim (if delim == .full then turnedChars chars else chars) else s

/-- A slot at a node held in reset (R209): repeated, counted down and stripped by hop count; a bad one as R191 has it. -/
def State.slotInReset (s : State) (r : Fin 2) (delim : Delim) (chars : List Byte) : State :=
  let h := leAt chars 0 4
  let hops := field h 15 4
  let p := (chars.drop 4).take 120
  if s.wrappedAt r.val then s
  else if delim == .broken || chars.length != 127 then s.passOn r .empty s.idleChars
  else if delim != .full then s.passOn r delim s.idleChars
  else if leAt chars 124 3 != crc24 chars || 8 <= field h 31 28 then s.passOn r .full chars
  else if field h 31 28 == 6 || field h 31 28 == 7 then s.passOn r .full (slotChars (h - hops * 16 + hopsOn hops * 16) p)
  else if hops == 1 then s.passOn r (if field h 31 28 == 1 then .reserved else .empty) s.idleChars
  else s.passOn r .full (slotChars (if 2 <= hops then h - 16 else h) p)

/-- SLOT_RECEIVE: nothing passes a node without its supplies (R207) or in power-on reset, and a node in any other reset only repeats
(R209). -/
def execSlotReceive (ring : Fin 2) (delim : Delim) (chars : List Byte) (ns : Nat) (s : State) : Host.Outcome State Fault Refusal :=
  .next (if !s.power.mains || s.power.por || 6 <= s.modes.vaultStep then s
    else if s.powered then s.slotIn ring delim chars ns
    else s.slotInReset ring delim chars)

/-- A millisecond at the ring: an output whose input has no character lock sends slots timed on REFCLK, of which the model sends one
(R188, log entry 36), and a launcher's silence grows (R200). -/
def State.ringTick (s : State) : State :=
  let s := { s with ring := { s.ring with quiet := s.ring.quiet + 1 } }
  [(0 : Fin 2), 1].foldl (fun (st : State) (r : Fin 2) =>
    let feed := if st.wrappedAt r.val then otherRing r else r
    if bit (st.nat Reg.RING_STATUS) feed.val || bit (st.nat Reg.FABRIC_STATUS) 1 then st
    else
      let x := st.originate r .empty
      x.1.output r x.2 st.idleChars) s

/-- The payload of an Ensign item (R194). -/
def State.itemPayload (s : State) (it : Item) (seq : Nat) : List Byte :=
  padTo 120 (leBytes 1 it.kind ++ leBytes 1 seq ++ leBytes 2 (s.epochNo % 65536) ++ leBytes 2 it.port ++ leBytes 1 it.group
    ++ zeros 1 ++ leBytes 2 it.lost)

/-- An own item is released to a ring's output (R193, R194, R197); it is gone once it has left on every ring of the plan. Only a member
inserts one (R501). -/
def State.releaseItem (s : State) (r : Fin 2) : State :=
  if !s.isMember then s
  else match s.broadcastPlan.find? fun p => p.1 == r.val with
  | none => s
  | some (_, hops) =>
    match s.ring.items.find? fun it => !it.sent.contains r.val with
    | none => s
    | some it =>
      let n := it.seq.getD s.ring.seq
      let next := if it.seq.isNone then (s.ring.seq + 1) % 256 else s.ring.seq
      let done := { it with seq := some n, sent := r.val :: it.sent }
      let all := s.broadcastPlan.all fun p => done.sent.contains p.1
      let items := if all then s.ring.items.filter fun x => decide (x ≠ it) else s.ring.items.map fun x => if x = it then done else x
      let p := s.itemPayload it n
      let s := { s with ring := { s.ring with seq := next, items := items, ready := s.ring.ready.set r (s.ring.ready[r] ++ [(hops, p, false)]) } }
      if it.seq.isNone then s.measureLat Reg.LAT_EVENT_TO_RING 12 600 (s.nat (Reg.ISLAND_STATE (4 + r.val)) == 1) else s

/-- OWN_ENSIGN_RELEASE. -/
def execOwnEnsignRelease (ring : Fin 2) (s : State) : Host.Outcome State Fault Refusal := .next (s.live fun s => if s.ringQuiet then s else s.releaseItem ring)

/-- LOST_CAP of legs that a group has just lost, in kW rounded up (R194). -/
def State.lostCap (s : State) (g : Fin 4) (legs : Nat) : Nat :=
  let amps := ((legsOf g).filter fun n => bit legs (n.val % 8)).foldl (fun (a : Nat) n => a + s.nat (Reg.I_PHASE_MAX (legG n) (legE n))) 0
  (amps * (max s.groups[g].vout (s.int (Reg.V_FLOOR g))).toNat + 999999999) / 1000000000

/-- GROUP_LOSS_SEND (R194): for a group that feeds a port of another node; the legs lost are no longer available. -/
def State.sendLoss (s : State) (g : Fin 4) (legs : Nat) : State :=
  let lost := (legsOf g).foldl (fun (a : Nat) n => a + b2n (bit legs (n.val % 8) && !s.legUp n) * 2 ^ (n.val % 8)) 0
  match s.groupPort g with
  | some (node, i) =>
    if node == s.ownNode || lost == 0 || !s.isMember || !(s.routeState g == 4 || s.routeState g == 1) then s
    else s.queueItem ⟨2, node % 4096 + 4096 * (i / 4 + 1) + 16384 * (i % 4), g.val, s.lostCap g lost, none, []⟩
  | none => s

/-- GROUP_LOSS_SEND. -/
def execGroupLossSend (g : Fin 4) (legs : Nat) (s : State) : Host.Outcome State Fault Refusal := .next (s.live (·.sendLoss g legs))

end Sys2Proof.Machine
end

