-- ==== Sys2Proof/Machine/Burgee.lean ====
section
/-! DEFINITION. Burgee: the tokens of the pair link, eligibility, and the orderly release (R74 to R76, R392, R395 to R398). -/

namespace Sys2Proof.Machine

/-- Change what the unit holds of its pair. -/
def State.withPair (s : State) (p : PairState) : State := { s with pair := p }

/-- Whether the unit is eligible to take the Burgee (R76, R398). -/
def State.eligible (s : State) : Bool :=
  let b := compose (setBit (s.nat Reg.MODE_IN_FORCE) 3 false) 0
  (b == .run || b == .runI) && !s.power.pfw && !s.clockLost && s.nat Reg.BOOT_STATE != 3

/-- The 120 bytes of a token (R395). -/
def tokenBytes (t : Token) (kind : Nat) : List Byte :=
  padTo 120 (leBytes 1 kind ++ leBytes 1 t.flags ++ zeros 2 ++ leBytes 4 t.seq ++ leBytes 4 t.leaseMs ++ leBytes 4 t.tag ++ leBytes 1 t.mode
    ++ zeros 7 ++ leBytes 8 t.epoch)

/-- Send a token in a CONTROL slot of the pair link (R395), on lane 0 unless lane 1 alone is up (log entry 37). -/
def State.sendToken (s : State) (kind : Nat) (rehearsal : Bool) : State :=
  let flags := b2n s.eligible + 2 * b2n s.holds + 4 * b2n rehearsal + 8 * s.nat Reg.PAIR_RANK
  let t : Token := ⟨flags, s.pair.seq, s.nat Reg.LEASE_PERIOD, s.serialTag, s.nat Reg.MODE_IN_FORCE, s.epochNo⟩
  (s.withPair { s.pair with seq := (s.pair.seq + 1) % 4294967296 }).send
    (.pairSlot ((s.laneFor 0).getD 0) (slotChars (slotHeader 5 (s.nat Reg.RING_ADDR) 0 false false) (tokenBytes t kind)))

/-- T_TAKE in µs for a lease in ms: the lease, 2 ms, and 400 ppm of it rounded up to 1 µs (R397). -/
def tTake (leaseMs : Nat) : Nat := leaseMs * 1000 + 2000 + (leaseMs * 4 + 9) / 10

/-- The state of a unit of a pair that does not hold the Burgee: STANDBY under SHADOW, else CLAIMING (R399, R408). -/
def State.restBurgee (s : State) : Nat := if bit (s.nat Reg.MODE_WORD) 3 then 2 else 3

/-- The orderly release (R392, R396): RELEASE is sent, OE_PAIR goes low and the lease timer stops. -/
def State.orderlyRelease (s : State) (rehearsal : Bool) : State :=
  if !s.holds then s
  else
    let s := (s.sendToken 2 rehearsal).putBit Reg.OE_STATE 0 false
    let s := (s.putN Reg.LEASE_LEFT (tTake (s.nat Reg.LEASE_PERIOD))).putN Reg.BURGEE_STATE s.restBurgee
    let s := s.withPair { s.pair with claimed := false }
    if s.isHoist then s.stopLaunching else s

/-- The device sets or clears its own SHADOW bit, in MODE_WORD and in MODE_IN_FORCE at one ordering point, with one Pennant (R74,
R75). -/
def State.setShadow (s : State) (on : Bool) : State :=
  if bit (s.nat Reg.MODE_WORD) 3 == on then s
  else
    let before := s.get Reg.MODE_WORD
    let s := (s.putBit Reg.MODE_WORD 3 on).putBit Reg.MODE_IN_FORCE 3 on
    (s.count Reg.MODE_CHANGES).raiseCat 0x0100 0x00 40 before

/-- Whether the unit may give up a Burgee that its word no longer claims: its phases stand and its outlets are not OPEN (R78, R407). -/
def State.stoppedForRelease (s : State) : Bool := s.nat Reg.BURGEE_STATE == 6 && !s.phasesRun && s.beh 1 != .opened

/-- BURGEE_STATE follows the word (R396, R399, R407): a holder whose SHADOW bit the host sets stops first and then releases; one
that clears it again goes on; a unit without the Burgee is STANDBY or CLAIMING by the bit. -/
def State.burgeeFollows (s : State) : State :=
  if s.nat Reg.PAIR_EN == 0 then s
  else
    let shadow := bit (s.nat Reg.MODE_WORD) 3
    let b := s.nat Reg.BURGEE_STATE
    let s := if b == 1 && shadow then s.putN Reg.BURGEE_STATE 6
      else if b == 6 && !shadow then s.putN Reg.BURGEE_STATE 1
      else if (b == 3 || b == 4) && shadow then (s.putN Reg.BURGEE_STATE 2).withPair { s.pair with claimed := false }
      else if b == 2 && !shadow then s.putN Reg.BURGEE_STATE 3
      else s
    if s.stoppedForRelease then s.orderlyRelease false else s

end Sys2Proof.Machine
end

