-- ==== Sys2Proof/Machine/Metrology.lean ====
section
/-! DEFINITION. Metrology: the sinc³ filters, energy, the published values, input faults and captures (chapter 12). -/

namespace Sys2Proof.Machine

/-! ## Filter and energy (R284 to R287) -/

/-- The triangular number (n + 1)(n + 2) ÷ 2 of n - d, 0 below. -/
def triFrom (n d : Nat) : Int := if n < d then 0 else ((n - d + 1) * (n - d + 2) / 2 : Nat)
/-- Tap k of the sinc³ filter of decimation 64: the coefficient of z^k in (1 + z + … + z^63)^3 (R286). -/
def sincTap (k : Nat) : Int := triFrom k 0 - 3 * triFrom k 64 + 3 * triFrom k 128

/-- The filter's output for 192 bits, the newest at bit 191, of which it has taken so many words of 64, in 2^-24 of full scale (R286,
R289). -/
def sinc3 (words bits : Nat) : Int :=
  64 * (List.range (min 190 (64 * words))).foldl (fun (a : Int) k => if bit bits (191 - k) then a + sincTap k else a - sincTap k) 0

/-- The last 128 bits and a new word of 64 as 192 bits. -/
def joinBits (old word : Nat) : Nat := old % 2 ^ 128 + word % 2 ^ 64 * 2 ^ 128

/-- The current sample delayed by 4 + CAL_DELAY ÷ 256 samples, by linear interpolation (R286). -/
def delayed (ris : List Int) (calDelay : Int) : Int :=
  let d := (1024 + calDelay).toNat
  let k := d / 256
  let f : Int := (d % 256 : Nat)
  Int.tdiv ((ris[k]?).getD 0 * (256 - f) + (ris[k + 1]?).getD 0 * f) 256

/-- A calibrated value: offset, gain and full scale, in µV or µA (R286). -/
def calibrated (x off gain fs : Int) : Int :=
  Int.tdiv (Int.tdiv ((x + off) * (100000000 + gain)) 100000000 * fs * 1000) 16777216

/-- v_uV and i_uA of a channel from its sample lists (R286). -/
def State.calibrate (s : State) (c : Fin 4) (rvs ris : List Int) : Int × Int :=
  let n := c.val
  let rv := (rvs[4]?).getD 0
  let ri := delayed ris (s.int (Reg.CAL_DELAY n))
  (calibrated rv (s.int (Reg.CAL_V_OFFSET n)) (s.int (Reg.CAL_V_GAIN n)) (s.int (Reg.V_FS n)),
   calibrated ri (s.int (Reg.CAL_I_OFFSET n)) (s.int (Reg.CAL_I_GAIN n)) (s.int (Reg.I_FS n)))

/-- The power in pW (R286); a product outside S64 is a value the spec does not state, and a free one stands there. -/
def State.power_pW (s : State) (c : Fin 4) (v i : Int) : State × Int :=
  if (i.natAbs : Int) < s.int (Reg.CREEP_I c.val) * 1000 then (s, 0)
  else
    let p := v * i
    if -9223372036854775808 <= p && p <= 9223372036854775807 then (s, p) else (s.drawn, toS 64 (s.freeAt 6))

/-- Units of a residual in one mWh (R287). -/
def unitsPerMwh : Nat := 460800000000000000

/-- One sample's energy into the residuals and the registers (R287). -/
def State.integrate (s : State) (c : Fin 4) (p : Int) : State :=
  let m := s.meter c
  let imp := m.resImp + p.toNat
  let exp := m.resExp + (-p).toNat
  let s := s.setMeter c { m with resImp := imp % unitsPerMwh, resExp := exp % unitsPerMwh }
  (s.imported c (imp / unitsPerMwh)).exported c (exp / unitsPerMwh)

/-- Whether a raw value is at or above 0.95 of full scale (R285). -/
def overFs (x : Int) : Bool := 95 * 16777216 <= 100 * x.natAbs

/-- The time of samples at or above 0.95 of full scale counts, 128 of them to a millisecond (R285). -/
def State.noteOver (s : State) (c : Fin 4) (ovr : Bool) : State :=
  let m := s.meter c
  let s := if !ovr then s
    else if m.ovrSamples + 1 < 128 then s.setMeter c { m with ovrSamples := m.ovrSamples + 1, ovr := true }
    else (s.setMeter c { m with ovrSamples := 0, ovr := true }).count (Reg.OVR_MS c.val)
  s.refreshMc c ovr

/-- Whether a word of 64 bits held both levels. -/
def toggles (word : Nat) : Bool := word % 2 ^ 64 != 0 && word % 2 ^ 64 != 2 ^ 64 - 1

/-- A stream that has toggled for 1 ms is good again (R285). -/
def State.noteStreams (s : State) (c : Fin 4) (v i : Nat) : State :=
  let m := s.meter c
  let vg := if toggles v then min 128 (m.vGood + 1) else 0
  let ig := if toggles i then min 128 (m.iGood + 1) else 0
  let vs := m.vStuck && vg < 128
  let is := m.iStuck && ig < 128
  s.setMeter c { m with vGood := vg, iGood := ig, vStuck := vs, iStuck := is }

/-- The samples of the capture that runs: its duration in steps of 100 ms at 128 kS/s (R295). -/
def State.captureLen (s : State) : Nat := 12800 * field (s.res .calCapture).arg 15 8

/-- METROLOGY_SAMPLE (R284 to R288, R295). -/
def State.sample (s : State) (c : Fin 4) (v i : Nat) : State :=
  if !s.metering || s.modes.meterStopped then s
  else
    let m := s.meter c
    let vb := joinBits m.vBits v
    let ib := joinBits m.iBits i
    let words := min 3 (m.words + 1)
    let rv := sinc3 words vb
    let ri := sinc3 words ib
    let m := { m with words := words, vBits := vb / 2 ^ 64, iBits := ib / 2 ^ 64, rvs := (rv :: m.rvs).take 10, ris := (ri :: m.ris).take 10 }
    let cal := s.calibrate c m.rvs m.ris
    let m := { m with
      sumV := m.sumV + cal.1, sumI := m.sumI + cal.2, sumN := m.sumN + 1,
      capture := m.capture.map fun x => if x.2.2 < s.captureLen then (x.1 + rv, x.2.1 + ri, x.2.2 + 1) else x }
    let s := ((s.setMeter c m).noteStreams c v i).noteOver c (overFs rv || overFs ri)
    if s.integrating c then
      let p := s.power_pW c cal.1 cal.2
      p.1.integrate c p.2
    else s

/-- METROLOGY_SAMPLE. -/
def execMetrologySample (c : Fin 4) (v i : Nat) (s : State) : Host.Outcome State Fault Refusal := .next (s.live (·.sample c v i))

/-- METROLOGY_PUBLISH for one channel (R288): the outlet's V_CABLE and I_OUTLET, and the cooling model's current. -/
def State.publish (s : State) (c : Fin 4) : State :=
  let m := s.meter c
  if m.sumN == 0 then s
  else
    let v := Int.tdiv (Int.tdiv m.sumV m.sumN) 1000
    let i := Int.tdiv (Int.tdiv m.sumI m.sumN) 1000
    let s := s.setMeter c { m with sumV := 0, sumI := 0, sumN := 0 }
    let s := ((s.putI (Reg.V_INST c.val) v).putI (Reg.I_INST c.val) i).putI (Reg.P_INST c.val) (Int.tdiv (v * i) 1000000)
    let s := (s.putI (Reg.V_CABLE c.val) v).putI (Reg.I_OUTLET c.val) i
    s.setCool c { s.cools[c] with iSum := s.cools[c].iSum + i, iNum := s.cools[c].iNum + 1 }

/-- METROLOGY_PUBLISH. -/
def execMetrologyPublish (s : State) : Host.Outcome State Fault Refusal :=
  .next (s.live fun s => if s.metering then [0, 1, 2, 3].foldl (fun (st : State) (c : Fin 4) => st.publish c) s else s)

/-! ## Captures (R295) -/

/-- CAL_CAPTURE after its CMD write was accepted (R295). -/
def State.calCapture (s : State) (arg : Nat) : State :=
  let c : Fin 4 := Fin.ofNat 4 arg
  if !s.metering then s.refusedWith .calCapture 1
  else if !s.channelGood c then s.failedWith .calCapture 0x100
  else s.setMeter c { s.meter c with capture := some (0, 0, 0) }

/-- CAL_CAPTURE. -/
def execCalCapture (h : Hdr) (arg : Nat) (s : State) : Host.Outcome State Fault Refusal :=
  .next (s.hostCmd h .calCapture arg (·.calCapture arg))

/-- CAL_CAPTURE_DONE: the duration has been sampled (R295). -/
def execCalCaptureDone (s : State) : Host.Outcome State Fault Refusal :=
  .next (s.live fun s =>
    let arg := (s.res .calCapture).arg
    let c : Fin 4 := Fin.ofNat 4 arg
    match (s.meter c).capture with
    | some (v, i, n) =>
      if s.isPending .calCapture && s.captureLen <= n then
        (s.setMeter c { s.meter c with capture := none }).completed .calCapture 0
          (ofS 32 (Int.tdiv v n) + 4294967296 * ofS 32 (Int.tdiv i n))
      else s
    | none => s)

/-- A clock or stream fault ends a capture of the channel FAILED (R295, R303). -/
def State.captureFault (s : State) (c : Fin 4) : State :=
  if (s.meter c).capture.isSome then
    let s := s.setMeter c { s.meter c with capture := none }
    if s.isPending .calCapture then s.failedWith .calCapture 0x100 else s
  else s

/-! ## Faults of the inputs and of an engine (R285, R298) -/

/-- The channels of a metrology engine (R282). -/
def channelsOf (e : Fin 2) : List (Fin 4) := if e.val == 0 then [0, 1] else [2, 3]

/-- MSCR_CLOCK_LOST (R285). -/
def execMscrClockLost (e : Fin 2) (s : State) : Host.Outcome State Fault Refusal :=
  .next (s.live fun s =>
    if !s.metering || !s.bill.clock[e] then s
    else
      let s := { s with bill := { s.bill with clock := s.bill.clock.set e false } }
      let s := (channelsOf e).foldl (fun (st : State) (c : Fin 4) =>
        (st.setMeter c { st.meter c with gapAt := some st.now, gapTold := false, missing := true }).captureFault c) s
      s.refreshMcs)

/-- MSCR_CLOCK_RETURN (R285). -/
def execMscrClockReturn (e : Fin 2) (s : State) : Host.Outcome State Fault Refusal :=
  .next (s.live fun s =>
    if !s.metering then s
    else
      let s := { s with bill := { s.bill with clock := s.bill.clock.set e true } }
      let s := (channelsOf e).foldl (fun (st : State) (c : Fin 4) => st.setMeter c { st.meter c with gapAt := none, gapTold := false }) s
      s.refreshMcs)

/-- STREAM_STUCK (R285): one Pennant as the stream is found held. -/
def execStreamStuck (c : Fin 4) (cur : Bool) (s : State) : Host.Outcome State Fault Refusal :=
  .next (s.live fun s =>
    let m := s.meter c
    if !s.metering || (if cur then m.iStuck else m.vStuck) then s
    else
      let s := s.setMeter c (if cur then { m with iStuck := true, iGood := 0, missing := true }
        else { m with vStuck := true, vGood := 0, missing := true })
      ((s.captureFault c).refreshMcs).raise ((0x88 + c.val) * 256) (if cur then 0x227 else 0x127) 2 2 0 s.ltime)

/-- A metrology engine is fenced (R298): its running sessions are ended as by SESSION_STOP NORMAL, with the cause meter lost. -/
def State.meterFenced (s : State) (e : Fin 2) : State :=
  if s.bill.engFenced[e] then s
  else
  let s := { s with bill := { s.bill with engFenced := s.bill.engFenced.set e true } }
  let s := (channelsOf e).foldl (fun (st : State) (c : Fin 4) => (st.captureFault c).normalStop c (some 7)) s
  s.refreshMcs

end Sys2Proof.Machine
end

