-- ==== Sys2Proof/Machine/Modes.lean ====
section
/-! DEFINITION. Modes: how the resource classes move between their behaviours (R69, R77 to R81). -/

namespace Sys2Proof.Machine

/-! ## What a class waits for (R78, R80) -/

/-- Whether every group is parked. -/
def State.allParked (s : State) : Bool := (List.finRange 4).all fun g => s.groups[g].parked
/-- Whether the outlets are leaving OPEN. -/
def State.outletsLeave (s : State) : Bool := s.beh 1 == .opened && s.targetBeh 1 != .opened
/-- Whether an outlet contactor reads closed (R79). -/
def State.someCtrClosed (s : State) : Bool := (List.finRange 4).any fun o => s.ctr o 2 || s.ctr o 3
/-- Whether no session, closed contactor or run-on keeps the outlets (R78, steps 4 to 6). -/
def State.outletsDone (s : State) : Bool :=
  (List.finRange 4).all fun o => !s.inSession o.val && !s.ctr o 2 && !s.ctr o 3 && s.cools[o].runon.isNone
/-- Whether no session and no requested session record keeps the metrology and the billing (R78, step 5). -/
def State.recordsDone (s : State) : Bool :=
  s.bill.requests.isEmpty && (List.finRange 4).all fun o => !s.inSession o.val
/-- Whether phases and outlets have stopped, so that engines and power may move (R78, step 7). -/
def State.driversStopped (s : State) : Bool := !s.phasesRun && s.beh 1 != .opened

/-- Whether nothing but the engines and the power is left of an orderly stop (R78, step 7). -/
def State.othersDone (s : State) : Bool := !s.modes.stopping || ([0, 1, 2, 3, 4, 5] : List (Fin 8)).all fun c => !s.onTheWay c

/-- Whether a class may take its new behaviour now (R72, R78, R80). Under VAULT the channels, the ring, metrology, billing, engines
and power move only by the steps of R85. -/
def State.mayArrive (s : State) (c : Fin 8) : Bool :=
  let b := s.targetBeh c
  match c.val with
  | 0 => if runsPhases b then s.beh 6 == .run else !s.phasesRun || s.allParked
  | 1 => if b == .opened then s.beh 6 == .run else s.beh 1 != .opened || s.outletsDone
  | 2 => !bit (s.nat Reg.MODE_WORD) 7
  | 3 => b != .bypassed && s.beh 3 == .bypassed
  | 4 => b != .off && (b == .meter || s.recordsDone)
  | 5 => b != .stopped && (b == .keep || s.recordsDone)
  | 6 => if b == .run then !s.modes.restoring[(0 : Fin 8)] && !s.modes.restoring[(1 : Fin 8)]
    else b != .off && s.driversStopped && s.othersDone
  | _ => b != .vault && (b == .active || (s.driversStopped && s.beh 6 != .run && s.othersDone))

/-! ## Arriving (R72, R77) -/

/-- The phases run or stand (R32, R72, R80). -/
def State.phasesArrived (s : State) : State :=
  (List.finRange 4).foldl (fun (st : State) (g : Fin 4) =>
    if s.phasesRun then (st.unparkGroup g).routeStep g else st.parkGroup g) s

/-- The filters start anew (R289). -/
def Meter.restart (m : Meter) : Meter :=
  { m with vBits := 0, iBits := 0, words := 0, vGood := 0, iGood := 0, rvs := [], ris := [], sumV := 0, sumI := 0, sumN := 0,
           gapAt := none, gapTold := false }

/-- A metrology class that goes IDLE stops MSCK, which ends a capture as a lost clock does; one that comes back restarts its filters and
integrates once the clock has returned, and MC_STATUS follows (R285, R289, R295). -/
def State.metrologyArrived (s : State) (was : Beh) : State :=
  let s := if s.beh 4 != .meter && was == .meter then
      ([0, 1, 2, 3] : List (Fin 4)).foldl (fun (st : State) c => st.captureFault c) s else s
  let s := if (s.beh 4 == .meter) != (was == .meter) then
      { s with bill := { s.bill with meters := s.bill.meters.map Meter.restart, clock := Vector.replicate 2 false } } else s
  let s := if s.part.variant = .n || s.clockLost then s else s.putN (Reg.ISLAND_STATE 3) (b2n (s.beh 4 == .meter))
  s.refreshMcs

/-- Integration resumes where a VAULT entry had stopped it (R85). -/
def State.resumeMeter (s : State) : State := { s with modes := { s.modes with meterStopped := false } }

/-- The engines take their behaviour (R72, R132, R260). -/
def State.enginesArrived (s : State) : State :=
  let s := if s.beh 6 == .idle || s.beh 6 == .off then s.coolHalt else s
  (List.finRange 4).foldl (fun (st : State) (o : Fin 4) => st.refreshCool o) s.refreshEngines

/-- A class takes its new behaviour, with what that does at once (R72, R77). -/
def State.classArrived (s : State) (c : Fin 8) : State :=
  let was := s.beh c
  let s := s.arrive c
  let s := match c.val with
    | 0 => s.phasesArrived
    | 1 => s.outletsArrived.coolArrived
    | 2 => s.driveAll
    | 3 => if s.beh 3 == Beh.bypassed then s.driveByp false else if was == Beh.bypassed && s.nat Reg.BYP_FORCE == 0 then s.bypHoldEffect else s
    | 4 => s.metrologyArrived was
    | 6 => s.enginesArrived
    | _ => s
  s.burgeeFollows.refreshTransit

/-- The word the classes move toward has changed (R77, R78, R80): a stop begins, or classes that start have their engines restored. -/
def State.classesTurn (s : State) : State :=
  let leaving := s.phasesLeave || s.outletsLeave
  let s := { s with modes := { s.modes with
    stopping := leaving
    stopAt := if leaving && !s.modes.stopping then s.now else s.modes.stopAt
    restoring := (s.modes.restoring.set 0 (runsPhases (s.targetBeh 0) && !s.phasesRun)).set 1
      (s.targetBeh 1 == Beh.opened && s.beh 1 != Beh.opened) } }
  let s := if s.outletsLeave then s.outletsStop else if s.beh 1 == Beh.opened then s.outletsArrived else s
  let s := if s.phasesRun && !s.phasesLeave then s.phasesArrived else s
  s.burgeeFollows.refreshTransit

/-- CLASS_ARRIVE (R77): a class in transit takes its behaviour once what it waits for holds. -/
def execClassArrive (c : Fin 8) (s : State) : Host.Outcome State Fault Refusal :=
  .next (s.live fun s => if s.onTheWay c && s.mayArrive c then s.classArrived c else s)

/-- ENGINE_RESTORE_DONE (R80): the engines run, and with them the phases that start. -/
def execEngineRestoreDone (c : Fin 8) (s : State) : Host.Outcome State Fault Refusal :=
  .next (s.live fun s =>
    if !s.modes.restoring[c] || s.targetBeh 6 != .run then s
    else
      let s := { s with modes := { s.modes with restoring := s.modes.restoring.set c false } }
      let s := if s.beh 6 == .run then s else s.classArrived 6
      if c.val == 0 && s.onTheWay 0 && s.mayArrive 0 then s.classArrived 0 else s)

/-! ## The orderly and the forced stop (R78, R79) -/


/-- GROUP_PARK (R32 step 2, R78 step 3): a group whose current is at or below ROUTE_ZERO_I parks; the phases arrive with the last
one; a switch-over goes on to its opening. -/
def execGroupPark (g : Fin 4) (s : State) : Host.Outcome State Fault Refusal :=
  .next (s.live fun s =>
    if !s.groupZero g || !s.phasesRun then s
    else if s.phasesLeave then
      let s := (s.parkGroup g).noteParked
      if s.allParked && s.onTheWay 0 then s.classArrived 0 else s
    else if s.routeState g == 1 then s.routeOpen g
    else s)

/-- OUTLET_CONTACTOR_DELAY_END (R78, step 4; R79, step 2): an outlet that stops starts its opening sequence. -/
def execOutletContactorDelayEnd (o : Fin 4) (s : State) : Host.Outcome State Fault Refusal :=
  .next (s.live fun s =>
    if s.modes.ctrDelay[o] && s.outState o == 8 then
      ({ s with modes := { s.modes with ctrDelay := s.modes.ctrDelay.set o false } }).openContactors o
    else s)

/-- FORCED_STOP (R79): the gates of every leg go low, the contactors that are still closed follow after 5 ms. -/
def execForcedStop (s : State) : Host.Outcome State Fault Refusal :=
  .next (s.live fun s =>
    if !s.modes.stopping || (s.allParked && !s.someCtrClosed) then s
    else
      let at_ := s.modes.stopAt
      let s := (List.finRange 4).foldl (fun (st : State) (g : Fin 4) => st.parkGroup g) s
      let delay (o : Fin 4) : Bool := s.outState o == 8 && (s.ctr o 2 || s.ctr o 3)
      let s := { s with modes := { s.modes with ctrDelay := Vector.ofFn delay } }
      let before := s.get Reg.FORCED_STOPS
      let s := (s.count Reg.FORCED_STOPS).raise 0x0100 0x008 1 2 (val64 before) (ltimeOf at_)
      if s.phasesLeave && s.onTheWay 0 then s.classArrived 0 else s)

/-! ## LIMP_EN (R69) -/

/-- LIMP_EN asserted during a test of the power-analog die ends it FAILED with PARTIAL, and the masked channels follow their pins
(R433); a test that an ABORT already winds down ends as that left it (R62). -/
def State.bistLimp (s : State) : State :=
  let s := (s.endCmd .bist .failed 0x0103 0).putN Reg.BIST_STATE 0
  s.setRes .bist { s.res .bist with part := true }

/-- LIMP_EN_CHANGE: handled as a change of the word (R69, R77); before the boot masked channels follow at once (R454). -/
def execLimpEnChange (asserted : Bool) (s : State) : Host.Outcome State Fault Refusal :=
  .next (
    if s.modes.limpEn == asserted then s
    else
      let s := { s.putBit Reg.LIMP_PINS 8 asserted with modes := { s.modes with limpEn := asserted } }
      let s := if s.testing 7 && asserted && s.nat Reg.BIST_STATE == 1 && s.isPending .bist then s.bistLimp else s
      (s.live fun s => ((s.count Reg.MODE_CHANGES).classesTurn)).driveAll)

end Sys2Proof.Machine
end

