-- ==== Sys2Proof/Machine/Pair.lean ====
section
/-! DEFINITION. Pair: the Burgee, the mirror, the takeover and the rehearsal (chapter 16). -/

namespace Sys2Proof.Machine

/-! ## Tokens (R395 to R397, R399) -/

/-- An effect in a powered unit of a pair. -/
def State.paired (s : State) (f : State → State) : State := s.live fun s => if s.nat Reg.PAIR_EN == 1 then f s else s

/-- What every token tells of its sender (R395, R408). -/
def State.noteToken (s : State) (t : Token) : State :=
  (((s.putN Reg.PEER_SERIAL t.tag).putN Reg.PEER_MODE (t.mode % 256)).putN Reg.PEER_FLAGS (t.flags % 256)).putN Reg.TOKEN_AGE 0

/-- The partner's OE_PAIR as this unit reads it. -/
def State.oePeer (s : State) : Bool := bit (s.nat Reg.OE_STATE) 1

/-- RENEW_SEND (R396): the sending reloads the lease timer. -/
def execRenewSend (s : State) : Host.Outcome State Fault Refusal :=
  .next (s.paired fun s =>
    if s.holds then (s.putN Reg.LEASE_LEFT (s.nat Reg.LEASE_PERIOD * 1000)).sendToken 1 false else s)

/-- STANDBY_SEND (R396). -/
def execStandbySend (s : State) : Host.Outcome State Fault Refusal :=
  .next (s.paired fun s =>
    if s.nat Reg.BURGEE_STATE == 2 || s.nat Reg.BURGEE_STATE == 5 then s.sendToken 4 false else s)

/-- The rehearsal ends at the first RENEW from the partner (R404, step 4). -/
def State.rehearsed (s : State) (us : Nat) : State :=
  let epoch := s.pair.swapEpoch % 4294967296
  (s.withPair { s.pair with phase := 0 }).completed .rehearsal 0 (epoch + us % 4294967296 * 4294967296)

/-- RENEW (R397, R399, R403, R404): a holder disregards it; every other unit times T_TAKE anew by the token's LEASE_MS; a claiming
unit is in CONTEST, with one Pennant. -/
def execRenew (t : Token) (us : Nat) (s : State) : Host.Outcome State Fault Refusal :=
  .next (s.paired fun s =>
    let s := s.noteToken t
    if s.holds then s
    else
      let s := if s.pair.phase == 2 then s.rehearsed us else s
      let s := (s.putN Reg.LEASE_LEFT (tTake t.leaseMs)).withPair { s.pair with claimed := false, released := false }
      let b := s.nat Reg.BURGEE_STATE
      if b == 5 then s.putN Reg.BURGEE_STATE (if bit (s.nat Reg.MODE_WORD) 3 then 2 else 4)
      else if b == 3 then
        let before := s.get Reg.BURGEE_STATE
        (s.putN Reg.BURGEE_STATE 4).raiseCat 0x5900 0x10 41 before
      else s)

/-- RELEASE (R397): T_TAKE is 2 ms from its arrival. -/
def execRelease (t : Token) (s : State) : Host.Outcome State Fault Refusal :=
  .next (s.paired fun s =>
    let s := s.noteToken t
    if s.holds then s else (s.putN Reg.LEASE_LEFT 2000).withPair { s.pair with released := true })

/-- Whether this unit goes on against its partner: the one with rank 0, or with equal ranks the one with the lower SERIAL_TAG (R399,
R408). -/
def State.goesBefore (s : State) (peerFlags peerTag : Nat) : Bool :=
  let own := s.nat Reg.PAIR_RANK
  let peer := bitN peerFlags 3
  own < peer || (own == peer && s.serialTag < peerTag)

/-- CLAIM (R399): where CLAIMs cross, one goes on and the other withdraws. -/
def execClaim (t : Token) (s : State) : Host.Outcome State Fault Refusal :=
  .next (s.paired fun s =>
    let s := s.noteToken t
    if s.pair.claimed && s.nat Reg.BURGEE_STATE == 3 && !s.goesBefore t.flags t.tag then
      (s.withPair { s.pair with claimed := false }).putN Reg.LEASE_LEFT (tTake (s.nat Reg.LEASE_PERIOD))
    else s)

/-- STANDBY (R395). -/
def execStandby (t : Token) (s : State) : Host.Outcome State Fault Refusal := .next (s.paired (·.noteToken t))

/-- CLAIM_SEND (R399): the 2 ms guard runs from the CLAIM. -/
def execClaimSend (s : State) : Host.Outcome State Fault Refusal :=
  .next (s.paired fun s =>
    if s.nat Reg.BURGEE_STATE == 3 && !s.pair.claimed then
      ((s.sendToken 3 false).putN Reg.LEASE_LEFT 2000).withPair { (s.sendToken 3 false).pair with claimed := true }
    else s)

/-! ## The mirror (R297, R331, R394, R401) -/

/-- Whether the standby's registers take a key from its partner's journal: every committed register but the channel's own totals
and the calendar's readbacks (R325, R331, R401). -/
def isMirrored (k : Nat) : Bool := isRegister k && !(0x88 <= keyG k && keyG k <= 0x8B) && keyG k != 0x90

/-- The dictionary with the mirrored registers at a journal's values. -/
def journalInto (objs regs : List (Nat × Val)) : List (Nat × Val) :=
  (regs.filter fun c => isMirrored c.1).foldl (fun l (c : Nat × Val) => objPut l c.1 c.2) (objs.filter fun c => !isMirrored c.1)

/-- The account slot that a journal entry carries. -/
def Acct.ofImage (a : AcctImage) : Acct := ⟨a.id, a.credit, a.ecAmount, a.ecOut, a.granted, a.res, a.lastRef, a.newId⟩

/-- A net energy, mWh. -/
def netOf (imp exp : Nat) : Int := (imp : Int) - exp

/-- The unit's own totals of a channel. -/
def State.ownTotals (s : State) (c : Fin 4) : Nat × Nat := (s.nat (Reg.E_IMPORT c.val), s.nat (Reg.E_EXPORT c.val))

/-- The comparison of a mirrored session at its end (R297): the journal's session energy against this unit's own. -/
def State.compareSession (s : State) (c : Fin 4) : State :=
  let j := s.pair.journal
  let start := (objGet j (Reg.SESS_START c.val)).int.toNat
  let m := s.pair.compare[c]
  let own := s.ownTotals c
  if start != m.1 then s.withPair { s.pair with compare := s.pair.compare.set c (start, own.1, own.2, false) }
  else
    let x := s.pair.sessions[c]
    let gone := !(3 <= x.state && x.state <= 9)
    if !gone || m.2.2.2 || start == 0 then s
    else
      let s := s.withPair { s.pair with compare := s.pair.compare.set c (m.1, m.2.1, m.2.2.1, true) }
      let active := netOf (objGet j (Reg.SESS_IMPORT c.val)).int.toNat (objGet j (Reg.SESS_EXPORT c.val)).int.toNat
      let mine := netOf own.1 own.2 - netOf m.2.1 m.2.2.1
      if (s.nat Reg.PAIR_TOL_PPM * active.natAbs / 1000000 + 10) < (mine - active).natAbs then
        let before := s.get Reg.PAIR_DIFF_CNT
        (s.count Reg.PAIR_DIFF_CNT).raiseCat (keyG Reg.PAIR_DIFF_CNT * 256) (keyO Reg.PAIR_DIFF_CNT) 42 before
      else s

/-- A journal entry (R331, R394): the unit's own totals are stored beside it, and under billing MIRROR its registers follow it. -/
def State.takeJournal (s : State) (regs : List (Nat × Val)) (accts : List (Nat × AcctImage)) : State :=
  let s := s.withPair { s.pair with journal := regs, own := some (Vector.ofFn fun c => s.ownTotals c) }
  let s := if s.beh 5 == .mirror then
      { s with objs := journalInto s.objs regs, bill := { s.bill with accts := accts.map fun x => (x.1, Acct.ofImage x.2) } } else s
  if s.part.variant = .n then s else [0, 1, 2, 3].foldl (fun (st : State) (c : Fin 4) => st.compareSession c) s

/-- Mirrored grants (R394): compared with the unit's own computation for the same boundary; a difference raises one Pennant. -/
def State.takeGrants (s : State) (epoch : Nat) (ports groups : List Int) (crc : Nat) : State :=
  let g : Grants := ⟨Vector.ofFn fun i => ports.getD i.val 0, Vector.ofFn fun i => groups.getD i.val 0⟩
  let s := s.withPair { s.pair with grants := some (epoch, g) }
  if epoch == s.epochNo && (s.site.applied != g || s.site.crc.getD 0 != crc) then
    s.raiseCat 0x5200 0x09 43 (s.get Reg.RESULT_CRC_OWN)
  else s

/-- One mirrored item at a unit that does not hold the Burgee (R394): stored as the newest copy. -/
def State.takeItem (s : State) (it : MirrorItem) : State :=
  let age (i : Nat) (s : State) : State := s.putN (Reg.MIRROR_AGE i) 0
  match it with
  | .grants e p g c => age 1 (s.takeGrants e p g c)
  | .loop e x =>
    let rest := s.pair.loops.filter fun y => decide (y.1 ≠ e)
    if s.beh 6 == .service || s.beh 6 == .idle || s.beh 6 == .off then s
    else
    let s := s.withPair { s.pair with loops := rest ++ [(e, x, 0)] }
    let n := s.nat (Reg.BIND_ACTIVE e)
    age 2 (if n < 32 && s.beh 6 == .track then s.loadLoop e (legIx n) x else s)
  | .route g st sel => age 3 (s.withPair { s.pair with routes := s.pair.routes.set g (some (st, sel)) })
  | .session o x => age 4 (s.withPair { s.pair with sessions := s.pair.sessions.set o x })
  | .journal regs accts => age 5 (s.takeJournal regs accts)

/-- MIRROR_ITEM. -/
def execMirrorItem (item : MirrorItem) (s : State) : Host.Outcome State Fault Refusal :=
  .next (s.paired fun s => if s.holds then s else s.takeItem item)

/-- A full copy of every item, once the pair link returns (R394, R403). -/
def State.mirrorAll (s : State) : State :=
  let s := s.mirror (.grants s.epochNo s.site.applied.ports.toList s.site.applied.groups.toList (s.site.crc.getD 0))
  let s := (List.finRange 38).foldl (fun (st : State) (e : Fin 38) =>
    let n := st.nat (Reg.BIND_ACTIVE e)
    if n < 32 then st.mirror (.loop e (st.loopImage e (legIx n))) else st) s
  let s := (List.finRange 4).foldl (fun (st : State) (g : Fin 4) =>
    st.mirror (.route g (st.routeState g) (st.nat (Reg.ROUTE_SELECT g)))) s
  let s := (List.finRange 4).foldl (fun (st : State) (o : Fin 4) => st.mirror (st.sessionItem o)) s
  s.mirror s.journalItem

/-- PAIR_LANE_UP (R216): the first lane of a link that was down brings a full copy (R403). -/
def execPairLaneUp (lane : Fin 2) (s : State) : Host.Outcome State Fault Refusal :=
  .next (s.live fun s =>
    let down := s.nat Reg.PAIR_LANE_STATE % 4 == 0
    let s := (s.putBit Reg.PAIR_LANE_STATE lane.val true).putN (Reg.ISLAND_STATE 6) 1
    if down then s.mirrorAll else s)

/-- PAIR_LANE_DOWN (R216): how many slots of the lane failed their CRC-24 no command tells, so a free value is added (log entry 2). -/
def execPairLaneDown (lane : Fin 2) (s : State) : Host.Outcome State Fault Refusal :=
  .next (s.live fun s => ((s.putBit Reg.PAIR_LANE_STATE lane.val false).addC (Reg.PAIR_LANE_ERR_CNT (lane.val + 1)) (s.freeAt 16)).drawn)

/-! ## The takeover (R297, R400 to R402) -/

/-- One HANDOVER record per channel (R297, R301). -/
def State.handover (s : State) : State :=
  if s.part.variant = .n then s
  else
    let live := if s.nat (Reg.MIRROR_AGE 5) <= 1000 then 32 else 0
    [0, 1, 2, 3].foldl (fun (st : State) (c : Fin 4) =>
      let imp := (objGet st.pair.journal (Reg.E_IMPORT c.val)).int.toNat
      let exp := (objGet st.pair.journal (Reg.E_EXPORT c.val)).int.toNat
      st.record ⟨8, some c, live, st.now, st.nat (Reg.SESSION_ID c.val), leBytes 8 imp ++ leBytes 8 exp, 0⟩) s

/-- An engine at a takeover (R150, R400 step 2): warm from a state at most 1 ms old, else cold with soft entry. -/
def State.adoptLoop (s : State) (e : Fin 38) : State :=
  let n := s.nat (Reg.BIND_ACTIVE e)
  if 32 <= n then s
  else
    match s.pair.loops.find? fun y => y.1 = e && y.2.2 <= 1000 with
    | some (_, x, _) => s.loadLoop e (legIx n) x
    | none =>
      let s := s.setEngine e { s.engines[e] with s := 0, windup := false, dwell := 0, cand := 0 }
      s.setLeg (legIx n) { s.legs[legIx n] with entry := 1 }

/-- A route at a takeover (R400 step 3, R407): ROUTE_SELECT is the mirrored one where one was mirrored; its drive is switched on;
CONNECTED where its feedback reads closed, else from step 3 of R32. -/
def State.adoptRoute (s : State) (g : Fin 4) : State :=
  let s := match s.pair.routes[g] with | some x => s.putN (Reg.ROUTE_SELECT g) x.2 | none => s
  let sel := s.routeSel g
  match s.routeVal g sel with
  | none => s
  | some v =>
    if !s.role g then s
    else
      let s := (s.setGroup g { s.groups[g] with routeNext := sel, routeWritten := false }).takeRoute g sel v
      s.putRoute g (if s.nowClosed g then 4 else 3)

/-- The grants that the holder released at the last boundary become PREV (R181, R400 step 4), or zero where none was mirrored. -/
def State.adoptGrants (s : State) : State :=
  let g := match s.pair.grants with | some x => x.2 | none => Grants.zero
  { s.applyGrants g with site := { (s.applyGrants g).site with safe := g } }

/-- Whether a mirrored session is one that a takeover ends by an emergency stop (R402). -/
def sessionPast (x : SessionImage) : Bool := 5 <= x.state && x.state <= 9

/-- The increments of a channel since the last journal entry (R401): attributed from now on. -/
def State.adoptRegisters (s : State) (c : Fin 4) : State :=
  let x := s.pair.sessions[c]
  let open_ := sessionPast x && x.startSeq != 0
  let s := s.setMeter c { s.meter c with inSession := open_, startSeq := x.startSeq, startMissing := s.nat (Reg.MISSING_MS c.val) }
  let own := s.ownTotals c
  let old := match s.pair.own with | some l => l[c] | none => own
  (s.attribImport c (own.1 - old.1)).attribExport c (own.2 - old.2)

/-- What names a mirrored session is taken, ahead of the energy charged to it and of the records that bear it (R400 to R402). -/
def State.adoptIdent (s : State) (o : Fin 4) : State :=
  let x := s.pair.sessions[o]
  if sessionPast x then
    let s := ((s.putN (Reg.SESSION_ID o.val) x.session).putN (Reg.PROTOCOL o.val) x.protocol).putN (Reg.ACCOUNT_SLOT o.val) x.account
    let s := (s.putB (Reg.EVCC_ID o.val) (str32Of x.evcc)).putB (Reg.EMAID o.val) (str32Of x.emaid)
    s.setOut o { s.out o with evcc := x.evcc, emaid := x.emaid, authorised := x.auth == 1, started := x.startSeq != 0 }
  else s

/-- A mirrored session at a takeover (R402): one past the negotiation is stopped as an emergency, one before it is gone. -/
def State.adoptSession (s : State) (o : Fin 4) : State :=
  let x := s.pair.sessions[o]
  if sessionPast x then ((s.toState o x.state).emergencyStop o 4).ctrStep o else s

/-- The unit takes the Burgee at the moment T (R392, R400). -/
def State.takeBurgee (s : State) (gap : Nat) : State :=
  let before := s.get Reg.TAKEOVER_CNT
  let s := s.setShadow false
  let s := (s.putN Reg.BURGEE_STATE 1).putBit Reg.OE_STATE 0 true
  let s := (s.withPair { s.pair with claimed := false, released := false, phase := 0 }).putN Reg.LEASE_LEFT (s.nat Reg.LEASE_PERIOD * 1000)
  let s := s.sendToken 1 false
  let s := ((s.count Reg.TAKEOVER_CNT).putN Reg.LAST_TAKEOVER s.ltime).putN Reg.LAST_TAKE_GAP (min gap 4294967295)
  let s := s.raiseCatP 0x5900 0x18 44 1 before
  let s := s.classesTurn
  let s := (s.classArrived 2).classArrived 5
  let s := (List.finRange 38).foldl (fun (st : State) (e : Fin 38) => st.adoptLoop e) s
  let s := (List.finRange 4).foldl (fun (st : State) (g : Fin 4) => st.adoptRoute g) s
  let s := s.adoptGrants
  let s := if s.isMember then s.putN Reg.ROSTER_STATE 2 else s
  let s := if s.part.variant = .n then s else [0, 1, 2, 3].foldl (fun (st : State) (c : Fin 4) => (st.adoptIdent c).adoptRegisters c) s
  let s := s.handover
  if s.part.variant = .n then s else (List.finRange 4).foldl (fun (st : State) (o : Fin 4) => st.adoptSession o) s

/-- Whether the unit may take the Burgee now (R392, R397, R399): it does not hold it, a claim of its own went out where it is
CLAIMING, it is eligible, and OE_PEER reads low. -/
def State.mayTake (s : State) : Bool :=
  let b := s.nat Reg.BURGEE_STATE
  (b == 2 || b == 4 || b == 5 || (b == 3 && s.pair.claimed)) && s.eligible && !s.oePeer

/-- TAKEOVER. -/
def execTakeover (gap : Nat) (s : State) : Host.Outcome State Fault Refusal :=
  .next (s.paired fun s => if s.mayTake then s.takeBurgee gap else s)

/-- PARTNER_LEASE_EXPIRED (R76): a standby that is not eligible does not take; one Pennant per lease period. -/
def execPartnerLeaseExpired (s : State) : Host.Outcome State Fault Refusal :=
  .next (s.paired fun s =>
    if s.nat Reg.BURGEE_STATE == 2 && !s.eligible then s.raiseCat 0x5900 0x11 45 (s.get Reg.LEASE_LEFT) else s)

/-! ## Without a link, or with two drivers (R403) -/

/-- SPLIT_DETECT: the standby does not take; one Pennant per lease period, and one count as it enters SPLIT. -/
def execSplitDetect (s : State) : Host.Outcome State Fault Refusal :=
  .next (s.paired fun s =>
    if s.holds || !s.oePeer then s
    else
      let before := s.get Reg.SPLIT_CNT
      let s := if s.nat Reg.BURGEE_STATE == 5 then s else (s.count Reg.SPLIT_CNT).putN Reg.BURGEE_STATE 5
      s.raiseCat 0x5900 0x1A 46 before)

/-- OE_PEER_CHANGE: OE_STATE follows; in SPLIT, and in the guard of a RELEASE, the fall starts the 2 ms anew (R397, R403). -/
def execOePeerChange (high : Bool) (s : State) : Host.Outcome State Fault Refusal :=
  .next (s.live fun s =>
    let fell := s.oePeer && !high
    let s := s.putBit Reg.OE_STATE 1 high
    let guard_ := s.nat Reg.BURGEE_STATE == 5 || (s.pair.released && !s.holds)
    if s.nat Reg.PAIR_EN == 1 && fell && guard_ then s.putN Reg.LEASE_LEFT 2000 else s)

/-- Whether this unit gives way in a conflict of drivers (R403, R408): by its rank, and with ranks known to be equal by the
SERIAL_TAGs. -/
def State.givesWay (s : State) : Bool :=
  if s.nat Reg.PAIR_RANK == bitN (s.nat Reg.PEER_FLAGS) 3 && s.nat Reg.PEER_SERIAL != 0 then
    !s.goesBefore (s.nat Reg.PEER_FLAGS) (s.nat Reg.PEER_SERIAL)
  else s.nat Reg.PAIR_RANK == 1

/-- DRIVER_CONFLICT: the unit with PAIR_RANK 1 releases and enters CONTEST, and with equal ranks the one with the higher SERIAL_TAG;
the other goes on (R403, R408). -/
def execDriverConflict (s : State) : Host.Outcome State Fault Refusal :=
  .next (s.paired fun s =>
    if !s.holds || !s.oePeer then s
    else
      let s := s.count Reg.SPLIT_CNT
      if s.givesWay then ((s.orderlyRelease false).putN Reg.BURGEE_STATE 4).classesTurn else s)

/-! ## The rehearsal (R404) -/

/-- REHEARSAL after its CMD write was accepted. -/
def State.rehearsal (s : State) : State :=
  if !s.holds then s.refusedWith .rehearsal 3 else s.withPair { s.pair with phase := 1, waited := 0 }

/-- REHEARSAL. -/
def execRehearsal (h : Hdr) (arg : Nat) (s : State) : Host.Outcome State Fault Refusal :=
  .next (s.hostCmd h .rehearsal arg (·.rehearsal))

/-- Whether the boundary is quiet (R404, step 1). -/
def State.quietForSwap (s : State) : Bool :=
  ((List.range 4).all fun o => [0, 1, 2, 10, 11].contains (s.nat (Reg.OUT_STATE o))) &&
  ((List.range 4).all fun g => s.int (Reg.PG_GRANT (g + 1)) == 0) &&
  s.nat Reg.PAIR_LANE_STATE % 4 == 3 && bit (s.nat Reg.PEER_FLAGS) 0 &&
  s.nat Reg.COMMIT_STATE != 1 && s.nat Reg.COMMIT_STATE != 2

/-- REHEARSAL_SWAP (R404, step 2): from here on the command is no longer abortable. -/
def execRehearsalSwap (s : State) : Host.Outcome State Fault Refusal :=
  .next (s.paired fun s =>
    if s.pair.phase != 1 || !s.quietForSwap || !s.holds then s
    else
      let s := s.withPair { s.pair with phase := 2, swapEpoch := s.epochNo }
      let s := (s.setShadow true).orderlyRelease true
      s.handover.classesTurn)

/-- REHEARSAL_WAIT_EXPIRED. -/
def execRehearsalWaitExpired (s : State) : Host.Outcome State Fault Refusal :=
  .next (s.paired fun s =>
    if s.pair.phase == 1 && (s.res .rehearsal).arg <= s.pair.waited then
      (s.withPair { s.pair with phase := 0 }).refusedWith .rehearsal 0x100
    else s)

/-- REHEARSAL_TAKE_TIMEOUT: with OE_PEER low the unit clears its SHADOW bit again and retakes after the guard; with OE_PEER high the
partner drives, and PARTIAL is set. -/
def execRehearsalTakeTimeout (s : State) : Host.Outcome State Fault Refusal :=
  .next (s.paired fun s =>
    if s.pair.phase != 2 then s
    else if s.oePeer then
      let s := (s.withPair { s.pair with phase := 0 }).failedWith .rehearsal 0x102
      s.setRes .rehearsal { s.res .rehearsal with part := true }
    else
      let s := (s.withPair { s.pair with phase := 0, claimed := true }).failedWith .rehearsal 0x101
      let s := ((s.setShadow false).putN Reg.BURGEE_STATE 3).putN Reg.LEASE_LEFT 2000
      s.classesTurn)

/-- An ABORT of a REHEARSAL that waits (R404, step 1; R407): aborted with no effects. -/
def State.abortRehearsal (s : State) : State :=
  if s.pair.phase == 1 then (s.withPair { s.pair with phase := 0 }).endCmd .rehearsal .aborted 0 0 else s

/-! ## Commits (R399, R408) -/

/-- PAIR_EN was committed (R399): a unit that becomes one of a pair waits for the Burgee; a single unit holds none. -/
def State.pairCommitted (s : State) (old : Nat) : State :=
  let new := s.nat Reg.PAIR_EN
  if old == new then s
  else
    let s := s.withPair PairState.reset
    if new == 1 then ((s.putN Reg.BURGEE_STATE s.restBurgee).putN Reg.LEASE_LEFT (tTake (s.nat Reg.LEASE_PERIOD))).classesTurn
    else (((s.putN Reg.BURGEE_STATE 0).putBit Reg.OE_STATE 0 false).putN Reg.LEASE_LEFT 0).classesTurn

end Sys2Proof.Machine
end

