-- ==== Sys2Proof/Machine/Voner.lean ====
section
/-! DEFINITION. Voner: the frames of the Voner line, its polling, its slaves and their mailboxes (chapter 17). -/

namespace Sys2Proof.Machine

/-! ## The codeword and its symbols (R411, R412) -/

/-- Multiplication in GF(2^8) with the polynomial 0x11D: b is taken bit by bit, k bits of it. -/
def gfMul : (k a b : Nat) → Nat
  | 0, _, _ => 0
  | k + 1, a, b =>
    Nat.xor (if bit b 0 then a else 0) (gfMul k (if a < 128 then 2 * a else Nat.xor (2 * a) 0x11D) (b / 2))

/-- A polynomial over GF(2^8), highest power first, times x plus a constant. -/
def gfTimesRoot (p : List Nat) (root : Nat) : List Nat :=
  ((p ++ [0]).zip (0 :: p)).map fun (x : Nat × Nat) => Nat.xor x.1 (gfMul 8 x.2 root)

/-- α^i. -/
def gfPow : Nat → Nat
  | 0 => 1
  | i + 1 => gfMul 8 (gfPow i) 2

/-- The generator polynomial with the roots α^0 to α^15, highest power first (R412). -/
def rsGenerator : List Nat := (List.range 16).foldl (fun p i => gfTimesRoot p (gfPow i)) [1]

/-- One byte into the remainder of a division by the generator, the highest power first. -/
def rsStep (r : List Nat) (b : Nat) : List Nat :=
  let f := Nat.xor b (r.headD 0)
  (((r.drop 1) ++ [0]).zip (rsGenerator.drop 1)).map fun (x : Nat × Nat) => Nat.xor x.1 (gfMul 8 f x.2)

/-- The 16 parity bytes of 104 bytes: systematic, the first byte the highest power (R412, log entry 50). -/
def rsParity (bs : List Byte) : List Byte := (bs.foldl (fun r b => rsStep r b.toNat) (List.replicate 16 0)).map byte

/-- Bytes 0 to 103 of a frame (R412). -/
def vonBody (addr typ seqs : Nat) (data : List Byte) : List Byte :=
  let b := leBytes 1 addr ++ leBytes 1 typ ++ leBytes 1 seqs ++ leBytes 1 data.length ++ padTo 96 data
  b ++ leBytes 4 (crc32 b)

/-- The 120-byte codeword of a frame (R412). -/
def vonCodeword (addr typ seqs : Nat) (data : List Byte) : List Byte :=
  vonBody addr typ seqs data ++ rsParity (vonBody addr typ seqs data)

/-- The bits of a byte list, least significant bit first. -/
def bitsOf (bs : List Byte) : List Bool := bs.flatMap fun b => (List.range 8).map (bit b.toNat)

/-- The parity of the register's bits that a generator takes. -/
def tapParity (g : Nat) (reg : List Bool) : Bool :=
  (reg.zip ([6, 5, 4, 3, 2, 1, 0].map (bit g))).foldl (fun a x => a != (x.1 && x.2)) false

/-- The tail-biting code over a list of bits: the register holds the newest bit first and starts from the last six bits (R412, log
entry 50). -/
def convolve : (reg : List Bool) → List Bool → List Bool
  | _, [] => []
  | reg, b :: t =>
    let r := b :: reg.take 6
    tapParity 0o133 r :: tapParity 0o171 r :: convolve r t

/-- The 1,920 coded bits of a codeword (R412). -/
def codedBits (cw : List Byte) : List Bool :=
  let bits := bitsOf cw
  convolve ((bits.drop (bits.length - 6)).reverse) bits

/-- The phase increment of bits b2 b1 b0 in steps of 45° (R411). -/
def phaseStep (b2 b1 b0 : Bool) : Nat :=
  match b2, b1, b0 with
  | false, false, false => 0
  | false, false, true => 1
  | false, true, true => 2
  | false, true, false => 3
  | true, true, false => 4
  | true, true, true => 5
  | true, false, true => 6
  | true, false, false => 7

/-- The 32 payload symbols of a codeword (R411, R412): coded bit j lies on symbol j mod 32, carrier ⌊j ÷ 32⌋ mod 20, at bit ⌊j ÷ 640⌋. -/
def vonSymbols (cw : List Byte) : List (List Nat) :=
  let c := (codedBits cw).toArray
  (List.range 32).map fun sy => (List.range 20).map fun ca =>
    let at_ (b : Nat) : Bool := c.getD (640 * b + 32 * ca + sy) false
    phaseStep (at_ 2) (at_ 1) (at_ 0)

/-- The phase of each carrier in a preamble symbol, in steps of 45° (R411). -/
def vonPreamble : List Nat := (List.range 20).map fun c => c * c % 8

/-- The phases of the payload symbols, each carrier differential to the symbol before it (R411). -/
def vonPhases : (ref : List Nat) → List (List Nat) → List (List Nat)
  | _, [] => []
  | ref, inc :: t =>
    let now := (ref.zip inc).map fun (x : Nat × Nat) => (x.1 + x.2) % 8
    now :: vonPhases now t

/-- The active symbols of a frame as phases in steps of 45°: 4 preamble symbols, then 32 payload ones (R411). -/
def vonActive (cw : List Byte) : List (List Nat) := List.replicate 4 vonPreamble ++ vonPhases vonPreamble (vonSymbols cw)

/-! ## Slaves -/

/-- The record of a slave. -/
def State.slave (s : State) (n : Nat) : VonSlave := ((s.von.slaves.find? fun x => x.1 == n).map (·.2)).getD VonSlave.reset

/-- A list of slaves with one put in, in rising order. -/
def slavePut : List (Nat × VonSlave) → Nat → VonSlave → List (Nat × VonSlave)
  | [], n, x => [(n, x)]
  | (m, y) :: t, n, x => if n < m then (n, x) :: (m, y) :: t else if m == n then (n, x) :: t else (m, y) :: slavePut t n x

/-- Set the record of a slave. -/
def State.setSlave (s : State) (n : Nat) (x : VonSlave) : State :=
  let rest := s.von.slaves.filter fun y => y.1 != n
  { s with von := { s.von with slaves := if x = VonSlave.reset then rest else slavePut rest n x } }

/-- Whether a slave is VALID (R415). -/
def State.vonValid (s : State) (n : Nat) : Bool := bit (s.nat (Reg.VON_SLAVE n)) 0
/-- The slaves' addresses. -/
def vonAddrs : List Nat := (List.range 240).map (· + 1)
/-- POLL_INT of a slave in ms. -/
def State.pollInt (s : State) (n : Nat) : Nat := 100 * field (s.nat (Reg.VON_SLAVE n)) 15 8

/-- VON_STATE (R422): 0 OFF, 1 POLLING, 2 SILENT. -/
def State.vonStateOf (s : State) : Nat :=
  if s.nat Reg.VON_EN == 0 || !(vonAddrs.any fun n => s.vonValid n) then 0
  else if s.waitsBurgee || s.power.pfw then 2
  else match s.beh 6 with
    | .run | .ready | .service => 1
    | _ => 2

/-- A slave's entry comes into force (R417, R420): a new VALID slave is searched for, one that is no longer VALID is unused, and
data for a slave that is not VALID has failed. -/
def State.slaveFollows (s : State) (n : Nat) : State :=
  let x := s.slave n
  if s.vonValid n then
    if x.state == 0 then s.setSlave n { x with state := 1, misses := 0, dueAt := s.now } else s
  else
    let x := if x.tx == 1 then { x with tx := 3, data := [] } else x
    s.setSlave n { x with state := 0 }

/-- Every entry comes into force. -/
def State.slavesFollow (s : State) : State := vonAddrs.foldl (fun (st : State) n => st.slaveFollows n) s

/-- Every VALID slave is due at once (R415). -/
def State.allDue (s : State) : State :=
  vonAddrs.foldl (fun (st : State) n => if st.vonValid n then st.setSlave n { st.slave n with dueAt := st.now } else st) s

/-- Under single-phase coupling the second and third path's readbacks read 0 (R424). -/
def State.onePath (s : State) : State :=
  if s.nat Reg.VON_COUPLING == 1 then s
  else [2, 3].foldl (fun (st : State) (i : Nat) =>
    ((st.putN (Reg.VON_BLANK_LAST i) 0).putN (Reg.VON_BLANK_MAX i) 0).putN (Reg.VON_SNR i) 0) s

/-- A commit of Voner objects (R415, R417, R423, R424): while a reply is awaited the entries wait for the next master slot. -/
def State.vonCommitted (s : State) : State := (if s.von.poll.isSome then s.allDue else s.slavesFollow.allDue).onePath

/-! ## Master slots (R414, R415, R419, R422) -/

/-- The slave that is polled in a master slot, and its place in a run of re-polls; one that is no longer VALID is not polled
(R415). -/
def State.vonChoice (s : State) : Option (Nat × Nat) :=
  match s.von.repoll.filter fun r => s.vonValid r.1 with
  | some r => some r
  | none =>
    let ready := vonAddrs.filter fun n =>
      s.vonValid n && ((s.slave n).state == 1 || (s.slave n).state == 2) && (s.slave n).dueAt <= s.now
    let best := ready.foldl (fun (b : Option Nat) n =>
      match b with
      | none => some n
      | some m => if (s.slave n).dueAt < (s.slave m).dueAt then some n else some m) none
    match best with
    | some n => some (n, 0)
    | none =>
      (vonAddrs.find? fun n => s.vonValid n && (s.slave n).state == 3 && (s.slave n).lastPoll + s.nat Reg.VON_LOST_INT <= s.now).map
        fun n => (n, 0)

/-- Transmit a frame in the present slot (R411, R412). -/
def State.vonSend (s : State) (addr typ seqs : Nat) (data : List Byte) : State :=
  (s.send (.voner (s.nat Reg.VON_SLOT) (s.nat Reg.VON_TX_LEVEL) (vonActive (vonCodeword addr typ seqs data)))).count Reg.VON_TX_FRAMES

/-- Poll a slave (R415, R419, R420). -/
def State.vonPoll (s : State) (n k : Nat) : State :=
  let x := s.slave n
  let data := if x.tx == 1 then x.data else []
  let cnt := if k == 0 then x.cnt else x.cnt.set 4 ((x.cnt[4] + 1) % 4294967296)
  let due := if x.tx == 1 then s.now else s.now + s.pollInt n
  let s := s.setSlave n { x with tries := if x.tx == 1 then x.tries + 1 else x.tries, lastPoll := s.now, dueAt := due, cnt := cnt }
  let s := { s with von := { s.von with poll := some (n, x.dseq, k), repoll := none } }
  s.vonSend n 1 x.dseq data

/-- VON_MASTER_SLOT: slots are counted whether or not the line polls. -/
def State.vonMaster (s : State) : State :=
  let slot := s.von.next % 4294967296
  let s := (s.putN Reg.VON_SLOT slot).slavesFollow
  let run := s.vonStateOf == 1
  let starts := run && !s.von.running
  let s := { s with von := { s.von with next := slot + 2, poll := none, running := run, repoll := if run && !starts then s.von.repoll else none } }
  let s := if starts then s.allDue else s
  if !run then s
  else if slot % 100 == 0 then
    s.vonSend 0xFF 3 0 (leBytes 8 (ltimeOf s.civil) ++ s.blob Reg.VON_BEACON_DATA)
  else match s.vonChoice with
    | some (n, k) => s.vonPoll n k
    | none => s

/-- VON_MASTER_SLOT. -/
def execVonMasterSlot (s : State) : Host.Outcome State Fault Refusal := .next (s.live fun s => if s.blackMain || s.fab.fenced vonerCell then s else s.vonMaster)

/-! ## Replies (R413, R416 to R421) -/

/-- Count the samples of a sorted list of intervals that lie at or after a sample. -/
def coverFrom : (lo : Nat) → List (Nat × Nat) → Nat
  | _, [] => 0
  | lo, (a, b) :: t => (b - max lo a) + coverFrom (max lo b) t

/-- Put an interval into a list sorted by its start. -/
def intoSorted (x : Nat × Nat) : List (Nat × Nat) → List (Nat × Nat)
  | [] => [x]
  | y :: t => if x.1 <= y.1 then x :: y :: t else y :: intoSorted x t

/-- The blanked fraction of a path in 0.1 % (R418). -/
def State.blanked (s : State) (p : VonPath) : Nat :=
  let ext := s.nat Reg.VON_BLANK_EXT
  let hit := (p.bursts.filter fun b => s.nat Reg.VON_BLANK_LVL <= b.2.2 && b.2.1 != 0).map fun b =>
    (b.1 - ext, min 21600 (b.1 + b.2.1 + ext))
  coverFrom 0 (hit.foldl (fun l x => intoSorted x l) []) * 1000 / 21600

/-- The receive paths in use (R410). -/
def State.vonPaths (s : State) (l : List VonPath) : List VonPath := l.take (if s.nat Reg.VON_COUPLING == 1 then 3 else 1)

/-- Note the last received frame per path (R424). -/
def State.notePaths (s : State) (l : List VonPath) : State :=
  (l.zip [1, 2, 3]).foldl (fun (st : State) (x : VonPath × Nat) =>
    let b := st.blanked x.1
    ((st.putN (Reg.VON_BLANK_LAST x.2) b).putMax (Reg.VON_BLANK_MAX x.2) b).putN (Reg.VON_SNR x.2) x.1.snr) s

/-- Whether bytes 0 to 103 of a codeword match their CRC-32 (R412, R413). -/
def vonCrcOk (w : List Byte) : Bool := w.length == 104 && leAt w 100 4 == crc32 (w.take 100)

/-- The outcome of a poll of slave n (R416): 0 GOOD, 1 DAMAGED, 2 CRC_FAIL, 3 SILENT; and whether a reply came from another address. -/
def State.vonOutcome (s : State) (n : Nat) (l : List VonPath) (word : Option (List Byte)) : Nat × Bool :=
  let heard := l.filter (·.preamble)
  match heard with
  | [] => (3, false)
  | p :: t =>
    let frac := t.foldl (fun a x => min a (s.blanked x)) (s.blanked p)
    if s.nat Reg.VON_DAMAGE_FRAC < frac then (1, false)
    else match word with
      | none => (2, false)
      | some w =>
        if !vonCrcOk w then (2, false)
        else if leAt w 1 1 != 2 then (3, false)
        else if leAt w 0 1 != n then (3, true)
        else (0, false)

/-- A GOOD reply (R417, R420, R421): the slave is online, its data are taken, and the mailbox is delivered where ASEQ names it. -/
def State.vonGood (s : State) (n dseq : Nat) (w : List Byte) : State :=
  let x := s.slave n
  let len := leAt w 3 1
  let data := (w.drop 4).take (min len 96)
  let done := x.tx == 1 && x.dseq == dseq && field (leAt w 2 1) 7 4 == dseq
  let was := x.state
  let x := { x with state := if was == 0 then 0 else 2, misses := 0, rx := if len == 0 then x.rx else data, rxAt := s.ltime }
  let x := if done then { x with tx := 2, data := [], dueAt := s.now + s.pollInt n } else x
  let s := s.setSlave n x
  if was == 1 || was == 3 then s.raiseCatV (0xC000 + n) 0x25 50 3 was 2 else s

/-- A poll without a GOOD reply (R417, R419): the slave may be lost; else it is polled again, up to VON_REPOLL_MAX times in a row. -/
def State.vonMissed (s : State) (n k : Nat) : State :=
  let x := s.slave n
  let x := { x with misses := x.misses + 1 }
  let lost := (x.state == 1 || x.state == 2) && s.nat Reg.VON_LOST_N <= x.misses
  if lost then
    (s.setSlave n { x with state := 3 }).raiseCatV (0xC000 + n) 0x25 51 2 x.state 3
  else
    let s := s.setSlave n x
    if k < s.nat Reg.VON_REPOLL_MAX then { s with von := { s.von with repoll := some (n, k + 1) } } else s

/-- The mailbox has failed once its tries are used up (R420). -/
def State.vonTries (s : State) (n : Nat) : State :=
  let x := s.slave n
  if x.tx == 1 && s.nat Reg.VON_TX_TRIES <= x.tries then
    (s.setSlave n { x with tx := 3, data := [] }).raiseCatV (0xC000 + n) 0x22 52 (Config.catPrio 52).val 1 3
  else s

/-- VON_REPLY_JUDGED. -/
def State.vonJudge (s : State) (paths : List VonPath) (word : Option (List Byte)) : State :=
  match s.von.poll with
  | none => s
  | some (n, dseq, k) =>
    let l := s.vonPaths paths
    let s := { s with von := { s.von with poll := none } }
    let s := if l.any (·.preamble) then s.notePaths l else s
    let o := s.vonOutcome n l word
    let s := if o.2 then s.count Reg.VON_FOREIGN_CNT else s
    let x := s.slave n
    let i : Fin 5 := Fin.ofNat 5 o.1
    let s := s.setSlave n { x with cnt := x.cnt.set i ((x.cnt[i] + 1) % 4294967296) }
    let s := if o.1 == 0 then s.vonGood n dseq (word.getD []) else s.vonMissed n k
    s.vonTries n

/-- VON_REPLY_JUDGED: the reply slot of the last master slot is over (R411, R416). -/
def execVonReplyJudged (paths : List VonPath) (word : Option (List Byte)) (s : State) : Host.Outcome State Fault Refusal :=
  .next (s.live fun s => (s.vonJudge paths word).putN Reg.VON_SLOT ((s.von.next + 4294967295) % 4294967296))

/-! ## Mailboxes (R420) -/

/-- The effect of a write of VON_TX_BOX. -/
def State.vonBoxEffect (s : State) (data : List Byte) : State :=
  let n := s.nat Reg.VON_SEL
  let x := s.slave n
  if data.isEmpty then s.setSlave n { x with tx := 0, data := [], tries := 0 }
  else s.setSlave n { x with tx := 1, data := data, tries := 0, dseq := (x.dseq + 1) % 16, dueAt := min x.dueAt s.now }

/-- VON_TX_BOX_WRITE. -/
def execVonTxBoxWrite (h : Hdr) (data : List Byte) (s : State) : Host.Outcome State Fault Refusal :=
  .next (s.hostWriteB h Reg.VON_TX_BOX data fun s => (s.vonBoxEffect data, .ok))

end Sys2Proof.Machine
end

