-- ==== Sys2Proof/Machine/Update.lean ====
section
/-! DEFINITION. Update: resets with outputs on, firmware slots and live update, built-in self-test, the test access port and the
service port (chapter 18, with R353 to R355 and R405). -/

namespace Sys2Proof.Machine

/-! ## Entering a reset (R405, R451) -/

/-- Whether a cause is a reset that the device schedules itself, so that it commits the registers first (R325). -/
def schedules (cause : Nat) : Bool := cause == 0x06 || cause == 0x0B || cause == 0x0D || cause == 0x0E

/-- The control die enters a reset other than power-on (R405, R451): gates and OE_PAIR low, pumps low, the channels at their fail-safe
states, no integration; the ring is repeated and BYP_HOLD stays. -/
def State.enterReset (s : State) (cause : Nat) : State :=
  if 6 <= s.modes.vaultStep || s.power.por then s
  else
    let s := if schedules (cause % 256) && s.powered then s.commitRegs else s
    let s := (List.finRange 4).foldl (fun (st : State) (g : Fin 4) => st.parkGroup g) s
    let s := (List.finRange 4).foldl (fun (st : State) (o : Fin 4) => st.setPump o 0) s
    let s := s.putBit Reg.OE_STATE 0 false
    ({ s with power := { s.power with held := true, cause := cause, scheduled := 0 } }).driveAll

/-! ## Firmware memory (R425, R426) -/

/-- The byte at an address of the firmware slots; what nothing has written reads 0 (log entry 52). -/
def memGet : List (Nat × Byte) → Nat → Byte
  | [], _ => 0
  | (a, b) :: t, k => if a == k then b else memGet t k

/-- The memory without an address. -/
def memDrop : List (Nat × Byte) → Nat → List (Nat × Byte)
  | [], _ => []
  | (a, b) :: t, k => if a == k then memDrop t k else (a, b) :: memDrop t k

/-- The memory with a byte at its place by rising address. -/
def memIns : List (Nat × Byte) → Nat → Byte → List (Nat × Byte)
  | [], k, v => [(k, v)]
  | (a, w) :: t, k, v => if k < a then (k, v) :: (a, w) :: t else if a == k then (k, v) :: t else (a, w) :: memIns t k v

/-- Write one byte and keep the canonical form: writing 0 removes the entry. -/
def memPut (l : List (Nat × Byte)) (k : Nat) (v : Byte) : List (Nat × Byte) := if v = 0 then memDrop l k else memIns l k v

/-- Write bytes from an address on. -/
def memWrite : List (Nat × Byte) → Nat → List Byte → List (Nat × Byte)
  | l, _, [] => l
  | l, k, b :: t => memWrite (memPut l k b) (k + 1) t

/-- Addresses strictly rising from a lower limit. -/
def memRising : Nat → List (Nat × Byte) → Bool
  | _, [] => true
  | lo, (a, _) :: t => lo <= a && memRising (a + 1) t

/-- The canonical form: addresses strictly rising, no entry equal to what an unlisted address reads as. -/
def memWf (l : List (Nat × Byte)) : Bool := memRising 0 l && l.all fun c => c.2 != 0

/-- Change what live update holds. -/
def State.withUpd (s : State) (u : UpdState) : State := { s with upd := u }

/-- The number of an area: class × 2 + slot. -/
def areaOf (c slot : Nat) : Nat := c * 2 + slot
/-- The address an area begins at: slots of 5 MiB, class areas one after another (R425). -/
def areaBase (a : Nat) : Nat :=
  a % 2 * 5242880 + (match a / 2 with | 0 => 0 | 1 => 3670016 | _ => 4456448)
/-- The bytes of an area from an offset on. -/
def State.areaBytes (s : State) (a off n : Nat) : List Byte :=
  (List.range n).map fun i => memGet s.upd.mem (areaBase a + off + i)

/-! ## Verifying an image (R353, R354) -/

/-- The number of a class's key in KEY_REVOKED: K0 to K3 as 0 to 3, L0 and L1 as 4 and 5 (R353, R359). -/
def fuseOf (c idx : Nat) : Nat := if c == 2 then 4 + idx else idx

/-- The image header of an area (R353). -/
def State.header (s : State) (a : Nat) : List Byte := s.areaBytes a 0 272

/-- The header's fields that are checked first (R354, BAD_HEADER). -/
def headerBad (c : Nat) (h : List Byte) : Bool :=
  leAt h 0 4 != 0x4B494D47 || leAt h 4 1 != c || leAt h 7 1 != 0 || leAt h 13 3 != 0 || leAt h 169 7 != 0 ||
    (if c == 2 then 2 else 4) <= leAt h 5 1 || bit (leAt h 6 1) (leAt h 5 1)

/-- Whether the gate trailer of an image fails (R354): the HMAC of the header under UPDATE_GATE_SLOT, in the 32 bytes after the
body (log entry 52). -/
def State.gateFails (s : State) (a : Nat) (h : List Byte) : Bool :=
  let g := s.nat Reg.UPDATE_GATE_SLOT
  g != 0xFF && (!s.slotValid g || !bit (s.slotOf g).word 12 || !bit (s.slotOf g).word 4 ||
    Config.macTag (s.keyBytes g) [] h 32 != s.areaBytes a (272 + leAt h 16 4) 32)

/-- IMG_VERIFY of an area, by the checks of R354 in their order; the gate and the seal at acceptance only. -/
def State.verifyImage (s : State) (a : Nat) (accept : Bool) : Nat :=
  let c := a / 2
  if s.upd.factory.toList.getD a false then
    (if bit (s.nat Reg.KEY_REVOKED) (fuseOf c 0) then 4 else if 0 < s.nat (Reg.SVN_FLOOR (c + 1)) then 7 else 1)
  else
    let h := s.header a
    if headerBad c h then 2
    else if leAt h 20 4 != s.nat Reg.PART_ID && leAt h 20 4 != 0x22400000 then 3
    else if bit (s.nat Reg.KEY_REVOKED) (fuseOf c (leAt h 5 1)) then 4
    else if Config.sha384 ((h.drop 72).take 97) != Config.fusedKeyHash (fuseOf c (leAt h 5 1)) then 5
    else if !Config.ecdsaVerify ((h.drop 72).take 97) (Config.sha384 (h.take 176)) (h.drop 176) then 6
    else if leAt h 12 1 < s.nat (Reg.SVN_FLOOR (c + 1)) then 7
    else if classArea c < 272 + leAt h 16 4 || Config.sha384 (s.areaBytes a 272 (leAt h 16 4)) != (h.drop 24).take 48 then 8
    else if accept && s.gateFails a h then 9
    else if accept && c == 2 && !s.sealOpen then 10
    else 1

/-- The SHA-384 of the image in an area: header and body (R296, R359). -/
def State.imageHash (s : State) (a : Nat) : List Byte :=
  if s.upd.factory.toList.getD a false then Config.factoryHash a
  else Config.sha384 (s.areaBytes a 0 (272 + leAt (s.header a) 16 4))

/-- The image of a class in a slot is loaded into its engines: the readbacks of the running image (R353, R359, R445). -/
def State.loadImage (s : State) (c : Fin 3) (slot : Nat) : State :=
  let a := areaOf c slot
  let plain := s.upd.factory.toList.getD a false
  let h := s.header a
  let s := s.withUpd { s.upd with revoke := s.upd.revoke.set c (if plain then 0 else leAt h 6 1) }
  let s := (s.putN (Reg.RUN_SLOT (c.val + 1)) slot).putN (Reg.IMG_VERSION (c.val + 1)) (if plain then 0 else leAt h 8 4)
  let s := s.putN (Reg.IMG_SVN (c.val + 1)) (if plain then 0 else leAt h 12 1)
  if c.val == 2 then s.putN Reg.LEGAL_FW_VERSION (s.nat (Reg.IMG_VERSION 3)) else s

/-! ## Loading an image (R426, R442) -/

/-- The area that UPD_TARGET names. -/
def State.updArea (s : State) : Nat := areaOf (field (s.nat Reg.UPD_TARGET) 1 0) (bitN (s.nat Reg.UPD_TARGET) 4)

/-- Whether an image is VERIFYING, or an area is OPEN. -/
def State.updVerifying (s : State) : Bool := match s.upd.loading with | some (_, v) => v | none => false

/-- OPEN (R426); in RECOVERY either slot may be named (R442). -/
def State.updOpen (s : State) : State :=
  let a := s.updArea
  let slot := a % 2
  let running := slot == s.nat (Reg.RUN_SLOT (a / 2 + 1)) || slot == s.nat (Reg.BOOT_SLOT (a / 2 + 1))
  if running && !s.inRecovery then s.putN Reg.UPD_STATE 4
  else if (match s.upd.loading with | some (b, _) => b != a | none => false) then s.putN Reg.UPD_STATE 5
  else
    let s := s.withUpd { s.upd with loading := some (a, false),
                                    legalRun := if s.upd.legalRun.map (areaOf 2 ·) == some a then none else s.upd.legalRun,
                                    factory := Vector.ofFn fun i => s.upd.factory[i] && i.val != a }
    let s := (s.putN (Reg.IMG_VERIFY (a + 1)) 0).putN Reg.UPD_OFFSET 0
    (s.putN Reg.UPD_WRITTEN 0).putN Reg.UPD_STATE 1

/-- CLOSE (R426): the area under load is verified. -/
def State.updClose (s : State) : State :=
  match s.upd.loading with
  | some (a, false) => (s.withUpd { s.upd with loading := some (a, true) }).putN Reg.UPD_STATE 2
  | _ => s

/-- CANCEL (R426). -/
def State.updCancel (s : State) : State :=
  let s := match s.upd.loading with
    | some (a, _) => (s.withUpd { s.upd with loading := none }).putN (Reg.IMG_VERIFY (a + 1)) 0
    | none => s
  s.putN Reg.UPD_STATE 0

/-- REBOOT: in RECOVERY it resets the device, outside it has no effect (R442, R445). -/
def State.updReboot (s : State) : State := if s.inRecovery then s.enterReset 0x0E else s

/-- A write of UPD_CONTROL (R426, R442, R445). -/
def State.updControlEffect (s : State) (v : Nat) : State :=
  if v == 1 then s.updOpen else if v == 2 then s.updClose else if v == 3 then s.updCancel else s.updReboot

/-- UPD_OPEN. -/
def execUpdOpen (h : Hdr) (s : State) : Host.Outcome State Fault Refusal := .next (s.hostWrite h Reg.UPD_CONTROL 1 (·.updOpen))
/-- UPD_CLOSE. -/
def execUpdClose (h : Hdr) (s : State) : Host.Outcome State Fault Refusal := .next (s.hostWrite h Reg.UPD_CONTROL 2 (·.updClose))
/-- UPD_CANCEL. -/
def execUpdCancel (h : Hdr) (s : State) : Host.Outcome State Fault Refusal := .next (s.hostWrite h Reg.UPD_CONTROL 3 (·.updCancel))
/-- REBOOT. -/
def execReboot (h : Hdr) (s : State) : Host.Outcome State Fault Refusal := .next (s.hostWrite h Reg.UPD_CONTROL 4 (·.updReboot))

/-- A write of UPD_CHUNK (R426): stored at UPD_OFFSET; one that would pass the end of the area is rejected with RANGE_ERROR. -/
def State.updChunk (s : State) (data : List Byte) : State × Status :=
  match s.upd.loading with
  | some (a, _) =>
    let off := s.nat Reg.UPD_OFFSET
    if classArea (a / 2) < off + data.length then (s, .rangeError)
    else
      let s := s.withUpd { s.upd with mem := memWrite s.upd.mem (areaBase a + off) data }
      ((s.putN Reg.UPD_OFFSET (off + data.length)).addC Reg.UPD_WRITTEN data.length, .ok)
  | none => (s, .accessError)

/-- UPD_CHUNK_WRITE. -/
def execUpdChunkWrite (h : Hdr) (data : List Byte) (s : State) : Host.Outcome State Fault Refusal :=
  .next (s.hostWriteB h Reg.UPD_CHUNK data (·.updChunk data))

/-- The update verifier asks for the gate's key where its check is reached (R348, R354). -/
def State.askGate (s : State) (r : Nat) : State :=
  if s.nat Reg.UPDATE_GATE_SLOT != 0xFF && (r == 1 || 9 <= r) then (s.keyAsk (s.nat Reg.UPDATE_GATE_SLOT) 12 4).1 else s

/-- The verification ends (R354, R426); in RECOVERY a VALID image's slot becomes its class's BOOT_SLOT (R442). -/
def State.updVerified (s : State) : State :=
  match s.upd.loading with
  | some (a, true) =>
    let r := s.verifyImage a true
    let s := ((s.withUpd { s.upd with loading := none }).askGate r).putN (Reg.IMG_VERIFY (a + 1)) r
    let s := s.putN Reg.UPD_STATE 3
    if s.inRecovery && r == 1 then s.putN (Reg.BOOT_SLOT (a / 2 + 1)) (a % 2) else s
  | _ => s

/-- UPD_VERIFY_DONE. -/
def execUpdVerifyDone (s : State) : Host.Outcome State Fault Refusal := .next (if s.running then s.updVerified else s)

/-- A write of SLOT_CONFIRM ends the trial of the named classes (R427). -/
def State.slotConfirmEffect (s : State) (mask : Nat) : State :=
  let s := [0, 1, 2].foldl (fun (st : State) (c : Nat) => if bit mask c then st.putN (Reg.SLOT_TRIAL (c + 1)) 0 else st) s
  if [1, 2, 3].all fun c => s.nat (Reg.SLOT_TRIAL c) == 0 then s.putN Reg.TRIAL_RESETS 0 else s

/-- SLOT_CONFIRM. -/
def execSlotConfirm (h : Hdr) (mask : Nat) (s : State) : Host.Outcome State Fault Refusal :=
  .next (s.hostWrite h Reg.SLOT_CONFIRM mask (·.slotConfirmEffect mask))

/-- A write of SVN_ADVANCE raises the floor and blows the REVOKE fuses of the running image (R355). -/
def State.svnAdvanceEffect (s : State) (v : Nat) : State :=
  let c := field v 7 0
  let s := s.putN (Reg.SVN_FLOOR (c + 1)) (field v 15 8)
  let mask := s.upd.revoke.toList.getD c 0 % (if c == 2 then 4 else 16) * (if c == 2 then 16 else 1)
  s.putN Reg.KEY_REVOKED (Nat.lor (s.nat Reg.KEY_REVOKED) mask)

/-- SVN_ADVANCE. -/
def execSvnAdvance (h : Hdr) (v : Nat) (s : State) : Host.Outcome State Fault Refusal :=
  .next (s.hostWrite h Reg.SVN_ADVANCE v (·.svnAdvanceEffect v))

/-! ## Switching slots (R428 to R430) -/

/-- The classes of a SLOT_SWITCH argument. -/
def switchClasses (arg : Nat) : List (Fin 3) := (List.finRange 3).filter fun c => bit arg c.val
/-- The slot a class switches to. -/
def State.otherSlot (s : State) (c : Fin 3) : Nat := 1 - s.nat (Reg.RUN_SLOT (c.val + 1))
/-- The classes of an argument that switch live: MAIN and LOOP without AT_BOOT (R428). -/
def liveClasses (arg : Nat) : Nat := if bit arg 3 then 0 else field arg 1 0

/-- BOOT_SLOT of a class is journaled; one that changes is on trial (R427, R428). -/
def State.journalSlot (s : State) (c : Fin 3) : State :=
  let t := s.otherSlot c
  if s.nat (Reg.BOOT_SLOT (c.val + 1)) == t then s
  else ((s.putN (Reg.BOOT_SLOT (c.val + 1)) t).putN (Reg.SLOT_TRIAL (c.val + 1)) 1).putN Reg.TRIAL_RESETS 0

/-- DETAIL of a SLOT_SWITCH that is refused at its ordering point, 0 for none, in the table's order (R428). -/
def State.switchRefusal (s : State) (arg : Nat) : Nat :=
  if bit arg 2 && s.part.variant = .n then 0x0104
  else if bit arg 2 && !s.sealOpen then 0x0103
  else if (switchClasses arg).any fun c => s.nat (Reg.IMG_VERIFY (areaOf c (s.otherSlot c) + 1)) != 1 then 0x0101
  else if s.isPending .bist || s.upd.loading.isSome || s.isPending .rehearsal then 0x0002
  else if bit (liveClasses arg) 0 && s.holds && s.nat Reg.LEASE_PERIOD < 12 then 0x0105
  else 0

/-- SLOT_SWITCH at its ordering point (R428). -/
def State.slotSwitch (s : State) (arg : Nat) : State :=
  let d := s.switchRefusal arg
  if d != 0 then s.refusedWith .slotSwitch d
  else if liveClasses arg == 0 then
    ((switchClasses arg).foldl (fun (st : State) (c : Fin 3) => st.journalSlot c) s).completed .slotSwitch 0x0102 (field arg 2 0)
  else s.withUpd { s.upd with live := liveClasses arg, waited := 0, longest := 0 }

/-- SLOT_SWITCH. -/
def execSlotSwitch (h : Hdr) (arg : Nat) (s : State) : Host.Outcome State Fault Refusal :=
  .next (s.hostCmd h .slotSwitch arg fun s => s.slotSwitch arg)

/-- Whether a boundary is quiet for the classes that switch live (R429). -/
def State.switchQuiet (s : State) : Bool :=
  s.nat Reg.COMMIT_STATE != 1 && s.nat Reg.COMMIT_STATE != 2 &&
  (!bit s.upd.live 0 || ((List.range 4).all fun o => [0, 1, 2, 10, 11, 12].contains (s.nat (Reg.OUT_STATE o)))) &&
  (!bit s.upd.live 1 || ((List.finRange 4).all fun g => s.int (Reg.PG_GRANT (g.val + 1)) == 0 && s.int (Reg.I_GROUP_CMD g.val) == 0))

/-- Whether a class is in its blackout. -/
def State.inBlackout (s : State) : Bool := s.blackMain || s.blackLoop

/-- LOOP goes dark: each bound leg is parked, and returns by soft entry (R430). -/
def State.loopDark (s : State) : State :=
  (List.finRange 32).foldl (fun (st : State) (n : Fin 32) =>
    if (st.engineOf n.val).isNone then st
    else (st.parkLeg n).setLeg n { (st.parkLeg n).legs[n] with entry := 1 }) s

/-- The live switch (R428, R430): BOOT_SLOT is journaled, MAIN's holder sends RENEW, the images are loaded, the blackouts begin. -/
def State.switchNow (s : State) : State :=
  let s := (switchClasses (s.res .slotSwitch).arg).foldl (fun (st : State) (c : Fin 3) => st.journalSlot c) s
  let s := if bit s.upd.live 0 && s.holds then
      (s.putN Reg.LEASE_LEFT (s.nat Reg.LEASE_PERIOD * 1000)).sendToken 1 false else s
  let s := if bit s.upd.live 0 then s.loadImage 0 (s.otherSlot 0) else s
  let s := if bit s.upd.live 1 then (s.loadImage 1 (s.otherSlot 1)).loopDark else s
  s.withUpd { s.upd with
    black := (s.upd.black.set 0 (bit s.upd.live 0)).set 1 (bit s.upd.live 1), swEpoch := s.epochNo % 4294967296 }

/-- SLOT_SWITCH_QUIET_BOUNDARY: the step that begins the switch epoch, after which the command is no longer abortable (R428). -/
def execSlotSwitchQuietBoundary (s : State) : Host.Outcome State Fault Refusal :=
  .next (s.live fun s =>
    if s.isPending .slotSwitch && s.upd.live != 0 && !s.inBlackout && s.switchQuiet then s.switchNow else s)

/-- SLOT_SWITCH_WAIT_EXPIRED. -/
def execSlotSwitchWaitExpired (s : State) : Host.Outcome State Fault Refusal :=
  .next (s.live fun s =>
    if s.isPending .slotSwitch && s.upd.live != 0 && !s.inBlackout && field (s.res .slotSwitch).arg 31 16 <= s.upd.waited then
      (s.withUpd { s.upd with live := 0 }).refusedWith .slotSwitch 0x0100
    else s)

/-- ABORT before the quiet boundary (R428, R443): there are no effects. -/
def State.abortSwitch (s : State) : State := (s.withUpd { s.upd with live := 0 }).endCmd .slotSwitch .aborted 0 0

/-- The blackout of one class ends; with the last one the command completes (R428, R430). -/
def State.blackoutEnd (s : State) (c : Fin 2) (us : Nat) : State :=
  if !s.upd.black[c] then s
  else
    let s := s.withUpd { s.upd with black := s.upd.black.set c false, longest := max s.upd.longest us }
    let s := s.putN Reg.SWITCH_BLACKOUT_LAST (min s.upd.longest 0xFFFFFFFF)
    let s := if c.val == 0 && s.holds then
        (s.putN Reg.LEASE_LEFT (s.nat Reg.LEASE_PERIOD * 1000)).sendToken 1 false else s
    if s.inBlackout then s
    else
      let v := s.upd.swEpoch + min s.upd.longest 0xFFFF * 4294967296 + s.upd.live * 281474976710656
      (s.withUpd { s.upd with live := 0 }).completed .slotSwitch 0 v

/-- BLACKOUT_END. -/
def execBlackoutEnd (c : Fin 2) (us : Nat) (s : State) : Host.Outcome State Fault Refusal :=
  .next (s.live fun s => s.blackoutEnd c us)

/-! ## Built-in self-test (R431 to R437) -/

/-- LEVEL, DIE and REGION of a target (R431). -/
def bistLevel (t : Nat) : Nat := field t 2 0
/-- REGION of a target. -/
def bistRegion (t : Nat) : Nat := field t 6 4
/-- Whether a target lies on the power-analog die. -/
def bistAnalog (t : Nat) : Bool := bit t 3 && bistLevel t <= 5

/-- Whether a target exists (R431, R433). -/
def State.bistExists (s : State) (t : Nat) : Bool :=
  if 5 <= bistLevel t then true
  else if bistRegion t > (if bit t 3 then 0 else 6) then false
  else if bistLevel t == 4 then true
  else !(s.part.variant = .n && !bit t 3 && bistRegion t == 3) && Config.bistExists t

/-- Whether R434 allows a test in the present mode: BIT 1 of KIND is MEMORY, bit 0 LOGIC. -/
def State.bistAllowed (s : State) (t kind : Nat) : Bool :=
  (kind == 2 && Config.bistMram t) || s.bistFenced t || s.beh 6 == .service

/-- Whether a target contains the Supervisor region, the control die or the package (R437). -/
def bistAtBoot (t : Nat) : Bool :=
  bistLevel t == 6 || (bistLevel t == 5 && !bit t 3) || (bistLevel t == 4 && !bit t 3 && bistRegion t == 5)

/-- DETAIL of a BIST that is refused, 0 for none, in the table's order (R433). -/
def State.bistRefusal (s : State) (t kind : Nat) : Nat :=
  if !s.bistExists t then 0x0100
  else if s.isPending .slotSwitch || s.updVerifying then 0x0002
  else if !s.bistAllowed t kind then 0x0001
  else if bistAnalog t && bit (s.nat Reg.MODE_IN_FORCE) 4 then 0x0101
  else 0

/-- The queue middle and the outboxes are discarded with one GAP of REASON RECONFIG (R434). -/
def State.archiveTested (s : State) : State :=
  let lost := (s.ev.waiting ++ s.ev.filling).map fun p => (p, p.size)
  let s := lost.foldl (fun (st : State) x => st.loseLocal (lossOf x.1 x.2) 5) s
  let s := s.loseLocal (0, 0, 0) 5
  let s := { s with ev := { s.ev with waiting := [], filling := [], outbox := [], traceBox := [], gap := s.ev.gap.map Gap.makeDue } }
  s.levelFell

/-- What the start of a test does to the parts its subtree holds (R434). -/
def State.bistBegins (s : State) (t kind : Nat) : State :=
  let s := s.putN Reg.BIST_STATE 1
  let s := s.withUpd { s.upd with bistTarget := t, bistKind := kind }
  let s := if s.testing 0 then
      (List.finRange 4).foldl (fun (st : State) (o : Fin 4) =>
        ((st.setCool o { st.cools[o] with noEngine := true, started := false }).setPump o (st.nat (Reg.PUMP_MAX o.val))).refreshCool o) s
    else s
  let s := if s.testing 3 then s.refreshMcs else s
  let s := if s.testing 4 then { s with trust := { s.trust with copies := s.trust.copies.filter fun c => c.slot.isNone } } else s
  let s := if s.testing 6 && !Config.bistMram t then s.archiveTested else s
  if s.testing 7 then s.driveAll else s

/-- What the end of a test leaves (R434, R436). -/
def State.bistEnds (s : State) : State :=
  let power := s.testing 0
  let ring := s.testing 2
  let analog := s.testing 7
  let s := s.putN Reg.BIST_STATE 0
  let s := if power then ({ s with engines := Vector.replicate 38 Engine.reset }).refreshEngines else s
  let s := if power then
      (List.finRange 4).foldl (fun (st : State) (o : Fin 4) =>
        (st.setCool o { st.cools[o] with noEngine := false, started := false }).refreshCool o) s else s
  let s := if ring then ({ s with site := { s.site with hold := true, clearHold := false } }).refreshAlloc else s
  let s := if analog then s.driveAll else s
  s.refreshMcs

/-- BIST at its ordering point (R433, R437). -/
def State.bist (s : State) (kind : Nat) : State :=
  let t := s.nat Reg.BIST_TARGET
  let d := s.bistRefusal t kind
  if d != 0 then s.refusedWith .bist d
  else if bistAtBoot t then
    ((s.withUpd { s.upd with bistBoot := some (t, kind) }).putN Reg.BIST_STATE 3).completed .bist 0x0102 0
  else s.bistBegins t kind

/-- BIST. -/
def execBist (h : Hdr) (arg : Nat) (s : State) : Host.Outcome State Fault Refusal :=
  .next (s.hostCmd h .bist arg fun s => s.bist arg)

/-- The fold of a node's signature (R432). -/
def bistFold (t own : Nat) (children : List Nat) : Nat :=
  if bistLevel t == 0 then own % 2 else crc32 (leBytes 4 own ++ children.flatMap (leBytes 4))

/-- The node's own value as the kind runs it: 0 where the node has no logic or its logic was not run (R432). -/
def bistOwn (t kind misr : Nat) : Nat :=
  if bistLevel t == 0 then misr else if 3 <= bistLevel t && bit kind 0 then misr % 4294967296 else 0

/-- BIST_EXPECT of a target under a kind (R432). -/
def bistExpect (t kind : Nat) : Nat :=
  bistFold t (if bistLevel t == 0 then 0 else bistOwn t kind (Config.goldenMisr t)) (Config.goldenChildren t kind)

/-- The address of a child by its index (R431). -/
def bistChild (t i : Nat) : Nat :=
  t - 1 + i * 2 ^ (match bistLevel t with | 6 => 3 | 5 => 4 | 4 => 8 | 3 => 16 | 2 => 24 | _ => 44)

/-- The readbacks of a completed test (R432, R433): the signature, the child lists and the failing children. -/
def State.bistReadbacks (s : State) (t kind misr : Nat) (children : List Nat) (origin : Nat) : State :=
  let want := if bistLevel t == 0 then [] else Config.goldenChildren t kind
  let got := (List.range want.length).map fun i => children.getD i 0 % 4294967296
  let bad := (List.range want.length).filter fun i => got.getD i 0 != want.getD i 0
  let n := want.length
  let s := (s.putN Reg.BIST_SIG (bistFold t (bistOwn t kind misr) got)).putN Reg.BIST_EXPECT (bistExpect t kind)
  let s := (s.putN Reg.BIST_CHILD_COUNT (if 72 < n then 0xFF else n)).putN Reg.BIST_ORIGIN origin
  let s := (List.range 72).foldl (fun (st : State) (i : Nat) =>
    (st.putN (Reg.BIST_CHILD_SIG (i + 1)) (if 72 < n then 0 else got.getD i 0)).putN (Reg.BIST_CHILD_EXP (i + 1))
      (if 72 < n then 0 else want.getD i 0)) s
  (s.putN Reg.BIST_FIRST_FAIL (match bad with | i :: _ => bistChild t i | [] => 0xFFFFFFFFFFFFFFFF)).putN Reg.BIST_FAIL_COUNT bad.length

/-- The test completes (R432, R433). -/
def State.bistDone (s : State) (misr : Nat) (children : List Nat) : State :=
  if s.nat Reg.BIST_STATE != 1 then s
  else
    let s := (s.bistReadbacks s.upd.bistTarget s.upd.bistKind misr children 0).bistEnds
    let sig := s.nat Reg.BIST_SIG
    let want := s.nat Reg.BIST_EXPECT
    s.completed .bist (if sig == want then 0 else 0x0110) (sig + want * 4294967296)

/-- BIST_DONE. -/
def execBistDone (misr : Nat) (children : List Nat) (s : State) : Host.Outcome State Fault Refusal :=
  .next (s.live fun s => s.bistDone misr children)

/-- ABORT of a test: it winds down to the next macro or array boundary (R62, R436). -/
def State.abortBist (s : State) : State :=
  (s.putN Reg.BIST_STATE 2).setRes .bist { s.res .bist with abortReq := true }

/-- BIST_WIND_DOWN_END (R436): the readbacks keep their previous values. -/
def execBistWindDownEnd (begun : Bool) (s : State) : Host.Outcome State Fault Refusal :=
  .next (s.live fun s =>
    if s.nat Reg.BIST_STATE != 2 then s
    else
      let s := s.bistEnds.endCmd .bist .aborted 0 0
      s.setRes .bist { s.res .bist with part := begun })

/-- BIST_DEFERRED_RESET (R437). -/
def execBistDeferredReset (s : State) : Host.Outcome State Fault Refusal :=
  .next (if s.running && s.nat Reg.BIST_STATE == 3 then s.enterReset 0x0B else s)

/-! ## The test access port (R438, R439) -/

/-- The TAP takes an instruction, and its instruction register shifts out what it captured; under EXTEST, CLAMP and HIGHZ the device
is held in reset (R438, R439). -/
def State.tapInstruction (s : State) (code : Nat) : State :=
  if !s.power.tapOn || s.power.trstLow || !s.power.mains || 6 <= s.modes.vaultStep then s
  else
    let holds := code == 0 || code == 4 || code == 5
    let s := s.send (.tdo 6 1)
    let s := { s with power := { s.power with tapInstr := code } }
    let s := s.putBit Reg.JTAG_STATE 1 holds
    if holds then s.enterReset 0x0C else s

/-- EXTEST: the boundary register drives the pins, but for the observe-only cells (R438). -/
def execExtest (s : State) : Host.Outcome State Fault Refusal := .next (s.tapInstruction 0)
/-- CLAMP. -/
def execClamp (s : State) : Host.Outcome State Fault Refusal := .next (s.tapInstruction 4)
/-- HIGHZ. -/
def execHighz (s : State) : Host.Outcome State Fault Refusal := .next (s.tapInstruction 5)

/-- Bits as a number, the first lowest. -/
def bitsNat : List Bool → Nat
  | [] => 0
  | b :: t => b2n b + 2 * bitsNat t

/-- SAMPLE/PRELOAD: the pins' levels are captured and shifted out, and the boundary register takes what is shifted in (R438). -/
def execSamplePreload (pins preload : List Bool) (s : State) : Host.Outcome State Fault Refusal :=
  .next (
    let t := s.tapInstruction 1
    if t.power.tapInstr == 1 && t.power.tapOn then
      { t.send (.tdo pins.length (bitsNat pins)) with power := { t.power with bscan := preload } }
    else t)

/-- The identification code (R438). -/
def State.idCode (s : State) : Nat :=
  s.part.stepping % 16 * 268435456 + (if s.part.variant = .l then 0x224C else 0x224E) * 4096 + 0x3A7 * 2 + 1

/-- IDCODE. -/
def execIdcode (s : State) : Host.Outcome State Fault Refusal :=
  .next (
    let t := s.tapInstruction 2
    if t.power.tapInstr == 2 && t.power.tapOn then t.send (.tdo 32 s.idCode) else t)

/-- BYPASS: the single-bit register; every code without a public instruction acts as it (R438). -/
def execBypass (code : Nat) (s : State) : Host.Outcome State Fault Refusal :=
  .next (if [0, 1, 2, 4, 5].contains (code % 64) then s else s.tapInstruction 0x3F)

/-- TAP_LEAVE_RESET (R439): counted; its Pennant is raised once firmware runs. -/
def execTapLeaveReset (s : State) : Host.Outcome State Fault Refusal :=
  .next (
    if s.power.tapOn || s.power.trstLow || !s.power.mains || 6 <= s.modes.vaultStep then s
    else
      let before := s.get Reg.JTAG_ENTRY_CNT
      let s := { s with power := { s.power with tapOn := true } }
      let s := (s.count Reg.JTAG_ENTRY_CNT).putBit Reg.JTAG_STATE 0 true
      if s.powered then s.raiseCat 0xD000 0x19 60 before
      else { s with power := { s.power with tapTold := s.power.tapTold + 1 } })

/-- TRST_N_ASSERT (R439): TRST_N low holds the TAP in Test-Logic-Reset, where IDCODE is the instruction. -/
def execTrstNAssert (low : Bool) (s : State) : Host.Outcome State Fault Refusal :=
  .next (
    let s := { s with power := { s.power with trstLow := low } }
    if low then
      let s := { s with power := { s.power with tapOn := false, tapInstr := 2 } }
      (s.putBit Reg.JTAG_STATE 0 false).putBit Reg.JTAG_STATE 1 false
    else s)

/-! ## The service port (R440, R441) -/

/-- CRC-16 of the service port (R440). -/
def svcCrc (bs : List Byte) : Nat := crcMsb 16 0x1021 0xFFFF bs

/-- The free request buffers, byte 0 of a request frame's MISO (R440, R450). -/
def State.svcFree (s : State) : Nat :=
  if s.running then 16 - (s.dict.queue.filter fun x => x.1 = Src.service).length else 0

/-- A transport-error indication among the responses: no response has this opcode (R440, R441). -/
def svcError : Response := ⟨.service, 256, 0, .typeError, []⟩

/-- A faulty frame: counted; a bad LEN or CRC also leaves one RSTAT 0x02 (R441). -/
def State.svcFault (s : State) (kind : Nat) : State :=
  if kind == 0 then s.count Reg.SVC_FRAME_ERR_CNT
  else if kind == 1 then
    { s.count Reg.SVC_CRC_ERR_CNT with dict := { s.dict with responses := s.dict.responses ++ [svcError] } }
  else s.count Reg.SVC_ABORT_CNT

/-- A frame as SVC_MOSI carried it (R440, R441). -/
def State.svcRequest (s : State) (bs : List Byte) : State :=
  let len := leAt bs 1 2
  if leAt bs 0 1 != 0x5A then (if leAt bs 0 1 == 0xA5 then s else s.svcFault 0)
  else if bs.length < 3 then s.svcFault 2
  else if len < 12 || 1036 < len then s.svcFault 1
  else if bs.length < len + 5 then s.svcFault 2
  else if leAt bs (len + 3) 2 != svcCrc ((bs.drop 1).take (len + 2)) then s.svcFault 1
  else s.orderIn .service (requestOf ((bs.drop 3).take len))

/-- SERVICE_REQUEST_FRAME; a device in reset shows no free buffer and takes nothing (R450). -/
def execServiceRequestFrame (mosi : List Byte) (s : State) : Host.Outcome State Fault Refusal :=
  .next (
    let t := s.send (.svcFrame (leBytes 1 s.svcFree))
    if s.running then t.svcRequest mosi else t)

/-- SERVICE_FRAME_FAULT. -/
def execServiceFrameFault (kind : Fin 3) (s : State) : Host.Outcome State Fault Refusal :=
  .next (if s.running then s.svcFault kind.val else s)

/-- The oldest response for the service port, and the others. -/
def takeService : List Response → Option (Response × List Response)
  | [] => none
  | r :: t =>
    if r.src = .service then some (r, t)
    else match takeService t with
      | some (x, rest) => some (x, r :: rest)
      | none => none

/-- The MISO bytes of a response frame (R440). -/
def svcBytes (r : Option Response) : List Byte :=
  match r with
  | none => [0, 0]
  | some r =>
    let body := if r.opcode == 256 then leBytes 1 2 ++ leBytes 2 0
      else leBytes 1 1 ++ leBytes 2 r.encode.length ++ r.encode
    (0 : Byte) :: (body ++ leBytes 2 (svcCrc body))

/-- SERVICE_RESPONSE_FRAME: the response leaves its buffer only with the last CRC byte (R440). -/
def execServiceResponseFrame (clocked : Nat) (s : State) : Host.Outcome State Fault Refusal :=
  .next (
    if !s.running || s.power.pfw then s
    else match takeService s.dict.responses with
      | none => s.send (.svcFrame ((svcBytes none).take clocked))
      | some (r, rest) =>
        let bytes := svcBytes (some r)
        let s := s.send (.svcFrame (bytes.take clocked))
        if bytes.length <= clocked then { s with dict := { s.dict with responses := rest } } else s)

/-- Whether SVC_RDY_N is low: a response or an indication waits (R440). -/
def State.svcReady (s : State) : Bool := s.running && (takeService s.dict.responses).isSome

end Sys2Proof.Machine
end

