-- ==== Sys2Proof/Machine/Power.lean ====
section
/-! DEFINITION. Power: writes of the mode word, the VAULT entry, the boot, the reset sources, the power-fail warning, the supplies
and the vault (chapters 03 and 19). -/

namespace Sys2Proof.Machine

/-- Change what the power-analog die and the vault hold. -/
def State.withPower (s : State) (p : PowerState) : State := { s with power := p }

/-- The loop counters, to be copied to MRAM (R459). -/
def State.loopCounters (s : State) : List Nat :=
  (List.range 4).map (fun i => s.nat (Reg.TAMP_OPEN_CNT (i + 1))) ++ (List.range 4).map (fun i => s.nat (Reg.TAMP_AMBIG_CNT (i + 1)))

/-- Store the copies of the loop counters (R459). -/
def State.copyLoops (s : State) : State := s.withPower { s.power with loopCopies := s.loopCounters }

/-- Write PRE_LOSS (R86). -/
def State.preLoss (s : State) : State :=
  (s.put Reg.PRE_LOSS_WORD (s.get Reg.MODE_WORD)).put Reg.PRE_LOSS_IN_FORCE (s.get Reg.MODE_IN_FORCE)

/-- All gates low, OE_PAIR low (R127, R405, R455). -/
def State.driversLow (s : State) : State :=
  ((List.finRange 4).foldl (fun (st : State) (g : Fin 4) => st.parkGroup g) s).putBit Reg.OE_STATE 0 false

/-! ## Writes of MODE_WORD (R77, R85) -/

/-- A write of MODE_WORD (R77); bit [7] makes it 0x80, and clearing bit [7] before step 6 ends the VAULT entry (R85). -/
def State.modeWordEffect (s : State) (v : Nat) : State :=
  let back := bit (s.nat Reg.MODE_WORD) 7 && !bit v 7
  let s := (s.putN Reg.MODE_WORD (if bit v 7 then 0x80 else v)).count Reg.MODE_CHANGES
  let s := if back then
      ({ s with modes := { s.modes with vaultStep := 0 }, power := { s.power with wakePending := none } }).resumeMeter.refreshMcs
    else s
  s.classesTurn

/-- MODE_WORD_WRITE. -/
def execModeWordWrite (h : Hdr) (v : Nat) (s : State) : Host.Outcome State Fault Refusal :=
  .next (s.hostWrite h Reg.MODE_WORD v (·.modeWordEffect v))

/-! ## Waking (R465, R466) -/

/-- Whether a wake source of VAULT_WAKE_MASK is enabled and has occurred: the loop reads open, legal time has come (R465). -/
def State.wakeHolds (s : State) (source : Nat) : Bool :=
  bit (s.nat Reg.VAULT_WAKE_MASK) source &&
  (if source == 0 then true
   else if source <= 4 then bit (s.nat Reg.TAMP_EN) (source - 1) && bit (s.nat Reg.TAMP_STATE) (source - 1)
   else s.nat Reg.VAULT_WAKE_AT != 0 && msOf (s.nat Reg.VAULT_WAKE_AT) <= s.now)

/-- The vault wakes the control die (R465). -/
def State.wakeNow (s : State) (source : Nat) : State :=
  let s := (s.vevAdd 0xA (2 ^ source) s.now).putN Reg.WAKE_SOURCE (2 ^ source)
  ({ s with
    modes := { s.modes with vaultStep := 0 },
    power := { s.power with held := true, cause := 4 + 2 ^ source * 256, wakePending := none } }).driveAll

/-- WAKE: from step 6 on the device wakes; during steps 2 to 5 the source is taken once step 6 is reached; with the mains absent it
is only recorded (R465, R466). -/
def execWake (source : Fin 6) (s : State) : Host.Outcome State Fault Refusal :=
  .next (
    if !s.wakeHolds source.val then s
    else if !s.power.mains then s.vevAdd 0xA (2 ^ source.val) s.now
    else if 6 <= s.modes.vaultStep then s.wakeNow source.val
    else if 2 <= s.modes.vaultStep then s.withPower { s.power with wakePending := some source.val }
    else s)

/-! ## The VAULT entry (R85) -/

/-- Whether the orderly stop of step 1 is complete on every class. -/
def State.vaultStopped (s : State) : Bool :=
  s.driversStopped && s.allParked && s.outletsDone && s.recordsDone

/-- Step 6: power is removed from all but the vault domain; a source that came during steps 2 to 5 wakes the device at once (R466). -/
def State.powerRemoved (s : State) : State :=
  let s := s.driversLow
  let s := { s with
    modes := { s.modes with
      beh := ⟨#[.off, .off, .off, .bypassed, .off, .stopped, .off, .vault], rfl⟩, vaultStep := 6, stopping := false },
    power := { s.power with inVault := true, tapOn := false, tapInstr := 2 } }
  let s := ((s.putN Reg.MODE_TRANSIT 0).putN Reg.MODE_IN_FORCE 0x80).anaReset.driveAll
  match s.power.wakePending with
  | some src => s.wakeNow src
  | none => s

/-- One step of a VAULT entry, 2 to 6, once the one before it is made and what it needs holds. -/
def State.vaultStepMade (s : State) (step : Nat) : State :=
  let at_ := { s with modes := { s.modes with vaultStep := step } }
  match step with
  | 2 => if s.vaultStopped then (at_.setBeh 2 .off).driveAll.refreshTransit else s
  | 3 =>
    let s := at_.powerFailRecords.preLoss
    ({ s with modes := { s.modes with meterStopped := true } }).commitRegs.copyLoops.refreshMcs
  | 4 => if s.nat Reg.COMMIT_STATE == 1 || s.dict.erasing then s else at_
  | 5 => if s.isMember && s.byMarks then s
    else ((at_.orderlyRelease false).ringKeyPersist.driveByp false).setBeh 3 .bypassed |>.refreshTransit
  | 6 => at_.powerRemoved
  | _ => s

/-- VAULT_ENTRY: the steps follow one another while MODE_WORD is 0x80. -/
def execVaultEntry (step : Nat) (s : State) : Host.Outcome State Fault Refusal :=
  .next (s.live fun s =>
    if s.nat Reg.MODE_WORD == 0x80 && !s.power.pfw && step == (if s.modes.vaultStep == 0 then 2 else s.modes.vaultStep + 1)
    then s.vaultStepMade step else s)

/-! ## What a boot keeps (R44, R55, R325, R459, R467 and the tables that say "persistent") -/

/-- Persistent objects of the retained channel table; it governs until step B5 (R279, R454). -/
def isTable (k : Nat) : Bool := persistentKey k && ((0x70 <= keyG k && keyG k <= 0x81) || keyG k == 0xE2)

/-- Readbacks that persist, or that the vault holds, by group and object. -/
def persists (g o : Nat) : Bool :=
  (g == 0x01 && o == 0x05) || (g == 0x03 && o == 0x07) ||
  (0x60 <= g && g <= 0x63 && o == 0x42) || (g == 0x8C && o == 0x02) ||
  (g == 0x94 && 1 <= o && o <= 4) || (g == 0xA0 && o == 0x25) ||
  (g == 0xA1 && (o == 5 || 7 <= o)) || (g == 0xB0 && o == 0x20) ||
  (g == 0x59 && (o == 0x19 || o == 0x1B)) || (g == 0xD0 && 3 <= o && o <= 0x0A) ||
  (g == 0xD1 && (1 <= o && o <= 5)) ||
  (g == 0xE0 && ([4, 5, 6, 9, 0xA, 0x10, 0x11, 0x14].contains o)) ||
  (g == 0xE1 && [3, 4, 7, 8].contains o)

/-- Readbacks of pins, of the power-analog die and of the repeat path, which a reset of the control die does not touch. -/
def untouched (g o : Nat) : Bool :=
  (0x60 <= g && g <= 0x63 && (o == 0x44 || o == 0x45 || o == 0x52)) || (g == 0x59 && o == 0x17) ||
  (g == 0x58 && (o == 0x0A || o == 0x60)) ||
  (0x72 <= g && g <= 0x81 && [0x10, 0x11, 0x12, 0x15, 0x17].contains o) || (g == 0x70 && (o == 1 || o == 3)) ||
  (g == 0xD0 && o == 0x18) || (g == 0xE0 && (o == 1 || o == 2 || o == 0x16)) ||
  (g == 0xE1 && (o == 1 || o == 2)) || (g == 0xE2 && (o == 7 || o == 9 || o == 0x11))

/-- Whether an element keeps its value through a boot up to step B5. -/
def bootKeeps (k : Nat) : Bool :=
  !persistentKey k && (persists (keyG k) (keyO k) || untouched (keyG k) (keyO k)) || isTable k

/-- Whether the mains or the power in VAULT were gone since the last boot. -/
def State.afterLoss (s : State) : Bool := s.power.lost || s.power.inVault

/-- Whether a deferred test overwrites the working memory that holds the running registers (R325, R437). -/
def State.bistWipes (s : State) : Bool :=
  match s.upd.bistBoot with | some (t, kind) => 5 <= bistLevel t && bit kind 1 | none => false

/-- Whether the running registers survive into this boot (R325). -/
def State.regsRetained (s : State) : Bool := !s.afterLoss && !s.bistWipes

/-- The registers a boot takes: the running ones, or the newest committed copy (R325). -/
def State.bootRegs (s : State) : List (Nat × Val) :=
  if s.regsRetained then s.objs.filter fun c => isRegister c.1 else s.bill.copy.objs

/-- The elements as a boot begins, before the configuration store is applied. -/
def State.bootObjs (s : State) : List (Nat × Val) :=
  (s.bootRegs ++ s.objs.filter fun c => bootKeeps c.1).foldl (fun l (c : Nat × Val) => objPut l c.1 c.2) []

/-- What a metrology channel keeps with the registers (R287, R300, R316, R330). -/
def Meter.booted (m : Meter) : Meter :=
  { Meter.reset with
                     resImp := m.resImp, resExp := m.resExp, inSession := m.inSession, startSeq := m.startSeq,
                     startMissing := m.startMissing, missing := m.missing, ovr := m.ovr, unrecorded := m.unrecorded }

/-- Billing as a boot takes it (R325). -/
def State.bootBill (s : State) : BillState :=
  let kept := s.regsRetained
  { BillState.reset with
    meters := (if kept then s.bill.meters else s.bill.copy.meters).map Meter.booted
    accts := if kept then s.bill.accts else s.bill.copy.accts
    ect := if kept then s.bill.ect else s.bill.copy.ect
    intLen := if kept then s.bill.intLen else s.bill.copy.intLen
    log := s.bill.log, waiting := s.bill.waiting, copy := s.bill.copy }

/-- What MRAM keeps of the dictionary: the configuration store, the billing hold, and a stored and not applied commit set, until a boot
reaches B5 (R55). -/
def State.bootDict (s : State) : DictState :=
  { DictState.reset with
    store := s.dict.store, billHold := s.dict.billHold, journal := s.dict.journal, journalled := s.dict.journalled
    blank := s.dict.blank }

/-- The key store as a boot finds it: a slot that was damaged is tried again, and an erasure cut off is finished (R343, R352). -/
def KeySlot.booted (k : KeySlot) : KeySlot :=
  let st := kState k.word
  if st == 4 then { k with word := kWith k.word 1 } else if st == 2 || st == 3 then ⟨0, k.gen, 0⟩ else k

/-- The channel of a reset power-analog die: what the owning functions commanded is gone. -/
def Chan.booted (c : Chan) : Chan := { c with devCmd := false }

/-- Every piece of state as a boot begins: what SRAM held is gone, what MRAM, the vault, the power-analog die and the pins hold
stays. -/
def State.bootBase (s : State) : State :=
  { State.reset with
    part := s.part
    objs := s.bootObjs
    now := if s.power.vaultLost then max s.now (s.bill.copy.now + 1000) else s.now
    dict := s.bootDict
    modes := { ModeState.reset with limpEn := s.modes.limpEn }
    ev := { EvState.reset with archive := s.ev.archive, archTimes := s.ev.archTimes }
    pwmNow := s.pwmNow
    legs := s.legs.map fun (l : Leg) => { Leg.reset with fltLow := l.fltLow, swn := l.swn, bnd := s.pwmNow }
    matrixFb := s.matrixFb
    outs := s.outs.map fun (x : Outlet) => { Outlet.reset with imdOk := x.imdOk, plugged := x.plugged, pilotOut := x.pilotOut }
    cools := s.cools.map fun (c : Cool) => { Cool.reset with lastCond := c.lastCond }
    ls := { s.ls with chans := s.ls.chans.map Chan.booted, booting := true }
    bill := s.bootBill
    trust := { TrustState.reset with
      slots := s.trust.slots.map (fun (x : Nat × KeySlot) => (x.1, x.2.booted)), ringStart := s.trust.ringStart,
      ringSent := s.nat Reg.RING_KEY_HIGH, ageTold := s.trust.ageTold }
    upd := { s.upd with
                        loading := none, revoke := Vector.replicate 3 0, live := 0, waited := 0, black := Vector.replicate 2 false,
                        longest := 0, bistBoot := none }
    power := { s.power with held := false, tapTold := 0 }
    sent := s.sent
    fresh := s.fresh
    pending := s.pending }

/-! ## The steps of a boot (R449) -/

/-- B1: the islands of the device's own clocks run, the lanes' where their input is locked; BYP_HOLD is driven; no contactor is
driven, and CTR_STATE shows the feedbacks alone (R94, R207, R246, R449). The islands of outside
clocks read STOPPED and the vault's RTC RUNNING throughout (log entry 26). -/
def State.bootClocks (s : State) : State :=
  let up (i : Nat) : Bool := (i == 3 && s.part.variant = .l) || [1, 2, 7, 8, 9, 12].contains i ||
    (i == 4 && bit (s.nat Reg.RING_STATUS) 0) || (i == 5 && bit (s.nat Reg.RING_STATUS) 1) ||
    (i == 6 && s.nat Reg.PAIR_LANE_STATE % 4 != 0)
  let s := s.putN Reg.RING_STATUS (s.nat Reg.RING_STATUS % 4)
  let s := [0, 1, 2, 3].foldl (fun (st : State) (o : Nat) => st.putN (Reg.CTR_STATE o) (st.nat (Reg.CTR_STATE o) / 4 % 4 * 4)) s
  ((List.range 12).foldl (fun (st : State) (i : Nat) => if up (i + 1) then st.putN (Reg.ISLAND_STATE (i + 1)) 1 else st) s).driveByp true

/-- B2: the device root, held masked, and the slots whose tags fail, with their descendants (R338, R339, R343, R351). -/
def State.bootTrust (s : State) (rootOk : Bool) (damaged : List Nat) : State :=
  if !rootOk then { s.putN Reg.TRUST_STATE 1 with trust := { s.trust with copies := [] } }
  else
    let root := s.remaskCopy (beNat (Config.drbg s.fresh 48)) ⟨none, 0⟩
    let s := { s.drawn with trust := { s.trust with copies := [root] } }
    let gone := (damaged.filter fun n => kState (s.slotOf n).word == 1).flatMap s.subtree
    let s := gone.foldl (fun (st : State) (n : Nat) => st.setSlot n { st.slotOf n with word := kWith (st.slotOf n).word 4 }) s
    s.putN Reg.TRUST_STATE s.trustBase

/-- B3: a deferred test runs (R437); the state before the boot holds what it tests. -/
def State.bootBist (s : State) (test : Option (Nat × Nat)) (misr : Nat) (children : List Nat) : State :=
  match test with
  | some (t, kind) => s.bistReadbacks t kind misr children 1
  | none => s

/-- The classes whose images a part runs. -/
def State.imageClasses (s : State) : List (Fin 3) := if s.part.variant = .n then [0, 1] else [0, 1, 2]

/-- The fallback of a trial at its third reset (R427): back to the other slot where that one verifies. -/
def State.trialFallback (s : State) (c : Fin 3) : State :=
  let t := 1 - s.nat (Reg.BOOT_SLOT (c.val + 1))
  if s.nat (Reg.SLOT_TRIAL (c.val + 1)) == 1 && s.verifyImage (areaOf c t) false == 1 then
    (((s.putN (Reg.BOOT_SLOT (c.val + 1)) t).putN (Reg.SLOT_TRIAL (c.val + 1)) 0).count Reg.BOOT_FAIL_CNT).putN Reg.BOOT_STATE 1
  else s

/-- B4, the trial: a reset that counts is counted while a class is on trial (R427, R451). -/
def State.bootTrial (s : State) (cause : Nat) : State :=
  if cause % 256 < 5 || (s.imageClasses.all fun c => s.nat (Reg.SLOT_TRIAL (c.val + 1)) == 0) then s
  else
    let s := s.putN Reg.TRIAL_RESETS (min 3 (s.nat Reg.TRIAL_RESETS + 1))
    if s.nat Reg.TRIAL_RESETS < 3 then s
    else
      let s := s.imageClasses.foldl (fun (st : State) (c : Fin 3) => st.trialFallback c) s
      if s.imageClasses.all fun c => s.nat (Reg.SLOT_TRIAL (c.val + 1)) == 0 then s.putN Reg.TRIAL_RESETS 0 else s

/-- The check of an area's image as it is loaded, with its result in IMG_VERIFY (R354). -/
def State.checkImage (s : State) (a : Nat) : State := s.putN (Reg.IMG_VERIFY (a + 1)) (s.verifyImage a false)

/-- B4, one class: verified and loaded from its slot, or from the other one, or none (R354, R356). -/
def State.bootImage (s : State) (c : Fin 3) : State :=
  let slot := s.nat (Reg.BOOT_SLOT (c.val + 1))
  let s := s.checkImage (areaOf c slot)
  if s.nat (Reg.IMG_VERIFY (areaOf c slot + 1)) == 1 then s.loadImage c slot
  else
    let s := s.checkImage (areaOf c (1 - slot))
    if s.nat (Reg.IMG_VERIFY (areaOf c (1 - slot) + 1)) == 1 then
      ((s.loadImage c (1 - slot)).count Reg.BOOT_FAIL_CNT).putMax Reg.BOOT_STATE 1
    else s.putMax Reg.BOOT_STATE (if c.val == 2 then 2 else 3)

/-- B4: the images of every class. -/
def State.bootImages (s : State) (cause : Nat) : State :=
  (s.bootTrial cause).imageClasses.foldl (fun (st : State) (c : Fin 3) => st.bootImage c) (s.bootTrial cause)

/-- The commit set that waited in the journal goes into the store and the billing hold; COMMIT_SEQ takes its value (R55). -/
def State.bootJournal (s : State) : State :=
  let now := s.dict.journal.filter fun e => !isHeld e.1
  let later := s.dict.journal.filter fun e => isHeld e.1
  let seq := s.dict.journalled
  let s := { s with dict := { s.dict with
    store := now.foldl (fun l (e : Nat × Val) => objPut l e.1 e.2) s.dict.store
    billHold := later.foldl (fun l (e : Nat × Val) => stagePut l e.1 e.2) s.dict.billHold
    journal := [], journalled := false } }
  if seq then s.count Reg.COMMIT_SEQ else s

/-- B5: the configuration store is applied, with the journaled commit set that waited (R55); the channel table is reloaded (R279). -/
def State.bootStore (s : State) : State :=
  let s := s.bootJournal
  let objs := s.objs.filter fun c => !persistentKey c.1
  let s := { s with objs := s.dict.store.foldl (fun l (e : Nat × Val) => objPut l e.1 e.2) objs,
                    ls := { s.ls with tableLost := false } }
  s.putN Reg.BILL_HOLD_COUNT s.dict.billHold.length

/-- B5: the values in effect reach the engines, the roles, the channels, the pair and the ring (R96, R132, R277, R279, R350, R399). -/
def State.bootApply (s : State) : State :=
  let s := { s with legs := Vector.ofFn fun n => { s.legs[n] with act := s.legCfg n } }
  let s := s.applyBinds.refreshCoolEngines.applyOwners.wdApply.rolesCommitted
  let high := s.nat Reg.RING_KEY_HIGH + 65536
  let s := (s.putN Reg.EPOCH_NUMBER (high % 18446744073709551616)).refreshRingKey
  let s := { s with trust := { s.trust with ringGuard := high } }
  if s.nat Reg.PAIR_EN == 1 then (s.putN Reg.BURGEE_STATE s.restBurgee).putN Reg.LEASE_LEFT (tTake (s.nat Reg.LEASE_PERIOD)) else s

/-- B5: legal time after lost vault contents, the loop counters' copies, and ECT (R307, R309, R459). -/
def State.bootTime (s : State) (vaultLost : Bool) : State :=
  let s := s.putBit Reg.VBAT_STATUS 1 vaultLost
  let s := if vaultLost then
      (List.range 4).foldl (fun (st : State) (i : Nat) =>
        (st.putN (Reg.TAMP_OPEN_CNT (i + 1)) (st.power.loopCopies.getD i 0)).putN (Reg.TAMP_AMBIG_CNT (i + 1))
          (st.power.loopCopies.getD (4 + i) 0)) (s.putBit Reg.TIME_FLAGS 0 true)
    else s
  let s := s.putN Reg.SEAL_STATE (bitN (s.nat Reg.TAMP_STATE) 2)
  s.raiseEct

/-- MODE_WORD and MODE_ORIGIN of a boot (R87, R451). -/
def State.bootWord (s : State) (cause : Nat) : Nat × Nat :=
  let c := cause % 256
  if s.dict.blank then (0x01, 0)
  else if 1 <= c && c <= 3 then (0x40, 2)
  else if c == 4 then (0x40, 3)
  else (s.nat Reg.BOOT_MODE, 1)

/-- The behaviour a class starts from at B7: a class that is to run starts by R80 from its parked or idle state. -/
def startBeh (b : Beh) : Beh :=
  match b with
  | .run | .runI => .park
  | .opened => .closed
  | .full | .fullI => .zero
  | b => b

/-- The mode word is loaded, a change made by the device (R74, R87), and the classes stand as R80 starts them. -/
def State.bootModes (s : State) (cause : Nat) : State :=
  let w := s.bootWord cause
  let s := ((s.putN Reg.MODE_WORD w.1).putN Reg.MODE_ORIGIN w.2).count Reg.MODE_CHANGES
  let s := s.putN Reg.MODE_IN_FORCE s.targetWord
  let b (c : Fin 8) : Beh := if c.val == 6 && s.targetBeh c == .run then .ready else startBeh (s.targetBeh c)
  let s := if s.part.variant = .n then s else s.putN (Reg.ISLAND_STATE 3) (b2n (s.targetBeh 4 == .meter))
  { s with modes := { s.modes with beh := Vector.ofFn b, limpReached := bit s.targetWord 4 }, ls := { s.ls with booting := false } }

/-- B6: the reset-cause record (R453). -/
def State.bootCauseRecord (s : State) (cause : Nat) : State :=
  let before := s.nat Reg.RESET_CAUSE
  let history := cause :: (List.range 7).map fun i => s.nat (Reg.RESET_HISTORY (i + 1))
  let s := (List.range 8).foldl (fun (st : State) (i : Nat) => st.putN (Reg.RESET_HISTORY (i + 1)) (history.getD i 0)) s
  (s.putN Reg.RESET_CAUSE cause).raise 0xE100 0x003 (if 1 <= cause % 256 && cause % 256 <= 4 then 3 else 1) 1 before 0

/-- LTIME of the last record written, 0 where there is none (R301). -/
def State.lastRecordTime (s : State) : Nat :=
  match s.bill.log.getLast? with | some r => leAt r.bytes 8 8 | none => 0

/-- B6: one RESTART record for each channel of R319, on a standby too (R297, R301, R327; log entry 83). -/
def State.bootRestart (s : State) (cause : Nat) (retained : Bool) : State :=
  let at_ := s.lastRecordTime
  [0, 1, 2, 3].foldl (fun (st : State) (c : Fin 4) =>
    if st.billed c || (bit (st.nat Reg.ROLE_ACTIVE) (4 + c.val) && st.beh 5 == .mirror) then
      st.record ⟨0xA, some c, 0, st.now, st.nat (Reg.SESSION_ID c.val),
        leBytes 8 at_ ++ leBytes 4 cause ++ leBytes 1 (b2n (!retained)), 0⟩
    else st) s

/-- B6: one legal record for each stored loop event that came while the control die did not run (R293, R462). -/
def State.bootEvents (s : State) : State :=
  let due := s.power.events.filter fun e => !e.recorded && !e.powered && (e.kind == 1 || e.kind == 2)
  due.foldl (fun (st : State) (e : VaultEvent) =>
    let i : Fin 4 := if h : e.which < 4 then ⟨e.which, h⟩ else 0
    let st := if e.which == 2 then st.sealNote (e.kind == 1) (msOf e.ltime) else st
    let st := st.setLoop i { st.loop i with kept := e.kind == 1 }
    st.loopRecord i (e.kind == 1) (msOf e.ltime) 64 e.seq) s

/-- B6: one loop's state as the first three samples take it, against the state kept and the stored events (R293, R462). -/
def State.bootLoop (s : State) (i : Fin 4) (opens : Bool) : State :=
  if !bit (s.nat Reg.TAMP_EN) i.val then s
  else
    let known := bit (s.nat Reg.TAMP_STATE) i.val
    let kept := (s.loop i).kept
    let s := (s.putBit Reg.TAMP_STATE i.val opens).setLoop i { s.loop i with kept := opens, last := opens, run := 3, since := s.now }
    let s := if opens && !known && !kept then s.count (Reg.TAMP_OPEN_CNT (i.val + 1)) else s
    let s := if i.val == 2 then s.putN Reg.SEAL_STATE (b2n opens) else s
    if kept == opens || s.part.variant = .n then s
    else
      let s := if i.val == 2 then s.sealNote opens s.now else s
      s.loopRecord i opens s.now 0 0

/-- B6: SESSION_END with END_CAUSE 0x04 for a session that was open at the loss or reset (R327, R406). -/
def State.bootSessionEnd (s : State) (account : Nat) (c : Fin 4) : State :=
  if !(s.meter c).inSession then s
  else
    let detail := (s.endDetail c (leBytes 2 4)).take 10 ++ leBytes 2 account
    let s := s.record ⟨2, some c, 0, s.now, s.nat (Reg.SESSION_ID c.val), detail, 0⟩
    s.setMeter c { s.meter c with inSession := false }

/-- B6: LEGAL_FW where the legal image that runs is not the one last recorded (R296, R301). -/
def State.bootLegalFw (s : State) : State :=
  let new := s.nat (Reg.RUN_SLOT 3)
  if s.upd.legalRun == some new || s.nat Reg.BOOT_STATE == 2 then s
  else
    let s := s.withUpd { s.upd with legalRun := some new }
    s.record ⟨0xB, none, 0, s.now, 0, (s.imageHash (areaOf 2 new)).take 16, 0⟩

/-- What of the state before the reset the records of a boot speak of. -/
structure BootPast where
  cause : Nat
  retained : Bool
  loss : Bool
  endsSessions : Bool
  accounts : List Nat
  deriving DecidableEq, Repr

/-- B6: the reset-cause record, the vault's events and the records of R327 and R406. -/
def State.bootRecords (s : State) (past : BootPast) (loops : Nat) : State :=
  let s := s.bootCauseRecord past.cause
  let legal := s.part.variant = .l
  let s := if legal then (s.bootRestart past.cause past.retained).bootEvents else s
  let s := (List.finRange 4).foldl (fun (st : State) (i : Fin 4) => st.bootLoop i (bit loops i.val)) s
  if !legal then s
  else
    let s := if past.endsSessions then
        [0, 1, 2, 3].foldl (fun (st : State) (c : Fin 4) => st.bootSessionEnd (past.accounts.getD c.val 0xFFFF) c) s
      else { s with bill := { s.bill with meters := s.bill.meters.map fun (m : Meter) => { m with inSession := false } } }
    let s := if past.loss && s.boundaryDue && s.keeping then s.takeBoundary true 8 else s
    s.bootLegalFw.acctsFree.commitRegs

/-- The Pennants of a boot that wait until the event queue runs: those of a commit completed at B5 and of the mode word's load among
them (R55, R74, R267, R343, R356, R437, R439). -/
def State.bootPennants (s : State) (committed mismatch fellBack : Bool) (taps : Nat) : State :=
  let s := if committed then s.conflictPennant else s
  let s := s.raiseCat 0x0100 0x00 40 (.num 1)
  let s := if fellBack then s.raiseCat 0xA100 0x01 61 (.num 0) else s
  let s := if s.nat Reg.TRUST_STATE == 3 then s.raiseCat 0xA000 0x01 62 (.num 0) else s
  let s := if mismatch then s.raiseCatP 0xD000 0x03 63 1 (s.get Reg.BIST_SIG) else s
  (List.range taps).foldl (fun (st : State) _ => st.raiseCat 0xD000 0x19 60 (st.get Reg.JTAG_ENTRY_CNT)) s

/-- B7: the classes start by R80, and every function shows where it stands. -/
def State.bootStarts (s : State) (us : Nat) : State :=
  let s := s.putN Reg.RING_TOKENS (s.nat Reg.RING_PEN_BURST)
  let s := ((s.putN Reg.BOOT_TIME (us % 4294967296)).refreshAlloc.refreshEngines).refreshMcs
  let s := (List.finRange 4).foldl (fun (st : State) (o : Fin 4) => (st.refreshSensors o).refreshCool o) s
  (s.vonCommitted.classesTurn).driveAll.copyLoops

/-- The cause a boot records: lost vault contents make a return of the mains a cold power-on (R451). -/
def State.bootCause (s : State) : Nat := if s.power.lost && s.power.vaultLost then 1 else s.power.cause

/-- Steps B1 to B4 of a boot. -/
def State.bootedImages (s : State) (b : BootFacts) : State :=
  let t := (s.bootBase.putN Reg.JTAG_ENTRY_CNT s.power.tapTold).bootClocks
  ((t.bootTrust b.rootOk b.damaged).bootBist s.upd.bistBoot b.misr b.children).bootImages s.bootCause

/-- The boot from B1; with neither image of a class it ends at B4 in RECOVERY (R356, R449). -/
def State.booted (s : State) (b : BootFacts) : State :=
  let cause := s.bootCause
  let test := s.upd.bistBoot
  let taps := s.power.tapTold
  let t := s.bootedImages b
  if t.inRecovery then
    (t.withPower { t.power with cause := cause, tapTold := taps, pfw := false, pfwDone := false }).driveAll
  else
    let past : BootPast := ⟨cause, s.regsRetained, s.afterLoss, s.afterLoss || s.nat Reg.PAIR_EN == 0 || !b.taken,
      (List.range 4).map (fun i => s.nat (Reg.ACCOUNT_SLOT i))⟩
    let t := (t.bootStore.bootApply).bootTime s.power.vaultLost
    let t := t.withPower { t.power with lost := false, vaultLost := false, inVault := false, wakePending := none, cause := cause }
    let t := (t.bootModes cause).bootRecords past b.loops
    let mismatch := test.isSome && t.nat Reg.BIST_SIG != t.nat Reg.BIST_EXPECT
    let fellBack := t.nat Reg.BOOT_FAIL_CNT != s.nat Reg.BOOT_FAIL_CNT
    (t.bootPennants s.dict.journalled mismatch fellBack taps).bootStarts b.us

/-- Whether nothing holds the device in reset (R439, R448, R452, R455, R476). -/
def State.mayBoot (s : State) : Bool :=
  s.power.held && s.power.mains && !s.power.por && !s.power.resetLow && !s.power.testMode && !s.power.pfw &&
    !bit (s.nat Reg.JTAG_STATE) 1 && s.modes.vaultStep < 6

/-- A reset that was scheduled is entered (R452). -/
def State.scheduledReset (s : State) : State :=
  if s.power.scheduled != 0 && s.running then s.enterReset s.power.scheduled else s

/-- BOOT. -/
def execBoot (b : BootFacts) (s : State) : Host.Outcome State Fault Refusal :=
  .next (if s.scheduledReset.mayBoot then s.scheduledReset.booted b else s.scheduledReset)

/-! ## Reset sources (R396, R451, R452, R476) -/

/-- LEASE_LAPSE. -/
def execLeaseLapse (s : State) : Host.Outcome State Fault Refusal :=
  .next (s.live fun s => if s.holds then (s.count Reg.LAPSE_CNT).enterReset 0x07 else s)

/-- POWER_ON_RESET_RELEASE. -/
def execPowerOnResetRelease (s : State) : Host.Outcome State Fault Refusal :=
  .next (if s.power.mains then s.withPower { s.power with por := false } else s)

/-- RESET_N; without effect in VAULT. -/
def execResetN (low : Bool) (s : State) : Host.Outcome State Fault Refusal :=
  .next (
    if 6 <= s.modes.vaultStep then s
    else
      let s := s.withPower { s.power with resetLow := low }
      if low then s.enterReset 0x05 else s)

/-- A write of RESET_REQUEST: the reset comes 1 ms later. -/
def State.resetRequestEffect (s : State) : State := s.withPower { s.power with scheduled := 6 }

/-- RESET_REQUEST. -/
def execResetRequest (h : Hdr) (v : Nat) (s : State) : Host.Outcome State Fault Refusal :=
  .next (s.hostWrite h Reg.RESET_REQUEST v (·.resetRequestEffect))

/-- LOCKSTEP. -/
def execLockstep (s : State) : Host.Outcome State Fault Refusal := .next (if s.running then s.enterReset 0x09 else s)

/-- WATCHDOG. -/
def execWatchdog (s : State) : Host.Outcome State Fault Refusal := .next (if s.running then s.enterReset 0x0A else s)

/-- TESTMODE_HIGH: the next boot records TEST_ACCESS. -/
def execTestmodeHigh (high : Bool) (s : State) : Host.Outcome State Fault Refusal :=
  .next (
    let s := s.withPower { s.power with testMode := high }
    if !high then s
    else if s.power.por then s.withPower { s.power with cause := 0x0C }
    else s.enterReset 0x0C)

/-! ## The power-fail warning (R326, R455 to R458) -/

/-- The steps of R326 that are made, and what a warning does at once (R455). -/
def State.powerFail (s : State) (steps : Nat) : State :=
  let s := ((s.driversLow.orderlyRelease false).ringKeyPersist).copyLoops
  let s := { s with ev := { s.ev with archStopped := true } }
  let s := if 2 <= steps && s.modes.vaultStep < 3 then s.powerFailRecords else s
  let s := if 3 <= steps then s.preLoss else s
  let s := if 4 <= steps then { s with modes := { s.modes with meterStopped := true } } else s
  if 5 <= steps then s.commitRegs else s

/-- SUPPLY_STATUS with bits [4:0] as given and the warning over. -/
def State.supplyBits (s : State) (out : Nat) : State :=
  s.putN Reg.SUPPLY_STATUS (s.nat Reg.SUPPLY_STATUS / 128 * 128 + out % 32)

/-- SUPPLY_STATUS under a warning: PFW asserted, or the supplies below their warning thresholds (R446, R468). -/
def State.warned (s : State) (below : Nat) : State :=
  s.putN Reg.SUPPLY_STATUS (s.nat Reg.SUPPLY_STATUS / 128 * 128 + (if below % 32 == 0 then 32 else below % 32))

/-- PFW: ignored in commanded VAULT; during a boot or a reset no record is written and the last commit stands (R455, R466). -/
def execPfw (work : PfwWork) (s : State) : Host.Outcome State Fault Refusal :=
  .next (
    if 6 <= s.modes.vaultStep || !s.power.mains || s.power.pfw then s
    else
      let s := (s.count Reg.PFW_CNT).warned work.below
      let done := !s.powered || work.steps.val == 5
      let s := if s.powered then s.powerFail work.steps.val else s
      let s := s.putBit Reg.SUPPLY_STATUS 6 done
      ((s.withPower { s.power with pfw := true, pfwDone := done }).refreshMcs).driveAll)

/-- PFW_RELEASE (R458). -/
def execPfwRelease (s : State) : Host.Outcome State Fault Refusal :=
  .next (
    if !s.power.pfw || !s.power.pfwDone || !s.power.mains then s
    else
      ((s.supplyBits 0).withPower { s.power with pfw := false, pfwDone := false }).enterReset 0x0D)

/-! ## The supplies (R446, R451, R456, R457, R497) -/

/-- The mains leave range (R86, R457): PRE_LOSS is written where no warning has dealt with it, the bypass is released, the control die is held in power-on reset, the vault runs on VBAT. -/
def State.mainsGone (s : State) (tripped out : Nat) : State :=
  let warned := s.power.pfwDone || 3 <= s.modes.vaultStep
  let s := if warned then s else s.count Reg.NOWARN_LOSS_CNT
  let s := if s.powered && !s.power.pfw then s.preLoss else s
  let s := ((s.driversLow.driveByp false).putN Reg.JTAG_STATE 0).supplyBits out
  let s := { s with
    modes := { s.modes with vaultStep := 0 },
    power := { s.power with
      held := true, por := true, mains := false, cause := (if warned then 2 else 3 + tripped * 256),
      pfw := false, pfwDone := false, lost := true, scheduled := 0, anaLost := bit out 4, tapOn := false, tapInstr := 2 } }
  let s := if bit out 4 then s.anaReset else s
  (s.vevAdd 4 0 s.now).driveAll

/-- MAINS_LOST. -/
def execMainsLost (first : Fin 5) (out : Nat) (s : State) : Host.Outcome State Fault Refusal :=
  .next (if s.power.mains then s.mainsGone first.val out else s)

/-- MAINS_RETURNED: power-on reset holds for t_POR; a power-analog die that had lost its supply starts with the heartbeat
watchdog in WAIT_SYNC (R448, R454, R461). -/
def execMainsReturned (s : State) : Host.Outcome State Fault Refusal :=
  .next (
    if s.power.mains then s
    else
      let s := (s.withPower { s.power with mains := true, anaLost := false }).supplyBits 0
      (s.vevAdd 5 0 s.now).driveAll)

/-! ## The vault (R459, R464, R466) -/

/-- VBAT_LOW. -/
def execVbatLow (s : State) : Host.Outcome State Fault Refusal :=
  .next (
    let before := s.get Reg.VBAT_STATUS
    ((s.vevAdd 6 0 s.now).putBit Reg.VBAT_STATUS 0 true).raiseCat 0xE000 0x02 64 before)

/-- VAULT_BROWN_OUT: every vault content is lost; the newest VEV_SEQ and the kept loop states are in MRAM (R459, R461, R462). -/
def State.vaultGone (s : State) : State :=
  let zero := [Reg.TAMP_STATE, Reg.VAULT_WAKE_AT, Reg.WAKE_SOURCE, Reg.VEV_ACK, Reg.VEV_LOST_CNT] ++
    (List.range 4).map (fun i => Reg.TAMP_OPEN_CNT (i + 1)) ++ (List.range 4).map (fun i => Reg.TAMP_AMBIG_CNT (i + 1))
  let s := zero.foldl (fun (st : State) (k : Nat) => st.putN k 0) s
  let loops := s.power.loops.map fun (l : Loop) => { l with last := false, run := 0, since := 0, ambig := false }
  { s.putN Reg.RTC_STATUS 1 with
    now := 0, ls := { s.ls with tableLost := true },
    power := { s.power with vaultLost := true, inVault := false, events := [], loops := loops } }

/-- VAULT_BROWN_OUT. -/
def execVaultBrownOut (s : State) : Host.Outcome State Fault Refusal := .next (if s.power.anaLost then s.vaultGone else s)

/-- RTC_STOP: a substitute counts on (R464). -/
def execRtcStop (s : State) : Host.Outcome State Fault Refusal :=
  .next (if bit (s.nat Reg.RTC_STATUS) 0 then (s.vevAdd 7 0 s.now).putN Reg.RTC_STATUS 2 else s)

/-- RTC_RESTART. -/
def execRtcRestart (s : State) : Host.Outcome State Fault Refusal :=
  .next (if bit (s.nat Reg.RTC_STATUS) 0 then s else (s.vevAdd 8 0 s.now).putN Reg.RTC_STATUS 1)

end Sys2Proof.Machine
end

