-- ==== Sys2Proof/Machine/Fabric.lean ====
section
/-! DEFINITION. Fabric: pace, clock loss, errors and fences of the fabric (chapter 04). -/

namespace Sys2Proof.Machine

/-! ## FABRIC_STATUS and pace (R90, R92, R93) -/

/-- FABRIC_STATUS [4] BOUNDS_SUSPENDED: set while any of [0] to [3] is set (R93, R103). -/
def State.refreshBounds (s : State) : State := s.putBit Reg.FABRIC_STATUS 4 (s.nat Reg.FABRIC_STATUS % 16 != 0)

/-- The least of a list of numbers, 0 of an empty one. -/
def leastOf (l : List Nat) : Nat := l.tail.foldl min (l.headD 0)

/-- The pace of a region: the lowest of its three replica chains (R90). -/
def regionPace (chains : List Nat) (r : Nat) : Nat := leastOf ((List.range 3).map fun i => chains.getD (3 * r + i) 0)

/-- What a pace below or at PACE_FLOOR does (R92). A loss of REFCLK makes no measurement, so the run of ten stands through it (log
entry 24). -/
def State.judgePace (s : State) (pace : Nat) : State :=
  let low := bit (s.nat Reg.FABRIC_STATUS) 0
  if pace < s.nat Reg.PACE_FLOOR then
    let before := s.get Reg.FABRIC_STATUS
    let s := ({ s with fab := { s.fab with paceRun := 0 } }).putBit Reg.FABRIC_STATUS 0 true |>.refreshBounds
    if low then s else s.raiseCat 0x0500 0x05 71 before
  else
    let run := s.fab.paceRun + 1
    let s := { s with fab := { s.fab with paceRun := min run 10 } }
    if low && 10 <= run then (s.putBit Reg.FABRIC_STATUS 0 false).refreshBounds else s

/-- One measurement of pace (R90, R92); while REFCLK is lost no window can be timed, and an unlocked PLL still times one (log entry
24). -/
def State.measurePace (s : State) (chains : List Nat) : State :=
  if bit (s.nat Reg.FABRIC_STATUS) 1 then s
  else
    let pace := leastOf ((List.range 7).map (regionPace chains))
    let s := (List.range 7).foldl (fun (st : State) (r : Nat) => st.putN (Reg.PACE_REGION (r + 1)) (min (regionPace chains r) 4000)) s
    let s := s.putN Reg.PACE (min pace 4000)
    let s := if pace != 0 && min pace 4000 < s.nat Reg.PACE_MIN_SEEN then s.putN Reg.PACE_MIN_SEEN (min pace 4000) else s
    s.judgePace pace

/-- PACE_MEASURE. -/
def execPaceMeasure (chains : List Nat) (s : State) : Host.Outcome State Fault Refusal := .next (s.live (·.measurePace chains))

/-- A write of ENSIGN_LAT_CLEAR (R93): 0x01 sets every element of 05:0A to 0. -/
def State.latClearEffect (s : State) (v : Nat) : State :=
  if v == 1 then ((s.putN Reg.LAT_EVENT_TO_RING 0).putN Reg.LAT_EPOCH_TO_LOOP 0).putN Reg.LAT_SAMPLE_TO_PWM 0 else s

/-- ENSIGN_LAT_CLEAR. -/
def execEnsignLatClear (h : Hdr) (v : Nat) (s : State) : Host.Outcome State Fault Refusal :=
  .next (s.hostWrite h Reg.ENSIGN_LAT_CLEAR v (·.latClearEffect v))

/-! ## Clock loss (R96) -/

/-- The islands that run on REFCLK or its PLL (R94, R96). -/
def State.clockIslands (s : State) : List Nat := if s.part.variant = .n then [1, 2, 7, 8, 9] else [1, 2, 3, 7, 8, 9]

/-- Set the state of those islands; the metrology clock that runs again runs under METER alone (R289). -/
def State.putIslands (s : State) (st : Nat) : State :=
  s.clockIslands.foldl (fun (t : State) (i : Nat) =>
    t.putN (Reg.ISLAND_STATE i) (if i == 3 && st == 1 then b2n (s.beh 4 == .meter) else st)) s

/-- The groups place no claim, and their legs stand with the gates low (R96). -/
def State.legsFaulted (s : State) : State :=
  let s := (List.finRange 32).foldl (fun (st : State) (n : Fin 32) => st.parkLeg n) s
  (List.finRange 4).foldl (fun (st : State) (g : Fin 4) => st.setGroup g { st.groups[g] with claims := false }) s

/-- REFCLK or the PLL is lost: every leg as faulted, the islands stop, the Burgee is released, a hoist launches no mark (R96, R200,
R396). -/
def State.loseClock (s : State) (b island event : Nat) : State :=
  if bit (s.nat Reg.FABRIC_STATUS) b then s
  else
    let before := s.get Reg.FABRIC_STATUS
    let s := ((s.legsFaulted.putBit Reg.FABRIC_STATUS b true).refreshBounds.putIslands island).orderlyRelease false
    let s := if s.isHoist then s.stopLaunching.refreshAlloc else s
    s.raise1 0x0500 event 1 before

/-- REFCLK_LOST: PACE reads 0 while it lasts (R90). -/
def execRefclkLost (s : State) : Host.Outcome State Fault Refusal :=
  .next (s.live fun s =>
    let s := s.loseClock 1 3 0x105
    (List.range 7).foldl (fun (st : State) (r : Nat) => st.putN (Reg.PACE_REGION (r + 1)) 0) (s.putN Reg.PACE 0))

/-- PLL_UNLOCK: while REFCLK is present (R96). -/
def execPllUnlock (s : State) : Host.Outcome State Fault Refusal :=
  .next (s.live fun s => if bit (s.nat Reg.FABRIC_STATUS) 1 then s else s.loseClock 2 2 0x205)

/-- PLL_RELOCK: the legs stay parked until the first epoch boundary after lock (R96). -/
def State.relock (s : State) : State :=
  if !s.clockLost then s
  else
    let before := s.get Reg.FABRIC_STATUS
    let s := ((s.putBit Reg.FABRIC_STATUS 1 false).putBit Reg.FABRIC_STATUS 2 false).refreshBounds.putIslands 1
    let s := ({ s with fab := { s.fab with clockHold := true } }).legsFaulted
    s.raise1 0x0500 0x305 3 before

/-- PLL_RELOCK. -/
def execPllRelock (s : State) : Host.Outcome State Fault Refusal := .next (s.live (·.relock))

/-- LANE_CLOCK_LOST: only that island, 4, 5 or 6 (R96). -/
def execLaneClockLost (island : Nat) (s : State) : Host.Outcome State Fault Refusal :=
  .next (s.live fun s => if 4 <= island && island <= 6 then s.putN (Reg.ISLAND_STATE island) 3 else s)

/-! ## Errors and fences (R101 to R103) -/

/-- Count an error, of whatever kind, and note it in LAST_FAB_ERR (R101, R102, log entry 25). -/
def State.fabError (s : State) (kind level region block cell : Nat) : State :=
  (s.count (Reg.FAB_ERR_COUNT (region + 1))).putN Reg.LAST_FAB_ERR
    (kind + level * 256 + region * 2048 + block % 256 * 65536 + cell % 256 * 16777216 + s.ltime / 1024 % 4294967296 * 4294967296)

/-- FENCED_CELLS of a region: its fenced blocks with every cell in them, and the other fenced cells; 0xFFFF where the region itself is
fenced (R93, R101). -/
def State.fencedCells (s : State) (r : Nat) : Nat :=
  if s.fab.regions.contains r then 0xFFFF
  else
    let blocks := s.fab.blocks.filter fun b => b.1 == r
    let cells := s.fab.cells.filter fun c => c.1 == r && !s.fab.blocks.contains (c.1, c.2.1)
    min 255 (blocks.foldl (fun (a : Nat) (b : Nat × Nat) => a + (Config.blockCells b.1 b.2).val) 0 + cells.length)

/-- What a new fence shows and does: FENCED_CELLS, FABRIC_STATUS, one Pennant, and the engines of the fenced part (R102, R103,
R133). A fence at a higher level that comes later is an incident of its own (log entry 25). -/
def State.fenceShown (s : State) (r : Nat) : State :=
  let before := s.get (Reg.FENCED_CELLS (r + 1))
  let s := s.putN (Reg.FENCED_CELLS (r + 1)) (s.fencedCells r)
  let s := (s.putBit Reg.FABRIC_STATUS 3 true).refreshBounds
  (s.raiseCat (0x0500 + (r + 1)) 0x07 70 before).refreshEngines

/-- The metrology engines that a fence takes with it (R298). -/
def State.fenceMeters (s : State) : State :=
  if s.part.variant = .n then s
  else [0, 1].foldl (fun (st : State) (e : Fin 2) => if st.fab.fenced (meterCell e.val) then st.meterFenced e else st) s

/-- Fence a region (R101, R103, R298): a fenced Supervisor region resets the device. -/
def State.fenceRegion (s : State) (r : Nat) : State :=
  if s.fab.regions.contains r then s
  else
    let s := ({ s with fab := { s.fab with regions := s.fab.regions ++ [r] } }).fenceShown r
    if r == 5 then s.enterReset (0x08 + r * 256) else s.fenceMeters

/-- Fence a block with every cell in it. -/
def State.fenceBlock (s : State) (r b : Nat) : State :=
  if s.fab.regions.contains r || s.fab.blocks.contains (r, b) then s
  else (({ s with fab := { s.fab with blocks := s.fab.blocks ++ [(r, b)] } }).fenceShown r).fenceMeters

/-- Fence a cell; the fourth of a block fences the block, and the one Pennant is the block's (R101, R102). -/
def State.fenceCell (s : State) (r b c : Nat) : State :=
  if s.fab.fenced (r, b, c) then s
  else
    let s := { s with fab := { s.fab with cells := s.fab.cells ++ [(r, b, c)] } }
    if 4 <= (s.fab.cells.filter fun x => x.1 == r && x.2.1 == b).length then s.fenceBlock r b else (s.fenceShown r).fenceMeters

/-- METER_ENGINE_FENCED (R298): the engine's cell is fenced (R103). -/
def execMeterEngineFenced (e : Fin 2) (s : State) : Host.Outcome State Fault Refusal :=
  .next (s.live fun s => if s.part.variant = .n then s else s.fenceCell 3 0 e.val)

/-- The packet that failed parity twice is discarded, and an error returns to its requester (R98, R101). Which of the packets under
way it was is a free value: the record that comes next in the lane, a transaction that waits at the ordering point, answered
ACCESS_ERROR, or one that leaves nothing behind (log entry 21). -/
def State.packetLost (s : State) : State :=
  let w := s.freeAt 9 % 3
  let s := s.drawn
  if w == 1 then (match s.ev.laneNext with | some (_, e) => { s with ev := e } | none => s)
  else if w == 2 then
    (match s.dict.queue with | (src, rq) :: _ => s.answer src rq.opcode rq.tag .accessError [] | [] => s)
  else s

/-- The Ensign item that came with an uncorrectable error is discarded (R101): which of the items under way it was is a free value, an
own item that waits for the ring or one that leaves nothing behind (log entry 21). -/
def State.itemLost (s : State) : State :=
  let w := s.freeAt 10 % 2
  let s := s.drawn
  if w == 1 then { s with ring := { s.ring with items := s.ring.items.drop 1 } } else s

/-- PARITY_ERROR: retried once; a second failure discards the packet (R98, R101). -/
def execParityError (region : Fin 7) (level block cell : Nat) (second : Bool) (s : State) : Host.Outcome State Fault Refusal :=
  .next (s.live fun s =>
    let s := s.fabError (if second then 6 else 1) (level % 4) region.val block cell
    if second then s.packetLost else s)

/-- ENSIGN_SINGLE_BIT_ERROR: corrected in passing. -/
def execEnsignSingleBitError (region : Fin 7) (level block cell : Nat) (s : State) : Host.Outcome State Fault Refusal :=
  .next (s.live fun s => s.fabError 2 (level % 4) region.val block cell)

/-- ENSIGN_UNCORRECTABLE: the item is discarded and the source cell is fenced. -/
def execEnsignUncorrectable (region : Fin 7) (block cell : Nat) (s : State) : Host.Outcome State Fault Refusal :=
  .next (s.live fun s => (s.fabError 3 0 region.val block cell).itemLost.fenceCell region.val block cell)

/-- MISSING_END_MARK: the cell is fenced; where the packet was for the router, a free value, EQ_MALFORMED_CNT counts it (R101, R367,
log entry 21). -/
def execMissingEndMark (region : Fin 7) (block cell : Nat) (s : State) : Host.Outcome State Fault Refusal :=
  .next (s.live fun s =>
    let s := (s.fabError 5 0 region.val block cell).drawn
    (if s.freeAt 11 % 2 == 1 then s.count Reg.EQ_MALFORMED_CNT else s).fenceCell region.val block cell)

/-- CELL_STALL_TIMEOUT. -/
def execCellStallTimeout (region : Fin 7) (block cell : Nat) (s : State) : Host.Outcome State Fault Refusal :=
  .next (s.live fun s => (s.fabError 4 0 region.val block cell).fenceCell region.val block cell)

/-- BLOCK_STALL_TIMEOUT. -/
def execBlockStallTimeout (region : Fin 7) (block : Nat) (s : State) : Host.Outcome State Fault Refusal :=
  .next (s.live fun s => (s.fabError 4 1 region.val block 0).fenceBlock region.val block)

/-- REGION_STALL_TIMEOUT. -/
def execRegionStallTimeout (region : Fin 7) (s : State) : Host.Outcome State Fault Refusal :=
  .next (s.live fun s => (s.fabError 4 2 region.val 0 0).fenceRegion region.val)

/-- CHIP_STALL_TIMEOUT: the device resets with the fabric as cause. -/
def execChipStallTimeout (s : State) : Host.Outcome State Fault Refusal :=
  .next (s.live (·.enterReset 0xFF08))

end Sys2Proof.Machine
end

