-- ==== Sys2Proof/Machine/HostAccess.lean ====
section
/-! DEFINITION. HostAccess: transactions of any address, results, ABORT and ACK, staging, COMMIT and CONFIG_ERASE (chapter 02). -/

namespace Sys2Proof.Machine

/-! ## What an element reads as (R43, R61) -/

/-- A BLOB value. -/
def blobOf (bs : List Byte) : Val := .bytes bs
/-- A number value. -/
def numOf (n : Nat) : Val := .num n

/-- STAGE_PROBE_VALUE: the transfer encoding of the entry for STAGE_PROBE_ADDR (R56). -/
def State.probeValue (s : State) : List Byte :=
  match s.dict.staging.find? fun e => e.1 == s.nat Reg.STAGE_PROBE_ADDR with
  | some e => encAt e.1 e.2
  | none => []

/-- The slot objects of group 0x93 (R320). -/
def State.showAcct (s : State) (k : Nat) : Val :=
  let a := s.acct (s.nat Reg.ACCT_SEL)
  if k == Reg.ACCT_ID then numOf (a.newId.getD a.id)
  else if k == Reg.ACCT_CREDIT then .num a.credit
  else if k == Reg.ACCT_EC_AMOUNT then .num a.ecAmount
  else if k == Reg.ACCT_EC_OUT then .num a.ecOut
  else if k == Reg.ACCT_STATE then numOf (s.acctState a)
  else if k == Reg.ACCT_LAST_REF then numOf a.lastRef
  else s.get k

/-- Group 0x00 (R1, R3). -/
def State.showPart (s : State) (k : Nat) : Val :=
  if k == Reg.PART_ID then numOf (if s.part.variant = .l then 0x2240004C else 0x2240004E)
  else if k == Reg.STEPPING then numOf s.part.stepping
  else if k == Reg.UNIT_SERIAL then blobOf s.part.serial
  else s.get k

/-- Group 0x04 (R306, R308, R309, R311). -/
def State.showTime (s : State) (k : Nat) : Val :=
  if k == Reg.LTIME_NOW then numOf s.ltime
  else if k == Reg.CTIME_NOW then numOf (ltimeOf s.civil)
  else if k == Reg.ECT_NOW then numOf (ltimeOf s.bill.ect)
  else if k == Reg.ALLOW_NOW then numOf s.allowNow
  else s.get k

/-- The running image's hash of a class, 1 MAIN, 2 LOOP, 3 LEGAL (R296, R359). -/
def State.runHash (s : State) (e : Nat) : List Byte := s.imageHash (areaOf (e - 1) (s.nat (Reg.RUN_SLOT e)))

/-- Group 0x8C (R294, R296). -/
def State.showSeal (s : State) (k : Nat) : Val :=
  if k == Reg.CAL_HASH then blobOf s.calHash
  else if k == Reg.CAL_HOLD_HASH then blobOf s.calHoldHash
  else if k == Reg.LEGAL_FW_HASH then blobOf (s.runHash 3)
  else s.get k

/-- Group 0xA0 (R340, R342, R359): KEY_SEL names the slot shown. -/
def State.showKeys (s : State) (k : Nat) : Val :=
  if k == Reg.KEY_INFO then numOf (s.keyInfo (s.nat Reg.KEY_SEL))
  else if k == Reg.KEY_PUB then blobOf (s.keyPub (s.nat Reg.KEY_SEL))
  else if k == Reg.SLOTS_USED then numOf s.slotsUsed
  else if k == Reg.IMPORT_CERT then blobOf (Config.factoryCert 0)
  else if k == Reg.LEGAL_CERT then blobOf (if s.part.variant = .l then Config.factoryCert 1 else [])
  else s.get k

/-- Group 0xB0 (R371, R373, R384). -/
def State.showQueue (s : State) (k : Nat) : Val :=
  if k == Reg.EQ_STATUS then numOf s.eqStatus
  else if k == Reg.EQ_LEVEL then numOf s.ev.level
  else if k == Reg.EQ_PACKETS then numOf (s.ev.waiting.length + s.ev.filling.length)
  else if k == Reg.EQ_WORDS_LEFT then numOf s.ev.wordsLeft
  else if k == Reg.ARCH_RECORD then blobOf (s.ev.archEntry (s.nat Reg.ARCH_SEL))
  else s.get k

/-- Groups 0xB1 and 0xB2 (R364, R380, R383, R388). -/
def State.showRouting (s : State) (k : Nat) : Val :=
  if k == Reg.EV_CAT_COUNT then numOf Config.catCount.val
  else if k == Reg.EV_CAT_ENTRY then
    numOf (if s.nat Reg.EV_CAT_SEL < Config.catCount.val then Config.catEntry (s.nat Reg.EV_CAT_SEL) else 0)
  else if k == Reg.OUTBOX_LEVEL then numOf s.ev.outbox.length
  else if k == Reg.TRACE_OUTBOX_LEVEL then numOf s.ev.traceBytes
  else s.get k

/-- Group 0xC0 (R420, R422, R424): VON_SEL names the slave shown. -/
def State.showVoner (s : State) (k : Nat) : Val :=
  let x := s.slave (s.nat Reg.VON_SEL)
  match keyO k with
  | 0x21 => blobOf (if x.tx == 1 then x.data else [])
  | 0x22 => numOf x.tx
  | 0x23 => blobOf x.rx
  | 0x24 => numOf x.rxAt
  | 0x25 => numOf x.state
  | 0x26 => if keyE k == 0 then s.get k else numOf (x.cnt.toList.getD (keyE k - 1) 0)
  | 0x30 => numOf s.vonStateOf
  | _ => s.get k

/-- VEV_ENTRY: the event that VEV_SEL names, where it is held (R461). -/
def State.vevEntry (s : State) : List Byte :=
  match s.power.events.find? fun e => e.seq == s.nat Reg.VEV_SEL with
  | some e => e.bytes
  | none => []

/-- Groups 0xE0 and 0xE1; the measured voltages are free values (R446, R468, log entry 2). -/
def State.showSupply (s : State) (k : Nat) : Val :=
  if k == Reg.VEV_ENTRY then blobOf s.vevEntry
  else if k == Reg.VBAT_MV then numOf (s.freeAt 8)
  else if keyG k == 0xE1 && keyO k == 2 && keyE k != 0 then numOf (s.freeAt 7)
  else if k == Reg.SUPPLY_STATUS then numOf (setBit (s.nat k) 7 (!s.vsBad))
  else s.get k

/-- What an element reads as (R43), but for the results of commands and the queue's pops. -/
def State.show (s : State) (k : Nat) : Val :=
  match keyG k with
  | 0x00 => s.showPart k
  | 0x03 => if k == Reg.STAGE_PROBE_VALUE then blobOf s.probeValue else s.get k
  | 0x04 => s.showTime k
  | 0x51 => if k == Reg.ALLOC_HASH then numOf s.allocHash else if k == Reg.ALLOC_HASH_HELD then numOf s.allocHashHeld else s.get k
  | 0x8C => s.showSeal k
  | 0x90 => if k == Reg.NEXT_BOUNDARY then numOf (ltimeOf (s.nextMoment s.bill.ect)) else s.get k
  | 0x93 => s.showAcct k
  | 0x94 => if k == Reg.LOG_RECORD then blobOf s.logRecord else s.get k
  | 0xA0 => s.showKeys k
  | 0xA1 => if keyO k == 4 && keyE k != 0 then blobOf (s.runHash (keyE k)) else s.get k
  | 0xB0 => s.showQueue k
  | 0xB1 => s.showRouting k
  | 0xB2 => s.showRouting k
  | 0xC0 => s.showVoner k
  | 0xE0 => s.showSupply k
  | 0xE1 => s.showSupply k
  | _ => s.get k

/-- Whether a read of an element draws a free value. -/
def drawsFree (k : Nat) : Bool := k == Reg.VBAT_MV || (keyG k == 0xE1 && keyO k == 2 && keyE k != 0)

/-- The code of a result's status (R59). -/
def resCode (st : ResStatus) : Nat :=
  match st with
  | .idle => 0 | .pending => 1 | .completed => 2 | .aborted => 3 | .failed => 4 | .refused => 5

/-- The 16 bytes of a result (R59): IDLE has all other fields zero; a PENDING one shows SEQ and ABORT_REQ alone (R61). -/
def Res.encode (r : Res) : List Byte :=
  match r.status with
  | .idle => zeros 16
  | .pending => leBytes 1 1 ++ leBytes 1 (2 * b2n r.abortReq) ++ zeros 2 ++ leBytes 2 r.seq ++ zeros 10
  | st => leBytes 1 (resCode st) ++ leBytes 1 (b2n r.abortLate + 2 * b2n r.abortReq + 4 * b2n r.part) ++ leBytes 2 r.readCount
    ++ leBytes 2 r.seq ++ leBytes 2 r.detail ++ leBytes 8 r.value

/-- A result after one more read: a final one counts it, up to 0xFFFF (R61). -/
def Res.readOnce (r : Res) : Res :=
  match r.status with
  | .idle | .pending => r
  | _ => { r with readCount := min 0xFFFF (r.readCount + 1) }

/-! ## READ and READ_SEG (R19, R36, R39, R42, R61, R371, R372, R499) -/

/-- The write-only case: zeros of the size of the type (R19, R39). -/
def writeOnly (r : Row) : Bool := r.acc == .wo || r.acc == .cmd

/-- The value a whole READ returns, once existence and access are checked: a BLOB whose encoding is longer than 1,024 bytes is
read with READ_SEG only (R499). -/
def State.readValue (s : State) (src : Src) (r : Row) (k : Nat) : State × Status × List Byte :=
  match cmdOfKey k with
  | some c =>
    if keyE k == 2 then
      let x := (s.res c).readOnce
      (s.setRes c x, .ok, x.encode)
    else (s, .ok, encodeVal r.ty (s.show k))
  | none =>
    if k == Reg.EQ_WORD then s.readWord src
    else if k == Reg.EQ_PACKET then s.readPacket src
    else
      let bs := encodeVal r.ty (s.show k)
      if 1024 < bs.length then (s, .typeError, []) else (if drawsFree k then s.drawn else s, .ok, bs)

/-- READ: existence, access, type (R42). -/
def State.readWhole (s : State) (src : Src) (k : Nat) : State × Status × List Byte :=
  match s.rowFor k with
  | none => (s, .noSuchObject, [])
  | some r =>
    if !s.recoveryOk k then (s, .accessError, [])
    else if writeOnly r then (s, .writeOnly, zeros r.ty.size)
    else s.readValue src r k

/-- READ_SEG: the bytes of a BLOB's encoding from an offset, at most 1,024 (R42, R499). -/
def State.readPart (s : State) (k off : Nat) : Status × List Byte :=
  match s.rowFor k with
  | none => (.noSuchObject, [])
  | some r =>
    if !s.recoveryOk k then (.accessError, [])
    else if writeOnly r then (.writeOnly, zeros r.ty.size)
    else if r.ty != .blob || k == Reg.EQ_PACKET then (.typeError, [])
    else
      let bs := encodeVal r.ty (s.show k)
      if bs.length < off then (.rangeError, []) else (.ok, (bs.drop off).take 1024)

/-! ## COMMIT (R49 to R53, R55) -/

/-- VALUE of a COMMIT (R51): COMMIT_SEQ, and the low 32 bits of the epoch number. -/
def State.commitValue (s : State) : Nat := s.nat Reg.COMMIT_SEQ + s.epochNo % 4294967296 * 4294967296

/-- COMMIT after its CMD write was accepted: an empty staging area completes at once, else it is frozen (R51). -/
def State.commitStart (s : State) : State :=
  if s.dict.staging.isEmpty then (s.putN Reg.COMMIT_STATE 3).completed .commit 0 s.commitValue
  else
    let set := s.dict.staging
    let s := s.setStaging []
    ({ s with dict := { s.dict with commitSet := set, commitErased := false } }).putN Reg.COMMIT_STATE 1

/-- Stage a value, unless a limit of R50 would be passed (R49, R50). -/
def State.stageWrite (s : State) (k : Nat) (v : Val) : State × Status :=
  if stageFits (stagePut s.dict.staging k v) then (s.setStaging (stagePut s.dict.staging k v), .ok) else (s, .stageFull)

/-- Whether a committed entry shapes the periods of a leg (R116, R130). -/
def legEntry (n : Fin 32) (k : Nat) : Bool :=
  keyG k == 0x10 + legG n && keyE k == legE n && 0x01 <= keyO k && keyO k <= 0x0E

/-- The committed values of chapter 05 reach the shadows of the legs they name at one tick (R116). -/
def State.legsCommitted (s : State) (set : List (Nat × Val)) : State :=
  (List.finRange 32).foldl (fun (st : State) (n : Fin 32) =>
    if (set.any fun e => legEntry n e.1) then st.legUpdate n st.pwmNow (.cfg (st.legCfg n)) else st) s

/-- Whether an address is BIND of an engine. -/
def isBind (k : Nat) : Bool := 0x20 <= keyG k && keyG k <= 0x45 && keyO k == 1

/-- The limit tree after a step 4 that carried tree entries, or while one was held: judged by TREE_APPLY_EPOCH as it now stands
(R168). before is the tree that was in use. -/
def State.treeCommitted (s : State) (touched : Bool) (before : List (Nat × Val)) : State :=
  if !(touched || s.site.treeHeld) then s
  else if s.treeAhead then
    ({ s with site := { s.site with treeHeld := true, treeInUse := before } }).putN Reg.TREE_STATE 1
  else ({ s with site := { s.site with treeHeld := false, treeInUse := [] } }).putN Reg.TREE_STATE 0

/-- The tree in use as a list. -/
def State.treeNow (s : State) : List (Nat × Val) :=
  if s.site.treeHeld then s.site.treeInUse else s.objs.filter fun c => treeKeys.contains c.1

/-- Put one committed entry in effect, and into the store unless an erase ordered after the commit and stored since has taken it (R51,
R65). BIND waits while a rebind is under way (R152). -/
def State.commitEntry (s : State) (e : Nat × Val) : State :=
  let s := if s.dict.commitErased && !s.dict.erasing && !isRwl e.1 then s else s.putStore e.1 e.2
  if isBind e.1 && !s.rebinds.isEmpty then { s with bindHeld := stagePut s.bindHeld e.1 e.2 } else s.put e.1 e.2

/-- The billing-boundary entries of a commit set enter the billing hold (R53). -/
def State.holdEntries (s : State) (l : List (Nat × Val)) : State :=
  let hold := l.foldl (fun (a : List (Nat × Val)) (e : Nat × Val) => stagePut a e.1 e.2) s.dict.billHold
  ({ s with dict := { s.dict with billHold := hold } }).putN Reg.BILL_HOLD_COUNT hold.length

/-- What the functions of the other chapters do with the values now in effect (R27, R132, R152, R248, R267, R277, R329, R349, R385,
R399, R415). -/
def State.committed (s : State) (set : List (Nat × Val)) (oldMode oldSlot oldPair : Nat) (oldSrc : List Nat) : State :=
  let s := s.legsCommitted set
  let s := (List.finRange 4).foldl (fun (st : State) (g : Fin 4) => st.syncSrcChanged g (oldSrc.getD g 0)) s
  let s := if s.rebinds.isEmpty && (set.any fun e => isBind e.1) then s.applyBinds else s.refreshEngines
  let s := s.refreshCoolEngines.applyOwners.conflictPennant.wdApply.rolesCommitted
  let s := (List.finRange 4).foldl (fun (st : State) (o : Fin 4) => ((st.refreshSensors o).refreshCool o).isoUnused o) s
  let s := (s.eventsCommitted oldMode).ringKeyCommitted oldSlot
  let s := s.pairCommitted oldPair
  let s := if (set.any fun e => keyG e.1 == 0xC0) then s.vonCommitted else s
  let s := if s.part.variant = .l then s.refreshLog.drainWaiting else s
  if s.role 12 then s.refreshAlloc else s.endIsolation

/-- Step 4 of R51: a held tree that falls due goes first (R183), then every entry is applied. -/
def State.applyCommit (s : State) : State :=
  let s := s.treeBoundary
  let set := s.dict.commitSet
  let now := set.filter fun e => !isHeld e.1
  let later := set.filter fun e => isHeld e.1
  let oldMode := s.nat Reg.EQ_MODE
  let oldSlot := s.nat Reg.RING_KEY_SLOT
  let oldPair := s.nat Reg.PAIR_EN
  let oldSrc := (List.range 4).map fun (g : Nat) => s.nat (Reg.SYNC_SRC g)
  let tree := s.treeNow
  let s := (now.foldl (fun (st : State) e => st.commitEntry e) s).holdEntries later
  let s := s.treeCommitted (now.any fun e => treeKeys.contains e.1) tree
  let s := { s with dict := { s.dict with commitSet := [], journal := [], journalled := false, commitErased := false } }
  let s := s.committed now oldMode oldSlot oldPair oldSrc
  let s := (s.count Reg.COMMIT_SEQ).putN Reg.COMMIT_STATE 3
  s.completed .commit later.length s.commitValue

/-- Whether the set waits for an epoch boundary (R51, step 3): SHARE in ROLE_ACTIVE and a ring up. -/
def State.waitsEpoch (s : State) : Bool := s.role 12 && s.anyRing

/-- The journal holds the whole set (R51, step 2): the store is no longer blank (R65). A set ordered after an erase stays STORING
until the erase is stored. -/
def State.commitStored (s : State) : State :=
  if s.nat Reg.COMMIT_STATE != 1 || (s.dict.erasing && !s.dict.commitErased) then s
  else
    let s := { s with dict := { s.dict with journal := s.dict.commitSet, journalled := true, blank := false } }
    if s.waitsEpoch then s.putN Reg.COMMIT_STATE 2 else s.applyCommit

/-- COMMIT_STORED. -/
def execCommitStored (s : State) : Host.Outcome State Fault Refusal := .next (s.live (·.commitStored))

/-- COMMIT_APPLY: at the boundary that a mark has set, before its allocation; without marks at the node's own (R51, R500). -/
def execCommitApply (s : State) : Host.Outcome State Fault Refusal :=
  .next (s.live fun s => if s.nat Reg.COMMIT_STATE == 2 && (s.ring.due || !s.byMarks) then s.applyCommit else s)

/-! ## STAGE_DISCARD and CONFIG_ERASE (R65, R66) -/

/-- STAGE_DISCARD after its CMD write was accepted (R66). -/
def State.stageDiscard (s : State) : State :=
  let n := s.dict.staging.length
  let s := s.setStaging []
  ({ s with dict := { s.dict with seg := none } }).completed .stageDiscard 0 n

/-- CONFIG_ERASE after its CMD write was accepted: an erase is ordered, after the commit set that is under way (R65). What the store
holds stays until the erase is stored; every later item waits for that. -/
def State.configErase (s : State) : State :=
  if !bit (s.nat Reg.MODE_WORD) 0 then s.refusedWith .configErase 1
  else { s with dict := { s.dict with erasing := true, commitErased := s.committing } }

/-- The element addresses of a row. -/
def Row.addresses (r : Row) : Nat := (r.g1 + 1 - r.g0) * (r.o1 + 1 - r.o0) * (r.e1 + 1 - r.e0)

/-- The first group of each table of rows (R37). -/
def tableGroups : List Nat :=
  [0x00, 0x01, 0x02, 0x03, 0x04, 0x05, 0x10, 0x20, 0x50, 0x51, 0x52, 0x58, 0x59, 0x60, 0x64, 0x70, 0x72, 0x88, 0x8C,
   0x90, 0x91, 0x92, 0x93, 0x94, 0xA0, 0xA1, 0xB0, 0xB1, 0xB2, 0xC0, 0xD0, 0xD1, 0xE0, 0xE1, 0xE2]

/-- The persistent element addresses that an erase returns to their default (R44, R65): PRICE and FRIENDLY of group 0x93 and
LOG_RESERVE of group 0x94 are among them (log entry 64). -/
def State.erasable (s : State) : Nat :=
  (tableGroups.flatMap fun g => if s.part.variant = .n && absentOnN g then [] else rowsOf g).foldl (fun (a : Nat) (r : Row) =>
    if (r.eff == .commit || r.acc == .rwa) && r.acc != .rwl then a + r.addresses else a) 0

/-- The erase is stored by the journal, once a commit set ordered before it has been: the store holds RWL objects alone, and it is
blank (R51, R65, R87). A set that was stored and waits for its boundary is erased with it. -/
def State.configEraseStored (s : State) : State :=
  if !s.dict.erasing || (s.nat Reg.COMMIT_STATE == 1 && s.dict.commitErased) then s
  else
    let keep (l : List (Nat × Val)) : List (Nat × Val) := l.filter fun e => isRwl e.1
    ({ s with dict := { s.dict with
      store := keep s.dict.store, journal := keep s.dict.journal, blank := true, erasing := false } }).completed
        .configErase 0 (min 0xFFFF s.erasable)

/-- CONFIG_ERASE_STORED. -/
def execConfigEraseStored (s : State) : Host.Outcome State Fault Refusal := .next (s.live (·.configEraseStored))

/-! ## CMD and CTRL writes (R60 to R62) -/

/-- The operation of a command starts (R60, R64). -/
def State.startOf (s : State) (src : Src) (c : CmdId) (arg : Nat) : State :=
  let s := s.startCmd c arg
  match c with
  | .sessionStop => s.sessionStop arg
  | .slotSwitch => s.slotSwitch arg
  | .bist => s.bist arg
  | .calCapture => s.calCapture arg
  | .rehearsal => s.rehearsal
  | .engineRebind => s.engineRebind arg
  | .keyDestroy => s.keyDestroy arg
  | .accountTopup => s.accountTopup arg
  | .queueFlush => s.queueFlush src arg
  | .civilTimeSet => s.civilTimeSet
  | .configErase => s.configErase
  | .commit => s.commitStart
  | .stageDiscard => s.stageDiscard

/-- An ABORT of a capture: the channel stops summing, with no effects (R295). -/
def State.abortCapture (s : State) : State :=
  let c : Fin 4 := Fin.ofNat 4 (s.res .calCapture).arg
  (s.setMeter c { s.meter c with capture := none }).endCmd .calCapture .aborted 0 0

/-- ABORT of a PENDING command at its ordering point (R62, R64): accepted where the operation is abortable now. -/
def State.abortPending (s : State) (c : CmdId) : State × Status :=
  match c with
  | .slotSwitch => if s.upd.live != 0 && !s.inBlackout then (s.abortSwitch, .ok) else (s, .accessError)
  | .bist => (s.abortBist, .ok)
  | .calCapture => (s.abortCapture, .ok)
  | .rehearsal => if s.pair.phase == 1 then (s.abortRehearsal, .ok) else (s, .accessError)
  | _ => (s, .accessError)

/-- ABORT (R62). -/
def State.abortCmd (s : State) (c : CmdId) : State × Status :=
  match (s.res c).status with
  | .pending => s.abortPending c
  | .completed => (s.setRes c { s.res c with abortLate := true }, .ok)
  | _ => (s, .ok)

/-- ACK (R61): a final result goes to IDLE; its number stays for the next command. -/
def State.ackCmd (s : State) (c : CmdId) : State × Status :=
  match (s.res c).status with
  | .pending => (s, .busy)
  | .idle => (s, .ok)
  | _ => (s.setRes c { Res.reset with seq := (s.res c).seq }, .ok)

/-- A write of an element of a command. -/
def State.writeCommand (s : State) (src : Src) (c : CmdId) (e n : Nat) : State × Status :=
  if e == 1 then (s.startOf src c n, .ok) else if n == 1 then s.abortCmd c else s.ackCmd c

/-! ## WRITE and WRITE_SEG (R42, R49, R499) -/

/-- A write in groups 0x10 to 0x13 (R32, R117, R121, R128, R131). -/
def State.writePhase (s : State) (k n : Nat) (v : Val) : State :=
  let g : Fin 4 := Fin.ofNat 4 (keyG k)
  match keyO k with
  | 0x0F => s.overrideEffect (legOf g (Fin.ofNat 8 (keyE k + 7))) n s.pwmNow
  | 0x12 => s.armHoldEffect g n s.pwmNow
  | 0x13 => s.armReleaseEffect g n s.pwmNow
  | 0x15 => s.faultClearEffect g n
  | 0x2B => s.countClearEffect g n
  | 0x31 => s.routeSelectEffect g n
  | _ => s.put k v

/-- A write in groups 0x60 to 0x63 (R228, R230, R243). -/
def State.writeOutlet (s : State) (k n : Nat) (v : Val) : State :=
  let o : Fin 4 := Fin.ofNat 4 (keyG k)
  match keyO k with
  | 0x18 => s.authEffect o n
  | 0x36 => s.certResEffect o v.blob
  | 0x53 => s.outFaultClearEffect o n
  | _ => s.put k v

/-- A write in groups 0x72 to 0x81 (R267, R269). -/
def State.writeChannel (s : State) (k n : Nat) (v : Val) : State :=
  let c : Fin 16 := Fin.ofNat 16 (keyG k - 0x72)
  match keyO k with
  | 5 => s.lsOnEffect c n
  | 6 => s.lsClearEffect c n
  | _ => s.put k v

/-- A write in groups 0x91 to 0x94 (R318, R320, R322, R328). -/
def State.writeBilling (s : State) (k n : Nat) (v : Val) : State :=
  if k == Reg.DMD_RESET then s.dmdResetEffect n
  else if k == Reg.ACCT_ID then s.acctIdEffect n
  else if k == Reg.ACCT_EC_AMOUNT then
    s.setAcct (s.nat Reg.ACCT_SEL) { s.acct (s.nat Reg.ACCT_SEL) with ecAmount := v.int }
  else if k == Reg.LOG_ACK_SEQ then s.logAckEffect n
  else s.put k v

/-- A write in the other groups that only has an effect, or stores a value. -/
def State.writePlain (s : State) (k n : Nat) (v : Val) : State :=
  if k == Reg.MODE_WORD then s.modeWordEffect n
  else if k == Reg.ENSIGN_LAT_CLEAR then s.latClearEffect n
  else if k == Reg.BYP_FORCE then (if n == 1 then s.bypReleaseEffect else s.bypHoldEffect)
  else if k == Reg.ROSTER_EVICT then s.rosterEvictEffect n
  else if k == Reg.SVN_ADVANCE then s.svnAdvanceEffect n
  else if k == Reg.EQ_CLEAR then s.eqClear n
  else if k == Reg.VON_TX_BOX then s.vonBoxEffect v.blob
  else if k == Reg.SLOT_CONFIRM then s.slotConfirmEffect n
  else if k == Reg.UPD_CONTROL then s.updControlEffect n
  else if k == Reg.VEV_ACK then s.vevAckEffect n
  else if k == Reg.RESET_REQUEST then s.resetRequestEffect
  else if k == Reg.WD_RELEASE then s.wdRelease n
  else s.put k v

/-- The effect of an accepted write that is not staged (R49). -/
def State.writeNow (s : State) (k : Nat) (v : Val) : State × Status :=
  let n := v.int.toNat
  let g := keyG k
  if k == Reg.KEY_CREATE then s.keyCreateBytes v.blob
  else if k == Reg.CSR_SUBJECT then s.csrSubject v.blob
  else if k == Reg.UPD_CHUNK then s.updChunk v.blob
  else if 0x10 <= g && g <= 0x13 then (s.writePhase k n v, .ok)
  else if 0x60 <= g && g <= 0x63 then (s.writeOutlet k n v, .ok)
  else if 0x72 <= g && g <= 0x81 then (s.writeChannel k n v, .ok)
  else if 0x91 <= g && g <= 0x94 then (s.writeBilling k n v, .ok)
  else (s.writePlain k n v, .ok)

/-- The effect of a write that has passed its checks. -/
def State.writeEffect (s : State) (src : Src) (r : Row) (k : Nat) (v : Val) : State × Status :=
  match cmdOfKey k with
  | some c => s.writeCommand src c (keyE k) v.int.toNat
  | none => if r.eff == .commit then s.stageWrite k v else s.writeNow k v

/-- WRITE (R42). -/
def State.writeWhole (s : State) (src : Src) (k : Nat) (data : List Byte) : State × Status :=
  match s.rowFor k, s.writeCheck src k data with
  | some r, .ok v => s.writeEffect src r k v
  | _, .error e => (s, e)
  | none, .ok _ => (s, .noSuchObject)

/-- Set the segment buffer. -/
def State.setSeg (s : State) (b : Option SegBuf) : State := { s with dict := { s.dict with seg := b } }

/-- The greatest n of a BLOB object (its Range column; a coefficient set has 272). -/
def blobMax (r : Row) : Nat := match r.rng with | .blob _ hi => hi | _ => 272

/-- A segment that leaves a declared length and the bytes held: discarded where it runs over, the end of the write where it fills,
kept where it does not (R499). -/
def State.segAdd (s : State) (src : Src) (r : Row) (k declared : Nat) (held : List Byte) : State × Status :=
  if declared < held.length then (s.setSeg none, .rangeError)
  else if held.length < declared then (s.setSeg (some ⟨k, declared, held⟩), .ok)
  else
    let s := s.setSeg none
    if s.rangeOk r k (decodeVal .blob held) then s.writeEffect src r k (decodeVal .blob held) else (s, .rangeError)

/-- The first segment (R499). -/
def State.segFirst (s : State) (src : Src) (r : Row) (k : Nat) (data : List Byte) : State × Status :=
  if data.length < 2 || blobMax r < leAt data 0 2 then (s.setSeg none, .rangeError)
  else s.segAdd src r k (2 + leAt data 0 2) data

/-- A further segment: the same object, at the number of bytes held (R499). -/
def State.segNext (s : State) (src : Src) (r : Row) (k off : Nat) (data : List Byte) : State × Status :=
  match s.dict.seg with
  | some b => if b.key == k && b.held.length == off then s.segAdd src r k b.declared (b.held ++ data) else (s.setSeg none, .rangeError)
  | none => (s, .rangeError)

/-- A WRITE_SEG to a different BLOB discards what the segment buffer holds, and one with OFFSET 0 to the same BLOB does, whatever its
answer is (R499). -/
def State.segDrop (s : State) (k off : Nat) : State :=
  match s.dict.seg, s.rowFor k with
  | some b, some r => if r.ty == .blob && (b.key != k || off == 0) then s.setSeg none else s
  | _, _ => s

/-- WRITE_SEG: existence, authority, access and type, then the segment (R42, R499). -/
def State.writePart (s : State) (src : Src) (k off : Nat) (data : List Byte) : State × Status :=
  let s := s.segDrop k off
  match s.writeGate src k with
  | .error e => (s, e)
  | .ok r =>
    if r.ty != .blob then (s, .typeError)
    else if off == 0 then s.segFirst src r k data
    else s.segNext src r k off data

/-! ## Transactions (R38, R39, R42) -/

/-- The address of a request. -/
def reqKey (rq : Request) : Nat := key (rq.group % 256) (rq.object % 256) (rq.element % 256)

/-- The framing checks of R42. -/
def framingOk (rq : Request) : Bool :=
  1 <= rq.opcode && rq.opcode <= 4 && rq.length <= 1024 && rq.length == rq.data.length &&
  !((rq.opcode == 1 || rq.opcode == 3) && rq.length != 0) && !((rq.opcode == 1 || rq.opcode == 2) && rq.offset != 0)

/-- A framed transaction is carried out: the state, the status and the data of its answer. -/
def State.carryOut (s : State) (src : Src) (rq : Request) : State × Status × List Byte :=
  if !framingOk rq then (s, .typeError, [])
  else if rq.opcode == 1 then s.readWhole src (reqKey rq)
  else if rq.opcode == 2 then ((s.writeWhole src (reqKey rq) rq.data).1, (s.writeWhole src (reqKey rq) rq.data).2, [])
  else if rq.opcode == 3 then (s, s.readPart (reqKey rq) rq.offset)
  else ((s.writePart src (reqKey rq) rq.offset rq.data).1, (s.writePart src (reqKey rq) rq.offset rq.data).2, [])

/-- One transaction at the ordering point (R41, R42): carried out and answered. -/
def State.transact (s : State) (src : Src) (rq : Request) : State :=
  if !s.answersTo src then s
  else (s.carryOut src rq).1.answer src rq.opcode rq.tag (s.carryOut src rq).2.1 (s.carryOut src rq).2.2

/-- WRITE: a transaction of any address. -/
def execWrite (src : Src) (rq : Request) (s : State) : Host.Outcome State Fault Refusal := .next (s.transact src rq)

/-- WRITE_SEG. -/
def execWriteSeg (src : Src) (rq : Request) (s : State) : Host.Outcome State Fault Refusal :=
  .next (s.transact src { rq with opcode := 4 })

/-- READ_SEG. -/
def execReadSeg (src : Src) (rq : Request) (s : State) : Host.Outcome State Fault Refusal :=
  .next (s.transact src { rq with opcode := 3 })

/-- The READ of one address (R38). -/
def readOf (tag k : Nat) : Request := ⟨1, tag, keyG k, keyO k, keyE k, 0, 0, 0, []⟩
/-- The WRITE of one address (R38). -/
def writeOf (tag k : Nat) (data : List Byte) : Request := ⟨2, tag, keyG k, keyO k, keyE k, 0, data.length, 0, data⟩

/-- RES_READ. -/
def execResRead (h : Hdr) (cmd : CmdId) (s : State) : Host.Outcome State Fault Refusal :=
  .next (s.transact h.src (readOf h.tag (cmdBase cmd + 2)))

/-- CMD_READ. -/
def execCmdRead (h : Hdr) (cmd : CmdId) (s : State) : Host.Outcome State Fault Refusal :=
  .next (s.transact h.src (readOf h.tag (cmdBase cmd + 1)))

/-- ABORT. -/
def execAbort (h : Hdr) (cmd : CmdId) (s : State) : Host.Outcome State Fault Refusal :=
  .next (s.transact h.src (writeOf h.tag (cmdBase cmd + 3) [1]))

/-- ACK. -/
def execAck (h : Hdr) (cmd : CmdId) (s : State) : Host.Outcome State Fault Refusal :=
  .next (s.transact h.src (writeOf h.tag (cmdBase cmd + 3) [2]))

/-- COMMIT. -/
def execCommit (h : Hdr) (arg : Nat) (s : State) : Host.Outcome State Fault Refusal :=
  .next (s.transact h.src (writeOf h.tag (cmdBase .commit + 1) (dataOf 4 arg)))

/-- STAGE_DISCARD. -/
def execStageDiscard (h : Hdr) (arg : Nat) (s : State) : Host.Outcome State Fault Refusal :=
  .next (s.transact h.src (writeOf h.tag (cmdBase .stageDiscard + 1) (dataOf 4 arg)))

/-- CONFIG_ERASE. -/
def execConfigErase (h : Hdr) (arg : Nat) (s : State) : Host.Outcome State Fault Refusal :=
  .next (s.transact h.src (writeOf h.tag (cmdBase .configErase + 1) (dataOf 4 arg)))

end Sys2Proof.Machine
end

