-- ==== Sys2Proof/Machine/Dispatch.lean ====
section
/-! DEFINITION. Dispatch: each command to its meaning, one arm per constructor. -/

namespace Sys2Proof.Machine

def exec (i : Instr) (s : State) : Host.Outcome State Fault Refusal :=
  match i with
  | .write src rq => Sys2Proof.Machine.execWrite src rq s
  | .writeSeg src rq => Sys2Proof.Machine.execWriteSeg src rq s
  | .readSeg src rq => Sys2Proof.Machine.execReadSeg src rq s
  | .resRead h cmd => Sys2Proof.Machine.execResRead h cmd s
  | .cmdRead h cmd => Sys2Proof.Machine.execCmdRead h cmd s
  | .abort h cmd => Sys2Proof.Machine.execAbort h cmd s
  | .ack h cmd => Sys2Proof.Machine.execAck h cmd s
  | .commit h arg => Sys2Proof.Machine.execCommit h arg s
  | .commitStored => Sys2Proof.Machine.execCommitStored s
  | .commitApply => Sys2Proof.Machine.execCommitApply s
  | .stageDiscard h arg => Sys2Proof.Machine.execStageDiscard h arg s
  | .configErase h arg => Sys2Proof.Machine.execConfigErase h arg s
  | .configEraseStored => Sys2Proof.Machine.execConfigEraseStored s
  | .sessionStop h arg => Sys2Proof.Machine.execSessionStop h arg s
  | .slotSwitch h arg => Sys2Proof.Machine.execSlotSwitch h arg s
  | .slotSwitchQuietBoundary => Sys2Proof.Machine.execSlotSwitchQuietBoundary s
  | .slotSwitchWaitExpired => Sys2Proof.Machine.execSlotSwitchWaitExpired s
  | .blackoutEnd c us => Sys2Proof.Machine.execBlackoutEnd c us s
  | .bist h arg => Sys2Proof.Machine.execBist h arg s
  | .bistDone misr children => Sys2Proof.Machine.execBistDone misr children s
  | .bistDeferredReset => Sys2Proof.Machine.execBistDeferredReset s
  | .bistWindDownEnd begun => Sys2Proof.Machine.execBistWindDownEnd begun s
  | .calCapture h arg => Sys2Proof.Machine.execCalCapture h arg s
  | .calCaptureDone => Sys2Proof.Machine.execCalCaptureDone s
  | .rehearsal h arg => Sys2Proof.Machine.execRehearsal h arg s
  | .rehearsalSwap => Sys2Proof.Machine.execRehearsalSwap s
  | .rehearsalWaitExpired => Sys2Proof.Machine.execRehearsalWaitExpired s
  | .rehearsalTakeTimeout => Sys2Proof.Machine.execRehearsalTakeTimeout s
  | .engineRebind h arg => Sys2Proof.Machine.execEngineRebind h arg s
  | .rebindSwitch newE => Sys2Proof.Machine.execRebindSwitch newE s
  | .rebindRecorded newE => Sys2Proof.Machine.execRebindRecorded newE s
  | .keyGenerate h slot rsv word => Sys2Proof.Machine.execKeyGenerate h slot rsv word s
  | .keyDerive h slot rsv word rest => Sys2Proof.Machine.execKeyDerive h slot rsv word rest s
  | .keyImport h slot rsv word rest => Sys2Proof.Machine.execKeyImport h slot rsv word rest s
  | .keyDestroy h arg => Sys2Proof.Machine.execKeyDestroy h arg s
  | .keySlotErased slot => Sys2Proof.Machine.execKeySlotErased slot s
  | .csrSubjectWrite h data => Sys2Proof.Machine.execCsrSubjectWrite h data s
  | .remaskPass late => Sys2Proof.Machine.execRemaskPass late s
  | .entropyFail => Sys2Proof.Machine.execEntropyFail s
  | .entropyRecover => Sys2Proof.Machine.execEntropyRecover s
  | .keyRequest slot engine use => Sys2Proof.Machine.execKeyRequest slot engine use s
  | .svnAdvance h v => Sys2Proof.Machine.execSvnAdvance h v s
  | .accountTopup h arg => Sys2Proof.Machine.execAccountTopup h arg s
  | .civilTimeSet h arg => Sys2Proof.Machine.execCivilTimeSet h arg s
  | .dropRest h arg => Sys2Proof.Machine.execDropRest h arg s
  | .flush h arg => Sys2Proof.Machine.execFlush h arg s
  | .flushAtBoundary => Sys2Proof.Machine.execFlushAtBoundary s
  | .modeWordWrite h v => Sys2Proof.Machine.execModeWordWrite h v s
  | .vaultEntry step => Sys2Proof.Machine.execVaultEntry step s
  | .groupPark g => Sys2Proof.Machine.execGroupPark g s
  | .outletContactorDelayEnd o => Sys2Proof.Machine.execOutletContactorDelayEnd o s
  | .classArrive c => Sys2Proof.Machine.execClassArrive c s
  | .forcedStop => Sys2Proof.Machine.execForcedStop s
  | .engineRestoreDone c => Sys2Proof.Machine.execEngineRestoreDone c s
  | .limpEnChange asserted => Sys2Proof.Machine.execLimpEnChange asserted s
  | .paceMeasure chains => Sys2Proof.Machine.execPaceMeasure chains s
  | .ensignLatClear h v => Sys2Proof.Machine.execEnsignLatClear h v s
  | .refclkLost => Sys2Proof.Machine.execRefclkLost s
  | .pllUnlock => Sys2Proof.Machine.execPllUnlock s
  | .pllRelock => Sys2Proof.Machine.execPllRelock s
  | .laneClockLost island => Sys2Proof.Machine.execLaneClockLost island s
  | .parityError region level block cell second => Sys2Proof.Machine.execParityError region level block cell second s
  | .ensignSingleBitError region level block cell => Sys2Proof.Machine.execEnsignSingleBitError region level block cell s
  | .ensignUncorrectable region block cell => Sys2Proof.Machine.execEnsignUncorrectable region block cell s
  | .missingEndMark region block cell => Sys2Proof.Machine.execMissingEndMark region block cell s
  | .cellStallTimeout region block cell => Sys2Proof.Machine.execCellStallTimeout region block cell s
  | .blockStallTimeout region block => Sys2Proof.Machine.execBlockStallTimeout region block s
  | .regionStallTimeout region => Sys2Proof.Machine.execRegionStallTimeout region s
  | .chipStallTimeout => Sys2Proof.Machine.execChipStallTimeout s
  | .periodBoundary leg => Sys2Proof.Machine.execPeriodBoundary leg s
  | .virtualBoundary leg => Sys2Proof.Machine.execVirtualBoundary leg s
  | .timeActiveEnd leg => Sys2Proof.Machine.execTimeActiveEnd leg s
  | .endOff leg t => Sys2Proof.Machine.execEndOff leg t s
  | .endOn leg t => Sys2Proof.Machine.execEndOn leg t s
  | .onMaxHit leg => Sys2Proof.Machine.execOnMaxHit leg s
  | .swnRegistered leg level t => Sys2Proof.Machine.execSwnRegistered leg level t s
  | .dtMaxExpiry leg => Sys2Proof.Machine.execDtMaxExpiry leg s
  | .syncSlot leg => Sys2Proof.Machine.execSyncSlot leg s
  | .syncInPulse g t widthNs => Sys2Proof.Machine.execSyncInPulse g t widthNs s
  | .syncLost g => Sys2Proof.Machine.execSyncLost g s
  | .overrideWrite h leg v t => Sys2Proof.Machine.execOverrideWrite h leg v t s
  | .armHoldWrite h g mask t => Sys2Proof.Machine.execArmHoldWrite h g mask t s
  | .armRelease h g mask t => Sys2Proof.Machine.execArmRelease h g mask t s
  | .fltNAssert leg low widthNs => Sys2Proof.Machine.execFltNAssert leg low widthNs s
  | .faultClear h g mask => Sys2Proof.Machine.execFaultClear h g mask s
  | .countClear h g mask => Sys2Proof.Machine.execCountClear h g mask s
  | .cmdSilenceTimeout leg => Sys2Proof.Machine.execCmdSilenceTimeout leg s
  | .loopSample e t vin vout pin => Sys2Proof.Machine.execLoopSample e t vin vout pin s
  | .edgeSample leg t count => Sys2Proof.Machine.execEdgeSample leg t count s
  | .setpointDelivery g t => Sys2Proof.Machine.execSetpointDelivery g t s
  | .setpFault g => Sys2Proof.Machine.execSetpFault g s
  | .setpFaultClear g => Sys2Proof.Machine.execSetpFaultClear g s
  | .ntcSample leg ohms => Sys2Proof.Machine.execNtcSample leg ohms s
  | .sensorValidReturn leg => Sys2Proof.Machine.execSensorValidReturn leg s
  | .shedDecision g => Sys2Proof.Machine.execShedDecision g s
  | .shedWindowClose g => Sys2Proof.Machine.execShedWindowClose g s
  | .claimUpdate o => Sys2Proof.Machine.execClaimUpdate o s
  | .epochMark ring m => Sys2Proof.Machine.execEpochMark ring m s
  | .epochBoundary => Sys2Proof.Machine.execEpochBoundary s
  | .localEpochBoundary => Sys2Proof.Machine.execLocalEpochBoundary s
  | .claimBlockInsert => Sys2Proof.Machine.execClaimBlockInsert s
  | .waveBlockReceive src payload => Sys2Proof.Machine.execWaveBlockReceive src payload s
  | .closeMark ring hops epoch ns => Sys2Proof.Machine.execCloseMark ring hops epoch ns s
  | .waveFreeze => Sys2Proof.Machine.execWaveFreeze s
  | .allocCalcDone ns => Sys2Proof.Machine.execAllocCalcDone ns s
  | .ringIsolated => Sys2Proof.Machine.execRingIsolated s
  | .markLaunch cold => Sys2Proof.Machine.execMarkLaunch cold s
  | .hoistSuccession => Sys2Proof.Machine.execHoistSuccession s
  | .slotReceive ring delim chars ns => Sys2Proof.Machine.execSlotReceive ring delim chars ns s
  | .ownEnsignRelease ring => Sys2Proof.Machine.execOwnEnsignRelease ring s
  | .portStop src port epoch => Sys2Proof.Machine.execPortStop src port epoch s
  | .groupLoss src port lost => Sys2Proof.Machine.execGroupLoss src port lost s
  | .groupLossSend g legs => Sys2Proof.Machine.execGroupLossSend g legs s
  | .dictRequestFrame f => Sys2Proof.Machine.execDictRequestFrame f s
  | .dictResponseFrame node => Sys2Proof.Machine.execDictResponseFrame node s
  | .pennantRecordsFrame f => Sys2Proof.Machine.execPennantRecordsFrame f s
  | .streamerRecordsFrame f => Sys2Proof.Machine.execStreamerRecordsFrame f s
  | .firmwareDataFrame f => Sys2Proof.Machine.execFirmwareDataFrame f s
  | .join f => Sys2Proof.Machine.execJoin f s
  | .joinSend => Sys2Proof.Machine.execJoinSend s
  | .joinRetry => Sys2Proof.Machine.execJoinRetry s
  | .leave f => Sys2Proof.Machine.execLeave f s
  | .leaveSend => Sys2Proof.Machine.execLeaveSend s
  | .roster f => Sys2Proof.Machine.execRoster f s
  | .neighbourChange f => Sys2Proof.Machine.execNeighbourChange f s
  | .evict f => Sys2Proof.Machine.execEvict f s
  | .rosterEvict h v => Sys2Proof.Machine.execRosterEvict h v s
  | .wrap ring => Sys2Proof.Machine.execWrap ring s
  | .unwrap ring => Sys2Proof.Machine.execUnwrap ring s
  | .bypForceRelease h => Sys2Proof.Machine.execBypForceRelease h s
  | .bypForceHold h => Sys2Proof.Machine.execBypForceHold h s
  | .bypHoldDrive => Sys2Proof.Machine.execBypHoldDrive s
  | .pairLaneUp lane => Sys2Proof.Machine.execPairLaneUp lane s
  | .pairLaneDown lane => Sys2Proof.Machine.execPairLaneDown lane s
  | .pilotStateChange o level => Sys2Proof.Machine.execPilotStateChange o level s
  | .ppChange o mv => Sys2Proof.Machine.execPpChange o mv s
  | .slacMatch o atten => Sys2Proof.Machine.execSlacMatch o atten s
  | .slacFail o => Sys2Proof.Machine.execSlacFail o s
  | .sdpRequest o => Sys2Proof.Machine.execSdpRequest o s
  | .tlsHandshake o hello => Sys2Proof.Machine.execTlsHandshake o hello s
  | .appProtocolHandshake o entries => Sys2Proof.Machine.execAppProtocolHandshake o entries s
  | .sessionSetup o evcc => Sys2Proof.Machine.execSessionSetup o evcc s
  | .serviceDiscovery o => Sys2Proof.Machine.execServiceDiscovery o s
  | .serviceSelection o bpt => Sys2Proof.Machine.execServiceSelection o bpt s
  | .authorization o emaid chain => Sys2Proof.Machine.execAuthorization o emaid chain s
  | .authWrite h o v => Sys2Proof.Machine.execAuthWrite h o v s
  | .authTimeout o => Sys2Proof.Machine.execAuthTimeout o s
  | .chargeParameterDiscovery o maxV => Sys2Proof.Machine.execChargeParameterDiscovery o maxV s
  | .scheduleExchange o => Sys2Proof.Machine.execScheduleExchange o s
  | .cableCheckRequest o => Sys2Proof.Machine.execCableCheckRequest o s
  | .cableCheckJudged o imdOk duty => Sys2Proof.Machine.execCableCheckJudged o imdOk duty s
  | .chkTimeout o => Sys2Proof.Machine.execChkTimeout o s
  | .preCharge o target => Sys2Proof.Machine.execPreCharge o target s
  | .pchTimeout o => Sys2Proof.Machine.execPchTimeout o s
  | .powerDelivery o start => Sys2Proof.Machine.execPowerDelivery o start s
  | .chargeLoopRequest o error cur v p di dp => Sys2Proof.Machine.execChargeLoopRequest o error cur v p di dp s
  | .weldingDetection o => Sys2Proof.Machine.execWeldingDetection o s
  | .sessionStopReq o => Sys2Proof.Machine.execSessionStopReq o s
  | .meteringReceipt o body => Sys2Proof.Machine.execMeteringReceipt o body s
  | .certificateRequest o body => Sys2Proof.Machine.execCertificateRequest o body s
  | .certResWrite h o data => Sys2Proof.Machine.execCertResWrite h o data s
  | .certResTimeout o => Sys2Proof.Machine.execCertResTimeout o s
  | .unknownMessage o => Sys2Proof.Machine.execUnknownMessage o s
  | .feedingGroupsParked o => Sys2Proof.Machine.execFeedingGroupsParked o s
  | .estopOpenExpiry o => Sys2Proof.Machine.execEstopOpenExpiry o s
  | .contactorFeedback o neg high => Sys2Proof.Machine.execContactorFeedback o neg high s
  | .ctrTimeout o neg => Sys2Proof.Machine.execCtrTimeout o neg s
  | .imdFault o => Sys2Proof.Machine.execImdFault o s
  | .outletFaultClear h o v => Sys2Proof.Machine.execOutletFaultClear h o v s
  | .coolingStep o ohms pulses us ns => Sys2Proof.Machine.execCoolingStep o ohms pulses us ns s
  | .flowLost o => Sys2Proof.Machine.execFlowLost o s
  | .inputValidReturn o input => Sys2Proof.Machine.execInputValidReturn o input s
  | .coolLoopSilent o => Sys2Proof.Machine.execCoolLoopSilent o s
  | .lsOnWrite h ch v => Sys2Proof.Machine.execLsOnWrite h ch v s
  | .lsClear h ch v => Sys2Proof.Machine.execLsClear h ch v s
  | .shortTrip ch => Sys2Proof.Machine.execShortTrip ch s
  | .overloadTrip ch => Sys2Proof.Machine.execOverloadTrip ch s
  | .thermalTrip ch => Sys2Proof.Machine.execThermalTrip ch s
  | .inrushWindowEnd ch short => Sys2Proof.Machine.execInrushWindowEnd ch short s
  | .lsRetry ch => Sys2Proof.Machine.execLsRetry ch s
  | .curtailEnd ch => Sys2Proof.Machine.execCurtailEnd ch s
  | .retriesReload ch => Sys2Proof.Machine.execRetriesReload ch s
  | .vsLsOutOfRange high => Sys2Proof.Machine.execVsLsOutOfRange high s
  | .vsLsRestored => Sys2Proof.Machine.execVsLsRestored s
  | .pkgCurrentCheck vsLs currents => Sys2Proof.Machine.execPkgCurrentCheck vsLs currents s
  | .openLoad ch below => Sys2Proof.Machine.execOpenLoad ch below s
  | .channelThermalWarning ch rising t => Sys2Proof.Machine.execChannelThermalWarning ch rising t s
  | .failsafeTrigger silent => Sys2Proof.Machine.execFailsafeTrigger silent s
  | .fsWaitEnd ch => Sys2Proof.Machine.execFsWaitEnd ch s
  | .heartbeatWord framed seq chk sinceMs => Sys2Proof.Machine.execHeartbeatWord framed seq chk sinceMs s
  | .hbMaxExpiry => Sys2Proof.Machine.execHbMaxExpiry s
  | .wdRelease h v => Sys2Proof.Machine.execWdRelease h v s
  | .limpInChange pin level held10ms => Sys2Proof.Machine.execLimpInChange pin level held10ms s
  | .metrologySample c v cur => Sys2Proof.Machine.execMetrologySample c v cur s
  | .metrologyPublish => Sys2Proof.Machine.execMetrologyPublish s
  | .mscrClockLost e => Sys2Proof.Machine.execMscrClockLost e s
  | .mscrClockReturn e => Sys2Proof.Machine.execMscrClockReturn e s
  | .streamStuck c cur => Sys2Proof.Machine.execStreamStuck c cur s
  | .demandBudgetDelivery e => Sys2Proof.Machine.execDemandBudgetDelivery e s
  | .sealLoopSample ohms => Sys2Proof.Machine.execSealLoopSample ohms s
  | .legalRecordWritten => Sys2Proof.Machine.execLegalRecordWritten s
  | .meterEngineFenced e => Sys2Proof.Machine.execMeterEngineFenced e s
  | .billingBoundary t => Sys2Proof.Machine.execBillingBoundary t s
  | .registerCommit => Sys2Proof.Machine.execRegisterCommit s
  | .friendlyHoursChange => Sys2Proof.Machine.execFriendlyHoursChange s
  | .acctIdWrite h v => Sys2Proof.Machine.execAcctIdWrite h v s
  | .dmdReset h v => Sys2Proof.Machine.execDmdReset h v s
  | .logAckSeqWrite h v => Sys2Proof.Machine.execLogAckSeqWrite h v s
  | .pennantRaise source event prio detailKind before extra => Sys2Proof.Machine.execPennantRaise source event prio detailKind before extra s
  | .traceRaise kind inst message length => Sys2Proof.Machine.execTraceRaise kind inst message length s
  | .eqWordRead h => Sys2Proof.Machine.execEqWordRead h s
  | .eqPacketRead h => Sys2Proof.Machine.execEqPacketRead h s
  | .eqClear h v => Sys2Proof.Machine.execEqClear h v s
  | .queuePacketWhole => Sys2Proof.Machine.execQueuePacketWhole s
  | .coalWindowEnd source event => Sys2Proof.Machine.execCoalWindowEnd source event s
  | .gapDue => Sys2Proof.Machine.execGapDue s
  | .ringTokenGain => Sys2Proof.Machine.execRingTokenGain s
  | .ringOutboxSend waitedMs => Sys2Proof.Machine.execRingOutboxSend waitedMs s
  | .traceOutboxSend => Sys2Proof.Machine.execTraceOutboxSend s
  | .renewSend => Sys2Proof.Machine.execRenewSend s
  | .standbySend => Sys2Proof.Machine.execStandbySend s
  | .leaseLapse => Sys2Proof.Machine.execLeaseLapse s
  | .renew t us => Sys2Proof.Machine.execRenew t us s
  | .release t => Sys2Proof.Machine.execRelease t s
  | .claim t => Sys2Proof.Machine.execClaim t s
  | .standby t => Sys2Proof.Machine.execStandby t s
  | .takeover gap => Sys2Proof.Machine.execTakeover gap s
  | .claimSend => Sys2Proof.Machine.execClaimSend s
  | .driverConflict => Sys2Proof.Machine.execDriverConflict s
  | .splitDetect => Sys2Proof.Machine.execSplitDetect s
  | .mirrorItem item => Sys2Proof.Machine.execMirrorItem item s
  | .vonMasterSlot => Sys2Proof.Machine.execVonMasterSlot s
  | .vonReplyJudged paths word => Sys2Proof.Machine.execVonReplyJudged paths word s
  | .vonTxBoxWrite h data => Sys2Proof.Machine.execVonTxBoxWrite h data s
  | .updOpen h => Sys2Proof.Machine.execUpdOpen h s
  | .updChunkWrite h data => Sys2Proof.Machine.execUpdChunkWrite h data s
  | .updClose h => Sys2Proof.Machine.execUpdClose h s
  | .updVerifyDone => Sys2Proof.Machine.execUpdVerifyDone s
  | .updCancel h => Sys2Proof.Machine.execUpdCancel h s
  | .reboot h => Sys2Proof.Machine.execReboot h s
  | .slotConfirm h mask => Sys2Proof.Machine.execSlotConfirm h mask s
  | .serviceRequestFrame mosi => Sys2Proof.Machine.execServiceRequestFrame mosi s
  | .serviceResponseFrame clocked => Sys2Proof.Machine.execServiceResponseFrame clocked s
  | .serviceFrameFault kind => Sys2Proof.Machine.execServiceFrameFault kind s
  | .extest => Sys2Proof.Machine.execExtest s
  | .samplePreload pins preload => Sys2Proof.Machine.execSamplePreload pins preload s
  | .idcode => Sys2Proof.Machine.execIdcode s
  | .clamp => Sys2Proof.Machine.execClamp s
  | .highz => Sys2Proof.Machine.execHighz s
  | .bypass code => Sys2Proof.Machine.execBypass code s
  | .tapLeaveReset => Sys2Proof.Machine.execTapLeaveReset s
  | .trstNAssert low => Sys2Proof.Machine.execTrstNAssert low s
  | .powerOnResetRelease => Sys2Proof.Machine.execPowerOnResetRelease s
  | .boot b => Sys2Proof.Machine.execBoot b s
  | .resetN low => Sys2Proof.Machine.execResetN low s
  | .resetRequest h v => Sys2Proof.Machine.execResetRequest h v s
  | .lockstep => Sys2Proof.Machine.execLockstep s
  | .watchdog => Sys2Proof.Machine.execWatchdog s
  | .testmodeHigh high => Sys2Proof.Machine.execTestmodeHigh high s
  | .pfw work => Sys2Proof.Machine.execPfw work s
  | .pfwRelease => Sys2Proof.Machine.execPfwRelease s
  | .mainsLost first out => Sys2Proof.Machine.execMainsLost first out s
  | .mainsReturned => Sys2Proof.Machine.execMainsReturned s
  | .vbatLow => Sys2Proof.Machine.execVbatLow s
  | .vaultBrownOut => Sys2Proof.Machine.execVaultBrownOut s
  | .tamperLoopSample loop ohms => Sys2Proof.Machine.execTamperLoopSample loop ohms s
  | .vevAckWrite h v => Sys2Proof.Machine.execVevAckWrite h v s
  | .wake source => Sys2Proof.Machine.execWake source s
  | .rtcStop => Sys2Proof.Machine.execRtcStop s
  | .rtcRestart => Sys2Proof.Machine.execRtcRestart s
  | .mtxFbChange fb level => Sys2Proof.Machine.execMtxFbChange fb level s
  | .routeFbTimeout g => Sys2Proof.Machine.execRouteFbTimeout g s
  | .dtMinExpiry leg => Sys2Proof.Machine.execDtMinExpiry leg s
  | .periodMinExpiry leg => Sys2Proof.Machine.execPeriodMinExpiry leg s
  | .acceptanceMinimumEnd leg => Sys2Proof.Machine.execAcceptanceMinimumEnd leg s
  | .oePeerChange high => Sys2Proof.Machine.execOePeerChange high s
  | .imdPwmEdgeLost o => Sys2Proof.Machine.execImdPwmEdgeLost o s
  | .partnerLeaseExpired => Sys2Proof.Machine.execPartnerLeaseExpired s

end Sys2Proof.Machine
end

