-- ==== Sys2Proof/Machine/Tick.lean ====
section
/-! DEFINITION. Tick: what one step on an empty queue does: a millisecond passes (log entry 5). -/

namespace Sys2Proof.Machine

/-- Add to a U32 readback in µs, saturating (R408). -/
def State.age (s : State) (k n : Nat) : State := s.putN k (min 0xFFFFFFFF (s.nat k + n))

/-- A millisecond of a unit of a pair: the token's and the mirrored items' ages, the lease, and the loop states held (R394, R396,
R408). -/
def State.pairTick (s : State) : State :=
  if s.nat Reg.PAIR_EN != 1 then s
  else
    let s := s.age Reg.TOKEN_AGE 1000
    let s := (List.range 5).foldl (fun (st : State) (i : Nat) => st.age (Reg.MIRROR_AGE (i + 1)) 1000) s
    let s := s.putN Reg.LEASE_LEFT (s.nat Reg.LEASE_LEFT - 1000)
    s.withPair { s.pair with loops := s.pair.loops.map fun (x : Fin 38 × LoopImage × Nat) => (x.1, x.2.1, x.2.2 + 1000) }

/-- Whether the real-time clock is supplied (R306, R459): by the mains or by VBAT. -/
def State.clockRuns (s : State) : Bool := s.power.mains || !s.power.vaultLost

/-- The samples of the LSWITCH traces (R383): one each millisecond of every channel that is traced. -/
def State.traceSwitches (s : State) : State :=
  (List.finRange 16).foldl (fun (st : State) (n : Fin 16) =>
    st.traceSample 4 n.val (st.ltime / 1024)
      (ofS 32 (st.int (Reg.I_LS n)) + ofS 16 (st.int (Reg.T_LS n)) * 4294967296 + st.nat (Reg.LS_STATE n) % 256 * 281474976710656)) s

/-- A tick: a reset that was scheduled comes (R442, R452), legal time moves on by 1 ms (R306), RUNON_MAX ends a run-on (R256),
ages count, traced channels are sampled (R383), and an output without an input's clock sends a slot (R188). -/
def State.tick (s : State) : State :=
  let s := s.scheduledReset
  let s := if s.clockRuns then s.advance (s.now + 1) else s
  s.live fun s => s.traceSwitches.runonTick.pairTick.ringTick

end Sys2Proof.Machine
end

