-- ==== Sys2Proof/Safety.lean ====
section
/-! DEFINITION. Safety: what a good state is, and the words the statements use: which write is accepted, what the last answer was. -/

namespace Sys2Proof

open Sys2Proof.Machine

/-- The stores keep their canonical forms: addresses strictly rising, no entry equal to what an unlisted address reads as (R44, R425). -/
def Canonical (s : State) : Prop :=
  objWf s.objs = true ∧ objWf s.dict.store = true ∧ memWf s.upd.mem = true

/-- A step that runs: neither a fault nor a refusal. -/
def Runs (c : Instr) (s : State) : Prop := ∃ t, exec c s = .next t

/-- A write of the number n to an address is answered by a running device and passes every check of R42. -/
def Accepts (s : State) (h : Hdr) (k n : Nat) : Prop :=
  s.answersTo h.src = true ∧ ∃ r v, s.rowFor k = some r ∧ s.writeCheck h.src k (dataOf r.ty.size n) = .ok v

/-- A write of the bytes of a BLOB passes them. -/
def AcceptsBlob (s : State) (h : Hdr) (k : Nat) (data : List Byte) : Prop :=
  s.answersTo h.src = true ∧ ∃ v, s.writeCheck h.src k (leBytes 2 data.length ++ data) = .ok v

/-- The last response is the answer to a write with a status (R39). -/
def Answered (t : State) (h : Hdr) (st : Status) : Prop := t.dict.responses.getLast? = some ⟨h.src, 2, h.tag, st, []⟩

/-- The last response is the answer to a read, OK with its data (R39). -/
def AnsweredData (t : State) (h : Hdr) (data : List Byte) : Prop :=
  t.dict.responses.getLast? = some ⟨h.src, 1, h.tag, .ok, data⟩

/-- The session core of an outlet is powered and not fenced on an -L part: it reads the outlet's pins (R2, R45, R103). -/
def Senses (s : State) (o : Fin 4) : Prop :=
  s.powered = true ∧ s.part.variant = .l ∧ s.unpowered (0x60 + o.val) = false

/-- It also acts: the outlets class does not mirror, or a session runs (R72, R402). -/
def Serves (s : State) (o : Fin 4) : Prop := Senses s o ∧ (s.beh 1 ≠ .mirror ∨ s.inSession o.val = true)

/-- It is also in its role, and the engine that brings the vehicle's messages is not fenced: it hears the vehicle and may answer (R25,
R103, R220). -/
def Hears (s : State) (o : Fin 4) : Prop :=
  Serves s o ∧ s.role (4 + o.val) = true ∧ (s.nat (Reg.OUT_KIND o.val) = 0 → s.fab.fenced (modemCell o.val) = false)

/-- The outlets class is powered at an outlet of an -L part and its region not fenced: its cooling loop runs (R2, R45, R260). -/
def Cools (s : State) (o : Fin 4) : Prop :=
  s.powered = true ∧ s.part.variant = .l ∧ s.unpowered (0x64 + o.val) = false

/-- The last thing sent is an answer to the vehicle at an outlet (R227). -/
def Tells (t : State) (o : Fin 4) (a : Answer) : Prop := t.sent.getLast? = some (.vehicle o.val a)

/-! ## What a command may change -/

/-- A field of State beside the dictionary's values. -/
inductive Field where
  | now | dict | modes | fab | ev | pwmNow | legs | engines | groups | matrixFb | rebinds | bindHeld | site | ring | outs | cools | ls | pair | von | bill | trust | upd | power | sent
  deriving DecidableEq, Repr

/-- Whether a field is the same in two states. -/
def Field.same (s t : State) : Field → Prop
  | .now => t.now = s.now
  | .dict => t.dict = s.dict
  | .modes => t.modes = s.modes
  | .fab => t.fab = s.fab
  | .ev => t.ev = s.ev
  | .pwmNow => t.pwmNow = s.pwmNow
  | .legs => t.legs = s.legs
  | .engines => t.engines = s.engines
  | .groups => t.groups = s.groups
  | .matrixFb => t.matrixFb = s.matrixFb
  | .rebinds => t.rebinds = s.rebinds
  | .bindHeld => t.bindHeld = s.bindHeld
  | .site => t.site = s.site
  | .ring => t.ring = s.ring
  | .outs => t.outs = s.outs
  | .cools => t.cools = s.cools
  | .ls => t.ls = s.ls
  | .pair => t.pair = s.pair
  | .von => t.von = s.von
  | .bill => t.bill = s.bill
  | .trust => t.trust = s.trust
  | .upd => t.upd = s.upd
  | .power => t.power = s.power
  | .sent => t.sent = s.sent

/-- The footprint of a command: the ranges of groups whose elements it leaves alone, each from its first group up to the one after
its last; and the fields it may change. -/
structure Footprint where
  kept : List (Nat × Nat)
  changes : List Field
  deriving DecidableEq, Repr

/-- The footprint of each command; the two counters of transactions (R56) and the groups from 0xB0 on are in no range. -/
def footprint : Instr → Footprint
  | .write .. | .writeSeg .. | .readSeg .. | .resRead .. | .cmdRead .. | .abort .. | .ack .. | .commit ..
  | .stageDiscard .. | .configErase .. =>
    ⟨[], [.now, .dict, .modes, .ev, .legs, .engines, .groups, .rebinds, .site, .ring, .outs, .cools, .ls, .pair, .von,
    .bill, .trust, .upd, .power, .sent]⟩
  | .commitStored | .commitApply =>
    ⟨[], [.now, .dict, .modes, .ev, .legs, .groups, .bindHeld, .site, .ring, .outs, .cools, .ls, .pair, .von, .bill, .trust,
    .power, .sent]⟩
  | .configEraseStored | .slotConfirm .. | .serviceFrameFault .. =>
    ⟨[(0x00, 0xB0)], [.dict]⟩
  | .sessionStop .. | .pilotStateChange .. | .ppChange .. | .cableCheckRequest .. | .chargeLoopRequest ..
  | .contactorFeedback .. | .imdFault .. =>
    ⟨[], [.dict, .ev, .legs, .groups, .site, .ring, .outs, .cools, .ls, .bill, .sent]⟩
  | .slotSwitch .. | .slotSwitchWaitExpired | .updChunkWrite .. | .updClose .. =>
    ⟨[(0x00, 0xB0)], [.dict, .upd]⟩
  | .slotSwitchQuietBoundary =>
    ⟨[], [.dict, .legs, .pair, .upd, .sent]⟩
  | .blackoutEnd .. =>
    ⟨[(0x00, 0x58)], [.dict, .pair, .upd, .sent]⟩
  | .bist .. =>
    ⟨[(0x00, 0x60)], [.dict, .ev, .cools, .ls, .trust, .upd, .sent]⟩
  | .bistDone .. | .bistWindDownEnd .. =>
    ⟨[(0x00, 0x10)], [.dict, .ev, .engines, .site, .ring, .cools, .ls, .trust, .upd, .power, .sent]⟩
  | .bistDeferredReset | .chipStallTimeout | .leaseLapse | .extest | .samplePreload .. | .idcode | .clamp | .highz
  | .bypass .. | .resetN .. | .lockstep | .watchdog | .testmodeHigh .. | .pfwRelease =>
    ⟨[], [.ev, .legs, .groups, .ls, .bill, .power, .sent]⟩
  | .calCapture .. | .calCaptureDone | .acctIdWrite .. | .dmdReset .. =>
    ⟨[(0x00, 0xB0)], [.dict, .bill]⟩
  | .rehearsal .. | .rehearsalWaitExpired =>
    ⟨[(0x00, 0xB0)], [.dict, .pair]⟩
  | .rehearsalSwap | .modeWordWrite .. =>
    ⟨[], [.dict, .modes, .ev, .legs, .groups, .site, .ring, .outs, .cools, .ls, .pair, .bill, .power, .sent]⟩
  | .rehearsalTakeTimeout | .groupPark .. | .classArrive .. | .forcedStop | .engineRestoreDone .. | .driverConflict =>
    ⟨[], [.dict, .modes, .ev, .legs, .groups, .site, .ring, .outs, .cools, .ls, .pair, .bill, .sent]⟩
  | .engineRebind .. =>
    ⟨[(0x00, 0x10)], [.dict, .legs, .engines, .groups, .rebinds, .cools]⟩
  | .rebindSwitch .. =>
    ⟨[(0x00, 0x10)], [.rebinds, .cools]⟩
  | .rebindRecorded .. =>
    ⟨[], [.dict, .legs, .engines, .groups, .rebinds, .bindHeld, .cools]⟩
  | .keyGenerate .. | .keyDerive .. | .keyImport .. =>
    ⟨[(0x00, 0xA0)], [.dict, .ev, .trust]⟩
  | .keyDestroy .. =>
    ⟨[(0x00, 0xA0)], [.dict, .trust]⟩
  | .keySlotErased .. =>
    ⟨[(0x00, 0xA0)], [.trust]⟩
  | .csrSubjectWrite .. | .svnAdvance .. =>
    ⟨[(0x00, 0xA0)], [.dict]⟩
  | .remaskPass .. | .keyRequest .. =>
    ⟨[(0x00, 0xA0)], [.ev, .trust]⟩
  | .entropyFail =>
    ⟨[(0x00, 0xA0)], [.ev]⟩
  | .entropyRecover =>
    ⟨[(0x00, 0xA0)], []⟩
  | .accountTopup .. | .slacFail .. | .appProtocolHandshake .. | .authorization .. | .authWrite .. | .authTimeout ..
  | .scheduleExchange .. | .cableCheckJudged .. | .chkTimeout .. | .pchTimeout .. | .powerDelivery ..
  | .sessionStopReq .. | .certificateRequest .. | .unknownMessage .. | .feedingGroupsParked .. | .estopOpenExpiry ..
  | .ctrTimeout .. | .metrologySample .. | .friendlyHoursChange =>
    ⟨[], [.dict, .ev, .legs, .groups, .site, .outs, .cools, .ls, .bill, .sent]⟩
  | .civilTimeSet .. | .billingBoundary .. =>
    ⟨[], [.now, .dict, .ev, .bill, .power, .sent]⟩
  | .dropRest .. | .flush .. | .flushAtBoundary | .eqWordRead .. | .eqPacketRead .. | .eqClear .. =>
    ⟨[(0x00, 0xB0)], [.dict, .ev]⟩
  | .vaultEntry .. | .pfw .. =>
    ⟨[], [.now, .dict, .modes, .ev, .legs, .groups, .ring, .ls, .pair, .bill, .power, .sent]⟩
  | .outletContactorDelayEnd .. =>
    ⟨[], [.dict, .modes, .ev, .legs, .groups, .site, .outs, .cools, .ls, .bill, .sent]⟩
  | .limpEnChange .. =>
    ⟨[], [.dict, .modes, .ev, .legs, .groups, .site, .ring, .outs, .cools, .ls, .pair, .bill, .trust, .upd, .sent]⟩
  | .paceMeasure .. =>
    ⟨[(0x00, 0x05)], [.fab, .ev]⟩
  | .ensignLatClear .. =>
    ⟨[(0x00, 0x05)], [.dict]⟩
  | .refclkLost | .pllUnlock =>
    ⟨[], [.ev, .legs, .groups, .ring, .pair, .sent]⟩
  | .pllRelock =>
    ⟨[], [.fab, .ev, .legs, .groups]⟩
  | .laneClockLost .. | .ensignSingleBitError .. =>
    ⟨[(0x00, 0x05)], []⟩
  | .parityError .. =>
    ⟨[(0x00, 0x05)], [.dict, .ev]⟩
  | .ensignUncorrectable .. =>
    ⟨[], [.dict, .fab, .ev, .legs, .groups, .site, .ring, .outs, .cools, .ls, .bill, .sent]⟩
  | .missingEndMark .. | .cellStallTimeout .. | .blockStallTimeout .. | .meterEngineFenced .. =>
    ⟨[], [.dict, .fab, .ev, .legs, .groups, .site, .outs, .cools, .ls, .bill, .sent]⟩
  | .regionStallTimeout .. =>
    ⟨[], [.dict, .fab, .ev, .legs, .groups, .site, .outs, .cools, .ls, .bill, .power, .sent]⟩
  | .periodBoundary .. | .virtualBoundary .. =>
    ⟨[], [.dict, .pwmNow, .legs, .engines, .groups, .rebinds, .bindHeld, .cools, .sent]⟩
  | .timeActiveEnd .. | .endOff .. | .endOn .. | .onMaxHit .. | .syncSlot .. | .periodMinExpiry ..
  | .acceptanceMinimumEnd .. =>
    ⟨[(0x00, 0x10)], [.legs]⟩
  | .swnRegistered .. | .dtMaxExpiry .. | .dtMinExpiry .. =>
    ⟨[], [.legs]⟩
  | .syncInPulse .. | .syncLost .. | .sensorValidReturn .. | .shedDecision .. =>
    ⟨[(0x00, 0x10)], [.legs, .groups]⟩
  | .overrideWrite .. | .armHoldWrite .. | .armRelease .. | .faultClear .. =>
    ⟨[(0x00, 0x10)], [.dict, .legs]⟩
  | .fltNAssert .. =>
    ⟨[], [.ev, .legs]⟩
  | .countClear .. =>
    ⟨[], [.dict]⟩
  | .cmdSilenceTimeout .. =>
    ⟨[], [.dict, .ev, .legs, .engines, .groups, .rebinds, .bindHeld, .cools]⟩
  | .loopSample .. =>
    ⟨[], [.dict, .ev, .pwmNow, .legs, .engines, .groups, .rebinds, .bindHeld, .cools, .sent]⟩
  | .edgeSample .. =>
    ⟨[], [.ev, .pwmNow, .legs, .groups, .ls, .sent]⟩
  | .setpointDelivery .. =>
    ⟨[(0x00, 0x10)], [.now, .pwmNow, .groups]⟩
  | .setpFault .. =>
    ⟨[(0x00, 0x10)], [.ev, .groups]⟩
  | .setpFaultClear .. =>
    ⟨[(0x00, 0x10)], []⟩
  | .ntcSample .. =>
    ⟨[(0x00, 0x10)], [.ev, .legs, .groups]⟩
  | .shedWindowClose .. =>
    ⟨[(0x00, 0x10)], [.groups]⟩
  | .claimUpdate .. | .demandBudgetDelivery .. =>
    ⟨[(0x00, 0xB0)], [.site]⟩
  | .epochMark .. =>
    ⟨[(0x00, 0x50)], [.now, .ev, .site, .ring, .sent]⟩
  | .epochBoundary | .localEpochBoundary =>
    ⟨[], [.dict, .modes, .fab, .ev, .legs, .groups, .site, .ring, .ls, .pair, .trust, .upd, .sent]⟩
  | .claimBlockInsert =>
    ⟨[(0x00, 0x50)], [.groups, .site, .ring]⟩
  | .waveBlockReceive .. =>
    ⟨[(0x00, 0x50)], [.groups, .site]⟩
  | .closeMark .. =>
    ⟨[(0x00, 0x50)], [.site, .ring, .sent]⟩
  | .waveFreeze =>
    ⟨[(0x00, 0x50)], [.ev, .site]⟩
  | .allocCalcDone .. =>
    ⟨[], [.ev, .legs, .groups, .site]⟩
  | .ringIsolated | .evict .. =>
    ⟨[(0x00, 0x50)], [.site, .ring]⟩
  | .markLaunch .. | .hoistSuccession =>
    ⟨[(0x00, 0x50)], [.now, .ev, .site, .ring]⟩
  | .slotReceive .. =>
    ⟨[], [.now, .dict, .ev, .groups, .site, .ring, .trust, .sent]⟩
  | .ownEnsignRelease .. =>
    ⟨[], [.ring, .sent]⟩
  | .portStop .. =>
    ⟨[(0x00, 0x58)], [.groups]⟩
  | .groupLoss .. =>
    ⟨[(0x00, 0x58)], [.site]⟩
  | .groupLossSend .. =>
    ⟨[(0x00, 0xB0)], [.ring]⟩
  | .dictRequestFrame .. | .bypForceHold .. =>
    ⟨[(0x00, 0x58)], [.dict, .ring]⟩
  | .dictResponseFrame .. | .rosterEvict .. =>
    ⟨[(0x00, 0xA0)], [.dict, .ring, .trust]⟩
  | .pennantRecordsFrame .. | .streamerRecordsFrame .. =>
    ⟨[(0x00, 0x58)], [.ev, .ring]⟩
  | .firmwareDataFrame .. | .leave .. | .neighbourChange .. | .bypHoldDrive =>
    ⟨[(0x00, 0x58)], [.ring]⟩
  | .join .. | .joinSend | .joinRetry | .leaveSend =>
    ⟨[(0x00, 0x58)], [.ring, .trust]⟩
  | .roster .. =>
    ⟨[(0x00, 0x50)], [.now, .ring]⟩
  | .wrap .. =>
    ⟨[(0x00, 0x50)], [.ring, .trust]⟩
  | .unwrap .. | .oePeerChange .. =>
    ⟨[(0x00, 0x50)], [.site]⟩
  | .bypForceRelease .. =>
    ⟨[(0x00, 0x50)], [.dict, .ring]⟩
  | .pairLaneUp .. =>
    ⟨[(0x00, 0x05)], [.sent]⟩
  | .pairLaneDown .. | .standby .. =>
    ⟨[(0x00, 0x58)], []⟩
  | .slacMatch .. | .sessionSetup .. | .chargeParameterDiscovery .. =>
    ⟨[(0x00, 0xB0)], [.outs, .sent]⟩
  | .sdpRequest .. =>
    ⟨[(0x00, 0x60)], [.ev, .outs, .sent]⟩
  | .tlsHandshake .. =>
    ⟨[(0x00, 0x60)], [.ev, .outs, .trust, .sent]⟩
  | .serviceDiscovery .. | .weldingDetection .. =>
    ⟨[(0x00, 0xB0)], [.sent]⟩
  | .serviceSelection .. | .certResTimeout .. | .imdPwmEdgeLost .. =>
    ⟨[(0x00, 0x60)], [.sent]⟩
  | .preCharge .. =>
    ⟨[(0x00, 0x60)], [.outs, .sent]⟩
  | .meteringReceipt .. =>
    ⟨[], [.dict, .ev, .legs, .groups, .site, .outs, .cools, .ls, .bill, .power, .sent]⟩
  | .certResWrite .. =>
    ⟨[(0x00, 0x60)], [.dict, .sent]⟩
  | .outletFaultClear .. =>
    ⟨[(0x00, 0x60)], [.dict, .ev, .sent]⟩
  | .coolingStep .. =>
    ⟨[], [.now, .dict, .ev, .legs, .groups, .rebinds, .site, .ring, .outs, .cools, .ls, .bill, .sent]⟩
  | .flowLost .. | .inputValidReturn .. =>
    ⟨[(0x00, 0x60)], [.now, .ev, .cools]⟩
  | .coolLoopSilent .. =>
    ⟨[], [.dict, .ev, .legs, .engines, .groups, .rebinds, .site, .ring, .outs, .cools, .ls, .bill, .sent]⟩
  | .lsOnWrite .. | .lsClear .. | .wdRelease .. =>
    ⟨[(0x00, 0x70)], [.dict, .ev, .ls]⟩
  | .shortTrip .. | .overloadTrip .. | .thermalTrip .. | .inrushWindowEnd .. | .vsLsRestored | .pkgCurrentCheck ..
  | .failsafeTrigger .. | .heartbeatWord .. | .hbMaxExpiry | .limpInChange .. =>
    ⟨[(0x00, 0x70)], [.ev, .ls]⟩
  | .lsRetry .. | .vsLsOutOfRange .. | .fsWaitEnd .. =>
    ⟨[(0x00, 0x70)], [.ls]⟩
  | .curtailEnd .. | .retriesReload .. | .openLoad .. =>
    ⟨[(0x00, 0x70)], []⟩
  | .channelThermalWarning .. =>
    ⟨[(0x00, 0x70)], [.ev]⟩
  | .metrologyPublish =>
    ⟨[(0x00, 0x60)], [.cools, .bill]⟩
  | .mscrClockLost .. =>
    ⟨[(0x00, 0x88)], [.dict, .bill]⟩
  | .mscrClockReturn .. =>
    ⟨[(0x00, 0x88)], [.bill]⟩
  | .streamStuck .. =>
    ⟨[(0x00, 0x88)], [.dict, .ev, .bill]⟩
  | .sealLoopSample .. | .tamperLoopSample .. =>
    ⟨[(0x01, 0x02), (0x05, 0x06)], [.dict, .ev, .bill, .power]⟩
  | .legalRecordWritten =>
    ⟨[(0x00, 0x88)], [.dict, .ev, .bill, .power, .sent]⟩
  | .registerCommit =>
    ⟨[(0x00, 0x88)], [.bill, .sent]⟩
  | .logAckSeqWrite .. =>
    ⟨[(0x00, 0x88)], [.dict, .ev, .bill, .power]⟩
  | .pennantRaise .. | .traceRaise .. | .queuePacketWhole | .coalWindowEnd .. | .gapDue | .partnerLeaseExpired =>
    ⟨[(0x00, 0xB0)], [.ev]⟩
  | .ringTokenGain =>
    ⟨[(0x00, 0xB0)], []⟩
  | .ringOutboxSend .. | .traceOutboxSend =>
    ⟨[(0x00, 0xA0)], [.ev, .ring, .trust]⟩
  | .renewSend | .claimSend =>
    ⟨[(0x00, 0x58)], [.pair, .sent]⟩
  | .standbySend =>
    ⟨[(0x00, 0xB0)], [.pair, .sent]⟩
  | .renew .. =>
    ⟨[(0x00, 0x58)], [.dict, .ev, .pair]⟩
  | .release .. | .claim .. =>
    ⟨[(0x00, 0x58)], [.pair]⟩
  | .takeover .. =>
    ⟨[], [.dict, .modes, .ev, .legs, .engines, .groups, .site, .ring, .outs, .cools, .ls, .pair, .bill, .power, .sent]⟩
  | .splitDetect =>
    ⟨[(0x00, 0x58)], [.ev]⟩
  | .mirrorItem .. =>
    ⟨[], [.ev, .legs, .engines, .groups, .pair, .bill, .sent]⟩
  | .vonMasterSlot =>
    ⟨[(0x00, 0xB0)], [.von, .sent]⟩
  | .vonReplyJudged .. =>
    ⟨[(0x00, 0xB0)], [.ev, .von]⟩
  | .vonTxBoxWrite .. =>
    ⟨[(0x00, 0xB0)], [.dict, .von]⟩
  | .updOpen .. | .updCancel .. =>
    ⟨[(0x00, 0xA0)], [.dict, .upd]⟩
  | .updVerifyDone =>
    ⟨[(0x00, 0xA0)], [.ev, .trust, .upd]⟩
  | .reboot .. =>
    ⟨[], [.dict, .ev, .legs, .groups, .ls, .bill, .power, .sent]⟩
  | .serviceRequestFrame .. | .serviceResponseFrame .. =>
    ⟨[(0x00, 0xB0)], [.dict, .sent]⟩
  | .tapLeaveReset | .vbatLow =>
    ⟨[(0x00, 0xB0)], [.ev, .power]⟩
  | .trstNAssert .. | .powerOnResetRelease | .rtcStop | .rtcRestart =>
    ⟨[(0x00, 0xB0)], [.power]⟩
  | .boot .. =>
    ⟨[], [.now, .dict, .modes, .fab, .ev, .pwmNow, .legs, .engines, .groups, .matrixFb, .rebinds, .bindHeld, .site, .ring,
    .outs, .cools, .ls, .pair, .von, .bill, .trust, .upd, .power, .sent]⟩
  | .resetRequest .. | .vevAckWrite .. =>
    ⟨[(0x00, 0xB0)], [.dict, .power]⟩
  | .mainsLost .. =>
    ⟨[], [.modes, .ev, .legs, .groups, .ls, .power]⟩
  | .mainsReturned =>
    ⟨[(0x00, 0x70)], [.ev, .ls, .power]⟩
  | .vaultBrownOut =>
    ⟨[], [.now, .ls, .power]⟩
  | .wake .. =>
    ⟨[(0x00, 0x70)], [.modes, .ev, .ls, .power]⟩
  | .mtxFbChange .. =>
    ⟨[(0x00, 0x10)], [.ev, .legs, .groups, .matrixFb, .ls, .sent]⟩
  | .routeFbTimeout .. =>
    ⟨[], [.ev, .legs, .groups, .ls, .sent]⟩

end Sys2Proof
end

