-- ==== Sys2Proof/Certificates/Slice0/Obligations.lean ====
section
/-! DEFINITION. Obligations: the statements for the provers, one family of commands after another. -/

open Sys2Proof Sys2Proof.Machine

/-- For every command c, queue rest and state s whose queue is c followed by rest, one step is exec of c on s with the queue's
rest. (02_object_dictionary.md R41.) -/
def Obligations.StepRunsFrontCommand : Prop :=
  ∀ (c : Instr) (rest : List Instr) (s : State), s.pending = c :: rest →
    step s = exec c { s with pending := rest }

/-- After reset the dictionary's values, the configuration store and the firmware memory have their canonical forms, nothing is
staged, sent or waiting, and every command result reads IDLE. (02_object_dictionary.md R44, 18_service_update_test.md R425.) -/
def Obligations.ResetIsCanonical : Prop :=
  Canonical State.reset ∧ State.reset.objs = [] ∧ State.reset.pending = [] ∧ State.reset.sent = [] ∧
  State.reset.dict.staging = [] ∧ ∀ c : CmdId, (State.reset.res c).encode = zeros 16

/-- From every state whose dictionary values, configuration store and firmware memory have their canonical forms (addresses
strictly rising, no entry equal to what an unlisted address reads as), a step, whatever command is in front and also on an empty
queue, answers a next state in which they have them again. (02_object_dictionary.md R44, 18_service_update_test.md R425.) -/
def Obligations.StepKeepsCanonical : Prop :=
  ∀ s : State, Canonical s → ∃ t, step s = .next t ∧ Canonical t

/-- For each of the 278 commands, from every state: every field of State that the command's row of the footprint table does not
list, and every element in the groups the row keeps but the two transaction counters, is after the command what it was before.
(02_object_dictionary.md R41, 95_what_each_step_holds.md.) -/
def Obligations.CommandsKeepTheirFootprint : Prop :=
  ∀ (c : Instr) (s t : State), exec c s = .next t →
    (∀ f : Field, f ∉ (footprint c).changes → f.same s t) ∧
    ∀ r ∈ (footprint c).kept, ∀ k, r.1 * 65536 ≤ k → k < r.2 * 65536 → k ≠ Reg.DICT_RX_COUNT → k ≠ Reg.DICT_REJECT_COUNT →
      t.get k = s.get k

/-- From every state whose billing hold has only entries that apply at a billing boundary (persistent objects of the calendar,
demand and account groups and of the calibration set), a step, whatever command is in front and also on an empty queue, answers
a next state whose hold has only such entries; after reset it is empty. (02_object_dictionary.md R21, R53.) -/
def Obligations.StepKeepsTheHold : Prop :=
  State.reset.dict.billHold = [] ∧
  ∀ s : State, heldAll s.dict.billHold = true → ∃ t, step s = .next t ∧ heldAll t.dict.billHold = true

/-- Every step answers a next state; it takes exactly the front command off the queue, leaves the identity of the part alone,
and keeps everything that was sent before in front of what it sends. (02_object_dictionary.md R41, 00_scope.md R3.) -/
def Obligations.StepTakesOneCommand : Prop :=
  ∀ s : State, ∃ t, step s = .next t ∧ t.pending = s.pending.tail ∧ t.part = s.part ∧ s.sent <+: t.sent

/-- The framing checks fail a request exactly where its OPCODE is not 1 to 4, its LENGTH is above 1,024 or differs from the data
delivered, a READ or READ_SEG has data, or a READ or WRITE has an OFFSET. Where a source is answered, such a request is answered
TYPE_ERROR without data, echoing its OPCODE and TAG, and no element changes but the two transaction counters; the staging area,
the commit set, the store, the results and the segment buffer stay. (02_object_dictionary.md R42, R39.) -/
def Obligations.FramingRejected : Prop :=
  (∀ rq : Request, framingOk rq = false ↔
    (rq.opcode = 0 ∨ 4 < rq.opcode ∨ 1024 < rq.length ∨ rq.length ≠ rq.data.length ∨
     ((rq.opcode = 1 ∨ rq.opcode = 3) ∧ rq.length ≠ 0) ∨ ((rq.opcode = 1 ∨ rq.opcode = 2) ∧ rq.offset ≠ 0))) ∧
  ∀ (s : State) (src : Src) (rq : Request), s.answersTo src = true → framingOk rq = false →
    ∃ t, exec (.write src rq) s = .next t ∧
      t.dict.responses.getLast? = some ⟨src, rq.opcode, rq.tag, .typeError, []⟩ ∧
      (∀ k, k ≠ Reg.DICT_RX_COUNT → k ≠ Reg.DICT_REJECT_COUNT → t.get k = s.get k) ∧
      t.dict.staging = s.dict.staging ∧ t.dict.commitSet = s.dict.commitSet ∧ t.dict.store = s.dict.store ∧
      t.dict.res = s.dict.res ∧ t.dict.seg = s.dict.seg

/-- Outside RECOVERY, where the source is answered: a READ of RES is answered OK with the result counted once more (a PENDING
one shows STATUS, SEQ and ABORT_REQ alone); a READ of CMD is answered WRITE_ONLY with four zero bytes; a READ_SEG of a readable
BLOB other than EQ_PACKET is answered OK with the bytes of its encoding from OFFSET on, at most 1,024 of them, up to and at its
end, and RANGE_ERROR beyond; of an element that no row defines it is answered NO_SUCH_OBJECT, of one of another type TYPE_ERROR.
(02_object_dictionary.md R19, R39, R61, R499.) -/
def Obligations.ReadsAnswered : Prop :=
  ∀ (s : State) (h : Hdr), s.answersTo h.src = true → s.nat Reg.BOOT_STATE ≠ 3 →
    (∀ c : CmdId, ∃ t, exec (.resRead h c) s = .next t ∧ AnsweredData t h (s.res c).readOnce.encode ∧
      t.res c = (s.res c).readOnce) ∧
    (∀ c : CmdId, ∃ t, exec (.cmdRead h c) s = .next t ∧
      t.dict.responses.getLast? = some ⟨h.src, 1, h.tag, .writeOnly, zeros 4⟩ ∧ t.res c = s.res c) ∧
    (∀ rq : Request, framingOk { rq with opcode := 3 } = true → s.rowFor (reqKey rq) = none →
      ∃ t, exec (.readSeg h.src rq) s = .next t ∧
        t.dict.responses.getLast? = some ⟨h.src, 3, rq.tag, .noSuchObject, []⟩) ∧
    (∀ (rq : Request) (r : Row), framingOk { rq with opcode := 3 } = true → s.rowFor (reqKey rq) = some r → writeOnly r = false →
      (r.ty = .blob → reqKey rq ≠ Reg.EQ_PACKET → rq.offset ≤ (encodeVal .blob (s.show (reqKey rq))).length →
        ∃ t, exec (.readSeg h.src rq) s = .next t ∧ t.dict.responses.getLast? =
          some ⟨h.src, 3, rq.tag, .ok, ((encodeVal .blob (s.show (reqKey rq))).drop rq.offset).take 1024⟩) ∧
      (r.ty = .blob → reqKey rq ≠ Reg.EQ_PACKET → (encodeVal .blob (s.show (reqKey rq))).length < rq.offset →
        ∃ t, exec (.readSeg h.src rq) s = .next t ∧
          t.dict.responses.getLast? = some ⟨h.src, 3, rq.tag, .rangeError, []⟩) ∧
      (r.ty ≠ .blob → ∃ t, exec (.readSeg h.src rq) s = .next t ∧
        t.dict.responses.getLast? = some ⟨h.src, 3, rq.tag, .typeError, []⟩))

/-- A WRITE of at most 1,024 bytes of an object whose effect is at commit, which passes every check and fits the staging area,
is answered OK; the staging area then holds the value for the object, STAGE_COUNT counts the entries, and the value in effect
stays; where it does not fit it is answered STAGE_FULL and the staging area stays. A WRITE_SEG with OFFSET 0 to a BLOB whose
write is authorised and accessible, whose segment carries the two length bytes and declares a length the object can hold but not
yet all of it, is answered OK and fills the segment buffer, whatever it held; a declared length above the object's maximum is
answered RANGE_ERROR. (02_object_dictionary.md R49, R50, R499.) -/
def Obligations.WritesStagedAndSegmented : Prop :=
  (∀ (s : State) (h : Hdr) (k : Nat) (data : List Byte) (r : Row) (v : Val),
    s.answersTo h.src = true → k < 16777216 → data.length ≤ 1024 → cmdOfKey k = none → s.rowFor k = some r →
    r.eff = .commit → k ≠ Reg.STAGE_COUNT → k ≠ Reg.STAGE_BYTES → k ≠ Reg.DICT_RX_COUNT → k ≠ Reg.DICT_REJECT_COUNT →
    s.writeCheck h.src k data = .ok v →
    (stageFits (stagePut s.dict.staging k v) = true →
      ∃ t, exec (.write h.src (writeOf h.tag k data)) s = .next t ∧ Answered t h .ok ∧
        t.dict.staging = stagePut s.dict.staging k v ∧ (k, v) ∈ t.dict.staging ∧
        t.nat Reg.STAGE_COUNT = t.dict.staging.length ∧ t.get k = s.get k) ∧
    (stageFits (stagePut s.dict.staging k v) = false →
      ∃ t, exec (.write h.src (writeOf h.tag k data)) s = .next t ∧ Answered t h .stageFull ∧
        t.dict.staging = s.dict.staging ∧ t.get k = s.get k)) ∧
  (∀ (s : State) (src : Src) (rq : Request) (r : Row), s.answersTo src = true →
    framingOk { rq with opcode := 4 } = true → rq.offset = 0 → s.writeGate src (reqKey rq) = .ok r → r.ty = .blob →
    2 ≤ rq.data.length →
    (leAt rq.data 0 2 ≤ blobMax r → rq.data.length < 2 + leAt rq.data 0 2 →
      ∃ t, exec (.writeSeg src rq) s = .next t ∧
        t.dict.responses.getLast? = some ⟨src, 4, rq.tag, .ok, []⟩ ∧
        t.dict.seg = some ⟨reqKey rq, 2 + leAt rq.data 0 2, rq.data⟩) ∧
    (blobMax r < leAt rq.data 0 2 →
      ∃ t, exec (.writeSeg src rq) s = .next t ∧
        t.dict.responses.getLast? = some ⟨src, 4, rq.tag, .rangeError, []⟩))

/-- An accepted COMMIT with entries staged makes them the commit set, empties the staging area and leaves COMMIT_STATE STORING
with the result PENDING; with none staged it ends at once, COMPLETED with DETAIL 0, COMMIT_SEQ unchanged and COMMIT_STATE
APPLIED. Applying a set that waited for the epoch ends COMPLETED with COMMIT_STATE APPLIED, and with VALUE from COMMIT_SEQ and
the epoch number. Storing a set at a running device journals it and takes the blank mark off the store; on a ring it then waits
in WAITING_EPOCH, off a ring it is applied at once. An accepted CONFIG_ERASE outside ASSEMBLE ends REFUSED with DETAIL 1; under
ASSEMBLE it is PENDING and nothing else changes but that the erase is ordered. Once no commit set ordered before it is still
being stored, storing the erase leaves only RWL entries in the store, marks it blank, keeps the billing hold and every value in
effect, and ends COMPLETED. (02_object_dictionary.md R51, R52, R65.) -/
def Obligations.CommitsAndErases : Prop :=
  (∀ (s : State) (h : Hdr), Accepts s h (cmdBase .commit + 1) 0 →
    ∃ t, exec (.commit h 0) s = .next t ∧ Answered t h .ok ∧
      (s.dict.staging ≠ [] → t.dict.commitSet = s.dict.staging ∧ t.dict.staging = [] ∧ t.nat Reg.COMMIT_STATE = 1 ∧
        (t.res .commit).status = .pending) ∧
      (s.dict.staging = [] → t.nat Reg.COMMIT_STATE = 3 ∧ t.nat Reg.COMMIT_SEQ = s.nat Reg.COMMIT_SEQ ∧
        (t.res .commit).status = .completed ∧ (t.res .commit).detail = 0 ∧ (t.res .commit).value = s.commitValue)) ∧
  (∀ s : State, s.powered = true → s.nat Reg.COMMIT_STATE = 1 → s.dict.erasing = false → s.dict.commitErased = false →
    ∃ t, exec .commitStored s = .next t ∧ t.dict.blank = false ∧
      (s.waitsEpoch = true → t.nat Reg.COMMIT_STATE = 2 ∧ t.dict.journalled = true ∧ t.dict.journal = s.dict.commitSet) ∧
      (s.waitsEpoch = false → t.nat Reg.COMMIT_STATE = 3 ∧ (t.res .commit).status = .completed ∧
        (t.res .commit).value = t.commitValue)) ∧
  (∀ s : State, s.powered = true → s.nat Reg.COMMIT_STATE = 2 → s.ring.due = true →
    ∃ t, exec .commitApply s = .next t ∧ t.nat Reg.COMMIT_STATE = 3 ∧ (t.res .commit).status = .completed ∧
      (t.res .commit).value = t.commitValue ∧
      (t.res .commit).detail = (s.dict.commitSet.filter fun e => isHeld e.1).length) ∧
  (∀ (s : State) (h : Hdr), Accepts s h (cmdBase .configErase + 1) 0xE4A5 →
    ∃ t, exec (.configErase h 0xE4A5) s = .next t ∧ Answered t h .ok ∧
      (bit (s.nat Reg.MODE_WORD) 0 = false →
        (t.res .configErase).status = .refused ∧ (t.res .configErase).detail = 1 ∧ t.dict.store = s.dict.store) ∧
      (bit (s.nat Reg.MODE_WORD) 0 = true →
        (t.res .configErase).status = .pending ∧ t.dict.erasing = true ∧ t.dict.blank = s.dict.blank ∧
        t.dict.store = s.dict.store ∧ t.dict.billHold = s.dict.billHold ∧
        ∀ k, k ≠ Reg.DICT_RX_COUNT → k ≠ Reg.DICT_REJECT_COUNT → t.get k = s.get k)) ∧
  (∀ s : State, s.powered = true → s.dict.erasing = true → s.nat Reg.COMMIT_STATE ≠ 1 ∨ s.dict.commitErased = false →
    ∃ t, exec .configEraseStored s = .next t ∧ t.dict.erasing = false ∧ t.dict.blank = true ∧
      t.dict.store = s.dict.store.filter (fun e => isRwl e.1) ∧ t.dict.billHold = s.dict.billHold ∧
      (t.res .configErase).status = .completed ∧ ∀ k, t.get k = s.get k)

/-- An accepted ABORT of a COMPLETED result sets ABORT_LATE and nothing else of it; of an ABORTED, FAILED, REFUSED or IDLE one
it changes nothing; of a PENDING command that is never abortable it is answered ACCESS_ERROR. An ACK of a final result sets it
to IDLE with all fields zero, of a PENDING one it is answered BUSY and nothing changes, of an IDLE one it changes nothing.
(02_object_dictionary.md R61, R62.) -/
def Obligations.AbortAndAckByResult : Prop :=
  (∀ (s : State) (h : Hdr) (c : CmdId), Accepts s h (cmdBase c + 3) 1 →
    ∃ t, exec (.abort h c) s = .next t ∧
      ((s.res c).status = .completed → Answered t h .ok ∧ t.res c = { s.res c with abortLate := true }) ∧
      ((s.res c).status ≠ .completed → (s.res c).status ≠ .pending → Answered t h .ok ∧ t.res c = s.res c) ∧
      ((s.res c).status = .pending → c ≠ .slotSwitch → c ≠ .bist → c ≠ .calCapture → c ≠ .rehearsal →
        Answered t h .accessError ∧ t.res c = s.res c)) ∧
  (∀ (s : State) (h : Hdr) (c : CmdId), Accepts s h (cmdBase c + 3) 2 →
    ∃ t, exec (.ack h c) s = .next t ∧
      ((s.res c).status = .pending → Answered t h .busy ∧ t.res c = s.res c) ∧
      ((s.res c).status = .idle → Answered t h .ok ∧ t.res c = s.res c) ∧
      ((s.res c).status ≠ .pending → (s.res c).status ≠ .idle → Answered t h .ok ∧ (t.res c).encode = zeros 16))

/-- An accepted STAGE_DISCARD with argument 0 empties the staging area and the segment buffer and ends COMPLETED with the number
of entries discarded as its VALUE; it touches neither the commit set, its journal and COMMIT_STATE, nor the billing hold, nor
STAGE_DISCARDED. Where a write of its CMD is authorised and accessible and no STAGE_DISCARD is PENDING, any other 32-bit
argument is answered RANGE_ERROR, and the old result and the staging area stay. (02_object_dictionary.md R66.) -/
def Obligations.StageDiscardRule : Prop :=
  (∀ (s : State) (h : Hdr), Accepts s h (cmdBase .stageDiscard + 1) 0 →
    ∃ t, exec (.stageDiscard h 0) s = .next t ∧ Answered t h .ok ∧ t.dict.staging = [] ∧ t.dict.seg = none ∧
      (t.res .stageDiscard).status = .completed ∧ (t.res .stageDiscard).value = s.dict.staging.length ∧
      t.nat Reg.STAGE_COUNT = 0 ∧ t.dict.commitSet = s.dict.commitSet ∧ t.dict.journal = s.dict.journal ∧
      t.dict.journalled = s.dict.journalled ∧ t.nat Reg.COMMIT_STATE = s.nat Reg.COMMIT_STATE ∧
      t.dict.billHold = s.dict.billHold ∧ t.nat Reg.BILL_HOLD_COUNT = s.nat Reg.BILL_HOLD_COUNT ∧
      t.nat Reg.STAGE_DISCARDED = s.nat Reg.STAGE_DISCARDED) ∧
  (∀ (s : State) (h : Hdr) (arg : Nat) (r : Row), s.answersTo h.src = true →
    s.writeGate h.src (cmdBase .stageDiscard + 1) = .ok r → s.isPending .stageDiscard = false → arg ≠ 0 → arg < 4294967296 →
    ∃ t, exec (.stageDiscard h arg) s = .next t ∧ Answered t h .rangeError ∧ t.res .stageDiscard = s.res .stageDiscard ∧
      t.dict.staging = s.dict.staging ∧ t.dict.seg = s.dict.seg)

/-- Where the device answers the source and the element exists: a ring node's WRITE that REMOTE_WRITE does not admit is answered
NOT_AUTHORISED whatever its data; one of a read-only element, by a source that may write, is answered ACCESS_ERROR. Neither
changes the element. (02_object_dictionary.md R42, R47, R14, R40.) -/
def Obligations.WritesGated : Prop :=
  ∀ (s : State) (h : Hdr) (k : Nat) (data : List Byte) (r : Row),
    s.answersTo h.src = true → k < 16777216 → data.length ≤ 1024 → s.rowFor k = some r →
    k ≠ Reg.DICT_RX_COUNT → k ≠ Reg.DICT_REJECT_COUNT →
    (s.mayWrite h.src = false →
      ∃ t, exec (.write h.src (writeOf h.tag k data)) s = .next t ∧ Answered t h .notAuthorised ∧ t.get k = s.get k) ∧
    (s.mayWrite h.src = true → r.acc = .ro →
      ∃ t, exec (.write h.src (writeOf h.tag k data)) s = .next t ∧ Answered t h .accessError ∧ t.get k = s.get k)

/-- An accepted write of MODE_WORD is answered OK; the word then reads as written, or 0x80 where bit [7] was written as 1,
MODE_CHANGES has counted it, and MODE_TRANSIT shows exactly the classes that have not reached the behaviour the word gives them.
(03_modes.md R68, R77, R85.) -/
def Obligations.ModeWordWriteMoves : Prop :=
  ∀ (s : State) (h : Hdr) (v : Nat), Accepts s h Reg.MODE_WORD v →
    ∃ t, exec (.modeWordWrite h v) s = .next t ∧ Answered t h .ok ∧
      t.nat Reg.MODE_WORD = (if bit v 7 then 0x80 else v) ∧
      t.nat Reg.MODE_CHANGES = (s.nat Reg.MODE_CHANGES + 1) % 4294967296 ∧ t.nat Reg.MODE_TRANSIT = t.transit

/-- At a running device: a class that is on its way and need not wait takes its behaviour; the engines whose restoring ends
leave it; a stopping group at or below ROUTE_ZERO_I parks; an outlet in STOPPING whose 5 ms contactor delay has run starts its
opening sequence, DC+ first; a stop that lasts past STOP_TIMEOUT with a group unparked or a contactor closed is forced, parks
every group and counts in FORCED_STOPS. The steps of a VAULT entry follow one another: 2 after the orderly stop, with the load
switches off; 3 stops integration; 4 once no journal is being written; 5 once the node has left the ring, which it then
bypasses; 6 removes power. A change of the LIMP_EN pin is a change of the word: it counts in MODE_CHANGES at a running device.
(01_site_and_roles.md R32, 03_modes.md R69, R77, R78, R79, R80, R85.) -/
def Obligations.ClassesArriveAndStop : Prop :=
  (∀ (s : State) (c : Fin 8), s.powered = true → s.onTheWay c = true → s.mayArrive c = true →
    ∃ t, exec (.classArrive c) s = .next t ∧ t.beh c = s.reach c) ∧
  (∀ (s : State) (c : Fin 8), s.powered = true → s.modes.restoring[c] = true → s.targetBeh 6 = .run →
    ∃ t, exec (.engineRestoreDone c) s = .next t ∧ t.modes.restoring[c] = false ∧ t.beh 6 = .run) ∧
  (∀ (s : State) (g : Fin 4), s.powered = true → s.groupZero g = true → s.phasesRun = true → s.phasesLeave = true →
    s.allParked = false → ∃ t, exec (.groupPark g) s = .next t ∧ t.groups[g].parked = true) ∧
  (∀ (s : State) (o : Fin 4), s.powered = true → s.modes.ctrDelay[o] = true → s.outState o = 8 →
    ∃ t, exec (.outletContactorDelayEnd o) s = .next t ∧ t.modes.ctrDelay[o] = false ∧
      (s.ctr o 2 = true → t.outState o = 9 ∧ t.ctr o 0 = false)) ∧
  (∀ s : State, s.powered = true → s.modes.stopping = true → s.allParked = false ∨ s.someCtrClosed = true →
    ∃ t, exec .forcedStop s = .next t ∧ t.nat Reg.FORCED_STOPS = (s.nat Reg.FORCED_STOPS + 1) % 4294967296 ∧
      ∀ g : Fin 4, t.groups[g].parked = true) ∧
  (∀ s : State, s.powered = true → s.nat Reg.MODE_WORD = 0x80 → s.power.pfw = false → s.modes.vaultStep = 0 →
    s.vaultStopped = true → ∃ t, exec (.vaultEntry 2) s = .next t ∧ t.modes.vaultStep = 2 ∧ t.beh 2 = .off) ∧
  (∀ s : State, s.powered = true → s.nat Reg.MODE_WORD = 0x80 → s.power.pfw = false → s.modes.vaultStep = 2 →
    ∃ t, exec (.vaultEntry 3) s = .next t ∧ t.modes.vaultStep = 3 ∧ t.modes.meterStopped = true) ∧
  (∀ s : State, s.powered = true → s.nat Reg.MODE_WORD = 0x80 → s.power.pfw = false → s.modes.vaultStep = 3 →
    s.nat Reg.COMMIT_STATE ≠ 1 → s.dict.erasing = false →
    ∃ t, exec (.vaultEntry 4) s = .next t ∧ t.modes.vaultStep = 4) ∧
  (∀ s : State, s.powered = true → s.nat Reg.MODE_WORD = 0x80 → s.power.pfw = false → s.modes.vaultStep = 4 →
    s.isMember = false ∨ s.byMarks = false →
    ∃ t, exec (.vaultEntry 5) s = .next t ∧ t.modes.vaultStep = 5 ∧ t.beh 3 = .bypassed) ∧
  (∀ s : State, s.powered = true → s.nat Reg.MODE_WORD = 0x80 → s.power.pfw = false → s.modes.vaultStep = 5 →
    s.power.wakePending = none →
    ∃ t, exec (.vaultEntry 6) s = .next t ∧ t.modes.vaultStep = 6 ∧ t.power.inVault = true ∧ t.powered = false) ∧
  (∀ (s : State) (b : Bool), ∃ t, exec (.limpEnChange b) s = .next t ∧ t.modes.limpEn = b ∧
    (s.powered = true → b ≠ s.modes.limpEn → t.nat Reg.MODE_CHANGES = (s.nat Reg.MODE_CHANGES + 1) % 4294967296))

/-- At a running device: with REFCLK present a measurement puts the least of its twenty-one replica counts into PACE, at most
4,000, and sets FABRIC_STATUS [0] where it lies below PACE_FLOOR; REFCLK_LOST sets FABRIC_STATUS [1] and PACE to 0; with REFCLK
present PLL_UNLOCK sets FABRIC_STATUS [2]; either leaves every leg without gate drive and no group placing claims; PLL_RELOCK
clears both bits and holds the legs for the next epoch boundary; a lost lane clock stops its own island only. An accepted
ENSIGN_LAT_CLEAR of 1 zeroes the latencies. (04_fabric_and_timing.md R90, R92, R93, R96.) -/
def Obligations.FabricPaceAndClock : Prop :=
  (∀ (s : State) (chains : List Nat), s.powered = true → bit (s.nat Reg.FABRIC_STATUS) 1 = false →
    ∃ t, exec (.paceMeasure chains) s = .next t ∧
      t.nat Reg.PACE = min (leastOf ((List.range 7).map (regionPace chains))) 4000 ∧
      (leastOf ((List.range 7).map (regionPace chains)) < s.nat Reg.PACE_FLOOR → bit (t.nat Reg.FABRIC_STATUS) 0 = true)) ∧
  (∀ s : State, s.powered = true → bit (s.nat Reg.FABRIC_STATUS) 1 = false →
    ∃ t, exec .refclkLost s = .next t ∧ bit (t.nat Reg.FABRIC_STATUS) 1 = true ∧ t.nat Reg.PACE = 0 ∧
      (∀ n : Fin 32, t.hardOff n = true) ∧ ∀ g : Fin 4, t.groups[g].claims = false) ∧
  (∀ s : State, s.powered = true → bit (s.nat Reg.FABRIC_STATUS) 1 = false → bit (s.nat Reg.FABRIC_STATUS) 2 = false →
    ∃ t, exec .pllUnlock s = .next t ∧ bit (t.nat Reg.FABRIC_STATUS) 2 = true ∧ (∀ n : Fin 32, t.hardOff n = true) ∧
      ∀ g : Fin 4, t.groups[g].claims = false) ∧
  (∀ s : State, s.powered = true → s.clockLost = true →
    ∃ t, exec .pllRelock s = .next t ∧ bit (t.nat Reg.FABRIC_STATUS) 1 = false ∧ bit (t.nat Reg.FABRIC_STATUS) 2 = false ∧
      t.fab.clockHold = true) ∧
  (∀ (s : State) (i : Nat), s.powered = true → 4 ≤ i → i ≤ 6 →
    ∃ t, exec (.laneClockLost i) s = .next t ∧ t.nat (Reg.ISLAND_STATE i) = 3 ∧
      ∀ k, k ≠ Reg.ISLAND_STATE i → t.get k = s.get k) ∧
  (∀ (s : State) (h : Hdr), Accepts s h Reg.ENSIGN_LAT_CLEAR 1 →
    ∃ t, exec (.ensignLatClear h 1) s = .next t ∧ Answered t h .ok ∧ t.nat Reg.LAT_EVENT_TO_RING = 0 ∧
      t.nat Reg.LAT_EPOCH_TO_LOOP = 0 ∧ t.nat Reg.LAT_SAMPLE_TO_PWM = 0)

/-- At a running device: a parity error counts in its region's FAB_ERR_COUNT, with the kind 1, or 6 on the second failure, in
LAST_FAB_ERR [7:0]; a single-bit error likewise with kind 2; neither fences. An uncorrectable word, a missing end mark and a
cell stall fence the cell; a block stall fences every cell of the block; a region stall fences the region. A chip stall resets a
device that is not already held, with the fabric as cause. (04_fabric_and_timing.md R98, R101, R102, R103,
19_startup_reset_power.md R451.) -/
def Obligations.FabricErrorsFence : Prop :=
  (∀ (s : State) (r : Fin 7) (l b c : Nat) (second : Bool), s.powered = true →
    ∃ t, exec (.parityError r l b c second) s = .next t ∧ t.fab = s.fab ∧
      t.nat (Reg.FAB_ERR_COUNT (r.val + 1)) = (s.nat (Reg.FAB_ERR_COUNT (r.val + 1)) + 1) % 4294967296 ∧
      field (t.nat Reg.LAST_FAB_ERR) 7 0 = if second then 6 else 1) ∧
  (∀ (s : State) (r : Fin 7) (l b c : Nat), s.powered = true →
    ∃ t, exec (.ensignSingleBitError r l b c) s = .next t ∧ t.fab = s.fab ∧
      t.nat (Reg.FAB_ERR_COUNT (r.val + 1)) = (s.nat (Reg.FAB_ERR_COUNT (r.val + 1)) + 1) % 4294967296 ∧
      field (t.nat Reg.LAST_FAB_ERR) 7 0 = 2) ∧
  (∀ (s : State) (r : Fin 7) (b c : Nat), s.powered = true →
    (∃ t, exec (.ensignUncorrectable r b c) s = .next t ∧ t.fab.fenced (r.val, b, c) = true) ∧
    (∃ t, exec (.missingEndMark r b c) s = .next t ∧ t.fab.fenced (r.val, b, c) = true) ∧
    (∃ t, exec (.cellStallTimeout r b c) s = .next t ∧ t.fab.fenced (r.val, b, c) = true)) ∧
  (∀ (s : State) (r : Fin 7) (b : Nat), s.powered = true →
    ∃ t, exec (.blockStallTimeout r b) s = .next t ∧ ∀ c, t.fab.fenced (r.val, b, c) = true) ∧
  (∀ (s : State) (r : Fin 7), s.powered = true →
    ∃ t, exec (.regionStallTimeout r) s = .next t ∧ t.fab.regions.contains r.val = true) ∧
  (∀ s : State, s.powered = true → s.power.por = false →
    ∃ t, exec .chipStallTimeout s = .next t ∧ t.power.held = true ∧ t.power.cause = 0xFF08)

/-- At a running device: a timed high side turns off at its start plus TIME_ACTIVE and dead A begins. A low side under CONST_ON
that has accepted END_OFF turns off, on the tick grid, at the latest of that moment, its sync slot where it has a predecessor,
and the previous boundary plus PERIOD_MIN, once all three have come; an END_OFF before the acceptance minimum is latched and
acted on at its end. END_ON, a latched END_ON at its acceptance minimum and ON_MAX end a high side under CONST_OFF; ON_MAX
counts, unless a latched END_ON ends in the same tick or before. A timed low side ends once its length, its slot and PERIOD_MIN
have come. The moment of END_OFF and END_ON is the crossing the engine has predicted, where it has predicted one (the model's
reading, log entry 15). (05_phase_pwm.md R108, R109, R110, R123, R129, 06_phase_loops.md R141.) -/
def Obligations.ConductionsEnd : Prop :=
  let q : State → Fin 32 → Nat := fun s n => max (if s.hasPred n then s.legs[n].slot.getD 0 else 0)
    (s.legs[n].bnd + nsFt s.legs[n].act.periodMin)
  let free : State → Fin 32 → Prop := fun s n => s.hasPred n = false ∨ s.legs[n].slotDone = true
  (∀ (s : State) (n : Fin 32), s.powered = true →
    (s.legs[n].iv = .high → s.legs[n].act.carrier = 0 →
      ∃ t, exec (.timeActiveEnd n) s = .next t ∧ t.legs[n].iv = .deadA ∧
        t.legs[n].start = s.legs[n].start + s.legs[n].timeActive ∧ t.legs[n].onTime = s.legs[n].timeActive) ∧
    (s.legs[n].iv = .low → s.legs[n].act.carrier = 1 → s.legs[n].minDone = true → free s n →
      ∃ t, exec (.timeActiveEnd n) s = .next t ∧ t.legs[n].iv = .deadB ∧
        t.legs[n].start = (if q s n ≤ s.legs[n].start + s.legs[n].timeActive
          then s.legs[n].start + s.legs[n].timeActive else tickUp (q s n)))) ∧
  (∀ (s : State) (n : Fin 32) (x : Nat), s.powered = true → s.legs[n].iv = .low → s.legs[n].act.carrier = 0 →
    s.legs[n].endAt = none →
    let x' := s.legs[n].endMoment x
    ∃ t, exec (.endOff n x) s = .next t ∧
      (s.legs[n].acceptEnd ≤ x' → s.legs[n].minDone = true → free s n →
        t.legs[n].iv = .deadB ∧ t.legs[n].start = tickUp (max x' (q s n))) ∧
      (s.legs[n].acceptEnd ≤ x' → s.legs[n].minDone = false → t.legs[n].iv = .low ∧ t.legs[n].accepted = some x') ∧
      (x' < s.legs[n].acceptEnd → t.legs[n].iv = .low ∧ t.legs[n].endAt = some x')) ∧
  (∀ (s : State) (n : Fin 32) (x : Nat), s.powered = true → s.legs[n].iv = .high → s.legs[n].act.carrier = 1 →
    s.legs[n].endAt = none →
    let x' := s.legs[n].endMoment x
    ∃ t, exec (.endOn n x) s = .next t ∧
      (s.legs[n].acceptEnd ≤ x' → t.legs[n].iv = .deadA ∧ t.legs[n].start = tickUp x') ∧
      (x' < s.legs[n].acceptEnd → t.legs[n].iv = .high ∧ t.legs[n].endAt = some x')) ∧
  (∀ (s : State) (n : Fin 32), s.powered = true → s.legs[n].endAt ≠ none → s.legs[n].accepted = none →
    (s.legs[n].iv = .high → s.legs[n].act.carrier = 1 →
      ∃ t, exec (.acceptanceMinimumEnd n) s = .next t ∧ t.legs[n].iv = .deadA ∧
        t.legs[n].start = tickUp s.legs[n].acceptEnd) ∧
    (s.legs[n].iv = .low → s.legs[n].act.carrier = 0 → s.legs[n].minDone = true → free s n →
      ∃ t, exec (.acceptanceMinimumEnd n) s = .next t ∧ t.legs[n].iv = .deadB ∧
        t.legs[n].start = tickUp (max s.legs[n].acceptEnd (q s n)))) ∧
  (∀ (s : State) (n : Fin 32), s.powered = true → s.legs[n].iv = .high → s.legs[n].act.carrier = 1 →
    let m := s.legs[n].start + nsFt s.legs[n].act.onMax
    ∃ t, exec (.onMaxHit n) s = .next t ∧ t.legs[n].iv = .deadA ∧
      (s.legs[n].endAt = none ∨ tickUp m < tickUp s.legs[n].acceptEnd → t.legs[n].start = m ∧
        t.nat (Reg.ON_MAX_HIT_CNT (legG n) (legE n)) = (s.nat (Reg.ON_MAX_HIT_CNT (legG n) (legE n)) + 1) % 4294967296) ∧
      (s.legs[n].endAt ≠ none → tickUp s.legs[n].acceptEnd ≤ tickUp m →
        t.legs[n].start = tickUp s.legs[n].acceptEnd ∧
        t.nat (Reg.ON_MAX_HIT_CNT (legG n) (legE n)) = s.nat (Reg.ON_MAX_HIT_CNT (legG n) (legE n)))) ∧
  (∀ (s : State) (n : Fin 32), s.powered = true → s.legs[n].iv = .low → free s n →
    (s.legs[n].act.carrier = 1 → s.legs[n].timedDone = true →
      ∃ t, exec (.periodMinExpiry n) s = .next t ∧ t.legs[n].iv = .deadB ∧
        t.legs[n].start = (if q s n ≤ s.legs[n].start + s.legs[n].timeActive
          then s.legs[n].start + s.legs[n].timeActive else tickUp (q s n))) ∧
    (∀ a, s.legs[n].act.carrier = 0 → s.legs[n].accepted = some a →
      ∃ t, exec (.periodMinExpiry n) s = .next t ∧ t.legs[n].iv = .deadB ∧ t.legs[n].start = tickUp (max a (q s n)))) ∧
  (∀ (s : State) (n : Fin 32), s.powered = true → s.legs[n].slot ≠ none →
    ∃ t, exec (.syncSlot n) s = .next t ∧ t.legs[n].slotDone = true ∧
      (s.legs[n].iv = .low → s.legs[n].minDone = true → s.legs[n].act.carrier = 1 → s.legs[n].timedDone = true →
        t.legs[n].iv = .deadB) ∧
      (s.legs[n].iv = .low → s.legs[n].minDone = true → s.legs[n].act.carrier = 0 → s.legs[n].accepted ≠ none →
        t.legs[n].iv = .deadB))

/-- At a running device: the first registration of SWN at its target level, between DT_MIN and DT_MAX after the edge, ends a
sensed dead time with a turn-on at the first tick at or after it, and DT_A_LAST or DT_B_LAST holds the interval; after dead A of
CONST_ON the low side conducts. A registration before DT_MIN is kept, and the dead time ends at DT_MIN. A forced edge ends at
DT_MIN and counts in FORCED_EDGE_CNT; under FIXED every edge ends at DT_MAX without a count; a sensed edge without SWN ends at
DT_MAX and counts in HARD_SWITCH_CNT. (05_phase_pwm.md R118, R119, R131.) -/
def Obligations.DeadTimesEnd : Prop :=
  (∀ (s : State) (n : Fin 32) (x : Nat), s.powered = true → s.legs[n].senses = true → s.legs[n].swnHit = none →
    x ≤ s.legs[n].start + nsFt s.legs[n].act.dtMax →
    (s.legs[n].iv = .deadA → ∃ t, exec (.swnRegistered n false x) s = .next t ∧
      (s.legs[n].start + nsFt s.legs[n].act.dtMin ≤ x →
        t.nat (Reg.DT_A_LAST (legG n) (legE n)) = tickUp x - s.legs[n].start ∧
        (s.legs[n].act.carrier = 0 → s.hardOff n = false → t.legs[n].iv = .low ∧ t.legs[n].start = tickUp x)) ∧
      (x < s.legs[n].start + nsFt s.legs[n].act.dtMin → t.legs[n].iv = .deadA ∧ t.legs[n].swnHit = some x)) ∧
    (s.legs[n].iv = .deadB → s.legs[n].turnOn = none → ∃ t, exec (.swnRegistered n true x) s = .next t ∧
      (s.legs[n].start + nsFt s.legs[n].act.dtMin ≤ x →
        t.nat (Reg.DT_B_LAST (legG n) (legE n)) = tickUp x - s.legs[n].start ∧ t.legs[n].turnOn = some (tickUp x)) ∧
      (x < s.legs[n].start + nsFt s.legs[n].act.dtMin → t.legs[n].turnOn = none ∧ t.legs[n].swnHit = some x))) ∧
  (∀ (s : State) (n : Fin 32), s.powered = true → s.legs[n].iv = .deadA → s.legs[n].act.swnMode = 0 →
    s.legs[n].forcedA = true →
    ∃ t, exec (.dtMinExpiry n) s = .next t ∧
      t.nat (Reg.FORCED_EDGE_CNT (legG n) (legE n)) = (s.nat (Reg.FORCED_EDGE_CNT (legG n) (legE n)) + 1) % 4294967296 ∧
      t.nat (Reg.DT_A_LAST (legG n) (legE n)) =
        tickUp (s.legs[n].start + nsFt s.legs[n].act.dtMin) - s.legs[n].start) ∧
  (∀ (s : State) (n : Fin 32), s.powered = true → s.legs[n].iv = .deadB → s.legs[n].turnOn = none →
    s.legs[n].senses = true → s.legs[n].swnHit ≠ none →
    ∃ t, exec (.dtMinExpiry n) s = .next t ∧
      t.legs[n].turnOn = some (tickUp (s.legs[n].start + nsFt s.legs[n].act.dtMin)) ∧
      t.nat (Reg.HARD_SWITCH_CNT (legG n) (legE n)) = s.nat (Reg.HARD_SWITCH_CNT (legG n) (legE n)) ∧
      t.nat (Reg.FORCED_EDGE_CNT (legG n) (legE n)) = s.nat (Reg.FORCED_EDGE_CNT (legG n) (legE n))) ∧
  (∀ (s : State) (n : Fin 32), s.powered = true → s.legs[n].iv = .deadB → s.legs[n].turnOn = none →
    (s.legs[n].act.swnMode = 1 ∨ (s.legs[n].senses = true ∧ s.legs[n].swnHit = none)) →
    ∃ t, exec (.dtMaxExpiry n) s = .next t ∧
      t.legs[n].turnOn = some (tickUp (s.legs[n].start + nsFt s.legs[n].act.dtMax)) ∧
      t.nat (Reg.DT_B_LAST (legG n) (legE n)) =
        tickUp (s.legs[n].start + nsFt s.legs[n].act.dtMax) - s.legs[n].start ∧
      t.nat (Reg.HARD_SWITCH_CNT (legG n) (legE n)) = (if s.legs[n].act.swnMode = 1
        then s.nat (Reg.HARD_SWITCH_CNT (legG n) (legE n))
        else (s.nat (Reg.HARD_SWITCH_CNT (legG n) (legE n)) + 1) % 4294967296))

/-- At a running device a real boundary of a leg that is not forced off comes at the turn-on the dead time gave, and a virtual
boundary of an idle leg at the moment of its chain or of its last period: either counts in BOUNDARY_COUNT, puts the interval
since the last boundary into PERIOD_MEAS where 32 bits hold it, and the captured command word into CMD_LAST. No binding waits
for a rebind here. (05_phase_pwm.md R108, R113, R116, R131.) -/
def Obligations.BoundariesCountAndCapture : Prop :=
  (∀ (s : State) (n : Fin 32) (x : Nat), s.powered = true → s.hardOff n = false → s.bindHeld = [] →
    s.legs[n].turnOn = some x →
    ∃ t, exec (.periodBoundary n) s = .next t ∧ t.legs[n].bnd = x ∧ t.legs[n].realSeen = true ∧
      (x - s.legs[n].bnd < 4294967296 → t.nat (Reg.PERIOD_MEAS (legG n) (legE n)) = x - s.legs[n].bnd) ∧
      t.nat (Reg.BOUNDARY_COUNT (legG n) (legE n)) = (s.nat (Reg.BOUNDARY_COUNT (legG n) (legE n)) + 1) % 4294967296 ∧
      t.nat (Reg.CMD_LAST (legG n) (legE n)) = t.legs[n].cmd ∧ t.legs[n].cmd = (s.legs[n].capture x).1.cmd) ∧
  (∀ (s : State) (n : Fin 32) (x : Nat), s.powered = true → s.legs[n].virtual = true → s.clockLost = false →
    s.bindHeld = [] → s.beh 0 ≠ .off → s.virtualAt n = some x →
    ∃ t, exec (.virtualBoundary n) s = .next t ∧ t.legs[n].bnd = x ∧
      (x - s.legs[n].bnd < 4294967296 → t.nat (Reg.PERIOD_MEAS (legG n) (legE n)) = x - s.legs[n].bnd) ∧
      t.nat (Reg.BOUNDARY_COUNT (legG n) (legE n)) = (s.nat (Reg.BOUNDARY_COUNT (legG n) (legE n)) + 1) % 4294967296 ∧
      t.nat (Reg.CMD_LAST (legG n) (legE n)) = t.legs[n].cmd ∧ t.legs[n].cmd = (s.legs[n].capture x).1.cmd)

/-- An accepted FAULT_CLEAR leaves every leg alone whose FLT_N still reads low, that is not latched, or whose bit is clear, and
clears the latch bit of every other leg; a cleared, parked leg that may run stays off at a virtual boundary at which it captures
a zero CMD and starts at one at which it captures a nonzero CMD. (05_phase_pwm.md R128.) -/
def Obligations.FaultClearRule : Prop :=
  (∀ (s : State) (h : Hdr) (g : Fin 4) (mask : Nat), Accepts s h (Reg.FAULT_CLEAR g) mask →
    ∃ t, exec (.faultClear h g mask) s = .next t ∧ Answered t h .ok ∧ ∀ i : Fin 8,
      (bit mask i = false ∨ s.legs[legOf g i].fltLow = true ∨ s.latched (legOf g i) = false →
        t.latched (legOf g i) = s.latched (legOf g i) ∧ t.legs[legOf g i] = s.legs[legOf g i]) ∧
      (bit mask i = true → s.legs[legOf g i].fltLow = false → s.latched (legOf g i) = true →
        t.latched (legOf g i) = false ∧ t.legs[legOf g i].afterFault = true)) ∧
  (∀ (s : State) (n : Fin 32) (x : Nat), s.powered = true → s.legs[n].iv = .parked → s.legs[n].afterFault = true →
    s.legMayRun n = true → s.legs[n].cmdSeen = true → s.virtualAt n = some x →
    ∃ t, exec (.virtualBoundary n) s = .next t ∧
      ((s.legs[n].capture x).1.cmd = 0 → t.legs[n].iv = .parked ∧ t.legs[n].afterFault = true) ∧
      ((s.legs[n].capture x).1.cmd ≠ 0 → t.legs[n].iv ≠ .parked ∧ t.legs[n].afterFault = false))

/-- An accepted OVERRIDE reads back and goes into the leg's shadow with CAPTURE_STATUS PENDING, or, where ARM_HOLD holds the
leg, into its hold buffer with CAPTURE_STATUS HELD. Releasing a leg, by ARM_RELEASE or by clearing its ARM_HOLD bit, moves what
its buffer holds into its shadow and empties the buffer. COUNT_CLEAR zeroes the nine counters of the legs named and no other
element. (05_phase_pwm.md R116, R117, R121, R130.) -/
def Obligations.LegWrites : Prop :=
  (∀ (s : State) (h : Hdr) (n : Fin 32) (v x : Nat), Accepts s h (Reg.OVERRIDE (legG n) (legE n)) v →
    ∃ t, exec (.overrideWrite h n v x) s = .next t ∧ Answered t h .ok ∧ t.nat (Reg.OVERRIDE (legG n) (legE n)) = v ∧
      (s.armHeld n = false → t.nat (Reg.CAPTURE_STATUS (legG n) (legE n)) = 1 ∧
        t.legs[n].shadow = s.legs[n].shadow ++ [⟨x, .ovr v, false, false, false⟩]) ∧
      (s.armHeld n = true → t.nat (Reg.CAPTURE_STATUS (legG n) (legE n)) = 2 ∧
        t.legs[n].shadow = s.legs[n].shadow ∧ t.legs[n].holdOvr = some v)) ∧
  (∀ (s : State) (h : Hdr) (g : Fin 4) (mask x : Nat), Accepts s h (Reg.ARM_HOLD g) mask →
    ∃ t, exec (.armHoldWrite h g mask x) s = .next t ∧ Answered t h .ok ∧ t.nat (Reg.ARM_HOLD g) = mask ∧ ∀ i : Fin 8,
      (bit (s.nat (Reg.ARM_HOLD g)) i = true → bit mask i = false →
        t.legs[legOf g i].holdCfg = none ∧ t.legs[legOf g i].holdOvr = none) ∧
      (bit (s.nat (Reg.ARM_HOLD g)) i = false ∨ bit mask i = true → t.legs[legOf g i] = s.legs[legOf g i])) ∧
  (∀ (s : State) (h : Hdr) (g : Fin 4) (mask x : Nat), Accepts s h (Reg.ARM_RELEASE g) mask →
    ∃ t, exec (.armRelease h g mask x) s = .next t ∧ Answered t h .ok ∧ ∀ i : Fin 8,
      (bit mask i = true → t.legs[legOf g i].holdCfg = none ∧ t.legs[legOf g i].holdOvr = none ∧
        t.legs[legOf g i].shadow = s.legs[legOf g i].shadow ++
          (s.legs[legOf g i].holdCfg.toList.map fun c => ⟨x, .cfg c, false, false, false⟩) ++
          (s.legs[legOf g i].holdOvr.toList.map fun v => ⟨x, .ovr v, false, false, false⟩)) ∧
      (bit mask i = false → t.legs[legOf g i] = s.legs[legOf g i])) ∧
  (∀ (s : State) (h : Hdr) (g : Fin 4) (mask : Nat), Accepts s h (Reg.COUNT_CLEAR g) mask →
    ∃ t, exec (.countClear h g mask) s = .next t ∧ Answered t h .ok ∧
      (∀ i : Fin 8, bit mask i = true → ∀ k ∈ legCounters (legOf g i), t.nat k = 0) ∧
      (∀ k, (∀ i : Fin 8, bit mask i = true → k ∉ legCounters (legOf g i)) → k ≠ Reg.DICT_RX_COUNT →
        k ≠ Reg.DICT_REJECT_COUNT → t.get k = s.get k))

/-- At a running device: FLT_N low for 25 ns or more counts once and latches and parks the leg, its group or all 32 legs as
FLT_SCOPE says; under 10 ns it changes nothing; its rise only ends the low level. A SYNC_IN pulse of 25 ns or more under PIN
clears SYNC_LOST; SYNC_LOST under PIN or INTERNAL sets it and drops the slots. A leg that is neither parked nor latched and
whose engine falls silent is parked, its engine's SILENCE_CNT counts, and it stays silent where no spare takes it over.
(05_phase_pwm.md R124, R127, R134.) -/
def Obligations.FaultsLatch : Prop :=
  (∀ (s : State) (n : Fin 32) (w : Nat), s.powered = true → 25 ≤ w →
    ∃ t, exec (.fltNAssert n true w) s = .next t ∧ t.legs[n].fltLow = true ∧
      t.nat (Reg.FAULT_CNT (legG n) (legE n)) = (s.nat (Reg.FAULT_CNT (legG n) (legE n)) + 1) % 4294967296 ∧
      ∀ m : Fin 32, (m = n ∨ (s.nat (Reg.FLT_SCOPE (legG n)) = 1 ∧ legGroup m = legGroup n) ∨ 2 ≤ s.nat (Reg.FLT_SCOPE (legG n)) →
          t.latched m = true ∧ t.legs[m].iv = .parked ∧ t.gatePins m = (false, false))) ∧
  (∀ (s : State) (n : Fin 32) (w : Nat), s.powered = true →
    (w < 10 → ∃ t, exec (.fltNAssert n true w) s = .next t ∧ t = s) ∧
    (∃ t, exec (.fltNAssert n false w) s = .next t ∧ t.legs[n].fltLow = false ∧ t.latched n = s.latched n)) ∧
  (∀ (s : State) (g : Fin 4) (x w : Nat), s.powered = true → 25 ≤ w → s.nat (Reg.SYNC_SRC g) = 1 →
    ∃ t, exec (.syncInPulse g x w) s = .next t ∧ bit (t.nat (Reg.SYNC_STATUS g)) 0 = false ∧
      t.legs[legOf g 0].predAt = some x) ∧
  (∀ (s : State) (g : Fin 4), s.powered = true → s.nat (Reg.SYNC_SRC g) ≠ 0 →
    ∃ t, exec (.syncLost g) s = .next t ∧ bit (t.nat (Reg.SYNC_STATUS g)) 0 = true ∧
      t.legs[legOf g 0].predAt = none ∧ t.legs[legOf g 0].slots = []) ∧
  (∀ (s : State) (n : Fin 32), s.powered = true → s.nat (Reg.LEG_STATE (legG n) (legE n)) ≠ 0 →
    s.nat (Reg.LEG_STATE (legG n) (legE n)) ≠ 4 →
    ∃ t, exec (.cmdSilenceTimeout n) s = .next t ∧ t.legs[n].iv = .parked ∧
      (s.rebinds = [] → s.autoSpare = none → t.legs[n].silent = true) ∧
      (∀ e, s.rebinds = [] → s.engineOf n = some e →
        t.nat (Reg.SILENCE_CNT e) = (s.nat (Reg.SILENCE_CNT e) + 1) % 4294967296))

/-- The ends of conductions and dead times of a leg change no other leg, nothing of any group, engine, outlet, load switch,
ring, meter, key, mode or the supply, nothing staged, answered or sent, and no element outside the records of the leg's own
group. (05_phase_pwm.md R107, R109, R110, R118, R131.) -/
def Obligations.LegEventsFrame : Prop :=
  let F : Fin 32 → Instr → Prop := fun n i => ∀ s t : State, exec i s = .next t →
    (∀ m : Fin 32, m ≠ n → t.legs[m] = s.legs[m]) ∧ (∀ k, keyG k ≠ 0x10 + legG n → t.get k = s.get k) ∧
    t.dict = s.dict ∧ t.modes = s.modes ∧ t.fab = s.fab ∧ t.ev = s.ev ∧ t.engines = s.engines ∧ t.groups = s.groups ∧
    t.site = s.site ∧ t.ring = s.ring ∧ t.outs = s.outs ∧ t.cools = s.cools ∧ t.ls = s.ls ∧ t.pair = s.pair ∧ t.von = s.von ∧
    t.bill = s.bill ∧ t.trust = s.trust ∧ t.upd = s.upd ∧ t.power = s.power ∧ t.sent = s.sent
  ∀ n, F n (.timeActiveEnd n) ∧ (∀ x, F n (.endOff n x)) ∧ (∀ x, F n (.endOn n x)) ∧ F n (.acceptanceMinimumEnd n) ∧
    F n (.onMaxHit n) ∧ F n (.periodMinExpiry n) ∧ F n (.syncSlot n) ∧ (∀ b x, F n (.swnRegistered n b x)) ∧
    F n (.dtMinExpiry n) ∧ F n (.dtMaxExpiry n)

/-- At a running device with no rebind under way, a sample of a running engine in force on a leg puts the group's two voltages
into V_IN_MEAS and V_OUT_MEAS and delivers the command it computed into the leg's shadow. An edge sample adds its current to the
last three samples and, where the last completed period is covered, puts that period's average into I_MEAS. (06_phase_loops.md
R138, R139, R140, R141, 05_phase_pwm.md R111, R116.) -/
def Obligations.LoopAndEdgeSamples : Prop :=
  (∀ (s : State) (e : Fin 38) (n : Fin 32) (x : Nat) (vin vout : Int) (pin : Nat), s.powered = true → s.rebinds = [] →
    s.engineFenced e = false → s.beh 6 = .run → s.enginesRun = true → s.nat (Reg.BIND_ACTIVE e) = n → s.engineOf n = some e →
    ∃ t, exec (.loopSample e x vin vout pin) s = .next t ∧
      t.int (Reg.V_IN_MEAS (legG n)) = voltOf vin (s.int (Reg.VB_FS (legG n))) (decimation (s.nat (Reg.LOOP_RATE e))) ∧
      t.int (Reg.V_OUT_MEAS (legG n)) = voltOf vout (s.int (Reg.VO_FS (legG n))) (decimation (s.nat (Reg.LOOP_RATE e))) ∧
      t.legs[n].cmdSeen = true ∧
      t.legs[n].shadow.getLast? =
        some ⟨x, .cmd t.engines[e].lastCmd t.engines[e].lastA t.engines[e].lastB e, false, false, false⟩) ∧
  (∀ (s : State) (n : Fin 32) (x : Nat) (count : Int), s.powered = true →
    ∃ t, exec (.edgeSample n x count) s = .next t ∧
      t.legs[n].edges = (s.legs[n].edges ++ [(x - 960, s.edgeCurrent n count)]).drop ((s.legs[n].edges.length + 1) - 3) ∧
      (s.legs[n].perOpen = true → s.legs[n].perEnd ≤ x - 960 → s.legs[n].perStart < s.legs[n].perEnd →
        t.int (Reg.I_MEAS (legG n) (legE n)) = Int.tdiv (s.legs[n].accPrev +
          s.edgeCurrent n count * overlap (x - 2240) (x - 960) s.legs[n].perStart s.legs[n].perEnd)
          ((s.legs[n].perEnd - s.legs[n].perStart : Nat) : Int)))

/-- At a running device: a GRANT delivery that differs from the target becomes it, at once with the command where it lies nearer
zero or on the other side, else as a ramp from the present command. A pin fault sets SETP_FAULT and takes the target to zero;
its end clears the bit. An NTC reading outside its range shuts the leg down with its sensor bit, one at or above OT_SHUT shuts
it down with its warning and its overtemperature bit, each shutdown counts, and the engine that drives the leg in RUN delivers
CMD 0 to it; T_STAGE shows every valid reading; a returned sensor below OT_SHUT − OT_HYST lets the leg return. At a running
device: a shed decision whose candidate has held for SHED_DWELL samples lowers N, opens the window and counts; the window closes
once the last leaving leg has been held off, and not before. An accepted ENGINE_REBIND is refused with 0x0001, 0x0002, 0x0003 or
0x0100, in this order, where the engines class, the BIND of the engine, the standby or a fence forbids it, and otherwise stays
PENDING with a rebind under way. After eight matching samples the new engine's binding is in force and the old engine's is not;
once recorded, the bindings stand in BIND; where the new engine's first CMD has been captured as well, or the target is a
cooling loop, the command completes with the engines and the BOUNDARY_COUNT of that capture, and otherwise the rebind waits for
the capture. (06_phase_loops.md R136, R137, R145, R146, R148, R149, R151.) -/
def Obligations.GroupsTakeSetpointsAndShed : Prop :=
  (∀ (s : State) (g : Fin 4) (x : Nat), s.powered = true → s.nat (Reg.SETP_SRC g) = 0 → s.groups[g].portStopped = false →
    s.grantTarget g (s.int (Reg.PG_GRANT (g.val + 1))) ≠ s.groups[g].target →
    ∃ t, exec (.setpointDelivery g x) s = .next t ∧
      t.groups[g].target = s.grantTarget g (s.int (Reg.PG_GRANT (g.val + 1))) ∧ t.int (Reg.I_GROUP_CMD g) = t.groups[g].cmd ∧
      (nearer t.groups[g].target (s.groups[g].rampValue x) = true → t.groups[g].target ≠ s.groups[g].rampValue x →
        t.groups[g].cmd = t.groups[g].target ∧ t.groups[g].rampNs = 0) ∧
      (nearer t.groups[g].target (s.groups[g].rampValue x) = false → t.groups[g].cmd = s.groups[g].rampValue x ∧
        t.groups[g].rampFrom = s.groups[g].rampValue x ∧ t.groups[g].rampAt = x ∧ t.groups[g].rampNs = s.rampTime g)) ∧
  (∀ (s : State) (g : Fin 4), s.powered = true → s.nat (Reg.SETP_SRC g) ≠ 0 →
    ∃ t, exec (.setpFault g) s = .next t ∧ bit (t.nat (Reg.SETP_FAULT g)) 0 = true ∧
      (bit (s.nat (Reg.SETP_FAULT g)) 0 = false → t.groups[g].target = 0)) ∧
  (∀ (s : State) (g : Fin 4), s.powered = true →
    ∃ t, exec (.setpFaultClear g) s = .next t ∧ bit (t.nat (Reg.SETP_FAULT g)) 0 = false) ∧
  (∀ (s : State) (n : Fin 32) (ohms : Nat) (c : Int), s.powered = true →
    ntcTemp ohms (s.nat (Reg.NTC_RNOM (legG n) (legE n))) (s.nat (Reg.NTC_BETA (legG n) (legE n))) = c →
    ∃ t, exec (.ntcSample n ohms) s = .next t ∧
      let shut := t.legShut n = true ∧
        t.nat (Reg.OT_SHUT_CNT (legG n) (legE n)) = (s.nat (Reg.OT_SHUT_CNT (legG n) (legE n)) + 1) % 4294967296 ∧
        ∀ e, s.engineOf n = some e → s.isDriven n = true → s.beh 6 = .run → s.enginesRun = true →
          t.legs[n].shadow = s.legs[n].shadow ++ [⟨s.pwmNow, .cmd 0 false false e, false, false, false⟩]
      (c < -4500 ∨ 20000 < c → bit (s.nat (Reg.OT_STATUS (legG n))) (16 + n.val % 8) = false →
        bit (t.nat (Reg.OT_STATUS (legG n))) (16 + n.val % 8) = true ∧ shut) ∧
      (-4500 ≤ c → c ≤ 20000 → t.int (Reg.T_STAGE (legG n) (legE n)) = c ∧
        (s.int (Reg.OT_SHUT (legG n)) ≤ c → bit (t.nat (Reg.OT_STATUS (legG n))) (n.val % 8) = true ∧
          (s.legShut n = false → shut)))) ∧
  (∀ (s : State) (n : Fin 32), s.powered = true → bit (s.nat (Reg.OT_STATUS (legG n))) (16 + n.val % 8) = true →
    s.int (Reg.T_STAGE (legG n) (legE n)) < s.int (Reg.OT_SHUT (legG n)) - s.int (Reg.OT_HYST (legG n)) →
    ∃ t, exec (.sensorValidReturn n) s = .next t ∧ bit (t.nat (Reg.OT_STATUS (legG n))) (16 + n.val % 8) = false ∧
      bit (t.nat (Reg.OT_STATUS (legG n))) (8 + n.val % 8) = false ∧ t.legs[n].otOut = false) ∧
  (∀ (s : State) (g : Fin 4), s.powered = true → s.nat (Reg.SHED_EN g) = 1 → s.groups[g].candN < s.groups[g].nTarget →
    s.nat (Reg.SHED_DWELL g) ≤ s.groups[g].candRun →
    ∃ t, exec (.shedDecision g) s = .next t ∧ t.groups[g].nTarget = s.groups[g].candN ∧
      t.groups[g].nBefore = s.groups[g].nTarget ∧ t.groups[g].windowOpen = true ∧ t.nat (Reg.SHED_STATE g) = 1 ∧
      t.nat (Reg.SHED_CNT g) = (s.nat (Reg.SHED_CNT g) + 1) % 4294967296) ∧
  (∀ (s : State) (g : Fin 4), s.powered = true → s.groups[g].windowOpen = true →
    ∃ t, exec (.shedWindowClose g) s = .next t ∧
      (s.groups[g].windowFrom.isSome = true → t.groups[g].windowOpen = false ∧ t.nat (Reg.SHED_STATE g) ≠ 1) ∧
      (s.groups[g].windowFrom = none → t.groups[g].windowOpen = true)) ∧
  (∀ (s : State) (h : Hdr) (a : Nat), Accepts s h (cmdBase .engineRebind + 1) a →
    let e := field a 15 8
    let off := s.beh 6 = .service ∨ s.beh 6 = .idle ∨ s.beh 6 = .off
    ∃ t, exec (.engineRebind h a) s = .next t ∧ Answered t h .ok ∧
      (off → (t.res .engineRebind).status = .refused ∧ (t.res .engineRebind).detail = 1) ∧
      (¬off → s.nat (Reg.BIND e) ≠ 0xFF → (t.res .engineRebind).status = .refused ∧ (t.res .engineRebind).detail = 2) ∧
      (¬off → s.nat (Reg.BIND e) = 0xFF → s.isStandby = true →
        (t.res .engineRebind).status = .refused ∧ (t.res .engineRebind).detail = 3) ∧
      (¬off → s.nat (Reg.BIND e) = 0xFF → s.isStandby = false → s.engineFenced e = true →
        (t.res .engineRebind).status = .refused ∧ (t.res .engineRebind).detail = 0x100) ∧
      (¬off → s.nat (Reg.BIND e) = 0xFF → s.isStandby = false → s.engineFenced e = false →
        (t.res .engineRebind).status = .pending ∧ ∃ r ∈ t.rebinds, r.newE = e ∧ r.target = field a 7 0)) ∧
  (∀ (s : State) (r : Rebind) (e o : Fin 38), s.powered = true → s.rebinds = [r] → r.newE = e → r.oldE = o → o ≠ e →
    r.phase = 1 → 8 ≤ r.matched →
    ∃ t, exec (.rebindSwitch e) s = .next t ∧ t.nat (Reg.BIND_ACTIVE e) = r.target ∧ t.nat (Reg.BIND_ACTIVE o) = 0xFF) ∧
  (∀ (s : State) (r : Rebind) (e o : Fin 38), s.powered = true → s.rebinds = [r] → s.bindHeld = [] → r.newE = e →
    r.oldE = o → o ≠ e → (r.phase = 2 ∨ r.phase = 3) → r.auto = false → r.bcount < 4294967296 →
    ∃ t, exec (.rebindRecorded e) s = .next t ∧ t.nat (Reg.BIND e) = r.target ∧ t.nat (Reg.BIND o) = 0xFF ∧
      (r.phase = 3 ∨ 32 ≤ r.target → t.rebinds = [] ∧ (t.res .engineRebind).status = .completed ∧
        (t.res .engineRebind).value = e + 256 * o + 4294967296 * r.bcount ∧
        (t.res .engineRebind).detail = if r.warm then 0 else 0x0102) ∧
      (r.phase = 2 → r.target < 32 → t.rebinds = [{ r with phase := 4 }]))

/-- At a running device whose phases run: a feedback change that leaves the old route open in OPENING moves the group on, to
IDLE where no new route is selected and otherwise to CLOSING or CONNECTED; one that closes the new route in CLOSING makes the
group CONNECTED. A feedback timeout in RAMP_DOWN, OPENING or CLOSING is a FAULT with the group parked. (01_site_and_roles.md
R31, R32.) -/
def Obligations.RoutesSwitch : Prop :=
  (∀ (s : State) (g : Fin 4) (fb : Fin 8) (lv : Bool), s.powered = true → s.phasesRun = true →
    let u : State := { s with matrixFb := s.matrixFb.set fb lv }
    ∃ t, exec (.mtxFbChange fb lv) s = .next t ∧ t.matrixFb = u.matrixFb ∧
      (s.routeState g = 3 → u.nowClosed g = true → t.routeState g = 4) ∧
      (s.routeState g = 2 → u.nowClosed g = false → s.routeVal g s.groups[g].routeNext = none →
        t.routeState g = 0 ∧ t.groups[g].routeNow = 0) ∧
      (∀ v, s.routeState g = 2 → u.nowClosed g = false → s.routeVal g s.groups[g].routeNext = some v →
        t.groups[g].routeNow = s.groups[g].routeNext ∧ t.groups[g].nowVal = v ∧
        t.routeState g = if t.nowClosed g then 4 else 3)) ∧
  (∀ (s : State) (g : Fin 4), s.powered = true → s.phasesRun = true →
    (s.routeState g = 1 ∨ s.routeState g = 2 ∨ s.routeState g = 3) →
    ∃ t, exec (.routeFbTimeout g) s = .next t ∧ t.routeState g = 5 ∧ t.groups[g].parked = true)

/-- At a running device: the claims of an outlet take the session's values. Inserting the claim block keeps the node's own block
in the snapshot, shows every outlet's claim, and, for a member on the marks, puts the block into the wave queue of each output
the broadcast plan names, a hoist's CLOSE_MARK behind it. Off the marks no block is taken; on them a block from outside the
roster counts as foreign, one of another epoch or after the freeze as late, any other is kept. A CLOSE_MARK of the epoch counts
a pass, one of the epoch before only for its launcher. The freeze fixes the snapshot: a complete wave is computed, an incomplete
one counts as missed and the node holds. (07_power_allocation.md R160, R169, R170, R178, 08_halyard_ring.md R191, R203.) -/
def Obligations.WaveAndFreeze : Prop :=
  (∀ (s : State) (o : Fin 4), s.powered = true → ∃ t, exec (.claimUpdate o) s = .next t ∧
    t.site.claims[o] = ⟨s.nat (Reg.SESSION_CEIL o), s.nat (Reg.SESSION_FLOOR o), s.outs[o].discharge⟩) ∧
  (∀ s : State, s.powered = true → s.ringQuiet = false → s.allocFenced = false → s.waitsBurgee = false →
    s.site.clearHold = false →
    (s.byMarks = true → s.isMember = true ∧ s.beh 3 ≠ .bypassed) →
    ∃ t, exec .claimBlockInsert s = .next t ∧ s.ownBlock ∈ t.site.got ∧
      (∀ o : Fin 4, t.nat (Reg.OUT_CLAIM_CEIL (o.val + 1)) = (s.outletEntry o).ceil ∧
        t.nat (Reg.OUT_CLAIM_FLOOR (o.val + 1)) = (s.outletEntry o).floor) ∧
      (s.byMarks = false → t.site.waveDone = true) ∧
      (s.byMarks = true → ∀ p ∈ s.broadcastPlan,
        (true, slotChars (slotHeader 0 (s.nat Reg.RING_ADDR) p.2 false false) s.ownBlock.encode) ∈
          t.ring.wave[(Fin.ofNat 2 p.1 : Fin 2)]) ∧
      (∀ r : Fin 2, s.byMarks = true → s.closesRing r = true →
        (false, slotChars (slotHeader 7 (s.nat Reg.RING_ADDR) 4095 false false) (closePayload s.ring.markEpoch)) ∈
          t.ring.wave[r])) ∧
  (∀ (s : State) (src : Nat) (p : List Byte), s.powered = true →
    ∃ t, exec (.waveBlockReceive src p) s = .next t ∧
      let member := s.ring.roster.any fun m => m.addr == src
      let inTime := (Block.decode p).epoch == s.epochNo % 65536 && !s.site.frozen
      (s.byMarks = false → t.site = s.site) ∧
      (s.byMarks = true → member = false → t.nat Reg.FOREIGN_SLOT_CNT = (s.nat Reg.FOREIGN_SLOT_CNT + 1) % 4294967296 ∧ t.site = s.site) ∧
      (s.byMarks = true → member = true → inTime = false →
        t.nat Reg.LATE_BLOCK_CNT = (s.nat Reg.LATE_BLOCK_CNT + 1) % 4294967296 ∧ t.site = s.site) ∧
      (s.byMarks = true → member = true → inTime = true → Block.decode p ∈ t.site.got)) ∧
  (∀ (s : State) (r : Fin 2) (hops ns : Nat), s.powered = true → s.ringUp r = true →
    ∃ t, exec (.closeMark r hops s.ring.markEpoch ns) s = .next t ∧ t.ring.passes[r] = s.ring.passes[r] + 1 ∧
      (s.ring.passes[r] = 1 → t.nat (Reg.LOOP_TIME (r.val + 1)) = ns - s.ring.firstPass[r])) ∧
  (∀ (s : State) (r : Fin 2) (hops epoch ns : Nat), s.powered = true → s.ringUp r = true → epoch + 1 = s.ring.markEpoch →
    ∃ t, exec (.closeMark r hops epoch ns) s = .next t ∧ t.ring.passes = s.ring.passes ∧
      t.ring.oldPasses[r] = s.ring.oldPasses[r] + 1) ∧
  (∀ s : State, s.powered = true → s.site.frozen = false → s.allocRuns = true → (s.byMarks = true → s.isMember = true) →
    s.ringQuiet = false →
    ∃ t, exec .waveFreeze s = .next t ∧ t.site.frozen = true ∧
      (s.site.waveDone = true → t.site.toCompute = true) ∧
      (s.site.waveDone = false → t.site.hold = true ∧
        t.nat Reg.MISSED_WAVE_CNT = (s.nat Reg.MISSED_WAVE_CNT + 1) % 4294967296))

/-- At a running device: the calculation leaves its checksum in RESULT_CRC_OWN and its result for the boundary. A boundary that
is due, and a local one, which counts EPOCH_NUMBER on, releases the result, or the last safe grants while the node holds, and
shows them in the grant objects; the snapshot is open again. Isolation caps the claims at the grants in use, from the next
boundary where one is due. A budget delivery hands over E_rem and the time left. A PORT_STOP of a member stops every group
routed to the port; a GROUP_LOSS lowers the outlet's offer. (07_power_allocation.md R161, R164, R171, R174, R177, R178, R183,
R500, 08_halyard_ring.md R194.) -/
def Obligations.GrantsAtBoundaries : Prop :=
  (∀ (s : State) (ns : Nat), s.powered = true → s.site.toCompute = true → s.site.computed = none →
    s.allocFenced = false →
    ∃ t, exec (.allocCalcDone ns) s = .next t ∧ t.nat Reg.RESULT_CRC_OWN = (s.allocate s.site.snap).crc ∧
      t.site.computed = some ((s.allocate s.site.snap).own s.ownNode, (s.allocate s.site.snap).crc) ∧
      t.nat Reg.T_CALC_LAST = ns ∧ s.nat Reg.T_CALC_MAX ≤ t.nat Reg.T_CALC_MAX ∧ ns ≤ t.nat Reg.T_CALC_MAX) ∧
  (∀ (s : State) (c : Instr), s.powered = true → (s.byMarks = true → s.isMember = true) →
    ((c = .epochBoundary ∧ s.ring.due = true) ∨ (c = .localEpochBoundary ∧ s.byMarks = false)) →
    ∃ t, exec c s = .next t ∧ t.ring.due = false ∧ t.site.frozen = false ∧ t.site.got = [] ∧ t.site.computed = none ∧
      (c = .localEpochBoundary → t.nat Reg.EPOCH_NUMBER = (s.epochNo + 1) % 18446744073709551616) ∧
      (∀ x, s.site.hold = false → s.site.computed = some x → t.site.applied = x.1) ∧
      (s.site.hold = true → t.site.applied = s.site.safe) ∧
      ∀ o : Fin 4, t.int (Reg.OUT_GRANT o) = t.site.applied.port o ∧ t.int (Reg.PG_GRANT (o.val + 1)) = t.site.applied.group o) ∧
  (∀ s : State, s.powered = true → s.role 12 = true → s.anyRing = false → s.isMember = true → s.site.isoCap = none →
    ∃ t, exec .ringIsolated s = .next t ∧
      (s.ring.due = false → t.site.isoCap = some s.site.applied ∧ t.nat Reg.ALLOC_STATE = if s.site.hold then 2 else 3) ∧
      (s.ring.due = true → t.site.isoSoon = true)) ∧
  (∀ (s : State) (e : Fin 2), s.powered = true → s.part.variant = .l →
    ∃ t, exec (.demandBudgetDelivery e) s = .next t ∧
      ∀ o : Fin 4, o.val / 2 = e → t.site.budget[o] = s.budgetOf o) ∧
  (∀ (s : State) (src port epoch i : Nat), s.powered = true → (s.ring.roster.any fun m => m.addr == src) = true →
    portIndex port = some i →
    ∃ t, exec (.portStop src port epoch) s = .next t ∧ ∀ g : Fin 4, s.groupPort g = some (field port 11 0, i) →
      t.groups[g].portStopped = true ∧ t.groups[g].target = 0 ∧ t.groups[g].stopEpoch = epoch) ∧
  (∀ (s : State) (src lost : Nat) (o : Fin 4), s.powered = true → (s.ring.roster.any fun m => m.addr == src) = true →
    s.ownNode < 4096 →
    ∃ t, exec (.groupLoss src (s.ownNode + 4096 + 16384 * o.val) lost) s = .next t ∧
      t.site.offerLoss[o] = s.site.offerLoss[o] + 1000 * lost)

/-- At a running device with a role to share: the first arrival of a later epoch's mark from the launcher that is followed, on
an input that is not faulty, sets EPOCH_NUMBER and HOIST_ADDR, makes the boundary due and ends being hoist, and the mark goes on
with its countdown. The device's own unturned mark on ring A gives M and is stripped. A hoist whose last mark returned launches
the next epoch and queues its mark on every ring in use; one whose mark did not return stops, and one that has named its
successor launches no more. A cold start and a succession launch the next epoch and become hoist. (08_halyard_ring.md R191,
R196, R200, R201, R202.) -/
def Obligations.MarksSetTheEpoch : Prop :=
  (∀ (s : State) (r : Fin 2) (m : Mark), s.powered = true → s.wrappedAt r = false → s.byMarks = true → s.role 12 = true →
    s.ring.launcher = some (m.src, m.tag) → m.src ≠ s.nat Reg.RING_ADDR → s.ring.markEpoch < m.epoch →
    ∃ t, exec (.epochMark r m) s = .next t ∧ t.nat Reg.EPOCH_NUMBER = m.epoch ∧ t.nat Reg.HOIST_ADDR = m.src ∧
      t.ring.due = true ∧ t.isHoist = false ∧
      (s.ring.ready[r] = [] → s.ring.relay[r] = [] → s.wrappedAt (otherRing r) = false →
        t.sent.getLast? = some (.slot r .full (slotChars (slotHeader 6 m.src (hopsOn m.hops) false false + 2 * b2n m.turned)
          (Mark.payload m))))) ∧
  (∀ (s : State) (m : Mark), s.powered = true → s.wrappedAt 0 = false → m.src = s.nat Reg.RING_ADDR → m.tag = s.serialTag →
    m.turned = false →
    ∃ t, exec (.epochMark 0 m) s = .next t ∧ t.nat Reg.RING_NODES = (if m.hops = 0 then 4096 else 4096 - m.hops) ∧
      t.ring.returned = true ∧ (s.ring.ready[(0 : Fin 2)] = [] → s.ring.relay[(0 : Fin 2)] = [] → s.wrappedAt 1 = false →
        t.nat Reg.DISPLACE_CNT = (s.nat Reg.DISPLACE_CNT + 1) % 4294967296)) ∧
  (∀ (s : State) (cold : Bool), s.powered = true → s.isHoist = true → s.canLaunch = true →
    ∃ t, exec (.markLaunch cold) s = .next t ∧
      (s.ring.returned = true → s.ring.lastMark = false →
        t.nat Reg.EPOCH_NUMBER = (s.epochNo + 1) % 18446744073709551616 ∧ t.ring.due = true ∧
        t.nat Reg.HOIST_ADDR = s.nat Reg.RING_ADDR ∧ t.ring.returned = false ∧
        ∀ r : Fin 2, s.ringUp r = true → s.ringOn r = true → ∃ m : Mark, m.epoch = t.epochNo ∧ m.tag = s.serialTag ∧
          (false, slotChars (slotHeader 6 (s.nat Reg.RING_ADDR) 4095 false false) (Mark.payload m)) ∈ t.ring.wave[r]) ∧
      (s.ring.returned = true → s.ring.lastMark = true → t = s) ∧
      (s.ring.returned = false → t.isHoist = false ∧ t.ring.launcher = none ∧ t.epochNo = s.epochNo)) ∧
  (∀ s : State, s.powered = true → s.isHoist = false → s.canLaunch = true →
    ∃ t, exec (.markLaunch true) s = .next t ∧ t.isHoist = true ∧ t.ring.due = true ∧
      t.nat Reg.EPOCH_NUMBER = (s.epochNo + 1) % 18446744073709551616) ∧
  (∀ s : State, s.powered = true → s.canLaunch = true → s.isMember = true → s.isHoist = false → s.ring.launcher ≠ none →
    ∃ t, exec .hoistSuccession s = .next t ∧ t.isHoist = true ∧ t.ring.due = true ∧
      t.nat Reg.EPOCH_NUMBER = (s.epochNo + 1) % 18446744073709551616)

/-- Slots at a running device: an undecodable one, or a FULL one with a bad CRC at a good input, counts in LINK_ERR_CNT, and the
latter goes on as it came; an own item that is ready takes an EMPTY one. A device in reset repeats idle ones; in power-on reset
or without supplies nothing passes. An own item of a member is made ready by the broadcast plan; lost capacity is queued for
another node's port. WRAP marks its input faulty and counts, UNWRAP ends that and isolation. BYP_FORCE and the drive after
power-up move BYP_HOLD as its conditions say; a hoist that releases stops launching. (08_halyard_ring.md R189, R191, R194, R197,
R205, R206, R207, R209.) -/
def Obligations.SlotsAndWraps : Prop :=
  (∀ (s : State) (r : Fin 2) (d : Delim) (chars : List Byte) (ns : Nat), s.power.mains = true → s.power.por = false →
    s.modes.vaultStep < 6 →
    ∃ t, exec (.slotReceive r d chars ns) s = .next t ∧
      (s.powered = true → d = .broken → t.nat (Reg.LINK_ERR_CNT (r.val + 1)) = (s.nat (Reg.LINK_ERR_CNT (r.val + 1)) + 1) % 4294967296) ∧
      (s.powered = true → d = .full → chars.length = 127 → leAt chars 124 3 ≠ crc24 chars → s.wrappedAt r = false →
        t.nat (Reg.LINK_ERR_CNT (r.val + 1)) = (s.nat (Reg.LINK_ERR_CNT (r.val + 1)) + 1) % 4294967296 ∧
        (s.ring.ready[r] = [] → s.ring.relay[r] = [] → s.wrappedAt (otherRing r) = false →
          t.sent = s.sent ++ [.slot r .full chars])) ∧
      (∀ h p told rest, s.powered = true → d = .empty → chars.length = 127 → s.wrappedAt r = false →
        s.ring.ready[r] = (h, p, told) :: rest →
        t.ring.ready[r] = rest ∧
        Emit.slot r .full (slotChars (slotHeader 1 (s.nat Reg.RING_ADDR) h false false) p) ∈ t.sent) ∧
      (s.powered = false → d ≠ .full → s.wrappedAt r = false → s.wrappedAt (otherRing r) = false →
        t = s.send (.slot r (if d = .broken ∨ chars.length ≠ 127 then .empty else d) s.idleChars))) ∧
  (∀ (s : State) (r : Fin 2) (d : Delim) (chars : List Byte) (ns : Nat), s.power.mains = false ∨ s.power.por = true →
    exec (.slotReceive r d chars ns) s = .next s) ∧
  (∀ (s : State) (r : Fin 2) (it : Item) (hops : Nat), s.powered = true → s.ringQuiet = false → s.isMember = true →
    s.broadcastPlan = [(r.val, hops)] → s.ring.items = [it] → it.sent = [] → it.seq = none →
    ∃ t, exec (.ownEnsignRelease r) s = .next t ∧ t.ring.items = [] ∧ t.ring.seq = (s.ring.seq + 1) % 256 ∧
      t.ring.ready[r] = s.ring.ready[r] ++ [(hops, s.itemPayload it s.ring.seq, false)]) ∧
  (∀ (s : State) (g : Fin 4) (legs node i : Nat) (n : Fin 8), s.powered = true → s.groupPort g = some (node, i) →
    node ≠ s.ownNode → bit legs n = true → s.legUp (legOf g n) = false → s.isMember = true → s.routeState g = 4 →
    ∃ t, exec (.groupLossSend g legs) s = .next t ∧ ∃ it ∈ t.ring.items, it.kind = 2 ∧ it.group = g ∧
      it.port = node % 4096 + 4096 * (i / 4 + 1) + 16384 * (i % 4)) ∧
  (∀ (s : State) (r : Fin 2), s.powered = true → bit (s.nat Reg.RING_STATUS) (2 + r.val) = false →
    ∃ t, exec (.wrap r) s = .next t ∧ bit (t.nat Reg.RING_STATUS) (2 + r.val) = true ∧
      bit (t.nat Reg.RING_STATUS) r.val = false ∧
      t.nat (Reg.WRAP_CNT (r.val + 1)) = (s.nat (Reg.WRAP_CNT (r.val + 1)) + 1) % 4294967296) ∧
  (∀ (s : State) (r : Fin 2), s.powered = true → bit (s.nat Reg.RING_STATUS) (2 + r.val) = true →
    ∃ t, exec (.unwrap r) s = .next t ∧ bit (t.nat Reg.RING_STATUS) (2 + r.val) = false ∧
      bit (t.nat Reg.RING_STATUS) r.val = true ∧ t.site.isoCap = none) ∧
  (∀ (s : State) (h : Hdr), Accepts s h Reg.BYP_FORCE 1 →
    ∃ t, exec (.bypForceRelease h) s = .next t ∧ Answered t h .ok ∧ t.nat Reg.BYP_FORCE = 1 ∧
      bit (t.nat Reg.RING_STATUS) 6 = false ∧ bit (t.nat Reg.RING_STATUS) 7 = false ∧
      (s.isHoist = true → t.isHoist = false ∧ t.ring.launcher = none)) ∧
  (∀ (s : State) (h : Hdr), Accepts s h Reg.BYP_FORCE 0 →
    ∃ t, exec (.bypForceHold h) s = .next t ∧ Answered t h .ok ∧ t.nat Reg.BYP_FORCE = 0 ∧
      (s.bypConditions = true → bit (t.nat Reg.RING_STATUS) 6 = true ∧ bit (t.nat Reg.RING_STATUS) 7 = true) ∧
      (s.bypConditions = false → t.ring.bypWanted = true ∧ t.nat Reg.RING_STATUS = s.nat Reg.RING_STATUS)) ∧
  (∀ s : State, s.powered = true → s.bypConditions = true → s.nat Reg.BYP_FORCE = 0 →
    ∃ t, exec .bypHoldDrive s = .next t ∧ bit (t.nat Reg.RING_STATUS) 6 = true ∧ bit (t.nat Reg.RING_STATUS) 7 = true ∧
      t.ring.bypWanted = false)

/-- At a running device: a dictionary, Pennant, Streamer, firmware or EVICT frame for this node that is not authentic, too old
or repeated counts in AUTH_FAIL_CNT and changes nothing else. A good one is remembered as accepted: a request joins the ordering
point, Pennant records and a TRACE record pass the router and count, firmware data is kept. A waiting response is cut into the
slots of a frame to its node. (08_halyard_ring.md R195, R215, R381, R41.) -/
def Obligations.FramesTakenOnce : Prop :=
  (∀ (s : State) (f : Frame), s.powered = true → s.frameForMe f = true → s.frameBad f = true →
    ∀ c ∈ [Instr.dictRequestFrame f, .pennantRecordsFrame f, .streamerRecordsFrame f, .firmwareDataFrame f, .evict f],
      ∃ t, exec c s = .next t ∧ t.nat Reg.AUTH_FAIL_CNT = (s.nat Reg.AUTH_FAIL_CNT + 1) % 4294967296 ∧
        t.dict = s.dict ∧ t.ev = s.ev ∧ t.ring = s.ring ∧ ∀ k, k ≠ Reg.AUTH_FAIL_CNT → t.get k = s.get k) ∧
  (∀ (s : State) (f : Frame), s.powered = true → s.frameForMe f = true → s.frameBad f = false →
    (∃ t, exec (.dictRequestFrame f) s = .next t ∧ (f.src, f.id, f.epoch) ∈ t.ring.accepted ∧
      (s.answersTo (.node f.src) = true → s.dict.queue.length < 64 →
        (s.dict.queue.filter fun x => x.1 = Src.node f.src).length < 16 →
        t.dict.queue = s.dict.queue ++ [(.node f.src, requestOf f.data)])) ∧
    (∃ t, exec (.pennantRecordsFrame f) s = .next t ∧ (f.src, f.id, f.epoch) ∈ t.ring.accepted ∧
      t.nat Reg.RING_PEN_RX_CNT % 4294967296 = (s.nat Reg.RING_PEN_RX_CNT + f.data.length / 32) % 4294967296) ∧
    (∃ t, exec (.streamerRecordsFrame f) s = .next t ∧ (f.src, f.id, f.epoch) ∈ t.ring.accepted ∧
      (field (leAt f.data 8 8) 30 28 = 3 → f.data.length = 8 * traceRecordWords f.data →
        ∃ p, t.ev.lane = s.ev.lane ++ [p] ∧ p.kind = 3 ∧ p.origin = Frame.origin f)) ∧
    (∃ t, exec (.firmwareDataFrame f) s = .next t ∧ (f.src, f.id, f.epoch) ∈ t.ring.accepted ∧
      t.ring.firmware = s.ring.firmware ++ [(f.src, f.data)])) ∧
  (∀ (s : State) (node : Nat) (x : Response) (rest : List Response) (r : Nat), s.powered = true → node ≠ 0xFFFF →
    takeResponse (.node node) s.dict.responses = some (x, rest) → s.canSendFrame 2 = true → s.unicastOut = some r →
    ∃ t, exec (.dictResponseFrame node) s = .next t ∧ t.dict.responses = rest ∧
      t.ring.shared[(Fin.ofNat 2 r : Fin 2)] = s.ring.shared[(Fin.ofNat 2 r : Fin 2)] ++
        frameSlots 4 (s.frameSrc 2) 0 (s.frameBytesOf (s.frameSrc 2) s.ring.frameId node 2 x.encode))

/-- At a running hoist a good JOIN of a new address places its admission, one that fails authentication is counted and refused,
a member's LEAVE places its removal, a NEIGHBOUR_CHANGE is noted, and ROSTER_EVICT of a member places its removal. A node that
may join reads JOINING once it sends, and on retry stays REFUSED where it was; a member that leaves reads LEAVING; a ROSTER
frame fills the roster; an EVICT naming this node ends its membership, and at a hoist it places the removal of the member it
names. (08_halyard_ring.md R211, R212, R213, R214, R501.) -/
def Obligations.RosterChanges : Prop :=
  (∀ (s : State) (f : Frame), s.powered = true → s.isHoist = true → s.frameForMe f = true →
    (f.authentic = true → s.ringUsable (s.ringSlotFor f.epoch) = true → s.frameBad f = false →
      (s.ring.roster.any fun m => m.addr == leAt f.data 0 2) = false →
      ((s.ring.changes ++ s.ring.toPlace).any fun c => c.addr == leAt f.data 0 2 && c.action == 1) = false →
      ∃ t, exec (.join f) s = .next t ∧ (⟨leAt f.data 0 2, 1, 0, leAt f.data 2 4, 1⟩ : Change) ∈ t.ring.toPlace) ∧
    (f.authentic = false → ∃ t, exec (.join f) s = .next t ∧
      t.nat Reg.AUTH_FAIL_CNT = (s.nat Reg.AUTH_FAIL_CNT + 1) % 4294967296 ∧ t.ring.roster = s.ring.roster ∧
      (⟨leAt f.data 0 2, 3, 2, leAt f.data 2 4, 0⟩ : Change) ∈ t.ring.toPlace) ∧
    (s.frameBad f = false → ∀ m, (s.ring.roster.find? fun m => m.addr == f.src) = some m →
      ∃ t, exec (.leave f) s = .next t ∧ (⟨m.addr, 2, 1, m.tag, 1⟩ : Change) ∈ t.ring.toPlace) ∧
    (s.frameBad f = false → ∃ t, exec (.neighbourChange f) s = .next t ∧
      (f.src, leAt f.data 0 1, leAt f.data 1 2, leAt f.data 3 2) ∈ t.ring.reports)) ∧
  (∀ (s : State) (h : Hdr) (v : Nat) (m : Member), Accepts s h Reg.ROSTER_EVICT v → s.isHoist = true →
    (s.ring.roster.find? fun m => m.addr == v) = some m →
    ∃ t, exec (.rosterEvict h v) s = .next t ∧ Answered t h .ok ∧ (⟨m.addr, 2, 3, m.tag, 1⟩ : Change) ∈ t.ring.toPlace) ∧
  (∀ s : State, s.powered = true → s.mayJoin = true →
    (2 ≤ s.ring.marks → s.nat Reg.ROSTER_STATE ≤ 1 →
      ∃ t, exec .joinSend s = .next t ∧ t.nat Reg.ROSTER_STATE = 1 ∧ t.ring.sinceJoin = 0) ∧
    (s.nat Reg.ROSTER_STATE = 3 ∨ (s.nat Reg.ROSTER_STATE = 1 ∧ 8 ≤ s.ring.sinceJoin) →
      ∃ t, exec .joinRetry s = .next t ∧ t.nat Reg.ROSTER_STATE = s.nat Reg.ROSTER_STATE ∧ t.ring.sinceJoin = 0)) ∧
  (∀ s : State, s.powered = true → s.isMember = true → s.waitsBurgee = false → s.nat Reg.ROSTER_STATE = 2 →
    (s.role 12 = false ∨ s.nat Reg.MODE_WORD = 0x80) →
    ∃ t, exec .leaveSend s = .next t ∧ t.nat Reg.ROSTER_STATE = 4 ∧
      (s.isHoist = true → (⟨s.nat Reg.RING_ADDR, 2, 1, s.serialTag, 1⟩ : Change) ∈ t.ring.toPlace)) ∧
  (∀ (s : State) (f : Frame), s.powered = true → s.isMember = false → s.frameForMe f = true → s.frameBad f = false →
    ∃ t, exec (.roster f) s = .next t ∧ t.nat Reg.ROSTER_SIZE = t.ring.roster.length ∧
      ∀ c ∈ rosterOf f.data, c.action = 1 → epochAhead c.epoch s.epochNo = false → ⟨c.addr, c.tag⟩ ∈ t.ring.roster) ∧
  (∀ (s : State) (f : Frame), s.powered = true → s.frameForMe f = true → s.frameBad f = false →
    (s.isHoist = false → leAt f.data 0 2 = s.nat Reg.RING_ADDR →
      ∃ t, exec (.evict f) s = .next t ∧ t.nat Reg.ROSTER_STATE = 0 ∧ t.isMember = false) ∧
    (s.isHoist = true → ∀ m, (s.ring.roster.find? fun m => m.addr == leAt f.data 0 2) = some m →
      ∃ t, exec (.evict f) s = .next t ∧ (⟨m.addr, 2, 3, m.tag, 1⟩ : Change) ∈ t.ring.toPlace))

/-- At a powered session core: the pilot's levels read as the state whose window they fall in, the plug voltage and the plug as
given, and in a session a level under the windows of A to D counts an emergency stop. Where the vehicle is heard and
ENTROPY_FAIL does not stand, a SLAC match within SLAC_ATTEN_MAX links, a failure counts and returns a lone link to PLUGGED. A
discovery is answered; where no condition fails it starts a session in LINK, else REFUSE_REASON names the failed condition. TLS,
with the device's chain and staple told, and an accepted protocol lead to NEGOTIATE; no protocol in common is reason 8.
(09_outlet_vehicle_link.md R223, R224, R225, R226, R227, R229, R231, R237.) -/
def Obligations.SessionsBegin : Prop :=
  (∀ (s : State) (o : Fin 4) (hi lo : Int), Senses s o →
    ∃ t, exec (.pilotStateChange o ⟨hi, lo⟩) s = .next t ∧
      (lo ≤ -10500 → 10500 ≤ hi → t.nat (Reg.PILOT_STATE o) = 0) ∧
      (lo ≤ -10500 → 7500 ≤ hi → hi < 10500 → t.nat (Reg.PILOT_STATE o) = 1) ∧
      (lo ≤ -10500 → 4500 ≤ hi → hi < 7500 → t.nat (Reg.PILOT_STATE o) = 2) ∧
      (lo ≤ -10500 → 1500 ≤ hi → hi < 4500 → t.nat (Reg.PILOT_STATE o) = 3) ∧
      (-1500 ≤ hi → hi < 1500 → t.nat (Reg.PILOT_STATE o) = 4) ∧
      (hi < -10500 → t.nat (Reg.PILOT_STATE o) = 5) ∧
      (∀ d, s.pilotDrive o = .pwm d → d < 1000 → 1500 ≤ hi → -10500 < lo → t.nat (Reg.PILOT_STATE o) = 6) ∧
      (hi < 1500 → s.inSession o = true → s.outs[o].emergency = false →
        t.nat (Reg.ESTOP_CNT o) = (s.nat (Reg.ESTOP_CNT o) + 1) % 4294967296)) ∧
  (∀ (s : State) (o : Fin 4) (mv : Nat), Senses s o →
    ∃ t, exec (.ppChange o mv) s = .next t ∧ t.nat (Reg.PP_MV o) = min mv 5000 ∧
      (t.outs[o].plugged = true ↔ s.int (Reg.PP_WIN o 1) ≤ mv ∧ (mv : Int) ≤ s.int (Reg.PP_WIN o 2) ∧
        s.int (Reg.PP_WIN o 1) < s.int (Reg.PP_WIN o 2))) ∧
  (∀ (s : State) (o : Fin 4), Hears s o → s.nat (Reg.OUT_KIND o) = 0 →
    (∀ a, s.outState o = 2 → a ≤ s.nat (Reg.SLAC_ATTEN_MAX o) → s.nat Reg.TRUST_STATE ≠ 2 →
      ∃ t, exec (.slacMatch o a) s = .next t ∧ t.outs[o].linked = true) ∧
    (∃ t, exec (.slacFail o) s = .next t ∧ t.outs[o].linked = false ∧
      t.nat (Reg.SLAC_FAIL_CNT o) = (s.nat (Reg.SLAC_FAIL_CNT o) + 1) % 4294967296 ∧
      (s.outState o = 3 → t.outState o = 2))) ∧
  (∀ (s : State) (o : Fin 4), Hears s o → s.outs[o].linked = true → s.outState o = 2 →
    ∃ t, exec (.sdpRequest o) s = .next t ∧ Emit.vehicle o (.discovery (s.outletAddress o) (s.tcpPort o) (s.secc o)) ∈ t.sent ∧
      t.nat (Reg.REFUSE_REASON o) = s.refusal o ∧ t.outState o = if s.refusal o = 0 then 3 else 2) ∧
  (∀ (s : State) (o : Fin 4), Hears s o → s.outState o = 3 →
    (∀ v c, ∃ t, exec (.tlsHandshake o ⟨false, v, c⟩) s = .next t ∧
      t.nat (Reg.TLS_FAIL_CNT o) = (s.nat (Reg.TLS_FAIL_CNT o) + 1) % 4294967296) ∧
    (∀ v c, s.secc o = true → s.nat Reg.TRUST_STATE ≠ 2 →
      (∀ x, c = some x → v = true → s.chainHolds (Reg.V2G_ROOT o) x = true) →
      ∃ t, exec (.tlsHandshake o ⟨true, v, c⟩) s = .next t ∧ t.outs[o].secured = true ∧ t.outs[o].tls13 = v ∧
        Emit.vehicle o (.handshake (s.blob (Reg.SECC_CHAIN o)) (s.staple o)) ∈ t.sent ∧
        (s.outs[o].handshake = true → t.outState o = 4)) ∧
    (∀ l e, (l.find? fun e => s.entryOk o e) = some e →
      ∃ t, exec (.appProtocolHandshake o l) s = .next t ∧ t.outState o = 4 ∧ t.outs[o].handshake = true ∧
        t.nat (Reg.PROTOCOL o) = if e.val = 2 then (if s.nat (Reg.OUT_KIND o) = 1 then 5 else 3) else e.val + 1) ∧
    (∀ l, (l.find? fun e => s.entryOk o e) = none →
      ∃ t, exec (.appProtocolHandshake o l) s = .next t ∧ t.nat (Reg.REFUSE_REASON o) = 8))

/-- At a session core in NEGOTIATE that hears the vehicle: setup keeps the identifier, discovery tells the services, a
bidirectional selection makes PROTOCOL 4 or 6, authorization, under a contract with a chain to a stored root, numbers the
session and shows its identifiers, an accepting AUTH authorises, its timeout is reason 7, parameters and, in ISO 15118-20,
schedules are told; a schedule message of another protocol ends the session. A certificate request waits for the host's response
or its timeout. A receipt is answered with the meter, an unknown message outside a session with the failure code.
(09_outlet_vehicle_link.md R227, R228, R230, R232.) -/
def Obligations.NegotiationAnswered : Prop :=
  (∀ (s : State) (o : Fin 4), Hears s o → s.outState o = 4 →
    (∀ id, ∃ t, exec (.sessionSetup o id) s = .next t ∧ t.outs[o].evcc = id ∧ Tells t o .ok) ∧
    (∃ t, exec (.serviceDiscovery o) s = .next t ∧ Tells t o (.services (s.bptOffered o))) ∧
    (∃ t, exec (.serviceSelection o false) s = .next t ∧ Tells t o .ok ∧ t.objs = s.objs) ∧
    (s.bptOffered o = true → ∃ t, exec (.serviceSelection o true) s = .next t ∧ Tells t o .ok ∧
      (s.nat (Reg.PROTOCOL o) = 3 → t.nat (Reg.PROTOCOL o) = 4) ∧ (s.nat (Reg.PROTOCOL o) = 5 → t.nat (Reg.PROTOCOL o) = 6)) ∧
    (∀ id chain, s.outs[o].identified = false → s.outs[o].authorised = false →
      (id = [] ∨ (s.nat (Reg.PROTOCOL o) ≠ 1 ∧ s.chainHolds (Reg.MO_ROOT o) chain = true)) →
      ∃ t, exec (.authorization o id chain) s = .next t ∧ Tells t o .ongoing ∧ t.outs[o].identified = true ∧
        t.nat (Reg.SESSION_ID o) = (if s.nat (Reg.SESSION_ID o) = 4294967295 then 1 else s.nat (Reg.SESSION_ID o) + 1) ∧
        t.blob (Reg.EVCC_ID o) = str32Of s.outs[o].evcc ∧ t.blob (Reg.EMAID o) = str32Of id ∧ t.nat (Reg.AUTH o) = 0) ∧
    (∀ h, Accepts s h (Reg.AUTH o) 1 → s.outs[o].identified = true → s.outs[o].authorised = false →
      ∃ t, exec (.authWrite h o 1) s = .next t ∧ Answered t h .ok ∧ t.nat (Reg.AUTH o) = 1 ∧ t.outs[o].authorised = true) ∧
    (s.outs[o].identified = true → s.outs[o].authorised = false →
      ∃ t, exec (.authTimeout o) s = .next t ∧ t.nat (Reg.REFUSE_REASON o) = 7) ∧
    (∀ v, ∃ t, exec (.chargeParameterDiscovery o v) s = .next t ∧ t.outs[o].maxV = v ∧
      Tells t o (.limits (s.int (Reg.OUT_V_MAX o)) (s.int (Reg.OUT_I_MAX o)) (s.int (Reg.OUT_P_MAX o)))) ∧
    (s.nat (Reg.PROTOCOL o) = 0 ∨ 3 ≤ s.nat (Reg.PROTOCOL o) →
      ∃ t, exec (.scheduleExchange o) s = .next t ∧ Tells t o (.schedule 86400 (s.int (Reg.OUT_P_MAX o)))) ∧
    (s.nat (Reg.PROTOCOL o) = 1 ∨ s.nat (Reg.PROTOCOL o) = 2 →
      ∃ t, exec (.scheduleExchange o) s = .next t ∧ Emit.vehicle o .failed ∈ t.sent ∧ t.inSession o = false) ∧
    (∀ body, body.length ≤ 1024 → s.nat (Reg.PROTOCOL o) ≠ 1 → ∃ t, exec (.certificateRequest o body) s = .next t ∧ t.blob (Reg.CERT_REQ o) = body ∧
      t.ctr o 4 = true)) ∧
  (∀ (s : State) (o : Fin 4), s.ctr o 4 = true → s.role (4 + o) = true →
    (∀ h body, AcceptsBlob s h (Reg.CERT_RES o) body → ∃ t, exec (.certResWrite h o body) s = .next t ∧ Answered t h .ok ∧
      t.ctr o 4 = false ∧ Tells t o (.certificate body)) ∧
    (Serves s o → ∃ t, exec (.certResTimeout o) s = .next t ∧ t.ctr o 4 = false ∧ Tells t o .failed)) ∧
  (∀ (s : State) (o : Fin 4) (body : List Byte), Hears s o → s.nat (Reg.PROTOCOL o) ≠ 1 → 7 ≤ s.outState o → s.outState o ≤ 10 →
    ∃ t, exec (.meteringReceipt o body) s = .next t ∧
      Emit.vehicle o (.meter (s.nat (Reg.E_IMPORT o)) (s.nat (Reg.E_EXPORT o))) ∈ t.sent) ∧
  (∀ (s : State) (o : Fin 4), Hears s o → s.inSession o = false →
    ∃ t, exec (.unknownMessage o) s = .next t ∧ Tells t o .failed ∧ t.objs = s.objs)

/-- At a session core that hears the vehicle: an authorised cable check with a running cooling engine enters CABLE_CHECK with
its test voltage and DC− driven; judged good it leads to PRECHARGE, judged bad or timed out to STOPPING. A precharge request
tells the voltage and whether it is reached; power delivery starts TRANSFER only once it is, and counts the session, and a stop
leads to STOPPING. A charge-loop request in TRANSFER sets the session's ceiling and floor and releases the precharge; one with
the vehicle's emergency or error code stops at once. Welding detection tells V_CABLE; a lost IMD edge shows no ISO_R.
(09_outlet_vehicle_link.md R231, R232, R233, R234, R235, R236.) -/
def Obligations.CheckChargeAndTransfer : Prop :=
  (∀ (s : State) (o : Fin 4), Hears s o →
    (s.outState o = 4 → s.outs[o].authorised = true → s.nat Reg.LOG_STATE = 0 → s.cools[o].noEngine = false →
      ∃ t, exec (.cableCheckRequest o) s = .next t ∧ t.outState o = 5 ∧ Tells t o (.check 0) ∧ t.ctr o 1 = true ∧
        t.outs[o].testV = min s.outs[o].maxV (s.int (Reg.OUT_V_MAX o)) ∧ t.outs[o].ccpEn = true) ∧
    (∀ ok duty, s.outState o = 5 → s.vNear o s.outs[o].testV = true →
      ∃ t, exec (.cableCheckJudged o ok duty) s = .next t ∧ t.nat (Reg.ISO_R o) = s.isoR o duty ∧ t.outs[o].imdOk = ok ∧
        (ok = false → t.outState o = 8) ∧ (ok = true → duty = none → t.outState o = 6 ∧ t.outs[o].checked = 1)) ∧
    (s.outState o = 5 → ∃ t, exec (.chkTimeout o) s = .next t ∧ t.outState o = 8 ∧ t.outs[o].ccpEn = false) ∧
    (∀ v : Nat, s.outState o = 6 → ∃ t, exec (.preCharge o v) s = .next t ∧ t.outs[o].ccpEn = true ∧
      t.outs[o].reached = s.vNear o (min (v : Int) (s.int (Reg.OUT_V_MAX o))) ∧
      Tells t o (.voltage (s.int (Reg.V_CABLE o)) t.outs[o].reached)) ∧
    (s.outState o = 6 → s.outs[o].reached = false → ∃ t, exec (.pchTimeout o) s = .next t ∧ t.outState o = 8) ∧
    (s.outState o = 6 → s.outs[o].reached = true → ∃ t, exec (.powerDelivery o true) s = .next t ∧ t.outState o = 7 ∧
      Tells t o .ok ∧ t.nat (Reg.SESSION_CNT o) = (s.nat (Reg.SESSION_CNT o) + 1) % 4294967296) ∧
    (s.outState o = 5 ∨ s.outState o = 6 ∨ s.outState o = 7 →
      ∃ t, exec (.powerDelivery o false) s = .next t ∧ t.outState o = 8 ∧ t.outs[o].cause = some 1 ∧ Tells t o .ok) ∧
    (∀ i v p di dp, s.outState o = 7 → ∃ t, exec (.chargeLoopRequest o false i v p di dp) s = .next t ∧
      t.nat (Reg.SESSION_CEIL o) = (if s.discharging o = true then s.sessionCeil o di dp else s.sessionCeil o i p) ∧
      t.nat (Reg.SESSION_FLOOR o) = min (s.nat (Reg.OUT_FLOOR o)) (t.nat (Reg.SESSION_CEIL o)) ∧
      t.outs[o].ccpEn = false ∧ t.outs[o].discharge = s.discharging o ∧
      t.site.claims[o] = ⟨t.nat (Reg.SESSION_CEIL o), t.nat (Reg.SESSION_FLOOR o), s.discharging o⟩) ∧
    (∀ i v p di dp, 5 ≤ s.outState o → s.outState o ≤ 7 → s.outs[o].emergency = false →
      ∃ t, exec (.chargeLoopRequest o true i v p di dp) s = .next t ∧ t.outState o = 8 ∧ t.outs[o].emergency = true ∧
        t.nat (Reg.ESTOP_CNT o) = (s.nat (Reg.ESTOP_CNT o) + 1) % 4294967296) ∧
    (s.outState o = 8 ∨ s.outState o = 9 ∨ s.outState o = 10 →
      ∃ t, exec (.weldingDetection o) s = .next t ∧ Tells t o (.voltage (s.int (Reg.V_CABLE o)) false)) ∧
    (∃ t, exec (.imdPwmEdgeLost o) s = .next t ∧ t.nat (Reg.ISO_R o) = 0xFFFFFFFF))

/-- At a session core that hears the vehicle: a session stop request, an unknown message and SESSION_STOP take a session in
CABLE_CHECK to TRANSFER into STOPPING. Once the grant and the current are gone, or an emergency's time is up, DC+ is released
and OPENING begins. An insulation fault in these states is an emergency stop, counted once. A contactor that does not close in a
session, or stays closed, is a FAULT, a weld counting; FAULT_CLEAR leaves FAULT once both read open. (09_outlet_vehicle_link.md
R227, R231, R236, R237, R239, R240.) -/
def Obligations.StopsAndContactors : Prop :=
  (∀ (s : State) (o : Fin 4), Hears s o → 5 ≤ s.outState o → s.outState o ≤ 7 →
    (∃ t, exec (.sessionStopReq o) s = .next t ∧ t.outState o = 8 ∧ t.outs[o].cause = some 1 ∧
      Emit.vehicle o .ok ∈ t.sent) ∧
    (∃ t, exec (.unknownMessage o) s = .next t ∧ t.outState o = 8 ∧ Emit.vehicle o .failed ∈ t.sent) ∧
    (s.outs[o].emergency = false → ∃ t, exec (.imdFault o) s = .next t ∧ t.outState o = 8 ∧ t.outs[o].emergency = true ∧
      t.outs[o].imdOk = false ∧ t.nat (Reg.SESSION_CEIL o) = 0 ∧
      t.nat (Reg.ESTOP_CNT o) = (s.nat (Reg.ESTOP_CNT o) + 1) % 4294967296)) ∧
  (∀ (s : State) (h : Hdr) (o : Fin 4), Accepts s h (cmdBase .sessionStop + 1) o →
    ∃ t, exec (.sessionStop h o) s = .next t ∧ Answered t h .ok ∧
      (s.isStandby = true → (t.res .sessionStop).status = .refused ∧ (t.res .sessionStop).detail = 3) ∧
      (s.isStandby = false → s.inSession o = false →
        (t.res .sessionStop).status = .refused ∧ (t.res .sessionStop).detail = 0x100) ∧
      (s.isStandby = false → 5 ≤ s.outState o → s.outState o ≤ 7 →
        t.outState o = 8 ∧ t.outs[o].cause = some 2 ∧ (t.res .sessionStop).status = .pending)) ∧
  (∀ (s : State) (o : Fin 4), Serves s o → s.outState o = 8 → s.ctr o 2 = true →
    (s.int (Reg.OUT_GRANT o) = 0 → (s.int (Reg.I_OUTLET o)).natAbs ≤ s.nat (Reg.OPEN_I o) →
      ∃ t, exec (.feedingGroupsParked o) s = .next t ∧ t.outState o = 9 ∧ t.ctr o 0 = false) ∧
    (s.outs[o].emergency = true → ∃ t, exec (.estopOpenExpiry o) s = .next t ∧ t.outState o = 9 ∧ t.ctr o 0 = false ∧
      t.nat (Reg.LOAD_OPEN_CNT o) = (if s.nat (Reg.OPEN_I o) < (s.int (Reg.I_OUTLET o)).natAbs
        then (s.nat (Reg.LOAD_OPEN_CNT o) + 1) % 4294967296 else s.nat (Reg.LOAD_OPEN_CNT o)))) ∧
  (∀ (s : State) (o : Fin 4) (neg high : Bool), s.powered = true → s.part.variant = .l →
    let closed := high != bit (s.nat (Reg.CFB_POL o)) (b2n neg)
    ∃ t, exec (.contactorFeedback o neg high) s = .next t ∧ t.ctr o (2 + b2n neg) = closed ∧
      (closed = true → s.ctr o (b2n neg) = false → s.ctr o (2 + b2n neg) = false → s.inSession o = false →
        s.outState o ≠ 11 → s.outState o ≠ 12 → t.outState o = 11 ∧
          t.nat (Reg.WELD_CNT o) = (s.nat (Reg.WELD_CNT o) + 1) % 4294967296)) ∧
  (∀ (s : State) (o : Fin 4) (neg : Bool), Serves s o →
    (s.ctr o (b2n neg) = true → s.ctr o (2 + b2n neg) = false → s.inSession o = true →
      ∃ t, exec (.ctrTimeout o neg) s = .next t ∧ t.outState o = 11 ∧ t.ctr o 0 = false ∧ t.ctr o 1 = false) ∧
    (s.ctr o (b2n neg) = false → s.ctr o (2 + b2n neg) = true → s.outState o ≠ 11 →
      ∃ t, exec (.ctrTimeout o neg) s = .next t ∧ t.outState o = 11 ∧
        t.nat (Reg.WELD_CNT o) = (s.nat (Reg.WELD_CNT o) + 1) % 4294967296)) ∧
  (∀ (s : State) (h : Hdr) (o : Fin 4), Accepts s h (Reg.OUT_FAULT_CLEAR o) 1 → s.outState o = 11 →
    ∃ t, exec (.outletFaultClear h o 1) s = .next t ∧ Answered t h .ok ∧
      (s.ctr o 2 = false → s.ctr o 3 = false → t.outState o ≠ 11) ∧
      (s.ctr o 2 = true ∨ s.ctr o 3 = true → t.outState o = 11))

/-- At a powered outlet: a step by the loop's running engine counts, shows every PT1000 reading and the flow, starts new
averages of the current, and raises the ceiling by at most DERATE_RISE ÷ 100. Lost flow under a running pump fails the flow
input; an input that has been valid again is no longer failed. A loop without an engine is marked so and its pump runs at
PUMP_MAX, at zero in MIRROR and where the outlet's role is clear. (10_cable_cooling.md R248, R249, R250, R253, R259.) -/
def Obligations.CoolingLoops : Prop :=
  (∀ (s : State) (o : Fin 4) (e : Fin 38) (ohms : List Nat) (pulses us ns : Nat), Cools s o → s.blackLoop = false →
    s.coolEngine o = some e →
    ∃ t, exec (.coolingStep o ohms pulses us ns) s = .next t ∧
      t.nat (Reg.MODEL_STEPS e) = (s.nat (Reg.MODEL_STEPS e) + 1) % 4294967296 ∧
      (∀ i : Fin 6, s.assign o i ≠ 2 → t.int (tempReg o i) = pt1000 ((ohms[i.val]?).getD 0)) ∧
      t.nat (Reg.FLOW_MEAS o) = min (pulses * 1000000 * 60000 / (us * s.nat (Reg.FLOW_K o))) 4294967295 ∧
      t.cools[o].iNum = 0 ∧ t.cools[o].iSum = 0 ∧ t.cools[o].noEngine = false ∧
      (s.int (Reg.CABLE_I_CEIL o) < t.int (Reg.CABLE_I_CEIL o) →
        t.int (Reg.CABLE_I_CEIL o) ≤ s.int (Reg.CABLE_I_CEIL o) + ((s.nat (Reg.DERATE_RISE o) / 100 : Nat) : Int))) ∧
  (∀ (s : State) (o : Fin 4), Cools s o → s.assign o 6 = 1 → s.nat (Reg.PUMP_MIN o) ≤ s.nat (Reg.PUMP_DUTY o) → s.nat (Reg.PUMP_DUTY o) ≠ 0 →
    ∃ t, exec (.flowLost o) s = .next t ∧ t.cools[o].failed[6] = true) ∧
  (∀ (s : State) (o : Fin 4) (i : Fin 7), Cools s o → s.assign o i = 1 →
    ∃ t, exec (.inputValidReturn o i) s = .next t ∧ t.cools[o].failed[i] = false) ∧
  (∀ (s : State) (o : Fin 4), Cools s o → s.beh 6 ≠ .idle → s.beh 6 ≠ .off →
    ∃ t, exec (.coolLoopSilent o) s = .next t ∧ t.cools[o].noEngine = true ∧
      t.nat (Reg.PUMP_DUTY o) = if s.beh 1 = .mirror ∨ s.role (4 + o) = false then 0 else s.nat (Reg.PUMP_MAX o))

/-- A SHORT of a conducting channel that is not curtailed latches it, counts, and curtails its neighbours; an OVERLOAD outside
the window, or a THERMAL trip, latches it only with no retries left and otherwise waits for a retry. A window's end drops the
limit, or, of a CAPACITIVE channel whose current is still short, trips it. A retry turns the channel on again, counts, and uses
a retry up unless it follows CURTAILED. CURTAIL_END, RETRIES_RELOAD, open load and thermal warnings set what they name.
(11_load_switches.md R268, R269, R272, R280.) -/
def Obligations.ChannelTrips : Prop :=
  (∀ (s : State) (n : Fin 16), s.curtailed n = false →
    (s.shortCounts n = true → ∃ t, exec (.shortTrip n) s = .next t ∧ t.nat (Reg.LS_STATE n) = 5 ∧ t.nat (Reg.LAST_TRIP n) = 1 ∧
      t.nat (Reg.TRIP_CNT n) = (s.nat (Reg.TRIP_CNT n) + 1) % 4294967296 ∧ ∀ m ∈ neighbours n, t.curtailed m = true) ∧
    (s.chanOn n = true → s.ls.chans[n].window = false → ∃ t, exec (.overloadTrip n) s = .next t ∧
      t.nat (Reg.LS_STATE n) = (if s.nat (Reg.RETRIES_LEFT n) = 0 then 5 else 4) ∧ t.nat (Reg.LAST_TRIP n) = 2 ∧
      t.nat (Reg.TRIP_CNT n) = (s.nat (Reg.TRIP_CNT n) + 1) % 4294967296) ∧
    (s.chanOn n = true → ∃ t, exec (.thermalTrip n) s = .next t ∧
      t.nat (Reg.LS_STATE n) = (if s.nat (Reg.RETRIES_LEFT n) = 0 then 5 else 4) ∧ t.nat (Reg.LAST_TRIP n) = 3 ∧
      t.nat (Reg.TRIP_CNT n) = (s.nat (Reg.TRIP_CNT n) + 1) % 4294967296) ∧
    (∀ short, s.chanOn n = true → s.ls.chans[n].window = true → ∃ t, exec (.inrushWindowEnd n short) s = .next t ∧
      t.ls.chans[n].window = false ∧
      t.nat (Reg.LS_STATE n) = if short = true ∧ s.ls.chans[n].prof.loadType = 5 then 5 else 2) ∧
    (s.nat (Reg.LS_STATE n) = 4 → s.vsBad = false → ∃ t, exec (.lsRetry n) s = .next t ∧ t.chanOn n = true ∧
      t.nat (Reg.RETRY_CNT n) = (s.nat (Reg.RETRY_CNT n) + 1) % 4294967296 ∧
      t.nat (Reg.RETRIES_LEFT n) = if s.ls.chans[n].freeRetry = true then s.nat (Reg.RETRIES_LEFT n)
        else s.nat (Reg.RETRIES_LEFT n) - 1)) ∧
  (∀ (s : State) (n : Fin 16), ∃ t, exec (.curtailEnd n) s = .next t ∧ t.curtailed n = false) ∧
  (∀ (s : State) (n : Fin 16), s.chanOn n = true →
    (∃ t, exec (.retriesReload n) s = .next t ∧ t.nat (Reg.RETRIES_LEFT n) = s.ls.chans[n].prof.retryMax) ∧
    (∃ t, exec (.openLoad n true) s = .next t ∧ bit (t.nat (Reg.LS_FLAGS n)) 1 = true)) ∧
  (∀ (s : State) (n : Fin 16), ∃ t, exec (.openLoad n false) s = .next t ∧ bit (t.nat (Reg.LS_FLAGS n)) 1 = false) ∧
  (∀ (s : State) (n : Fin 16) (rising : Bool) (c : Int), ∃ t, exec (.channelThermalWarning n rising c) s = .next t ∧
    t.int (Reg.T_LS n) = c ∧ bit (t.nat (Reg.LS_FLAGS n)) 0 = rising)

/-- An accepted LS_ON of a channel under its host turns it on from off, or off unless it is latched; LS_CLEAR unlatches it. A
limp pin drives the channels mapped to it. VS_LS out of range turns every channel off, and its return turns those on that are
commanded. A silent link shows its source at every channel; a channel that waited for low gates turns off once they are. A
package check shows the supply, every current and their sum, and PKG_OVER above 16 A averaged over 1,000 sums.
(11_load_switches.md R266, R267, R269, R274, R275, R279.) -/
def Obligations.ChannelSources : Prop :=
  (∀ (s : State) (h : Hdr) (n : Fin 16) (v : Nat), Accepts s h (Reg.LS_ON n) v →
    ∃ t, exec (.lsOnWrite h n v) s = .next t ∧ Answered t h .ok ∧ t.nat (Reg.LS_ON n) = v ∧
      t.nat (Reg.LS_SOURCE n) = s.lsSource n ∧
      (s.lsSource n = 0 → v = 1 → s.vsBad = false → s.nat (Reg.LS_STATE n) = 0 → t.chanOn n = true) ∧
      (s.lsSource n = 0 → v ≠ 1 → s.nat (Reg.LS_STATE n) ≠ 5 → t.nat (Reg.LS_STATE n) = 0)) ∧
  (∀ (s : State) (h : Hdr) (n : Fin 16), Accepts s h (Reg.LS_CLEAR n) 1 →
    ∃ t, exec (.lsClear h n 1) s = .next t ∧ Answered t h .ok ∧ (s.nat (Reg.LS_STATE n) = 5 → t.nat (Reg.LS_STATE n) ≠ 5) ∧
      (s.nat (Reg.LS_STATE n) ≠ 5 → t.nat (Reg.LS_STATE n) = s.nat (Reg.LS_STATE n))) ∧
  (∀ (s : State) (p : Fin 8) (lv held : Bool), ∃ t, exec (.limpInChange p lv held) s = .next t ∧
    bit (t.nat Reg.LIMP_PINS) p = lv ∧ ∀ n : Fin 16, s.lsSource n = 2 → s.limpPin n = some p.val →
      (lv = true → s.vsBad = false → s.nat (Reg.LS_STATE n) = 0 → t.chanOn n = true) ∧
      (lv = false → s.nat (Reg.LS_STATE n) ≠ 5 ∨ held = true → t.nat (Reg.LS_STATE n) = 0)) ∧
  (∀ (s : State) (high : Bool), ∃ t, exec (.vsLsOutOfRange high) s = .next t ∧
    bit (t.nat Reg.LS_STATUS) (if high then 1 else 0) = true ∧ ∀ n : Fin 16, t.chanOn n = false) ∧
  (∀ s : State, ∃ t, exec .vsLsRestored s = .next t ∧ t.vsBad = false ∧
    ∀ n : Fin 16, s.nat (Reg.LS_STATE n) = 0 → s.lsCommand n = true → t.chanOn n = true) ∧
  (∀ (s : State) (b : Bool), ∃ t, exec (.failsafeTrigger b) s = .next t ∧ t.ls.linkSilent = b ∧
    ∀ n : Fin 16, t.nat (Reg.LS_SOURCE n) = ({ s with ls := { s.ls with linkSilent := b } } : State).lsSource n) ∧
  (∀ (s : State) (n : Fin 16), bit (s.nat (Reg.LS_FLAGS n)) 4 = true → s.gatesLow = true → s.nat (Reg.LS_STATE n) ≠ 5 →
    ∃ t, exec (.fsWaitEnd n) s = .next t ∧ bit (t.nat (Reg.LS_FLAGS n)) 4 = false ∧ t.nat (Reg.LS_STATE n) = 0) ∧
  (∀ (s : State) (vs : Int) (l : List Int), s.powered = true →
    ∃ t, exec (.pkgCurrentCheck vs l) s = .next t ∧ t.int Reg.LS_SUPPLY = vs ∧ t.int Reg.LS_TOTAL_I = sumI (l.take 16) ∧
      (∀ n : Fin 16, t.int (Reg.I_LS n) = l.getD n 0) ∧
      t.ls.sums = (sumI (l.take 16) :: s.ls.sums).take 1000 ∧
      (t.ls.sums.length = 1000 → 16000000 < sumI t.ls.sums → bit (t.nat Reg.LS_STATUS) 2 = true) ∧
      (t.ls.sums.length = 1000 → sumI t.ls.sums < 15000000 → bit (t.nat Reg.LS_STATUS) 2 = false))

/-- An enabled watchdog under its supply judges each word: a good one is its last SEQ and lengthens the run of valid words, any
other counts as a fault and breaks the run. RUNNING without a word in HB_MAX expires, counted; RESYNCED falls back to EXPIRED;
WD_RELEASE takes RESYNCED to RUNNING and changes no other state. (11_load_switches.md R276, R277.) -/
def Obligations.HeartbeatWatchdog : Prop :=
  (∀ (s : State) (framed : Bool) (q c ms : Nat), s.nat Reg.WD_STATE ≠ 0 → s.anaUp = true →
    let good := framed = true ∧ c = Nat.xor q 0xA5 ∧ q < 256 ∧
      (s.ls.anySeq = true ∨ q = (s.nat Reg.HB_SEQ_LAST + 1) % 256) ∧ (s.ls.seen = false ∨ s.lsTab Reg.HB_MIN ≤ ms)
    ∃ t, exec (.heartbeatWord framed q c ms) s = .next t ∧
      (good → t.nat Reg.HB_SEQ_LAST = q ∧ t.ls.validRun = s.ls.validRun + 1 ∧ t.ls.faultRun = 0 ∧
        (s.nat Reg.WD_STATE = 2 → t.nat Reg.WD_STATE = 2)) ∧
      (¬good → t.ls.validRun = 0 ∧ t.nat Reg.HB_FAULT_CNT = (s.nat Reg.HB_FAULT_CNT + 1) % 4294967296 ∧
        t.nat Reg.HB_SEQ_LAST = s.nat Reg.HB_SEQ_LAST ∧ (s.nat Reg.WD_STATE = 4 → t.nat Reg.WD_STATE = 3))) ∧
  (∀ s : State, s.nat Reg.WD_STATE ≠ 0 → s.anaUp = true → ∃ t, exec .hbMaxExpiry s = .next t ∧ t.ls.validRun = 0 ∧ t.ls.anySeq = true ∧
    (s.nat Reg.WD_STATE = 2 → t.nat Reg.WD_STATE = 3 ∧
      t.nat Reg.WD_EXPIRE_CNT = (s.nat Reg.WD_EXPIRE_CNT + 1) % 4294967296) ∧
    (s.nat Reg.WD_STATE = 4 → t.nat Reg.WD_STATE = 3)) ∧
  (∀ (s : State) (h : Hdr), Accepts s h Reg.WD_RELEASE 1 → ∃ t, exec (.wdRelease h 1) s = .next t ∧ Answered t h .ok ∧
    t.nat Reg.WD_STATE = if s.nat Reg.WD_STATE = 4 then 2 else s.nat Reg.WD_STATE)

/-- At a running device whose channel integrates, a sample shifts the two filter outputs into the channel, forms the calibrated
power p and adds it to the residual of its direction; whole mWh, and only whole mWh, pass to E_IMPORT and E_EXPORT and the rest
stays in the residual. A publication shows, for each channel with samples, the mean voltage and current truncated to mV and mA,
their product in W, and the same two values as V_CABLE and I_OUTLET. (12_metrology.md R286, R287, R288.) -/
def Obligations.SamplesIntegrate : Prop :=
  (∀ (s : State) (c : Fin 4) (v i : Nat), s.powered = true → s.metering = true → s.modes.meterStopped = false →
    let m := s.meter c
    let words := min 3 (m.words + 1)
    let rvs := (sinc3 words (joinBits m.vBits v) :: m.rvs).take 10
    let ris := (sinc3 words (joinBits m.iBits i) :: m.ris).take 10
    let p := (s.power_pW c (s.calibrate c rvs ris).1 (s.calibrate c rvs ris).2).2
    ∃ t, exec (.metrologySample c v i) s = .next t ∧ (t.meter c).rvs = rvs ∧ (t.meter c).ris = ris ∧
      (t.meter c).sumN = m.sumN + 1 ∧
      (s.integrating c = true →
        (t.meter c).resImp = (m.resImp + p.toNat) % unitsPerMwh ∧ (t.meter c).resExp = (m.resExp + (-p).toNat) % unitsPerMwh ∧
        (m.resImp + p.toNat < unitsPerMwh → t.nat (Reg.E_IMPORT c) = s.nat (Reg.E_IMPORT c)) ∧
        (unitsPerMwh ≤ m.resImp + p.toNat → t.nat (Reg.E_IMPORT c) =
          (s.nat (Reg.E_IMPORT c) + (m.resImp + p.toNat) / unitsPerMwh) % 18446744073709551616) ∧
        (m.resExp + (-p).toNat < unitsPerMwh → t.nat (Reg.E_EXPORT c) = s.nat (Reg.E_EXPORT c)) ∧
        (unitsPerMwh ≤ m.resExp + (-p).toNat → t.nat (Reg.E_EXPORT c) =
          (s.nat (Reg.E_EXPORT c) + (m.resExp + (-p).toNat) / unitsPerMwh) % 18446744073709551616))) ∧
  (∀ s : State, s.powered = true → s.metering = true →
    ∃ t, exec .metrologyPublish s = .next t ∧ ∀ c : Fin 4, (s.meter c).sumN ≠ 0 →
      let mean : Int → Int := fun x => Int.tdiv (Int.tdiv x (s.meter c).sumN) 1000
      t.int (Reg.V_INST c) = mean (s.meter c).sumV ∧ t.int (Reg.I_INST c) = mean (s.meter c).sumI ∧
      t.int (Reg.P_INST c) = Int.tdiv (mean (s.meter c).sumV * mean (s.meter c).sumI) 1000000 ∧
      t.int (Reg.V_CABLE c) = t.int (Reg.V_INST c) ∧ t.int (Reg.I_OUTLET c) = t.int (Reg.I_INST c) ∧ (t.meter c).sumN = 0)

/-- At a running, metering device: a lost clock return stops both channels of its engine, a held stream its channel, and a
fenced engine both its channels; each marks its channels' next record MISSING where R285 says so, ends their captures, and a
PENDING capture of them FAILED 0x0100. The clock's return shows it present. An accepted CAL_CAPTURE of a good channel begins a
capture and stays PENDING, is REFUSED 1 where the class does not meter and FAILED 0x0100 on a bad channel; it completes with the
two means once its duration is sampled. (12_metrology.md R285, R295, R298, R304.) -/
def Obligations.InputFaultsStopTheMeter : Prop :=
  (∀ (s : State) (e : Fin 2), s.powered = true → s.metering = true → s.bill.clock[e] = true →
    ∃ t, exec (.mscrClockLost e) s = .next t ∧ t.bill.clock[e] = false ∧ ∀ c ∈ channelsOf e,
      t.integrating c = false ∧ (t.meter c).missing = true ∧ (t.meter c).capture = none ∧
      (t.meter c).gapAt = some s.now ∧ bit (t.nat (Reg.MC_STATUS c)) 0 = false ∧ bit (t.nat (Reg.MC_STATUS c)) 4 = false) ∧
  (∀ (s : State) (e : Fin 2), s.powered = true → s.metering = true →
    ∃ t, exec (.mscrClockReturn e) s = .next t ∧ t.bill.clock[e] = true ∧ ∀ c ∈ channelsOf e,
      (t.meter c).gapAt = none ∧ bit (t.nat (Reg.MC_STATUS c)) 0 = true) ∧
  (∀ (s : State) (c : Fin 4) (cur : Bool), s.powered = true → s.metering = true →
    (if cur then (s.meter c).iStuck else (s.meter c).vStuck) = false →
    ∃ t, exec (.streamStuck c cur) s = .next t ∧ t.integrating c = false ∧ (t.meter c).missing = true ∧
      (t.meter c).capture = none ∧ bit (t.nat (Reg.MC_STATUS c)) (if cur then 2 else 1) = false ∧
      ((s.meter c).capture ≠ none → s.isPending .calCapture = true →
        (t.res .calCapture).status = .failed ∧ (t.res .calCapture).detail = 0x100)) ∧
  (∀ (s : State) (e : Fin 2), s.powered = true → s.part.variant = .l → s.fab.fenced (meterCell e) = false →
    s.bill.engFenced[e] = false →
    ∃ t, exec (.meterEngineFenced e) s = .next t ∧ t.fab.fenced (meterCell e) = true ∧ t.bill.engFenced[e] = true ∧ ∀ c ∈ channelsOf e,
      t.integrating c = false ∧ (t.meter c).capture = none) ∧
  (∀ (s : State) (h : Hdr) (arg : Nat), Accepts s h (cmdBase .calCapture + 1) arg →
    ∃ t, exec (.calCapture h arg) s = .next t ∧ Answered t h .ok ∧
      (s.metering = false → (t.res .calCapture).status = .refused ∧ (t.res .calCapture).detail = 1) ∧
      (s.metering = true → s.channelGood (Fin.ofNat 4 arg) = false →
        (t.res .calCapture).status = .failed ∧ (t.res .calCapture).detail = 0x100) ∧
      (s.metering = true → s.channelGood (Fin.ofNat 4 arg) = true →
        (t.res .calCapture).status = .pending ∧ (t.meter (Fin.ofNat 4 arg)).capture = some (0, 0, 0))) ∧
  (∀ (s : State) (v i : Int) (n : Nat), s.powered = true → s.isPending .calCapture = true →
    (s.meter (Fin.ofNat 4 (s.res .calCapture).arg)).capture = some (v, i, n) →
    12800 * field (s.res .calCapture).arg 15 8 ≤ n →
    ∃ t, exec .calCaptureDone s = .next t ∧ (t.meter (Fin.ofNat 4 (s.res .calCapture).arg)).capture = none ∧
      (t.res .calCapture).status = .completed ∧
      (t.res .calCapture).value = ofS 32 (Int.tdiv v n) + 4294967296 * ofS 32 (Int.tdiv i n))

/-- A sample of an enabled, supplied loop below 1 kΩ reads intact and above 10 kΩ open: the loop's TAMP_STATE bit takes the
reading exactly where the two samples before it read the same, and the opening is counted then; one between the two leaves the
state alone and ends the run. A seal that opens at a running -L part makes SEAL_STATE OPEN and counts it; one that closes makes
it CLOSED and, on any part, leaves no RWL entry staged. An accepted VEV_ACK frees recorded events up to it. (12_metrology.md
R292, R293, 02_object_dictionary.md R54, 19_startup_reset_power.md R460, R461.) -/
def Obligations.LoopsTakeThreeSamples : Prop :=
  (∀ (s : State) (c : Instr) (i : Fin 4) (ohms : Nat),
    (c = .tamperLoopSample i ohms ∨ (c = .sealLoopSample ohms ∧ i = 2)) → bit (s.nat Reg.TAMP_EN) i = true →
    (s.power.vaultLost = false ∨ s.power.mains = true) →
    let third : Bool := (s.loop i).last == (10000 < ohms : Bool) && 2 ≤ (s.loop i).run
    ∃ t, exec c s = .next t ∧
      (ohms < 1000 ∨ 10000 < ohms → bit (t.nat Reg.TAMP_STATE) (4 + i) = false ∧
        (third = true → bit (t.nat Reg.TAMP_STATE) i = (10000 < ohms : Bool)) ∧
        (third = false → bit (t.nat Reg.TAMP_STATE) i = bit (s.nat Reg.TAMP_STATE) i ∧
          t.nat (Reg.TAMP_OPEN_CNT (i.val + 1)) = s.nat (Reg.TAMP_OPEN_CNT (i.val + 1)))) ∧
      (10000 < ohms → third = true → bit (s.nat Reg.TAMP_STATE) i = false →
        t.nat (Reg.TAMP_OPEN_CNT (i.val + 1)) = (s.nat (Reg.TAMP_OPEN_CNT (i.val + 1)) + 1) % 4294967296 ∧
        (i = 2 → s.powered = true → s.part.variant = .l → t.nat Reg.SEAL_STATE = 1 ∧
          t.nat Reg.SEAL_OPEN_CNT = (s.nat Reg.SEAL_OPEN_CNT + 1) % 4294967296)) ∧
      (ohms < 1000 → third = true → bit (s.nat Reg.TAMP_STATE) i = true → i = 2 → s.powered = true →
        (s.part.variant = .l → t.nat Reg.SEAL_STATE = 0) ∧ ∀ e ∈ t.dict.staging, isRwl e.1 = false) ∧
      (1000 ≤ ohms → ohms ≤ 10000 → bit (t.nat Reg.TAMP_STATE) i = bit (s.nat Reg.TAMP_STATE) i ∧ (t.loop i).run = 0)) ∧
  (∀ (s : State) (h : Hdr) (v : Nat), Accepts s h Reg.VEV_ACK v →
    ∃ t, exec (.vevAckWrite h v) s = .next t ∧ Answered t h .ok ∧ t.nat Reg.VEV_ACK = v ∧
      ∀ e ∈ s.power.events, e ∈ t.power.events ↔ ¬(e.recorded = true ∧ e.seq ≤ v))

/-- At a running -L part that keeps billing: where a boundary is due once legal time has come to it, the tariff in force follows
effective civil time, LAST_BOUNDARY is that time, nothing that applies at a boundary is held any more, and, where the interval
did not begin at this very moment, every channel's demand is its import over the longer of nominal and covered time, its import
and covered time begin at zero, and its interval begins now. (The premise on the hold is the invariant of StepKeepsTheHold.)
(13_billing_and_tariffs.md R313, R314, R315, R317, R319.) -/
def Obligations.BoundaryClosesAndApplies : Prop :=
  ∀ (s : State) (ms : Nat), s.powered = true → s.part.variant = .l → heldAll s.dict.billHold = true → (s.advance ms).boundaryDue = true →
    (s.advance ms).keeping = true →
    let u := s.advance ms
    ∃ t, exec (.billingBoundary ms) s = .next t ∧ t.now = max s.now ms ∧ t.bill.ect = u.bill.ect ∧
      t.nat Reg.LAST_BOUNDARY = ltimeOf u.bill.ect ∧ t.nat Reg.TARIFF_NOW = t.tariffOn u.bill.ect ∧
      (∀ e ∈ t.dict.billHold, atStep2 e.1 = false ∧ isCal e.1 = false) ∧
      (u.nat (Reg.INT_START 0) ≠ u.ltime → ∀ c : Fin 4,
        t.nat (Reg.DMD_LAST c) = u.nat (Reg.INT_IMPORT c) * 3600 / max u.bill.intLen (u.nat (Reg.INT_COVERED c)) ∧
        bit (t.nat (Reg.DMD_LAST_FLAGS c)) 0 = decide (u.nat (Reg.INT_COVERED c) < u.bill.intLen) ∧
        t.nat (Reg.INT_IMPORT c) = 0 ∧ t.nat (Reg.INT_COVERED c) = 0 ∧ t.nat (Reg.INT_START c) = u.ltime)

/-- At a running device that can write records, the oldest admitted request is written under the next RECORD_SEQ and leaves the
queue; a start opens the session registers at zero and an end closes the session. An accepted LOG_ACK_SEQ takes effect and
LOG_FREE and LOG_STATE follow. A register commit outside a power fail counts and stores the registers as they stand. An accepted
DMD_RESET of 1, and only of 1, asks for the reset at the next boundary. (12_metrology.md R299, 13_billing_and_tariffs.md R316,
R318, R325, R328, R329, R335.) -/
def Obligations.RecordsAreNumbered : Prop :=
  (∀ (s : State) (r : LegalReq) (rest : List LegalReq), s.powered = true → s.canRecord = true →
    firstAdmitted (fun r => s.admits r.typ) s.bill.requests = some (r, rest) →
    ∃ t, exec .legalRecordWritten s = .next t ∧ t.bill.requests = rest ∧
      t.nat Reg.LOG_LAST_SEQ = s.nat Reg.LOG_LAST_SEQ + 1 ∧ t.nat Reg.LOG_FREE = t.logFree ∧
      (∃ x ∈ t.bill.log, x.seq = s.nat Reg.LOG_LAST_SEQ + 1) ∧
      (∀ c : Fin 4, r.chan = some c → r.typ = 1 → (t.meter c).inSession = true ∧ t.nat (Reg.SESS_IMPORT c) = 0 ∧
        t.nat (Reg.SESS_EXPORT c) = 0 ∧ t.nat (Reg.SESS_COST c) = 0 ∧ t.nat (Reg.SESS_START c) = ltimeOf r.at_) ∧
      (∀ c : Fin 4, r.chan = some c → r.typ ≠ 1 → (t.meter c).inSession = false)) ∧
  (∀ (s : State) (h : Hdr) (v : Nat), Accepts s h Reg.LOG_ACK_SEQ v →
    ∃ t, exec (.logAckSeqWrite h v) s = .next t ∧ Answered t h .ok ∧ t.nat Reg.LOG_ACK_SEQ = v ∧
      t.nat Reg.LOG_FREE = t.logFree ∧ t.nat Reg.LOG_STATE = logStateOf t.logFree (t.nat Reg.LOG_RESERVE)) ∧
  (∀ s : State, s.powered = true → s.power.pfw = false → s.part.variant = .l →
    ∃ t, exec .registerCommit s = .next t ∧ t.nat Reg.REG_COMMIT_AT = s.ltime ∧
      t.nat Reg.REG_COMMIT_SEQ = (s.nat Reg.REG_COMMIT_SEQ + 1) % 4294967296 ∧ t.bill.copy.meters = s.bill.meters ∧
      t.bill.copy.accts = s.bill.accts ∧ t.bill.copy.now = s.now ∧
      t.bill.copy.objs = t.objs.filter (fun c => isRegister c.1)) ∧
  (∀ (s : State) (h : Hdr) (v : Nat), Accepts s h Reg.DMD_RESET v →
    ∃ t, exec (.dmdReset h v) s = .next t ∧ Answered t h .ok ∧ t.bill.dmdReset = (v == 1 || s.bill.dmdReset))

/-- At a running -L part that keeps billing, when friendly hours change every account without credit whose emergency credit is
available is granted it, once; within friendly hours no outlet stops. An accepted ACCT_ID clears the slot's credit, or waits
while a session is on the slot. An accepted top-up is REFUSED on a standby, for an unused slot, a repeated reference or a zero
amount, and otherwise adds the amount less the outstanding emergency credit. An accepted CIVIL_TIME_SET is REFUSED on a standby,
at a filled log and below zero, and otherwise adds CIVIL_SHIFT to CIVIL_OFFSET. (13_billing_and_tariffs.md R310, R311, R320,
R322, R324.) -/
def Obligations.AccountsAndCivilTime : Prop :=
  (∀ s : State, s.powered = true → s.part.variant = .l → s.keeping = true →
    ∃ t, exec .friendlyHoursChange s = .next t ∧ (s.friendly = true → t.outs = s.outs) ∧
      ∀ x ∈ s.bill.accts, let a := s.acct x.1
        a.id ≠ 0 → a.credit ≤ 0 → a.granted = false → 0 < a.ecAmount →
          (t.acct x.1).granted = true ∧ (t.acct x.1).credit = s48 (a.credit + a.ecAmount) ∧ (t.acct x.1).ecOut = a.ecAmount) ∧
  (∀ (s : State) (h : Hdr) (v : Nat), Accepts s h Reg.ACCT_ID v →
    ∃ t, exec (.acctIdWrite h v) s = .next t ∧ Answered t h .ok ∧
      (s.acctInUse (s.nat Reg.ACCT_SEL) = false → (t.acct (s.nat Reg.ACCT_SEL)).id = v ∧
        (t.acct (s.nat Reg.ACCT_SEL)).credit = 0 ∧ (t.acct (s.nat Reg.ACCT_SEL)).ecOut = 0) ∧
      (s.acctInUse (s.nat Reg.ACCT_SEL) = true → (t.acct (s.nat Reg.ACCT_SEL)).newId = some v ∧
        (t.acct (s.nat Reg.ACCT_SEL)).id = (s.acct (s.nat Reg.ACCT_SEL)).id ∧
        (t.acct (s.nat Reg.ACCT_SEL)).credit = (s.acct (s.nat Reg.ACCT_SEL)).credit)) ∧
  (∀ (s : State) (h : Hdr) (arg : Nat), Accepts s h (cmdBase .accountTopup + 1) arg →
    let n := field arg 7 0
    let a := s.acct n
    let sum := s48 (a.credit + s.int Reg.TOPUP_AMOUNT - a.ecOut)
    ∃ t, exec (.accountTopup h arg) s = .next t ∧ Answered t h .ok ∧
      (s.isStandby = true → (t.res .accountTopup).status = .refused ∧ (t.res .accountTopup).detail = 3 ∧ t.acct n = a) ∧
      (s.isStandby = false → a.id = 0 → (t.res .accountTopup).status = .refused ∧
        (t.res .accountTopup).detail = 0x100 ∧ t.acct n = a) ∧
      (s.isStandby = false → a.id ≠ 0 → field arg 31 16 = a.lastRef → (t.res .accountTopup).status = .refused ∧
        (t.res .accountTopup).detail = 0x101 ∧ t.acct n = a) ∧
      (s.isStandby = false → a.id ≠ 0 → field arg 31 16 ≠ a.lastRef → s.int Reg.TOPUP_AMOUNT = 0 →
        (t.res .accountTopup).status = .refused ∧ (t.res .accountTopup).detail = 0x102 ∧ t.acct n = a) ∧
      (s.isStandby = false → a.id ≠ 0 → field arg 31 16 ≠ a.lastRef → s.int Reg.TOPUP_AMOUNT ≠ 0 →
        (t.res .accountTopup).status = .completed ∧ (t.res .accountTopup).value = ofS 48 (t.acct n).credit ∧
        (t.acct n).lastRef = field arg 31 16 ∧
        (0 < sum → (t.acct n).credit = sum ∧ (t.acct n).ecOut = 0 ∧ (t.acct n).granted = false))) ∧
  (∀ (s : State) (h : Hdr), Accepts s h (cmdBase .civilTimeSet + 1) 0 →
    let off := s.int Reg.CIVIL_OFFSET + s.int Reg.CIVIL_SHIFT
    let full : Bool := decide (s.part.variant = .l) && 2 ≤ s.nat Reg.LOG_STATE
    ∃ t, exec (.civilTimeSet h 0) s = .next t ∧ Answered t h .ok ∧
      (s.isStandby = true → (t.res .civilTimeSet).status = .refused ∧ (t.res .civilTimeSet).detail = 3 ∧
        t.int Reg.CIVIL_OFFSET = s.int Reg.CIVIL_OFFSET) ∧
      (s.isStandby = false → full = true → (t.res .civilTimeSet).status = .refused ∧
        (t.res .civilTimeSet).detail = 0x100 ∧ t.int Reg.CIVIL_OFFSET = s.int Reg.CIVIL_OFFSET) ∧
      (s.isStandby = false → full = false → (s.now : Int) + off < 0 → (t.res .civilTimeSet).status = .refused ∧
        (t.res .civilTimeSet).detail = 0x101 ∧ t.int Reg.CIVIL_OFFSET = s.int Reg.CIVIL_OFFSET) ∧
      (s.isStandby = false → full = false → 0 ≤ (s.now : Int) + off → (t.res .civilTimeSet).status = .completed ∧
        t.int Reg.CIVIL_OFFSET = off ∧ t.nat Reg.LAST_TIME_SET = s.ltime ∧
        ((t.res .civilTimeSet).value / 4294967296 = 1 ↔
          s.sealOpen = false ∧ (s.allowNow : Int) < (s.int Reg.CIVIL_SHIFT).natAbs)))

/-- An accepted KEY_CREATE definition (generate, derive or import) that a check of R344 rejects is answered RANGE_ERROR, shows
its reason in KEY_CREATE_ERR and changes no slot; one whose import does not unwrap shows 7 and counts IMPORT_FAIL_CNT; any other
makes its slot VALID, of the type it names and one level below its parent, with the material made. An accepted CSR_SUBJECT of a
slot that may sign requests gives the request in CSR_OUT, any other is answered RANGE_ERROR and empties CSR_OUT.
(14_keys_and_trust.md R340, R344, R345, R346, R347.) -/
def Obligations.KeysCreated : Prop :=
  (∀ (s : State) (h : Hdr) (c : Instr) (slot method rsv w : Nat) (rest : List Byte),
    ((c = .keyGenerate h slot rsv w ∧ method = 1 ∧ rest = []) ∨ (c = .keyDerive h slot rsv w rest ∧ method = 2) ∨
      (c = .keyImport h slot rsv w rest ∧ method = 3)) →
    slot < 256 → rsv < 65536 → w < 2 ^ 64 → AcceptsBlob s h Reg.KEY_CREATE (defHead slot method rsv w ++ rest) →
    let e := s.createErr slot method rsv w (12 + rest.length)
    ∃ t, exec c s = .next t ∧ (∀ n, n ≠ slot → t.slotOf n = s.slotOf n) ∧
      (e ≠ 0 → Answered t h .rangeError ∧ t.nat Reg.KEY_CREATE_ERR = e ∧ t.slotOf slot = s.slotOf slot) ∧
      (e = 0 → s.createMat slot method rsv w rest = none → Answered t h .rangeError ∧ t.nat Reg.KEY_CREATE_ERR = 7 ∧
        t.slotOf slot = s.slotOf slot ∧ t.nat Reg.IMPORT_FAIL_CNT = (s.nat Reg.IMPORT_FAIL_CNT + 1) % 4294967296) ∧
      (∀ m, e = 0 → s.createMat slot method rsv w rest = some m → Answered t h .ok ∧ t.nat Reg.KEY_CREATE_ERR = 0 ∧
        kState (t.slotOf slot).word = 1 ∧ kType (t.slotOf slot).word = kType w ∧
        kLevel (t.slotOf slot).word = s.newLevel w ∧ (t.slotOf slot).mat = m ∧
        (t.slotOf slot).gen = (s.slotOf slot).gen + 1)) ∧
  (∀ (s : State) (h : Hdr) (data : List Byte), AcceptsBlob s h Reg.CSR_SUBJECT data →
    let w := (s.slotOf (leAt data 0 1)).word
    let ok : Bool := 1 ≤ data.length && s.slotValid (leAt data 0 1) && (kType w == 3 || kType w == 4) && bit w 3 && bit w 10
    ∃ t, exec (.csrSubjectWrite h data) s = .next t ∧
      (ok = true → Answered t h .ok ∧ t.get Reg.CSR_SUBJECT = .bytes data ∧
        ∃ draw, t.blob Reg.CSR_OUT = (Config.pkcs10 (s.keyBytes (leAt data 0 1)) (s.keyPub (leAt data 0 1)) (data.drop 1) draw).take 1024) ∧
      (ok = false → Answered t h .rangeError ∧ t.blob Reg.CSR_OUT = [] ∧ t.get Reg.CSR_SUBJECT = s.get Reg.CSR_SUBJECT))

/-- At a running device a request by an engine for a use that the slot's USES and MASK admit makes or renews its working copy,
any other counts KEY_MISUSE_CNT and makes none; no request changes a slot. Re-masking keeps which keys have copies, and under
ENTROPY_FAIL touches none and counts the period. An accepted KEY_DESTROY is REFUSED for slots 0 to 7, a slot not VALID and the
ring's keys, and otherwise erases the slot and all below it: no copy of them is left, and the result and ERASE_PENDING count
them. An erased slot reads EMPTY. (14_keys_and_trust.md R339, R348, R351, R352.) -/
def Obligations.KeysUsedAndDestroyed : Prop :=
  (∀ (s : State) (slot engine use : Nat), s.powered = true →
    let w := (s.slotOf slot).word
    let ok : Bool := slot < 256 && s.slotValid slot && 8 ≤ engine && engine ≤ 12 && bit w engine && 3 ≤ use && use ≤ 7 && bit w use
    ∃ t, exec (.keyRequest slot engine use) s = .next t ∧ t.trust.slots = s.trust.slots ∧
      (ok = true → (∃ c ∈ t.trust.copies, c.slot = some slot) ∧ t.nat Reg.KEY_MISUSE_CNT = s.nat Reg.KEY_MISUSE_CNT) ∧
      (ok = false → t.trust.copies = s.trust.copies ∧
        t.nat Reg.KEY_MISUSE_CNT = (s.nat Reg.KEY_MISUSE_CNT + 1) % 4294967296)) ∧
  (∀ (s : State) (late : Bool), s.powered = true → s.testing 4 = false →
    ∃ t, exec (.remaskPass late) s = .next t ∧ t.trust.copies.map (·.slot) = s.trust.copies.map (·.slot) ∧
      t.trust.slots = s.trust.slots ∧
      (s.nat Reg.TRUST_STATE = 2 → t.trust.copies = s.trust.copies) ∧
      (s.nat Reg.TRUST_STATE = 2 ∨ late = true → t.nat Reg.REMASK_LATE_CNT = (s.nat Reg.REMASK_LATE_CNT + 1) % 4294967296) ∧
      (s.nat Reg.TRUST_STATE ≠ 2 → late = false → t.nat Reg.REMASK_LATE_CNT = s.nat Reg.REMASK_LATE_CNT)) ∧
  (∀ s : State, s.powered = true →
    (∃ t, exec .entropyFail s = .next t ∧ t.nat Reg.TRUST_STATE = if s.nat Reg.TRUST_STATE = 1 then 1 else 2) ∧
    (∃ t, exec .entropyRecover s = .next t ∧
      t.nat Reg.TRUST_STATE = if s.nat Reg.TRUST_STATE = 2 then s.trustBase else s.nat Reg.TRUST_STATE)) ∧
  (∀ (s : State) (h : Hdr) (arg : Nat), Accepts s h (cmdBase .keyDestroy + 1) arg →
    let n := field arg 7 0
    let ringKey : Bool := (s.subtree n).any fun x => x != 0xFF && (x == s.nat Reg.RING_KEY_SLOT || x == s.nat Reg.RING_KEY_NEXT)
    ∃ t, exec (.keyDestroy h arg) s = .next t ∧ Answered t h .ok ∧
      (n < 8 ∨ s.slotValid n = false ∨ ringKey = true → (t.res .keyDestroy).status = .refused ∧ t.trust = s.trust ∧
        (t.res .keyDestroy).detail = if n < 8 then 0x100 else if s.slotValid n = false then 0x101 else 0x102) ∧
      (8 ≤ n → s.slotValid n = true → ringKey = false →
        (t.res .keyDestroy).status = .completed ∧ (t.res .keyDestroy).value = (s.subtree n).length ∧
        t.nat Reg.ERASE_PENDING = s.nat Reg.ERASE_PENDING + (s.subtree n).length ∧
        (∀ x ∈ s.subtree n, kState (t.slotOf x).word = 3 ∧ ∀ c ∈ t.trust.copies, c.slot ≠ some x) ∧
        ∀ x, x ∉ s.subtree n → t.slotOf x = s.slotOf x)) ∧
  (∀ (s : State) (slot : Nat), s.powered = true → kState (s.slotOf slot).word = 3 →
    ∃ t, exec (.keySlotErased slot) s = .next t ∧ kState (t.slotOf slot).word = 0 ∧ (t.slotOf slot).mat = 0 ∧
      t.nat Reg.ERASE_PENDING = s.nat Reg.ERASE_PENDING - 1 ∧ ∀ x, x ≠ slot → t.slotOf x = s.slotOf x)

/-- Where the consumer of the queue is answered: a pop of an empty queue returns the last word popped, or a packet of length 0,
is answered OK, sets UNDERRUN, counts, and changes nothing else of the queue and no other element but DICT_RX_COUNT; a pop of a
current packet returns its next word, or all that is left of it. Another source is answered ACCESS_ERROR and pops nothing.
EQ_CLEAR clears UNDERRUN and IRQ by its bits. A QUEUE_FLUSH of another source, and a DROP_REST above a capacity of 512, are
REFUSED; otherwise DROP_REST and FLUSH complete with the words and packets discarded, or the FLUSH waits for the packet's end.
(15_events_and_logs.md R371, R372, R373, R374.) -/
def Obligations.QueuePops : Prop :=
  (∀ (s : State) (h : Hdr), s.answersTo h.src = true → s.nat Reg.BOOT_STATE ≠ 3 →
    (s.isConsumer h.src = false → ∀ c : Instr, c = .eqWordRead h ∨ c = .eqPacketRead h →
      ∃ t, exec c s = .next t ∧ t.ev = s.ev ∧ t.dict.responses.getLast? = some ⟨h.src, 1, h.tag, .accessError, []⟩) ∧
    (s.isConsumer h.src = true → s.ev.level = 0 → ∀ c : Instr, c = .eqWordRead h ∨ c = .eqPacketRead h →
      ∃ t, exec c s = .next t ∧ (c = .eqWordRead h → AnsweredData t h (leBytes 8 s.ev.lastWord)) ∧
        (c = .eqPacketRead h → AnsweredData t h (leBytes 2 0)) ∧ t.ev = { s.ev with underrun := true } ∧
        bit t.eqStatus 0 = true ∧ bit t.eqStatus 2 = true ∧
        t.nat Reg.EQ_UNDERRUN_CNT = (s.nat Reg.EQ_UNDERRUN_CNT + 1) % 4294967296 ∧
        ∀ k, k ≠ Reg.EQ_UNDERRUN_CNT → k ≠ Reg.DICT_RX_COUNT → t.get k = s.get k) ∧
    (s.isConsumer h.src = true → 0 < s.ev.wordsLeft →
      (∃ t, exec (.eqWordRead h) s = .next t ∧ AnsweredData t h (leBytes 8 (s.ev.unread.headD 0)) ∧
        t.ev.lastWord = s.ev.unread.headD 0 ∧ (1 < s.ev.wordsLeft → t.ev.unread = s.ev.unread.tail)) ∧
      (∃ t, exec (.eqPacketRead h) s = .next t ∧ t.ev.lastWord = s.ev.unread.getLastD 0 ∧
        AnsweredData t h (leBytes 2 (8 * s.ev.unread.length) ++ s.ev.unread.flatMap (leBytes 8))))) ∧
  (∀ (s : State) (h : Hdr) (v : Nat), Accepts s h Reg.EQ_CLEAR v → ∃ t, exec (.eqClear h v) s = .next t ∧ Answered t h .ok ∧
    t.ev = { s.ev with underrun := s.ev.underrun && !bit v 2, irq := s.ev.irq && !bit v 3 }) ∧
  (∀ (s : State) (h : Hdr) (arg : Nat) (c : Instr), c = .dropRest h arg ∨ c = .flush h arg →
    Accepts s h (cmdBase .queueFlush + 1) arg →
    let n : Nat := if s.ev.cur.isSome then 1 else 0
    let unpopped := ∀ p k, s.ev.cur = some (p, k) → k = 0
    ∃ t, exec c s = .next t ∧ Answered t h .ok ∧
      (s.isConsumer h.src = false → (t.res .queueFlush).status = .refused ∧ (t.res .queueFlush).detail = 0x100 ∧ t.ev = s.ev) ∧
      (s.isConsumer h.src = true → arg = 1 → 512 < s.flushCap →
        (t.res .queueFlush).status = .refused ∧ (t.res .queueFlush).detail = 0x101 ∧ t.ev = s.ev) ∧
      (s.isConsumer h.src = true → arg = 1 → s.flushCap ≤ 512 → (t.res .queueFlush).status = .completed ∧
        (t.res .queueFlush).value = flushValue s.ev.wordsLeft n) ∧
      (s.isConsumer h.src = true → arg ≠ 1 → s.flushCap ≤ 512 ∨ unpopped → (t.res .queueFlush).status = .completed ∧
        (t.res .queueFlush).value = flushValue s.ev.level (n + s.ev.waiting.length + s.ev.filling.length) ∧
        t.ev.flushPending = false ∧ t.nat Reg.EQ_FLUSH_WORDS = (s.nat Reg.EQ_FLUSH_WORDS + s.ev.level) % 4294967296) ∧
      (s.isConsumer h.src = true → arg ≠ 1 → 512 < s.flushCap → ¬unpopped → (t.res .queueFlush).status = .pending ∧
        t.ev = { s.ev with flushPending := true })) ∧
  (∀ s : State, s.powered = true → s.ev.flushPending = true → s.ev.midPacket = false →
    ∃ t, exec .flushAtBoundary s = .next t ∧ (t.res .queueFlush).status = .completed ∧ t.ev.flushPending = false ∧
      t.nat Reg.EQ_FLUSH_WORDS = (s.nat Reg.EQ_FLUSH_WORDS + s.ev.level) % 4294967296)

/-- At a running device: every Pennant raised takes the next PEN_SEQ; without a destination it is counted as suppressed, into an
open window of its pair it is folded, and with LOCAL set it goes to the end of the lane, stamped and with its route's priority.
Of an enabled TRACE, twelve samples that wait, or a session's message, take the next STR_SEQ and go to the lane or the trace
outbox; fewer samples wait on, and those of a trace that is off are dropped. The packet that the lane's rotation names leaves
the lane: one that is admitted is in the queue, within the capacity; a Pennant that is not is deferred, a TRACE lost, each
counted. A window's end summarises or closes it, a due GAP is queued where it fits, a token is gained up to the burst, and an
outbox frame takes its tokens and waits in its slots for the ring. (15_events_and_logs.md R362, R366, R367, R375, R376, R378,
R379, R380, R383.) -/
def Obligations.RecordsRouted : Prop :=
  (∀ (s : State) (src event prio dk before extra : Nat), s.powered = true → src < 65536 → event < 4096 →
    let r := s.routeOf src event prio
    let open_ : Bool := r.coal && s.ev.coal.any fun c => c.source == src && c.event == event
    ∃ t, exec (.pennantRaise src event prio dk before extra) s = .next t ∧
      t.nat Reg.PEN_SEQ_LAST = nextSeq32 (s.nat Reg.PEN_SEQ_LAST) ∧
      ((r.toLocal || r.toRing || r.toArchive) = false → t.ev = s.ev ∧
        t.nat Reg.PEN_SUPPRESSED_CNT = (s.nat Reg.PEN_SUPPRESSED_CNT + 1) % 4294967296) ∧
      ((r.toLocal || r.toRing || r.toArchive) = true → open_ = true → t.ev.lane = s.ev.lane ∧
        t.nat Reg.PEN_COALESCED_CNT = (s.nat Reg.PEN_COALESCED_CNT + 1) % 4294967296) ∧
      (r.toLocal = true → open_ = false → ∃ p : Packet, t.ev.lane = s.ev.lane ++ [p] ∧ p.prio = r.prio ∧ p.size = 4 ∧
        p.words.head? = some s.ltime ∧ p.source = src ∧ p.event = event ∧ p.kind = 0 ∧
        p.words[1]? = some (recWord1 src 0 event (nextSeq32 (s.nat Reg.PEN_SEQ_LAST))))) ∧
  (∀ (s : State) (kind inst message length : Nat), s.powered = true →
    let waiting := s.ev.samplesOf kind inst
    let seq := nextSeq32 (s.nat Reg.STR_SEQ_LAST)
    let reference := if kind = 3 then s.nat (Reg.SESSION_ID inst) else (waiting.head?.map (·.reference)).getD 0
    let p := s.tracePacket kind inst reference seq
      (if kind = 3 then [s.sessionSample inst message length] else (waiting.take 12).map (·.word))
    ∃ t, exec (.traceRaise kind inst message length) s = .next t ∧
      (s.traceOn kind inst = false → t.objs = s.objs ∧ t.ev.lane = s.ev.lane ∧ t.ev.samplesOf kind inst = []) ∧
      (s.traceOn kind inst = true → kind ≠ 3 → waiting.length < 12 → t = s) ∧
      (s.traceOn kind inst = true → kind = 3 ∨ 12 ≤ waiting.length → t.nat Reg.STR_SEQ_LAST = seq ∧
        (kind ≠ 3 → t.ev.samplesOf kind inst = waiting.drop 12) ∧
        (s.nat Reg.TRACE_DEST = 0 → t.ev.lane = s.ev.lane ++ [p]) ∧
        (s.nat Reg.TRACE_DEST ≠ 0 → s.nat Reg.TRACE_NODE ≠ 0xFFFF →
          (s.ev.traceBytes + 8 * p.size ≤ 262144 → t.ev.traceBox = s.ev.traceBox ++ [p]) ∧
          (262144 < s.ev.traceBytes + 8 * p.size → t.ev.traceBox = s.ev.traceBox ∧
            t.nat Reg.STR_LOST_CNT = (s.nat Reg.STR_LOST_CNT + 1) % 4294967296)))) ∧
  (∀ (s : State) (p : Packet) (e : EvState), s.powered = true → s.ev.laneNext = some (p, e) →
    let fits : Bool := s.eqUsed + p.size ≤ s.eqCap && traceWords s.eqPool + p.size ≤ s.eqCap - s.eqQuota
    let queued : State → Prop := fun t => p ∈ t.ev.waiting ∨ p ∈ t.ev.filling ∨ t.ev.cur = some (p, 0)
    ∃ t, exec .queuePacketWhole s = .next t ∧ t.ev.lane = s.ev.lane.erase p ∧
      (p.kind ≠ 3 → s.penFits p.size = true → queued t ∧ t.eqUsed ≤ t.eqCap) ∧
      (p.kind ≠ 3 → s.penFits p.size = false →
        t.nat Reg.PEN_DEFERRED_CNT = (s.nat Reg.PEN_DEFERRED_CNT + 1) % 4294967296 ∧ t.ev.defers ≠ []) ∧
      (p.kind = 3 → s.ev.gap = none → fits = true → queued t) ∧
      (p.kind = 3 → s.ev.gap ≠ none ∨ fits = false → ∃ n, t.nat Reg.STR_LOST_CNT = (s.nat Reg.STR_LOST_CNT + 1 + n) % 4294967296)) ∧
  (∀ (s : State) (src event : Nat) (c : CoalEntry), s.powered = true →
    (s.ev.coal.find? fun c => c.source == src && c.event == event) = some c →
    ∃ t, exec (.coalWindowEnd src event) s = .next t ∧
      (c.count = 0 → (t.ev.coal.any fun c => c.source == src && c.event == event) = false ∧ t.ev.lane = s.ev.lane) ∧
      (c.count ≠ 0 → c.toLocal = true → t.ev.lane = s.ev.lane ++ [c.summary]) ∧
      (c.count ≠ 0 → ∃ c' ∈ t.ev.coal, c'.source = src ∧ c'.event = event ∧ c'.count = 0)) ∧
  (∀ s : State, s.powered = true → ∃ t, exec .gapDue s = .next t ∧
    (s.ev.gap ≠ none → s.penFits 4 = true → t.ev.gap = none ∧ t.nat Reg.GAP_CNT = (s.nat Reg.GAP_CNT + 1) % 4294967296) ∧
    (s.ev.gap = none ∨ s.penFits 4 = false → t.ev.gap = s.ev.gap.map Gap.makeDue ∧ t.nat Reg.GAP_CNT = s.nat Reg.GAP_CNT)) ∧
  (∀ s : State, s.powered = true → ∃ t, exec .ringTokenGain s = .next t ∧ t.nat Reg.RING_TOKENS =
    if s.nat Reg.RING_TOKENS < s.nat Reg.RING_PEN_BURST then s.nat Reg.RING_TOKENS + 1 else s.nat Reg.RING_TOKENS) ∧
  (∀ (s : State) (ms : Nat), s.powered = true → s.ev.outbox ≠ [] → s.nat Reg.RING_TOKENS ≠ 0 →
    (59 ≤ s.ev.outbox.length ∨ s.nat Reg.RING_PEN_GATHER ≤ ms) → s.canSendFrame 3 = true → s.nat Reg.ALARM_NODE ≠ 0xFFFF →
    ∃ t, exec (.ringOutboxSend ms) s = .next t ∧ t.nat Reg.RING_TOKENS < s.nat Reg.RING_TOKENS ∧
      ∃ data, ∀ r, s.unicastOut = some r →
        t.ring.shared[(Fin.ofNat 2 r : Fin 2)] = s.ring.shared[(Fin.ofNat 2 r : Fin 2)] ++
          frameSlots 2 (s.frameSrc 3) 0 (s.frameBytesOf (s.frameSrc 3) s.ring.frameId (s.nat Reg.ALARM_NODE) 3 data)) ∧
  (∀ s : State, s.powered = true → s.nat Reg.TRACE_NODE ≠ 0xFFFF → (s.ev.traceGap ≠ none ∨ s.ev.traceBox ≠ []) →
    s.canSendFrame 4 = true →
    ∃ t, exec .traceOutboxSend s = .next t ∧ t.ev.traceGap = none ∧ t.ev.traceBox.length ≤ s.ev.traceBox.length ∧
      ∃ data, ∀ r, s.unicastOut = some r →
        t.ring.shared[(Fin.ofNat 2 r : Fin 2)] = s.ring.shared[(Fin.ofNat 2 r : Fin 2)] ++
          frameSlots 3 (s.frameSrc 4) 0 (s.frameBytesOf (s.frameSrc 4) s.ring.frameId (s.nat Reg.TRACE_NODE) 4 data))

/-- In a running unit of a pair: the holder's RENEW reloads its lease, a standby sends STANDBY, a claiming unit one CLAIM with
the 2 ms guard, each in a CONTROL slot of the link. A token that arrives shows its sender and sets TOKEN_AGE to 0; at a unit
that does not hold the Burgee RENEW times the lease anew by the token and RELEASE sets the 2 ms guard; where CLAIMs cross, one
unit withdraws by rank and then tag. With the partner's drivers on, a standby enters SPLIT and a holder that gives way (rank 1,
or with ranks known equal the higher tag) releases and enters CONTEST while the other goes on. The fall of OE_PEER starts the 2
ms anew in SPLIT and in the guard of a RELEASE. (16_redundancy.md R395, R396, R397, R399, R403.) -/
def Obligations.TokensTimeTheLease : Prop :=
  (∀ s : State, s.powered = true → s.nat Reg.PAIR_EN = 1 →
    (s.holds = true → ∃ t, exec .renewSend s = .next t ∧ t.nat Reg.LEASE_LEFT = s.nat Reg.LEASE_PERIOD * 1000 ∧
      ∃ tk lane, t.sent = s.sent ++ [.pairSlot lane (slotChars (slotHeader 5 (s.nat Reg.RING_ADDR) 0 false false) (tokenBytes tk 1))]) ∧
    (s.nat Reg.BURGEE_STATE = 2 ∨ s.nat Reg.BURGEE_STATE = 5 →
      ∃ t, exec .standbySend s = .next t ∧ ∃ tk lane, t.sent = s.sent ++ [.pairSlot lane (slotChars (slotHeader 5 (s.nat Reg.RING_ADDR) 0 false false) (tokenBytes tk 4))]) ∧
    (s.nat Reg.BURGEE_STATE = 3 → s.pair.claimed = false → ∃ t, exec .claimSend s = .next t ∧ t.pair.claimed = true ∧
      t.nat Reg.LEASE_LEFT = 2000 ∧ ∃ tk lane, t.sent = s.sent ++ [.pairSlot lane (slotChars (slotHeader 5 (s.nat Reg.RING_ADDR) 0 false false) (tokenBytes tk 3))]) ∧
    (∀ tk : Token, ∃ t, exec (.standby tk) s = .next t ∧ t.nat Reg.TOKEN_AGE = 0 ∧ t.nat Reg.PEER_MODE = tk.mode % 256 ∧
      t.nat Reg.PEER_FLAGS = tk.flags % 256 ∧ t.nat Reg.PEER_SERIAL = tk.tag) ∧
    (∀ (tk : Token) (us : Nat), ∃ t, exec (.renew tk us) s = .next t ∧ t.nat Reg.TOKEN_AGE = 0 ∧
      (s.holds = true → t.nat Reg.LEASE_LEFT = s.nat Reg.LEASE_LEFT ∧ t.nat Reg.BURGEE_STATE = s.nat Reg.BURGEE_STATE) ∧
      (s.holds = false → t.nat Reg.LEASE_LEFT = tTake tk.leaseMs ∧ t.pair.claimed = false ∧ t.pair.released = false ∧
        (s.pair.phase = 2 → t.pair.phase = 0 ∧ (t.res .rehearsal).status = .completed) ∧
        t.nat Reg.BURGEE_STATE = if s.nat Reg.BURGEE_STATE = 3 then 4 else if s.nat Reg.BURGEE_STATE = 5 then
          (if bit (s.nat Reg.MODE_WORD) 3 then 2 else 4) else s.nat Reg.BURGEE_STATE)) ∧
    (∀ tk : Token, s.holds = false → ∃ t, exec (.release tk) s = .next t ∧ t.nat Reg.LEASE_LEFT = 2000 ∧ t.pair.released = true) ∧
    (∀ tk : Token, s.nat Reg.BURGEE_STATE = 3 → s.pair.claimed = true →
      let wins := s.nat Reg.PAIR_RANK < bitN tk.flags 3 ∨ (s.nat Reg.PAIR_RANK = bitN tk.flags 3 ∧ s.serialTag < tk.tag)
      ∃ t, exec (.claim tk) s = .next t ∧ (wins → t.pair.claimed = true ∧ t.nat Reg.LEASE_LEFT = s.nat Reg.LEASE_LEFT) ∧
        (¬wins → t.pair.claimed = false ∧ t.nat Reg.LEASE_LEFT = tTake (s.nat Reg.LEASE_PERIOD))) ∧
    (s.nat Reg.BURGEE_STATE = 2 → s.eligible = false → ∃ t, exec .partnerLeaseExpired s = .next t ∧
      t.nat Reg.BURGEE_STATE = 2 ∧ t.nat Reg.PEN_SEQ_LAST = nextSeq32 (s.nat Reg.PEN_SEQ_LAST)) ∧
    (s.holds = false → s.oePeer = true → ∃ t, exec .splitDetect s = .next t ∧ t.nat Reg.BURGEE_STATE = 5 ∧
      (s.nat Reg.BURGEE_STATE ≠ 5 → t.nat Reg.SPLIT_CNT = (s.nat Reg.SPLIT_CNT + 1) % 4294967296)) ∧
    (s.holds = true → s.oePeer = true → ∃ t, exec .driverConflict s = .next t ∧
      t.nat Reg.SPLIT_CNT = (s.nat Reg.SPLIT_CNT + 1) % 4294967296 ∧
      let equalRanks := s.nat Reg.PAIR_RANK = bitN (s.nat Reg.PEER_FLAGS) 3 ∧ s.nat Reg.PEER_SERIAL ≠ 0
      let yields := (equalRanks → s.nat Reg.PEER_SERIAL ≤ s.serialTag) ∧ (¬equalRanks → s.nat Reg.PAIR_RANK = 1)
      (yields → bit (t.nat Reg.OE_STATE) 0 = false ∧
        t.nat Reg.BURGEE_STATE = (if bit (s.nat Reg.MODE_WORD) 3 then 2 else 4)) ∧
      (¬yields → t.nat Reg.BURGEE_STATE = s.nat Reg.BURGEE_STATE ∧
        t.nat Reg.OE_STATE = s.nat Reg.OE_STATE))) ∧
  (∀ (s : State) (high : Bool), s.powered = true → ∃ t, exec (.oePeerChange high) s = .next t ∧ t.oePeer = high ∧
    (s.nat Reg.PAIR_EN = 1 → s.oePeer = true → high = false → (s.nat Reg.BURGEE_STATE = 5 ∨ (s.pair.released = true ∧ s.holds = false)) →
      t.nat Reg.LEASE_LEFT = 2000))

/-- A mirrored item at a running unit of a pair that does not hold the Burgee becomes the newest copy of its kind with an age of
0, a loop state only while the engines work; the holder takes none. A unit that may take the Burgee does: HOLDER, OE_PAIR high,
its SHADOW bit clear, the takeover counted and timed; one that may not stays as it is. An accepted REHEARSAL is REFUSED 3
without the Burgee and otherwise PENDING until a quiet boundary, at which the holder sets SHADOW and releases; it is REFUSED
0x100 once its wait is over, and FAILED 0x101 or 0x102 where the partner does not take. Lanes go up and down, and a fall adds
how many CRC errors told it, a free value. (16_redundancy.md R392, R394, R400, R404, 08_halyard_ring.md R216.) -/
def Obligations.MirrorTakeoverRehearsal : Prop :=
  (∀ (s : State) (it : MirrorItem), s.powered = true → s.nat Reg.PAIR_EN = 1 →
    ∃ t, exec (.mirrorItem it) s = .next t ∧ (s.holds = true → t = s) ∧
      (s.holds = false →
        (∀ e p g c, it = .grants e p g c → t.nat (Reg.MIRROR_AGE 1) = 0 ∧ ∃ x, t.pair.grants = some (e, x)) ∧
        (∀ e x, it = .loop e x → if s.beh 6 = .service ∨ s.beh 6 = .idle ∨ s.beh 6 = .off then t = s
          else t.nat (Reg.MIRROR_AGE 2) = 0 ∧ (e, x, 0) ∈ t.pair.loops) ∧
        (∀ g st sel, it = .route g st sel → t.nat (Reg.MIRROR_AGE 3) = 0 ∧ t.pair.routes[g] = some (st, sel)) ∧
        (∀ o x, it = .session o x → t.nat (Reg.MIRROR_AGE 4) = 0 ∧ t.pair.sessions[o] = x) ∧
        (∀ regs accts, it = .journal regs accts → t.nat (Reg.MIRROR_AGE 5) = 0 ∧ t.pair.journal = regs))) ∧
  (∀ (s : State) (gap : Nat), s.powered = true → s.nat Reg.PAIR_EN = 1 →
    ∃ t, exec (.takeover gap) s = .next t ∧ (s.mayTake = false → t = s) ∧
      (s.mayTake = true → t.nat Reg.BURGEE_STATE = 1 ∧ bit (t.nat Reg.OE_STATE) 0 = true ∧
        bit (t.nat Reg.MODE_WORD) 3 = false ∧ t.nat Reg.TAKEOVER_CNT = (s.nat Reg.TAKEOVER_CNT + 1) % 4294967296 ∧
        t.nat Reg.LAST_TAKEOVER = s.ltime ∧ t.nat Reg.LAST_TAKE_GAP = min gap 4294967295 ∧
        ∃ tk lane, Emit.pairSlot lane (slotChars (slotHeader 5 (s.nat Reg.RING_ADDR) 0 false false) (tokenBytes tk 1)) ∈ t.sent)) ∧
  (∀ (s : State) (h : Hdr) (arg : Nat), Accepts s h (cmdBase .rehearsal + 1) arg →
    ∃ t, exec (.rehearsal h arg) s = .next t ∧ Answered t h .ok ∧
      (s.holds = false → (t.res .rehearsal).status = .refused ∧ (t.res .rehearsal).detail = 3) ∧
      (s.holds = true → (t.res .rehearsal).status = .pending ∧ t.pair.phase = 1)) ∧
  (∀ s : State, s.powered = true → s.nat Reg.PAIR_EN = 1 →
    (s.pair.phase = 1 → s.quietForSwap = true → s.holds = true → ∃ t, exec .rehearsalSwap s = .next t ∧ t.pair.phase = 2 ∧
      t.nat Reg.BURGEE_STATE = 2 ∧ bit (t.nat Reg.OE_STATE) 0 = false ∧ bit (t.nat Reg.MODE_WORD) 3 = true ∧
      ∃ tk lane, Emit.pairSlot lane (slotChars (slotHeader 5 (s.nat Reg.RING_ADDR) 0 false false) (tokenBytes tk 2)) ∈ t.sent) ∧
    (s.pair.phase = 1 → (s.res .rehearsal).arg ≤ s.pair.waited → ∃ t, exec .rehearsalWaitExpired s = .next t ∧
      t.pair.phase = 0 ∧ (t.res .rehearsal).status = .refused ∧ (t.res .rehearsal).detail = 0x100) ∧
    (s.pair.phase = 2 → ∃ t, exec .rehearsalTakeTimeout s = .next t ∧ t.pair.phase = 0 ∧
      (t.res .rehearsal).status = .failed ∧
      (s.oePeer = true → (t.res .rehearsal).detail = 0x102 ∧ (t.res .rehearsal).part = true) ∧
      (s.oePeer = false → (t.res .rehearsal).detail = 0x101 ∧ t.nat Reg.BURGEE_STATE = 3 ∧ t.nat Reg.LEASE_LEFT = 2000 ∧
        bit (t.nat Reg.MODE_WORD) 3 = false))) ∧
  (∀ (s : State) (lane : Fin 2), s.powered = true →
    (∃ t, exec (.pairLaneUp lane) s = .next t ∧ bit (t.nat Reg.PAIR_LANE_STATE) lane.val = true) ∧
    (∃ t, exec (.pairLaneDown lane) s = .next t ∧ bit (t.nat Reg.PAIR_LANE_STATE) lane.val = false ∧
      t.nat (Reg.PAIR_LANE_ERR_CNT (lane.val + 1)) = (s.nat (Reg.PAIR_LANE_ERR_CNT (lane.val + 1)) + s.freeAt 16) % 4294967296))

/-- At a running device outside a MAIN blackout and with the Voner cell not fenced every master slot is counted; while the line
polls, a slot divisible by 100 carries the beacon with civil time and the beacon data, and any other at most one poll, of a
VALID slave; otherwise nothing is sent. The judged reply of a polled slave counts its outcome: a GOOD one makes the slave online
with no misses, any other adds a miss, makes an online or searched slave LOST at VON_LOST_N, and else asks for a re-poll up to
VON_REPOLL_MAX. An accepted VON_TX_BOX write queues its data for the selected slave under the next sequence number, an empty one
clears the mailbox. (17_voner_line.md R412, R414, R415, R416, R417, R420.) -/
def Obligations.VonerPollsAndReplies : Prop :=
  (∀ s : State, s.powered = true → s.blackMain = false → s.fab.fenced vonerCell = false →
    let slot := s.von.next % 4294967296
    ∃ t, exec .vonMasterSlot s = .next t ∧ t.nat Reg.VON_SLOT = slot ∧ t.von.next = slot + 2 ∧
      (s.vonStateOf ≠ 1 → t.sent = s.sent ∧ t.von.poll = none) ∧
      (s.vonStateOf = 1 → slot % 100 = 0 → t.von.poll = none ∧ t.sent = s.sent ++ [.voner slot (s.nat Reg.VON_TX_LEVEL)
        (vonActive (vonCodeword 0xFF 3 0 (leBytes 8 (ltimeOf s.civil) ++ s.blob Reg.VON_BEACON_DATA)))]) ∧
      (s.vonStateOf = 1 → slot % 100 ≠ 0 → (t.von.poll = none ∧ t.sent = s.sent) ∨
        ∃ n d k e, t.von.poll = some (n, d, k) ∧ s.vonValid n = true ∧ t.sent = s.sent ++ [e])) ∧
  (∀ (s : State) (paths : List VonPath) (word : Option (List Byte)) (n dseq k : Nat), s.powered = true →
    s.von.poll = some (n, dseq, k) →
    let o := (s.vonOutcome n (s.vonPaths paths) word).1
    ∃ t, exec (.vonReplyJudged paths word) s = .next t ∧ t.von.poll = none ∧
      t.nat Reg.VON_SLOT = (s.von.next + 4294967295) % 4294967296 ∧
      (t.slave n).cnt[Fin.ofNat 5 o] = ((s.slave n).cnt[Fin.ofNat 5 o] + 1) % 4294967296 ∧
      (o = 0 → (t.slave n).misses = 0 ∧ ((s.slave n).state ≠ 0 → (t.slave n).state = 2)) ∧
      (o ≠ 0 → (t.slave n).misses = (s.slave n).misses + 1 ∧
        ((s.slave n).state = 1 ∨ (s.slave n).state = 2 → s.nat Reg.VON_LOST_N ≤ (s.slave n).misses + 1 → (t.slave n).state = 3) ∧
        ((s.slave n).misses + 1 < s.nat Reg.VON_LOST_N → (t.slave n).state = (s.slave n).state ∧
          (k < s.nat Reg.VON_REPOLL_MAX → t.von.repoll = some (n, k + 1))))) ∧
  (∀ (s : State) (h : Hdr) (data : List Byte), AcceptsBlob s h Reg.VON_TX_BOX data →
    let n := s.nat Reg.VON_SEL
    ∃ t, exec (.vonTxBoxWrite h data) s = .next t ∧ Answered t h .ok ∧
      (data = [] → (t.slave n).tx = 0 ∧ (t.slave n).data = []) ∧
      (data ≠ [] → (t.slave n).tx = 1 ∧ (t.slave n).data = data ∧ (t.slave n).tries = 0 ∧
        (t.slave n).dseq = ((s.slave n).dseq + 1) % 16 ∧ (t.slave n).dueAt ≤ s.now))

/-- An accepted OPEN of an area not in use opens it and sets UPD_OFFSET and UPD_WRITTEN to 0, of the running or boot slot
outside RECOVERY it leaves UPD_STATE 4, of a second area 5. A chunk that fits its area is stored at UPD_OFFSET, which moves on;
a larger one is answered RANGE_ERROR. CLOSE lets the area be verified, at whose end IMG_VERIFY shows the first check that
failed, or VALID; CANCEL leaves none open. REBOOT resets the device in RECOVERY only. SLOT_CONFIRM ends the named classes'
trials; SVN_ADVANCE raises its class's floor and keeps every revocation. (18_service_update_test.md R425, R426, R427, R442,
14_keys_and_trust.md R354, R355.) -/
def Obligations.ImagesLoad : Prop :=
  (∀ (s : State) (h : Hdr), Accepts s h Reg.UPD_CONTROL 1 →
    ∃ t, exec (.updOpen h) s = .next t ∧ Answered t h .ok ∧
      (let used := s.updArea % 2 = s.nat (Reg.RUN_SLOT (s.updArea / 2 + 1)) ∨ s.updArea % 2 = s.nat (Reg.BOOT_SLOT (s.updArea / 2 + 1))
       (used → s.inRecovery = false → t.nat Reg.UPD_STATE = 4 ∧ t.upd = s.upd) ∧
       (¬used ∨ s.inRecovery = true →
         (∀ b v, s.upd.loading = some (b, v) → b ≠ s.updArea → t.nat Reg.UPD_STATE = 5 ∧ t.upd = s.upd) ∧
         (s.upd.loading = none → t.nat Reg.UPD_STATE = 1 ∧ t.upd.loading = some (s.updArea, false) ∧ t.upd.mem = s.upd.mem ∧
           t.nat Reg.UPD_OFFSET = 0 ∧ t.nat Reg.UPD_WRITTEN = 0 ∧ t.nat (Reg.IMG_VERIFY (s.updArea + 1)) = 0)))) ∧
  (∀ (s : State) (h : Hdr) (data : List Byte) (a : Nat) (v : Bool), AcceptsBlob s h Reg.UPD_CHUNK data →
    s.upd.loading = some (a, v) →
    ∃ t, exec (.updChunkWrite h data) s = .next t ∧
      (s.nat Reg.UPD_OFFSET + data.length ≤ classArea (a / 2) → Answered t h .ok ∧
        t.upd.mem = memWrite s.upd.mem (areaBase a + s.nat Reg.UPD_OFFSET) data ∧
        t.nat Reg.UPD_OFFSET = s.nat Reg.UPD_OFFSET + data.length) ∧
      (classArea (a / 2) < s.nat Reg.UPD_OFFSET + data.length → Answered t h .rangeError ∧ t.upd = s.upd)) ∧
  (∀ (s : State) (h : Hdr) (a : Nat), Accepts s h Reg.UPD_CONTROL 2 → s.upd.loading = some (a, false) →
    ∃ t, exec (.updClose h) s = .next t ∧ Answered t h .ok ∧ t.upd = { s.upd with loading := some (a, true) } ∧
      t.nat Reg.UPD_STATE = 2) ∧
  (∀ (s : State) (a : Nat), s.running = true → a < 6 → s.upd.loading = some (a, true) →
    ∃ t, exec .updVerifyDone s = .next t ∧ t.upd = { s.upd with loading := none } ∧ t.nat Reg.UPD_STATE = 3 ∧
      t.nat (Reg.IMG_VERIFY (a + 1)) = s.verifyImage a true ∧
      (s.inRecovery = true → s.verifyImage a true = 1 → t.nat (Reg.BOOT_SLOT (a / 2 + 1)) = a % 2)) ∧
  (∀ (s : State) (h : Hdr), Accepts s h Reg.UPD_CONTROL 3 →
    ∃ t, exec (.updCancel h) s = .next t ∧ Answered t h .ok ∧ t.upd = { s.upd with loading := none } ∧ t.nat Reg.UPD_STATE = 0) ∧
  (∀ (s : State) (h : Hdr), Accepts s h Reg.UPD_CONTROL 4 →
    ∃ t, exec (.reboot h) s = .next t ∧ Answered t h .ok ∧ (s.inRecovery = false → t.power = s.power) ∧
      (s.inRecovery = true → s.power.por = false → t.power.held = true ∧ t.power.cause = 0x0E)) ∧
  (∀ (s : State) (h : Hdr) (mask : Nat), Accepts s h Reg.SLOT_CONFIRM mask →
    ∃ t, exec (.slotConfirm h mask) s = .next t ∧ Answered t h .ok ∧
      (∀ c : Fin 3, t.nat (Reg.SLOT_TRIAL (c.val + 1)) = if bit mask c.val then 0 else s.nat (Reg.SLOT_TRIAL (c.val + 1))) ∧
      ((∀ c : Fin 3, t.nat (Reg.SLOT_TRIAL (c.val + 1)) = 0) → t.nat Reg.TRIAL_RESETS = 0)) ∧
  (∀ (s : State) (h : Hdr) (v : Nat), Accepts s h Reg.SVN_ADVANCE v →
    ∃ t, exec (.svnAdvance h v) s = .next t ∧ Answered t h .ok ∧
      t.nat (Reg.SVN_FLOOR (field v 7 0 + 1)) = field v 15 8 ∧
      ∀ i, bit (s.nat Reg.KEY_REVOKED) i = true → bit (t.nat Reg.KEY_REVOKED) i = true)

/-- An accepted SLOT_SWITCH with LEGAL on an -N part ends REFUSED 0x104; without a ground to refuse, one with nothing to switch
live names the other slots for the next boot and ends COMPLETED 0x102, any other is PENDING. At a quiet boundary every named
class has its other slot as BOOT_SLOT and the live ones run it and go dark; a wait that is over ends it REFUSED 0x100. A
blackout that ends is shown where it was the longest; with the last one the command ends COMPLETED. (18_service_update_test.md
R427, R428, R430.) -/
def Obligations.SlotsSwitch : Prop :=
  (∀ (s : State) (h : Hdr) (arg : Nat), Accepts s h (cmdBase .slotSwitch + 1) arg →
    ∃ t, exec (.slotSwitch h arg) s = .next t ∧ Answered t h .ok ∧
      (s.part.variant = .n → bit arg 2 = true → (t.res .slotSwitch).status = .refused ∧ (t.res .slotSwitch).detail = 0x0104) ∧
      (s.switchRefusal arg ≠ 0 → (t.res .slotSwitch).status = .refused ∧ (t.res .slotSwitch).detail = s.switchRefusal arg ∧
        t.upd = s.upd) ∧
      (s.switchRefusal arg = 0 → liveClasses arg = 0 → (t.res .slotSwitch).status = .completed ∧
        (t.res .slotSwitch).detail = 0x0102 ∧ t.upd = s.upd ∧ ∀ c : Fin 3, bit arg c.val = true →
          t.nat (Reg.BOOT_SLOT (c.val + 1)) = s.otherSlot c) ∧
      (s.switchRefusal arg = 0 → liveClasses arg ≠ 0 → (t.res .slotSwitch).status = .pending ∧
        t.upd.live = liveClasses arg ∧ t.upd.waited = 0)) ∧
  (∀ s : State, s.powered = true → s.isPending .slotSwitch = true → s.upd.live ≠ 0 → s.inBlackout = false →
    (s.switchQuiet = true → ∃ t, exec .slotSwitchQuietBoundary s = .next t ∧
      (∀ c : Fin 3, bit (s.res .slotSwitch).arg c.val = true → t.nat (Reg.BOOT_SLOT (c.val + 1)) = s.otherSlot c) ∧
      ∀ c : Fin 2, t.upd.black[c] = bit s.upd.live c.val ∧
        (bit s.upd.live c.val = true → t.nat (Reg.RUN_SLOT (c.val + 1)) = s.otherSlot ⟨c.val, by omega⟩)) ∧
    (field (s.res .slotSwitch).arg 31 16 ≤ s.upd.waited → ∃ t, exec .slotSwitchWaitExpired s = .next t ∧
      (t.res .slotSwitch).status = .refused ∧ (t.res .slotSwitch).detail = 0x0100 ∧ t.upd = { s.upd with live := 0 })) ∧
  (∀ (s : State) (c : Fin 2) (us : Nat), s.powered = true → s.upd.black[c] = true →
    ∃ t, exec (.blackoutEnd c us) s = .next t ∧ t.upd.black[c] = false ∧
      t.nat Reg.SWITCH_BLACKOUT_LAST = min (max s.upd.longest us) 0xFFFFFFFF ∧
      ((∀ d : Fin 2, d ≠ c → s.upd.black[d] = false) → (t.res .slotSwitch).status = .completed ∧ t.upd.live = 0))

/-- An accepted BIST without a ground to refuse begins at once, or at the next boot where its target holds the Supervisor
region; with one it ends REFUSED with the ground. A test that completes ends COMPLETED with DETAIL 0 where the signature is the
expected one and 0x110 where not, both in VALUE; one that was aborted ends ABORTED and keeps BIST_SIG. A deferred test resets
the device with cause 0x0B. (18_service_update_test.md R432, R433, R436, R437.) -/
def Obligations.TestsRun : Prop :=
  (∀ (s : State) (h : Hdr) (kind : Nat), Accepts s h (cmdBase .bist + 1) kind →
    let target := s.nat Reg.BIST_TARGET
    ∃ t, exec (.bist h kind) s = .next t ∧ Answered t h .ok ∧
      (s.bistRefusal target kind ≠ 0 → (t.res .bist).status = .refused ∧ (t.res .bist).detail = s.bistRefusal target kind ∧
        t.upd = s.upd) ∧
      (s.bistRefusal target kind = 0 → bistAtBoot target = true → (t.res .bist).status = .completed ∧
        (t.res .bist).detail = 0x0102 ∧ t.nat Reg.BIST_STATE = 3 ∧ t.upd.bistBoot = some (target, kind)) ∧
      (s.bistRefusal target kind = 0 → bistAtBoot target = false → (t.res .bist).status = .pending ∧
        t.nat Reg.BIST_STATE = 1 ∧ t.upd.bistTarget = target ∧ t.upd.bistKind = kind)) ∧
  (∀ (s : State) (misr : Nat) (children : List Nat), s.powered = true → s.nat Reg.BIST_STATE = 1 →
    ∃ t, exec (.bistDone misr children) s = .next t ∧ t.nat Reg.BIST_STATE = 0 ∧ (t.res .bist).status = .completed ∧
      t.nat Reg.BIST_ORIGIN = 0 ∧ t.nat Reg.BIST_EXPECT = bistExpect s.upd.bistTarget s.upd.bistKind ∧
      (t.res .bist).detail = (if t.nat Reg.BIST_SIG = t.nat Reg.BIST_EXPECT then 0 else 0x0110) ∧
      (t.res .bist).value = t.nat Reg.BIST_SIG + t.nat Reg.BIST_EXPECT * 4294967296) ∧
  (∀ (s : State) (begun : Bool), s.powered = true → s.nat Reg.BIST_STATE = 2 →
    ∃ t, exec (.bistWindDownEnd begun) s = .next t ∧ t.nat Reg.BIST_STATE = 0 ∧ (t.res .bist).status = .aborted ∧
      (t.res .bist).part = begun ∧ t.get Reg.BIST_SIG = s.get Reg.BIST_SIG) ∧
  (∀ s : State, s.running = true → s.nat Reg.BIST_STATE = 3 → s.power.por = false →
    ∃ t, exec .bistDeferredReset s = .next t ∧ t.power.held = true ∧ t.power.cause = 0x0B)

/-- With the TAP out of Test-Logic-Reset: EXTEST, CLAMP and HIGHZ hold the device in reset with cause 0x0C; SAMPLE/PRELOAD
shifts the pins out and the boundary register in; IDCODE shifts the identification code out; every code without a public
instruction is BYPASS. Leaving Test-Logic-Reset is counted; TRST_N low returns there. A well-formed request frame is queued
behind the free-buffer byte; a response leaves its buffer once its last byte is clocked; faulty frames are counted, and a bad
LEN or CRC leaves an error indication. (18_service_update_test.md R438, R439, R440, R441.) -/
def Obligations.TestPortAndServicePort : Prop :=
  (∀ s : State, s.power.tapOn = true → s.power.trstLow = false → s.power.mains = true → s.modes.vaultStep < 6 →
    (∀ (c : Instr) (code : Nat), (c = .extest ∧ code = 0) ∨ (c = .clamp ∧ code = 4) ∨ (c = .highz ∧ code = 5) →
      ∃ t, exec c s = .next t ∧ t.power.tapInstr = code ∧ bit (t.nat Reg.JTAG_STATE) 1 = true ∧ Emit.tdo 6 1 ∈ t.sent ∧
        (s.power.por = false → t.power.held = true ∧ t.power.cause = 0x0C)) ∧
    (∀ pins preload : List Bool, ∃ t, exec (.samplePreload pins preload) s = .next t ∧ t.power.bscan = preload ∧
      t.sent = s.sent ++ [.tdo 6 1, .tdo pins.length (bitsNat pins)]) ∧
    (∃ t, exec .idcode s = .next t ∧ t.power.tapInstr = 2 ∧ t.sent = s.sent ++ [.tdo 6 1, .tdo 32 s.idCode]) ∧
    (∀ code : Nat, [0, 1, 2, 4, 5].contains (code % 64) = false →
      ∃ t, exec (.bypass code) s = .next t ∧ t.power.tapInstr = 0x3F ∧ t.power.held = s.power.held)) ∧
  (∀ s : State, s.power.tapOn = false → s.power.trstLow = false → s.power.mains = true → s.modes.vaultStep < 6 →
    ∃ t, exec .tapLeaveReset s = .next t ∧ t.power.tapOn = true ∧ bit (t.nat Reg.JTAG_STATE) 0 = true ∧
      t.nat Reg.JTAG_ENTRY_CNT = (s.nat Reg.JTAG_ENTRY_CNT + 1) % 4294967296) ∧
  (∀ (s : State) (low : Bool), ∃ t, exec (.trstNAssert low) s = .next t ∧ t.power.trstLow = low ∧
    (low = true → t.power.tapOn = false ∧ t.power.tapInstr = 2 ∧ bit (t.nat Reg.JTAG_STATE) 0 = false ∧
      bit (t.nat Reg.JTAG_STATE) 1 = false)) ∧
  (∀ (s : State) (mosi : List Byte), s.running = true → ∃ t, exec (.serviceRequestFrame mosi) s = .next t ∧
    t.sent = s.sent ++ [.svcFrame (leBytes 1 s.svcFree)] ∧
    (let len := leAt mosi 1 2
     s.power.pfw = false → leAt mosi 0 1 = 0x5A → 12 ≤ len → len ≤ 1036 → len + 5 ≤ mosi.length →
     leAt mosi (len + 3) 2 = svcCrc ((mosi.drop 1).take (len + 2)) → s.dict.queue.length < 64 →
     (s.dict.queue.filter fun x => x.1 = Src.service).length < 16 →
     t.dict.queue = s.dict.queue ++ [(.service, requestOf ((mosi.drop 3).take len))] ∧ t.objs = s.objs)) ∧
  (∀ (s : State) (clocked : Nat) (r : Response) (rest : List Response), s.running = true → s.power.pfw = false →
    takeService s.dict.responses = some (r, rest) →
    ∃ t, exec (.serviceResponseFrame clocked) s = .next t ∧
      t.sent = s.sent ++ [.svcFrame ((svcBytes (some r)).take clocked)] ∧
      t.dict.responses = if (svcBytes (some r)).length ≤ clocked then rest else s.dict.responses) ∧
  (∀ (s : State) (kind : Fin 3), s.running = true → ∃ t, exec (.serviceFrameFault kind) s = .next t ∧
    (kind = 0 → t.nat Reg.SVC_FRAME_ERR_CNT = (s.nat Reg.SVC_FRAME_ERR_CNT + 1) % 4294967296) ∧
    (kind = 1 → t.nat Reg.SVC_CRC_ERR_CNT = (s.nat Reg.SVC_CRC_ERR_CNT + 1) % 4294967296 ∧
      t.dict.responses = s.dict.responses ++ [svcError]) ∧
    (kind = 2 → t.nat Reg.SVC_ABORT_CNT = (s.nat Reg.SVC_ABORT_CNT + 1) % 4294967296))

/-- A lapsed lease at the holder, RESET_N low, a lockstep mismatch, the watchdog and TESTMODE high each hold a device outside
power-on reset in reset with their own cause; RESET_REQUEST schedules its reset; power-on reset is released with the mains in
range. Nothing boots while anything holds the device; where nothing does, a boot takes it out of reset, with its part, its
waiting commands, its outputs sent and its firmware memory as they were, the fabric free of fences and no rebinding under way; a
boot that ends in RECOVERY leaves every result IDLE. (19_startup_reset_power.md R449, R451, R452, 18_service_update_test.md
R442, 16_redundancy.md R396, 20_signals_package.md R476.) -/
def Obligations.ResetsAndBoot : Prop :=
  (∀ s : State, s.powered = true → s.holds = true → s.power.por = false →
    ∃ t, exec .leaseLapse s = .next t ∧ t.power.held = true ∧ t.power.cause = 0x07 ∧
      t.nat Reg.LAPSE_CNT = (s.nat Reg.LAPSE_CNT + 1) % 4294967296) ∧
  (∀ (s : State) (low : Bool), s.modes.vaultStep < 6 → ∃ t, exec (.resetN low) s = .next t ∧ t.power.resetLow = low ∧
    (low = true → s.power.por = false → t.power.held = true ∧ t.power.cause = 0x05)) ∧
  (∀ (s : State) (c : Instr) (cause : Nat), (c = .lockstep ∧ cause = 0x09) ∨ (c = .watchdog ∧ cause = 0x0A) →
    s.running = true → s.power.por = false → ∃ t, exec c s = .next t ∧ t.power.held = true ∧ t.power.cause = cause ∧
      bit (t.nat Reg.OE_STATE) 0 = false) ∧
  (∀ (s : State) (high : Bool), ∃ t, exec (.testmodeHigh high) s = .next t ∧ t.power.testMode = high ∧
    (high = true → s.modes.vaultStep < 6 → s.power.por = false → t.power.held = true ∧ t.power.cause = 0x0C)) ∧
  (∀ s : State, s.power.mains = true → ∃ t, exec .powerOnResetRelease s = .next t ∧
    t = { s with power := { s.power with por := false } }) ∧
  (∀ (s : State) (h : Hdr) (v : Nat), Accepts s h Reg.RESET_REQUEST v →
    ∃ t, exec (.resetRequest h v) s = .next t ∧ Answered t h .ok ∧ t.power = { s.power with scheduled := 6 }) ∧
  (∀ (s : State) (b : BootFacts), s.power.held = true →
    s.power.mains = false ∨ s.power.por = true ∨ s.power.resetLow = true ∨ s.power.testMode = true ∨ s.power.pfw = true ∨
      bit (s.nat Reg.JTAG_STATE) 1 = true ∨ 6 ≤ s.modes.vaultStep → exec (.boot b) s = .next s) ∧
  (∀ (s : State) (b : BootFacts), s.mayBoot = true → ∃ t, exec (.boot b) s = .next t ∧ t.power.held = false ∧
    t.part = s.part ∧ t.pending = s.pending ∧ s.sent <+: t.sent ∧ t.upd.mem = s.upd.mem ∧ t.rebinds = [] ∧
    t.fab = State.reset.fab ∧ t.upd.loading = none ∧ t.upd.live = 0 ∧ t.upd.bistBoot = none ∧
    ((s.bootedImages b).inRecovery = true → t.nat Reg.BOOT_STATE = 3 ∧ ∀ c : CmdId, (t.res c).encode = zeros 16) ∧
    ((s.bootedImages b).inRecovery = false → t.power.lost = false ∧ t.power.inVault = false ∧ t.power.cause = s.bootCause))

/-- A power-fail warning outside VAULT is counted and shown, by PFW's bit or by the supplies below their thresholds, and, at a
running device, takes OE_PAIR low; its end resets the device with cause 0x0D. Mains that go hold the device in power-on reset
with cause 2 where the warning was handled and 3 with the first supply where not, which is counted, with PRE_LOSS written at a
running device that had no warning; mains that return wait for power-on reset. A low battery is shown. A brown-out of the vault
sets legal time, the loop states and counters and the vault events to nothing. An enabled source wakes the device from VAULT,
and one in steps 2 to 5 of the entry is kept. The clock's stop and restart follow its crystal. (19_startup_reset_power.md R451,
R455, R457, R458, R459, R464, R465, R466, 03_modes.md R86.) -/
def Obligations.PowerFailAndVault : Prop :=
  (∀ (s : State) (steps : Fin 6) (below : Nat), s.modes.vaultStep < 6 → s.power.mains = true → s.power.pfw = false →
    ∃ t, exec (.pfw ⟨steps, below⟩) s = .next t ∧ t.power.pfw = true ∧ t.nat Reg.PFW_CNT = (s.nat Reg.PFW_CNT + 1) % 4294967296 ∧
      bit (t.nat Reg.SUPPLY_STATUS) 5 = (below % 32 == 0) ∧ t.nat Reg.SUPPLY_STATUS % 32 = below % 32 ∧ (s.powered = true → bit (t.nat Reg.OE_STATE) 0 = false) ∧
      bit (t.nat Reg.SUPPLY_STATUS) 6 = (!s.powered || steps.val == 5) ∧ t.power.pfwDone = (!s.powered || steps.val == 5)) ∧
  (∀ s : State, s.power.pfw = true → s.power.pfwDone = true → s.power.mains = true →
    ∃ t, exec .pfwRelease s = .next t ∧ t.power.pfw = false ∧ t.power.pfwDone = false ∧
      bit (t.nat Reg.SUPPLY_STATUS) 5 = false ∧ bit (t.nat Reg.SUPPLY_STATUS) 6 = false ∧
      (s.modes.vaultStep < 6 → s.power.por = false → t.power.held = true ∧ t.power.cause = 0x0D)) ∧
  (∀ (s : State) (first : Fin 5) (out : Nat), s.power.mains = true →
    ∃ t, exec (.mainsLost first out) s = .next t ∧ t.power.mains = false ∧ t.power.held = true ∧ t.power.por = true ∧
      t.power.lost = true ∧ t.modes.vaultStep = 0 ∧ t.nat Reg.SUPPLY_STATUS % 32 = out % 32 ∧ t.nat Reg.JTAG_STATE = 0 ∧
      (s.powered = true → s.power.pfw = false → t.get Reg.PRE_LOSS_WORD = s.get Reg.MODE_WORD ∧
        t.get Reg.PRE_LOSS_IN_FORCE = s.get Reg.MODE_IN_FORCE) ∧
      (s.power.pfwDone = true ∨ 3 ≤ s.modes.vaultStep → t.power.cause = 2 ∧
        t.nat Reg.NOWARN_LOSS_CNT = s.nat Reg.NOWARN_LOSS_CNT) ∧
      (s.power.pfwDone = false → s.modes.vaultStep < 3 → t.power.cause = 3 + first.val * 256 ∧
        t.nat Reg.NOWARN_LOSS_CNT = (s.nat Reg.NOWARN_LOSS_CNT + 1) % 4294967296)) ∧
  (∀ s : State, s.power.mains = false → ∃ t, exec .mainsReturned s = .next t ∧ t.power.mains = true ∧
    t.power.anaLost = false ∧ t.power.por = s.power.por ∧ t.nat Reg.SUPPLY_STATUS % 128 = 0) ∧
  (∀ s : State, ∃ t, exec .vbatLow s = .next t ∧ bit (t.nat Reg.VBAT_STATUS) 0 = true) ∧
  (∀ s : State, s.power.anaLost = true → ∃ t, exec .vaultBrownOut s = .next t ∧ t.now = 0 ∧ t.power.events = [] ∧
    t.power.vaultLost = true ∧ t.nat Reg.TAMP_STATE = 0 ∧ t.nat Reg.RTC_STATUS = 1 ∧
    ∀ i : Fin 4, t.nat (Reg.TAMP_OPEN_CNT (i.val + 1)) = 0 ∧ t.nat (Reg.TAMP_AMBIG_CNT (i.val + 1)) = 0) ∧
  (∀ (s : State) (source : Fin 6), s.wakeHolds source.val = true → s.power.mains = true →
    ∃ t, exec (.wake source) s = .next t ∧
      (6 ≤ s.modes.vaultStep → t.modes.vaultStep = 0 ∧ t.power.held = true ∧ t.power.cause = 4 + 2 ^ source.val * 256 ∧
        t.nat Reg.WAKE_SOURCE = 2 ^ source.val) ∧
      (2 ≤ s.modes.vaultStep → s.modes.vaultStep < 6 → t.power.wakePending = some source.val ∧
        t.modes.vaultStep = s.modes.vaultStep)) ∧
  (∀ s : State, (bit (s.nat Reg.RTC_STATUS) 0 = true → ∃ t, exec .rtcStop s = .next t ∧ t.nat Reg.RTC_STATUS = 2) ∧
    (bit (s.nat Reg.RTC_STATUS) 0 = false → ∃ t, exec .rtcRestart s = .next t ∧ t.nat Reg.RTC_STATUS = 1))
end

