-- ==== Sys2Proof/Laws/Bits.lean ====
section
/-! SUPPORT. Laws of bit fields: what setting one bit does to every bit of a number. -/

namespace Sys2Proof.Machine

theorem bit_eq_testBit (n i : Nat) : bit n i = n.testBit i := by
  unfold bit bitN
  rw [Nat.testBit_eq_decide_div_mod_eq]
  by_cases h : n / 2 ^ i % 2 = 1 <;> simp [h]

/-- Two numbers with the same quotient by 2^(i+1) have the same bits above i. -/
theorem testBit_above {m n i j : Nat} (hj : i < j) (h : m / 2 ^ (i + 1) = n / 2 ^ (i + 1)) : m.testBit j = n.testBit j := by
  obtain ⟨d, rfl⟩ : ∃ d, j = i + 1 + d := ⟨j - (i + 1), by omega⟩
  rw [Nat.testBit_eq_decide_div_mod_eq, Nat.testBit_eq_decide_div_mod_eq, Nat.pow_add, ← Nat.div_div_eq_div_mul,
    ← Nat.div_div_eq_div_mul, h]

theorem div_succ_pow_of_add {n i : Nat} (h : n.testBit i = false) : (2 ^ i + n) / 2 ^ (i + 1) = n / 2 ^ (i + 1) := by
  rw [Nat.testBit_eq_decide_div_mod_eq] at h
  simp only [decide_eq_false_iff_not] at h
  rw [Nat.pow_succ, ← Nat.div_div_eq_div_mul, ← Nat.div_div_eq_div_mul,
    Nat.add_div_left _ (Nat.two_pow_pos i)]
  omega

/-- Setting a bit sets that bit and no other. -/
theorem bit_setBit (n i j : Nat) (b : Bool) : bit (setBit n i b) j = if j = i then b else bit n j := by
  unfold setBit
  rw [bit_eq_testBit n i]
  by_cases hb : (n.testBit i == b) = true
  · simp only [hb, if_true]
    split
    · rename_i h; subst h; rw [bit_eq_testBit]; simpa using hb
    · rfl
  · simp only [hb, Bool.false_eq_true, if_false]
    rw [bit_eq_testBit, bit_eq_testBit]
    cases b with
    | true =>
      have hn : n.testBit i = false := by simpa using hb
      simp only [if_true]
      rw [Nat.add_comm]
      split
      · rename_i h; subst h; rw [Nat.testBit_two_pow_add_eq, hn]; rfl
      · rename_i h
        rcases Nat.lt_or_gt_of_ne h with h | h
        · exact Nat.testBit_two_pow_add_gt h n
        · exact testBit_above h (div_succ_pow_of_add hn)
    | false =>
      have hn : n.testBit i = true := by simpa using hb
      simp only [Bool.false_eq_true, if_false]
      have hle : 2 ^ i ≤ n := Nat.ge_two_pow_of_testBit hn
      obtain ⟨m, rfl⟩ : ∃ m, n = 2 ^ i + m := ⟨n - 2 ^ i, by omega⟩
      rw [Nat.add_sub_cancel_left]
      have hm : m.testBit i = false := by rw [Nat.testBit_two_pow_add_eq] at hn; simpa using hn
      split
      · rename_i h; subst h; exact hm
      · rename_i h
        rcases Nat.lt_or_gt_of_ne h with h | h
        · exact (Nat.testBit_two_pow_add_gt h m).symm
        · exact (testBit_above h (div_succ_pow_of_add hm)).symm

end Sys2Proof.Machine
end

