-- ==== Sys2Proof/Laws/Mem.lean ====
section
/-! SUPPORT. Laws of the firmware memory: what a write makes a byte read as, and the canonical form it keeps. -/

namespace Sys2Proof.Machine

theorem memRising_mono {l : List (Nat × Byte)} {a b : Nat} (hab : a ≤ b) (h : memRising b l = true) : memRising a l = true := by
  cases l with
  | nil => rfl
  | cons c t => obtain ⟨x, v⟩ := c; simp only [memRising, Bool.and_eq_true, decide_eq_true_eq] at h ⊢; exact ⟨by omega, h.2⟩

/-- A byte just dropped reads as what nothing has written. -/
@[simp] theorem memGet_drop_same (l : List (Nat × Byte)) (k : Nat) : memGet (memDrop l k) k = 0 := by
  induction l with
  | nil => rfl
  | cons d t ih => obtain ⟨x, v⟩ := d; by_cases hx : x = k <;> simp [memDrop, memGet, hx, ih]

theorem memGet_drop_other (l : List (Nat × Byte)) {k j : Nat} (hj : j ≠ k) : memGet (memDrop l k) j = memGet l j := by
  induction l with
  | nil => rfl
  | cons d t ih =>
    obtain ⟨x, v⟩ := d
    by_cases hx : x = k
    · subst hx; simp [memDrop, memGet, ih, Ne.symm hj]
    · simp [memDrop, memGet, hx, ih]

@[simp] theorem memGet_ins_same (l : List (Nat × Byte)) (k : Nat) (v : Byte) : memGet (memIns l k v) k = v := by
  induction l with
  | nil => simp [memIns, memGet]
  | cons d t ih =>
    obtain ⟨x, w⟩ := d
    by_cases h1 : k < x
    · simp [memIns, memGet, h1]
    · by_cases h2 : x = k <;> simp [memIns, memGet, h1, h2, ih]

theorem memGet_ins_other (l : List (Nat × Byte)) {k j : Nat} (v : Byte) (hj : j ≠ k) : memGet (memIns l k v) j = memGet l j := by
  induction l with
  | nil => simp [memIns, memGet, Ne.symm hj]
  | cons d t ih =>
    obtain ⟨x, w⟩ := d
    by_cases h1 : k < x
    · simp [memIns, memGet, h1, Ne.symm hj]
    · by_cases h2 : x = k
      · subst h2; simp [memIns, memGet, Ne.symm hj]
      · simp [memIns, memGet, h1, h2, ih]

/-- A byte reads as it was written. -/
@[simp] theorem memGet_put_same (l : List (Nat × Byte)) (k : Nat) (v : Byte) : memGet (memPut l k v) k = v := by
  unfold memPut
  split
  · rename_i h; simp [h]
  · simp

/-- A write leaves every other byte alone. -/
theorem memGet_put_other (l : List (Nat × Byte)) {k j : Nat} (v : Byte) (hj : j ≠ k) : memGet (memPut l k v) j = memGet l j := by
  unfold memPut
  split
  · exact memGet_drop_other l hj
  · exact memGet_ins_other l v hj

/-- Writing bytes from an address on leaves every byte outside them alone. -/
theorem memGet_write_other (bs : List Byte) (l : List (Nat × Byte)) (k j : Nat) (hj : j < k ∨ k + bs.length ≤ j) :
    memGet (memWrite l k bs) j = memGet l j := by
  induction bs generalizing l k with
  | nil => rfl
  | cons b t ih =>
    simp only [List.length_cons] at hj
    rw [memWrite, ih _ _ (by omega), memGet_put_other _ _ (by omega)]

/-- Each byte written from an address on reads as it was written. -/
theorem memGet_write (bs : List Byte) (l : List (Nat × Byte)) (k i : Nat) (hi : i < bs.length) :
    memGet (memWrite l k bs) (k + i) = bs[i] := by
  induction bs generalizing l k i with
  | nil => cases hi
  | cons b t ih =>
    cases i with
    | zero => simp only [memWrite, Nat.add_zero, List.getElem_cons_zero]; rw [memGet_write_other _ _ _ _ (by omega)]; simp
    | succ i =>
      have := ih (memPut l k b) (k + 1) i (by simpa using hi)
      simp only [memWrite, List.getElem_cons_succ]
      rw [← this]; congr 1; omega

theorem memRising_drop {l : List (Nat × Byte)} {lo : Nat} (k : Nat) (h : memRising lo l = true) :
    memRising lo (memDrop l k) = true := by
  induction l generalizing lo with
  | nil => rfl
  | cons d t ih =>
    obtain ⟨x, v⟩ := d
    simp only [memRising, Bool.and_eq_true, decide_eq_true_eq] at h
    by_cases hx : x = k
    · simp only [memDrop, hx, beq_self_eq_true, if_true]
      exact memRising_mono (by omega) (ih h.2)
    · have hx' : (x == k) = false := by simpa using hx
      simp only [memDrop, hx', Bool.false_eq_true, if_false, memRising, Bool.and_eq_true, decide_eq_true_eq]
      exact ⟨h.1, ih h.2⟩

theorem memRising_ins {l : List (Nat × Byte)} {lo k : Nat} (v : Byte) (hk : lo ≤ k) (h : memRising lo l = true) :
    memRising lo (memIns l k v) = true := by
  induction l generalizing lo with
  | nil => simp [memIns, memRising, hk]
  | cons d t ih =>
    obtain ⟨x, w⟩ := d
    simp only [memRising, Bool.and_eq_true, decide_eq_true_eq] at h
    by_cases h1 : k < x
    · simp only [memIns, h1, if_true, memRising, Bool.and_eq_true, decide_eq_true_eq]
      exact ⟨hk, by omega, h.2⟩
    · by_cases h2 : x = k
      · subst h2
        simp only [memIns, h1, if_false, beq_self_eq_true, if_true, memRising, Bool.and_eq_true, decide_eq_true_eq]
        exact ⟨hk, h.2⟩
      · have h2' : (x == k) = false := by simpa using h2
        simp only [memIns, h1, if_false, h2', Bool.false_eq_true, memRising, Bool.and_eq_true, decide_eq_true_eq]
        exact ⟨h.1, ih (by omega) h.2⟩

theorem mem_memDrop {l : List (Nat × Byte)} {k : Nat} {c : Nat × Byte} (h : c ∈ memDrop l k) : c ∈ l := by
  induction l with
  | nil => exact h
  | cons d t ih =>
    obtain ⟨x, v⟩ := d
    by_cases hx : (x == k) = true
    · simp only [memDrop, hx, if_true] at h; exact List.mem_cons_of_mem _ (ih h)
    · simp only [memDrop, hx, Bool.false_eq_true, if_false, List.mem_cons] at h
      rcases h with rfl | h
      · exact List.mem_cons_self
      · exact List.mem_cons_of_mem _ (ih h)

theorem mem_memIns {l : List (Nat × Byte)} {k : Nat} {v : Byte} {c : Nat × Byte} (h : c ∈ memIns l k v) : c = (k, v) ∨ c ∈ l := by
  induction l with
  | nil => simpa [memIns] using h
  | cons d t ih =>
    obtain ⟨x, w⟩ := d
    by_cases h1 : k < x
    · simpa [memIns, h1] using h
    · by_cases h2 : (x == k) = true
      · simp only [memIns, h1, if_false, h2, if_true, List.mem_cons] at h
        rcases h with h | h
        · exact .inl h
        · exact .inr (List.mem_cons_of_mem _ h)
      · simp only [memIns, h1, if_false, h2, Bool.false_eq_true, List.mem_cons] at h
        rcases h with rfl | h
        · exact .inr List.mem_cons_self
        · rcases ih h with h | h
          · exact .inl h
          · exact .inr (List.mem_cons_of_mem _ h)

/-- Writing a byte keeps the canonical form. -/
theorem memWf_put {l : List (Nat × Byte)} (k : Nat) (v : Byte) (h : memWf l = true) : memWf (memPut l k v) = true := by
  simp only [memWf, Bool.and_eq_true, List.all_eq_true, bne_iff_ne, ne_eq] at h ⊢
  unfold memPut
  split
  · exact ⟨memRising_drop k h.1, fun c hc => h.2 c (mem_memDrop hc)⟩
  · rename_i hv
    refine ⟨memRising_ins v (Nat.zero_le _) h.1, fun c hc => ?_⟩
    rcases mem_memIns hc with rfl | hm
    · exact hv
    · exact h.2 c hm

/-- Writing bytes keeps the canonical form. -/
theorem memWf_write (bs : List Byte) {l : List (Nat × Byte)} (k : Nat) (h : memWf l = true) : memWf (memWrite l k bs) = true := by
  induction bs generalizing l k with
  | nil => exact h
  | cons b t ih => exact ih (k + 1) (memWf_put k b h)

end Sys2Proof.Machine
end

