-- ==== Sys2Proof/Laws/Objs.lean ====
section
/-! SUPPORT. Laws of the store of dictionary elements: what a write makes an address read as, and the canonical form it keeps. -/

namespace Sys2Proof.Machine

theorem risingFrom_mono {l : List (Nat × Val)} {a b : Nat} (hab : a ≤ b) (h : risingFrom b l = true) : risingFrom a l = true := by
  cases l with
  | nil => rfl
  | cons c t => obtain ⟨x, v⟩ := c; simp only [risingFrom, Bool.and_eq_true, decide_eq_true_eq] at h ⊢; exact ⟨by omega, h.2⟩

/-- Every address of a rising list is at or above the limit. -/
theorem risingFrom_lower {l : List (Nat × Val)} {lo : Nat} (h : risingFrom lo l = true) (c : Nat × Val) (hc : c ∈ l) : lo ≤ c.1 := by
  induction l generalizing lo with
  | nil => cases hc
  | cons d t ih =>
    obtain ⟨x, v⟩ := d
    simp only [risingFrom, Bool.and_eq_true, decide_eq_true_eq] at h
    rcases List.mem_cons.mp hc with rfl | hm
    · exact h.1
    · have := ih h.2 hm; omega

theorem cellFind_none_of_rising {l : List (Nat × Val)} {lo k : Nat} (h : risingFrom lo l = true) (hk : k < lo) :
    cellFind l k = none := by
  induction l generalizing lo with
  | nil => rfl
  | cons d t ih =>
    obtain ⟨x, v⟩ := d
    simp only [risingFrom, Bool.and_eq_true, decide_eq_true_eq] at h
    have hx : (x == k) = false := by simp; omega
    simp only [cellFind, hx, Bool.false_eq_true, if_false]
    exact ih h.2 (by omega)

/-- Dropping an address leaves no value listed for it. -/
@[simp] theorem cellFind_drop_same (l : List (Nat × Val)) (k : Nat) : cellFind (cellDrop l k) k = none := by
  induction l with
  | nil => rfl
  | cons d t ih =>
    obtain ⟨x, v⟩ := d
    by_cases hx : x = k <;> simp [cellDrop, cellFind, hx, ih]

theorem cellFind_drop_other (l : List (Nat × Val)) {k j : Nat} (hj : j ≠ k) : cellFind (cellDrop l k) j = cellFind l j := by
  induction l with
  | nil => rfl
  | cons d t ih =>
    obtain ⟨x, v⟩ := d
    by_cases hx : x = k
    · subst hx; simp [cellDrop, cellFind, ih, Ne.symm hj]
    · simp [cellDrop, cellFind, hx, ih]

/-- The value put in for an address is the value listed for it. -/
@[simp] theorem cellFind_put_same (l : List (Nat × Val)) (k : Nat) (v : Val) : cellFind (cellPut l k v) k = some v := by
  induction l with
  | nil => simp [cellPut, cellFind]
  | cons d t ih =>
    obtain ⟨x, w⟩ := d
    by_cases h1 : k < x
    · simp [cellPut, cellFind, h1]
    · by_cases h2 : x = k <;> simp [cellPut, cellFind, h1, h2, ih]

theorem cellFind_put_other (l : List (Nat × Val)) {k j : Nat} (v : Val) (hj : j ≠ k) : cellFind (cellPut l k v) j = cellFind l j := by
  induction l with
  | nil => simp [cellPut, cellFind, Ne.symm hj]
  | cons d t ih =>
    obtain ⟨x, w⟩ := d
    by_cases h1 : k < x
    · simp [cellPut, cellFind, h1, Ne.symm hj]
    · by_cases h2 : x = k
      · subst h2; simp [cellPut, cellFind, Ne.symm hj]
      · simp [cellPut, cellFind, h1, h2, ih]

/-- A read after a write of the same element gives the value written. -/
@[simp] theorem objGet_put_same (l : List (Nat × Val)) (k : Nat) (v : Val) : objGet (objPut l k v) k = v := by
  unfold objGet objPut
  split
  · rename_i h; simp [h]
  · simp

/-- A write leaves every other element alone. -/
theorem objGet_put_other (l : List (Nat × Val)) {k j : Nat} (v : Val) (hj : j ≠ k) : objGet (objPut l k v) j = objGet l j := by
  unfold objGet objPut
  split
  · rw [cellFind_drop_other l hj]
  · rw [cellFind_put_other l v hj]

theorem risingFrom_drop {l : List (Nat × Val)} {lo : Nat} (k : Nat) (h : risingFrom lo l = true) :
    risingFrom lo (cellDrop l k) = true := by
  induction l generalizing lo with
  | nil => rfl
  | cons d t ih =>
    obtain ⟨x, v⟩ := d
    simp only [risingFrom, Bool.and_eq_true, decide_eq_true_eq] at h
    by_cases hx : x = k
    · simp only [cellDrop, hx, beq_self_eq_true, if_true]
      exact risingFrom_mono (by omega) (ih h.2)
    · have hx' : (x == k) = false := by simpa using hx
      simp only [cellDrop, hx', Bool.false_eq_true, if_false, risingFrom, Bool.and_eq_true, decide_eq_true_eq]
      exact ⟨h.1, ih h.2⟩

theorem risingFrom_put {l : List (Nat × Val)} {lo k : Nat} (v : Val) (hk : lo ≤ k) (h : risingFrom lo l = true) :
    risingFrom lo (cellPut l k v) = true := by
  induction l generalizing lo with
  | nil => simp [cellPut, risingFrom, hk]
  | cons d t ih =>
    obtain ⟨x, w⟩ := d
    simp only [risingFrom, Bool.and_eq_true, decide_eq_true_eq] at h
    by_cases h1 : k < x
    · simp only [cellPut, h1, if_true, risingFrom, Bool.and_eq_true, decide_eq_true_eq]
      exact ⟨hk, by omega, h.2⟩
    · by_cases h2 : x = k
      · subst h2
        simp only [cellPut, h1, if_false, beq_self_eq_true, if_true, risingFrom, Bool.and_eq_true, decide_eq_true_eq]
        exact ⟨hk, h.2⟩
      · have h2' : (x == k) = false := by simpa using h2
        simp only [cellPut, h1, if_false, h2', Bool.false_eq_true, risingFrom, Bool.and_eq_true, decide_eq_true_eq]
        exact ⟨h.1, ih (by omega) h.2⟩

theorem mem_cellDrop {l : List (Nat × Val)} {k : Nat} {c : Nat × Val} (h : c ∈ cellDrop l k) : c ∈ l := by
  induction l with
  | nil => exact h
  | cons d t ih =>
    obtain ⟨x, v⟩ := d
    by_cases hx : (x == k) = true
    · simp only [cellDrop, hx, if_true] at h; exact List.mem_cons_of_mem _ (ih h)
    · simp only [cellDrop, hx, Bool.false_eq_true, if_false, List.mem_cons] at h
      rcases h with rfl | h
      · exact List.mem_cons_self
      · exact List.mem_cons_of_mem _ (ih h)

theorem mem_cellPut {l : List (Nat × Val)} {k : Nat} {v : Val} {c : Nat × Val} (h : c ∈ cellPut l k v) : c = (k, v) ∨ c ∈ l := by
  induction l with
  | nil => simpa [cellPut] using h
  | cons d t ih =>
    obtain ⟨x, w⟩ := d
    by_cases h1 : k < x
    · simpa [cellPut, h1] using h
    · by_cases h2 : (x == k) = true
      · simp only [cellPut, h1, if_false, h2, if_true, List.mem_cons] at h
        rcases h with h | h
        · exact .inl h
        · exact .inr (List.mem_cons_of_mem _ h)
      · simp only [cellPut, h1, if_false, h2, Bool.false_eq_true, List.mem_cons] at h
        rcases h with rfl | h
        · exact .inr List.mem_cons_self
        · rcases ih h with h | h
          · exact .inl h
          · exact .inr (List.mem_cons_of_mem _ h)

/-- A write keeps the canonical form. -/
theorem objWf_put {l : List (Nat × Val)} (k : Nat) (v : Val) (h : objWf l = true) : objWf (objPut l k v) = true := by
  simp only [objWf, Bool.and_eq_true, List.all_eq_true, bne_iff_ne, ne_eq] at h ⊢
  unfold objPut
  split
  · exact ⟨risingFrom_drop k h.1, fun c hc => h.2 c (mem_cellDrop hc)⟩
  · rename_i hv
    refine ⟨risingFrom_put v (Nat.zero_le _) h.1, fun c hc => ?_⟩
    rcases mem_cellPut hc with rfl | hm
    · exact hv
    · exact h.2 c hm

/-- Leaving entries out keeps the canonical form. -/
theorem objWf_filter {l : List (Nat × Val)} (p : Nat × Val → Bool) (h : objWf l = true) : objWf (l.filter p) = true := by
  simp only [objWf, Bool.and_eq_true, List.all_eq_true] at h ⊢
  refine ⟨?_, fun c hc => h.2 c (List.mem_filter.mp hc).1⟩
  have hr := h.1
  clear h
  generalize 0 = lo at hr
  induction l generalizing lo with
  | nil => rfl
  | cons d t ih =>
    obtain ⟨x, v⟩ := d
    simp only [risingFrom, Bool.and_eq_true, decide_eq_true_eq] at hr
    by_cases hp : p (x, v) = true
    · simp only [List.filter_cons, hp, if_true, risingFrom, Bool.and_eq_true, decide_eq_true_eq]
      exact ⟨hr.1, ih _ hr.2⟩
    · simp only [List.filter_cons, hp, Bool.false_eq_true, if_false]
      exact risingFrom_mono (by omega) (ih _ hr.2)

/-- Writing the entries of another list one by one keeps the canonical form. -/
theorem objWf_foldl (f : List (Nat × Val) → (Nat × Val) → List (Nat × Val)) (hf : ∀ l e, objWf l = true → objWf (f l e) = true)
    (es : List (Nat × Val)) {l : List (Nat × Val)} (h : objWf l = true) : objWf (es.foldl f l) = true := by
  induction es generalizing l with
  | nil => exact h
  | cons e t ih => exact ih (hf l e h)

end Sys2Proof.Machine
end

