-- ==== Sys2Proof/Laws/Keeps.lean ====
section
/-! SUPPORT. What every operation on a state keeps: the queue of waiting commands, the part, the canonical forms of the dictionary,
of the configuration store and of the firmware memory, and that the billing hold has only boundary entries; it takes back nothing
that was sent and no free value that was drawn. -/

namespace Sys2Proof.Machine

theorem heldAll_filter (p : Nat × Val → Bool) {l : List (Nat × Val)} (h : heldAll l = true) : heldAll (l.filter p) = true := by
  unfold heldAll at *; simp only [List.all_eq_true, List.mem_filter] at *; exact fun e he => h e he.1

@[simp] theorem heldAll_later (l : List (Nat × Val)) : heldAll (l.filter fun e => isHeld e.1) = true := by
  unfold heldAll; simp

theorem heldAll_stagePut {l : List (Nat × Val)} {k : Nat} (v : Val) (h : heldAll l = true) (hk : isHeld k = true) :
    heldAll (stagePut l k v) = true := by
  unfold heldAll stagePut at *
  simp only [List.all_eq_true] at *
  split
  · intro e he
    obtain ⟨x, hx, rfl⟩ := List.mem_map.mp he
    by_cases hx' : (x.1 == k) = true
    · simpa [hx'] using hk
    · simpa [hx'] using h x hx
  · intro e he
    rcases List.mem_append.mp he with he | he
    · exact h e he
    · simp only [List.mem_singleton] at he; subst he; exact hk

/-- Entries that apply at a boundary join a list of such entries. -/
theorem heldAll_stagePuts {es : List (Nat × Val)} (he : heldAll es = true) {l : List (Nat × Val)} (h : heldAll l = true) :
    heldAll (es.foldl (fun (l : List (Nat × Val)) (e : Nat × Val) => stagePut l e.1 e.2) l) = true := by
  induction es generalizing l with
  | nil => exact h
  | cons e es ih =>
    have he' : isHeld e.1 = true ∧ heldAll es = true := by simpa [heldAll] using he
    exact ih he'.2 (heldAll_stagePut e.2 h he'.1)

/-- What carries over from one state to the next, whatever is done. -/
structure Keeps (s t : State) : Prop where
  pending : t.pending = s.pending
  part : t.part = s.part
  objs : objWf s.objs = true → objWf t.objs = true
  store : objWf s.dict.store = true → objWf t.dict.store = true
  hold : heldAll s.dict.billHold = true → heldAll t.dict.billHold = true
  mem : memWf s.upd.mem = true → memWf t.upd.mem = true
  sent : s.sent <+: t.sent
  fresh : s.fresh ≤ t.fresh

@[simp] theorem Keeps.refl (s : State) : Keeps s s := ⟨rfl, rfl, id, id, id, id, List.prefix_rfl, Nat.le_refl _⟩

theorem Keeps.trans {a b c : State} (h : Keeps a b) (g : Keeps b c) : Keeps a c :=
  ⟨g.pending.trans h.pending, g.part.trans h.part, g.objs ∘ h.objs, g.store ∘ h.store, g.hold ∘ h.hold, g.mem ∘ h.mem, h.sent.trans g.sent,
   Nat.le_trans h.fresh g.fresh⟩

/-- A record update keeps what Keeps says where its new parts do. -/
@[simp] theorem Keeps.lit {s t : State} (h : Keeps s t) (o : List (Nat × Val)) (now : Nat) (d : DictState) (mo : ModeState)
    (fa : FabState) (ev : EvState) (pw : Nat) (le : Vector Leg 32) (en : Vector Engine 38) (gr : Vector Group 4)
    (mx : Vector Bool 8) (rb : List Rebind) (bh : List (Nat × Val)) (si : SiteState) (ri : RingState) (ou : Vector Outlet 4)
    (co : Vector Cool 4) (ls : LsState) (pa : PairState) (vo : VonState) (bi : BillState) (tr : TrustState) (u : UpdState)
    (po : PowerState) (se : List Emit) (fr : Nat)
    (ho : objWf t.objs = true → objWf o = true) (hd : objWf t.dict.store = true → objWf d.store = true)
    (hh : heldAll t.dict.billHold = true → heldAll d.billHold = true)
    (hu : memWf t.upd.mem = true → memWf u.mem = true) (hs : t.sent <+: se) (hf : t.fresh ≤ fr) :
    Keeps s (State.mk t.part o now d mo fa ev pw le en gr mx rb bh si ri ou co ls pa vo bi tr u po se fr t.pending) :=
  h.trans ⟨rfl, rfl, ho, hd, hh, hu, hs, hf⟩

@[simp] theorem Keeps.ite {s a b : State} (c : Prop) [Decidable c] (ha : Keeps s a) (hb : Keeps s b) :
    Keeps s (if c then a else b) := by split <;> assumption

@[simp] theorem Keeps.foldl {α : Type} {s t : State} (f : State → α → State) (l : List α) (h : Keeps s t)
    (hf : ∀ st i, Keeps st (f st i)) : Keeps s (l.foldl f t) := by
  induction l generalizing t with
  | nil => exact h
  | cons i r ih => exact ih (h.trans (hf t i))

/-- Writing a list of entries one by one keeps the canonical form. -/
theorem objWf_puts (es : List (Nat × Val)) {l : List (Nat × Val)} (h : objWf l = true) :
    objWf (es.foldl (fun (l : List (Nat × Val)) (e : Nat × Val) => objPut l e.1 e.2) l) = true :=
  objWf_foldl _ (fun _ e h => objWf_put e.1 e.2 h) es h

theorem Keeps.ofEq {s a b : State} (h : a = b) (k : Keeps s a) : Keeps s b := h ▸ k

end Sys2Proof.Machine
end

