-- ==== Sys2Proof/Laws/KeepsAll.lean ====
section
/-! SUPPORT. Laws.KeepsAll: Keeps for every operation on a state, module by module, and for every command. -/

set_option linter.unusedSimpArgs false
set_option linter.unusedVariables false

namespace Sys2Proof.Machine

/-! ## Machine/Ops.lean -/

@[simp] theorem State.put_keeps {t0 : State} {s : State} (k : Nat) (v : Val) (hK : Keeps t0 s) :
    Keeps t0 (State.put s k v) := by
  exact hK.trans ⟨rfl, rfl, fun h => objWf_put k v h, id, id, id, List.prefix_rfl, Nat.le_refl _⟩

@[simp] theorem State.putI_keeps {t0 : State} {s : State} (k : Nat) (i : Int) (hK : Keeps t0 s) :
    Keeps t0 (State.putI s k i) := by
  unfold State.putI; try dsimp only
  repeat' split
  all_goals first | done | simp (maxDischargeDepth := 60) [hK]

@[simp] theorem State.putN_keeps {t0 : State} {s : State} (k : Nat) (n : Nat) (hK : Keeps t0 s) :
    Keeps t0 (State.putN s k n) := by
  unfold State.putN; try dsimp only
  repeat' split
  all_goals first | done | simp (maxDischargeDepth := 60) [hK]

@[simp] theorem State.putB_keeps {t0 : State} {s : State} (k : Nat) (bs : List Byte) (hK : Keeps t0 s) :
    Keeps t0 (State.putB s k bs) := by
  unfold State.putB; try dsimp only
  repeat' split
  all_goals first | done | simp (maxDischargeDepth := 60) [hK]

@[simp] theorem State.addC_keeps {t0 : State} {s : State} (k : Nat) (n : Nat) (hK : Keeps t0 s) :
    Keeps t0 (State.addC s k n) := by
  unfold State.addC; try dsimp only
  repeat' split
  all_goals first | done | simp (maxDischargeDepth := 60) [hK]

@[simp] theorem State.count_keeps {t0 : State} {s : State} (k : Nat) (hK : Keeps t0 s) :
    Keeps t0 (State.count s k) := by
  unfold State.count; try dsimp only
  repeat' split
  all_goals first | done | simp (maxDischargeDepth := 60) [hK]

@[simp] theorem State.putBit_keeps {t0 : State} {s : State} (k : Nat) (i : Nat) (b : Bool) (hK : Keeps t0 s) :
    Keeps t0 (State.putBit s k i b) := by
  unfold State.putBit; try dsimp only
  repeat' split
  all_goals first | done | simp (maxDischargeDepth := 60) [hK]

@[simp] theorem State.putMax_keeps {t0 : State} {s : State} (k : Nat) (n : Nat) (hK : Keeps t0 s) :
    Keeps t0 (State.putMax s k n) := by
  unfold State.putMax; try dsimp only
  repeat' split
  all_goals first | done | simp (maxDischargeDepth := 60) [hK]

@[simp] theorem State.putStore_keeps {t0 : State} {s : State} (k : Nat) (v : Val) (hK : Keeps t0 s) :
    Keeps t0 (State.putStore s k v) := by
  exact hK.trans ⟨rfl, rfl, id, fun h => objWf_put k v h, id, id, List.prefix_rfl, Nat.le_refl _⟩

@[simp] theorem State.putBoth_keeps {t0 : State} {s : State} (k : Nat) (v : Val) (hK : Keeps t0 s) :
    Keeps t0 (State.putBoth s k v) := by
  unfold State.putBoth; try dsimp only
  repeat' split
  all_goals first | done | simp (maxDischargeDepth := 60) [hK]

@[simp] theorem State.send_keeps {t0 : State} {s : State} (e : Emit) (hK : Keeps t0 s) :
    Keeps t0 (State.send s e) := by
  unfold State.send; try dsimp only
  repeat' split
  all_goals first | done | simp (maxDischargeDepth := 60) [hK]

@[simp] theorem State.drawn_keeps {t0 : State} {s : State} (hK : Keeps t0 s) :
    Keeps t0 (State.drawn s) := by
  unfold State.drawn; try dsimp only
  repeat' split
  all_goals first | done | simp (maxDischargeDepth := 60) [hK]

@[simp] theorem State.mirror_keeps {t0 : State} {s : State} (it : MirrorItem) (hK : Keeps t0 s) :
    Keeps t0 (State.mirror s it) := by
  unfold State.mirror; try dsimp only
  repeat' split
  all_goals first | done | simp (maxDischargeDepth := 60) [hK]

@[simp] theorem State.measureLat_keeps {t0 : State} {s : State} (k : Nat) (place : Nat) (boundTicks : Nat) (bounded : Bool) (hK : Keeps t0 s) :
    Keeps t0 (State.measureLat s k place boundTicks bounded) := by
  unfold State.measureLat; try dsimp only
  repeat' split
  all_goals first | done | simp (maxDischargeDepth := 60) [hK]

@[simp] theorem State.setRes_keeps {t0 : State} {s : State} (c : CmdId) (r : Res) (hK : Keeps t0 s) :
    Keeps t0 (State.setRes s c r) := by
  unfold State.setRes; try dsimp only
  repeat' split
  all_goals first | done | simp (maxDischargeDepth := 60) [hK]

@[simp] theorem State.startCmd_keeps {t0 : State} {s : State} (c : CmdId) (arg : Nat) (hK : Keeps t0 s) :
    Keeps t0 (State.startCmd s c arg) := by
  unfold State.startCmd; try dsimp only
  repeat' split
  all_goals first | done | simp (maxDischargeDepth := 60) [hK]

@[simp] theorem State.endCmd_keeps {t0 : State} {s : State} (c : CmdId) (st : ResStatus) (detail : Nat) (value : Nat) (hK : Keeps t0 s) :
    Keeps t0 (State.endCmd s c st detail value) := by
  unfold State.endCmd; try dsimp only
  repeat' split
  all_goals first | done | simp (maxDischargeDepth := 60) [hK]

@[simp] theorem State.completed_keeps {t0 : State} {s : State} (c : CmdId) (detail : Nat) (value : Nat) (hK : Keeps t0 s) :
    Keeps t0 (State.completed s c detail value) := by
  unfold State.completed; try dsimp only
  repeat' split
  all_goals first | done | simp (maxDischargeDepth := 60) [hK]

@[simp] theorem State.refusedWith_keeps {t0 : State} {s : State} (c : CmdId) (detail : Nat) (hK : Keeps t0 s) :
    Keeps t0 (State.refusedWith s c detail) := by
  unfold State.refusedWith; try dsimp only
  repeat' split
  all_goals first | done | simp (maxDischargeDepth := 60) [hK]

@[simp] theorem State.failedWith_keeps {t0 : State} {s : State} (c : CmdId) (detail : Nat) (hK : Keeps t0 s) :
    Keeps t0 (State.failedWith s c detail) := by
  unfold State.failedWith; try dsimp only
  repeat' split
  all_goals first | done | simp (maxDischargeDepth := 60) [hK]

@[simp] theorem State.live_keeps {t0 : State} {s : State} (f : State → State) (hK : Keeps t0 s) (hf : ∀ x, Keeps x (f x)) :
    Keeps t0 (State.live s f) := by
  unfold State.live; split
  · exact hK.trans (hf s)
  · exact hK

@[simp] theorem State.answer_keeps {t0 : State} {s : State} (src : Src) (opcode : Nat) (tag : Nat) (st : Status) (data : List Byte) (hK : Keeps t0 s) :
    Keeps t0 (State.answer s src opcode tag st data) := by
  unfold State.answer; try dsimp only
  repeat' split
  all_goals first | done | simp (maxDischargeDepth := 60) [hK]

@[simp] theorem State.answerW_keeps {t0 : State} {s : State} (h : Hdr) (st : Status) (hK : Keeps t0 s) :
    Keeps t0 (State.answerW s h st) := by
  unfold State.answerW; try dsimp only
  repeat' split
  all_goals first | done | simp (maxDischargeDepth := 60) [hK]

@[simp] theorem State.answerR_keeps {t0 : State} {s : State} (h : Hdr) (st : Status) (data : List Byte) (hK : Keeps t0 s) :
    Keeps t0 (State.answerR s h st data) := by
  unfold State.answerR; try dsimp only
  repeat' split
  all_goals first | done | simp (maxDischargeDepth := 60) [hK]

@[simp] theorem State.archiveWrite_keeps {t0 : State} {s : State} (p : Packet) (origin : Nat) (hK : Keeps t0 s) :
    Keeps t0 (State.archiveWrite s p origin) := by
  unfold State.archiveWrite; try dsimp only
  repeat' split
  all_goals first | done | simp (maxDischargeDepth := 60) [hK]

@[simp] theorem State.deferPacket_keeps {t0 : State} {s : State} (ring : Bool) (origin : Nat) (p : Packet) (hK : Keeps t0 s) :
    Keeps t0 (State.deferPacket s ring origin p) := by
  unfold State.deferPacket; try dsimp only
  repeat' split
  all_goals first | done | simp (maxDischargeDepth := 60) [hK]

@[simp] theorem State.toLane_keeps {t0 : State} {s : State} (p : Packet) (hK : Keeps t0 s) :
    Keeps t0 (State.toLane s p) := by
  unfold State.toLane; try dsimp only
  repeat' split
  all_goals first | done | simp (maxDischargeDepth := 60) [hK]

@[simp] theorem State.toOutbox_keeps {t0 : State} {s : State} (p : Packet) (hK : Keeps t0 s) :
    Keeps t0 (State.toOutbox s p) := by
  unfold State.toOutbox; try dsimp only
  repeat' split
  all_goals first | done | simp (maxDischargeDepth := 60) [hK]

@[simp] theorem State.dispatch_keeps {t0 : State} {s : State} (r : Route) (p : Packet) (hK : Keeps t0 s) :
    Keeps t0 (State.dispatch s r p) := by
  unfold State.dispatch; try dsimp only
  repeat' split
  all_goals first | done | simp (maxDischargeDepth := 60) [hK]

@[simp] theorem State.routePennant_keeps {t0 : State} {s : State} (r : Route) (p : Packet) (hK : Keeps t0 s) :
    Keeps t0 (State.routePennant s r p) := by
  unfold State.routePennant; try dsimp only
  repeat' split
  all_goals first | done | simp (maxDischargeDepth := 60) [hK]

@[simp] theorem State.traceSample_keeps {t0 : State} {s : State} (kind : Nat) (inst : Nat) (reference : Nat) (word : Nat) (hK : Keeps t0 s) :
    Keeps t0 (State.traceSample s kind inst reference word) := by
  unfold State.traceSample; try dsimp only
  repeat' split
  all_goals first | done | simp (maxDischargeDepth := 60) [hK]

@[simp] theorem State.traceLoop_keeps {t0 : State} {s : State} (n : Fin 32) (reference : Nat) (iavg : Int) (icmd : Int) (hK : Keeps t0 s) :
    Keeps t0 (State.traceLoop s n reference iavg icmd) := by
  unfold State.traceLoop; try dsimp only
  repeat' split
  all_goals first | done | simp (maxDischargeDepth := 60) [hK]

@[simp] theorem State.raiseVal_keeps {t0 : State} {s : State} (source : Nat) (event : Nat) (prio : Nat) (detailKind : Nat) (before : Nat) (extra : Nat) (a : Nat) (hK : Keeps t0 s) :
    Keeps t0 (State.raiseVal s source event prio detailKind before extra a) := by
  unfold State.raiseVal; try dsimp only
  repeat' split
  all_goals first | done | simp (maxDischargeDepth := 60) [hK]

@[simp] theorem State.raise_keeps {t0 : State} {s : State} (source : Nat) (event : Nat) (prio : Nat) (detailKind : Nat) (before : Nat) (extra : Nat) (hK : Keeps t0 s) :
    Keeps t0 (State.raise s source event prio detailKind before extra) := by
  unfold State.raise; try dsimp only
  repeat' split
  all_goals first | done | simp (maxDischargeDepth := 60) [hK]

@[simp] theorem State.raise1_keeps {t0 : State} {s : State} (source : Nat) (event : Nat) (prio : Nat) (before : Val) (hK : Keeps t0 s) :
    Keeps t0 (State.raise1 s source event prio before) := by
  unfold State.raise1; try dsimp only
  repeat' split
  all_goals first | done | simp (maxDischargeDepth := 60) [hK]

@[simp] theorem State.raiseCat_keeps {t0 : State} {s : State} (source : Nat) (object : Nat) (condition : Nat) (before : Val) (hK : Keeps t0 s) :
    Keeps t0 (State.raiseCat s source object condition before) := by
  unfold State.raiseCat; try dsimp only
  repeat' split
  all_goals first | done | simp (maxDischargeDepth := 60) [hK]

@[simp] theorem State.raiseCatV_keeps {t0 : State} {s : State} (source : Nat) (object : Nat) (condition : Nat) (prio : Nat) (before : Nat) (after : Nat) (hK : Keeps t0 s) :
    Keeps t0 (State.raiseCatV s source object condition prio before after) := by
  unfold State.raiseCatV; try dsimp only
  repeat' split
  all_goals first | done | simp (maxDischargeDepth := 60) [hK]

@[simp] theorem State.raiseCatP_keeps {t0 : State} {s : State} (source : Nat) (object : Nat) (condition : Nat) (prio : Nat) (before : Val) (hK : Keeps t0 s) :
    Keeps t0 (State.raiseCatP s source object condition prio before) := by
  unfold State.raiseCatP; try dsimp only
  repeat' split
  all_goals first | done | simp (maxDischargeDepth := 60) [hK]

/-! ## Machine/Access.lean -/

@[simp] theorem State.hostWrite_keeps {t0 : State} {s : State} (h : Hdr) (k : Nat) (n : Nat) (effect : State → State) (hK : Keeps t0 s) (heffect : ∀ x, Keeps x (effect x)) :
    Keeps t0 (State.hostWrite s h k n effect) := by
  unfold State.hostWrite
  repeat' split
  all_goals first | exact hK | exact State.answerW_keeps _ _ (hK.trans (heffect s)) | simp [hK]

@[simp] theorem State.hostCmd_keeps {t0 : State} {s : State} (h : Hdr) (c : CmdId) (arg : Nat) (start : State → State) (hK : Keeps t0 s) (hstart : ∀ x, Keeps x (start x)) :
    Keeps t0 (State.hostCmd s h c arg start) := by
  exact State.hostWrite_keeps _ _ _ _ hK fun x => (State.startCmd_keeps c arg (Keeps.refl x)).trans (hstart _)

@[simp] theorem State.setStaging_keeps {t0 : State} {s : State} (l : List (Nat × Val)) (hK : Keeps t0 s) :
    Keeps t0 (State.setStaging s l) := by
  unfold State.setStaging; try dsimp only
  repeat' split
  all_goals first | done | simp (maxDischargeDepth := 60) [hK]

/-! ## Machine/Keys.lean -/

@[simp] theorem State.setSlot_keeps {t0 : State} {s : State} (n : Nat) (k : KeySlot) (hK : Keeps t0 s) :
    Keeps t0 (State.setSlot s n k) := by
  unfold State.setSlot; try dsimp only
  repeat' split
  all_goals first | done | simp (maxDischargeDepth := 60) [hK]

@[simp] theorem State.createReject_keeps {t0 : State} {s : State} (e : Nat) (hK : Keeps t0 s) :
    Keeps t0 (State.createReject s e).1 := by
  unfold State.createReject; try dsimp only
  repeat' split
  all_goals first | done | simp (maxDischargeDepth := 60) [hK]

@[simp] theorem State.keyCreate_keeps {t0 : State} {s : State} (slot : Nat) (method : Nat) (rsv : Nat) (w : Nat) (rest : List Byte) (hK : Keeps t0 s) :
    Keeps t0 (State.keyCreate s slot method rsv w rest).1 := by
  unfold State.keyCreate; try dsimp only
  repeat' split
  all_goals first | done | simp (maxDischargeDepth := 60) [hK]

@[simp] theorem State.keyCreateBytes_keeps {t0 : State} {s : State} (bs : List Byte) (hK : Keeps t0 s) :
    Keeps t0 (State.keyCreateBytes s bs).1 := by
  unfold State.keyCreateBytes; try dsimp only
  repeat' split
  all_goals first | done | simp (maxDischargeDepth := 60) [hK]

@[simp] theorem State.hostWriteB_keeps {t0 : State} {s : State} (h : Hdr) (k : Nat) (data : List Byte) (effect : State → State × Status) (hK : Keeps t0 s) (heffect : ∀ x, Keeps x (effect x).1) :
    Keeps t0 (State.hostWriteB s h k data effect) := by
  unfold State.hostWriteB
  repeat' split
  all_goals first | exact hK | exact State.answerW_keeps _ _ (hK.trans (heffect s)) | simp [hK]

@[simp] theorem State.hostCreate_keeps {t0 : State} {s : State} (h : Hdr) (slot : Nat) (method : Nat) (rsv : Nat) (w : Nat) (rest : List Byte) (hK : Keeps t0 s) :
    Keeps t0 (State.hostCreate s h slot method rsv w rest) := by
  unfold State.hostCreate; try dsimp only
  repeat' split
  all_goals first | done | simp (maxDischargeDepth := 60) [hK]

@[simp] theorem State.touchCopy_keeps {t0 : State} {s : State} (n : Nat) (hK : Keeps t0 s) :
    Keeps t0 (State.touchCopy s n) := by
  unfold State.touchCopy; try dsimp only
  repeat' split
  all_goals first | done | simp (maxDischargeDepth := 60) [hK]

@[simp] theorem State.keyAsk_keeps {t0 : State} {s : State} (slot : Nat) (engine : Nat) (use : Nat) (hK : Keeps t0 s) :
    Keeps t0 (State.keyAsk s slot engine use).1 := by
  unfold State.keyAsk; try dsimp only
  repeat' split
  all_goals first | done | simp (maxDischargeDepth := 60) [hK]

@[simp] theorem State.remask_keeps {t0 : State} {s : State} (late : Bool) (hK : Keeps t0 s) :
    Keeps t0 (State.remask s late) := by
  unfold State.remask; try dsimp only
  repeat' split
  all_goals first | done | simp (maxDischargeDepth := 60) [hK]

@[simp] theorem State.orphan_keeps {t0 : State} {s : State} (l : List Nat) (hK : Keeps t0 s) :
    Keeps t0 (State.orphan s l) := by
  unfold State.orphan; try dsimp only
  repeat' split
  all_goals first | done | simp (maxDischargeDepth := 60) [hK]

@[simp] theorem State.keyDestroy_keeps {t0 : State} {s : State} (arg : Nat) (hK : Keeps t0 s) :
    Keeps t0 (State.keyDestroy s arg) := by
  unfold State.keyDestroy; try dsimp only
  repeat' split
  all_goals first | done | simp (maxDischargeDepth := 60) [hK]

@[simp] theorem State.slotErased_keeps {t0 : State} {s : State} (n : Nat) (hK : Keeps t0 s) :
    Keeps t0 (State.slotErased s n) := by
  unfold State.slotErased; try dsimp only
  repeat' split
  all_goals first | done | simp (maxDischargeDepth := 60) [hK]

@[simp] theorem State.csrSubject_keeps {t0 : State} {s : State} (data : List Byte) (hK : Keeps t0 s) :
    Keeps t0 (State.csrSubject s data).1 := by
  unfold State.csrSubject; try dsimp only
  repeat' split
  all_goals first | done | simp (maxDischargeDepth := 60) [hK]

/-! ## Machine/Classes.lean -/

@[simp] theorem State.setBeh_keeps {t0 : State} {s : State} (c : Fin 8) (b : Beh) (hK : Keeps t0 s) :
    Keeps t0 (State.setBeh s c b) := by
  unfold State.setBeh; try dsimp only
  repeat' split
  all_goals first | done | simp (maxDischargeDepth := 60) [hK]

@[simp] theorem State.refreshTransit_keeps {t0 : State} {s : State} (hK : Keeps t0 s) :
    Keeps t0 (State.refreshTransit s) := by
  unfold State.refreshTransit; try dsimp only
  repeat' split
  all_goals first | done | simp (maxDischargeDepth := 60) [hK]

@[simp] theorem State.arrive_keeps {t0 : State} {s : State} (c : Fin 8) (hK : Keeps t0 s) :
    Keeps t0 (State.arrive s c) := by
  unfold State.arrive; try dsimp only
  repeat' split
  all_goals first | done | simp (maxDischargeDepth := 60) [hK]

/-! ## Machine/Phase.lean -/

@[simp] theorem State.setLeg_keeps {t0 : State} {s : State} (n : Fin 32) (l : Leg) (hK : Keeps t0 s) :
    Keeps t0 (State.setLeg s n l) := by
  unfold State.setLeg; try dsimp only
  repeat' split
  all_goals first | done | simp (maxDischargeDepth := 60) [hK]

@[simp] theorem State.setGroup_keeps {t0 : State} {s : State} (g : Fin 4) (x : Group) (hK : Keeps t0 s) :
    Keeps t0 (State.setGroup s g x) := by
  unfold State.setGroup; try dsimp only
  repeat' split
  all_goals first | done | simp (maxDischargeDepth := 60) [hK]

@[simp] theorem State.forLegs_keeps {t0 : State} {s : State} (g : Fin 4) (f : Fin 32 → State → State) (hK : Keeps t0 s) (hf : ∀ i x, Keeps x (f i x)) :
    Keeps t0 (State.forLegs s g f) := by
  unfold State.forLegs; try dsimp only
  repeat' split
  all_goals first | done | simp (maxDischargeDepth := 60) [hK, hf]

@[simp] theorem State.forAllLegs_keeps {t0 : State} {s : State} (f : Fin 32 → State → State) (hK : Keeps t0 s) (hf : ∀ i x, Keeps x (f i x)) :
    Keeps t0 (State.forAllLegs s f) := by
  unfold State.forAllLegs; try dsimp only
  repeat' split
  all_goals first | done | simp (maxDischargeDepth := 60) [hK, hf]

@[simp] theorem State.putLeg_keeps {t0 : State} {s : State} (n : Fin 32) (l : Leg) (hK : Keeps t0 s) :
    Keeps t0 (State.putLeg s n l) := by
  unfold State.putLeg; try dsimp only
  repeat' split
  all_goals first | done | simp (maxDischargeDepth := 60) [hK]

@[simp] theorem State.putFt_keeps {t0 : State} {s : State} (k : Nat) (ft : Nat) (hK : Keeps t0 s) :
    Keeps t0 (State.putFt s k ft) := by
  unfold State.putFt; try dsimp only
  repeat' split
  all_goals first | done | simp (maxDischargeDepth := 60) [hK]

@[simp] theorem State.parkLeg_keeps {t0 : State} {s : State} (n : Fin 32) (hK : Keeps t0 s) :
    Keeps t0 (State.parkLeg s n) := by
  unfold State.parkLeg; try dsimp only
  repeat' split
  all_goals first | done | simp (maxDischargeDepth := 60) [hK]

@[simp] theorem State.parkGroup_keeps {t0 : State} {s : State} (g : Fin 4) (hK : Keeps t0 s) :
    Keeps t0 (State.parkGroup s g) := by
  unfold State.parkGroup; try dsimp only
  repeat' split
  all_goals first | done | simp (maxDischargeDepth := 60) [hK]

@[simp] theorem State.leavePark_keeps {t0 : State} {s : State} (n : Fin 32) (hK : Keeps t0 s) :
    Keeps t0 (State.leavePark s n) := by
  unfold State.leavePark; try dsimp only
  repeat' split
  all_goals first | done | simp (maxDischargeDepth := 60) [hK]

@[simp] theorem State.setShare_keeps {t0 : State} {s : State} (n : Fin 32) (share : Int) (entry : Nat) (hK : Keeps t0 s) :
    Keeps t0 (State.setShare s n share entry) := by
  unfold State.setShare; try dsimp only
  repeat' split
  all_goals first | done | simp (maxDischargeDepth := 60) [hK]

@[simp] theorem State.endEntries_keeps {t0 : State} {s : State} (g : Fin 4) (hK : Keeps t0 s) :
    Keeps t0 (State.endEntries s g) := by
  unfold State.endEntries; try dsimp only
  repeat' split
  all_goals first | done | simp (maxDischargeDepth := 60) [hK]

@[simp] theorem State.latchShare_keeps {t0 : State} {s : State} (n : Fin 32) (hK : Keeps t0 s) :
    Keeps t0 (State.latchShare s n) := by
  unfold State.latchShare; try dsimp only
  repeat' split
  all_goals first | done | simp (maxDischargeDepth := 60) [hK]

@[simp] theorem State.noteLeft_keeps {t0 : State} {s : State} (g : Fin 4) (t : Nat) (hK : Keeps t0 s) :
    Keeps t0 (State.noteLeft s g t) := by
  unfold State.noteLeft; try dsimp only
  repeat' split
  all_goals first | done | simp (maxDischargeDepth := 60) [hK]

@[simp] theorem State.toShadow_keeps {t0 : State} {s : State} (n : Fin 32) (t : Nat) (u : Upd) (hK : Keeps t0 s) :
    Keeps t0 (State.toShadow s n t u) := by
  unfold State.toShadow; try dsimp only
  repeat' split
  all_goals first | done | simp (maxDischargeDepth := 60) [hK]

@[simp] theorem State.legUpdate_keeps {t0 : State} {s : State} (n : Fin 32) (t : Nat) (u : Upd) (hK : Keeps t0 s) :
    Keeps t0 (State.legUpdate s n t u) := by
  unfold State.legUpdate; try dsimp only
  repeat' split
  all_goals first | done | simp (maxDischargeDepth := 60) [hK]

@[simp] theorem State.armRelease_keeps {t0 : State} {s : State} (n : Fin 32) (t : Nat) (hK : Keeps t0 s) :
    Keeps t0 (State.armRelease s n t) := by
  unfold State.armRelease; try dsimp only
  repeat' split
  all_goals first | done | simp (maxDischargeDepth := 60) [hK]

@[simp] theorem State.deliverCmd_keeps {t0 : State} {s : State} (n : Fin 32) (t : Nat) (w : Nat) (a : Bool) (b : Bool) (engine : Nat) (hK : Keeps t0 s) :
    Keeps t0 (State.deliverCmd s n t w a b engine) := by
  unfold State.deliverCmd; try dsimp only
  repeat' split
  all_goals first | done | simp (maxDischargeDepth := 60) [hK]

@[simp] theorem State.predPulse_keeps {t0 : State} {s : State} (n : Fin 32) (t : Nat) (hK : Keeps t0 s) :
    Keeps t0 (State.predPulse s n t) := by
  unfold State.predPulse; try dsimp only
  repeat' split
  all_goals first | done | simp (maxDischargeDepth := 60) [hK]

@[simp] theorem State.notePulse_keeps {t0 : State} {s : State} (g : Fin 4) (pin : Bool) (t : Nat) (hK : Keeps t0 s) :
    Keeps t0 (State.notePulse s g pin t) := by
  unfold State.notePulse; try dsimp only
  repeat' split
  all_goals first | done | simp (maxDischargeDepth := 60) [hK]

@[simp] theorem State.emitSync_keeps {t0 : State} {s : State} (n : Fin 32) (t : Nat) (hK : Keeps t0 s) :
    Keeps t0 (State.emitSync s n t) := by
  unfold State.emitSync; try dsimp only
  repeat' split
  all_goals first | done | simp (maxDischargeDepth := 60) [hK]

@[simp] theorem State.rollAverage_keeps {t0 : State} {s : State} (n : Fin 32) (t : Nat) (hK : Keeps t0 s) :
    Keeps t0 (State.rollAverage s n t) := by
  unfold State.rollAverage; try dsimp only
  repeat' split
  all_goals first | done | simp (maxDischargeDepth := 60) [hK]

@[simp] theorem State.noteCapture_keeps {t0 : State} {s : State} (n : Fin 32) (hK : Keeps t0 s) :
    Keeps t0 (State.noteCapture s n) := by
  unfold State.noteCapture; try dsimp only
  repeat' split
  all_goals first | done | simp (maxDischargeDepth := 60) [hK]

@[simp] theorem State.boundaryAt_keeps {t0 : State} {s : State} (n : Fin 32) (t : Nat) (hK : Keeps t0 s) :
    Keeps t0 (State.boundaryAt s n t) := by
  unfold State.boundaryAt; try dsimp only
  repeat' split
  all_goals first | done | simp (maxDischargeDepth := 60) [hK]

@[simp] theorem State.startPeriod_keeps {t0 : State} {s : State} (n : Fin 32) (t : Nat) (hK : Keeps t0 s) :
    Keeps t0 (State.startPeriod s n t) := by
  unfold State.startPeriod; try dsimp only
  repeat' split
  all_goals first | done | simp (maxDischargeDepth := 60) [hK]

@[simp] theorem State.measPeriod_keeps {t0 : State} {s : State} (n : Fin 32) (t : Nat) (hK : Keeps t0 s) :
    Keeps t0 (State.measPeriod s n t) := by
  unfold State.measPeriod; try dsimp only
  repeat' split
  all_goals first | done | simp (maxDischargeDepth := 60) [hK]

@[simp] theorem State.realBoundary_keeps {t0 : State} {s : State} (n : Fin 32) (hK : Keeps t0 s) :
    Keeps t0 (State.realBoundary s n) := by
  unfold State.realBoundary; try dsimp only
  repeat' split
  all_goals first | done | simp (maxDischargeDepth := 60) [hK]

@[simp] theorem State.virtualBoundary_keeps {t0 : State} {s : State} (n : Fin 32) (hK : Keeps t0 s) :
    Keeps t0 (State.virtualBoundary s n) := by
  unfold State.virtualBoundary; try dsimp only
  repeat' split
  all_goals first | done | simp (maxDischargeDepth := 60) [hK]

@[simp] theorem State.highOff_keeps {t0 : State} {s : State} (n : Fin 32) (t : Nat) (hK : Keeps t0 s) :
    Keeps t0 (State.highOff s n t) := by
  unfold State.highOff; try dsimp only
  repeat' split
  all_goals first | done | simp (maxDischargeDepth := 60) [hK]

@[simp] theorem State.lowOff_keeps {t0 : State} {s : State} (n : Fin 32) (t : Nat) (hK : Keeps t0 s) :
    Keeps t0 (State.lowOff s n t) := by
  unfold State.lowOff; try dsimp only
  repeat' split
  all_goals first | done | simp (maxDischargeDepth := 60) [hK]

@[simp] theorem State.lowOffFrom_keeps {t0 : State} {s : State} (n : Fin 32) (freed : Nat) (hK : Keeps t0 s) :
    Keeps t0 (State.lowOffFrom s n freed) := by
  unfold State.lowOffFrom; try dsimp only
  repeat' split
  all_goals first | done | simp (maxDischargeDepth := 60) [hK]

@[simp] theorem State.tryLowOff_keeps {t0 : State} {s : State} (n : Fin 32) (hK : Keeps t0 s) :
    Keeps t0 (State.tryLowOff s n) := by
  unfold State.tryLowOff; try dsimp only
  repeat' split
  all_goals first | done | simp (maxDischargeDepth := 60) [hK]

@[simp] theorem State.deadEnd_keeps {t0 : State} {s : State} (n : Fin 32) (t : Nat) (hK : Keeps t0 s) :
    Keeps t0 (State.deadEnd s n t) := by
  unfold State.deadEnd; try dsimp only
  repeat' split
  all_goals first | done | simp (maxDischargeDepth := 60) [hK]

@[simp] theorem State.dtMaxOver_keeps {t0 : State} {s : State} (leg : Fin 32) (hK : Keeps t0 s) :
    Keeps t0 (State.dtMaxOver s leg) := by
  unfold State.dtMaxOver; try dsimp only
  repeat' split
  all_goals first | done | simp (maxDischargeDepth := 60) [hK]

@[simp] theorem State.syncSrcChanged_keeps {t0 : State} {s : State} (g : Fin 4) (old : Nat) (hK : Keeps t0 s) :
    Keeps t0 (State.syncSrcChanged s g old) := by
  unfold State.syncSrcChanged; try dsimp only
  repeat' split
  all_goals first | done | simp (maxDischargeDepth := 60) [hK]

@[simp] theorem State.overrideEffect_keeps {t0 : State} {s : State} (n : Fin 32) (v : Nat) (t : Nat) (hK : Keeps t0 s) :
    Keeps t0 (State.overrideEffect s n v t) := by
  unfold State.overrideEffect; try dsimp only
  repeat' split
  all_goals first | done | simp (maxDischargeDepth := 60) [hK]

@[simp] theorem State.armHoldEffect_keeps {t0 : State} {s : State} (g : Fin 4) (mask : Nat) (t : Nat) (hK : Keeps t0 s) :
    Keeps t0 (State.armHoldEffect s g mask t) := by
  unfold State.armHoldEffect; try dsimp only
  repeat' split
  all_goals first | done | simp (maxDischargeDepth := 60) [hK]

@[simp] theorem State.armReleaseEffect_keeps {t0 : State} {s : State} (g : Fin 4) (mask : Nat) (t : Nat) (hK : Keeps t0 s) :
    Keeps t0 (State.armReleaseEffect s g mask t) := by
  unfold State.armReleaseEffect; try dsimp only
  repeat' split
  all_goals first | done | simp (maxDischargeDepth := 60) [hK]

@[simp] theorem State.countClearEffect_keeps {t0 : State} {s : State} (g : Fin 4) (mask : Nat) (hK : Keeps t0 s) :
    Keeps t0 (State.countClearEffect s g mask) := by
  unfold State.countClearEffect; try dsimp only
  repeat' split
  all_goals first | done | simp (maxDischargeDepth := 60) [hK]

@[simp] theorem State.latchLeg_keeps {t0 : State} {s : State} (n : Fin 32) (hK : Keeps t0 s) :
    Keeps t0 (State.latchLeg s n) := by
  unfold State.latchLeg; try dsimp only
  repeat' split
  all_goals first | done | simp (maxDischargeDepth := 60) [hK]

@[simp] theorem State.fltAssert_keeps {t0 : State} {s : State} (n : Fin 32) (hK : Keeps t0 s) :
    Keeps t0 (State.fltAssert s n) := by
  unfold State.fltAssert; try dsimp only
  repeat' split
  all_goals first | done | simp (maxDischargeDepth := 60) [hK]

@[simp] theorem State.faultClearLeg_keeps {t0 : State} {s : State} (n : Fin 32) (hK : Keeps t0 s) :
    Keeps t0 (State.faultClearLeg s n) := by
  unfold State.faultClearLeg; try dsimp only
  repeat' split
  all_goals first | done | simp (maxDischargeDepth := 60) [hK]

@[simp] theorem State.faultClearEffect_keeps {t0 : State} {s : State} (g : Fin 4) (mask : Nat) (hK : Keeps t0 s) :
    Keeps t0 (State.faultClearEffect s g mask) := by
  unfold State.faultClearEffect; try dsimp only
  repeat' split
  all_goals first | done | simp (maxDischargeDepth := 60) [hK]

/-! ## Machine/LoadSwitch.lean -/

@[simp] theorem State.setChan_keeps {t0 : State} {s : State} (n : Fin 16) (c : Chan) (hK : Keeps t0 s) :
    Keeps t0 (State.setChan s n c) := by
  unfold State.setChan; try dsimp only
  repeat' split
  all_goals first | done | simp (maxDischargeDepth := 60) [hK]

@[simp] theorem State.refreshLsStatus_keeps {t0 : State} {s : State} (hK : Keeps t0 s) :
    Keeps t0 (State.refreshLsStatus s) := by
  unfold State.refreshLsStatus; try dsimp only
  repeat' split
  all_goals first | done | simp (maxDischargeDepth := 60) [hK]

@[simp] theorem State.chanTurnOn_keeps {t0 : State} {s : State} (n : Fin 16) (reload : Bool) (hK : Keeps t0 s) :
    Keeps t0 (State.chanTurnOn s n reload) := by
  unfold State.chanTurnOn; try dsimp only
  repeat' split
  all_goals first | done | simp (maxDischargeDepth := 60) [hK]

@[simp] theorem State.chanClamp_keeps {t0 : State} {s : State} (n : Fin 16) (hK : Keeps t0 s) :
    Keeps t0 (State.chanClamp s n) := by
  unfold State.chanClamp; try dsimp only
  repeat' split
  all_goals first | done | simp (maxDischargeDepth := 60) [hK]

@[simp] theorem State.chanCut_keeps {t0 : State} {s : State} (n : Fin 16) (st : Nat) (hK : Keeps t0 s) :
    Keeps t0 (State.chanCut s n st) := by
  unfold State.chanCut; try dsimp only
  repeat' split
  all_goals first | done | simp (maxDischargeDepth := 60) [hK]

@[simp] theorem State.chanTurnOff_keeps {t0 : State} {s : State} (n : Fin 16) (hK : Keeps t0 s) :
    Keeps t0 (State.chanTurnOff s n) := by
  unfold State.chanTurnOff; try dsimp only
  repeat' split
  all_goals first | done | simp (maxDischargeDepth := 60) [hK]

@[simp] theorem State.driveChan_keeps {t0 : State} {s : State} (n : Fin 16) (hK : Keeps t0 s) :
    Keeps t0 (State.driveChan s n) := by
  unfold State.driveChan; try dsimp only
  repeat' split
  all_goals first | done | simp (maxDischargeDepth := 60) [hK]

@[simp] theorem State.driveAll_keeps {t0 : State} {s : State} (hK : Keeps t0 s) :
    Keeps t0 (State.driveAll s) := by
  unfold State.driveAll; try dsimp only
  repeat' split
  all_goals first | done | simp (maxDischargeDepth := 60) [hK]

@[simp] theorem State.devSwitch_keeps {t0 : State} {s : State} (n : Fin 16) (on : Bool) (hK : Keeps t0 s) :
    Keeps t0 (State.devSwitch s n on) := by
  unfold State.devSwitch; try dsimp only
  repeat' split
  all_goals first | done | simp (maxDischargeDepth := 60) [hK]

@[simp] theorem State.ownerSwitch_keeps {t0 : State} {s : State} (ch : Nat) (owner : Nat) (on : Bool) (hK : Keeps t0 s) :
    Keeps t0 (State.ownerSwitch s ch owner on) := by
  unfold State.ownerSwitch; try dsimp only
  repeat' split
  all_goals first | done | simp (maxDischargeDepth := 60) [hK]

@[simp] theorem State.conflictPennant_keeps {t0 : State} {s : State} (hK : Keeps t0 s) :
    Keeps t0 (State.conflictPennant s) := by
  unfold State.conflictPennant; try dsimp only
  repeat' split
  all_goals first | done | simp (maxDischargeDepth := 60) [hK]

@[simp] theorem State.applyOwners_keeps {t0 : State} {s : State} (hK : Keeps t0 s) :
    Keeps t0 (State.applyOwners s) := by
  unfold State.applyOwners; try dsimp only
  repeat' split
  all_goals first | done | simp (maxDischargeDepth := 60) [hK]

@[simp] theorem State.curtail_keeps {t0 : State} {s : State} (n : Fin 16) (hK : Keeps t0 s) :
    Keeps t0 (State.curtail s n) := by
  unfold State.curtail; try dsimp only
  repeat' split
  all_goals first | done | simp (maxDischargeDepth := 60) [hK]

@[simp] theorem State.trip_keeps {t0 : State} {s : State} (n : Fin 16) (kind : Nat) (hK : Keeps t0 s) :
    Keeps t0 (State.trip s n kind) := by
  unfold State.trip; try dsimp only
  repeat' split
  all_goals first | done | simp (maxDischargeDepth := 60) [hK]

@[simp] theorem State.lsRetry_keeps {t0 : State} {s : State} (n : Fin 16) (hK : Keeps t0 s) :
    Keeps t0 (State.lsRetry s n) := by
  unfold State.lsRetry; try dsimp only
  repeat' split
  all_goals first | done | simp (maxDischargeDepth := 60) [hK]

@[simp] theorem State.unlatch_keeps {t0 : State} {s : State} (n : Fin 16) (reload : Bool) (hK : Keeps t0 s) :
    Keeps t0 (State.unlatch s n reload) := by
  unfold State.unlatch; try dsimp only
  repeat' split
  all_goals first | done | simp (maxDischargeDepth := 60) [hK]

@[simp] theorem State.chanReading_keeps {t0 : State} {s : State} (n : Fin 16) (i : Int) (hK : Keeps t0 s) :
    Keeps t0 (State.chanReading s n i) := by
  unfold State.chanReading; try dsimp only
  repeat' split
  all_goals first | done | simp (maxDischargeDepth := 60) [hK]

@[simp] theorem State.pkgCheck_keeps {t0 : State} {s : State} (vs : Int) (currents : List Int) (hK : Keeps t0 s) :
    Keeps t0 (State.pkgCheck s vs currents) := by
  unfold State.pkgCheck; try dsimp only
  repeat' split
  all_goals first | done | simp (maxDischargeDepth := 60) [hK]

@[simp] theorem State.wdBreak_keeps {t0 : State} {s : State} (hK : Keeps t0 s) :
    Keeps t0 (State.wdBreak s) := by
  unfold State.wdBreak; try dsimp only
  repeat' split
  all_goals first | done | simp (maxDischargeDepth := 60) [hK]

@[simp] theorem State.wdExpire_keeps {t0 : State} {s : State} (hK : Keeps t0 s) :
    Keeps t0 (State.wdExpire s) := by
  unfold State.wdExpire; try dsimp only
  repeat' split
  all_goals first | done | simp (maxDischargeDepth := 60) [hK]

@[simp] theorem State.wdFault_keeps {t0 : State} {s : State} (hK : Keeps t0 s) :
    Keeps t0 (State.wdFault s) := by
  unfold State.wdFault; try dsimp only
  repeat' split
  all_goals first | done | simp (maxDischargeDepth := 60) [hK]

@[simp] theorem State.wdValid_keeps {t0 : State} {s : State} (seq : Nat) (hK : Keeps t0 s) :
    Keeps t0 (State.wdValid s seq) := by
  unfold State.wdValid; try dsimp only
  repeat' split
  all_goals first | done | simp (maxDischargeDepth := 60) [hK]

@[simp] theorem State.wdApply_keeps {t0 : State} {s : State} (hK : Keeps t0 s) :
    Keeps t0 (State.wdApply s) := by
  unfold State.wdApply; try dsimp only
  repeat' split
  all_goals first | done | simp (maxDischargeDepth := 60) [hK]

@[simp] theorem State.anaReset_keeps {t0 : State} {s : State} (hK : Keeps t0 s) :
    Keeps t0 (State.anaReset s) := by
  unfold State.anaReset; try dsimp only
  repeat' split
  all_goals first | done | simp (maxDischargeDepth := 60) [hK]

@[simp] theorem State.wdRelease_keeps {t0 : State} {s : State} (v : Nat) (hK : Keeps t0 s) :
    Keeps t0 (State.wdRelease s v) := by
  unfold State.wdRelease; try dsimp only
  repeat' split
  all_goals first | done | simp (maxDischargeDepth := 60) [hK]

@[simp] theorem State.lsOnEffect_keeps {t0 : State} {s : State} (n : Fin 16) (v : Nat) (hK : Keeps t0 s) :
    Keeps t0 (State.lsOnEffect s n v) := by
  unfold State.lsOnEffect; try dsimp only
  repeat' split
  all_goals first | done | simp (maxDischargeDepth := 60) [hK]

@[simp] theorem State.lsClearEffect_keeps {t0 : State} {s : State} (n : Fin 16) (v : Nat) (hK : Keeps t0 s) :
    Keeps t0 (State.lsClearEffect s n v) := by
  unfold State.lsClearEffect; try dsimp only
  repeat' split
  all_goals first | done | simp (maxDischargeDepth := 60) [hK]

/-! ## Machine/Routes.lean -/

@[simp] theorem State.rolePublish_keeps {t0 : State} {s : State} (hK : Keeps t0 s) :
    Keeps t0 (State.rolePublish s) := by
  unfold State.rolePublish; try dsimp only
  repeat' split
  all_goals first | done | simp (maxDischargeDepth := 60) [hK]

@[simp] theorem State.setPump_keeps {t0 : State} {s : State} (o : Fin 4) (duty : Nat) (hK : Keeps t0 s) :
    Keeps t0 (State.setPump s o duty) := by
  unfold State.setPump; try dsimp only
  repeat' split
  all_goals first | done | simp (maxDischargeDepth := 60) [hK]

@[simp] theorem State.dropRoute_keeps {t0 : State} {s : State} (g : Fin 4) (hK : Keeps t0 s) :
    Keeps t0 (State.dropRoute s g) := by
  unfold State.dropRoute; try dsimp only
  repeat' split
  all_goals first | done | simp (maxDischargeDepth := 60) [hK]

@[simp] theorem State.takeRoute_keeps {t0 : State} {s : State} (g : Fin 4) (r : Nat) (v : Nat) (hK : Keeps t0 s) :
    Keeps t0 (State.takeRoute s g r v) := by
  unfold State.takeRoute; try dsimp only
  repeat' split
  all_goals first | done | simp (maxDischargeDepth := 60) [hK]

@[simp] theorem State.putRoute_keeps {t0 : State} {s : State} (g : Fin 4) (n : Nat) (hK : Keeps t0 s) :
    Keeps t0 (State.putRoute s g n) := by
  unfold State.putRoute; try dsimp only
  repeat' split
  all_goals first | done | simp (maxDischargeDepth := 60) [hK]

@[simp] theorem State.unparkGroup_keeps {t0 : State} {s : State} (g : Fin 4) (hK : Keeps t0 s) :
    Keeps t0 (State.unparkGroup s g) := by
  unfold State.unparkGroup; try dsimp only
  repeat' split
  all_goals first | done | simp (maxDischargeDepth := 60) [hK]

@[simp] theorem State.routeFault_keeps {t0 : State} {s : State} (g : Fin 4) (hK : Keeps t0 s) :
    Keeps t0 (State.routeFault s g) := by
  unfold State.routeFault; try dsimp only
  repeat' split
  all_goals first | done | simp (maxDischargeDepth := 60) [hK]

@[simp] theorem State.routeStep_keeps {t0 : State} {s : State} (g : Fin 4) (hK : Keeps t0 s) :
    Keeps t0 (State.routeStep s g) := by
  unfold State.routeStep; try dsimp only
  repeat' split
  all_goals first | done | simp (maxDischargeDepth := 60) [hK]

@[simp] theorem State.routeOpen_keeps {t0 : State} {s : State} (g : Fin 4) (hK : Keeps t0 s) :
    Keeps t0 (State.routeOpen s g) := by
  unfold State.routeOpen; try dsimp only
  repeat' split
  all_goals first | done | simp (maxDischargeDepth := 60) [hK]

@[simp] theorem State.routeEpoch_keeps {t0 : State} {s : State} (g : Fin 4) (hK : Keeps t0 s) :
    Keeps t0 (State.routeEpoch s g) := by
  unfold State.routeEpoch; try dsimp only
  repeat' split
  all_goals first | done | simp (maxDischargeDepth := 60) [hK]

@[simp] theorem State.routeCurrent_keeps {t0 : State} {s : State} (g : Fin 4) (hK : Keeps t0 s) :
    Keeps t0 (State.routeCurrent s g) := by
  unfold State.routeCurrent; try dsimp only
  repeat' split
  all_goals first | done | simp (maxDischargeDepth := 60) [hK]

@[simp] theorem State.routeSelectEffect_keeps {t0 : State} {s : State} (g : Fin 4) (v : Nat) (hK : Keeps t0 s) :
    Keeps t0 (State.routeSelectEffect s g v) := by
  unfold State.routeSelectEffect; try dsimp only
  repeat' split
  all_goals first | done | simp (maxDischargeDepth := 60) [hK]

@[simp] theorem State.groupLeave_keeps {t0 : State} {s : State} (g : Fin 4) (hK : Keeps t0 s) :
    Keeps t0 (State.groupLeave s g) := by
  unfold State.groupLeave; try dsimp only
  repeat' split
  all_goals first | done | simp (maxDischargeDepth := 60) [hK]

@[simp] theorem State.roleClear_keeps {t0 : State} {s : State} (i : Nat) (hK : Keeps t0 s) :
    Keeps t0 (State.roleClear s i) := by
  unfold State.roleClear; try dsimp only
  repeat' split
  all_goals first | done | simp (maxDischargeDepth := 60) [hK]

@[simp] theorem State.rolesCommitted_keeps {t0 : State} {s : State} (hK : Keeps t0 s) :
    Keeps t0 (State.rolesCommitted s) := by
  unfold State.rolesCommitted; try dsimp only
  repeat' split
  all_goals first | done | simp (maxDischargeDepth := 60) [hK]

@[simp] theorem State.roleSessionEnd_keeps {t0 : State} {s : State} (o : Nat) (hK : Keeps t0 s) :
    Keeps t0 (State.roleSessionEnd s o) := by
  unfold State.roleSessionEnd; try dsimp only
  repeat' split
  all_goals first | done | simp (maxDischargeDepth := 60) [hK]

@[simp] theorem State.rolesBoundary_keeps {t0 : State} {s : State} (hK : Keeps t0 s) :
    Keeps t0 (State.rolesBoundary s) := by
  unfold State.rolesBoundary; try dsimp only
  repeat' split
  all_goals first | done | simp (maxDischargeDepth := 60) [hK]

/-! ## Machine/Loops.lean -/

@[simp] theorem State.setEngine_keeps {t0 : State} {s : State} (e : Fin 38) (x : Engine) (hK : Keeps t0 s) :
    Keeps t0 (State.setEngine s e x) := by
  unfold State.setEngine; try dsimp only
  repeat' split
  all_goals first | done | simp (maxDischargeDepth := 60) [hK]

@[simp] theorem State.refreshEngines_keeps {t0 : State} {s : State} (hK : Keeps t0 s) :
    Keeps t0 (State.refreshEngines s) := by
  unfold State.refreshEngines; try dsimp only
  repeat' split
  all_goals first | done | simp (maxDischargeDepth := 60) [hK]

@[simp] theorem State.applyBinds_keeps {t0 : State} {s : State} (hK : Keeps t0 s) :
    Keeps t0 (State.applyBinds s) := by
  unfold State.applyBinds; try dsimp only
  repeat' split
  all_goals first | done | simp (maxDischargeDepth := 60) [hK]

@[simp] theorem State.refreshCoolEngines_keeps {t0 : State} {s : State} (hK : Keeps t0 s) :
    Keeps t0 (State.refreshCoolEngines s) := by
  unfold State.refreshCoolEngines; try dsimp only
  repeat' split
  all_goals first | done | simp (maxDischargeDepth := 60) [hK]

@[simp] theorem State.deliverZero_keeps {t0 : State} {s : State} (n : Fin 32) (hK : Keeps t0 s) :
    Keeps t0 (State.deliverZero s n) := by
  unfold State.deliverZero; try dsimp only
  repeat' split
  all_goals first | done | simp (maxDischargeDepth := 60) [hK]

@[simp] theorem State.applyN_keeps {t0 : State} {s : State} (g : Fin 4) (n : Nat) (hK : Keeps t0 s) :
    Keeps t0 (State.applyN s g n) := by
  unfold State.applyN; try dsimp only
  repeat' split
  all_goals first | done | simp (maxDischargeDepth := 60) [hK]

@[simp] theorem State.refreshShed_keeps {t0 : State} {s : State} (g : Fin 4) (hK : Keeps t0 s) :
    Keeps t0 (State.refreshShed s g) := by
  unfold State.refreshShed; try dsimp only
  repeat' split
  all_goals first | done | simp (maxDischargeDepth := 60) [hK]

@[simp] theorem State.reshed_keeps {t0 : State} {s : State} (g : Fin 4) (hK : Keeps t0 s) :
    Keeps t0 (State.reshed s g) := by
  unfold State.reshed; try dsimp only
  repeat' split
  all_goals first | done | simp (maxDischargeDepth := 60) [hK]

@[simp] theorem State.shedCancel_keeps {t0 : State} {s : State} (g : Fin 4) (hK : Keeps t0 s) :
    Keeps t0 (State.shedCancel s g) := by
  unfold State.shedCancel; try dsimp only
  repeat' split
  all_goals first | done | simp (maxDischargeDepth := 60) [hK]

@[simp] theorem State.noteShut_keeps {t0 : State} {s : State} (g : Fin 4) (hK : Keeps t0 s) :
    Keeps t0 (State.noteShut s g) := by
  unfold State.noteShut; try dsimp only
  repeat' split
  all_goals first | done | simp (maxDischargeDepth := 60) [hK]

@[simp] theorem State.closeWindow_keeps {t0 : State} {s : State} (g : Fin 4) (hK : Keeps t0 s) :
    Keeps t0 (State.closeWindow s g) := by
  unfold State.closeWindow; try dsimp only
  repeat' split
  all_goals first | done | simp (maxDischargeDepth := 60) [hK]

@[simp] theorem State.shedSample_keeps {t0 : State} {s : State} (g : Fin 4) (t : Nat) (hK : Keeps t0 s) :
    Keeps t0 (State.shedSample s g t) := by
  unfold State.shedSample; try dsimp only
  repeat' split
  all_goals first | done | simp (maxDischargeDepth := 60) [hK]

@[simp] theorem State.setpFaultOn_keeps {t0 : State} {s : State} (g : Fin 4) (hK : Keeps t0 s) :
    Keeps t0 (State.setpFaultOn s g) := by
  unfold State.setpFaultOn; try dsimp only
  repeat' split
  all_goals first | done | simp (maxDischargeDepth := 60) [hK]

@[simp] theorem State.commandSample_keeps {t0 : State} {s : State} (g : Fin 4) (t : Nat) (ts : Nat) (pin : Nat) (hK : Keeps t0 s) :
    Keeps t0 (State.commandSample s g t ts pin) := by
  unfold State.commandSample; try dsimp only
  repeat' split
  all_goals first | done | simp (maxDischargeDepth := 60) [hK]

@[simp] theorem State.stepLimit_keeps {t0 : State} {s : State} (g : Fin 4) (hK : Keeps t0 s) :
    Keeps t0 (State.stepLimit s g) := by
  unfold State.stepLimit; try dsimp only
  repeat' split
  all_goals first | done | simp (maxDischargeDepth := 60) [hK]

@[simp] theorem State.regionSample_keeps {t0 : State} {s : State} (e : Fin 38) (i : LoopIn) (hK : Keeps t0 s) :
    Keeps t0 (State.regionSample s e i).1 := by
  unfold State.regionSample; try dsimp only
  repeat' split
  all_goals first | done | simp (maxDischargeDepth := 60) [hK]

@[simp] theorem State.compute_keeps {t0 : State} {s : State} (e : Fin 38) (n : Fin 32) (hK : Keeps t0 s) :
    Keeps t0 (State.compute s e n) := by
  unfold State.compute; try dsimp only
  repeat' split
  all_goals first | done | simp (maxDischargeDepth := 60) [hK]

@[simp] theorem State.copyEngine_keeps {t0 : State} {s : State} (old : Fin 38) (new : Fin 38) (hK : Keeps t0 s) :
    Keeps t0 (State.copyEngine s old new) := by
  unfold State.copyEngine; try dsimp only
  repeat' split
  all_goals first | done | simp (maxDischargeDepth := 60) [hK]

@[simp] theorem State.rebindOver_keeps {t0 : State} {s : State} (r : Rebind) (hK : Keeps t0 s) :
    Keeps t0 (State.rebindOver s r) := by
  unfold State.rebindOver; try dsimp only
  repeat' split
  all_goals first | done | simp (maxDischargeDepth := 60) [hK]

@[simp] theorem State.rebindFailed_keeps {t0 : State} {s : State} (r : Rebind) (detail : Nat) (hK : Keeps t0 s) :
    Keeps t0 (State.rebindFailed s r detail) := by
  unfold State.rebindFailed; try dsimp only
  repeat' split
  all_goals first | done | simp (maxDischargeDepth := 60) [hK]

@[simp] theorem State.rebindCopy_keeps {t0 : State} {s : State} (e : Fin 38) (hK : Keeps t0 s) :
    Keeps t0 (State.rebindCopy s e) := by
  unfold State.rebindCopy; try dsimp only
  repeat' split
  all_goals first | done | simp (maxDischargeDepth := 60) [hK]

@[simp] theorem State.shadowSample_keeps {t0 : State} {s : State} (r : Rebind) (e : Fin 38) (n : Fin 32) (hK : Keeps t0 s) :
    Keeps t0 (State.shadowSample s r e n) := by
  unfold State.shadowSample; try dsimp only
  repeat' split
  all_goals first | done | simp (maxDischargeDepth := 60) [hK]

@[simp] theorem State.unsilence_keeps {t0 : State} {s : State} (e : Fin 38) (n : Fin 32) (hK : Keeps t0 s) :
    Keeps t0 (State.unsilence s e n) := by
  unfold State.unsilence; try dsimp only
  repeat' split
  all_goals first | done | simp (maxDischargeDepth := 60) [hK]

@[simp] theorem State.loadLoop_keeps {t0 : State} {s : State} (e : Fin 38) (n : Fin 32) (x : LoopImage) (hK : Keeps t0 s) :
    Keeps t0 (State.loadLoop s e n x) := by
  unfold State.loadLoop; try dsimp only
  repeat' split
  all_goals first | done | simp (maxDischargeDepth := 60) [hK]

@[simp] theorem State.loopSample_keeps {t0 : State} {s : State} (e : Fin 38) (t : Nat) (vin : Int) (vout : Int) (pin : Nat) (hK : Keeps t0 s) :
    Keeps t0 (State.loopSample s e t vin vout pin) := by
  unfold State.loopSample; try dsimp only
  repeat' split
  all_goals first | done | simp (maxDischargeDepth := 60) [hK]

@[simp] theorem State.averageSample_keeps {t0 : State} {s : State} (n : Fin 32) (t : Nat) (i : Int) (hK : Keeps t0 s) :
    Keeps t0 (State.averageSample s n t i) := by
  unfold State.averageSample; dsimp only
  split
  · exact State.putI_keeps _ _ (State.setLeg_keeps _ _ hK)
  · exact State.setLeg_keeps _ _ hK

@[simp] theorem State.edgeSample_keeps {t0 : State} {s : State} (n : Fin 32) (t : Nat) (count : Int) (hK : Keeps t0 s) :
    Keeps t0 (State.edgeSample s n t count) := by
  unfold State.edgeSample; try dsimp only
  repeat' split
  all_goals first | done | simp (maxDischargeDepth := 60) [hK]

@[simp] theorem State.deliverSetpoint_keeps {t0 : State} {s : State} (g : Fin 4) (t : Nat) (hK : Keeps t0 s) :
    Keeps t0 (State.deliverSetpoint s g t) := by
  unfold State.deliverSetpoint; try dsimp only
  repeat' split
  all_goals first | done | simp (maxDischargeDepth := 60) [hK]

@[simp] theorem State.stopTarget_keeps {t0 : State} {s : State} (g : Fin 4) (hK : Keeps t0 s) :
    Keeps t0 (State.stopTarget s g) := by
  unfold State.stopTarget; try dsimp only
  repeat' split
  all_goals first | done | simp (maxDischargeDepth := 60) [hK]

@[simp] theorem State.otShut_keeps {t0 : State} {s : State} (n : Fin 32) (hK : Keeps t0 s) :
    Keeps t0 (State.otShut s n) := by
  unfold State.otShut; try dsimp only
  repeat' split
  all_goals first | done | simp (maxDischargeDepth := 60) [hK]

@[simp] theorem State.otReturn_keeps {t0 : State} {s : State} (n : Fin 32) (hK : Keeps t0 s) :
    Keeps t0 (State.otReturn s n) := by
  unfold State.otReturn; try dsimp only
  repeat' split
  all_goals first | done | simp (maxDischargeDepth := 60) [hK]

@[simp] theorem State.ntcSample_keeps {t0 : State} {s : State} (n : Fin 32) (ohms : Nat) (hK : Keeps t0 s) :
    Keeps t0 (State.ntcSample s n ohms) := by
  unfold State.ntcSample; try dsimp only
  repeat' split
  all_goals first | done | simp (maxDischargeDepth := 60) [hK]

@[simp] theorem State.beginRebind_keeps {t0 : State} {s : State} (target : Nat) (newE : Nat) (auto : Bool) (hK : Keeps t0 s) :
    Keeps t0 (State.beginRebind s target newE auto) := by
  unfold State.beginRebind; try dsimp only
  repeat' split
  all_goals first | done | simp (maxDischargeDepth := 60) [hK]

@[simp] theorem State.autoRebind_keeps {t0 : State} {s : State} (target : Nat) (hK : Keeps t0 s) :
    Keeps t0 (State.autoRebind s target) := by
  unfold State.autoRebind; try dsimp only
  repeat' split
  all_goals first | done | simp (maxDischargeDepth := 60) [hK]

@[simp] theorem State.cmdSilence_keeps {t0 : State} {s : State} (n : Fin 32) (hK : Keeps t0 s) :
    Keeps t0 (State.cmdSilence s n) := by
  unfold State.cmdSilence; try dsimp only
  repeat' split
  all_goals first | done | simp (maxDischargeDepth := 60) [hK]

@[simp] theorem State.engineRebind_keeps {t0 : State} {s : State} (arg : Nat) (hK : Keeps t0 s) :
    Keeps t0 (State.engineRebind s arg) := by
  unfold State.engineRebind; try dsimp only
  repeat' split
  all_goals first | done | simp (maxDischargeDepth := 60) [hK]

@[simp] theorem State.rebindComplete_keeps {t0 : State} {s : State} (r : Rebind) (hK : Keeps t0 s) :
    Keeps t0 (State.rebindComplete s r) := by
  unfold State.rebindComplete; try dsimp only
  repeat' split
  all_goals first | done | simp (maxDischargeDepth := 60) [hK]

@[simp] theorem State.rebindsCaptured_keeps {t0 : State} {s : State} (hK : Keeps t0 s) :
    Keeps t0 (State.rebindsCaptured s) := by
  unfold State.rebindsCaptured; try dsimp only
  repeat' split
  all_goals first | done | simp (maxDischargeDepth := 60) [hK]

/-! ## Machine/Records.lean -/

@[simp] theorem State.refreshTariff_keeps {t0 : State} {s : State} (hK : Keeps t0 s) :
    Keeps t0 (State.refreshTariff s) := by
  unfold State.refreshTariff; try dsimp only
  repeat' split
  all_goals first | done | simp (maxDischargeDepth := 60) [hK]

@[simp] theorem State.setMeter_keeps {t0 : State} {s : State} (c : Fin 4) (m : Meter) (hK : Keeps t0 s) :
    Keeps t0 (State.setMeter s c m) := by
  unfold State.setMeter; try dsimp only
  repeat' split
  all_goals first | done | simp (maxDischargeDepth := 60) [hK]

@[simp] theorem State.refreshMc_keeps {t0 : State} {s : State} (c : Fin 4) (ovr : Bool) (hK : Keeps t0 s) :
    Keeps t0 (State.refreshMc s c ovr) := by
  unfold State.refreshMc; try dsimp only
  repeat' split
  all_goals first | done | simp (maxDischargeDepth := 60) [hK]

@[simp] theorem State.refreshMcs_keeps {t0 : State} {s : State} (hK : Keeps t0 s) :
    Keeps t0 (State.refreshMcs s) := by
  unfold State.refreshMcs; try dsimp only
  repeat' split
  all_goals first | done | simp (maxDischargeDepth := 60) [hK]

@[simp] theorem State.advanceMeter_keeps {t0 : State} {s : State} (d : Nat) (c : Fin 4) (hK : Keeps t0 s) :
    Keeps t0 (State.advanceMeter s d c) := by
  unfold State.advanceMeter; try dsimp only
  repeat' split
  all_goals first | done | simp (maxDischargeDepth := 60) [hK]

@[simp] theorem State.advance_keeps {t0 : State} {s : State} (t : Nat) (hK : Keeps t0 s) :
    Keeps t0 (State.advance s t) := by
  unfold State.advance; try dsimp only
  repeat' split
  all_goals first | done | simp (maxDischargeDepth := 60) [hK]

@[simp] theorem State.freeEvents_keeps {t0 : State} {s : State} (hK : Keeps t0 s) :
    Keeps t0 (State.freeEvents s) := by
  unfold State.freeEvents; try dsimp only
  repeat' split
  all_goals first | done | simp (maxDischargeDepth := 60) [hK]

@[simp] theorem State.vevAdd_keeps {t0 : State} {s : State} (kind : Nat) (which : Nat) (at_ : Nat) (hK : Keeps t0 s) :
    Keeps t0 (State.vevAdd s kind which at_) := by
  unfold State.vevAdd; try dsimp only
  repeat' split
  all_goals first | done | simp (maxDischargeDepth := 60) [hK]

@[simp] theorem State.vevRecorded_keeps {t0 : State} {s : State} (seq : Nat) (hK : Keeps t0 s) :
    Keeps t0 (State.vevRecorded s seq) := by
  unfold State.vevRecorded; try dsimp only
  repeat' split
  all_goals first | done | simp (maxDischargeDepth := 60) [hK]

@[simp] theorem State.refreshLog_keeps {t0 : State} {s : State} (hK : Keeps t0 s) :
    Keeps t0 (State.refreshLog s) := by
  unfold State.refreshLog; try dsimp only
  repeat' split
  all_goals first | done | simp (maxDischargeDepth := 60) [hK]

@[simp] theorem State.writeRecord_keeps {t0 : State} {s : State} (r : LegalReq) (hK : Keeps t0 s) :
    Keeps t0 (State.writeRecord s r) := by
  unfold State.writeRecord; try dsimp only
  repeat' split
  all_goals first | done | simp (maxDischargeDepth := 60) [hK]

@[simp] theorem State.writeWaiting_keeps {t0 : State} (l : List LegalReq) {s : State} (hK : Keeps t0 s) :
    Keeps t0 (State.writeWaiting l s) := by
  induction l generalizing s with
  | nil => exact hK
  | cons r t ih => unfold State.writeWaiting; split <;> exact ih (by simp (maxDischargeDepth := 60) [hK])

@[simp] theorem State.drainWaiting_keeps {t0 : State} {s : State} (hK : Keeps t0 s) :
    Keeps t0 (State.drainWaiting s) := by
  unfold State.drainWaiting; try dsimp only
  repeat' split
  all_goals first | done | simp (maxDischargeDepth := 60) [hK]

@[simp] theorem State.record_keeps {t0 : State} {s : State} (r : LegalReq) (hK : Keeps t0 s) :
    Keeps t0 (State.record s r) := by
  unfold State.record; try dsimp only
  repeat' split
  all_goals first | done | simp (maxDischargeDepth := 60) [hK]

@[simp] theorem State.copyRegs_keeps {t0 : State} {s : State} (hK : Keeps t0 s) :
    Keeps t0 (State.copyRegs s) := by
  unfold State.copyRegs; try dsimp only
  repeat' split
  all_goals first | done | simp (maxDischargeDepth := 60) [hK]

@[simp] theorem State.commitRegs_keeps {t0 : State} {s : State} (hK : Keeps t0 s) :
    Keeps t0 (State.commitRegs s) := by
  unfold State.commitRegs; try dsimp only
  repeat' split
  all_goals first | done | simp (maxDischargeDepth := 60) [hK]

@[simp] theorem State.closeInterval_keeps {t0 : State} {s : State} (c : Fin 4) (hK : Keeps t0 s) :
    Keeps t0 (State.closeInterval s c) := by
  unfold State.closeInterval; try dsimp only
  repeat' split
  all_goals first | done | simp (maxDischargeDepth := 60) [hK]

@[simp] theorem State.openInterval_keeps {t0 : State} {s : State} (c : Fin 4) (hK : Keeps t0 s) :
    Keeps t0 (State.openInterval s c) := by
  unfold State.openInterval; try dsimp only
  repeat' split
  all_goals first | done | simp (maxDischargeDepth := 60) [hK]

@[simp] theorem State.applyHeld_keeps {t0 : State} {s : State} (sel : Nat → Bool) (hK : Keeps t0 s) :
    Keeps t0 (State.applyHeld s sel) := by
  have hd : ∀ (l : List (Nat × Val)) (st : State), (l.foldl (fun (st : State) e => st.put e.1 e.2) st).dict = st.dict := by
    intro l; induction l with
    | nil => intro st; rfl
    | cons e l ih => intro st; rw [List.foldl_cons, ih]; rfl
  unfold State.applyHeld; dsimp only
  simp (maxDischargeDepth := 60) (contextual := true) [hK, objWf_puts, heldAll_filter, hd]

@[simp] theorem State.boundaryRecord_keeps {t0 : State} {s : State} (c : Fin 4) (kind : Nat) (new : Nat) (old : Nat) (demand : Nat) (start : Nat) (hK : Keeps t0 s) :
    Keeps t0 (State.boundaryRecord s c kind new old demand start) := by
  unfold State.boundaryRecord; try dsimp only
  repeat' split
  all_goals first | done | simp (maxDischargeDepth := 60) [hK]

@[simp] theorem State.boundaryRecords_keeps {t0 : State} {s : State} (kindOf : Fin 4 → Nat) (new : Nat) (old : Nat) (start : Fin 4 → Nat) (closed : Bool) (hK : Keeps t0 s) :
    Keeps t0 (State.boundaryRecords s kindOf new old start closed) := by
  unfold State.boundaryRecords; try dsimp only
  repeat' split
  all_goals first | done | simp (maxDischargeDepth := 60) [hK]

@[simp] theorem State.resetDemand_keeps {t0 : State} {s : State} (hK : Keeps t0 s) :
    Keeps t0 (State.resetDemand s) := by
  unfold State.resetDemand; try dsimp only
  repeat' split
  all_goals first | done | simp (maxDischargeDepth := 60) [hK]

@[simp] theorem State.takeBoundary_keeps {t0 : State} {s : State} (applies : Bool) (extra : Nat) (hK : Keeps t0 s) :
    Keeps t0 (State.takeBoundary s applies extra) := by
  unfold State.takeBoundary; try dsimp only
  repeat' split
  all_goals first | done | simp (maxDischargeDepth := 60) [hK]

@[simp] theorem State.powerFailRecords_keeps {t0 : State} {s : State} (hK : Keeps t0 s) :
    Keeps t0 (State.powerFailRecords s) := by
  unfold State.powerFailRecords; try dsimp only
  repeat' split
  all_goals first | done | simp (maxDischargeDepth := 60) [hK]

@[simp] theorem State.billingBoundary_keeps {t0 : State} {s : State} (t : Nat) (hK : Keeps t0 s) :
    Keeps t0 (State.billingBoundary s t) := by
  unfold State.billingBoundary; try dsimp only
  repeat' split
  all_goals first | done | simp (maxDischargeDepth := 60) [hK]

@[simp] theorem State.dmdResetEffect_keeps {t0 : State} {s : State} (v : Nat) (hK : Keeps t0 s) :
    Keeps t0 (State.dmdResetEffect s v) := by
  unfold State.dmdResetEffect; try dsimp only
  repeat' split
  all_goals first | done | simp (maxDischargeDepth := 60) [hK]

@[simp] theorem State.logAckEffect_keeps {t0 : State} {s : State} (v : Nat) (hK : Keeps t0 s) :
    Keeps t0 (State.logAckEffect s v) := by
  unfold State.logAckEffect; try dsimp only
  repeat' split
  all_goals first | done | simp (maxDischargeDepth := 60) [hK]

@[simp] theorem State.vevAckEffect_keeps {t0 : State} {s : State} (v : Nat) (hK : Keeps t0 s) :
    Keeps t0 (State.vevAckEffect s v) := by
  unfold State.vevAckEffect; try dsimp only
  repeat' split
  all_goals first | done | simp (maxDischargeDepth := 60) [hK]

@[simp] theorem State.discardRwl_keeps {t0 : State} {s : State} (hK : Keeps t0 s) :
    Keeps t0 (State.discardRwl s) := by
  unfold State.discardRwl; try dsimp only
  repeat' split
  all_goals first | done | simp (maxDischargeDepth := 60) [hK]

@[simp] theorem State.sealNote_keeps {t0 : State} {s : State} (opens : Bool) (at_ : Nat) (hK : Keeps t0 s) :
    Keeps t0 (State.sealNote s opens at_) := by
  unfold State.sealNote; try dsimp only
  repeat' split
  all_goals first | done | simp (maxDischargeDepth := 60) [hK]

@[simp] theorem State.loopRecord_keeps {t0 : State} {s : State} (i : Fin 4) (opens : Bool) (at_ : Nat) (flags : Nat) (vev : Nat) (hK : Keeps t0 s) :
    Keeps t0 (State.loopRecord s i opens at_ flags vev) := by
  unfold State.loopRecord; try dsimp only
  repeat' split
  all_goals first | done | simp (maxDischargeDepth := 60) [hK]

@[simp] theorem State.setLoop_keeps {t0 : State} {s : State} (i : Fin 4) (l : Loop) (hK : Keeps t0 s) :
    Keeps t0 (State.setLoop s i l) := by
  unfold State.setLoop; try dsimp only
  repeat' split
  all_goals first | done | simp (maxDischargeDepth := 60) [hK]

@[simp] theorem State.loopTaken_keeps {t0 : State} {s : State} (i : Fin 4) (opens : Bool) (at_ : Nat) (hK : Keeps t0 s) :
    Keeps t0 (State.loopTaken s i opens at_) := by
  unfold State.loopTaken; try dsimp only
  repeat' split
  all_goals first | done | simp (maxDischargeDepth := 60) [hK]

@[simp] theorem State.loopAmbiguous_keeps {t0 : State} {s : State} (i : Fin 4) (hK : Keeps t0 s) :
    Keeps t0 (State.loopAmbiguous s i) := by
  unfold State.loopAmbiguous; try dsimp only
  repeat' split
  all_goals first | done | simp (maxDischargeDepth := 60) [hK]

@[simp] theorem State.loopReading_keeps {t0 : State} {s : State} (i : Fin 4) (opens : Bool) (hK : Keeps t0 s) :
    Keeps t0 (State.loopReading s i opens) := by
  unfold State.loopReading; try dsimp only
  repeat' split
  all_goals first | done | simp (maxDischargeDepth := 60) [hK]

@[simp] theorem State.loopSense_keeps {t0 : State} {s : State} (i : Fin 4) (ohms : Nat) (hK : Keeps t0 s) :
    Keeps t0 (State.loopSense s i ohms) := by
  unfold State.loopSense; try dsimp only
  repeat' split
  all_goals first | done | simp (maxDischargeDepth := 60) [hK]

@[simp] theorem State.timeTamper_keeps {t0 : State} {s : State} (hK : Keeps t0 s) :
    Keeps t0 (State.timeTamper s) := by
  unfold State.timeTamper; try dsimp only
  repeat' split
  all_goals first | done | simp (maxDischargeDepth := 60) [hK]

@[simp] theorem State.raiseEct_keeps {t0 : State} {s : State} (hK : Keeps t0 s) :
    Keeps t0 (State.raiseEct s) := by
  unfold State.raiseEct; try dsimp only
  repeat' split
  all_goals first | done | simp (maxDischargeDepth := 60) [hK]

@[simp] theorem State.timeSetSteps_keeps {t0 : State} {s : State} (old : Nat) (new : Nat) (hK : Keeps t0 s) :
    Keeps t0 (State.timeSetSteps s old new).1 := by
  unfold State.timeSetSteps; try dsimp only
  repeat' split
  all_goals first | done | simp (maxDischargeDepth := 60) [hK]

@[simp] theorem State.civilTimeSet_keeps {t0 : State} {s : State} (hK : Keeps t0 s) :
    Keeps t0 (State.civilTimeSet s) := by
  unfold State.civilTimeSet; try dsimp only
  repeat' split
  all_goals first | done | simp (maxDischargeDepth := 60) [hK]

/-! ## Machine/RingKey.lean -/

@[simp] theorem State.refreshRingKey_keeps {t0 : State} {s : State} (hK : Keeps t0 s) :
    Keeps t0 (State.refreshRingKey s) := by
  unfold State.refreshRingKey; try dsimp only
  repeat' split
  all_goals first | done | simp (maxDischargeDepth := 60) [hK]

@[simp] theorem State.putStored_keeps {t0 : State} {s : State} (k : Nat) (n : Nat) (hK : Keeps t0 s) :
    Keeps t0 (State.putStored s k n) := by
  unfold State.putStored; try dsimp only
  repeat' split
  all_goals first | done | simp (maxDischargeDepth := 60) [hK]

@[simp] theorem State.ringKeySwitch_keeps {t0 : State} {s : State} (hK : Keeps t0 s) :
    Keeps t0 (State.ringKeySwitch s) := by
  unfold State.ringKeySwitch; try dsimp only
  repeat' split
  all_goals first | done | simp (maxDischargeDepth := 60) [hK]

@[simp] theorem State.ringKeyCommitted_keeps {t0 : State} {s : State} (oldSlot : Nat) (hK : Keeps t0 s) :
    Keeps t0 (State.ringKeyCommitted s oldSlot) := by
  unfold State.ringKeyCommitted; try dsimp only
  repeat' split
  all_goals first | done | simp (maxDischargeDepth := 60) [hK]

@[simp] theorem State.ringKeyPersist_keeps {t0 : State} {s : State} (hK : Keeps t0 s) :
    Keeps t0 (State.ringKeyPersist s) := by
  unfold State.ringKeyPersist; try dsimp only
  repeat' split
  all_goals first | done | simp (maxDischargeDepth := 60) [hK]

@[simp] theorem State.ringKeyBoundary_keeps {t0 : State} {s : State} (hK : Keeps t0 s) :
    Keeps t0 (State.ringKeyBoundary s) := by
  unfold State.ringKeyBoundary; try dsimp only
  repeat' split
  all_goals first | done | simp (maxDischargeDepth := 60) [hK]

@[simp] theorem State.queueShared_keeps {t0 : State} {s : State} (r : Nat) (l : List (Nat × List Byte)) (hK : Keeps t0 s) :
    Keeps t0 (State.queueShared s r l) := by
  unfold State.queueShared; try dsimp only
  repeat' split
  all_goals first | done | simp (maxDischargeDepth := 60) [hK]

@[simp] theorem State.sendFrame_keeps {t0 : State} {s : State} (content : Nat) (dest : Nat) (data : List Byte) (hK : Keeps t0 s) :
    Keeps t0 (State.sendFrame s content dest data) := by
  unfold State.sendFrame; try dsimp only
  repeat' split
  all_goals first | done | simp (maxDischargeDepth := 60) [hK]

/-! ## Machine/Site.lean -/

@[simp] theorem State.refreshAlloc_keeps {t0 : State} {s : State} (hK : Keeps t0 s) :
    Keeps t0 (State.refreshAlloc s) := by
  unfold State.refreshAlloc; try dsimp only
  repeat' split
  all_goals first | done | simp (maxDischargeDepth := 60) [hK]

@[simp] theorem State.showClaims_keeps {t0 : State} {s : State} (b : Block) (hK : Keeps t0 s) :
    Keeps t0 (State.showClaims s b) := by
  unfold State.showClaims
  extract_lets a0
  have ha0 : Keeps t0 a0 := by
    first
      | (simp (maxDischargeDepth := 60) [a0, hK]; done)
      | (refine Keeps.foldl _ _ (by simp (maxDischargeDepth := 60) [hK]) fun st i => ?_; (try dsimp only); repeat' split
         all_goals first | done | simp (maxDischargeDepth := 60) | (refine Keeps.foldl _ _ (by simp (maxDischargeDepth := 60)) fun st i => ?_; (try dsimp only); repeat' split; all_goals first | done | simp (maxDischargeDepth := 60)))
      | (simp only [a0]; (try dsimp only); repeat' split; all_goals first | done | exact hK | simp (maxDischargeDepth := 60) [hK] | (refine Keeps.foldl _ _ (by simp (maxDischargeDepth := 60) [hK]) fun st i => ?_; (try dsimp only); repeat' split; all_goals first | done | simp (maxDischargeDepth := 60)))
  clear_value a0
  first
    | (simp (maxDischargeDepth := 60) [ha0]; done)
    | (refine Keeps.foldl _ _ (by simp (maxDischargeDepth := 60) [ha0]) fun st i => ?_; (try dsimp only); repeat' split
       all_goals first | done | simp (maxDischargeDepth := 60) | (refine Keeps.foldl _ _ (by simp (maxDischargeDepth := 60)) fun st i => ?_; (try dsimp only); repeat' split; all_goals first | done | simp (maxDischargeDepth := 60)))
    | ((try dsimp only); repeat' split; all_goals first | done | exact ha0 | simp (maxDischargeDepth := 60) [ha0] | (refine Keeps.foldl _ _ (by simp (maxDischargeDepth := 60) [ha0]) fun st i => ?_; (try dsimp only); repeat' split; all_goals first | done | simp (maxDischargeDepth := 60)))

@[simp] theorem State.claimUpdate_keeps {t0 : State} {s : State} (o : Fin 4) (hK : Keeps t0 s) :
    Keeps t0 (State.claimUpdate s o) := by
  unfold State.claimUpdate; try dsimp only
  repeat' split
  all_goals first | done | simp (maxDischargeDepth := 60) [hK]

@[simp] theorem State.portShown_keeps {t0 : State} {s : State} (b : Block) (hK : Keeps t0 s) :
    Keeps t0 (State.portShown s b) := by
  unfold State.portShown
  first
    | (simp (maxDischargeDepth := 60) [hK]; done)
    | (refine Keeps.foldl _ _ (by simp (maxDischargeDepth := 60) [hK]) fun st i => ?_; (try dsimp only); repeat' split
       all_goals first | done | simp (maxDischargeDepth := 60) | (refine Keeps.foldl _ _ (by simp (maxDischargeDepth := 60)) fun st i => ?_; (try dsimp only); repeat' split; all_goals first | done | simp (maxDischargeDepth := 60)))
    | ((try dsimp only); repeat' split; all_goals first | done | exact hK | simp (maxDischargeDepth := 60) [hK] | (refine Keeps.foldl _ _ (by simp (maxDischargeDepth := 60) [hK]) fun st i => ?_; (try dsimp only); repeat' split; all_goals first | done | simp (maxDischargeDepth := 60)))

@[simp] theorem State.keepBlock_keeps {t0 : State} {s : State} (b : Block) (hK : Keeps t0 s) :
    Keeps t0 (State.keepBlock s b) := by
  unfold State.keepBlock; try dsimp only
  repeat' split
  all_goals first | done | simp (maxDischargeDepth := 60) [hK]

@[simp] theorem State.queueWave_keeps {t0 : State} {s : State} (r : Nat) (own : Bool) (chars : List Byte) (hK : Keeps t0 s) :
    Keeps t0 (State.queueWave s r own chars) := by
  unfold State.queueWave; try dsimp only
  repeat' split
  all_goals first | done | simp (maxDischargeDepth := 60) [hK]

@[simp] theorem State.queueBlock_keeps {t0 : State} {s : State} (b : Block) (hK : Keeps t0 s) :
    Keeps t0 (State.queueBlock s b) := by
  unfold State.queueBlock; try dsimp only
  repeat' split
  all_goals first | done | simp (maxDischargeDepth := 60) [hK]

@[simp] theorem State.insertClaims_keeps {t0 : State} {s : State} (hK : Keeps t0 s) :
    Keeps t0 (State.insertClaims s) := by
  unfold State.insertClaims; try dsimp only
  repeat' split
  all_goals first | done | simp (maxDischargeDepth := 60) [hK]

@[simp] theorem State.waveBlock_keeps {t0 : State} {s : State} (src : Nat) (payload : List Byte) (hK : Keeps t0 s) :
    Keeps t0 (State.waveBlock s src payload) := by
  unfold State.waveBlock; try dsimp only
  repeat' split
  all_goals first | done | simp (maxDischargeDepth := 60) [hK]

@[simp] theorem State.closePass_keeps {t0 : State} {s : State} (r : Fin 2) (ns : Nat) (hK : Keeps t0 s) :
    Keeps t0 (State.closePass s r ns) := by
  unfold State.closePass; try dsimp only
  repeat' split
  all_goals first | done | simp (maxDischargeDepth := 60) [hK]

@[simp] theorem State.closeMark_keeps {t0 : State} {s : State} (r : Fin 2) (hops : Nat) (epoch : Nat) (ns : Nat) (hK : Keeps t0 s) :
    Keeps t0 (State.closeMark s r hops epoch ns) := by
  unfold State.closeMark; try dsimp only
  repeat' split
  all_goals first | done | simp (maxDischargeDepth := 60) [hK]

@[simp] theorem State.noteWave_keeps {t0 : State} {s : State} (hK : Keeps t0 s) :
    Keeps t0 (State.noteWave s) := by
  unfold State.noteWave; try dsimp only
  repeat' split
  all_goals first | done | simp (maxDischargeDepth := 60) [hK]

@[simp] theorem State.noteCame_keeps {t0 : State} {s : State} (hK : Keeps t0 s) :
    Keeps t0 (State.noteCame s) := by
  unfold State.noteCame; try dsimp only
  repeat' split
  all_goals first | done | simp (maxDischargeDepth := 60) [hK]

@[simp] theorem State.noteGroupRt_keeps {t0 : State} {s : State} (hK : Keeps t0 s) :
    Keeps t0 (State.noteGroupRt s) := by
  unfold State.noteGroupRt; try dsimp only
  repeat' split
  all_goals first | done | simp (maxDischargeDepth := 60) [hK]

@[simp] theorem State.putGrants_keeps {t0 : State} {s : State} (g : Grants) (hK : Keeps t0 s) :
    Keeps t0 (State.putGrants s g) := by
  unfold State.putGrants; try dsimp only
  repeat' split
  all_goals first | done | simp (maxDischargeDepth := 60) [hK]

@[simp] theorem State.applyGrants_keeps {t0 : State} {s : State} (g : Grants) (hK : Keeps t0 s) :
    Keeps t0 (State.applyGrants s g) := by
  unfold State.applyGrants; try dsimp only
  repeat' split
  all_goals first | done | simp (maxDischargeDepth := 60) [hK]

@[simp] theorem State.floorCuts_keeps {t0 : State} {s : State} (cs : List Claim) (hK : Keeps t0 s) :
    Keeps t0 (State.floorCuts s cs) := by
  unfold State.floorCuts; try dsimp only
  repeat' split
  all_goals first | done | simp (maxDischargeDepth := 60) [hK]

@[simp] theorem State.notePorts_keeps {t0 : State} {s : State} (cs : List Claim) (hK : Keeps t0 s) :
    Keeps t0 (State.notePorts s cs) := by
  unfold State.notePorts; try dsimp only
  repeat' split
  all_goals first | done | simp (maxDischargeDepth := 60) [hK]

@[simp] theorem State.keepFrozen_keeps {t0 : State} {s : State} (cs : List Claim) (hK : Keeps t0 s) :
    Keeps t0 (State.keepFrozen s cs) := by
  unfold State.keepFrozen; try dsimp only
  repeat' split
  all_goals first | done | simp (maxDischargeDepth := 60) [hK]

@[simp] theorem State.holdNow_keeps {t0 : State} {s : State} (hK : Keeps t0 s) :
    Keeps t0 (State.holdNow s) := by
  unfold State.holdNow; try dsimp only
  repeat' split
  all_goals first | done | simp (maxDischargeDepth := 60) [hK]

@[simp] theorem State.vote_keeps {t0 : State} {s : State} (snap : List (Block × Bool)) (hK : Keeps t0 s) :
    Keeps t0 (State.vote s snap) := by
  unfold State.vote; try dsimp only
  repeat' split
  all_goals first | done | simp (maxDischargeDepth := 60) [hK]

@[simp] theorem State.waveFreeze_keeps {t0 : State} {s : State} (hK : Keeps t0 s) :
    Keeps t0 (State.waveFreeze s) := by
  unfold State.waveFreeze; try dsimp only
  repeat' split
  all_goals first | done | simp (maxDischargeDepth := 60) [hK]

@[simp] theorem State.calcDone_keeps {t0 : State} {s : State} (ns : Nat) (hK : Keeps t0 s) :
    Keeps t0 (State.calcDone s ns) := by
  unfold State.calcDone; try dsimp only
  repeat' split
  all_goals first | done | simp (maxDischargeDepth := 60) [hK]

@[simp] theorem State.treeBoundary_keeps {t0 : State} {s : State} (hK : Keeps t0 s) :
    Keeps t0 (State.treeBoundary s) := by
  unfold State.treeBoundary; try dsimp only
  repeat' split
  all_goals first | done | simp (maxDischargeDepth := 60) [hK]

@[simp] theorem State.released_keeps {t0 : State} {s : State} (hK : Keeps t0 s) :
    Keeps t0 (State.released s) := by
  unfold State.released; try dsimp only
  repeat' split
  all_goals first | done | simp (maxDischargeDepth := 60) [hK]

@[simp] theorem State.epochShort_keeps {t0 : State} {s : State} (hK : Keeps t0 s) :
    Keeps t0 (State.epochShort s) := by
  unfold State.epochShort; try dsimp only
  repeat' split
  all_goals first | done | simp (maxDischargeDepth := 60) [hK]

@[simp] theorem State.ringClassMoves_keeps {t0 : State} {s : State} (hK : Keeps t0 s) :
    Keeps t0 (State.ringClassMoves s) := by
  unfold State.ringClassMoves; try dsimp only
  repeat' split
  all_goals first | done | simp (maxDischargeDepth := 60) [hK]

@[simp] theorem State.traceAlloc_keeps {t0 : State} {s : State} (hK : Keeps t0 s) :
    Keeps t0 (State.traceAlloc s) := by
  unfold State.traceAlloc; try dsimp only
  repeat' split
  all_goals first | done | simp (maxDischargeDepth := 60) [hK]

@[simp] theorem State.boundaryActs_keeps {t0 : State} {s : State} (hK : Keeps t0 s) :
    Keeps t0 (State.boundaryActs s) := by
  unfold State.boundaryActs; try dsimp only
  repeat' split
  all_goals first | done | simp (maxDischargeDepth := 60) [hK]

@[simp] theorem State.isolate_keeps {t0 : State} {s : State} (hK : Keeps t0 s) :
    Keeps t0 (State.isolate s) := by
  unfold State.isolate; try dsimp only
  repeat' split
  all_goals first | done | simp (maxDischargeDepth := 60) [hK]

@[simp] theorem State.endIsolation_keeps {t0 : State} {s : State} (hK : Keeps t0 s) :
    Keeps t0 (State.endIsolation s) := by
  unfold State.endIsolation; try dsimp only
  repeat' split
  all_goals first | done | simp (maxDischargeDepth := 60) [hK]

@[simp] theorem State.stopGroups_keeps {t0 : State} {s : State} (node : Nat) (idx : Nat) (epoch : Nat) (hK : Keeps t0 s) :
    Keeps t0 (State.stopGroups s node idx epoch) := by
  unfold State.stopGroups; try dsimp only
  repeat' split
  all_goals first | done | simp (maxDischargeDepth := 60) [hK]

@[simp] theorem State.portStopped_keeps {t0 : State} {s : State} (src : Nat) (port : Nat) (epoch : Nat) (hK : Keeps t0 s) :
    Keeps t0 (State.portStopped s src port epoch) := by
  unfold State.portStopped; try dsimp only
  repeat' split
  all_goals first | done | simp (maxDischargeDepth := 60) [hK]

@[simp] theorem State.queueItem_keeps {t0 : State} {s : State} (it : Item) (hK : Keeps t0 s) :
    Keeps t0 (State.queueItem s it) := by
  unfold State.queueItem; try dsimp only
  repeat' split
  all_goals first | done | simp (maxDischargeDepth := 60) [hK]

@[simp] theorem State.stopPort_keeps {t0 : State} {s : State} (idx : Nat) (hK : Keeps t0 s) :
    Keeps t0 (State.stopPort s idx) := by
  unfold State.stopPort; try dsimp only
  repeat' split
  all_goals first | done | simp (maxDischargeDepth := 60) [hK]

@[simp] theorem State.refreshOffer_keeps {t0 : State} {s : State} (o : Fin 4) (hK : Keeps t0 s) :
    Keeps t0 (State.refreshOffer s o) := by
  unfold State.refreshOffer; try dsimp only
  repeat' split
  all_goals first | done | simp (maxDischargeDepth := 60) [hK]

@[simp] theorem State.lossReceived_keeps {t0 : State} {s : State} (src : Nat) (port : Nat) (lost : Nat) (hK : Keeps t0 s) :
    Keeps t0 (State.lossReceived s src port lost) := by
  unfold State.lossReceived; try dsimp only
  repeat' split
  all_goals first | done | simp (maxDischargeDepth := 60) [hK]

/-! ## Machine/Outlet.lean -/

@[simp] theorem State.setOut_keeps {t0 : State} {s : State} (o : Fin 4) (x : Outlet) (hK : Keeps t0 s) :
    Keeps t0 (State.setOut s o x) := by
  unfold State.setOut; try dsimp only
  repeat' split
  all_goals first | done | simp (maxDischargeDepth := 60) [hK]

@[simp] theorem State.toState_keeps {t0 : State} {s : State} (o : Fin 4) (n : Nat) (hK : Keeps t0 s) :
    Keeps t0 (State.toState s o n) := by
  unfold State.toState; try dsimp only
  repeat' split
  all_goals first | done | simp (maxDischargeDepth := 60) [hK]

@[simp] theorem State.tell_keeps {t0 : State} {s : State} (o : Fin 4) (a : Answer) (hK : Keeps t0 s) :
    Keeps t0 (State.tell s o a) := by
  unfold State.tell; try dsimp only
  repeat' split
  all_goals first | done | simp (maxDischargeDepth := 60) [hK]

@[simp] theorem State.outletLive_keeps {t0 : State} {s : State} (o : Fin 4) (f : State → State) (hK : Keeps t0 s) (hf : ∀ x, Keeps x (f x)) :
    Keeps t0 (State.outletLive s o f) := by
  unfold State.outletLive; try dsimp only
  repeat' split
  all_goals first | done | simp (maxDischargeDepth := 60) [hK, hf]

@[simp] theorem State.outletSense_keeps {t0 : State} {s : State} (o : Fin 4) (f : State → State) (hK : Keeps t0 s) (hf : ∀ x, Keeps x (f x)) :
    Keeps t0 (State.outletSense s o f) := by
  unfold State.outletSense; try dsimp only
  repeat' split
  all_goals first | done | simp (maxDischargeDepth := 60) [hK, hf]

@[simp] theorem State.outletPart_keeps {t0 : State} {s : State} (o : Fin 4) (f : State → State) (hK : Keeps t0 s) (hf : ∀ x, Keeps x (f x)) :
    Keeps t0 (State.outletPart s o f) := by
  unfold State.outletPart; try dsimp only
  repeat' split
  all_goals first | done | simp (maxDischargeDepth := 60) [hK, hf]

@[simp] theorem State.linkLive_keeps {t0 : State} {s : State} (o : Fin 4) (f : State → State) (hK : Keeps t0 s) (hf : ∀ x, Keeps x (f x)) :
    Keeps t0 (State.linkLive s o f) := by
  unfold State.linkLive; try dsimp only
  repeat' split
  all_goals first | done | simp (maxDischargeDepth := 60) [hK, hf]

@[simp] theorem State.inStates_keeps {t0 : State} {s : State} (o : Fin 4) (l : List Nat) (f : State → State) (hK : Keeps t0 s) (hf : ∀ x, Keeps x (f x)) :
    Keeps t0 (State.inStates s o l f) := by
  unfold State.inStates; try dsimp only
  repeat' split
  all_goals first | done | simp (maxDischargeDepth := 60) [hK, hf]

@[simp] theorem State.refuse_keeps {t0 : State} {s : State} (o : Fin 4) (reason : Nat) (hK : Keeps t0 s) :
    Keeps t0 (State.refuse s o reason) := by
  unfold State.refuse; try dsimp only
  repeat' split
  all_goals first | done | simp (maxDischargeDepth := 60) [hK]

@[simp] theorem State.rest_keeps {t0 : State} {s : State} (o : Fin 4) (hK : Keeps t0 s) :
    Keeps t0 (State.rest s o) := by
  unfold State.rest; try dsimp only
  repeat' split
  all_goals first | done | simp (maxDischargeDepth := 60) [hK]

@[simp] theorem State.driveCtr_keeps {t0 : State} {s : State} (o : Fin 4) (neg : Bool) (on : Bool) (hK : Keeps t0 s) :
    Keeps t0 (State.driveCtr s o neg on) := by
  unfold State.driveCtr; try dsimp only
  repeat' split
  all_goals first | done | simp (maxDischargeDepth := 60) [hK]

@[simp] theorem State.drivesOff_keeps {t0 : State} {s : State} (o : Fin 4) (hK : Keeps t0 s) :
    Keeps t0 (State.drivesOff s o) := by
  unfold State.drivesOff; try dsimp only
  repeat' split
  all_goals first | done | simp (maxDischargeDepth := 60) [hK]

@[simp] theorem State.runOn_keeps {t0 : State} {s : State} (o : Fin 4) (hK : Keeps t0 s) :
    Keeps t0 (State.runOn s o) := by
  unfold State.runOn; try dsimp only
  repeat' split
  all_goals first | done | simp (maxDischargeDepth := 60) [hK]

@[simp] theorem State.zeroClaim_keeps {t0 : State} {s : State} (o : Fin 4) (hK : Keeps t0 s) :
    Keeps t0 (State.zeroClaim s o) := by
  unfold State.zeroClaim; try dsimp only
  repeat' split
  all_goals first | done | simp (maxDischargeDepth := 60) [hK]

@[simp] theorem State.stopDone_keeps {t0 : State} {s : State} (o : Fin 4) (wh : Int) (hK : Keeps t0 s) :
    Keeps t0 (State.stopDone s o wh) := by
  unfold State.stopDone; try dsimp only
  repeat' split
  all_goals first | done | simp (maxDischargeDepth := 60) [hK]

@[simp] theorem State.setAcct_keeps {t0 : State} {s : State} (n : Nat) (a : Acct) (hK : Keeps t0 s) :
    Keeps t0 (State.setAcct s n a) := by
  unfold State.setAcct; try dsimp only
  repeat' split
  all_goals first | done | simp (maxDischargeDepth := 60) [hK]

@[simp] theorem State.acctsFree_keeps {t0 : State} {s : State} (hK : Keeps t0 s) :
    Keeps t0 (State.acctsFree s) := by
  unfold State.acctsFree
  first
    | (simp (maxDischargeDepth := 60) [hK]; done)
    | (refine Keeps.foldl _ _ (by simp (maxDischargeDepth := 60) [hK]) fun st i => ?_; (try dsimp only); repeat' split
       all_goals first | done | simp (maxDischargeDepth := 60) | (refine Keeps.foldl _ _ (by simp (maxDischargeDepth := 60)) fun st i => ?_; (try dsimp only); repeat' split; all_goals first | done | simp (maxDischargeDepth := 60)))
    | ((try dsimp only); repeat' split; all_goals first | done | exact hK | simp (maxDischargeDepth := 60) [hK] | (refine Keeps.foldl _ _ (by simp (maxDischargeDepth := 60) [hK]) fun st i => ?_; (try dsimp only); repeat' split; all_goals first | done | simp (maxDischargeDepth := 60)))

@[simp] theorem State.sessionOver_keeps {t0 : State} {s : State} (o : Fin 4) (hK : Keeps t0 s) :
    Keeps t0 (State.sessionOver s o) := by
  unfold State.sessionOver; try dsimp only
  repeat' split
  all_goals first | done | simp (maxDischargeDepth := 60) [hK]

@[simp] theorem State.endQuiet_keeps {t0 : State} {s : State} (o : Fin 4) (hK : Keeps t0 s) :
    Keeps t0 (State.endQuiet s o) := by
  unfold State.endQuiet; try dsimp only
  repeat' split
  all_goals first | done | simp (maxDischargeDepth := 60) [hK]

@[simp] theorem State.endRefused_keeps {t0 : State} {s : State} (o : Fin 4) (reason : Nat) (hK : Keeps t0 s) :
    Keeps t0 (State.endRefused s o reason) := by
  unfold State.endRefused; try dsimp only
  repeat' split
  all_goals first | done | simp (maxDischargeDepth := 60) [hK]

@[simp] theorem State.requestEnd_keeps {t0 : State} {s : State} (o : Fin 4) (hK : Keeps t0 s) :
    Keeps t0 (State.requestEnd s o) := by
  unfold State.requestEnd; try dsimp only
  repeat' split
  all_goals first | done | simp (maxDischargeDepth := 60) [hK]

@[simp] theorem State.opened_keeps {t0 : State} {s : State} (o : Fin 4) (hK : Keeps t0 s) :
    Keeps t0 (State.opened s o) := by
  unfold State.opened; try dsimp only
  repeat' split
  all_goals first | done | simp (maxDischargeDepth := 60) [hK]

@[simp] theorem State.closedFirst_keeps {t0 : State} {s : State} (o : Fin 4) (hK : Keeps t0 s) :
    Keeps t0 (State.closedFirst s o) := by
  unfold State.closedFirst; try dsimp only
  repeat' split
  all_goals first | done | simp (maxDischargeDepth := 60) [hK]

@[simp] theorem State.ctrStep_keeps {t0 : State} {s : State} (o : Fin 4) (hK : Keeps t0 s) :
    Keeps t0 (State.ctrStep s o) := by
  unfold State.ctrStep; try dsimp only
  repeat' split
  all_goals first | done | simp (maxDischargeDepth := 60) [hK]

@[simp] theorem State.openContactors_keeps {t0 : State} {s : State} (o : Fin 4) (hK : Keeps t0 s) :
    Keeps t0 (State.openContactors s o) := by
  unfold State.openContactors; try dsimp only
  repeat' split
  all_goals first | done | simp (maxDischargeDepth := 60) [hK]

@[simp] theorem State.beginStop_keeps {t0 : State} {s : State} (o : Fin 4) (cause : Option Nat) (hK : Keeps t0 s) :
    Keeps t0 (State.beginStop s o cause) := by
  unfold State.beginStop; try dsimp only
  repeat' split
  all_goals first | done | simp (maxDischargeDepth := 60) [hK]

@[simp] theorem State.normalStop_keeps {t0 : State} {s : State} (o : Fin 4) (cause : Option Nat) (hK : Keeps t0 s) :
    Keeps t0 (State.normalStop s o cause) := by
  unfold State.normalStop; try dsimp only
  repeat' split
  all_goals first | done | simp (maxDischargeDepth := 60) [hK]

@[simp] theorem State.emergencyStop_keeps {t0 : State} {s : State} (o : Fin 4) (cause : Nat) (hK : Keeps t0 s) :
    Keeps t0 (State.emergencyStop s o cause) := by
  unfold State.emergencyStop; try dsimp only
  repeat' split
  all_goals first | done | simp (maxDischargeDepth := 60) [hK]

@[simp] theorem State.endInFault_keeps {t0 : State} {s : State} (o : Fin 4) (hK : Keeps t0 s) :
    Keeps t0 (State.endInFault s o) := by
  unfold State.endInFault; try dsimp only
  repeat' split
  all_goals first | done | simp (maxDischargeDepth := 60) [hK]

@[simp] theorem State.toFault_keeps {t0 : State} {s : State} (o : Fin 4) (hK : Keeps t0 s) :
    Keeps t0 (State.toFault s o) := by
  unfold State.toFault; try dsimp only
  repeat' split
  all_goals first | done | simp (maxDischargeDepth := 60) [hK]

@[simp] theorem State.welded_keeps {t0 : State} {s : State} (o : Fin 4) (hK : Keeps t0 s) :
    Keeps t0 (State.welded s o) := by
  unfold State.welded; try dsimp only
  repeat' split
  all_goals first | done | simp (maxDischargeDepth := 60) [hK]

@[simp] theorem State.feedback_keeps {t0 : State} {s : State} (o : Fin 4) (neg : Bool) (high : Bool) (hK : Keeps t0 s) :
    Keeps t0 (State.feedback s o neg high) := by
  unfold State.feedback; try dsimp only
  repeat' split
  all_goals first | done | simp (maxDischargeDepth := 60) [hK]

@[simp] theorem State.outFaultClearEffect_keeps {t0 : State} {s : State} (o : Fin 4) (v : Nat) (hK : Keeps t0 s) :
    Keeps t0 (State.outFaultClearEffect s o v) := by
  unfold State.outFaultClearEffect; try dsimp only
  repeat' split
  all_goals first | done | simp (maxDischargeDepth := 60) [hK]

@[simp] theorem State.senseState_keeps {t0 : State} {s : State} (o : Fin 4) (hi : Int) (lo : Int) (hK : Keeps t0 s) :
    Keeps t0 (State.senseState s o hi lo) := by
  unfold State.senseState; try dsimp only
  repeat' split
  all_goals first | done | simp (maxDischargeDepth := 60) [hK]

@[simp] theorem State.negotiate_keeps {t0 : State} {s : State} (o : Fin 4) (hK : Keeps t0 s) :
    Keeps t0 (State.negotiate s o) := by
  unfold State.negotiate; try dsimp only
  repeat' split
  all_goals first | done | simp (maxDischargeDepth := 60) [hK]

@[simp] theorem State.unlisted_keeps {t0 : State} {s : State} (o : Fin 4) (hK : Keeps t0 s) :
    Keeps t0 (State.unlisted s o) := by
  unfold State.unlisted; try dsimp only
  repeat' split
  all_goals first | done | simp (maxDischargeDepth := 60) [hK]

@[simp] theorem State.identify_keeps {t0 : State} {s : State} (o : Fin 4) (emaid : List Byte) (chain : List Byte × Nat) (hK : Keeps t0 s) :
    Keeps t0 (State.identify s o emaid chain) := by
  unfold State.identify; try dsimp only
  repeat' split
  all_goals first | done | simp (maxDischargeDepth := 60) [hK]

@[simp] theorem State.authEffect_keeps {t0 : State} {s : State} (o : Fin 4) (v : Nat) (hK : Keeps t0 s) :
    Keeps t0 (State.authEffect s o v) := by
  unfold State.authEffect; try dsimp only
  repeat' split
  all_goals first | done | simp (maxDischargeDepth := 60) [hK]

@[simp] theorem State.isoUnused_keeps {t0 : State} {s : State} (o : Fin 4) (hK : Keeps t0 s) :
    Keeps t0 (State.isoUnused s o) := by
  unfold State.isoUnused; try dsimp only
  repeat' split
  all_goals first | done | simp (maxDischargeDepth := 60) [hK]

@[simp] theorem State.judgeCheck_keeps {t0 : State} {s : State} (o : Fin 4) (imdOk : Bool) (duty : Option Nat) (hK : Keeps t0 s) :
    Keeps t0 (State.judgeCheck s o imdOk duty) := by
  unfold State.judgeCheck; try dsimp only
  repeat' split
  all_goals first | done | simp (maxDischargeDepth := 60) [hK]

@[simp] theorem State.chargeLoop_keeps {t0 : State} {s : State} (o : Fin 4) (i : Nat) (v : Nat) (p : Option Nat) (di : Nat) (dp : Option Nat) (hK : Keeps t0 s) :
    Keeps t0 (State.chargeLoop s o i v p di dp) := by
  unfold State.chargeLoop; try dsimp only
  repeat' split
  all_goals first | done | simp (maxDischargeDepth := 60) [hK]

@[simp] theorem State.offer_keeps {t0 : State} {s : State} (o : Fin 4) (hK : Keeps t0 s) :
    Keeps t0 (State.offer s o) := by
  unfold State.offer; try dsimp only
  repeat' split
  all_goals first | done | simp (maxDischargeDepth := 60) [hK]

@[simp] theorem State.certResEffect_keeps {t0 : State} {s : State} (o : Fin 4) (body : List Byte) (hK : Keeps t0 s) :
    Keeps t0 (State.certResEffect s o body) := by
  unfold State.certResEffect; try dsimp only
  repeat' split
  all_goals first | done | simp (maxDischargeDepth := 60) [hK]

@[simp] theorem State.sessionStop_keeps {t0 : State} {s : State} (arg : Nat) (hK : Keeps t0 s) :
    Keeps t0 (State.sessionStop s arg) := by
  unfold State.sessionStop; try dsimp only
  repeat' split
  all_goals first | done | simp (maxDischargeDepth := 60) [hK]

@[simp] theorem State.noteParked_keeps {t0 : State} {s : State} (hK : Keeps t0 s) :
    Keeps t0 (State.noteParked s) := by
  unfold State.noteParked; try dsimp only
  repeat' split
  all_goals first | done | simp (maxDischargeDepth := 60) [hK]

@[simp] theorem State.outletsStop_keeps {t0 : State} {s : State} (hK : Keeps t0 s) :
    Keeps t0 (State.outletsStop s) := by
  unfold State.outletsStop; try dsimp only
  repeat' split
  all_goals first | done | simp (maxDischargeDepth := 60) [hK]

@[simp] theorem State.openOutlet_keeps {t0 : State} {s : State} (o : Fin 4) (hK : Keeps t0 s) :
    Keeps t0 (State.openOutlet s o) := by
  unfold State.openOutlet; try dsimp only
  repeat' split
  all_goals first | done | simp (maxDischargeDepth := 60) [hK]

@[simp] theorem State.outletsArrived_keeps {t0 : State} {s : State} (hK : Keeps t0 s) :
    Keeps t0 (State.outletsArrived s) := by
  unfold State.outletsArrived; try dsimp only
  repeat' split
  all_goals first | done | simp (maxDischargeDepth := 60) [hK]

/-! ## Machine/Billing.lean -/

@[simp] theorem State.acctIdEffect_keeps {t0 : State} {s : State} (id : Nat) (hK : Keeps t0 s) :
    Keeps t0 (State.acctIdEffect s id) := by
  unfold State.acctIdEffect; try dsimp only
  repeat' split
  all_goals first | done | simp (maxDischargeDepth := 60) [hK]

@[simp] theorem State.creditStop_keeps {t0 : State} {s : State} (n : Nat) (hK : Keeps t0 s) :
    Keeps t0 (State.creditStop s n) := by
  unfold State.creditStop; try dsimp only
  repeat' split
  all_goals first | done | simp (maxDischargeDepth := 60) [hK]

@[simp] theorem State.creditSpent_keeps {t0 : State} {s : State} (n : Nat) (hK : Keeps t0 s) :
    Keeps t0 (State.creditSpent s n) := by
  unfold State.creditSpent; try dsimp only
  repeat' split
  all_goals first | done | simp (maxDischargeDepth := 60) [hK]

@[simp] theorem State.grantCredit_keeps {t0 : State} {s : State} (n : Nat) (hK : Keeps t0 s) :
    Keeps t0 (State.grantCredit s n) := by
  unfold State.grantCredit; try dsimp only
  repeat' split
  all_goals first | done | simp (maxDischargeDepth := 60) [hK]

@[simp] theorem State.evaluate_keeps {t0 : State} {s : State} (n : Nat) (hK : Keeps t0 s) :
    Keeps t0 (State.evaluate s n) := by
  unfold State.evaluate; try dsimp only
  repeat' split
  all_goals first | done | simp (maxDischargeDepth := 60) [hK]

@[simp] theorem State.accountTopup_keeps {t0 : State} {s : State} (arg : Nat) (hK : Keeps t0 s) :
    Keeps t0 (State.accountTopup s arg) := by
  unfold State.accountTopup; try dsimp only
  repeat' split
  all_goals first | done | simp (maxDischargeDepth := 60) [hK]

@[simp] theorem State.addE_keeps {t0 : State} {s : State} (k : Nat) (n : Nat) (hK : Keeps t0 s) :
    Keeps t0 (State.addE s k n) := by
  unfold State.addE; try dsimp only
  repeat' split
  all_goals first | done | simp (maxDischargeDepth := 60) [hK]

@[simp] theorem State.charge_keeps {t0 : State} {s : State} (c : Fin 4) (n : Nat) (hK : Keeps t0 s) :
    Keeps t0 (State.charge s c n) := by
  unfold State.charge; try dsimp only
  repeat' split
  all_goals first | done | simp (maxDischargeDepth := 60) [hK]

@[simp] theorem State.attribImport_keeps {t0 : State} {s : State} (c : Fin 4) (n : Nat) (hK : Keeps t0 s) :
    Keeps t0 (State.attribImport s c n) := by
  unfold State.attribImport; try dsimp only
  repeat' split
  all_goals first | done | simp (maxDischargeDepth := 60) [hK]

@[simp] theorem State.attribExport_keeps {t0 : State} {s : State} (c : Fin 4) (n : Nat) (hK : Keeps t0 s) :
    Keeps t0 (State.attribExport s c n) := by
  unfold State.attribExport; try dsimp only
  repeat' split
  all_goals first | done | simp (maxDischargeDepth := 60) [hK]

@[simp] theorem State.imported_keeps {t0 : State} {s : State} (c : Fin 4) (n : Nat) (hK : Keeps t0 s) :
    Keeps t0 (State.imported s c n) := by
  unfold State.imported; try dsimp only
  repeat' split
  all_goals first | done | simp (maxDischargeDepth := 60) [hK]

@[simp] theorem State.exported_keeps {t0 : State} {s : State} (c : Fin 4) (n : Nat) (hK : Keeps t0 s) :
    Keeps t0 (State.exported s c n) := by
  unfold State.exported; try dsimp only
  repeat' split
  all_goals first | done | simp (maxDischargeDepth := 60) [hK]

@[simp] theorem State.startRecord_keeps {t0 : State} {s : State} (r : LegalReq) (c : Fin 4) (hK : Keeps t0 s) :
    Keeps t0 (State.startRecord s r c) := by
  unfold State.startRecord; try dsimp only
  repeat' split
  all_goals first | done | simp (maxDischargeDepth := 60) [hK]

@[simp] theorem State.endRecord_keeps {t0 : State} {s : State} (r : LegalReq) (c : Fin 4) (hK : Keeps t0 s) :
    Keeps t0 (State.endRecord s r c) := by
  unfold State.endRecord; dsimp only
  refine State.stopDone_keeps _ _ ?_
  split
  all_goals simp (maxDischargeDepth := 60) [hK]

@[simp] theorem State.recordWritten_keeps {t0 : State} {s : State} (hK : Keeps t0 s) :
    Keeps t0 (State.recordWritten s) := by
  unfold State.recordWritten; try dsimp only
  repeat' split
  all_goals first | done | simp (maxDischargeDepth := 60) [hK]

/-! ## Machine/Cooling.lean -/

@[simp] theorem State.refreshSensors_keeps {t0 : State} {s : State} (o : Fin 4) (hK : Keeps t0 s) :
    Keeps t0 (State.refreshSensors s o) := by
  unfold State.refreshSensors; try dsimp only
  repeat' split
  all_goals first | done | simp (maxDischargeDepth := 60) [hK]

@[simp] theorem State.setCool_keeps {t0 : State} {s : State} (o : Fin 4) (c : Cool) (hK : Keeps t0 s) :
    Keeps t0 (State.setCool s o c) := by
  unfold State.setCool; try dsimp only
  repeat' split
  all_goals first | done | simp (maxDischargeDepth := 60) [hK]

@[simp] theorem State.readInput_keeps {t0 : State} {s : State} (o : Fin 4) (i : Fin 6) (mohm : Nat) (hK : Keeps t0 s) :
    Keeps t0 (State.readInput s o i mohm) := by
  unfold State.readInput; try dsimp only
  repeat' split
  all_goals first | done | simp (maxDischargeDepth := 60) [hK]

@[simp] theorem State.readFlow_keeps {t0 : State} {s : State} (o : Fin 4) (pulses : Nat) (us : Nat) (hK : Keeps t0 s) :
    Keeps t0 (State.readFlow s o pulses us) := by
  unfold State.readFlow; try dsimp only
  repeat' split
  all_goals first | done | simp (maxDischargeDepth := 60) [hK]

@[simp] theorem State.startModel_keeps {t0 : State} {s : State} (o : Fin 4) (e : Nat) (hK : Keeps t0 s) :
    Keeps t0 (State.startModel s o e) := by
  unfold State.startModel; try dsimp only
  repeat' split
  all_goals first | done | simp (maxDischargeDepth := 60) [hK]

@[simp] theorem State.putTemp_keeps {t0 : State} {s : State} (k : Nat) (uK : Int) (hK : Keeps t0 s) :
    Keeps t0 (State.putTemp s k uK) := by
  unfold State.putTemp; try dsimp only
  repeat' split
  all_goals first | done | simp (maxDischargeDepth := 60) [hK]

@[simp] theorem State.refreshPCeil_keeps {t0 : State} {s : State} (o : Fin 4) (hK : Keeps t0 s) :
    Keeps t0 (State.refreshPCeil s o) := by
  unfold State.refreshPCeil; try dsimp only
  repeat' split
  all_goals first | done | simp (maxDischargeDepth := 60) [hK]

@[simp] theorem State.stepCeiling_keeps {t0 : State} {s : State} (o : Fin 4) (td : Int) (hK : Keeps t0 s) :
    Keeps t0 (State.stepCeiling s o td) := by
  unfold State.stepCeiling; try dsimp only
  repeat' split
  all_goals first | done | simp (maxDischargeDepth := 60) [hK]

@[simp] theorem State.refreshCool_keeps {t0 : State} {s : State} (o : Fin 4) (hK : Keeps t0 s) :
    Keeps t0 (State.refreshCool s o) := by
  unfold State.refreshCool; try dsimp only
  repeat' split
  all_goals first | done | simp (maxDischargeDepth := 60) [hK]

@[simp] theorem State.pumpStep_keeps {t0 : State} {s : State} (o : Fin 4) (td : Int) (hK : Keeps t0 s) :
    Keeps t0 (State.pumpStep s o td) := by
  unfold State.pumpStep; try dsimp only
  repeat' split
  all_goals first | done | simp (maxDischargeDepth := 60) [hK]

@[simp] theorem State.judgeRunon_keeps {t0 : State} {s : State} (o : Fin 4) (td : Int) (hK : Keeps t0 s) :
    Keeps t0 (State.judgeRunon s o td) := by
  unfold State.judgeRunon; try dsimp only
  repeat' split
  all_goals first | done | simp (maxDischargeDepth := 60) [hK]

@[simp] theorem State.coolTrip_keeps {t0 : State} {s : State} (o : Fin 4) (variant : Nat) (hK : Keeps t0 s) :
    Keeps t0 (State.coolTrip s o variant) := by
  unfold State.coolTrip; try dsimp only
  repeat' split
  all_goals first | done | simp (maxDischargeDepth := 60) [hK]

@[simp] theorem State.tripStep_keeps {t0 : State} {s : State} (o : Fin 4) (ths : Int) (td : Int) (hK : Keeps t0 s) :
    Keeps t0 (State.tripStep s o ths td) := by
  unfold State.tripStep; try dsimp only
  repeat' split
  all_goals first | done | simp (maxDischargeDepth := 60) [hK]

@[simp] theorem State.coolRebind_keeps {t0 : State} {s : State} (o : Fin 4) (hK : Keeps t0 s) :
    Keeps t0 (State.coolRebind s o) := by
  unfold State.coolRebind; try dsimp only
  repeat' split
  all_goals first | done | simp (maxDischargeDepth := 60) [hK]

@[simp] theorem State.coolAfter_keeps {t0 : State} {s : State} (o : Fin 4) (m : Int × Int × Int × Int) (hK : Keeps t0 s) :
    Keeps t0 (State.coolAfter s o m) := by
  unfold State.coolAfter; try dsimp only
  repeat' split
  all_goals first | done | simp (maxDischargeDepth := 60) [hK]

@[simp] theorem State.traceCool_keeps {t0 : State} {s : State} (o : Fin 4) (e : Fin 38) (hK : Keeps t0 s) :
    Keeps t0 (State.traceCool s o e) := by
  unfold State.traceCool; try dsimp only
  repeat' split
  all_goals first | done | simp (maxDischargeDepth := 60) [hK]

@[simp] theorem State.coolingStep_keeps {t0 : State} {s : State} (o : Fin 4) (ohms : List Nat) (pulses : Nat) (us : Nat) (ns : Nat) (hK : Keeps t0 s) :
    Keeps t0 (State.coolingStep s o ohms pulses us ns) := by
  unfold State.coolingStep
  split
  · exact hK
  · dsimp only
    refine State.coolRebind_keeps _ (State.traceCool_keeps _ _ (State.coolAfter_keeps _ _ ?_))
    refine State.setCool_keeps _ _ (State.putMax_keeps _ _ (State.count_keeps _ ?_))
    have h := State.refreshSensors_keeps o (State.readFlow_keeps o pulses us (Keeps.foldl (fun (st : State) (i : Fin 6) => st.readInput o i ((ohms[i.val]?).getD 0)) (List.finRange 6) hK fun st i => State.readInput_keeps _ _ _ (Keeps.refl _)))
    split
    · exact h
    · exact State.startModel_keeps _ _ h

@[simp] theorem State.coolSilent_keeps {t0 : State} {s : State} (o : Fin 4) (hK : Keeps t0 s) :
    Keeps t0 (State.coolSilent s o) := by
  unfold State.coolSilent; try dsimp only
  repeat' split
  all_goals first | done | simp (maxDischargeDepth := 60) [hK]

@[simp] theorem State.runonEnd_keeps {t0 : State} {s : State} (o : Fin 4) (hK : Keeps t0 s) :
    Keeps t0 (State.runonEnd s o) := by
  unfold State.runonEnd; try dsimp only
  repeat' split
  all_goals first | done | simp (maxDischargeDepth := 60) [hK]

@[simp] theorem State.runonTick_keeps {t0 : State} {s : State} (hK : Keeps t0 s) :
    Keeps t0 (State.runonTick s) := by
  unfold State.runonTick; try dsimp only
  repeat' split
  all_goals first | done | simp (maxDischargeDepth := 60) [hK]

@[simp] theorem State.coolHalt_keeps {t0 : State} {s : State} (hK : Keeps t0 s) :
    Keeps t0 (State.coolHalt s) := by
  unfold State.coolHalt; try dsimp only
  repeat' split
  all_goals first | done | simp (maxDischargeDepth := 60) [hK]

@[simp] theorem State.coolArrived_keeps {t0 : State} {s : State} (hK : Keeps t0 s) :
    Keeps t0 (State.coolArrived s) := by
  unfold State.coolArrived; try dsimp only
  repeat' split
  all_goals first | done | simp (maxDischargeDepth := 60) [hK]

@[simp] theorem State.enterCheck_keeps {t0 : State} {s : State} (o : Fin 4) (hK : Keeps t0 s) :
    Keeps t0 (State.enterCheck s o) := by
  unfold State.enterCheck; try dsimp only
  repeat' split
  all_goals first | done | simp (maxDischargeDepth := 60) [hK]

/-! ## Machine/Events.lean -/

@[simp] theorem State.levelNoted_keeps {t0 : State} {s : State} (before : Nat) (hK : Keeps t0 s) :
    Keeps t0 (State.levelNoted s before) := by
  unfold State.levelNoted; try dsimp only
  repeat' split
  all_goals first | done | simp (maxDischargeDepth := 60) [hK]

@[simp] theorem State.loseLocal_keeps {t0 : State} {s : State} (loss : Nat × Nat × Nat) (reason : Nat) (hK : Keeps t0 s) :
    Keeps t0 (State.loseLocal s loss reason) := by
  unfold State.loseLocal; try dsimp only
  repeat' split
  all_goals first | done | simp (maxDischargeDepth := 60) [hK]

@[simp] theorem State.setPool_keeps {t0 : State} {s : State} (l : List Packet) (hK : Keeps t0 s) :
    Keeps t0 (State.setPool s l) := by
  unfold State.setPool; try dsimp only
  repeat' split
  all_goals first | done | simp (maxDischargeDepth := 60) [hK]

@[simp] theorem State.countTraceLost_keeps {t0 : State} {s : State} (words : Nat) (hK : Keeps t0 s) :
    Keeps t0 (State.countTraceLost s words) := by
  unfold State.countTraceLost; try dsimp only
  repeat' split
  all_goals first | done | simp (maxDischargeDepth := 60) [hK]

@[simp] theorem State.displace_keeps {t0 : State} (f n : Nat) {s : State} (hK : Keeps t0 s) :
    Keeps t0 (State.displace f n s) := by
  induction f generalizing s with
  | zero => exact hK
  | succ f ih =>
    unfold State.displace
    repeat' split
    all_goals first | exact hK | exact ih (by simp (maxDischargeDepth := 60) [hK])

@[simp] theorem State.enqueue_keeps {t0 : State} {s : State} (p : Packet) (hK : Keeps t0 s) :
    Keeps t0 (State.enqueue s p) := by
  unfold State.enqueue; try dsimp only
  repeat' split
  all_goals first | done | simp (maxDischargeDepth := 60) [hK]

@[simp] theorem State.enqueuePen_keeps {t0 : State} {s : State} (p : Packet) (hK : Keeps t0 s) :
    Keeps t0 (State.enqueuePen s p) := by
  unfold State.enqueuePen; try dsimp only
  repeat' split
  all_goals first | done | simp (maxDischargeDepth := 60) [hK]

@[simp] theorem State.emitGap_keeps {t0 : State} {s : State} (hK : Keeps t0 s) :
    Keeps t0 (State.emitGap s) := by
  unfold State.emitGap; try dsimp only
  repeat' split
  all_goals first | done | simp (maxDischargeDepth := 60) [hK]

@[simp] theorem State.emitDeferred_keeps {t0 : State} (f : Nat) {s : State} (hK : Keeps t0 s) :
    Keeps t0 (State.emitDeferred f s) := by
  induction f generalizing s with
  | zero => unfold State.emitDeferred; simp [hK]
  | succ f ih =>
    unfold State.emitDeferred; dsimp only
    repeat' split
    all_goals first | exact hK | exact ih (by simp (maxDischargeDepth := 60) [hK]) | simp (maxDischargeDepth := 60) [hK]

@[simp] theorem State.levelFell_keeps {t0 : State} {s : State} (hK : Keeps t0 s) :
    Keeps t0 (State.levelFell s) := by
  unfold State.levelFell; try dsimp only
  repeat' split
  all_goals first | done | simp (maxDischargeDepth := 60) [hK]

@[simp] theorem State.emitRingDeferred_keeps {t0 : State} (f : Nat) {s : State} (hK : Keeps t0 s) :
    Keeps t0 (State.emitRingDeferred f s) := by
  induction f generalizing s with
  | zero => exact hK
  | succ f ih =>
    unfold State.emitRingDeferred
    repeat' split
    all_goals first | exact hK | exact ih (by simp (maxDischargeDepth := 60) [hK])

@[simp] theorem State.admitPen_keeps {t0 : State} {s : State} (p : Packet) (hK : Keeps t0 s) :
    Keeps t0 (State.admitPen s p) := by
  unfold State.admitPen; try dsimp only
  repeat' split
  all_goals first | done | simp (maxDischargeDepth := 60) [hK]

@[simp] theorem State.admitTrace_keeps {t0 : State} {s : State} (p : Packet) (hK : Keeps t0 s) :
    Keeps t0 (State.admitTrace s p) := by
  unfold State.admitTrace; try dsimp only
  repeat' split
  all_goals first | done | simp (maxDischargeDepth := 60) [hK]

@[simp] theorem State.packetWhole_keeps {t0 : State} {s : State} (hK : Keeps t0 s) :
    Keeps t0 (State.packetWhole s) := by
  unfold State.packetWhole; try dsimp only
  repeat' split
  all_goals first | done | simp (maxDischargeDepth := 60) [hK]

@[simp] theorem State.flushAll_keeps {t0 : State} {s : State} (reason : Nat) (hK : Keeps t0 s) :
    Keeps t0 (State.flushAll s reason).1 := by
  unfold State.flushAll; try dsimp only
  repeat' split
  all_goals first | done | simp (maxDischargeDepth := 60) [hK]

@[simp] theorem State.flushAtBoundary_keeps {t0 : State} {s : State} (hK : Keeps t0 s) :
    Keeps t0 (State.flushAtBoundary s) := by
  unfold State.flushAtBoundary; try dsimp only
  repeat' split
  all_goals first | done | simp (maxDischargeDepth := 60) [hK]

@[simp] theorem State.atBoundary_keeps {t0 : State} {s : State} (hK : Keeps t0 s) :
    Keeps t0 (State.atBoundary s) := by
  unfold State.atBoundary; try dsimp only
  repeat' split
  all_goals first | done | simp (maxDischargeDepth := 60) [hK]

@[simp] theorem State.underrun_keeps {t0 : State} {s : State} (hK : Keeps t0 s) :
    Keeps t0 (State.underrun s) := by
  unfold State.underrun; try dsimp only
  repeat' split
  all_goals first | done | simp (maxDischargeDepth := 60) [hK]

@[simp] theorem State.popWords_keeps {t0 : State} {s : State} (n : Nat) (hK : Keeps t0 s) :
    Keeps t0 (State.popWords s n) := by
  unfold State.popWords; try dsimp only
  repeat' split
  all_goals first | done | simp (maxDischargeDepth := 60) [hK]

@[simp] theorem State.readWord_keeps {t0 : State} {s : State} (src : Src) (hK : Keeps t0 s) :
    Keeps t0 (State.readWord s src).1 := by
  unfold State.readWord; try dsimp only
  repeat' split
  all_goals first | done | simp (maxDischargeDepth := 60) [hK]

@[simp] theorem State.readPacket_keeps {t0 : State} {s : State} (src : Src) (hK : Keeps t0 s) :
    Keeps t0 (State.readPacket s src).1 := by
  unfold State.readPacket; try dsimp only
  repeat' split
  all_goals first | done | simp (maxDischargeDepth := 60) [hK]

@[simp] theorem State.eqClear_keeps {t0 : State} {s : State} (v : Nat) (hK : Keeps t0 s) :
    Keeps t0 (State.eqClear s v) := by
  unfold State.eqClear; try dsimp only
  repeat' split
  all_goals first | done | simp (maxDischargeDepth := 60) [hK]

@[simp] theorem State.dropRest_keeps {t0 : State} {s : State} (hK : Keeps t0 s) :
    Keeps t0 (State.dropRest s) := by
  unfold State.dropRest; try dsimp only
  repeat' split
  all_goals first | done | simp (maxDischargeDepth := 60) [hK]

@[simp] theorem State.flush_keeps {t0 : State} {s : State} (hK : Keeps t0 s) :
    Keeps t0 (State.flush s) := by
  unfold State.flush; try dsimp only
  repeat' split
  all_goals first | done | simp (maxDischargeDepth := 60) [hK]

@[simp] theorem State.queueFlush_keeps {t0 : State} {s : State} (src : Src) (arg : Nat) (hK : Keeps t0 s) :
    Keeps t0 (State.queueFlush s src arg) := by
  unfold State.queueFlush; try dsimp only
  repeat' split
  all_goals first | done | simp (maxDischargeDepth := 60) [hK]

@[simp] theorem State.toTraceBox_keeps {t0 : State} {s : State} (p : Packet) (hK : Keeps t0 s) :
    Keeps t0 (State.toTraceBox s p) := by
  unfold State.toTraceBox; try dsimp only
  repeat' split
  all_goals first | done | simp (maxDischargeDepth := 60) [hK]

@[simp] theorem State.traceRecord_keeps {t0 : State} {s : State} (kind : Nat) (inst : Nat) (reference : Nat) (samples : List Nat) (hK : Keeps t0 s) :
    Keeps t0 (State.traceRecord s kind inst reference samples) := by
  unfold State.traceRecord; try dsimp only
  repeat' split
  all_goals first | done | simp (maxDischargeDepth := 60) [hK]

@[simp] theorem State.traceRaise_keeps {t0 : State} {s : State} (kind : Nat) (inst : Nat) (message : Nat) (length : Nat) (hK : Keeps t0 s) :
    Keeps t0 (State.traceRaise s kind inst message length) := by
  unfold State.traceRaise; try dsimp only
  repeat' split
  all_goals first | done | simp (maxDischargeDepth := 60) [hK]

@[simp] theorem State.coalWindowEnd_keeps {t0 : State} {s : State} (source : Nat) (event : Nat) (hK : Keeps t0 s) :
    Keeps t0 (State.coalWindowEnd s source event) := by
  unfold State.coalWindowEnd; try dsimp only
  repeat' split
  all_goals first | done | simp (maxDischargeDepth := 60) [hK]

@[simp] theorem State.gapDue_keeps {t0 : State} {s : State} (hK : Keeps t0 s) :
    Keeps t0 (State.gapDue s) := by
  unfold State.gapDue; try dsimp only
  repeat' split
  all_goals first | done | simp (maxDischargeDepth := 60) [hK]

@[simp] theorem State.tokenGain_keeps {t0 : State} {s : State} (hK : Keeps t0 s) :
    Keeps t0 (State.tokenGain s) := by
  unfold State.tokenGain; try dsimp only
  repeat' split
  all_goals first | done | simp (maxDischargeDepth := 60) [hK]

@[simp] theorem State.outboxSend_keeps {t0 : State} {s : State} (waitedMs : Nat) (hK : Keeps t0 s) :
    Keeps t0 (State.outboxSend s waitedMs) := by
  unfold State.outboxSend; try dsimp only
  repeat' split
  all_goals first | done | simp (maxDischargeDepth := 60) [hK]

@[simp] theorem State.traceSend_keeps {t0 : State} {s : State} (hK : Keeps t0 s) :
    Keeps t0 (State.traceSend s) := by
  unfold State.traceSend; try dsimp only
  repeat' split
  all_goals first | done | simp (maxDischargeDepth := 60) [hK]

@[simp] theorem State.remoteRecord_keeps {t0 : State} {s : State} (origin : Nat) (words : List Nat) (hK : Keeps t0 s) :
    Keeps t0 (State.remoteRecord s origin words) := by
  unfold State.remoteRecord; try dsimp only
  repeat' split
  all_goals first | done | simp (maxDischargeDepth := 60) [hK]

@[simp] theorem State.remotePennants_keeps {t0 : State} (n origin : Nat) (bs : List Byte) {s : State} (hK : Keeps t0 s) :
    Keeps t0 (State.remotePennants n origin bs s) := by
  induction n generalizing s bs with
  | zero => exact hK
  | succ f ih => exact ih _ (by simp (maxDischargeDepth := 60) [hK])

@[simp] theorem State.remoteTraces_keeps {t0 : State} (n origin : Nat) (bs : List Byte) {s : State} (hK : Keeps t0 s) :
    Keeps t0 (State.remoteTraces n origin bs s) := by
  induction n generalizing s bs with
  | zero => exact hK
  | succ f ih =>
    unfold State.remoteTraces
    split
    · exact hK
    · exact ih _ (by simp (maxDischargeDepth := 60) [hK])

@[simp] theorem State.eventsCommitted_keeps {t0 : State} {s : State} (oldMode : Nat) (hK : Keeps t0 s) :
    Keeps t0 (State.eventsCommitted s oldMode) := by
  unfold State.eventsCommitted; try dsimp only
  repeat' split
  all_goals first | done | simp (maxDischargeDepth := 60) [hK]

/-! ## Machine/Ring.lean -/

@[simp] theorem State.withRing_keeps {t0 : State} {s : State} (r : RingState) (hK : Keeps t0 s) :
    Keeps t0 (State.withRing s r) := by
  unfold State.withRing; try dsimp only
  repeat' split
  all_goals first | done | simp (maxDischargeDepth := 60) [hK]

@[simp] theorem State.refreshRoster_keeps {t0 : State} {s : State} (hK : Keeps t0 s) :
    Keeps t0 (State.refreshRoster s) := by
  unfold State.refreshRoster; try dsimp only
  repeat' split
  all_goals first | done | simp (maxDischargeDepth := 60) [hK]

@[simp] theorem State.becomeMember_keeps {t0 : State} {s : State} (hK : Keeps t0 s) :
    Keeps t0 (State.becomeMember s) := by
  unfold State.becomeMember; try dsimp only
  repeat' split
  all_goals first | done | simp (maxDischargeDepth := 60) [hK]

@[simp] theorem State.dropOwn_keeps {t0 : State} {s : State} (hK : Keeps t0 s) :
    Keeps t0 (State.dropOwn s) := by
  unfold State.dropOwn; try dsimp only
  repeat' split
  all_goals first | done | simp (maxDischargeDepth := 60) [hK]

@[simp] theorem State.learnRemoved_keeps {t0 : State} {s : State} (hK : Keeps t0 s) :
    Keeps t0 (State.learnRemoved s) := by
  unfold State.learnRemoved; try dsimp only
  repeat' split
  all_goals first | done | simp (maxDischargeDepth := 60) [hK]

@[simp] theorem State.applyChange_keeps {t0 : State} {s : State} (c : Change) (hK : Keeps t0 s) :
    Keeps t0 (State.applyChange s c) := by
  unfold State.applyChange; try dsimp only
  repeat' split
  all_goals first | done | simp (maxDischargeDepth := 60) [hK]

@[simp] theorem State.applyChanges_keeps {t0 : State} {s : State} (hK : Keeps t0 s) :
    Keeps t0 (State.applyChanges s) := by
  unfold State.applyChanges; try dsimp only
  repeat' split
  all_goals first | done | simp (maxDischargeDepth := 60) [hK]

@[simp] theorem State.refused_keeps {t0 : State} {s : State} (c : Change) (hK : Keeps t0 s) :
    Keeps t0 (State.refused s c) := by
  unfold State.refused; try dsimp only
  repeat' split
  all_goals first | done | simp (maxDischargeDepth := 60) [hK]

@[simp] theorem State.noteChanges_keeps {t0 : State} {s : State} (cs : List Change) (hK : Keeps t0 s) :
    Keeps t0 (State.noteChanges s cs) := by
  unfold State.noteChanges; try dsimp only
  repeat' split
  all_goals first | done | simp (maxDischargeDepth := 60) [hK]

@[simp] theorem State.openWindow_keeps {t0 : State} {s : State} (hK : Keeps t0 s) :
    Keeps t0 (State.openWindow s) := by
  unfold State.openWindow; try dsimp only
  repeat' split
  all_goals first | done | simp (maxDischargeDepth := 60) [hK]

@[simp] theorem State.noteJoining_keeps {t0 : State} {s : State} (hK : Keeps t0 s) :
    Keeps t0 (State.noteJoining s) := by
  unfold State.noteJoining; try dsimp only
  repeat' split
  all_goals first | done | simp (maxDischargeDepth := 60) [hK]

@[simp] theorem State.notePeriod_keeps {t0 : State} {s : State} (period : Nat) (hK : Keeps t0 s) :
    Keeps t0 (State.notePeriod s period) := by
  unfold State.notePeriod; try dsimp only
  repeat' split
  all_goals first | done | simp (maxDischargeDepth := 60) [hK]

@[simp] theorem State.ownMark_keeps {t0 : State} {s : State} (r : Fin 2) (m : Mark) (hK : Keeps t0 s) :
    Keeps t0 (State.ownMark s r m) := by
  unfold State.ownMark; try dsimp only
  repeat' split
  all_goals first | done | simp (maxDischargeDepth := 60) [hK]

@[simp] theorem State.loseCold_keeps {t0 : State} {s : State} (hK : Keeps t0 s) :
    Keeps t0 (State.loseCold s) := by
  unfold State.loseCold; try dsimp only
  repeat' split
  all_goals first | done | simp (maxDischargeDepth := 60) [hK]

@[simp] theorem State.takeLauncher_keeps {t0 : State} {s : State} (m : Mark) (hK : Keeps t0 s) :
    Keeps t0 (State.takeLauncher s m) := by
  unfold State.takeLauncher; try dsimp only
  repeat' split
  all_goals first | done | simp (maxDischargeDepth := 60) [hK]

@[simp] theorem State.takeMark_keeps {t0 : State} {s : State} (r : Fin 2) (m : Mark) (hK : Keeps t0 s) :
    Keeps t0 (State.takeMark s r m) := by
  unfold State.takeMark; try dsimp only
  repeat' split
  all_goals first | done | simp (maxDischargeDepth := 60) [hK]

@[simp] theorem State.epochMark_keeps {t0 : State} {s : State} (r : Fin 2) (m : Mark) (hK : Keeps t0 s) :
    Keeps t0 (State.epochMark s r m) := by
  unfold State.epochMark; try dsimp only
  repeat' split
  all_goals first | done | simp (maxDischargeDepth := 60) [hK]

@[simp] theorem State.launch_keeps {t0 : State} {s : State} (succession : Bool) (hK : Keeps t0 s) :
    Keeps t0 (State.launch s succession) := by
  unfold State.launch; try dsimp only
  repeat' split
  all_goals first | done | simp (maxDischargeDepth := 60) [hK]

@[simp] theorem State.coldMember_keeps {t0 : State} {s : State} (hK : Keeps t0 s) :
    Keeps t0 (State.coldMember s) := by
  unfold State.coldMember; try dsimp only
  repeat' split
  all_goals first | done | simp (maxDischargeDepth := 60) [hK]

@[simp] theorem State.stopLaunching_keeps {t0 : State} {s : State} (hK : Keeps t0 s) :
    Keeps t0 (State.stopLaunching s) := by
  unfold State.stopLaunching; try dsimp only
  repeat' split
  all_goals first | done | simp (maxDischargeDepth := 60) [hK]

@[simp] theorem State.takeFrame_keeps {t0 : State} {s : State} (f : Frame) (act : State → State) (hK : Keeps t0 s) (hact : ∀ x, Keeps x (act x)) :
    Keeps t0 (State.takeFrame s f act) := by
  unfold State.takeFrame
  refine Keeps.ite _ hK ?_
  dsimp only
  refine Keeps.ite _ (by simp (maxDischargeDepth := 60) [hK]) ?_
  exact Keeps.trans (by simp (maxDischargeDepth := 60) [hK]) (hact _)

@[simp] theorem State.orderIn_keeps {t0 : State} {s : State} (src : Src) (rq : Request) (hK : Keeps t0 s) :
    Keeps t0 (State.orderIn s src rq) := by
  unfold State.orderIn; try dsimp only
  repeat' split
  all_goals first | done | simp (maxDischargeDepth := 60) [hK]

@[simp] theorem State.frameRequest_keeps {t0 : State} {s : State} (f : Frame) (hK : Keeps t0 s) :
    Keeps t0 (State.frameRequest s f) := by
  unfold State.frameRequest; try dsimp only
  repeat' split
  all_goals first | done | simp (maxDischargeDepth := 60) [hK]

@[simp] theorem State.framePennants_keeps {t0 : State} {s : State} (f : Frame) (hK : Keeps t0 s) :
    Keeps t0 (State.framePennants s f) := by
  unfold State.framePennants; try dsimp only
  repeat' split
  all_goals first | done | simp (maxDischargeDepth := 60) [hK]

@[simp] theorem State.frameTraces_keeps {t0 : State} {s : State} (f : Frame) (hK : Keeps t0 s) :
    Keeps t0 (State.frameTraces s f) := by
  unfold State.frameTraces; try dsimp only
  repeat' split
  all_goals first | done | simp (maxDischargeDepth := 60) [hK]

@[simp] theorem State.frameFirmware_keeps {t0 : State} {s : State} (f : Frame) (hK : Keeps t0 s) :
    Keeps t0 (State.frameFirmware s f) := by
  unfold State.frameFirmware; try dsimp only
  repeat' split
  all_goals first | done | simp (maxDischargeDepth := 60) [hK]

@[simp] theorem State.place_keeps {t0 : State} {s : State} (c : Change) (hK : Keeps t0 s) :
    Keeps t0 (State.place s c) := by
  unfold State.place; try dsimp only
  repeat' split
  all_goals first | done | simp (maxDischargeDepth := 60) [hK]

@[simp] theorem State.sendRoster_keeps {t0 : State} (f addr : Nat) (bs : List Byte) {s : State} (hK : Keeps t0 s) :
    Keeps t0 (State.sendRoster f addr bs s) := by
  induction f generalizing s bs with
  | zero => exact hK
  | succ f ih =>
    unfold State.sendRoster
    split
    · simp (maxDischargeDepth := 60) [hK]
    · exact ih _ (by simp (maxDischargeDepth := 60) [hK])

@[simp] theorem State.admitJoin_keeps {t0 : State} {s : State} (addr : Nat) (tag : Nat) (hK : Keeps t0 s) :
    Keeps t0 (State.admitJoin s addr tag) := by
  unfold State.admitJoin; dsimp only
  repeat' split
  all_goals simp (maxDischargeDepth := 60) [hK]

@[simp] theorem State.joinFrame_keeps {t0 : State} {s : State} (f : Frame) (hK : Keeps t0 s) :
    Keeps t0 (State.joinFrame s f) := by
  unfold State.joinFrame; try dsimp only
  repeat' split
  all_goals first | done | simp (maxDischargeDepth := 60) [hK]

@[simp] theorem State.sendJoin_keeps {t0 : State} {s : State} (hK : Keeps t0 s) :
    Keeps t0 (State.sendJoin s) := by
  unfold State.sendJoin; try dsimp only
  repeat' split
  all_goals first | done | simp (maxDischargeDepth := 60) [hK]

@[simp] theorem State.placeSuccessor_keeps {t0 : State} {s : State} (hK : Keeps t0 s) :
    Keeps t0 (State.placeSuccessor s) := by
  unfold State.placeSuccessor; try dsimp only
  repeat' split
  all_goals first | done | simp (maxDischargeDepth := 60) [hK]

@[simp] theorem State.sendLeave_keeps {t0 : State} {s : State} (hK : Keeps t0 s) :
    Keeps t0 (State.sendLeave s) := by
  unfold State.sendLeave; try dsimp only
  repeat' split
  all_goals first | done | simp (maxDischargeDepth := 60) [hK]

@[simp] theorem State.leaveFrame_keeps {t0 : State} {s : State} (f : Frame) (hK : Keeps t0 s) :
    Keeps t0 (State.leaveFrame s f) := by
  unfold State.leaveFrame
  refine Keeps.ite _ hK (State.takeFrame_keeps _ _ hK fun x => ?_)
  split <;> simp

@[simp] theorem State.rosterFrame_keeps {t0 : State} {s : State} (f : Frame) (hK : Keeps t0 s) :
    Keeps t0 (State.rosterFrame s f) := by
  unfold State.rosterFrame; try dsimp only
  repeat' split
  all_goals first | done | simp (maxDischargeDepth := 60) [hK]

@[simp] theorem State.noteReport_keeps {t0 : State} {s : State} (src : Nat) (ring : Nat) (old : Nat) (new : Nat) (hK : Keeps t0 s) :
    Keeps t0 (State.noteReport s src ring old new) := by
  unfold State.noteReport; try dsimp only
  repeat' split
  all_goals first | done | simp (maxDischargeDepth := 60) [hK]

@[simp] theorem State.neighbourFrame_keeps {t0 : State} {s : State} (f : Frame) (hK : Keeps t0 s) :
    Keeps t0 (State.neighbourFrame s f) := by
  unfold State.neighbourFrame
  refine Keeps.ite _ hK (State.takeFrame_keeps _ _ hK fun x => ?_)
  simp (maxDischargeDepth := 60)

@[simp] theorem State.placeEvict_keeps {t0 : State} {s : State} (addr : Nat) (hK : Keeps t0 s) :
    Keeps t0 (State.placeEvict s addr) := by
  unfold State.placeEvict; try dsimp only
  repeat' split
  all_goals first | done | simp (maxDischargeDepth := 60) [hK]

@[simp] theorem State.evictFrame_keeps {t0 : State} {s : State} (f : Frame) (hK : Keeps t0 s) :
    Keeps t0 (State.evictFrame s f) := by
  unfold State.evictFrame; try dsimp only
  repeat' split
  all_goals first | done | simp (maxDischargeDepth := 60) [hK]

@[simp] theorem State.rosterEvictEffect_keeps {t0 : State} {s : State} (v : Nat) (hK : Keeps t0 s) :
    Keeps t0 (State.rosterEvictEffect s v) := by
  unfold State.rosterEvictEffect; try dsimp only
  repeat' split
  all_goals first | done | simp (maxDischargeDepth := 60) [hK]

@[simp] theorem State.tellNeighbour_keeps {t0 : State} {s : State} (r : Fin 2) (old : Nat) (new : Nat) (hK : Keeps t0 s) :
    Keeps t0 (State.tellNeighbour s r old new) := by
  unfold State.tellNeighbour; try dsimp only
  repeat' split
  all_goals first | done | simp (maxDischargeDepth := 60) [hK]

@[simp] theorem State.driveByp_keeps {t0 : State} {s : State} (on : Bool) (hK : Keeps t0 s) :
    Keeps t0 (State.driveByp s on) := by
  unfold State.driveByp; try dsimp only
  repeat' split
  all_goals first | done | simp (maxDischargeDepth := 60) [hK]

@[simp] theorem State.bypReleaseEffect_keeps {t0 : State} {s : State} (hK : Keeps t0 s) :
    Keeps t0 (State.bypReleaseEffect s) := by
  unfold State.bypReleaseEffect; try dsimp only
  repeat' split
  all_goals first | done | simp (maxDischargeDepth := 60) [hK]

@[simp] theorem State.bypHoldEffect_keeps {t0 : State} {s : State} (hK : Keeps t0 s) :
    Keeps t0 (State.bypHoldEffect s) := by
  unfold State.bypHoldEffect; try dsimp only
  repeat' split
  all_goals first | done | simp (maxDischargeDepth := 60) [hK]

@[simp] theorem State.emitSlot_keeps {t0 : State} {s : State} (r : Fin 2) (delim : Delim) (chars : List Byte) (hK : Keeps t0 s) :
    Keeps t0 (State.emitSlot s r delim chars) := by
  unfold State.emitSlot; try dsimp only
  repeat' split
  all_goals first | done | simp (maxDischargeDepth := 60) [hK]

@[simp] theorem State.blockLeft_keeps {t0 : State} {s : State} (r : Fin 2) (hK : Keeps t0 s) :
    Keeps t0 (State.blockLeft s r) := by
  unfold State.blockLeft; try dsimp only
  repeat' split
  all_goals first | done | simp (maxDischargeDepth := 60) [hK]

@[simp] theorem State.fillEmpty_keeps {t0 : State} {s : State} (r : Fin 2) (chars : List Byte) (hK : Keeps t0 s) :
    Keeps t0 (State.fillEmpty s r chars) := by
  unfold State.fillEmpty; try dsimp only
  repeat' split
  all_goals first | done | simp (maxDischargeDepth := 60) [hK]

@[simp] theorem State.output_keeps {t0 : State} {s : State} (r : Fin 2) (delim : Delim) (chars : List Byte) (hK : Keeps t0 s) :
    Keeps t0 (State.output s r delim chars) := by
  unfold State.output; try dsimp only
  repeat' split
  all_goals first | done | simp (maxDischargeDepth := 60) [hK]

@[simp] theorem State.goOn_keeps {t0 : State} {s : State} (r : Fin 2) (delim : Delim) (chars : List Byte) (hK : Keeps t0 s) :
    Keeps t0 (State.goOn s r delim chars) := by
  unfold State.goOn; try dsimp only
  repeat' split
  all_goals first | done | simp (maxDischargeDepth := 60) [hK]

@[simp] theorem State.originate_keeps {t0 : State} {s : State} (r : Fin 2) (delim : Delim) (hK : Keeps t0 s) :
    Keeps t0 (State.originate s r delim).1 := by
  unfold State.originate; try dsimp only
  repeat' split
  all_goals first | done | simp (maxDischargeDepth := 60) [hK]

@[simp] theorem State.goEmpty_keeps {t0 : State} {s : State} (r : Fin 2) (hK : Keeps t0 s) :
    Keeps t0 (State.goEmpty s r) := by
  unfold State.goEmpty; try dsimp only
  repeat' split
  all_goals first | done | simp (maxDischargeDepth := 60) [hK]

@[simp] theorem State.strip_keeps {t0 : State} {s : State} (r : Fin 2) (typ : Nat) (hK : Keeps t0 s) :
    Keeps t0 (State.strip s r typ) := by
  unfold State.strip; try dsimp only
  repeat' split
  all_goals first | done | simp (maxDischargeDepth := 60) [hK]

@[simp] theorem State.markOn_keeps {t0 : State} {s : State} (r : Fin 2) (chars : List Byte) (hK : Keeps t0 s) :
    Keeps t0 (State.markOn s r chars) := by
  unfold State.markOn; try dsimp only
  repeat' split
  all_goals first | done | simp (maxDischargeDepth := 60) [hK]

@[simp] theorem State.markIn_keeps {t0 : State} {s : State} (r : Fin 2) (m : Mark) (chars : List Byte) (hK : Keeps t0 s) :
    Keeps t0 (State.markIn s r m chars) := by
  unfold State.markIn; try dsimp only
  repeat' split
  all_goals first | done | simp (maxDischargeDepth := 60) [hK]

@[simp] theorem State.closeIn_keeps {t0 : State} {s : State} (r : Fin 2) (chars : List Byte) (ns : Nat) (hK : Keeps t0 s) :
    Keeps t0 (State.closeIn s r chars ns) := by
  unfold State.closeIn; try dsimp only
  repeat' split
  all_goals first | done | simp (maxDischargeDepth := 60) [hK]

@[simp] theorem State.ensignItem_keeps {t0 : State} {s : State} (r : Fin 2) (src : Nat) (p : List Byte) (hK : Keeps t0 s) :
    Keeps t0 (State.ensignItem s r src p) := by
  unfold State.ensignItem; try dsimp only
  repeat' split
  all_goals first | done | simp (maxDischargeDepth := 60) [hK]

@[simp] theorem State.deliverFrame_keeps {t0 : State} {s : State} (content : Nat) (f : Frame) (hK : Keeps t0 s) :
    Keeps t0 (State.deliverFrame s content f) := by
  unfold State.deliverFrame; try dsimp only
  repeat' split
  all_goals first | done | simp (maxDischargeDepth := 60) [hK]

@[simp] theorem State.frameSlot_keeps {t0 : State} {s : State} (r : Nat) (src : Nat) (typ : Nat) (first : Bool) (last : Bool) (p : List Byte) (hK : Keeps t0 s) :
    Keeps t0 (State.frameSlot s r src typ first last p).1 := by
  unfold State.frameSlot; try dsimp only
  repeat' split
  all_goals first | done | simp (maxDischargeDepth := 60) [hK]

@[simp] theorem State.foreign_keeps {t0 : State} {s : State} (src : Nat) (hK : Keeps t0 s) :
    Keeps t0 (State.foreign s src) := by
  unfold State.foreign; try dsimp only
  repeat' split
  all_goals first | done | simp (maxDischargeDepth := 60) [hK]

@[simp] theorem State.fullSlot_keeps {t0 : State} {s : State} (r : Fin 2) (chars : List Byte) (ns : Nat) (hK : Keeps t0 s) :
    Keeps t0 (State.fullSlot s r chars ns) := by
  unfold State.fullSlot; try dsimp only
  repeat' split
  all_goals first | done | simp (maxDischargeDepth := 60) [hK]

@[simp] theorem State.noteNeighbour_keeps {t0 : State} {s : State} (r : Fin 2) (a : Nat) (hK : Keeps t0 s) :
    Keeps t0 (State.noteNeighbour s r a) := by
  unfold State.noteNeighbour; try dsimp only
  repeat' split
  all_goals first | done | simp (maxDischargeDepth := 60) [hK]

@[simp] theorem State.slotIn_keeps {t0 : State} {s : State} (r : Fin 2) (delim : Delim) (chars : List Byte) (ns : Nat) (hK : Keeps t0 s) :
    Keeps t0 (State.slotIn s r delim chars ns) := by
  unfold State.slotIn; try dsimp only
  repeat' split
  all_goals first | done | simp (maxDischargeDepth := 60) [hK]

@[simp] theorem State.passOn_keeps {t0 : State} {s : State} (r : Fin 2) (delim : Delim) (chars : List Byte) (hK : Keeps t0 s) :
    Keeps t0 (State.passOn s r delim chars) := by
  unfold State.passOn; try dsimp only
  repeat' split
  all_goals first | done | simp (maxDischargeDepth := 60) [hK]

@[simp] theorem State.slotInReset_keeps {t0 : State} {s : State} (r : Fin 2) (delim : Delim) (chars : List Byte) (hK : Keeps t0 s) :
    Keeps t0 (State.slotInReset s r delim chars) := by
  unfold State.slotInReset; try dsimp only
  repeat' split
  all_goals first | done | simp (maxDischargeDepth := 60) [hK]

@[simp] theorem State.ringTick_keeps {t0 : State} {s : State} (hK : Keeps t0 s) :
    Keeps t0 (State.ringTick s) := by
  unfold State.ringTick; try dsimp only
  repeat' split
  all_goals first | done | simp (maxDischargeDepth := 60) [hK]

@[simp] theorem State.releaseItem_keeps {t0 : State} {s : State} (r : Fin 2) (hK : Keeps t0 s) :
    Keeps t0 (State.releaseItem s r) := by
  unfold State.releaseItem; try dsimp only
  repeat' split
  all_goals first | done | simp (maxDischargeDepth := 60) [hK]

@[simp] theorem State.sendLoss_keeps {t0 : State} {s : State} (g : Fin 4) (legs : Nat) (hK : Keeps t0 s) :
    Keeps t0 (State.sendLoss s g legs) := by
  unfold State.sendLoss; try dsimp only
  repeat' split
  all_goals first | done | simp (maxDischargeDepth := 60) [hK]

/-! ## Machine/Burgee.lean -/

@[simp] theorem State.withPair_keeps {t0 : State} {s : State} (p : PairState) (hK : Keeps t0 s) :
    Keeps t0 (State.withPair s p) := by
  unfold State.withPair; try dsimp only
  repeat' split
  all_goals first | done | simp (maxDischargeDepth := 60) [hK]

@[simp] theorem State.sendToken_keeps {t0 : State} {s : State} (kind : Nat) (rehearsal : Bool) (hK : Keeps t0 s) :
    Keeps t0 (State.sendToken s kind rehearsal) := by
  unfold State.sendToken; try dsimp only
  repeat' split
  all_goals first | done | simp (maxDischargeDepth := 60) [hK]

@[simp] theorem State.orderlyRelease_keeps {t0 : State} {s : State} (rehearsal : Bool) (hK : Keeps t0 s) :
    Keeps t0 (State.orderlyRelease s rehearsal) := by
  unfold State.orderlyRelease; try dsimp only
  repeat' split
  all_goals first | done | simp (maxDischargeDepth := 60) [hK]

@[simp] theorem State.setShadow_keeps {t0 : State} {s : State} (on : Bool) (hK : Keeps t0 s) :
    Keeps t0 (State.setShadow s on) := by
  unfold State.setShadow; try dsimp only
  repeat' split
  all_goals first | done | simp (maxDischargeDepth := 60) [hK]

@[simp] theorem State.burgeeFollows_keeps {t0 : State} {s : State} (hK : Keeps t0 s) :
    Keeps t0 (State.burgeeFollows s) := by
  unfold State.burgeeFollows; try dsimp only
  repeat' split
  all_goals first | done | simp (maxDischargeDepth := 60) [hK]

/-! ## Machine/Metrology.lean -/

@[simp] theorem State.power_pW_keeps {t0 : State} {s : State} (c : Fin 4) (v : Int) (i : Int) (hK : Keeps t0 s) :
    Keeps t0 (State.power_pW s c v i).1 := by
  unfold State.power_pW; try dsimp only
  repeat' split
  all_goals first | done | simp (maxDischargeDepth := 60) [hK]

@[simp] theorem State.integrate_keeps {t0 : State} {s : State} (c : Fin 4) (p : Int) (hK : Keeps t0 s) :
    Keeps t0 (State.integrate s c p) := by
  unfold State.integrate; try dsimp only
  repeat' split
  all_goals first | done | simp (maxDischargeDepth := 60) [hK]

@[simp] theorem State.noteOver_keeps {t0 : State} {s : State} (c : Fin 4) (ovr : Bool) (hK : Keeps t0 s) :
    Keeps t0 (State.noteOver s c ovr) := by
  unfold State.noteOver; try dsimp only
  repeat' split
  all_goals first | done | simp (maxDischargeDepth := 60) [hK]

@[simp] theorem State.noteStreams_keeps {t0 : State} {s : State} (c : Fin 4) (v : Nat) (i : Nat) (hK : Keeps t0 s) :
    Keeps t0 (State.noteStreams s c v i) := by
  unfold State.noteStreams; try dsimp only
  repeat' split
  all_goals first | done | simp (maxDischargeDepth := 60) [hK]

@[simp] theorem State.sample_keeps {t0 : State} {s : State} (c : Fin 4) (v : Nat) (i : Nat) (hK : Keeps t0 s) :
    Keeps t0 (State.sample s c v i) := by
  unfold State.sample; try dsimp only
  repeat' split
  all_goals first | done | simp (maxDischargeDepth := 60) [hK]

@[simp] theorem State.publish_keeps {t0 : State} {s : State} (c : Fin 4) (hK : Keeps t0 s) :
    Keeps t0 (State.publish s c) := by
  unfold State.publish; try dsimp only
  repeat' split
  all_goals first | done | simp (maxDischargeDepth := 60) [hK]

@[simp] theorem State.calCapture_keeps {t0 : State} {s : State} (arg : Nat) (hK : Keeps t0 s) :
    Keeps t0 (State.calCapture s arg) := by
  unfold State.calCapture; try dsimp only
  repeat' split
  all_goals first | done | simp (maxDischargeDepth := 60) [hK]

@[simp] theorem State.captureFault_keeps {t0 : State} {s : State} (c : Fin 4) (hK : Keeps t0 s) :
    Keeps t0 (State.captureFault s c) := by
  unfold State.captureFault; try dsimp only
  repeat' split
  all_goals first | done | simp (maxDischargeDepth := 60) [hK]

@[simp] theorem State.meterFenced_keeps {t0 : State} {s : State} (e : Fin 2) (hK : Keeps t0 s) :
    Keeps t0 (State.meterFenced s e) := by
  unfold State.meterFenced; try dsimp only
  repeat' split
  all_goals first | done | simp (maxDischargeDepth := 60) [hK]

/-! ## Machine/Modes.lean -/

@[simp] theorem State.phasesArrived_keeps {t0 : State} {s : State} (hK : Keeps t0 s) :
    Keeps t0 (State.phasesArrived s) := by
  unfold State.phasesArrived; try dsimp only
  repeat' split
  all_goals first | done | simp (maxDischargeDepth := 60) [hK]

@[simp] theorem State.metrologyArrived_keeps {t0 : State} {s : State} (was : Beh) (hK : Keeps t0 s) :
    Keeps t0 (State.metrologyArrived s was) := by
  unfold State.metrologyArrived; try dsimp only
  repeat' split
  all_goals first | done | simp (maxDischargeDepth := 60) [hK]

@[simp] theorem State.resumeMeter_keeps {t0 : State} {s : State} (hK : Keeps t0 s) :
    Keeps t0 (State.resumeMeter s) := by
  unfold State.resumeMeter; try dsimp only
  repeat' split
  all_goals first | done | simp (maxDischargeDepth := 60) [hK]

@[simp] theorem State.enginesArrived_keeps {t0 : State} {s : State} (hK : Keeps t0 s) :
    Keeps t0 (State.enginesArrived s) := by
  unfold State.enginesArrived; try dsimp only
  repeat' split
  all_goals first | done | simp (maxDischargeDepth := 60) [hK]

@[simp] theorem State.classArrived_keeps {t0 : State} {s : State} (c : Fin 8) (hK : Keeps t0 s) :
    Keeps t0 (State.classArrived s c) := by
  unfold State.classArrived; try dsimp only
  repeat' split
  all_goals first | done | simp (maxDischargeDepth := 60) [hK]

@[simp] theorem State.classesTurn_keeps {t0 : State} {s : State} (hK : Keeps t0 s) :
    Keeps t0 (State.classesTurn s) := by
  unfold State.classesTurn; try dsimp only
  repeat' split
  all_goals first | done | simp (maxDischargeDepth := 60) [hK]

@[simp] theorem State.bistLimp_keeps {t0 : State} {s : State} (hK : Keeps t0 s) :
    Keeps t0 (State.bistLimp s) := by
  unfold State.bistLimp; try dsimp only
  repeat' split
  all_goals first | done | simp (maxDischargeDepth := 60) [hK]

/-! ## Machine/Pair.lean -/

@[simp] theorem State.paired_keeps {t0 : State} {s : State} (f : State → State) (hK : Keeps t0 s) (hf : ∀ x, Keeps x (f x)) :
    Keeps t0 (State.paired s f) := by
  unfold State.paired; try dsimp only
  repeat' split
  all_goals first | done | simp (maxDischargeDepth := 60) [hK, hf]

@[simp] theorem State.noteToken_keeps {t0 : State} {s : State} (t : Token) (hK : Keeps t0 s) :
    Keeps t0 (State.noteToken s t) := by
  unfold State.noteToken; try dsimp only
  repeat' split
  all_goals first | done | simp (maxDischargeDepth := 60) [hK]

@[simp] theorem State.rehearsed_keeps {t0 : State} {s : State} (us : Nat) (hK : Keeps t0 s) :
    Keeps t0 (State.rehearsed s us) := by
  unfold State.rehearsed; try dsimp only
  repeat' split
  all_goals first | done | simp (maxDischargeDepth := 60) [hK]

@[simp] theorem State.compareSession_keeps {t0 : State} {s : State} (c : Fin 4) (hK : Keeps t0 s) :
    Keeps t0 (State.compareSession s c) := by
  unfold State.compareSession; try dsimp only
  repeat' split
  all_goals first | done | simp (maxDischargeDepth := 60) [hK]

theorem objWf_journalInto (regs : List (Nat × Val)) {l : List (Nat × Val)} (h : objWf l = true) :
    objWf (journalInto l regs) = true := objWf_puts _ (objWf_filter _ h)

@[simp] theorem State.takeJournal_keeps {t0 : State} {s : State} (regs : List (Nat × Val)) (accts : List (Nat × AcctImage)) (hK : Keeps t0 s) :
    Keeps t0 (State.takeJournal s regs accts) := by
  unfold State.takeJournal; dsimp only
  repeat' split
  all_goals simp (maxDischargeDepth := 60) (contextual := true) [hK, objWf_journalInto]

@[simp] theorem State.takeGrants_keeps {t0 : State} {s : State} (epoch : Nat) (ports : List Int) (groups : List Int) (crc : Nat) (hK : Keeps t0 s) :
    Keeps t0 (State.takeGrants s epoch ports groups crc) := by
  unfold State.takeGrants; try dsimp only
  repeat' split
  all_goals first | done | simp (maxDischargeDepth := 60) [hK]

@[simp] theorem State.takeItem_keeps {t0 : State} {s : State} (it : MirrorItem) (hK : Keeps t0 s) :
    Keeps t0 (State.takeItem s it) := by
  unfold State.takeItem; try dsimp only
  repeat' split
  all_goals first | done | simp (maxDischargeDepth := 60) [hK]

@[simp] theorem State.mirrorAll_keeps {t0 : State} {s : State} (hK : Keeps t0 s) :
    Keeps t0 (State.mirrorAll s) := by
  unfold State.mirrorAll; try dsimp only
  repeat' split
  all_goals first | done | simp (maxDischargeDepth := 60) [hK]

@[simp] theorem State.handover_keeps {t0 : State} {s : State} (hK : Keeps t0 s) :
    Keeps t0 (State.handover s) := by
  unfold State.handover; try dsimp only
  repeat' split
  all_goals first | done | simp (maxDischargeDepth := 60) [hK]

@[simp] theorem State.adoptLoop_keeps {t0 : State} {s : State} (e : Fin 38) (hK : Keeps t0 s) :
    Keeps t0 (State.adoptLoop s e) := by
  unfold State.adoptLoop; try dsimp only
  repeat' split
  all_goals first | done | simp (maxDischargeDepth := 60) [hK]

@[simp] theorem State.adoptRoute_keeps {t0 : State} {s : State} (g : Fin 4) (hK : Keeps t0 s) :
    Keeps t0 (State.adoptRoute s g) := by
  unfold State.adoptRoute; try dsimp only
  repeat' split
  all_goals first | done | simp (maxDischargeDepth := 60) [hK]

@[simp] theorem State.adoptGrants_keeps {t0 : State} {s : State} (hK : Keeps t0 s) :
    Keeps t0 (State.adoptGrants s) := by
  unfold State.adoptGrants; try dsimp only
  repeat' split
  all_goals first | done | simp (maxDischargeDepth := 60) [hK]

@[simp] theorem State.adoptRegisters_keeps {t0 : State} {s : State} (c : Fin 4) (hK : Keeps t0 s) :
    Keeps t0 (State.adoptRegisters s c) := by
  unfold State.adoptRegisters; try dsimp only
  repeat' split
  all_goals first | done | simp (maxDischargeDepth := 60) [hK]

@[simp] theorem State.adoptIdent_keeps {t0 : State} {s : State} (o : Fin 4) (hK : Keeps t0 s) :
    Keeps t0 (State.adoptIdent s o) := by
  unfold State.adoptIdent; try dsimp only
  repeat' split
  all_goals first | done | simp (maxDischargeDepth := 60) [hK]

@[simp] theorem State.adoptSession_keeps {t0 : State} {s : State} (o : Fin 4) (hK : Keeps t0 s) :
    Keeps t0 (State.adoptSession s o) := by
  unfold State.adoptSession; try dsimp only
  repeat' split
  all_goals first | done | simp (maxDischargeDepth := 60) [hK]

@[simp] theorem State.takeBurgee_keeps {t0 : State} {s : State} (gap : Nat) (hK : Keeps t0 s) :
    Keeps t0 (State.takeBurgee s gap) := by
  unfold State.takeBurgee; try dsimp only
  repeat' split
  all_goals first | done | simp (maxDischargeDepth := 60) [hK]

@[simp] theorem State.rehearsal_keeps {t0 : State} {s : State} (hK : Keeps t0 s) :
    Keeps t0 (State.rehearsal s) := by
  unfold State.rehearsal; try dsimp only
  repeat' split
  all_goals first | done | simp (maxDischargeDepth := 60) [hK]

@[simp] theorem State.abortRehearsal_keeps {t0 : State} {s : State} (hK : Keeps t0 s) :
    Keeps t0 (State.abortRehearsal s) := by
  unfold State.abortRehearsal; try dsimp only
  repeat' split
  all_goals first | done | simp (maxDischargeDepth := 60) [hK]

@[simp] theorem State.pairCommitted_keeps {t0 : State} {s : State} (old : Nat) (hK : Keeps t0 s) :
    Keeps t0 (State.pairCommitted s old) := by
  unfold State.pairCommitted; try dsimp only
  repeat' split
  all_goals first | done | simp (maxDischargeDepth := 60) [hK]

/-! ## Machine/Voner.lean -/

@[simp] theorem State.setSlave_keeps {t0 : State} {s : State} (n : Nat) (x : VonSlave) (hK : Keeps t0 s) :
    Keeps t0 (State.setSlave s n x) := by
  unfold State.setSlave; try dsimp only
  repeat' split
  all_goals first | done | simp (maxDischargeDepth := 60) [hK]

@[simp] theorem State.slaveFollows_keeps {t0 : State} {s : State} (n : Nat) (hK : Keeps t0 s) :
    Keeps t0 (State.slaveFollows s n) := by
  unfold State.slaveFollows; try dsimp only
  repeat' split
  all_goals first | done | simp (maxDischargeDepth := 60) [hK]

@[simp] theorem State.slavesFollow_keeps {t0 : State} {s : State} (hK : Keeps t0 s) :
    Keeps t0 (State.slavesFollow s) := by
  unfold State.slavesFollow; try dsimp only
  repeat' split
  all_goals first | done | simp (maxDischargeDepth := 60) [hK]

@[simp] theorem State.allDue_keeps {t0 : State} {s : State} (hK : Keeps t0 s) :
    Keeps t0 (State.allDue s) := by
  unfold State.allDue; try dsimp only
  repeat' split
  all_goals first | done | simp (maxDischargeDepth := 60) [hK]

@[simp] theorem State.onePath_keeps {t0 : State} {s : State} (hK : Keeps t0 s) :
    Keeps t0 (State.onePath s) := by
  unfold State.onePath; try dsimp only
  repeat' split
  all_goals first | done | simp (maxDischargeDepth := 60) [hK]

@[simp] theorem State.vonCommitted_keeps {t0 : State} {s : State} (hK : Keeps t0 s) :
    Keeps t0 (State.vonCommitted s) := by
  unfold State.vonCommitted; try dsimp only
  repeat' split
  all_goals first | done | simp (maxDischargeDepth := 60) [hK]

@[simp] theorem State.vonSend_keeps {t0 : State} {s : State} (addr : Nat) (typ : Nat) (seqs : Nat) (data : List Byte) (hK : Keeps t0 s) :
    Keeps t0 (State.vonSend s addr typ seqs data) := by
  unfold State.vonSend; try dsimp only
  repeat' split
  all_goals first | done | simp (maxDischargeDepth := 60) [hK]

@[simp] theorem State.vonPoll_keeps {t0 : State} {s : State} (n : Nat) (k : Nat) (hK : Keeps t0 s) :
    Keeps t0 (State.vonPoll s n k) := by
  unfold State.vonPoll; try dsimp only
  repeat' split
  all_goals first | done | simp (maxDischargeDepth := 60) [hK]

@[simp] theorem State.vonMaster_keeps {t0 : State} {s : State} (hK : Keeps t0 s) :
    Keeps t0 (State.vonMaster s) := by
  unfold State.vonMaster; try dsimp only
  repeat' split
  all_goals first | done | simp (maxDischargeDepth := 60) [hK]

@[simp] theorem State.notePaths_keeps {t0 : State} {s : State} (l : List VonPath) (hK : Keeps t0 s) :
    Keeps t0 (State.notePaths s l) := by
  unfold State.notePaths; try dsimp only
  repeat' split
  all_goals first | done | simp (maxDischargeDepth := 60) [hK]

@[simp] theorem State.vonGood_keeps {t0 : State} {s : State} (n : Nat) (dseq : Nat) (w : List Byte) (hK : Keeps t0 s) :
    Keeps t0 (State.vonGood s n dseq w) := by
  unfold State.vonGood; try dsimp only
  repeat' split
  all_goals first | done | simp (maxDischargeDepth := 60) [hK]

@[simp] theorem State.vonMissed_keeps {t0 : State} {s : State} (n : Nat) (k : Nat) (hK : Keeps t0 s) :
    Keeps t0 (State.vonMissed s n k) := by
  unfold State.vonMissed; try dsimp only
  repeat' split
  all_goals first | done | simp (maxDischargeDepth := 60) [hK]

@[simp] theorem State.vonTries_keeps {t0 : State} {s : State} (n : Nat) (hK : Keeps t0 s) :
    Keeps t0 (State.vonTries s n) := by
  unfold State.vonTries; try dsimp only
  repeat' split
  all_goals first | done | simp (maxDischargeDepth := 60) [hK]

@[simp] theorem State.vonJudge_keeps {t0 : State} {s : State} (paths : List VonPath) (word : Option (List Byte)) (hK : Keeps t0 s) :
    Keeps t0 (State.vonJudge s paths word) := by
  unfold State.vonJudge; try dsimp only
  repeat' split
  all_goals first | done | simp (maxDischargeDepth := 60) [hK]

@[simp] theorem State.vonBoxEffect_keeps {t0 : State} {s : State} (data : List Byte) (hK : Keeps t0 s) :
    Keeps t0 (State.vonBoxEffect s data) := by
  unfold State.vonBoxEffect; try dsimp only
  repeat' split
  all_goals first | done | simp (maxDischargeDepth := 60) [hK]

/-! ## Machine/Update.lean -/

@[simp] theorem State.enterReset_keeps {t0 : State} {s : State} (cause : Nat) (hK : Keeps t0 s) :
    Keeps t0 (State.enterReset s cause) := by
  unfold State.enterReset; try dsimp only
  repeat' split
  all_goals first | done | simp (maxDischargeDepth := 60) [hK]

@[simp] theorem State.withUpd_keeps {t0 : State} {s : State} (u : UpdState) (hK : Keeps t0 s) (hu : memWf s.upd.mem = true → memWf u.mem = true) :
    Keeps t0 (State.withUpd s u) := by
  exact hK.trans ⟨rfl, rfl, id, id, id, hu, List.prefix_rfl, Nat.le_refl _⟩

@[simp] theorem State.loadImage_keeps {t0 : State} {s : State} (c : Fin 3) (slot : Nat) (hK : Keeps t0 s) :
    Keeps t0 (State.loadImage s c slot) := by
  unfold State.loadImage; try dsimp only
  repeat' split
  all_goals first | done | simp (maxDischargeDepth := 60) [hK]

@[simp] theorem State.updOpen_keeps {t0 : State} {s : State} (hK : Keeps t0 s) :
    Keeps t0 (State.updOpen s) := by
  unfold State.updOpen; try dsimp only
  repeat' split
  all_goals first | done | simp (maxDischargeDepth := 60) [hK]

@[simp] theorem State.updClose_keeps {t0 : State} {s : State} (hK : Keeps t0 s) :
    Keeps t0 (State.updClose s) := by
  unfold State.updClose; try dsimp only
  repeat' split
  all_goals first | done | simp (maxDischargeDepth := 60) [hK]

@[simp] theorem State.updCancel_keeps {t0 : State} {s : State} (hK : Keeps t0 s) :
    Keeps t0 (State.updCancel s) := by
  unfold State.updCancel; try dsimp only
  repeat' split
  all_goals first | done | simp (maxDischargeDepth := 60) [hK]

@[simp] theorem State.updReboot_keeps {t0 : State} {s : State} (hK : Keeps t0 s) :
    Keeps t0 (State.updReboot s) := by
  unfold State.updReboot; try dsimp only
  repeat' split
  all_goals first | done | simp (maxDischargeDepth := 60) [hK]

@[simp] theorem State.updControlEffect_keeps {t0 : State} {s : State} (v : Nat) (hK : Keeps t0 s) :
    Keeps t0 (State.updControlEffect s v) := by
  unfold State.updControlEffect; try dsimp only
  repeat' split
  all_goals first | done | simp (maxDischargeDepth := 60) [hK]

@[simp] theorem State.updChunk_keeps {t0 : State} {s : State} (data : List Byte) (hK : Keeps t0 s) :
    Keeps t0 (State.updChunk s data).1 := by
  unfold State.updChunk; dsimp only
  repeat' split
  all_goals first | exact hK | simp (maxDischargeDepth := 60) (contextual := true) [hK, memWf_write]

@[simp] theorem State.askGate_keeps {t0 : State} {s : State} (r : Nat) (hK : Keeps t0 s) :
    Keeps t0 (State.askGate s r) := by
  unfold State.askGate; try dsimp only
  repeat' split
  all_goals first | done | simp (maxDischargeDepth := 60) [hK]

@[simp] theorem State.updVerified_keeps {t0 : State} {s : State} (hK : Keeps t0 s) :
    Keeps t0 (State.updVerified s) := by
  unfold State.updVerified
  first
    | (simp (maxDischargeDepth := 60) [hK]; done)
    | (refine Keeps.foldl _ _ (by simp (maxDischargeDepth := 60) [hK]) fun st i => ?_; (try dsimp only); repeat' split
       all_goals first | done | simp (maxDischargeDepth := 60) | (refine Keeps.foldl _ _ (by simp (maxDischargeDepth := 60)) fun st i => ?_; (try dsimp only); repeat' split; all_goals first | done | simp (maxDischargeDepth := 60)))
    | ((try dsimp only); repeat' split; all_goals first | done | exact hK | simp (maxDischargeDepth := 60) [hK] | (refine Keeps.foldl _ _ (by simp (maxDischargeDepth := 60) [hK]) fun st i => ?_; (try dsimp only); repeat' split; all_goals first | done | simp (maxDischargeDepth := 60)))

@[simp] theorem State.slotConfirmEffect_keeps {t0 : State} {s : State} (mask : Nat) (hK : Keeps t0 s) :
    Keeps t0 (State.slotConfirmEffect s mask) := by
  unfold State.slotConfirmEffect; try dsimp only
  repeat' split
  all_goals first | done | simp (maxDischargeDepth := 60) [hK]

@[simp] theorem State.svnAdvanceEffect_keeps {t0 : State} {s : State} (v : Nat) (hK : Keeps t0 s) :
    Keeps t0 (State.svnAdvanceEffect s v) := by
  unfold State.svnAdvanceEffect; try dsimp only
  repeat' split
  all_goals first | done | simp (maxDischargeDepth := 60) [hK]

@[simp] theorem State.journalSlot_keeps {t0 : State} {s : State} (c : Fin 3) (hK : Keeps t0 s) :
    Keeps t0 (State.journalSlot s c) := by
  unfold State.journalSlot; try dsimp only
  repeat' split
  all_goals first | done | simp (maxDischargeDepth := 60) [hK]

@[simp] theorem State.slotSwitch_keeps {t0 : State} {s : State} (arg : Nat) (hK : Keeps t0 s) :
    Keeps t0 (State.slotSwitch s arg) := by
  unfold State.slotSwitch; try dsimp only
  repeat' split
  all_goals first | done | simp (maxDischargeDepth := 60) [hK]

@[simp] theorem State.loopDark_keeps {t0 : State} {s : State} (hK : Keeps t0 s) :
    Keeps t0 (State.loopDark s) := by
  unfold State.loopDark; try dsimp only
  repeat' split
  all_goals first | done | simp (maxDischargeDepth := 60) [hK]

@[simp] theorem State.switchNow_keeps {t0 : State} {s : State} (hK : Keeps t0 s) :
    Keeps t0 (State.switchNow s) := by
  unfold State.switchNow; try dsimp only
  repeat' split
  all_goals first | done | simp (maxDischargeDepth := 60) [hK]

@[simp] theorem State.abortSwitch_keeps {t0 : State} {s : State} (hK : Keeps t0 s) :
    Keeps t0 (State.abortSwitch s) := by
  unfold State.abortSwitch; try dsimp only
  repeat' split
  all_goals first | done | simp (maxDischargeDepth := 60) [hK]

@[simp] theorem State.blackoutEnd_keeps {t0 : State} {s : State} (c : Fin 2) (us : Nat) (hK : Keeps t0 s) :
    Keeps t0 (State.blackoutEnd s c us) := by
  unfold State.blackoutEnd; try dsimp only
  repeat' split
  all_goals first | done | simp (maxDischargeDepth := 60) [hK]

@[simp] theorem State.archiveTested_keeps {t0 : State} {s : State} (hK : Keeps t0 s) :
    Keeps t0 (State.archiveTested s) := by
  unfold State.archiveTested; try dsimp only
  repeat' split
  all_goals first | done | simp (maxDischargeDepth := 60) [hK]

@[simp] theorem State.bistBegins_keeps {t0 : State} {s : State} (t : Nat) (kind : Nat) (hK : Keeps t0 s) :
    Keeps t0 (State.bistBegins s t kind) := by
  unfold State.bistBegins; try dsimp only
  repeat' split
  all_goals first | done | simp (maxDischargeDepth := 60) [hK]

@[simp] theorem State.bistEnds_keeps {t0 : State} {s : State} (hK : Keeps t0 s) :
    Keeps t0 (State.bistEnds s) := by
  unfold State.bistEnds; try dsimp only
  repeat' split
  all_goals first | done | simp (maxDischargeDepth := 60) [hK]

@[simp] theorem State.bist_keeps {t0 : State} {s : State} (kind : Nat) (hK : Keeps t0 s) :
    Keeps t0 (State.bist s kind) := by
  unfold State.bist; try dsimp only
  repeat' split
  all_goals first | done | simp (maxDischargeDepth := 60) [hK]

@[simp] theorem State.bistReadbacks_keeps {t0 : State} {s : State} (t : Nat) (kind : Nat) (misr : Nat) (children : List Nat) (origin : Nat) (hK : Keeps t0 s) :
    Keeps t0 (State.bistReadbacks s t kind misr children origin) := by
  unfold State.bistReadbacks; try dsimp only
  repeat' split
  all_goals first | done | simp (maxDischargeDepth := 60) [hK]

@[simp] theorem State.bistDone_keeps {t0 : State} {s : State} (misr : Nat) (children : List Nat) (hK : Keeps t0 s) :
    Keeps t0 (State.bistDone s misr children) := by
  unfold State.bistDone; try dsimp only
  repeat' split
  all_goals first | done | simp (maxDischargeDepth := 60) [hK]

@[simp] theorem State.abortBist_keeps {t0 : State} {s : State} (hK : Keeps t0 s) :
    Keeps t0 (State.abortBist s) := by
  unfold State.abortBist; try dsimp only
  repeat' split
  all_goals first | done | simp (maxDischargeDepth := 60) [hK]

@[simp] theorem State.tapInstruction_keeps {t0 : State} {s : State} (code : Nat) (hK : Keeps t0 s) :
    Keeps t0 (State.tapInstruction s code) := by
  unfold State.tapInstruction; try dsimp only
  repeat' split
  all_goals first | done | simp (maxDischargeDepth := 60) [hK]

@[simp] theorem State.svcFault_keeps {t0 : State} {s : State} (kind : Nat) (hK : Keeps t0 s) :
    Keeps t0 (State.svcFault s kind) := by
  unfold State.svcFault
  refine Keeps.ite _ (by simp [hK]) (Keeps.ite _ ?_ (by simp [hK]))
  exact Keeps.lit (t := s.count Reg.SVC_CRC_ERR_CNT) (by simp [hK]) _ _ _ _ _ _ _ _ _ _ _ _ _ _ _ _ _ _ _ _ _ _ _ _ _ _
    id id id id List.prefix_rfl (Nat.le_refl _)

@[simp] theorem State.svcRequest_keeps {t0 : State} {s : State} (bs : List Byte) (hK : Keeps t0 s) :
    Keeps t0 (State.svcRequest s bs) := by
  unfold State.svcRequest; try dsimp only
  repeat' split
  all_goals first | done | simp (maxDischargeDepth := 60) [hK]

/-! ## Machine/Power.lean -/

@[simp] theorem State.withPower_keeps {t0 : State} {s : State} (p : PowerState) (hK : Keeps t0 s) :
    Keeps t0 (State.withPower s p) := by
  unfold State.withPower; try dsimp only
  repeat' split
  all_goals first | done | simp (maxDischargeDepth := 60) [hK]

@[simp] theorem State.copyLoops_keeps {t0 : State} {s : State} (hK : Keeps t0 s) :
    Keeps t0 (State.copyLoops s) := by
  unfold State.copyLoops; try dsimp only
  repeat' split
  all_goals first | done | simp (maxDischargeDepth := 60) [hK]

@[simp] theorem State.preLoss_keeps {t0 : State} {s : State} (hK : Keeps t0 s) :
    Keeps t0 (State.preLoss s) := by
  unfold State.preLoss; try dsimp only
  repeat' split
  all_goals first | done | simp (maxDischargeDepth := 60) [hK]

@[simp] theorem State.driversLow_keeps {t0 : State} {s : State} (hK : Keeps t0 s) :
    Keeps t0 (State.driversLow s) := by
  unfold State.driversLow; try dsimp only
  repeat' split
  all_goals first | done | simp (maxDischargeDepth := 60) [hK]

@[simp] theorem State.modeWordEffect_keeps {t0 : State} {s : State} (v : Nat) (hK : Keeps t0 s) :
    Keeps t0 (State.modeWordEffect s v) := by
  unfold State.modeWordEffect; try dsimp only
  repeat' split
  all_goals first | done | simp (maxDischargeDepth := 60) [hK]

@[simp] theorem State.wakeNow_keeps {t0 : State} {s : State} (source : Nat) (hK : Keeps t0 s) :
    Keeps t0 (State.wakeNow s source) := by
  unfold State.wakeNow; try dsimp only
  repeat' split
  all_goals first | done | simp (maxDischargeDepth := 60) [hK]

@[simp] theorem State.powerRemoved_keeps {t0 : State} {s : State} (hK : Keeps t0 s) :
    Keeps t0 (State.powerRemoved s) := by
  unfold State.powerRemoved; try dsimp only
  repeat' split
  all_goals first | done | simp (maxDischargeDepth := 60) [hK]

@[simp] theorem State.vaultStepMade_keeps {t0 : State} {s : State} (step : Nat) (hK : Keeps t0 s) :
    Keeps t0 (State.vaultStepMade s step) := by
  unfold State.vaultStepMade; try dsimp only
  repeat' split
  all_goals first | done | simp (maxDischargeDepth := 60) [hK]

@[simp] theorem State.bootBase_keeps {t0 : State} {s : State} (hK : Keeps t0 s) :
    Keeps t0 (State.bootBase s) := by
  exact hK.trans ⟨rfl, rfl, fun _ => objWf_puts _ rfl, id, id, id, List.prefix_rfl, Nat.le_refl _⟩

@[simp] theorem State.bootClocks_keeps {t0 : State} {s : State} (hK : Keeps t0 s) :
    Keeps t0 (State.bootClocks s) := by
  unfold State.bootClocks; try dsimp only
  repeat' split
  all_goals first | done | simp (maxDischargeDepth := 60) [hK]

@[simp] theorem State.bootTrust_keeps {t0 : State} {s : State} (rootOk : Bool) (damaged : List Nat) (hK : Keeps t0 s) :
    Keeps t0 (State.bootTrust s rootOk damaged) := by
  unfold State.bootTrust; try dsimp only
  repeat' split
  all_goals first | done | simp (maxDischargeDepth := 60) [hK]

@[simp] theorem State.bootBist_keeps {t0 : State} {s : State} (test : Option (Nat × Nat)) (misr : Nat) (children : List Nat) (hK : Keeps t0 s) :
    Keeps t0 (State.bootBist s test misr children) := by
  unfold State.bootBist; try dsimp only
  repeat' split
  all_goals first | done | simp (maxDischargeDepth := 60) [hK]

@[simp] theorem State.trialFallback_keeps {t0 : State} {s : State} (c : Fin 3) (hK : Keeps t0 s) :
    Keeps t0 (State.trialFallback s c) := by
  unfold State.trialFallback; try dsimp only
  repeat' split
  all_goals first | done | simp (maxDischargeDepth := 60) [hK]

@[simp] theorem State.bootTrial_keeps {t0 : State} {s : State} (cause : Nat) (hK : Keeps t0 s) :
    Keeps t0 (State.bootTrial s cause) := by
  unfold State.bootTrial; try dsimp only
  repeat' split
  all_goals first | done | simp (maxDischargeDepth := 60) [hK]

@[simp] theorem State.checkImage_keeps {t0 : State} {s : State} (a : Nat) (hK : Keeps t0 s) :
    Keeps t0 (State.checkImage s a) := by
  unfold State.checkImage; try dsimp only
  repeat' split
  all_goals first | done | simp (maxDischargeDepth := 60) [hK]

@[simp] theorem State.bootImage_keeps {t0 : State} {s : State} (c : Fin 3) (hK : Keeps t0 s) :
    Keeps t0 (State.bootImage s c) := by
  unfold State.bootImage; try dsimp only
  repeat' split
  all_goals first | done | simp (maxDischargeDepth := 60) [hK]

@[simp] theorem State.bootImages_keeps {t0 : State} {s : State} (cause : Nat) (hK : Keeps t0 s) :
    Keeps t0 (State.bootImages s cause) := by
  unfold State.bootImages; try dsimp only
  repeat' split
  all_goals first | done | simp (maxDischargeDepth := 60) [hK]

@[simp] theorem State.bootJournal_keeps {t0 : State} {s : State} (hK : Keeps t0 s) :
    Keeps t0 (State.bootJournal s) := by
  unfold State.bootJournal; dsimp only
  split
  · exact State.count_keeps _ (hK.trans ⟨rfl, rfl, id, fun h => objWf_puts _ h, fun h => heldAll_stagePuts (heldAll_later _) h, id, List.prefix_rfl, Nat.le_refl _⟩)
  · exact hK.trans ⟨rfl, rfl, id, fun h => objWf_puts _ h, fun h => heldAll_stagePuts (heldAll_later _) h, id, List.prefix_rfl, Nat.le_refl _⟩

@[simp] theorem State.bootStore_keeps {t0 : State} {s : State} (hK : Keeps t0 s) :
    Keeps t0 (State.bootStore s) := by
  unfold State.bootStore; dsimp only
  repeat' split
  all_goals simp (maxDischargeDepth := 60) (contextual := true) [hK, objWf_puts, objWf_filter]

@[simp] theorem State.bootApply_keeps {t0 : State} {s : State} (hK : Keeps t0 s) :
    Keeps t0 (State.bootApply s) := by
  unfold State.bootApply; try dsimp only
  repeat' split
  all_goals first | done | simp (maxDischargeDepth := 60) [hK]

@[simp] theorem State.bootTime_keeps {t0 : State} {s : State} (vaultLost : Bool) (hK : Keeps t0 s) :
    Keeps t0 (State.bootTime s vaultLost) := by
  unfold State.bootTime; try dsimp only
  repeat' split
  all_goals first | done | simp (maxDischargeDepth := 60) [hK]

@[simp] theorem State.bootModes_keeps {t0 : State} {s : State} (cause : Nat) (hK : Keeps t0 s) :
    Keeps t0 (State.bootModes s cause) := by
  unfold State.bootModes; try dsimp only
  repeat' split
  all_goals first | done | simp (maxDischargeDepth := 60) [hK]

@[simp] theorem State.bootCauseRecord_keeps {t0 : State} {s : State} (cause : Nat) (hK : Keeps t0 s) :
    Keeps t0 (State.bootCauseRecord s cause) := by
  unfold State.bootCauseRecord; try dsimp only
  repeat' split
  all_goals first | done | simp (maxDischargeDepth := 60) [hK]

@[simp] theorem State.bootRestart_keeps {t0 : State} {s : State} (cause : Nat) (retained : Bool) (hK : Keeps t0 s) :
    Keeps t0 (State.bootRestart s cause retained) := by
  unfold State.bootRestart; try dsimp only
  repeat' split
  all_goals first | done | simp (maxDischargeDepth := 60) [hK]

@[simp] theorem State.bootEvents_keeps {t0 : State} {s : State} (hK : Keeps t0 s) :
    Keeps t0 (State.bootEvents s) := by
  unfold State.bootEvents; try dsimp only
  repeat' split
  all_goals first | done | simp (maxDischargeDepth := 60) [hK]

@[simp] theorem State.bootLoop_keeps {t0 : State} {s : State} (i : Fin 4) (opens : Bool) (hK : Keeps t0 s) :
    Keeps t0 (State.bootLoop s i opens) := by
  unfold State.bootLoop; try dsimp only
  repeat' split
  all_goals first | done | simp (maxDischargeDepth := 60) [hK]

@[simp] theorem State.bootSessionEnd_keeps {t0 : State} {s : State} (account : Nat) (c : Fin 4) (hK : Keeps t0 s) :
    Keeps t0 (State.bootSessionEnd s account c) := by
  unfold State.bootSessionEnd; try dsimp only
  repeat' split
  all_goals first | done | simp (maxDischargeDepth := 60) [hK]

@[simp] theorem State.bootLegalFw_keeps {t0 : State} {s : State} (hK : Keeps t0 s) :
    Keeps t0 (State.bootLegalFw s) := by
  unfold State.bootLegalFw; try dsimp only
  repeat' split
  all_goals first | done | simp (maxDischargeDepth := 60) [hK]

@[simp] theorem State.bootRecords_keeps {t0 : State} {s : State} (past : BootPast) (loops : Nat) (hK : Keeps t0 s) :
    Keeps t0 (State.bootRecords s past loops) := by
  unfold State.bootRecords; try dsimp only
  repeat' split
  all_goals first | done | simp (maxDischargeDepth := 60) [hK]

@[simp] theorem State.bootPennants_keeps {t0 : State} {s : State} (committed : Bool) (mismatch : Bool) (fellBack : Bool) (taps : Nat) (hK : Keeps t0 s) :
    Keeps t0 (State.bootPennants s committed mismatch fellBack taps) := by
  unfold State.bootPennants; try dsimp only
  repeat' split
  all_goals first | done | simp (maxDischargeDepth := 60) [hK]

@[simp] theorem State.bootStarts_keeps {t0 : State} {s : State} (us : Nat) (hK : Keeps t0 s) :
    Keeps t0 (State.bootStarts s us) := by
  unfold State.bootStarts; try dsimp only
  repeat' split
  all_goals first | done | simp (maxDischargeDepth := 60) [hK]

@[simp] theorem State.bootedImages_keeps {t0 : State} {s : State} (b : BootFacts) (hK : Keeps t0 s) :
    Keeps t0 (State.bootedImages s b) := by
  unfold State.bootedImages; try dsimp only
  repeat' split
  all_goals first | done | simp (maxDischargeDepth := 60) [hK]

@[simp] theorem State.booted_keeps {t0 : State} {s : State} (b : BootFacts) (hK : Keeps t0 s) :
    Keeps t0 (State.booted s b) := by
  unfold State.booted; try dsimp only
  repeat' split
  all_goals first | done | simp (maxDischargeDepth := 60) [hK]

@[simp] theorem State.scheduledReset_keeps {t0 : State} {s : State} (hK : Keeps t0 s) :
    Keeps t0 (State.scheduledReset s) := by
  unfold State.scheduledReset; try dsimp only
  repeat' split
  all_goals first | done | simp (maxDischargeDepth := 60) [hK]

@[simp] theorem State.resetRequestEffect_keeps {t0 : State} {s : State} (hK : Keeps t0 s) :
    Keeps t0 (State.resetRequestEffect s) := by
  unfold State.resetRequestEffect; try dsimp only
  repeat' split
  all_goals first | done | simp (maxDischargeDepth := 60) [hK]

@[simp] theorem State.powerFail_keeps {t0 : State} {s : State} (steps : Nat) (hK : Keeps t0 s) :
    Keeps t0 (State.powerFail s steps) := by
  unfold State.powerFail; try dsimp only
  repeat' split
  all_goals first | done | simp (maxDischargeDepth := 60) [hK]

@[simp] theorem State.supplyBits_keeps {t0 : State} {s : State} (out : Nat) (hK : Keeps t0 s) :
    Keeps t0 (State.supplyBits s out) := by
  unfold State.supplyBits; try dsimp only
  repeat' split
  all_goals first | done | simp (maxDischargeDepth := 60) [hK]

@[simp] theorem State.warned_keeps {t0 : State} {s : State} (below : Nat) (hK : Keeps t0 s) :
    Keeps t0 (State.warned s below) := by
  unfold State.warned; try dsimp only
  repeat' split
  all_goals first | done | simp (maxDischargeDepth := 60) [hK]

@[simp] theorem State.mainsGone_keeps {t0 : State} {s : State} (tripped : Nat) (out : Nat) (hK : Keeps t0 s) :
    Keeps t0 (State.mainsGone s tripped out) := by
  unfold State.mainsGone; try dsimp only
  repeat' split
  all_goals first | done | simp (maxDischargeDepth := 60) [hK]

@[simp] theorem State.vaultGone_keeps {t0 : State} {s : State} (hK : Keeps t0 s) :
    Keeps t0 (State.vaultGone s) := by
  unfold State.vaultGone; try dsimp only
  repeat' split
  all_goals first | done | simp (maxDischargeDepth := 60) [hK]

/-! ## Machine/Fabric.lean -/

@[simp] theorem State.refreshBounds_keeps {t0 : State} {s : State} (hK : Keeps t0 s) :
    Keeps t0 (State.refreshBounds s) := by
  unfold State.refreshBounds; try dsimp only
  repeat' split
  all_goals first | done | simp (maxDischargeDepth := 60) [hK]

@[simp] theorem State.judgePace_keeps {t0 : State} {s : State} (pace : Nat) (hK : Keeps t0 s) :
    Keeps t0 (State.judgePace s pace) := by
  unfold State.judgePace; try dsimp only
  repeat' split
  all_goals first | done | simp (maxDischargeDepth := 60) [hK]

@[simp] theorem State.measurePace_keeps {t0 : State} {s : State} (chains : List Nat) (hK : Keeps t0 s) :
    Keeps t0 (State.measurePace s chains) := by
  unfold State.measurePace; try dsimp only
  repeat' split
  all_goals first | done | simp (maxDischargeDepth := 60) [hK]

@[simp] theorem State.latClearEffect_keeps {t0 : State} {s : State} (v : Nat) (hK : Keeps t0 s) :
    Keeps t0 (State.latClearEffect s v) := by
  unfold State.latClearEffect; try dsimp only
  repeat' split
  all_goals first | done | simp (maxDischargeDepth := 60) [hK]

@[simp] theorem State.putIslands_keeps {t0 : State} {s : State} (st : Nat) (hK : Keeps t0 s) :
    Keeps t0 (State.putIslands s st) := by
  unfold State.putIslands; try dsimp only
  repeat' split
  all_goals first | done | simp (maxDischargeDepth := 60) [hK]

@[simp] theorem State.legsFaulted_keeps {t0 : State} {s : State} (hK : Keeps t0 s) :
    Keeps t0 (State.legsFaulted s) := by
  unfold State.legsFaulted; try dsimp only
  repeat' split
  all_goals first | done | simp (maxDischargeDepth := 60) [hK]

@[simp] theorem State.loseClock_keeps {t0 : State} {s : State} (b : Nat) (island : Nat) (event : Nat) (hK : Keeps t0 s) :
    Keeps t0 (State.loseClock s b island event) := by
  unfold State.loseClock; try dsimp only
  repeat' split
  all_goals first | done | simp (maxDischargeDepth := 60) [hK]

@[simp] theorem State.relock_keeps {t0 : State} {s : State} (hK : Keeps t0 s) :
    Keeps t0 (State.relock s) := by
  unfold State.relock; try dsimp only
  repeat' split
  all_goals first | done | simp (maxDischargeDepth := 60) [hK]

@[simp] theorem State.fabError_keeps {t0 : State} {s : State} (kind : Nat) (level : Nat) (region : Nat) (block : Nat) (cell : Nat) (hK : Keeps t0 s) :
    Keeps t0 (State.fabError s kind level region block cell) := by
  unfold State.fabError; try dsimp only
  repeat' split
  all_goals first | done | simp (maxDischargeDepth := 60) [hK]

@[simp] theorem State.fenceShown_keeps {t0 : State} {s : State} (r : Nat) (hK : Keeps t0 s) :
    Keeps t0 (State.fenceShown s r) := by
  unfold State.fenceShown; try dsimp only
  repeat' split
  all_goals first | done | simp (maxDischargeDepth := 60) [hK]

@[simp] theorem State.fenceMeters_keeps {t0 : State} {s : State} (hK : Keeps t0 s) :
    Keeps t0 (State.fenceMeters s) := by
  unfold State.fenceMeters; try dsimp only
  repeat' split
  all_goals first | done | simp (maxDischargeDepth := 60) [hK]

@[simp] theorem State.fenceRegion_keeps {t0 : State} {s : State} (r : Nat) (hK : Keeps t0 s) :
    Keeps t0 (State.fenceRegion s r) := by
  unfold State.fenceRegion; try dsimp only
  repeat' split
  all_goals first | done | simp (maxDischargeDepth := 60) [hK]

@[simp] theorem State.fenceBlock_keeps {t0 : State} {s : State} (r : Nat) (b : Nat) (hK : Keeps t0 s) :
    Keeps t0 (State.fenceBlock s r b) := by
  unfold State.fenceBlock; try dsimp only
  repeat' split
  all_goals first | done | simp (maxDischargeDepth := 60) [hK]

@[simp] theorem State.fenceCell_keeps {t0 : State} {s : State} (r : Nat) (b : Nat) (c : Nat) (hK : Keeps t0 s) :
    Keeps t0 (State.fenceCell s r b c) := by
  unfold State.fenceCell; try dsimp only
  repeat' split
  all_goals first | done | simp (maxDischargeDepth := 60) [hK]

@[simp] theorem State.packetLost_keeps {t0 : State} {s : State} (hK : Keeps t0 s) :
    Keeps t0 (State.packetLost s) := by
  unfold State.packetLost; try dsimp only
  repeat' split
  all_goals first | done | simp (maxDischargeDepth := 60) [hK]

@[simp] theorem State.itemLost_keeps {t0 : State} {s : State} (hK : Keeps t0 s) :
    Keeps t0 (State.itemLost s) := by
  unfold State.itemLost; try dsimp only
  repeat' split
  all_goals first | done | simp (maxDischargeDepth := 60) [hK]

/-! ## Machine/HostAccess.lean -/

@[simp] theorem State.readValue_keeps {t0 : State} {s : State} (src : Src) (r : Row) (k : Nat) (hK : Keeps t0 s) :
    Keeps t0 (State.readValue s src r k).1 := by
  unfold State.readValue; try dsimp only
  repeat' split
  all_goals first | done | simp (maxDischargeDepth := 60) [hK]

@[simp] theorem State.readWhole_keeps {t0 : State} {s : State} (src : Src) (k : Nat) (hK : Keeps t0 s) :
    Keeps t0 (State.readWhole s src k).1 := by
  unfold State.readWhole; try dsimp only
  repeat' split
  all_goals first | done | simp (maxDischargeDepth := 60) [hK]

@[simp] theorem State.commitStart_keeps {t0 : State} {s : State} (hK : Keeps t0 s) :
    Keeps t0 (State.commitStart s) := by
  unfold State.commitStart; try dsimp only
  repeat' split
  all_goals first | done | simp (maxDischargeDepth := 60) [hK]

@[simp] theorem State.stageWrite_keeps {t0 : State} {s : State} (k : Nat) (v : Val) (hK : Keeps t0 s) :
    Keeps t0 (State.stageWrite s k v).1 := by
  unfold State.stageWrite; try dsimp only
  repeat' split
  all_goals first | done | simp (maxDischargeDepth := 60) [hK]

@[simp] theorem State.legsCommitted_keeps {t0 : State} {s : State} (set : List (Nat × Val)) (hK : Keeps t0 s) :
    Keeps t0 (State.legsCommitted s set) := by
  unfold State.legsCommitted; try dsimp only
  repeat' split
  all_goals first | done | simp (maxDischargeDepth := 60) [hK]

@[simp] theorem State.treeCommitted_keeps {t0 : State} {s : State} (touched : Bool) (before : List (Nat × Val)) (hK : Keeps t0 s) :
    Keeps t0 (State.treeCommitted s touched before) := by
  unfold State.treeCommitted; try dsimp only
  repeat' split
  all_goals first | done | simp (maxDischargeDepth := 60) [hK]

@[simp] theorem State.commitEntry_keeps {t0 : State} {s : State} (e : Nat × Val) (hK : Keeps t0 s) :
    Keeps t0 (State.commitEntry s e) := by
  unfold State.commitEntry; try dsimp only
  repeat' split
  all_goals first | done | simp (maxDischargeDepth := 60) [hK]

@[simp] theorem State.holdEntries_keeps {t0 : State} {s : State} (l : List (Nat × Val)) (hK : Keeps t0 s) (hl : heldAll l = true) :
    Keeps t0 (State.holdEntries s l) := by
  unfold State.holdEntries; dsimp only
  refine State.putN_keeps _ _ (hK.trans ⟨rfl, rfl, id, id, fun h => heldAll_stagePuts hl h, id, List.prefix_rfl, Nat.le_refl _⟩)

@[simp] theorem State.committed_keeps {t0 : State} {s : State} (set : List (Nat × Val)) (oldMode : Nat) (oldSlot : Nat) (oldPair : Nat) (oldSrc : List Nat) (hK : Keeps t0 s) :
    Keeps t0 (State.committed s set oldMode oldSlot oldPair oldSrc) := by
  unfold State.committed; try dsimp only
  repeat' split
  all_goals first | done | simp (maxDischargeDepth := 60) [hK]

@[simp] theorem State.applyCommit_keeps {t0 : State} {s : State} (hK : Keeps t0 s) :
    Keeps t0 (State.applyCommit s) := by
  unfold State.applyCommit; try dsimp only
  repeat' split
  all_goals first | done | simp (maxDischargeDepth := 60) [hK]

@[simp] theorem State.commitStored_keeps {t0 : State} {s : State} (hK : Keeps t0 s) :
    Keeps t0 (State.commitStored s) := by
  unfold State.commitStored; try dsimp only
  repeat' split
  all_goals first | done | simp (maxDischargeDepth := 60) [hK]

@[simp] theorem State.stageDiscard_keeps {t0 : State} {s : State} (hK : Keeps t0 s) :
    Keeps t0 (State.stageDiscard s) := by
  unfold State.stageDiscard; try dsimp only
  repeat' split
  all_goals first | done | simp (maxDischargeDepth := 60) [hK]

@[simp] theorem State.configErase_keeps {t0 : State} {s : State} (hK : Keeps t0 s) :
    Keeps t0 (State.configErase s) := by
  unfold State.configErase; dsimp only
  repeat' split
  all_goals simp (maxDischargeDepth := 60) (contextual := true) [hK, objWf_filter]

@[simp] theorem State.configEraseStored_keeps {t0 : State} {s : State} (hK : Keeps t0 s) :
    Keeps t0 (State.configEraseStored s) := by
  unfold State.configEraseStored; dsimp only
  repeat' split
  all_goals simp (maxDischargeDepth := 60) (contextual := true) [hK, objWf_filter]

@[simp] theorem State.startOf_keeps {t0 : State} {s : State} (src : Src) (c : CmdId) (arg : Nat) (hK : Keeps t0 s) :
    Keeps t0 (State.startOf s src c arg) := by
  unfold State.startOf; try dsimp only
  repeat' split
  all_goals first | done | simp (maxDischargeDepth := 60) [hK]

@[simp] theorem State.abortCapture_keeps {t0 : State} {s : State} (hK : Keeps t0 s) :
    Keeps t0 (State.abortCapture s) := by
  unfold State.abortCapture; try dsimp only
  repeat' split
  all_goals first | done | simp (maxDischargeDepth := 60) [hK]

@[simp] theorem State.abortPending_keeps {t0 : State} {s : State} (c : CmdId) (hK : Keeps t0 s) :
    Keeps t0 (State.abortPending s c).1 := by
  unfold State.abortPending; try dsimp only
  repeat' split
  all_goals first | done | simp (maxDischargeDepth := 60) [hK]

@[simp] theorem State.abortCmd_keeps {t0 : State} {s : State} (c : CmdId) (hK : Keeps t0 s) :
    Keeps t0 (State.abortCmd s c).1 := by
  unfold State.abortCmd; try dsimp only
  repeat' split
  all_goals first | done | simp (maxDischargeDepth := 60) [hK]

@[simp] theorem State.ackCmd_keeps {t0 : State} {s : State} (c : CmdId) (hK : Keeps t0 s) :
    Keeps t0 (State.ackCmd s c).1 := by
  unfold State.ackCmd; try dsimp only
  repeat' split
  all_goals first | done | simp (maxDischargeDepth := 60) [hK]

@[simp] theorem State.writeCommand_keeps {t0 : State} {s : State} (src : Src) (c : CmdId) (e : Nat) (n : Nat) (hK : Keeps t0 s) :
    Keeps t0 (State.writeCommand s src c e n).1 := by
  unfold State.writeCommand; try dsimp only
  repeat' split
  all_goals first | done | simp (maxDischargeDepth := 60) [hK]

@[simp] theorem State.writePhase_keeps {t0 : State} {s : State} (k : Nat) (n : Nat) (v : Val) (hK : Keeps t0 s) :
    Keeps t0 (State.writePhase s k n v) := by
  unfold State.writePhase; try dsimp only
  repeat' split
  all_goals first | done | simp (maxDischargeDepth := 60) [hK]

@[simp] theorem State.writeOutlet_keeps {t0 : State} {s : State} (k : Nat) (n : Nat) (v : Val) (hK : Keeps t0 s) :
    Keeps t0 (State.writeOutlet s k n v) := by
  unfold State.writeOutlet; try dsimp only
  repeat' split
  all_goals first | done | simp (maxDischargeDepth := 60) [hK]

@[simp] theorem State.writeChannel_keeps {t0 : State} {s : State} (k : Nat) (n : Nat) (v : Val) (hK : Keeps t0 s) :
    Keeps t0 (State.writeChannel s k n v) := by
  unfold State.writeChannel; try dsimp only
  repeat' split
  all_goals first | done | simp (maxDischargeDepth := 60) [hK]

@[simp] theorem State.writeBilling_keeps {t0 : State} {s : State} (k : Nat) (n : Nat) (v : Val) (hK : Keeps t0 s) :
    Keeps t0 (State.writeBilling s k n v) := by
  unfold State.writeBilling; try dsimp only
  repeat' split
  all_goals first | done | simp (maxDischargeDepth := 60) [hK]

@[simp] theorem State.writePlain_keeps {t0 : State} {s : State} (k : Nat) (n : Nat) (v : Val) (hK : Keeps t0 s) :
    Keeps t0 (State.writePlain s k n v) := by
  unfold State.writePlain
  first
    | (simp (maxDischargeDepth := 60) [hK]; done)
    | (refine Keeps.foldl _ _ (by simp (maxDischargeDepth := 60) [hK]) fun st i => ?_; (try dsimp only); repeat' split
       all_goals first | done | simp (maxDischargeDepth := 60) | (refine Keeps.foldl _ _ (by simp (maxDischargeDepth := 60)) fun st i => ?_; (try dsimp only); repeat' split; all_goals first | done | simp (maxDischargeDepth := 60)))
    | ((try dsimp only); repeat' split; all_goals first | done | exact hK | simp (maxDischargeDepth := 60) [hK] | (refine Keeps.foldl _ _ (by simp (maxDischargeDepth := 60) [hK]) fun st i => ?_; (try dsimp only); repeat' split; all_goals first | done | simp (maxDischargeDepth := 60)))

@[simp] theorem State.writeNow_keeps {t0 : State} {s : State} (k : Nat) (v : Val) (hK : Keeps t0 s) :
    Keeps t0 (State.writeNow s k v).1 := by
  unfold State.writeNow; try dsimp only
  repeat' split
  all_goals first | done | simp (maxDischargeDepth := 60) [hK]

@[simp] theorem State.writeEffect_keeps {t0 : State} {s : State} (src : Src) (r : Row) (k : Nat) (v : Val) (hK : Keeps t0 s) :
    Keeps t0 (State.writeEffect s src r k v).1 := by
  unfold State.writeEffect; try dsimp only
  repeat' split
  all_goals first | done | simp (maxDischargeDepth := 60) [hK]

@[simp] theorem State.writeWhole_keeps {t0 : State} {s : State} (src : Src) (k : Nat) (data : List Byte) (hK : Keeps t0 s) :
    Keeps t0 (State.writeWhole s src k data).1 := by
  unfold State.writeWhole; try dsimp only
  repeat' split
  all_goals first | done | simp (maxDischargeDepth := 60) [hK]

@[simp] theorem State.setSeg_keeps {t0 : State} {s : State} (b : Option SegBuf) (hK : Keeps t0 s) :
    Keeps t0 (State.setSeg s b) := by
  unfold State.setSeg; try dsimp only
  repeat' split
  all_goals first | done | simp (maxDischargeDepth := 60) [hK]

@[simp] theorem State.segAdd_keeps {t0 : State} {s : State} (src : Src) (r : Row) (k : Nat) (declared : Nat) (held : List Byte) (hK : Keeps t0 s) :
    Keeps t0 (State.segAdd s src r k declared held).1 := by
  unfold State.segAdd; try dsimp only
  repeat' split
  all_goals first | done | simp (maxDischargeDepth := 60) [hK]

@[simp] theorem State.segFirst_keeps {t0 : State} {s : State} (src : Src) (r : Row) (k : Nat) (data : List Byte) (hK : Keeps t0 s) :
    Keeps t0 (State.segFirst s src r k data).1 := by
  unfold State.segFirst; try dsimp only
  repeat' split
  all_goals first | done | simp (maxDischargeDepth := 60) [hK]

@[simp] theorem State.segNext_keeps {t0 : State} {s : State} (src : Src) (r : Row) (k : Nat) (off : Nat) (data : List Byte) (hK : Keeps t0 s) :
    Keeps t0 (State.segNext s src r k off data).1 := by
  unfold State.segNext; try dsimp only
  repeat' split
  all_goals first | done | simp (maxDischargeDepth := 60) [hK]

@[simp] theorem State.segDrop_keeps {t0 : State} {s : State} (k : Nat) (off : Nat) (hK : Keeps t0 s) :
    Keeps t0 (State.segDrop s k off) := by
  unfold State.segDrop; try dsimp only
  repeat' split
  all_goals first | done | simp (maxDischargeDepth := 60) [hK]

@[simp] theorem State.writePart_keeps {t0 : State} {s : State} (src : Src) (k : Nat) (off : Nat) (data : List Byte) (hK : Keeps t0 s) :
    Keeps t0 (State.writePart s src k off data).1 := by
  unfold State.writePart; try dsimp only
  repeat' split
  all_goals first | done | simp (maxDischargeDepth := 60) [hK]

@[simp] theorem State.carryOut_keeps {t0 : State} {s : State} (src : Src) (rq : Request) (hK : Keeps t0 s) :
    Keeps t0 (State.carryOut s src rq).1 := by
  unfold State.carryOut; try dsimp only
  repeat' split
  all_goals first | done | simp (maxDischargeDepth := 60) [hK]

@[simp] theorem State.transact_keeps {t0 : State} {s : State} (src : Src) (rq : Request) (hK : Keeps t0 s) :
    Keeps t0 (State.transact s src rq) := by
  unfold State.transact; try dsimp only
  repeat' split
  all_goals first | done | simp (maxDischargeDepth := 60) [hK]

/-! ## Machine/Tick.lean -/

@[simp] theorem State.age_keeps {t0 : State} {s : State} (k : Nat) (n : Nat) (hK : Keeps t0 s) :
    Keeps t0 (State.age s k n) := by
  unfold State.age; try dsimp only
  repeat' split
  all_goals first | done | simp (maxDischargeDepth := 60) [hK]

@[simp] theorem State.pairTick_keeps {t0 : State} {s : State} (hK : Keeps t0 s) :
    Keeps t0 (State.pairTick s) := by
  unfold State.pairTick; try dsimp only
  repeat' split
  all_goals first | done | simp (maxDischargeDepth := 60) [hK]

@[simp] theorem State.traceSwitches_keeps {t0 : State} {s : State} (hK : Keeps t0 s) :
    Keeps t0 (State.traceSwitches s) := by
  unfold State.traceSwitches; try dsimp only
  repeat' split
  all_goals first | done | simp (maxDischargeDepth := 60) [hK]

@[simp] theorem State.tick_keeps {t0 : State} {s : State} (hK : Keeps t0 s) :
    Keeps t0 (State.tick s) := by
  unfold State.tick; try dsimp only
  repeat' split
  all_goals first | done | simp (maxDischargeDepth := 60) [hK]

end Sys2Proof.Machine
end

