-- ==== Sys2Proof/Laws/Same.lean ====
section
/-! SUPPORT. Same: which parts of the state an operation leaves alone. The first argument names the parts: 0 to 8 are the elements
below groups 0x05, 0x10, 0x50, 0x58, 0x60, 0x70, 0x88, 0xA0 and 0xB0, 9 to 11 those of groups 0x01, 0x02 to 0x04 and 0x05, the two
counters of transactions apart; 20 upward are the fields of State. -/

namespace Sys2Proof.Machine

/-- Whether an address lies below another. -/
def below (a k : Nat) : Bool := decide (k < a)

/-- The two counters of transactions, which every answer counts. -/
def tally (k : Nat) : Bool := k == Reg.DICT_RX_COUNT || k == Reg.DICT_REJECT_COUNT

@[simp] theorem below_add {a k : Nat} (e : Nat) (h : below a k = false) : below a (k + e) = false := by
  simp only [below, decide_eq_false_iff_not] at *; omega
@[simp] theorem below_mul {a n : Nat} (i : Nat) (h : a ≤ n * 65536) : below a ((n + i) * 65536) = false := by
  simp only [below, decide_eq_false_iff_not]; omega

/-- The parts named by m are the same in t as in s. -/
structure Same (m : Nat → Bool) (s t : State) : Prop where
  below0 : m 0 = true → ∀ k, 0x0 ≤ k → k < 0x50000 → tally k = false → t.get k = s.get k
  below1 : m 1 = true → ∀ k, 0x0 ≤ k → k < 0x100000 → tally k = false → t.get k = s.get k
  below2 : m 2 = true → ∀ k, 0x0 ≤ k → k < 0x500000 → tally k = false → t.get k = s.get k
  below3 : m 3 = true → ∀ k, 0x0 ≤ k → k < 0x580000 → tally k = false → t.get k = s.get k
  below4 : m 4 = true → ∀ k, 0x0 ≤ k → k < 0x600000 → tally k = false → t.get k = s.get k
  below5 : m 5 = true → ∀ k, 0x0 ≤ k → k < 0x700000 → tally k = false → t.get k = s.get k
  below6 : m 6 = true → ∀ k, 0x0 ≤ k → k < 0x880000 → tally k = false → t.get k = s.get k
  below7 : m 7 = true → ∀ k, 0x0 ≤ k → k < 0xA00000 → tally k = false → t.get k = s.get k
  below8 : m 8 = true → ∀ k, 0x0 ≤ k → k < 0xB00000 → tally k = false → t.get k = s.get k
  below9 : m 9 = true → ∀ k, 0x10000 ≤ k → k < 0x20000 → tally k = false → t.get k = s.get k
  below10 : m 10 = true → ∀ k, 0x20000 ≤ k → k < 0x50000 → tally k = false → t.get k = s.get k
  below11 : m 11 = true → ∀ k, 0x50000 ≤ k → k < 0x60000 → tally k = false → t.get k = s.get k
  now : m 20 = true → t.now = s.now
  dict : m 21 = true → t.dict = s.dict
  modes : m 22 = true → t.modes = s.modes
  fab : m 23 = true → t.fab = s.fab
  ev : m 24 = true → t.ev = s.ev
  pwmNow : m 25 = true → t.pwmNow = s.pwmNow
  legs : m 26 = true → t.legs = s.legs
  engines : m 27 = true → t.engines = s.engines
  groups : m 28 = true → t.groups = s.groups
  matrixFb : m 29 = true → t.matrixFb = s.matrixFb
  rebinds : m 30 = true → t.rebinds = s.rebinds
  bindHeld : m 31 = true → t.bindHeld = s.bindHeld
  site : m 32 = true → t.site = s.site
  ring : m 33 = true → t.ring = s.ring
  outs : m 34 = true → t.outs = s.outs
  cools : m 35 = true → t.cools = s.cools
  ls : m 36 = true → t.ls = s.ls
  pair : m 37 = true → t.pair = s.pair
  von : m 38 = true → t.von = s.von
  bill : m 39 = true → t.bill = s.bill
  trust : m 40 = true → t.trust = s.trust
  upd : m 41 = true → t.upd = s.upd
  power : m 42 = true → t.power = s.power
  sent : m 43 = true → t.sent = s.sent

@[simp] theorem Same.refl (m : Nat → Bool) (s : State) : Same m s s := by constructor <;> intros <;> rfl

theorem Same.trans {m : Nat → Bool} {a b c : State} (h : Same m a b) (g : Same m b c) : Same m a c :=
  ⟨fun e k hl hk hc => (g.below0 e k hl hk hc).trans (h.below0 e k hl hk hc),
   fun e k hl hk hc => (g.below1 e k hl hk hc).trans (h.below1 e k hl hk hc),
   fun e k hl hk hc => (g.below2 e k hl hk hc).trans (h.below2 e k hl hk hc),
   fun e k hl hk hc => (g.below3 e k hl hk hc).trans (h.below3 e k hl hk hc),
   fun e k hl hk hc => (g.below4 e k hl hk hc).trans (h.below4 e k hl hk hc),
   fun e k hl hk hc => (g.below5 e k hl hk hc).trans (h.below5 e k hl hk hc),
   fun e k hl hk hc => (g.below6 e k hl hk hc).trans (h.below6 e k hl hk hc),
   fun e k hl hk hc => (g.below7 e k hl hk hc).trans (h.below7 e k hl hk hc),
   fun e k hl hk hc => (g.below8 e k hl hk hc).trans (h.below8 e k hl hk hc),
   fun e k hl hk hc => (g.below9 e k hl hk hc).trans (h.below9 e k hl hk hc),
   fun e k hl hk hc => (g.below10 e k hl hk hc).trans (h.below10 e k hl hk hc),
   fun e k hl hk hc => (g.below11 e k hl hk hc).trans (h.below11 e k hl hk hc),
   fun e => (g.now e).trans (h.now e),
   fun e => (g.dict e).trans (h.dict e),
   fun e => (g.modes e).trans (h.modes e),
   fun e => (g.fab e).trans (h.fab e),
   fun e => (g.ev e).trans (h.ev e),
   fun e => (g.pwmNow e).trans (h.pwmNow e),
   fun e => (g.legs e).trans (h.legs e),
   fun e => (g.engines e).trans (h.engines e),
   fun e => (g.groups e).trans (h.groups e),
   fun e => (g.matrixFb e).trans (h.matrixFb e),
   fun e => (g.rebinds e).trans (h.rebinds e),
   fun e => (g.bindHeld e).trans (h.bindHeld e),
   fun e => (g.site e).trans (h.site e),
   fun e => (g.ring e).trans (h.ring e),
   fun e => (g.outs e).trans (h.outs e),
   fun e => (g.cools e).trans (h.cools e),
   fun e => (g.ls e).trans (h.ls e),
   fun e => (g.pair e).trans (h.pair e),
   fun e => (g.von e).trans (h.von e),
   fun e => (g.bill e).trans (h.bill e),
   fun e => (g.trust e).trans (h.trust e),
   fun e => (g.upd e).trans (h.upd e),
   fun e => (g.power e).trans (h.power e),
   fun e => (g.sent e).trans (h.sent e)⟩

/-- A record update leaves alone what it does not name. -/
@[simp] theorem Same.lit {m : Nat → Bool} {s t : State} (h : Same m s t) (pt : Part) (x_now : Nat) (x_dict : DictState) (x_modes : ModeState) (x_fab : FabState) (x_ev : EvState) (x_pwmNow : Nat) (x_legs : Vector Leg 32) (x_engines : Vector Engine 38) (x_groups : Vector Group 4) (x_matrixFb : Vector Bool 8) (x_rebinds : List Rebind) (x_bindHeld : List (Nat × Val)) (x_site : SiteState) (x_ring : RingState) (x_outs : Vector Outlet 4) (x_cools : Vector Cool 4) (x_ls : LsState) (x_pair : PairState) (x_von : VonState) (x_bill : BillState) (x_trust : TrustState) (x_upd : UpdState) (x_power : PowerState) (x_sent : List Emit) (fr : Nat) (pe : List Instr)
    (h_now : m 20 = false ∨ x_now = t.now)
    (h_dict : m 21 = false ∨ x_dict = t.dict)
    (h_modes : m 22 = false ∨ x_modes = t.modes)
    (h_fab : m 23 = false ∨ x_fab = t.fab)
    (h_ev : m 24 = false ∨ x_ev = t.ev)
    (h_pwmNow : m 25 = false ∨ x_pwmNow = t.pwmNow)
    (h_legs : m 26 = false ∨ x_legs = t.legs)
    (h_engines : m 27 = false ∨ x_engines = t.engines)
    (h_groups : m 28 = false ∨ x_groups = t.groups)
    (h_matrixFb : m 29 = false ∨ x_matrixFb = t.matrixFb)
    (h_rebinds : m 30 = false ∨ x_rebinds = t.rebinds)
    (h_bindHeld : m 31 = false ∨ x_bindHeld = t.bindHeld)
    (h_site : m 32 = false ∨ x_site = t.site)
    (h_ring : m 33 = false ∨ x_ring = t.ring)
    (h_outs : m 34 = false ∨ x_outs = t.outs)
    (h_cools : m 35 = false ∨ x_cools = t.cools)
    (h_ls : m 36 = false ∨ x_ls = t.ls)
    (h_pair : m 37 = false ∨ x_pair = t.pair)
    (h_von : m 38 = false ∨ x_von = t.von)
    (h_bill : m 39 = false ∨ x_bill = t.bill)
    (h_trust : m 40 = false ∨ x_trust = t.trust)
    (h_upd : m 41 = false ∨ x_upd = t.upd)
    (h_power : m 42 = false ∨ x_power = t.power)
    (h_sent : m 43 = false ∨ x_sent = t.sent) :
    Same m s (State.mk pt t.objs x_now x_dict x_modes x_fab x_ev x_pwmNow x_legs x_engines x_groups x_matrixFb x_rebinds x_bindHeld x_site x_ring x_outs x_cools x_ls x_pair x_von x_bill x_trust x_upd x_power x_sent fr pe) := by
  refine h.trans ⟨fun _ _ _ _ _ => rfl, fun _ _ _ _ _ => rfl, fun _ _ _ _ _ => rfl, fun _ _ _ _ _ => rfl, fun _ _ _ _ _ => rfl, fun _ _ _ _ _ => rfl, fun _ _ _ _ _ => rfl, fun _ _ _ _ _ => rfl, fun _ _ _ _ _ => rfl, fun _ _ _ _ _ => rfl, fun _ _ _ _ _ => rfl, fun _ _ _ _ _ => rfl, fun e => h_now.resolve_left (by simp [e]), fun e => h_dict.resolve_left (by simp [e]), fun e => h_modes.resolve_left (by simp [e]), fun e => h_fab.resolve_left (by simp [e]), fun e => h_ev.resolve_left (by simp [e]), fun e => h_pwmNow.resolve_left (by simp [e]), fun e => h_legs.resolve_left (by simp [e]), fun e => h_engines.resolve_left (by simp [e]), fun e => h_groups.resolve_left (by simp [e]), fun e => h_matrixFb.resolve_left (by simp [e]), fun e => h_rebinds.resolve_left (by simp [e]), fun e => h_bindHeld.resolve_left (by simp [e]), fun e => h_site.resolve_left (by simp [e]), fun e => h_ring.resolve_left (by simp [e]), fun e => h_outs.resolve_left (by simp [e]), fun e => h_cools.resolve_left (by simp [e]), fun e => h_ls.resolve_left (by simp [e]), fun e => h_pair.resolve_left (by simp [e]), fun e => h_von.resolve_left (by simp [e]), fun e => h_bill.resolve_left (by simp [e]), fun e => h_trust.resolve_left (by simp [e]), fun e => h_upd.resolve_left (by simp [e]), fun e => h_power.resolve_left (by simp [e]), fun e => h_sent.resolve_left (by simp [e])⟩

/-- A record update that may change every element. -/
@[simp] theorem Same.litObjs {m : Nat → Bool} {s t : State} (h : Same m s t) (ob : List (Nat × Val)) (x_now : Nat) (x_dict : DictState) (x_modes : ModeState) (x_fab : FabState) (x_ev : EvState) (x_pwmNow : Nat) (x_legs : Vector Leg 32) (x_engines : Vector Engine 38) (x_groups : Vector Group 4) (x_matrixFb : Vector Bool 8) (x_rebinds : List Rebind) (x_bindHeld : List (Nat × Val)) (x_site : SiteState) (x_ring : RingState) (x_outs : Vector Outlet 4) (x_cools : Vector Cool 4) (x_ls : LsState) (x_pair : PairState) (x_von : VonState) (x_bill : BillState) (x_trust : TrustState) (x_upd : UpdState) (x_power : PowerState) (x_sent : List Emit) (fr : Nat) (pe : List Instr)
    (h0 : m 0 = false) (h1 : m 1 = false) (h2 : m 2 = false) (h3 : m 3 = false) (h4 : m 4 = false) (h5 : m 5 = false) (h6 : m 6 = false) (h7 : m 7 = false) (h8 : m 8 = false) (h9 : m 9 = false) (h10 : m 10 = false) (h11 : m 11 = false)
    (h_now : m 20 = false ∨ x_now = t.now)
    (h_dict : m 21 = false ∨ x_dict = t.dict)
    (h_modes : m 22 = false ∨ x_modes = t.modes)
    (h_fab : m 23 = false ∨ x_fab = t.fab)
    (h_ev : m 24 = false ∨ x_ev = t.ev)
    (h_pwmNow : m 25 = false ∨ x_pwmNow = t.pwmNow)
    (h_legs : m 26 = false ∨ x_legs = t.legs)
    (h_engines : m 27 = false ∨ x_engines = t.engines)
    (h_groups : m 28 = false ∨ x_groups = t.groups)
    (h_matrixFb : m 29 = false ∨ x_matrixFb = t.matrixFb)
    (h_rebinds : m 30 = false ∨ x_rebinds = t.rebinds)
    (h_bindHeld : m 31 = false ∨ x_bindHeld = t.bindHeld)
    (h_site : m 32 = false ∨ x_site = t.site)
    (h_ring : m 33 = false ∨ x_ring = t.ring)
    (h_outs : m 34 = false ∨ x_outs = t.outs)
    (h_cools : m 35 = false ∨ x_cools = t.cools)
    (h_ls : m 36 = false ∨ x_ls = t.ls)
    (h_pair : m 37 = false ∨ x_pair = t.pair)
    (h_von : m 38 = false ∨ x_von = t.von)
    (h_bill : m 39 = false ∨ x_bill = t.bill)
    (h_trust : m 40 = false ∨ x_trust = t.trust)
    (h_upd : m 41 = false ∨ x_upd = t.upd)
    (h_power : m 42 = false ∨ x_power = t.power)
    (h_sent : m 43 = false ∨ x_sent = t.sent) :
    Same m s (State.mk t.part ob x_now x_dict x_modes x_fab x_ev x_pwmNow x_legs x_engines x_groups x_matrixFb x_rebinds x_bindHeld x_site x_ring x_outs x_cools x_ls x_pair x_von x_bill x_trust x_upd x_power x_sent fr pe) := by
  refine h.trans ⟨fun e => by simp_all, fun e => by simp_all, fun e => by simp_all, fun e => by simp_all, fun e => by simp_all, fun e => by simp_all, fun e => by simp_all, fun e => by simp_all, fun e => by simp_all, fun e => by simp_all, fun e => by simp_all, fun e => by simp_all, fun e => h_now.resolve_left (by simp [e]), fun e => h_dict.resolve_left (by simp [e]), fun e => h_modes.resolve_left (by simp [e]), fun e => h_fab.resolve_left (by simp [e]), fun e => h_ev.resolve_left (by simp [e]), fun e => h_pwmNow.resolve_left (by simp [e]), fun e => h_legs.resolve_left (by simp [e]), fun e => h_engines.resolve_left (by simp [e]), fun e => h_groups.resolve_left (by simp [e]), fun e => h_matrixFb.resolve_left (by simp [e]), fun e => h_rebinds.resolve_left (by simp [e]), fun e => h_bindHeld.resolve_left (by simp [e]), fun e => h_site.resolve_left (by simp [e]), fun e => h_ring.resolve_left (by simp [e]), fun e => h_outs.resolve_left (by simp [e]), fun e => h_cools.resolve_left (by simp [e]), fun e => h_ls.resolve_left (by simp [e]), fun e => h_pair.resolve_left (by simp [e]), fun e => h_von.resolve_left (by simp [e]), fun e => h_bill.resolve_left (by simp [e]), fun e => h_trust.resolve_left (by simp [e]), fun e => h_upd.resolve_left (by simp [e]), fun e => h_power.resolve_left (by simp [e]), fun e => h_sent.resolve_left (by simp [e])⟩

@[simp] theorem Same.ite {m : Nat → Bool} {s a b : State} (c : Prop) [Decidable c] (ha : Same m s a) (hb : Same m s b) :
    Same m s (if c then a else b) := by split <;> assumption

@[simp] theorem Same.foldl {m : Nat → Bool} {α : Type} {s t : State} (f : State → α → State) (l : List α) (h : Same m s t)
    (hf : ∀ st i, Same m st (f st i)) : Same m s (l.foldl f t) := by
  induction l generalizing t with
  | nil => exact h
  | cons i r ih => exact ih (h.trans (hf t i))

/-- A write of an element leaves alone everything but the elements below that hold it. -/
@[simp] theorem State.put_same {m : Nat → Bool} {t0 s : State} (k : Nat) (v : Val) (hK : Same m t0 s)
    (h0 : m 0 = false ∨ below 0x50000 k = false ∨ tally k = true ∨ below 0x0 k = true)
    (h1 : m 1 = false ∨ below 0x100000 k = false ∨ tally k = true ∨ below 0x0 k = true)
    (h2 : m 2 = false ∨ below 0x500000 k = false ∨ tally k = true ∨ below 0x0 k = true)
    (h3 : m 3 = false ∨ below 0x580000 k = false ∨ tally k = true ∨ below 0x0 k = true)
    (h4 : m 4 = false ∨ below 0x600000 k = false ∨ tally k = true ∨ below 0x0 k = true)
    (h5 : m 5 = false ∨ below 0x700000 k = false ∨ tally k = true ∨ below 0x0 k = true)
    (h6 : m 6 = false ∨ below 0x880000 k = false ∨ tally k = true ∨ below 0x0 k = true)
    (h7 : m 7 = false ∨ below 0xA00000 k = false ∨ tally k = true ∨ below 0x0 k = true)
    (h8 : m 8 = false ∨ below 0xB00000 k = false ∨ tally k = true ∨ below 0x0 k = true)
    (h9 : m 9 = false ∨ below 0x20000 k = false ∨ tally k = true ∨ below 0x10000 k = true)
    (h10 : m 10 = false ∨ below 0x50000 k = false ∨ tally k = true ∨ below 0x20000 k = true)
    (h11 : m 11 = false ∨ below 0x60000 k = false ∨ tally k = true ∨ below 0x50000 k = true) : Same m t0 (s.put k v) := by
  refine hK.trans ⟨?_, ?_, ?_, ?_, ?_, ?_, ?_, ?_, ?_, ?_, ?_, ?_, fun _ => rfl, fun _ => rfl, fun _ => rfl, fun _ => rfl, fun _ => rfl, fun _ => rfl, fun _ => rfl, fun _ => rfl, fun _ => rfl, fun _ => rfl, fun _ => rfl, fun _ => rfl, fun _ => rfl, fun _ => rfl, fun _ => rfl, fun _ => rfl, fun _ => rfl, fun _ => rfl, fun _ => rfl, fun _ => rfl, fun _ => rfl, fun _ => rfl, fun _ => rfl, fun _ => rfl⟩
  all_goals
    intro e j hl hj hc
    refine objGet_put_other _ _ ?_
    rintro rfl
    simp_all [below]
    try omega

end Sys2Proof.Machine
end

