-- ==== Sys2Proof/Laws/SameAll.lean ====
section
/-! SUPPORT. Laws.SameAll: Same for every operation on a state, module by module: which parts it leaves alone. -/

set_option linter.unusedSimpArgs false
set_option linter.unusedVariables false

namespace Sys2Proof.Machine

/-! ## Machine/Ops.lean -/

@[simp] theorem State.putI_same {m0 : Nat → Bool} {t0 : State} {s : State} (k : Nat) (i : Int) (hK : Same m0 t0 s)
    (h0 : m0 0 = false ∨ below 0x50000 k = false ∨ tally k = true ∨ below 0x0 k = true) (h1 : m0 1 = false ∨ below 0x100000 k = false ∨ tally k = true ∨ below 0x0 k = true) (h2 : m0 2 = false ∨ below 0x500000 k = false ∨ tally k = true ∨ below 0x0 k = true) (h3 : m0 3 = false ∨ below 0x580000 k = false ∨ tally k = true ∨ below 0x0 k = true) (h4 : m0 4 = false ∨ below 0x600000 k = false ∨ tally k = true ∨ below 0x0 k = true) (h5 : m0 5 = false ∨ below 0x700000 k = false ∨ tally k = true ∨ below 0x0 k = true) (h6 : m0 6 = false ∨ below 0x880000 k = false ∨ tally k = true ∨ below 0x0 k = true) (h7 : m0 7 = false ∨ below 0xA00000 k = false ∨ tally k = true ∨ below 0x0 k = true) (h8 : m0 8 = false ∨ below 0xB00000 k = false ∨ tally k = true ∨ below 0x0 k = true) (h9 : m0 9 = false ∨ below 0x20000 k = false ∨ tally k = true ∨ below 0x10000 k = true) (h10 : m0 10 = false ∨ below 0x50000 k = false ∨ tally k = true ∨ below 0x20000 k = true) (h11 : m0 11 = false ∨ below 0x60000 k = false ∨ tally k = true ∨ below 0x50000 k = true) :
    Same m0 t0 (State.putI s k i) := by
  unfold State.putI; try dsimp only
  repeat' split
  all_goals first | done | simp (maxDischargeDepth := 60) (decide := true) [hK, h0, h1, h2, h3, h4, h5, h6, h7, h8, h9, h10, h11]

@[simp] theorem State.putN_same {m0 : Nat → Bool} {t0 : State} {s : State} (k : Nat) (n : Nat) (hK : Same m0 t0 s)
    (h0 : m0 0 = false ∨ below 0x50000 k = false ∨ tally k = true ∨ below 0x0 k = true) (h1 : m0 1 = false ∨ below 0x100000 k = false ∨ tally k = true ∨ below 0x0 k = true) (h2 : m0 2 = false ∨ below 0x500000 k = false ∨ tally k = true ∨ below 0x0 k = true) (h3 : m0 3 = false ∨ below 0x580000 k = false ∨ tally k = true ∨ below 0x0 k = true) (h4 : m0 4 = false ∨ below 0x600000 k = false ∨ tally k = true ∨ below 0x0 k = true) (h5 : m0 5 = false ∨ below 0x700000 k = false ∨ tally k = true ∨ below 0x0 k = true) (h6 : m0 6 = false ∨ below 0x880000 k = false ∨ tally k = true ∨ below 0x0 k = true) (h7 : m0 7 = false ∨ below 0xA00000 k = false ∨ tally k = true ∨ below 0x0 k = true) (h8 : m0 8 = false ∨ below 0xB00000 k = false ∨ tally k = true ∨ below 0x0 k = true) (h9 : m0 9 = false ∨ below 0x20000 k = false ∨ tally k = true ∨ below 0x10000 k = true) (h10 : m0 10 = false ∨ below 0x50000 k = false ∨ tally k = true ∨ below 0x20000 k = true) (h11 : m0 11 = false ∨ below 0x60000 k = false ∨ tally k = true ∨ below 0x50000 k = true) :
    Same m0 t0 (State.putN s k n) := by
  unfold State.putN; try dsimp only
  repeat' split
  all_goals first | done | simp (maxDischargeDepth := 60) (decide := true) [hK, h0, h1, h2, h3, h4, h5, h6, h7, h8, h9, h10, h11]

@[simp] theorem State.putB_same {m0 : Nat → Bool} {t0 : State} {s : State} (k : Nat) (bs : List Byte) (hK : Same m0 t0 s)
    (h0 : m0 0 = false ∨ below 0x50000 k = false ∨ tally k = true ∨ below 0x0 k = true) (h1 : m0 1 = false ∨ below 0x100000 k = false ∨ tally k = true ∨ below 0x0 k = true) (h2 : m0 2 = false ∨ below 0x500000 k = false ∨ tally k = true ∨ below 0x0 k = true) (h3 : m0 3 = false ∨ below 0x580000 k = false ∨ tally k = true ∨ below 0x0 k = true) (h4 : m0 4 = false ∨ below 0x600000 k = false ∨ tally k = true ∨ below 0x0 k = true) (h5 : m0 5 = false ∨ below 0x700000 k = false ∨ tally k = true ∨ below 0x0 k = true) (h6 : m0 6 = false ∨ below 0x880000 k = false ∨ tally k = true ∨ below 0x0 k = true) (h7 : m0 7 = false ∨ below 0xA00000 k = false ∨ tally k = true ∨ below 0x0 k = true) (h8 : m0 8 = false ∨ below 0xB00000 k = false ∨ tally k = true ∨ below 0x0 k = true) (h9 : m0 9 = false ∨ below 0x20000 k = false ∨ tally k = true ∨ below 0x10000 k = true) (h10 : m0 10 = false ∨ below 0x50000 k = false ∨ tally k = true ∨ below 0x20000 k = true) (h11 : m0 11 = false ∨ below 0x60000 k = false ∨ tally k = true ∨ below 0x50000 k = true) :
    Same m0 t0 (State.putB s k bs) := by
  unfold State.putB; try dsimp only
  repeat' split
  all_goals first | done | simp (maxDischargeDepth := 60) (decide := true) [hK, h0, h1, h2, h3, h4, h5, h6, h7, h8, h9, h10, h11]

@[simp] theorem State.addC_same {m0 : Nat → Bool} {t0 : State} {s : State} (k : Nat) (n : Nat) (hK : Same m0 t0 s)
    (h0 : m0 0 = false ∨ below 0x50000 k = false ∨ tally k = true ∨ below 0x0 k = true) (h1 : m0 1 = false ∨ below 0x100000 k = false ∨ tally k = true ∨ below 0x0 k = true) (h2 : m0 2 = false ∨ below 0x500000 k = false ∨ tally k = true ∨ below 0x0 k = true) (h3 : m0 3 = false ∨ below 0x580000 k = false ∨ tally k = true ∨ below 0x0 k = true) (h4 : m0 4 = false ∨ below 0x600000 k = false ∨ tally k = true ∨ below 0x0 k = true) (h5 : m0 5 = false ∨ below 0x700000 k = false ∨ tally k = true ∨ below 0x0 k = true) (h6 : m0 6 = false ∨ below 0x880000 k = false ∨ tally k = true ∨ below 0x0 k = true) (h7 : m0 7 = false ∨ below 0xA00000 k = false ∨ tally k = true ∨ below 0x0 k = true) (h8 : m0 8 = false ∨ below 0xB00000 k = false ∨ tally k = true ∨ below 0x0 k = true) (h9 : m0 9 = false ∨ below 0x20000 k = false ∨ tally k = true ∨ below 0x10000 k = true) (h10 : m0 10 = false ∨ below 0x50000 k = false ∨ tally k = true ∨ below 0x20000 k = true) (h11 : m0 11 = false ∨ below 0x60000 k = false ∨ tally k = true ∨ below 0x50000 k = true) :
    Same m0 t0 (State.addC s k n) := by
  unfold State.addC; try dsimp only
  repeat' split
  all_goals first | done | simp (maxDischargeDepth := 60) (decide := true) [hK, h0, h1, h2, h3, h4, h5, h6, h7, h8, h9, h10, h11]

@[simp] theorem State.count_same {m0 : Nat → Bool} {t0 : State} {s : State} (k : Nat) (hK : Same m0 t0 s)
    (h0 : m0 0 = false ∨ below 0x50000 k = false ∨ tally k = true ∨ below 0x0 k = true) (h1 : m0 1 = false ∨ below 0x100000 k = false ∨ tally k = true ∨ below 0x0 k = true) (h2 : m0 2 = false ∨ below 0x500000 k = false ∨ tally k = true ∨ below 0x0 k = true) (h3 : m0 3 = false ∨ below 0x580000 k = false ∨ tally k = true ∨ below 0x0 k = true) (h4 : m0 4 = false ∨ below 0x600000 k = false ∨ tally k = true ∨ below 0x0 k = true) (h5 : m0 5 = false ∨ below 0x700000 k = false ∨ tally k = true ∨ below 0x0 k = true) (h6 : m0 6 = false ∨ below 0x880000 k = false ∨ tally k = true ∨ below 0x0 k = true) (h7 : m0 7 = false ∨ below 0xA00000 k = false ∨ tally k = true ∨ below 0x0 k = true) (h8 : m0 8 = false ∨ below 0xB00000 k = false ∨ tally k = true ∨ below 0x0 k = true) (h9 : m0 9 = false ∨ below 0x20000 k = false ∨ tally k = true ∨ below 0x10000 k = true) (h10 : m0 10 = false ∨ below 0x50000 k = false ∨ tally k = true ∨ below 0x20000 k = true) (h11 : m0 11 = false ∨ below 0x60000 k = false ∨ tally k = true ∨ below 0x50000 k = true) :
    Same m0 t0 (State.count s k) := by
  unfold State.count; try dsimp only
  repeat' split
  all_goals first | done | simp (maxDischargeDepth := 60) (decide := true) [hK, h0, h1, h2, h3, h4, h5, h6, h7, h8, h9, h10, h11]

@[simp] theorem State.putBit_same {m0 : Nat → Bool} {t0 : State} {s : State} (k : Nat) (i : Nat) (b : Bool) (hK : Same m0 t0 s)
    (h0 : m0 0 = false ∨ below 0x50000 k = false ∨ tally k = true ∨ below 0x0 k = true) (h1 : m0 1 = false ∨ below 0x100000 k = false ∨ tally k = true ∨ below 0x0 k = true) (h2 : m0 2 = false ∨ below 0x500000 k = false ∨ tally k = true ∨ below 0x0 k = true) (h3 : m0 3 = false ∨ below 0x580000 k = false ∨ tally k = true ∨ below 0x0 k = true) (h4 : m0 4 = false ∨ below 0x600000 k = false ∨ tally k = true ∨ below 0x0 k = true) (h5 : m0 5 = false ∨ below 0x700000 k = false ∨ tally k = true ∨ below 0x0 k = true) (h6 : m0 6 = false ∨ below 0x880000 k = false ∨ tally k = true ∨ below 0x0 k = true) (h7 : m0 7 = false ∨ below 0xA00000 k = false ∨ tally k = true ∨ below 0x0 k = true) (h8 : m0 8 = false ∨ below 0xB00000 k = false ∨ tally k = true ∨ below 0x0 k = true) (h9 : m0 9 = false ∨ below 0x20000 k = false ∨ tally k = true ∨ below 0x10000 k = true) (h10 : m0 10 = false ∨ below 0x50000 k = false ∨ tally k = true ∨ below 0x20000 k = true) (h11 : m0 11 = false ∨ below 0x60000 k = false ∨ tally k = true ∨ below 0x50000 k = true) :
    Same m0 t0 (State.putBit s k i b) := by
  unfold State.putBit; try dsimp only
  repeat' split
  all_goals first | done | simp (maxDischargeDepth := 60) (decide := true) [hK, h0, h1, h2, h3, h4, h5, h6, h7, h8, h9, h10, h11]

@[simp] theorem State.putMax_same {m0 : Nat → Bool} {t0 : State} {s : State} (k : Nat) (n : Nat) (hK : Same m0 t0 s)
    (h0 : m0 0 = false ∨ below 0x50000 k = false ∨ tally k = true ∨ below 0x0 k = true) (h1 : m0 1 = false ∨ below 0x100000 k = false ∨ tally k = true ∨ below 0x0 k = true) (h2 : m0 2 = false ∨ below 0x500000 k = false ∨ tally k = true ∨ below 0x0 k = true) (h3 : m0 3 = false ∨ below 0x580000 k = false ∨ tally k = true ∨ below 0x0 k = true) (h4 : m0 4 = false ∨ below 0x600000 k = false ∨ tally k = true ∨ below 0x0 k = true) (h5 : m0 5 = false ∨ below 0x700000 k = false ∨ tally k = true ∨ below 0x0 k = true) (h6 : m0 6 = false ∨ below 0x880000 k = false ∨ tally k = true ∨ below 0x0 k = true) (h7 : m0 7 = false ∨ below 0xA00000 k = false ∨ tally k = true ∨ below 0x0 k = true) (h8 : m0 8 = false ∨ below 0xB00000 k = false ∨ tally k = true ∨ below 0x0 k = true) (h9 : m0 9 = false ∨ below 0x20000 k = false ∨ tally k = true ∨ below 0x10000 k = true) (h10 : m0 10 = false ∨ below 0x50000 k = false ∨ tally k = true ∨ below 0x20000 k = true) (h11 : m0 11 = false ∨ below 0x60000 k = false ∨ tally k = true ∨ below 0x50000 k = true) :
    Same m0 t0 (State.putMax s k n) := by
  unfold State.putMax; try dsimp only
  repeat' split
  all_goals first | done | simp (maxDischargeDepth := 60) (decide := true) [hK, h0, h1, h2, h3, h4, h5, h6, h7, h8, h9, h10, h11]

@[simp] theorem State.putStore_same {m0 : Nat → Bool} {t0 : State} {s : State} (k : Nat) (v : Val) (hK : Same m0 t0 s)
    (h21 : m0 21 = false) :
    Same m0 t0 (State.putStore s k v) := by
  exact hK.trans (by constructor <;> intros <;> first | rfl | simp_all)

@[simp] theorem State.putBoth_same {m0 : Nat → Bool} {t0 : State} {s : State} (k : Nat) (v : Val) (hK : Same m0 t0 s)
    (h0 : m0 0 = false ∨ below 0x50000 k = false ∨ tally k = true ∨ below 0x0 k = true) (h1 : m0 1 = false ∨ below 0x100000 k = false ∨ tally k = true ∨ below 0x0 k = true) (h2 : m0 2 = false ∨ below 0x500000 k = false ∨ tally k = true ∨ below 0x0 k = true) (h3 : m0 3 = false ∨ below 0x580000 k = false ∨ tally k = true ∨ below 0x0 k = true) (h4 : m0 4 = false ∨ below 0x600000 k = false ∨ tally k = true ∨ below 0x0 k = true) (h5 : m0 5 = false ∨ below 0x700000 k = false ∨ tally k = true ∨ below 0x0 k = true) (h6 : m0 6 = false ∨ below 0x880000 k = false ∨ tally k = true ∨ below 0x0 k = true) (h7 : m0 7 = false ∨ below 0xA00000 k = false ∨ tally k = true ∨ below 0x0 k = true) (h8 : m0 8 = false ∨ below 0xB00000 k = false ∨ tally k = true ∨ below 0x0 k = true) (h9 : m0 9 = false ∨ below 0x20000 k = false ∨ tally k = true ∨ below 0x10000 k = true) (h10 : m0 10 = false ∨ below 0x50000 k = false ∨ tally k = true ∨ below 0x20000 k = true) (h11 : m0 11 = false ∨ below 0x60000 k = false ∨ tally k = true ∨ below 0x50000 k = true) (h21 : m0 21 = false) :
    Same m0 t0 (State.putBoth s k v) := by
  unfold State.putBoth; try dsimp only
  repeat' split
  all_goals first | done | simp (maxDischargeDepth := 60) (decide := true) [hK, h0, h1, h2, h3, h4, h5, h6, h7, h8, h9, h10, h11, h21]

@[simp] theorem State.send_same {m0 : Nat → Bool} {t0 : State} {s : State} (e : Emit) (hK : Same m0 t0 s)
    (h43 : m0 43 = false) :
    Same m0 t0 (State.send s e) := by
  unfold State.send; try dsimp only
  repeat' split
  all_goals first | done | simp (maxDischargeDepth := 60) (decide := true) [hK, h43]

@[simp] theorem State.drawn_same {m0 : Nat → Bool} {t0 : State} {s : State} (hK : Same m0 t0 s)
     :
    Same m0 t0 (State.drawn s) := by
  unfold State.drawn; try dsimp only
  repeat' split
  all_goals first | done | simp (maxDischargeDepth := 60) (decide := true) [hK]

@[simp] theorem State.mirror_same {m0 : Nat → Bool} {t0 : State} {s : State} (it : MirrorItem) (hK : Same m0 t0 s)
    (h43 : m0 43 = false) :
    Same m0 t0 (State.mirror s it) := by
  unfold State.mirror; try dsimp only
  repeat' split
  all_goals first | done | simp (maxDischargeDepth := 60) (decide := true) [hK, h43]

@[simp] theorem State.measureLat_same {m0 : Nat → Bool} {t0 : State} {s : State} (k : Nat) (place : Nat) (boundTicks : Nat) (bounded : Bool) (hK : Same m0 t0 s)
    (h0 : m0 0 = false) (h1 : m0 1 = false) (h2 : m0 2 = false) (h3 : m0 3 = false) (h4 : m0 4 = false) (h5 : m0 5 = false) (h6 : m0 6 = false) (h7 : m0 7 = false) (h8 : m0 8 = false) (h9 : m0 9 = false) (h10 : m0 10 = false) (h11 : m0 11 = false) :
    Same m0 t0 (State.measureLat s k place boundTicks bounded) := by
  unfold State.measureLat; try dsimp only
  repeat' split
  all_goals first | done | simp (maxDischargeDepth := 60) (decide := true) [hK, h0, h1, h2, h3, h4, h5, h6, h7, h8, h9, h10, h11]

@[simp] theorem State.setRes_same {m0 : Nat → Bool} {t0 : State} {s : State} (c : CmdId) (r : Res) (hK : Same m0 t0 s)
    (h21 : m0 21 = false) :
    Same m0 t0 (State.setRes s c r) := by
  unfold State.setRes; try dsimp only
  repeat' split
  all_goals first | done | simp (maxDischargeDepth := 60) (decide := true) [hK, h21]

@[simp] theorem State.startCmd_same {m0 : Nat → Bool} {t0 : State} {s : State} (c : CmdId) (arg : Nat) (hK : Same m0 t0 s)
    (h21 : m0 21 = false) :
    Same m0 t0 (State.startCmd s c arg) := by
  unfold State.startCmd; try dsimp only
  repeat' split
  all_goals first | done | simp (maxDischargeDepth := 60) (decide := true) [hK, h21]

@[simp] theorem State.endCmd_same {m0 : Nat → Bool} {t0 : State} {s : State} (c : CmdId) (st : ResStatus) (detail : Nat) (value : Nat) (hK : Same m0 t0 s)
    (h21 : m0 21 = false) :
    Same m0 t0 (State.endCmd s c st detail value) := by
  unfold State.endCmd; try dsimp only
  repeat' split
  all_goals first | done | simp (maxDischargeDepth := 60) (decide := true) [hK, h21]

@[simp] theorem State.completed_same {m0 : Nat → Bool} {t0 : State} {s : State} (c : CmdId) (detail : Nat) (value : Nat) (hK : Same m0 t0 s)
    (h21 : m0 21 = false) :
    Same m0 t0 (State.completed s c detail value) := by
  unfold State.completed; try dsimp only
  repeat' split
  all_goals first | done | simp (maxDischargeDepth := 60) (decide := true) [hK, h21]

@[simp] theorem State.refusedWith_same {m0 : Nat → Bool} {t0 : State} {s : State} (c : CmdId) (detail : Nat) (hK : Same m0 t0 s)
    (h21 : m0 21 = false) :
    Same m0 t0 (State.refusedWith s c detail) := by
  unfold State.refusedWith; try dsimp only
  repeat' split
  all_goals first | done | simp (maxDischargeDepth := 60) (decide := true) [hK, h21]

@[simp] theorem State.failedWith_same {m0 : Nat → Bool} {t0 : State} {s : State} (c : CmdId) (detail : Nat) (hK : Same m0 t0 s)
    (h21 : m0 21 = false) :
    Same m0 t0 (State.failedWith s c detail) := by
  unfold State.failedWith; try dsimp only
  repeat' split
  all_goals first | done | simp (maxDischargeDepth := 60) (decide := true) [hK, h21]

@[simp] theorem State.live_same {m0 : Nat → Bool} {t0 : State} {s : State} (f : State → State) (hK : Same m0 t0 s) (qf : ∀ x, Same m0 x (f x))
     :
    Same m0 t0 (State.live s f) := by
  unfold State.live; split
  · exact hK.trans (qf s)
  · exact hK

@[simp] theorem State.answer_same {m0 : Nat → Bool} {t0 : State} {s : State} (src : Src) (opcode : Nat) (tag : Nat) (st : Status) (data : List Byte) (hK : Same m0 t0 s)
    (h21 : m0 21 = false) :
    Same m0 t0 (State.answer s src opcode tag st data) := by
  unfold State.answer; try dsimp only
  repeat' split
  all_goals first | done | simp (maxDischargeDepth := 60) (decide := true) [hK, h21]

@[simp] theorem State.answerW_same {m0 : Nat → Bool} {t0 : State} {s : State} (h : Hdr) (st : Status) (hK : Same m0 t0 s)
    (h21 : m0 21 = false) :
    Same m0 t0 (State.answerW s h st) := by
  unfold State.answerW; try dsimp only
  repeat' split
  all_goals first | done | simp (maxDischargeDepth := 60) (decide := true) [hK, h21]

@[simp] theorem State.answerR_same {m0 : Nat → Bool} {t0 : State} {s : State} (h : Hdr) (st : Status) (data : List Byte) (hK : Same m0 t0 s)
    (h21 : m0 21 = false) :
    Same m0 t0 (State.answerR s h st data) := by
  unfold State.answerR; try dsimp only
  repeat' split
  all_goals first | done | simp (maxDischargeDepth := 60) (decide := true) [hK, h21]

@[simp] theorem State.archiveWrite_same {m0 : Nat → Bool} {t0 : State} {s : State} (p : Packet) (origin : Nat) (hK : Same m0 t0 s)
    (h24 : m0 24 = false) :
    Same m0 t0 (State.archiveWrite s p origin) := by
  unfold State.archiveWrite; try dsimp only
  repeat' split
  all_goals first | done | simp (maxDischargeDepth := 60) (decide := true) [hK, h24]

@[simp] theorem State.deferPacket_same {m0 : Nat → Bool} {t0 : State} {s : State} (ring : Bool) (origin : Nat) (p : Packet) (hK : Same m0 t0 s)
    (h24 : m0 24 = false) :
    Same m0 t0 (State.deferPacket s ring origin p) := by
  unfold State.deferPacket; try dsimp only
  repeat' split
  all_goals first | done | simp (maxDischargeDepth := 60) (decide := true) [hK, h24]

@[simp] theorem State.toLane_same {m0 : Nat → Bool} {t0 : State} {s : State} (p : Packet) (hK : Same m0 t0 s)
    (h24 : m0 24 = false) :
    Same m0 t0 (State.toLane s p) := by
  unfold State.toLane; try dsimp only
  repeat' split
  all_goals first | done | simp (maxDischargeDepth := 60) (decide := true) [hK, h24]

@[simp] theorem State.toOutbox_same {m0 : Nat → Bool} {t0 : State} {s : State} (p : Packet) (hK : Same m0 t0 s)
    (h24 : m0 24 = false) :
    Same m0 t0 (State.toOutbox s p) := by
  unfold State.toOutbox; try dsimp only
  repeat' split
  all_goals first | done | simp (maxDischargeDepth := 60) (decide := true) [hK, h24]

@[simp] theorem State.dispatch_same {m0 : Nat → Bool} {t0 : State} {s : State} (r : Route) (p : Packet) (hK : Same m0 t0 s)
    (h24 : m0 24 = false) :
    Same m0 t0 (State.dispatch s r p) := by
  unfold State.dispatch; try dsimp only
  repeat' split
  all_goals first | done | simp (maxDischargeDepth := 60) (decide := true) [hK, h24]

@[simp] theorem State.routePennant_same {m0 : Nat → Bool} {t0 : State} {s : State} (r : Route) (p : Packet) (hK : Same m0 t0 s)
    (h24 : m0 24 = false) :
    Same m0 t0 (State.routePennant s r p) := by
  unfold State.routePennant; try dsimp only
  repeat' split
  all_goals first | done | simp (maxDischargeDepth := 60) (decide := true) [hK, h24]

@[simp] theorem State.traceSample_same {m0 : Nat → Bool} {t0 : State} {s : State} (kind : Nat) (inst : Nat) (reference : Nat) (word : Nat) (hK : Same m0 t0 s)
    (h24 : m0 24 = false) :
    Same m0 t0 (State.traceSample s kind inst reference word) := by
  unfold State.traceSample; try dsimp only
  repeat' split
  all_goals first | done | simp (maxDischargeDepth := 60) (decide := true) [hK, h24]

@[simp] theorem State.traceLoop_same {m0 : Nat → Bool} {t0 : State} {s : State} (n : Fin 32) (reference : Nat) (iavg : Int) (icmd : Int) (hK : Same m0 t0 s)
    (h24 : m0 24 = false) :
    Same m0 t0 (State.traceLoop s n reference iavg icmd) := by
  unfold State.traceLoop; try dsimp only
  repeat' split
  all_goals first | done | simp (maxDischargeDepth := 60) (decide := true) [hK, h24]

@[simp] theorem State.raiseVal_same {m0 : Nat → Bool} {t0 : State} {s : State} (source : Nat) (event : Nat) (prio : Nat) (detailKind : Nat) (before : Nat) (extra : Nat) (a : Nat) (hK : Same m0 t0 s)
    (h24 : m0 24 = false) :
    Same m0 t0 (State.raiseVal s source event prio detailKind before extra a) := by
  unfold State.raiseVal; try dsimp only
  repeat' split
  all_goals first | done | simp (maxDischargeDepth := 60) (decide := true) [hK, h24]

@[simp] theorem State.raise_same {m0 : Nat → Bool} {t0 : State} {s : State} (source : Nat) (event : Nat) (prio : Nat) (detailKind : Nat) (before : Nat) (extra : Nat) (hK : Same m0 t0 s)
    (h24 : m0 24 = false) :
    Same m0 t0 (State.raise s source event prio detailKind before extra) := by
  unfold State.raise; try dsimp only
  repeat' split
  all_goals first | done | simp (maxDischargeDepth := 60) (decide := true) [hK, h24]

@[simp] theorem State.raise1_same {m0 : Nat → Bool} {t0 : State} {s : State} (source : Nat) (event : Nat) (prio : Nat) (before : Val) (hK : Same m0 t0 s)
    (h24 : m0 24 = false) :
    Same m0 t0 (State.raise1 s source event prio before) := by
  unfold State.raise1; try dsimp only
  repeat' split
  all_goals first | done | simp (maxDischargeDepth := 60) (decide := true) [hK, h24]

@[simp] theorem State.raiseCat_same {m0 : Nat → Bool} {t0 : State} {s : State} (source : Nat) (object : Nat) (condition : Nat) (before : Val) (hK : Same m0 t0 s)
    (h24 : m0 24 = false) :
    Same m0 t0 (State.raiseCat s source object condition before) := by
  unfold State.raiseCat; try dsimp only
  repeat' split
  all_goals first | done | simp (maxDischargeDepth := 60) (decide := true) [hK, h24]

@[simp] theorem State.raiseCatV_same {m0 : Nat → Bool} {t0 : State} {s : State} (source : Nat) (object : Nat) (condition : Nat) (prio : Nat) (before : Nat) (after : Nat) (hK : Same m0 t0 s)
    (h24 : m0 24 = false) :
    Same m0 t0 (State.raiseCatV s source object condition prio before after) := by
  unfold State.raiseCatV; try dsimp only
  repeat' split
  all_goals first | done | simp (maxDischargeDepth := 60) (decide := true) [hK, h24]

@[simp] theorem State.raiseCatP_same {m0 : Nat → Bool} {t0 : State} {s : State} (source : Nat) (object : Nat) (condition : Nat) (prio : Nat) (before : Val) (hK : Same m0 t0 s)
    (h24 : m0 24 = false) :
    Same m0 t0 (State.raiseCatP s source object condition prio before) := by
  unfold State.raiseCatP; try dsimp only
  repeat' split
  all_goals first | done | simp (maxDischargeDepth := 60) (decide := true) [hK, h24]

/-! ## Machine/Access.lean -/

@[simp] theorem State.hostWrite_same {m0 : Nat → Bool} {t0 : State} {s : State} (h : Hdr) (k : Nat) (n : Nat) (effect : State → State) (hK : Same m0 t0 s) (qeffect : ∀ x, Same m0 x (effect x))
    (h21 : m0 21 = false) :
    Same m0 t0 (State.hostWrite s h k n effect) := by
  unfold State.hostWrite
  repeat' split
  all_goals first | exact hK | exact State.answerW_same _ _ (hK.trans (qeffect s)) h21 | simp (maxDischargeDepth := 60) (decide := true) [hK, qeffect, h21]

@[simp] theorem State.hostCmd_same {m0 : Nat → Bool} {t0 : State} {s : State} (h : Hdr) (c : CmdId) (arg : Nat) (start : State → State) (hK : Same m0 t0 s) (qstart : ∀ x, Same m0 x (start x))
    (h21 : m0 21 = false) :
    Same m0 t0 (State.hostCmd s h c arg start) := by
  exact State.hostWrite_same _ _ _ _ hK (fun x => (State.startCmd_same c arg (Same.refl _ x) h21).trans (qstart _)) h21

@[simp] theorem State.setStaging_same {m0 : Nat → Bool} {t0 : State} {s : State} (l : List (Nat × Val)) (hK : Same m0 t0 s)
    (h0 : m0 0 = false) (h1 : m0 1 = false) (h2 : m0 2 = false) (h3 : m0 3 = false) (h4 : m0 4 = false) (h5 : m0 5 = false) (h6 : m0 6 = false) (h7 : m0 7 = false) (h8 : m0 8 = false) (h10 : m0 10 = false) (h21 : m0 21 = false) :
    Same m0 t0 (State.setStaging s l) := by
  unfold State.setStaging; try dsimp only
  repeat' split
  all_goals first | done | simp (maxDischargeDepth := 60) (decide := true) [hK, h0, h1, h2, h3, h4, h5, h6, h7, h8, h10, h21]

/-! ## Machine/Keys.lean -/

@[simp] theorem State.setSlot_same {m0 : Nat → Bool} {t0 : State} {s : State} (n : Nat) (k : KeySlot) (hK : Same m0 t0 s)
    (h40 : m0 40 = false) :
    Same m0 t0 (State.setSlot s n k) := by
  unfold State.setSlot; try dsimp only
  repeat' split
  all_goals first | done | simp (maxDischargeDepth := 60) (decide := true) [hK, h40]

@[simp] theorem State.createReject_same {m0 : Nat → Bool} {t0 : State} {s : State} (e : Nat) (hK : Same m0 t0 s)
    (h8 : m0 8 = false) :
    Same m0 t0 (State.createReject s e).1 := by
  unfold State.createReject; try dsimp only
  repeat' split
  all_goals first | done | simp (maxDischargeDepth := 60) (decide := true) [hK, h8]

@[simp] theorem State.keyCreate_same {m0 : Nat → Bool} {t0 : State} {s : State} (slot : Nat) (method : Nat) (rsv : Nat) (w : Nat) (rest : List Byte) (hK : Same m0 t0 s)
    (h8 : m0 8 = false) (h21 : m0 21 = false) (h24 : m0 24 = false) (h40 : m0 40 = false) :
    Same m0 t0 (State.keyCreate s slot method rsv w rest).1 := by
  unfold State.keyCreate; try dsimp only
  repeat' split
  all_goals first | done | simp (maxDischargeDepth := 60) (decide := true) [hK, h8, h21, h24, h40]

@[simp] theorem State.keyCreateBytes_same {m0 : Nat → Bool} {t0 : State} {s : State} (bs : List Byte) (hK : Same m0 t0 s)
    (h8 : m0 8 = false) (h21 : m0 21 = false) (h24 : m0 24 = false) (h40 : m0 40 = false) :
    Same m0 t0 (State.keyCreateBytes s bs).1 := by
  unfold State.keyCreateBytes; try dsimp only
  repeat' split
  all_goals first | done | simp (maxDischargeDepth := 60) (decide := true) [hK, h8, h21, h24, h40]

@[simp] theorem State.hostWriteB_same {m0 : Nat → Bool} {t0 : State} {s : State} (h : Hdr) (k : Nat) (data : List Byte) (effect : State → State × Status) (hK : Same m0 t0 s) (qeffect : ∀ x, Same m0 x (effect x).1)
    (h21 : m0 21 = false) :
    Same m0 t0 (State.hostWriteB s h k data effect) := by
  unfold State.hostWriteB
  repeat' split
  all_goals first | exact hK | exact State.answerW_same _ _ (hK.trans (qeffect s)) h21 | simp (maxDischargeDepth := 60) (decide := true) [hK, qeffect, h21]

@[simp] theorem State.hostCreate_same {m0 : Nat → Bool} {t0 : State} {s : State} (h : Hdr) (slot : Nat) (method : Nat) (rsv : Nat) (w : Nat) (rest : List Byte) (hK : Same m0 t0 s)
    (h8 : m0 8 = false) (h21 : m0 21 = false) (h24 : m0 24 = false) (h40 : m0 40 = false) :
    Same m0 t0 (State.hostCreate s h slot method rsv w rest) := by
  unfold State.hostCreate; try dsimp only
  repeat' split
  all_goals first | done | simp (maxDischargeDepth := 60) (decide := true) [hK, h8, h21, h24, h40]

@[simp] theorem State.touchCopy_same {m0 : Nat → Bool} {t0 : State} {s : State} (n : Nat) (hK : Same m0 t0 s)
    (h40 : m0 40 = false) :
    Same m0 t0 (State.touchCopy s n) := by
  unfold State.touchCopy; try dsimp only
  repeat' split
  all_goals first | done | simp (maxDischargeDepth := 60) (decide := true) [hK, h40]

@[simp] theorem State.keyAsk_same {m0 : Nat → Bool} {t0 : State} {s : State} (slot : Nat) (engine : Nat) (use : Nat) (hK : Same m0 t0 s)
    (h8 : m0 8 = false) (h24 : m0 24 = false) (h40 : m0 40 = false) :
    Same m0 t0 (State.keyAsk s slot engine use).1 := by
  unfold State.keyAsk; try dsimp only
  repeat' split
  all_goals first | done | simp (maxDischargeDepth := 60) (decide := true) [hK, h8, h24, h40]

@[simp] theorem State.remask_same {m0 : Nat → Bool} {t0 : State} {s : State} (late : Bool) (hK : Same m0 t0 s)
    (h8 : m0 8 = false) (h24 : m0 24 = false) (h40 : m0 40 = false) :
    Same m0 t0 (State.remask s late) := by
  unfold State.remask; try dsimp only
  repeat' split
  all_goals first | done | simp (maxDischargeDepth := 60) (decide := true) [hK, h8, h24, h40]

@[simp] theorem State.orphan_same {m0 : Nat → Bool} {t0 : State} {s : State} (l : List Nat) (hK : Same m0 t0 s)
    (h40 : m0 40 = false) :
    Same m0 t0 (State.orphan s l) := by
  unfold State.orphan; try dsimp only
  repeat' split
  all_goals first | done | simp (maxDischargeDepth := 60) (decide := true) [hK, h40]

@[simp] theorem State.keyDestroy_same {m0 : Nat → Bool} {t0 : State} {s : State} (arg : Nat) (hK : Same m0 t0 s)
    (h8 : m0 8 = false) (h21 : m0 21 = false) (h40 : m0 40 = false) :
    Same m0 t0 (State.keyDestroy s arg) := by
  unfold State.keyDestroy; try dsimp only
  repeat' split
  all_goals first | done | simp (maxDischargeDepth := 60) (decide := true) [hK, h8, h21, h40]

@[simp] theorem State.slotErased_same {m0 : Nat → Bool} {t0 : State} {s : State} (n : Nat) (hK : Same m0 t0 s)
    (h8 : m0 8 = false) (h40 : m0 40 = false) :
    Same m0 t0 (State.slotErased s n) := by
  unfold State.slotErased; try dsimp only
  repeat' split
  all_goals first | done | simp (maxDischargeDepth := 60) (decide := true) [hK, h8, h40]

@[simp] theorem State.csrSubject_same {m0 : Nat → Bool} {t0 : State} {s : State} (data : List Byte) (hK : Same m0 t0 s)
    (h8 : m0 8 = false) (h21 : m0 21 = false) :
    Same m0 t0 (State.csrSubject s data).1 := by
  unfold State.csrSubject; try dsimp only
  repeat' split
  all_goals first | done | simp (maxDischargeDepth := 60) (decide := true) [hK, h8, h21]

/-! ## Machine/Classes.lean -/

@[simp] theorem State.setBeh_same {m0 : Nat → Bool} {t0 : State} {s : State} (c : Fin 8) (b : Beh) (hK : Same m0 t0 s)
    (h22 : m0 22 = false) :
    Same m0 t0 (State.setBeh s c b) := by
  unfold State.setBeh; try dsimp only
  repeat' split
  all_goals first | done | simp (maxDischargeDepth := 60) (decide := true) [hK, h22]

@[simp] theorem State.refreshTransit_same {m0 : Nat → Bool} {t0 : State} {s : State} (hK : Same m0 t0 s)
    (h0 : m0 0 = false) (h1 : m0 1 = false) (h2 : m0 2 = false) (h3 : m0 3 = false) (h4 : m0 4 = false) (h5 : m0 5 = false) (h6 : m0 6 = false) (h7 : m0 7 = false) (h8 : m0 8 = false) (h9 : m0 9 = false) :
    Same m0 t0 (State.refreshTransit s) := by
  unfold State.refreshTransit; try dsimp only
  repeat' split
  all_goals first | done | simp (maxDischargeDepth := 60) (decide := true) [hK, h0, h1, h2, h3, h4, h5, h6, h7, h8, h9]

@[simp] theorem State.arrive_same {m0 : Nat → Bool} {t0 : State} {s : State} (c : Fin 8) (hK : Same m0 t0 s)
    (h0 : m0 0 = false) (h1 : m0 1 = false) (h2 : m0 2 = false) (h3 : m0 3 = false) (h4 : m0 4 = false) (h5 : m0 5 = false) (h6 : m0 6 = false) (h7 : m0 7 = false) (h8 : m0 8 = false) (h9 : m0 9 = false) (h22 : m0 22 = false) :
    Same m0 t0 (State.arrive s c) := by
  unfold State.arrive; try dsimp only
  repeat' split
  all_goals first | done | simp (maxDischargeDepth := 60) (decide := true) [hK, h0, h1, h2, h3, h4, h5, h6, h7, h8, h9, h22]

/-! ## Machine/Phase.lean -/

@[simp] theorem State.setLeg_same {m0 : Nat → Bool} {t0 : State} {s : State} (n : Fin 32) (l : Leg) (hK : Same m0 t0 s)
    (h26 : m0 26 = false) :
    Same m0 t0 (State.setLeg s n l) := by
  unfold State.setLeg; try dsimp only
  repeat' split
  all_goals first | done | simp (maxDischargeDepth := 60) (decide := true) [hK, h26]

@[simp] theorem State.setGroup_same {m0 : Nat → Bool} {t0 : State} {s : State} (g : Fin 4) (x : Group) (hK : Same m0 t0 s)
    (h28 : m0 28 = false) :
    Same m0 t0 (State.setGroup s g x) := by
  unfold State.setGroup; try dsimp only
  repeat' split
  all_goals first | done | simp (maxDischargeDepth := 60) (decide := true) [hK, h28]

@[simp] theorem State.forLegs_same {m0 : Nat → Bool} {t0 : State} {s : State} (g : Fin 4) (f : Fin 32 → State → State) (hK : Same m0 t0 s) (qf : ∀ i x, Same m0 x (f i x))
     :
    Same m0 t0 (State.forLegs s g f) := by
  unfold State.forLegs; try dsimp only
  repeat' split
  all_goals first | done | simp (maxDischargeDepth := 60) (decide := true) [hK, qf]

@[simp] theorem State.forAllLegs_same {m0 : Nat → Bool} {t0 : State} {s : State} (f : Fin 32 → State → State) (hK : Same m0 t0 s) (qf : ∀ i x, Same m0 x (f i x))
     :
    Same m0 t0 (State.forAllLegs s f) := by
  unfold State.forAllLegs; try dsimp only
  repeat' split
  all_goals first | done | simp (maxDischargeDepth := 60) (decide := true) [hK, qf]

@[simp] theorem State.putLeg_same {m0 : Nat → Bool} {t0 : State} {s : State} (n : Fin 32) (l : Leg) (hK : Same m0 t0 s)
    (h2 : m0 2 = false) (h3 : m0 3 = false) (h4 : m0 4 = false) (h5 : m0 5 = false) (h6 : m0 6 = false) (h7 : m0 7 = false) (h8 : m0 8 = false) (h26 : m0 26 = false) :
    Same m0 t0 (State.putLeg s n l) := by
  unfold State.putLeg; try dsimp only
  repeat' split
  all_goals first | done | simp (maxDischargeDepth := 60) (decide := true) [hK, h2, h3, h4, h5, h6, h7, h8, h26]

@[simp] theorem State.putFt_same {m0 : Nat → Bool} {t0 : State} {s : State} (k : Nat) (ft : Nat) (hK : Same m0 t0 s)
    (h0 : m0 0 = false) (h1 : m0 1 = false) (h2 : m0 2 = false) (h3 : m0 3 = false) (h4 : m0 4 = false) (h5 : m0 5 = false) (h6 : m0 6 = false) (h7 : m0 7 = false) (h8 : m0 8 = false) (h9 : m0 9 = false) (h10 : m0 10 = false) (h11 : m0 11 = false) :
    Same m0 t0 (State.putFt s k ft) := by
  unfold State.putFt; try dsimp only
  repeat' split
  all_goals first | done | simp (maxDischargeDepth := 60) (decide := true) [hK, h0, h1, h2, h3, h4, h5, h6, h7, h8, h9, h10, h11]

@[simp] theorem State.parkLeg_same {m0 : Nat → Bool} {t0 : State} {s : State} (n : Fin 32) (hK : Same m0 t0 s)
    (h0 : m0 0 = false) (h1 : m0 1 = false) (h2 : m0 2 = false) (h3 : m0 3 = false) (h4 : m0 4 = false) (h5 : m0 5 = false) (h6 : m0 6 = false) (h7 : m0 7 = false) (h8 : m0 8 = false) (h9 : m0 9 = false) (h10 : m0 10 = false) (h11 : m0 11 = false) (h26 : m0 26 = false) :
    Same m0 t0 (State.parkLeg s n) := by
  unfold State.parkLeg; try dsimp only
  repeat' split
  all_goals first | done | simp (maxDischargeDepth := 60) (decide := true) [hK, h0, h1, h2, h3, h4, h5, h6, h7, h8, h9, h10, h11, h26]

@[simp] theorem State.parkGroup_same {m0 : Nat → Bool} {t0 : State} {s : State} (g : Fin 4) (hK : Same m0 t0 s)
    (h0 : m0 0 = false) (h1 : m0 1 = false) (h2 : m0 2 = false) (h3 : m0 3 = false) (h4 : m0 4 = false) (h5 : m0 5 = false) (h6 : m0 6 = false) (h7 : m0 7 = false) (h8 : m0 8 = false) (h9 : m0 9 = false) (h10 : m0 10 = false) (h11 : m0 11 = false) (h26 : m0 26 = false) (h28 : m0 28 = false) :
    Same m0 t0 (State.parkGroup s g) := by
  unfold State.parkGroup; try dsimp only
  repeat' split
  all_goals first | done | simp (maxDischargeDepth := 60) (decide := true) [hK, h0, h1, h2, h3, h4, h5, h6, h7, h8, h9, h10, h11, h26, h28]

@[simp] theorem State.leavePark_same {m0 : Nat → Bool} {t0 : State} {s : State} (n : Fin 32) (hK : Same m0 t0 s)
    (h26 : m0 26 = false) :
    Same m0 t0 (State.leavePark s n) := by
  unfold State.leavePark; try dsimp only
  repeat' split
  all_goals first | done | simp (maxDischargeDepth := 60) (decide := true) [hK, h26]

@[simp] theorem State.setShare_same {m0 : Nat → Bool} {t0 : State} {s : State} (n : Fin 32) (share : Int) (entry : Nat) (hK : Same m0 t0 s)
    (h2 : m0 2 = false) (h3 : m0 3 = false) (h4 : m0 4 = false) (h5 : m0 5 = false) (h6 : m0 6 = false) (h7 : m0 7 = false) (h8 : m0 8 = false) (h26 : m0 26 = false) :
    Same m0 t0 (State.setShare s n share entry) := by
  unfold State.setShare; try dsimp only
  repeat' split
  all_goals first | done | simp (maxDischargeDepth := 60) (decide := true) [hK, h2, h3, h4, h5, h6, h7, h8, h26]

@[simp] theorem State.endEntries_same {m0 : Nat → Bool} {t0 : State} {s : State} (g : Fin 4) (hK : Same m0 t0 s)
    (h26 : m0 26 = false) :
    Same m0 t0 (State.endEntries s g) := by
  unfold State.endEntries; try dsimp only
  repeat' split
  all_goals first | done | simp (maxDischargeDepth := 60) (decide := true) [hK, h26]

@[simp] theorem State.latchShare_same {m0 : Nat → Bool} {t0 : State} {s : State} (n : Fin 32) (hK : Same m0 t0 s)
    (h2 : m0 2 = false) (h3 : m0 3 = false) (h4 : m0 4 = false) (h5 : m0 5 = false) (h6 : m0 6 = false) (h7 : m0 7 = false) (h8 : m0 8 = false) (h26 : m0 26 = false) :
    Same m0 t0 (State.latchShare s n) := by
  unfold State.latchShare; try dsimp only
  repeat' split
  all_goals first | done | simp (maxDischargeDepth := 60) (decide := true) [hK, h2, h3, h4, h5, h6, h7, h8, h26]

@[simp] theorem State.noteLeft_same {m0 : Nat → Bool} {t0 : State} {s : State} (g : Fin 4) (t : Nat) (hK : Same m0 t0 s)
    (h28 : m0 28 = false) :
    Same m0 t0 (State.noteLeft s g t) := by
  unfold State.noteLeft; try dsimp only
  repeat' split
  all_goals first | done | simp (maxDischargeDepth := 60) (decide := true) [hK, h28]

@[simp] theorem State.toShadow_same {m0 : Nat → Bool} {t0 : State} {s : State} (n : Fin 32) (t : Nat) (u : Upd) (hK : Same m0 t0 s)
    (h2 : m0 2 = false) (h3 : m0 3 = false) (h4 : m0 4 = false) (h5 : m0 5 = false) (h6 : m0 6 = false) (h7 : m0 7 = false) (h8 : m0 8 = false) (h26 : m0 26 = false) :
    Same m0 t0 (State.toShadow s n t u) := by
  unfold State.toShadow; try dsimp only
  repeat' split
  all_goals first | done | simp (maxDischargeDepth := 60) (decide := true) [hK, h2, h3, h4, h5, h6, h7, h8, h26]

@[simp] theorem State.legUpdate_same {m0 : Nat → Bool} {t0 : State} {s : State} (n : Fin 32) (t : Nat) (u : Upd) (hK : Same m0 t0 s)
    (h2 : m0 2 = false) (h3 : m0 3 = false) (h4 : m0 4 = false) (h5 : m0 5 = false) (h6 : m0 6 = false) (h7 : m0 7 = false) (h8 : m0 8 = false) (h26 : m0 26 = false) :
    Same m0 t0 (State.legUpdate s n t u) := by
  unfold State.legUpdate; try dsimp only
  repeat' split
  all_goals first | done | simp (maxDischargeDepth := 60) (decide := true) [hK, h2, h3, h4, h5, h6, h7, h8, h26]

@[simp] theorem State.armRelease_same {m0 : Nat → Bool} {t0 : State} {s : State} (n : Fin 32) (t : Nat) (hK : Same m0 t0 s)
    (h2 : m0 2 = false) (h3 : m0 3 = false) (h4 : m0 4 = false) (h5 : m0 5 = false) (h6 : m0 6 = false) (h7 : m0 7 = false) (h8 : m0 8 = false) (h26 : m0 26 = false) :
    Same m0 t0 (State.armRelease s n t) := by
  unfold State.armRelease; try dsimp only
  repeat' split
  all_goals first | done | simp (maxDischargeDepth := 60) (decide := true) [hK, h2, h3, h4, h5, h6, h7, h8, h26]

@[simp] theorem State.deliverCmd_same {m0 : Nat → Bool} {t0 : State} {s : State} (n : Fin 32) (t : Nat) (w : Nat) (a : Bool) (b : Bool) (engine : Nat) (hK : Same m0 t0 s)
    (h2 : m0 2 = false) (h3 : m0 3 = false) (h4 : m0 4 = false) (h5 : m0 5 = false) (h6 : m0 6 = false) (h7 : m0 7 = false) (h8 : m0 8 = false) (h26 : m0 26 = false) :
    Same m0 t0 (State.deliverCmd s n t w a b engine) := by
  unfold State.deliverCmd; try dsimp only
  repeat' split
  all_goals first | done | simp (maxDischargeDepth := 60) (decide := true) [hK, h2, h3, h4, h5, h6, h7, h8, h26]

@[simp] theorem State.predPulse_same {m0 : Nat → Bool} {t0 : State} {s : State} (n : Fin 32) (t : Nat) (hK : Same m0 t0 s)
    (h2 : m0 2 = false) (h3 : m0 3 = false) (h4 : m0 4 = false) (h5 : m0 5 = false) (h6 : m0 6 = false) (h7 : m0 7 = false) (h8 : m0 8 = false) (h26 : m0 26 = false) :
    Same m0 t0 (State.predPulse s n t) := by
  unfold State.predPulse; try dsimp only
  repeat' split
  all_goals first | done | simp (maxDischargeDepth := 60) (decide := true) [hK, h2, h3, h4, h5, h6, h7, h8, h26]

@[simp] theorem State.notePulse_same {m0 : Nat → Bool} {t0 : State} {s : State} (g : Fin 4) (pin : Bool) (t : Nat) (hK : Same m0 t0 s)
    (h28 : m0 28 = false) :
    Same m0 t0 (State.notePulse s g pin t) := by
  unfold State.notePulse; try dsimp only
  repeat' split
  all_goals first | done | simp (maxDischargeDepth := 60) (decide := true) [hK, h28]

@[simp] theorem State.emitSync_same {m0 : Nat → Bool} {t0 : State} {s : State} (n : Fin 32) (t : Nat) (hK : Same m0 t0 s)
    (h2 : m0 2 = false) (h3 : m0 3 = false) (h4 : m0 4 = false) (h5 : m0 5 = false) (h6 : m0 6 = false) (h7 : m0 7 = false) (h8 : m0 8 = false) (h26 : m0 26 = false) (h28 : m0 28 = false) (h43 : m0 43 = false) :
    Same m0 t0 (State.emitSync s n t) := by
  unfold State.emitSync; try dsimp only
  repeat' split
  all_goals first | done | simp (maxDischargeDepth := 60) (decide := true) [hK, h2, h3, h4, h5, h6, h7, h8, h26, h28, h43]

@[simp] theorem State.rollAverage_same {m0 : Nat → Bool} {t0 : State} {s : State} (n : Fin 32) (t : Nat) (hK : Same m0 t0 s)
    (h2 : m0 2 = false) (h3 : m0 3 = false) (h4 : m0 4 = false) (h5 : m0 5 = false) (h6 : m0 6 = false) (h7 : m0 7 = false) (h8 : m0 8 = false) (h26 : m0 26 = false) :
    Same m0 t0 (State.rollAverage s n t) := by
  unfold State.rollAverage; try dsimp only
  repeat' split
  all_goals first | done | simp (maxDischargeDepth := 60) (decide := true) [hK, h2, h3, h4, h5, h6, h7, h8, h26]

@[simp] theorem State.noteCapture_same {m0 : Nat → Bool} {t0 : State} {s : State} (n : Fin 32) (hK : Same m0 t0 s)
    (h30 : m0 30 = false) :
    Same m0 t0 (State.noteCapture s n) := by
  unfold State.noteCapture; try dsimp only
  repeat' split
  all_goals first | done | simp (maxDischargeDepth := 60) (decide := true) [hK, h30]

@[simp] theorem State.boundaryAt_same {m0 : Nat → Bool} {t0 : State} {s : State} (n : Fin 32) (t : Nat) (hK : Same m0 t0 s)
    (h0 : m0 0 = false) (h1 : m0 1 = false) (h2 : m0 2 = false) (h3 : m0 3 = false) (h4 : m0 4 = false) (h5 : m0 5 = false) (h6 : m0 6 = false) (h7 : m0 7 = false) (h8 : m0 8 = false) (h9 : m0 9 = false) (h10 : m0 10 = false) (h11 : m0 11 = false) (h25 : m0 25 = false) (h26 : m0 26 = false) (h28 : m0 28 = false) (h30 : m0 30 = false) (h43 : m0 43 = false) :
    Same m0 t0 (State.boundaryAt s n t) := by
  unfold State.boundaryAt; try dsimp only
  repeat' split
  all_goals first | done | simp (maxDischargeDepth := 60) (decide := true) [hK, h0, h1, h2, h3, h4, h5, h6, h7, h8, h9, h10, h11, h25, h26, h28, h30, h43]

@[simp] theorem State.startPeriod_same {m0 : Nat → Bool} {t0 : State} {s : State} (n : Fin 32) (t : Nat) (hK : Same m0 t0 s)
    (h2 : m0 2 = false) (h3 : m0 3 = false) (h4 : m0 4 = false) (h5 : m0 5 = false) (h6 : m0 6 = false) (h7 : m0 7 = false) (h8 : m0 8 = false) (h26 : m0 26 = false) :
    Same m0 t0 (State.startPeriod s n t) := by
  unfold State.startPeriod; try dsimp only
  repeat' split
  all_goals first | done | simp (maxDischargeDepth := 60) (decide := true) [hK, h2, h3, h4, h5, h6, h7, h8, h26]

@[simp] theorem State.measPeriod_same {m0 : Nat → Bool} {t0 : State} {s : State} (n : Fin 32) (t : Nat) (hK : Same m0 t0 s)
    (h0 : m0 0 = false) (h1 : m0 1 = false) (h2 : m0 2 = false) (h3 : m0 3 = false) (h4 : m0 4 = false) (h5 : m0 5 = false) (h6 : m0 6 = false) (h7 : m0 7 = false) (h8 : m0 8 = false) (h9 : m0 9 = false) (h10 : m0 10 = false) (h11 : m0 11 = false) (h26 : m0 26 = false) :
    Same m0 t0 (State.measPeriod s n t) := by
  unfold State.measPeriod; try dsimp only
  repeat' split
  all_goals first | done | simp (maxDischargeDepth := 60) (decide := true) [hK, h0, h1, h2, h3, h4, h5, h6, h7, h8, h9, h10, h11, h26]

@[simp] theorem State.realBoundary_same {m0 : Nat → Bool} {t0 : State} {s : State} (n : Fin 32) (hK : Same m0 t0 s)
    (h0 : m0 0 = false) (h1 : m0 1 = false) (h2 : m0 2 = false) (h3 : m0 3 = false) (h4 : m0 4 = false) (h5 : m0 5 = false) (h6 : m0 6 = false) (h7 : m0 7 = false) (h8 : m0 8 = false) (h9 : m0 9 = false) (h10 : m0 10 = false) (h11 : m0 11 = false) (h25 : m0 25 = false) (h26 : m0 26 = false) (h28 : m0 28 = false) (h30 : m0 30 = false) (h43 : m0 43 = false) :
    Same m0 t0 (State.realBoundary s n) := by
  unfold State.realBoundary; try dsimp only
  repeat' split
  all_goals first | done | simp (maxDischargeDepth := 60) (decide := true) [hK, h0, h1, h2, h3, h4, h5, h6, h7, h8, h9, h10, h11, h25, h26, h28, h30, h43]

@[simp] theorem State.virtualBoundary_same {m0 : Nat → Bool} {t0 : State} {s : State} (n : Fin 32) (hK : Same m0 t0 s)
    (h0 : m0 0 = false) (h1 : m0 1 = false) (h2 : m0 2 = false) (h3 : m0 3 = false) (h4 : m0 4 = false) (h5 : m0 5 = false) (h6 : m0 6 = false) (h7 : m0 7 = false) (h8 : m0 8 = false) (h9 : m0 9 = false) (h10 : m0 10 = false) (h11 : m0 11 = false) (h25 : m0 25 = false) (h26 : m0 26 = false) (h28 : m0 28 = false) (h30 : m0 30 = false) (h43 : m0 43 = false) :
    Same m0 t0 (State.virtualBoundary s n) := by
  unfold State.virtualBoundary; try dsimp only
  repeat' split
  all_goals first | done | simp (maxDischargeDepth := 60) (decide := true) [hK, h0, h1, h2, h3, h4, h5, h6, h7, h8, h9, h10, h11, h25, h26, h28, h30, h43]

@[simp] theorem State.highOff_same {m0 : Nat → Bool} {t0 : State} {s : State} (n : Fin 32) (t : Nat) (hK : Same m0 t0 s)
    (h2 : m0 2 = false) (h3 : m0 3 = false) (h4 : m0 4 = false) (h5 : m0 5 = false) (h6 : m0 6 = false) (h7 : m0 7 = false) (h8 : m0 8 = false) (h26 : m0 26 = false) :
    Same m0 t0 (State.highOff s n t) := by
  unfold State.highOff; try dsimp only
  repeat' split
  all_goals first | done | simp (maxDischargeDepth := 60) (decide := true) [hK, h2, h3, h4, h5, h6, h7, h8, h26]

@[simp] theorem State.lowOff_same {m0 : Nat → Bool} {t0 : State} {s : State} (n : Fin 32) (t : Nat) (hK : Same m0 t0 s)
    (h2 : m0 2 = false) (h3 : m0 3 = false) (h4 : m0 4 = false) (h5 : m0 5 = false) (h6 : m0 6 = false) (h7 : m0 7 = false) (h8 : m0 8 = false) (h26 : m0 26 = false) :
    Same m0 t0 (State.lowOff s n t) := by
  unfold State.lowOff; try dsimp only
  repeat' split
  all_goals first | done | simp (maxDischargeDepth := 60) (decide := true) [hK, h2, h3, h4, h5, h6, h7, h8, h26]

@[simp] theorem State.lowOffFrom_same {m0 : Nat → Bool} {t0 : State} {s : State} (n : Fin 32) (freed : Nat) (hK : Same m0 t0 s)
    (h2 : m0 2 = false) (h3 : m0 3 = false) (h4 : m0 4 = false) (h5 : m0 5 = false) (h6 : m0 6 = false) (h7 : m0 7 = false) (h8 : m0 8 = false) (h26 : m0 26 = false) :
    Same m0 t0 (State.lowOffFrom s n freed) := by
  unfold State.lowOffFrom; try dsimp only
  repeat' split
  all_goals first | done | simp (maxDischargeDepth := 60) (decide := true) [hK, h2, h3, h4, h5, h6, h7, h8, h26]

@[simp] theorem State.tryLowOff_same {m0 : Nat → Bool} {t0 : State} {s : State} (n : Fin 32) (hK : Same m0 t0 s)
    (h2 : m0 2 = false) (h3 : m0 3 = false) (h4 : m0 4 = false) (h5 : m0 5 = false) (h6 : m0 6 = false) (h7 : m0 7 = false) (h8 : m0 8 = false) (h26 : m0 26 = false) :
    Same m0 t0 (State.tryLowOff s n) := by
  unfold State.tryLowOff; try dsimp only
  repeat' split
  all_goals first | done | simp (maxDischargeDepth := 60) (decide := true) [hK, h2, h3, h4, h5, h6, h7, h8, h26]

@[simp] theorem State.deadEnd_same {m0 : Nat → Bool} {t0 : State} {s : State} (n : Fin 32) (t : Nat) (hK : Same m0 t0 s)
    (h0 : m0 0 = false) (h1 : m0 1 = false) (h2 : m0 2 = false) (h3 : m0 3 = false) (h4 : m0 4 = false) (h5 : m0 5 = false) (h6 : m0 6 = false) (h7 : m0 7 = false) (h8 : m0 8 = false) (h9 : m0 9 = false) (h10 : m0 10 = false) (h11 : m0 11 = false) (h26 : m0 26 = false) :
    Same m0 t0 (State.deadEnd s n t) := by
  unfold State.deadEnd; try dsimp only
  repeat' split
  all_goals first | done | simp (maxDischargeDepth := 60) (decide := true) [hK, h0, h1, h2, h3, h4, h5, h6, h7, h8, h9, h10, h11, h26]

@[simp] theorem State.dtMaxOver_same {m0 : Nat → Bool} {t0 : State} {s : State} (leg : Fin 32) (hK : Same m0 t0 s)
    (h0 : m0 0 = false) (h1 : m0 1 = false) (h2 : m0 2 = false) (h3 : m0 3 = false) (h4 : m0 4 = false) (h5 : m0 5 = false) (h6 : m0 6 = false) (h7 : m0 7 = false) (h8 : m0 8 = false) (h9 : m0 9 = false) (h10 : m0 10 = false) (h11 : m0 11 = false) (h26 : m0 26 = false) :
    Same m0 t0 (State.dtMaxOver s leg) := by
  unfold State.dtMaxOver; try dsimp only
  repeat' split
  all_goals first | done | simp (maxDischargeDepth := 60) (decide := true) [hK, h0, h1, h2, h3, h4, h5, h6, h7, h8, h9, h10, h11, h26]

@[simp] theorem State.syncSrcChanged_same {m0 : Nat → Bool} {t0 : State} {s : State} (g : Fin 4) (old : Nat) (hK : Same m0 t0 s)
    (h2 : m0 2 = false) (h3 : m0 3 = false) (h4 : m0 4 = false) (h5 : m0 5 = false) (h6 : m0 6 = false) (h7 : m0 7 = false) (h8 : m0 8 = false) (h26 : m0 26 = false) :
    Same m0 t0 (State.syncSrcChanged s g old) := by
  unfold State.syncSrcChanged; try dsimp only
  repeat' split
  all_goals first | done | simp (maxDischargeDepth := 60) (decide := true) [hK, h2, h3, h4, h5, h6, h7, h8, h26]

@[simp] theorem State.overrideEffect_same {m0 : Nat → Bool} {t0 : State} {s : State} (n : Fin 32) (v : Nat) (t : Nat) (hK : Same m0 t0 s)
    (h2 : m0 2 = false) (h3 : m0 3 = false) (h4 : m0 4 = false) (h5 : m0 5 = false) (h6 : m0 6 = false) (h7 : m0 7 = false) (h8 : m0 8 = false) (h26 : m0 26 = false) :
    Same m0 t0 (State.overrideEffect s n v t) := by
  unfold State.overrideEffect; try dsimp only
  repeat' split
  all_goals first | done | simp (maxDischargeDepth := 60) (decide := true) [hK, h2, h3, h4, h5, h6, h7, h8, h26]

@[simp] theorem State.armHoldEffect_same {m0 : Nat → Bool} {t0 : State} {s : State} (g : Fin 4) (mask : Nat) (t : Nat) (hK : Same m0 t0 s)
    (h2 : m0 2 = false) (h3 : m0 3 = false) (h4 : m0 4 = false) (h5 : m0 5 = false) (h6 : m0 6 = false) (h7 : m0 7 = false) (h8 : m0 8 = false) (h26 : m0 26 = false) :
    Same m0 t0 (State.armHoldEffect s g mask t) := by
  unfold State.armHoldEffect; try dsimp only
  repeat' split
  all_goals first | done | simp (maxDischargeDepth := 60) (decide := true) [hK, h2, h3, h4, h5, h6, h7, h8, h26]

@[simp] theorem State.armReleaseEffect_same {m0 : Nat → Bool} {t0 : State} {s : State} (g : Fin 4) (mask : Nat) (t : Nat) (hK : Same m0 t0 s)
    (h2 : m0 2 = false) (h3 : m0 3 = false) (h4 : m0 4 = false) (h5 : m0 5 = false) (h6 : m0 6 = false) (h7 : m0 7 = false) (h8 : m0 8 = false) (h26 : m0 26 = false) :
    Same m0 t0 (State.armReleaseEffect s g mask t) := by
  unfold State.armReleaseEffect; try dsimp only
  repeat' split
  all_goals first | done | simp (maxDischargeDepth := 60) (decide := true) [hK, h2, h3, h4, h5, h6, h7, h8, h26]

@[simp] theorem State.countClearEffect_same {m0 : Nat → Bool} {t0 : State} {s : State} (g : Fin 4) (mask : Nat) (hK : Same m0 t0 s)
    (h0 : m0 0 = false) (h1 : m0 1 = false) (h2 : m0 2 = false) (h3 : m0 3 = false) (h4 : m0 4 = false) (h5 : m0 5 = false) (h6 : m0 6 = false) (h7 : m0 7 = false) (h8 : m0 8 = false) (h9 : m0 9 = false) (h10 : m0 10 = false) (h11 : m0 11 = false) :
    Same m0 t0 (State.countClearEffect s g mask) := by
  unfold State.countClearEffect; try dsimp only
  repeat' split
  all_goals first | done | simp (maxDischargeDepth := 60) (decide := true) [hK, h0, h1, h2, h3, h4, h5, h6, h7, h8, h9, h10, h11]

@[simp] theorem State.latchLeg_same {m0 : Nat → Bool} {t0 : State} {s : State} (n : Fin 32) (hK : Same m0 t0 s)
    (h0 : m0 0 = false) (h1 : m0 1 = false) (h2 : m0 2 = false) (h3 : m0 3 = false) (h4 : m0 4 = false) (h5 : m0 5 = false) (h6 : m0 6 = false) (h7 : m0 7 = false) (h8 : m0 8 = false) (h9 : m0 9 = false) (h10 : m0 10 = false) (h11 : m0 11 = false) (h26 : m0 26 = false) :
    Same m0 t0 (State.latchLeg s n) := by
  unfold State.latchLeg; try dsimp only
  repeat' split
  all_goals first | done | simp (maxDischargeDepth := 60) (decide := true) [hK, h0, h1, h2, h3, h4, h5, h6, h7, h8, h9, h10, h11, h26]

@[simp] theorem State.fltAssert_same {m0 : Nat → Bool} {t0 : State} {s : State} (n : Fin 32) (hK : Same m0 t0 s)
    (h0 : m0 0 = false) (h1 : m0 1 = false) (h2 : m0 2 = false) (h3 : m0 3 = false) (h4 : m0 4 = false) (h5 : m0 5 = false) (h6 : m0 6 = false) (h7 : m0 7 = false) (h8 : m0 8 = false) (h9 : m0 9 = false) (h10 : m0 10 = false) (h11 : m0 11 = false) (h24 : m0 24 = false) (h26 : m0 26 = false) :
    Same m0 t0 (State.fltAssert s n) := by
  unfold State.fltAssert; try dsimp only
  repeat' split
  all_goals first | done | simp (maxDischargeDepth := 60) (decide := true) [hK, h0, h1, h2, h3, h4, h5, h6, h7, h8, h9, h10, h11, h24, h26]

@[simp] theorem State.faultClearLeg_same {m0 : Nat → Bool} {t0 : State} {s : State} (n : Fin 32) (hK : Same m0 t0 s)
    (h2 : m0 2 = false) (h3 : m0 3 = false) (h4 : m0 4 = false) (h5 : m0 5 = false) (h6 : m0 6 = false) (h7 : m0 7 = false) (h8 : m0 8 = false) (h26 : m0 26 = false) :
    Same m0 t0 (State.faultClearLeg s n) := by
  unfold State.faultClearLeg; try dsimp only
  repeat' split
  all_goals first | done | simp (maxDischargeDepth := 60) (decide := true) [hK, h2, h3, h4, h5, h6, h7, h8, h26]

@[simp] theorem State.faultClearEffect_same {m0 : Nat → Bool} {t0 : State} {s : State} (g : Fin 4) (mask : Nat) (hK : Same m0 t0 s)
    (h2 : m0 2 = false) (h3 : m0 3 = false) (h4 : m0 4 = false) (h5 : m0 5 = false) (h6 : m0 6 = false) (h7 : m0 7 = false) (h8 : m0 8 = false) (h26 : m0 26 = false) :
    Same m0 t0 (State.faultClearEffect s g mask) := by
  unfold State.faultClearEffect; try dsimp only
  repeat' split
  all_goals first | done | simp (maxDischargeDepth := 60) (decide := true) [hK, h2, h3, h4, h5, h6, h7, h8, h26]

/-! ## Machine/LoadSwitch.lean -/

@[simp] theorem State.setChan_same {m0 : Nat → Bool} {t0 : State} {s : State} (n : Fin 16) (c : Chan) (hK : Same m0 t0 s)
    (h36 : m0 36 = false) :
    Same m0 t0 (State.setChan s n c) := by
  unfold State.setChan; try dsimp only
  repeat' split
  all_goals first | done | simp (maxDischargeDepth := 60) (decide := true) [hK, h36]

@[simp] theorem State.refreshLsStatus_same {m0 : Nat → Bool} {t0 : State} {s : State} (hK : Same m0 t0 s)
    (h6 : m0 6 = false) (h7 : m0 7 = false) (h8 : m0 8 = false) :
    Same m0 t0 (State.refreshLsStatus s) := by
  unfold State.refreshLsStatus; try dsimp only
  repeat' split
  all_goals first | done | simp (maxDischargeDepth := 60) (decide := true) [hK, h6, h7, h8]

@[simp] theorem State.chanTurnOn_same {m0 : Nat → Bool} {t0 : State} {s : State} (n : Fin 16) (reload : Bool) (hK : Same m0 t0 s)
    (h6 : m0 6 = false) (h7 : m0 7 = false) (h8 : m0 8 = false) (h36 : m0 36 = false) :
    Same m0 t0 (State.chanTurnOn s n reload) := by
  unfold State.chanTurnOn; try dsimp only
  repeat' split
  all_goals first | done | simp (maxDischargeDepth := 60) (decide := true) [hK, h6, h7, h8, h36]

@[simp] theorem State.chanClamp_same {m0 : Nat → Bool} {t0 : State} {s : State} (n : Fin 16) (hK : Same m0 t0 s)
    (h6 : m0 6 = false) (h7 : m0 7 = false) (h8 : m0 8 = false) :
    Same m0 t0 (State.chanClamp s n) := by
  unfold State.chanClamp; try dsimp only
  repeat' split
  all_goals first | done | simp (maxDischargeDepth := 60) (decide := true) [hK, h6, h7, h8]

@[simp] theorem State.chanCut_same {m0 : Nat → Bool} {t0 : State} {s : State} (n : Fin 16) (st : Nat) (hK : Same m0 t0 s)
    (h6 : m0 6 = false) (h7 : m0 7 = false) (h8 : m0 8 = false) (h36 : m0 36 = false) :
    Same m0 t0 (State.chanCut s n st) := by
  unfold State.chanCut; try dsimp only
  repeat' split
  all_goals first | done | simp (maxDischargeDepth := 60) (decide := true) [hK, h6, h7, h8, h36]

@[simp] theorem State.chanTurnOff_same {m0 : Nat → Bool} {t0 : State} {s : State} (n : Fin 16) (hK : Same m0 t0 s)
    (h6 : m0 6 = false) (h7 : m0 7 = false) (h8 : m0 8 = false) (h36 : m0 36 = false) :
    Same m0 t0 (State.chanTurnOff s n) := by
  unfold State.chanTurnOff; try dsimp only
  repeat' split
  all_goals first | done | simp (maxDischargeDepth := 60) (decide := true) [hK, h6, h7, h8, h36]

@[simp] theorem State.driveChan_same {m0 : Nat → Bool} {t0 : State} {s : State} (n : Fin 16) (hK : Same m0 t0 s)
    (h6 : m0 6 = false) (h7 : m0 7 = false) (h8 : m0 8 = false) (h24 : m0 24 = false) (h36 : m0 36 = false) :
    Same m0 t0 (State.driveChan s n) := by
  unfold State.driveChan; try dsimp only
  repeat' split
  all_goals first | done | simp (maxDischargeDepth := 60) (decide := true) [hK, h6, h7, h8, h24, h36]

@[simp] theorem State.driveAll_same {m0 : Nat → Bool} {t0 : State} {s : State} (hK : Same m0 t0 s)
    (h6 : m0 6 = false) (h7 : m0 7 = false) (h8 : m0 8 = false) (h24 : m0 24 = false) (h36 : m0 36 = false) :
    Same m0 t0 (State.driveAll s) := by
  unfold State.driveAll; try dsimp only
  repeat' split
  all_goals first | done | simp (maxDischargeDepth := 60) (decide := true) [hK, h6, h7, h8, h24, h36]

@[simp] theorem State.devSwitch_same {m0 : Nat → Bool} {t0 : State} {s : State} (n : Fin 16) (on : Bool) (hK : Same m0 t0 s)
    (h6 : m0 6 = false) (h7 : m0 7 = false) (h8 : m0 8 = false) (h24 : m0 24 = false) (h36 : m0 36 = false) :
    Same m0 t0 (State.devSwitch s n on) := by
  unfold State.devSwitch; try dsimp only
  repeat' split
  all_goals first | done | simp (maxDischargeDepth := 60) (decide := true) [hK, h6, h7, h8, h24, h36]

@[simp] theorem State.ownerSwitch_same {m0 : Nat → Bool} {t0 : State} {s : State} (ch : Nat) (owner : Nat) (on : Bool) (hK : Same m0 t0 s)
    (h6 : m0 6 = false) (h7 : m0 7 = false) (h8 : m0 8 = false) (h24 : m0 24 = false) (h36 : m0 36 = false) :
    Same m0 t0 (State.ownerSwitch s ch owner on) := by
  unfold State.ownerSwitch; try dsimp only
  repeat' split
  all_goals first | done | simp (maxDischargeDepth := 60) (decide := true) [hK, h6, h7, h8, h24, h36]

@[simp] theorem State.conflictPennant_same {m0 : Nat → Bool} {t0 : State} {s : State} (hK : Same m0 t0 s)
    (h24 : m0 24 = false) :
    Same m0 t0 (State.conflictPennant s) := by
  unfold State.conflictPennant; try dsimp only
  repeat' split
  all_goals first | done | simp (maxDischargeDepth := 60) (decide := true) [hK, h24]

@[simp] theorem State.applyOwners_same {m0 : Nat → Bool} {t0 : State} {s : State} (hK : Same m0 t0 s)
    (h6 : m0 6 = false) (h7 : m0 7 = false) (h8 : m0 8 = false) (h24 : m0 24 = false) (h36 : m0 36 = false) :
    Same m0 t0 (State.applyOwners s) := by
  unfold State.applyOwners; try dsimp only
  repeat' split
  all_goals first | done | simp (maxDischargeDepth := 60) (decide := true) [hK, h6, h7, h8, h24, h36]

@[simp] theorem State.curtail_same {m0 : Nat → Bool} {t0 : State} {s : State} (n : Fin 16) (hK : Same m0 t0 s)
    (h6 : m0 6 = false) (h7 : m0 7 = false) (h8 : m0 8 = false) :
    Same m0 t0 (State.curtail s n) := by
  unfold State.curtail; try dsimp only
  repeat' split
  all_goals first | done | simp (maxDischargeDepth := 60) (decide := true) [hK, h6, h7, h8]

@[simp] theorem State.trip_same {m0 : Nat → Bool} {t0 : State} {s : State} (n : Fin 16) (kind : Nat) (hK : Same m0 t0 s)
    (h6 : m0 6 = false) (h7 : m0 7 = false) (h8 : m0 8 = false) (h24 : m0 24 = false) (h36 : m0 36 = false) :
    Same m0 t0 (State.trip s n kind) := by
  unfold State.trip; try dsimp only
  repeat' split
  all_goals first | done | simp (maxDischargeDepth := 60) (decide := true) [hK, h6, h7, h8, h24, h36]

@[simp] theorem State.lsRetry_same {m0 : Nat → Bool} {t0 : State} {s : State} (n : Fin 16) (hK : Same m0 t0 s)
    (h6 : m0 6 = false) (h7 : m0 7 = false) (h8 : m0 8 = false) (h36 : m0 36 = false) :
    Same m0 t0 (State.lsRetry s n) := by
  unfold State.lsRetry; try dsimp only
  repeat' split
  all_goals first | done | simp (maxDischargeDepth := 60) (decide := true) [hK, h6, h7, h8, h36]

@[simp] theorem State.unlatch_same {m0 : Nat → Bool} {t0 : State} {s : State} (n : Fin 16) (reload : Bool) (hK : Same m0 t0 s)
    (h6 : m0 6 = false) (h7 : m0 7 = false) (h8 : m0 8 = false) (h24 : m0 24 = false) (h36 : m0 36 = false) :
    Same m0 t0 (State.unlatch s n reload) := by
  unfold State.unlatch; try dsimp only
  repeat' split
  all_goals first | done | simp (maxDischargeDepth := 60) (decide := true) [hK, h6, h7, h8, h24, h36]

@[simp] theorem State.chanReading_same {m0 : Nat → Bool} {t0 : State} {s : State} (n : Fin 16) (i : Int) (hK : Same m0 t0 s)
    (h6 : m0 6 = false) (h7 : m0 7 = false) (h8 : m0 8 = false) :
    Same m0 t0 (State.chanReading s n i) := by
  unfold State.chanReading; try dsimp only
  repeat' split
  all_goals first | done | simp (maxDischargeDepth := 60) (decide := true) [hK, h6, h7, h8]

@[simp] theorem State.pkgCheck_same {m0 : Nat → Bool} {t0 : State} {s : State} (vs : Int) (currents : List Int) (hK : Same m0 t0 s)
    (h6 : m0 6 = false) (h7 : m0 7 = false) (h8 : m0 8 = false) (h24 : m0 24 = false) (h36 : m0 36 = false) :
    Same m0 t0 (State.pkgCheck s vs currents) := by
  unfold State.pkgCheck; try dsimp only
  repeat' split
  all_goals first | done | simp (maxDischargeDepth := 60) (decide := true) [hK, h6, h7, h8, h24, h36]

@[simp] theorem State.wdBreak_same {m0 : Nat → Bool} {t0 : State} {s : State} (hK : Same m0 t0 s)
    (h36 : m0 36 = false) :
    Same m0 t0 (State.wdBreak s) := by
  unfold State.wdBreak; try dsimp only
  repeat' split
  all_goals first | done | simp (maxDischargeDepth := 60) (decide := true) [hK, h36]

@[simp] theorem State.wdExpire_same {m0 : Nat → Bool} {t0 : State} {s : State} (hK : Same m0 t0 s)
    (h6 : m0 6 = false) (h7 : m0 7 = false) (h8 : m0 8 = false) (h24 : m0 24 = false) (h36 : m0 36 = false) :
    Same m0 t0 (State.wdExpire s) := by
  unfold State.wdExpire; try dsimp only
  repeat' split
  all_goals first | done | simp (maxDischargeDepth := 60) (decide := true) [hK, h6, h7, h8, h24, h36]

@[simp] theorem State.wdFault_same {m0 : Nat → Bool} {t0 : State} {s : State} (hK : Same m0 t0 s)
    (h6 : m0 6 = false) (h7 : m0 7 = false) (h8 : m0 8 = false) (h24 : m0 24 = false) (h36 : m0 36 = false) :
    Same m0 t0 (State.wdFault s) := by
  unfold State.wdFault; try dsimp only
  repeat' split
  all_goals first | done | simp (maxDischargeDepth := 60) (decide := true) [hK, h6, h7, h8, h24, h36]

@[simp] theorem State.wdValid_same {m0 : Nat → Bool} {t0 : State} {s : State} (seq : Nat) (hK : Same m0 t0 s)
    (h6 : m0 6 = false) (h7 : m0 7 = false) (h8 : m0 8 = false) (h24 : m0 24 = false) (h36 : m0 36 = false) :
    Same m0 t0 (State.wdValid s seq) := by
  unfold State.wdValid; try dsimp only
  repeat' split
  all_goals first | done | simp (maxDischargeDepth := 60) (decide := true) [hK, h6, h7, h8, h24, h36]

@[simp] theorem State.wdApply_same {m0 : Nat → Bool} {t0 : State} {s : State} (hK : Same m0 t0 s)
    (h6 : m0 6 = false) (h7 : m0 7 = false) (h8 : m0 8 = false) (h24 : m0 24 = false) (h36 : m0 36 = false) :
    Same m0 t0 (State.wdApply s) := by
  unfold State.wdApply; try dsimp only
  repeat' split
  all_goals first | done | simp (maxDischargeDepth := 60) (decide := true) [hK, h6, h7, h8, h24, h36]

@[simp] theorem State.anaReset_same {m0 : Nat → Bool} {t0 : State} {s : State} (hK : Same m0 t0 s)
    (h6 : m0 6 = false) (h7 : m0 7 = false) (h8 : m0 8 = false) (h36 : m0 36 = false) :
    Same m0 t0 (State.anaReset s) := by
  unfold State.anaReset; try dsimp only
  repeat' split
  all_goals first | done | simp (maxDischargeDepth := 60) (decide := true) [hK, h6, h7, h8, h36]

@[simp] theorem State.wdRelease_same {m0 : Nat → Bool} {t0 : State} {s : State} (v : Nat) (hK : Same m0 t0 s)
    (h6 : m0 6 = false) (h7 : m0 7 = false) (h8 : m0 8 = false) (h24 : m0 24 = false) (h36 : m0 36 = false) :
    Same m0 t0 (State.wdRelease s v) := by
  unfold State.wdRelease; try dsimp only
  repeat' split
  all_goals first | done | simp (maxDischargeDepth := 60) (decide := true) [hK, h6, h7, h8, h24, h36]

@[simp] theorem State.lsOnEffect_same {m0 : Nat → Bool} {t0 : State} {s : State} (n : Fin 16) (v : Nat) (hK : Same m0 t0 s)
    (h6 : m0 6 = false) (h7 : m0 7 = false) (h8 : m0 8 = false) (h24 : m0 24 = false) (h36 : m0 36 = false) :
    Same m0 t0 (State.lsOnEffect s n v) := by
  unfold State.lsOnEffect; try dsimp only
  repeat' split
  all_goals first | done | simp (maxDischargeDepth := 60) (decide := true) [hK, h6, h7, h8, h24, h36]

@[simp] theorem State.lsClearEffect_same {m0 : Nat → Bool} {t0 : State} {s : State} (n : Fin 16) (v : Nat) (hK : Same m0 t0 s)
    (h6 : m0 6 = false) (h7 : m0 7 = false) (h8 : m0 8 = false) (h24 : m0 24 = false) (h36 : m0 36 = false) :
    Same m0 t0 (State.lsClearEffect s n v) := by
  unfold State.lsClearEffect; try dsimp only
  repeat' split
  all_goals first | done | simp (maxDischargeDepth := 60) (decide := true) [hK, h6, h7, h8, h24, h36]

/-! ## Machine/Routes.lean -/

@[simp] theorem State.rolePublish_same {m0 : Nat → Bool} {t0 : State} {s : State} (hK : Same m0 t0 s)
    (h0 : m0 0 = false) (h1 : m0 1 = false) (h2 : m0 2 = false) (h3 : m0 3 = false) (h4 : m0 4 = false) (h5 : m0 5 = false) (h6 : m0 6 = false) (h7 : m0 7 = false) (h8 : m0 8 = false) :
    Same m0 t0 (State.rolePublish s) := by
  unfold State.rolePublish; try dsimp only
  repeat' split
  all_goals first | done | simp (maxDischargeDepth := 60) (decide := true) [hK, h0, h1, h2, h3, h4, h5, h6, h7, h8]

@[simp] theorem State.setPump_same {m0 : Nat → Bool} {t0 : State} {s : State} (o : Fin 4) (duty : Nat) (hK : Same m0 t0 s)
    (h5 : m0 5 = false) (h6 : m0 6 = false) (h7 : m0 7 = false) (h8 : m0 8 = false) (h24 : m0 24 = false) (h36 : m0 36 = false) :
    Same m0 t0 (State.setPump s o duty) := by
  unfold State.setPump; try dsimp only
  repeat' split
  all_goals first | done | simp (maxDischargeDepth := 60) (decide := true) [hK, h5, h6, h7, h8, h24, h36]

@[simp] theorem State.dropRoute_same {m0 : Nat → Bool} {t0 : State} {s : State} (g : Fin 4) (hK : Same m0 t0 s)
    (h6 : m0 6 = false) (h7 : m0 7 = false) (h8 : m0 8 = false) (h24 : m0 24 = false) (h36 : m0 36 = false) :
    Same m0 t0 (State.dropRoute s g) := by
  unfold State.dropRoute; try dsimp only
  repeat' split
  all_goals first | done | simp (maxDischargeDepth := 60) (decide := true) [hK, h6, h7, h8, h24, h36]

@[simp] theorem State.takeRoute_same {m0 : Nat → Bool} {t0 : State} {s : State} (g : Fin 4) (r : Nat) (v : Nat) (hK : Same m0 t0 s)
    (h6 : m0 6 = false) (h7 : m0 7 = false) (h8 : m0 8 = false) (h24 : m0 24 = false) (h28 : m0 28 = false) (h36 : m0 36 = false) :
    Same m0 t0 (State.takeRoute s g r v) := by
  unfold State.takeRoute; try dsimp only
  repeat' split
  all_goals first | done | simp (maxDischargeDepth := 60) (decide := true) [hK, h6, h7, h8, h24, h28, h36]

@[simp] theorem State.putRoute_same {m0 : Nat → Bool} {t0 : State} {s : State} (g : Fin 4) (n : Nat) (hK : Same m0 t0 s)
    (h2 : m0 2 = false) (h3 : m0 3 = false) (h4 : m0 4 = false) (h5 : m0 5 = false) (h6 : m0 6 = false) (h7 : m0 7 = false) (h8 : m0 8 = false) (h43 : m0 43 = false) :
    Same m0 t0 (State.putRoute s g n) := by
  unfold State.putRoute; try dsimp only
  repeat' split
  all_goals first | done | simp (maxDischargeDepth := 60) (decide := true) [hK, h2, h3, h4, h5, h6, h7, h8, h43]

@[simp] theorem State.unparkGroup_same {m0 : Nat → Bool} {t0 : State} {s : State} (g : Fin 4) (hK : Same m0 t0 s)
    (h26 : m0 26 = false) (h28 : m0 28 = false) :
    Same m0 t0 (State.unparkGroup s g) := by
  unfold State.unparkGroup; try dsimp only
  repeat' split
  all_goals first | done | simp (maxDischargeDepth := 60) (decide := true) [hK, h26, h28]

@[simp] theorem State.routeFault_same {m0 : Nat → Bool} {t0 : State} {s : State} (g : Fin 4) (hK : Same m0 t0 s)
    (h0 : m0 0 = false) (h1 : m0 1 = false) (h2 : m0 2 = false) (h3 : m0 3 = false) (h4 : m0 4 = false) (h5 : m0 5 = false) (h6 : m0 6 = false) (h7 : m0 7 = false) (h8 : m0 8 = false) (h9 : m0 9 = false) (h10 : m0 10 = false) (h11 : m0 11 = false) (h24 : m0 24 = false) (h26 : m0 26 = false) (h28 : m0 28 = false) (h36 : m0 36 = false) (h43 : m0 43 = false) :
    Same m0 t0 (State.routeFault s g) := by
  unfold State.routeFault; try dsimp only
  repeat' split
  all_goals first | done | simp (maxDischargeDepth := 60) (decide := true) [hK, h0, h1, h2, h3, h4, h5, h6, h7, h8, h9, h10, h11, h24, h26, h28, h36, h43]

@[simp] theorem State.routeStep_same {m0 : Nat → Bool} {t0 : State} {s : State} (g : Fin 4) (hK : Same m0 t0 s)
    (h2 : m0 2 = false) (h3 : m0 3 = false) (h4 : m0 4 = false) (h5 : m0 5 = false) (h6 : m0 6 = false) (h7 : m0 7 = false) (h8 : m0 8 = false) (h24 : m0 24 = false) (h26 : m0 26 = false) (h28 : m0 28 = false) (h36 : m0 36 = false) (h43 : m0 43 = false) :
    Same m0 t0 (State.routeStep s g) := by
  unfold State.routeStep; try dsimp only
  repeat' split
  all_goals first | done | simp (maxDischargeDepth := 60) (decide := true) [hK, h2, h3, h4, h5, h6, h7, h8, h24, h26, h28, h36, h43]

@[simp] theorem State.routeOpen_same {m0 : Nat → Bool} {t0 : State} {s : State} (g : Fin 4) (hK : Same m0 t0 s)
    (h0 : m0 0 = false) (h1 : m0 1 = false) (h2 : m0 2 = false) (h3 : m0 3 = false) (h4 : m0 4 = false) (h5 : m0 5 = false) (h6 : m0 6 = false) (h7 : m0 7 = false) (h8 : m0 8 = false) (h9 : m0 9 = false) (h10 : m0 10 = false) (h11 : m0 11 = false) (h24 : m0 24 = false) (h26 : m0 26 = false) (h28 : m0 28 = false) (h36 : m0 36 = false) (h43 : m0 43 = false) :
    Same m0 t0 (State.routeOpen s g) := by
  unfold State.routeOpen; try dsimp only
  repeat' split
  all_goals first | done | simp (maxDischargeDepth := 60) (decide := true) [hK, h0, h1, h2, h3, h4, h5, h6, h7, h8, h9, h10, h11, h24, h26, h28, h36, h43]

@[simp] theorem State.routeEpoch_same {m0 : Nat → Bool} {t0 : State} {s : State} (g : Fin 4) (hK : Same m0 t0 s)
    (h0 : m0 0 = false) (h1 : m0 1 = false) (h2 : m0 2 = false) (h3 : m0 3 = false) (h4 : m0 4 = false) (h5 : m0 5 = false) (h6 : m0 6 = false) (h7 : m0 7 = false) (h8 : m0 8 = false) (h9 : m0 9 = false) (h10 : m0 10 = false) (h11 : m0 11 = false) (h24 : m0 24 = false) (h26 : m0 26 = false) (h28 : m0 28 = false) (h36 : m0 36 = false) (h43 : m0 43 = false) :
    Same m0 t0 (State.routeEpoch s g) := by
  unfold State.routeEpoch; try dsimp only
  repeat' split
  all_goals first | done | simp (maxDischargeDepth := 60) (decide := true) [hK, h0, h1, h2, h3, h4, h5, h6, h7, h8, h9, h10, h11, h24, h26, h28, h36, h43]

@[simp] theorem State.routeCurrent_same {m0 : Nat → Bool} {t0 : State} {s : State} (g : Fin 4) (hK : Same m0 t0 s)
    (h0 : m0 0 = false) (h1 : m0 1 = false) (h2 : m0 2 = false) (h3 : m0 3 = false) (h4 : m0 4 = false) (h5 : m0 5 = false) (h6 : m0 6 = false) (h7 : m0 7 = false) (h8 : m0 8 = false) (h9 : m0 9 = false) (h10 : m0 10 = false) (h11 : m0 11 = false) (h24 : m0 24 = false) (h26 : m0 26 = false) (h28 : m0 28 = false) (h36 : m0 36 = false) (h43 : m0 43 = false) :
    Same m0 t0 (State.routeCurrent s g) := by
  unfold State.routeCurrent; try dsimp only
  repeat' split
  all_goals first | done | simp (maxDischargeDepth := 60) (decide := true) [hK, h0, h1, h2, h3, h4, h5, h6, h7, h8, h9, h10, h11, h24, h26, h28, h36, h43]

@[simp] theorem State.routeSelectEffect_same {m0 : Nat → Bool} {t0 : State} {s : State} (g : Fin 4) (v : Nat) (hK : Same m0 t0 s)
    (h2 : m0 2 = false) (h3 : m0 3 = false) (h4 : m0 4 = false) (h5 : m0 5 = false) (h6 : m0 6 = false) (h7 : m0 7 = false) (h8 : m0 8 = false) (h28 : m0 28 = false) (h43 : m0 43 = false) :
    Same m0 t0 (State.routeSelectEffect s g v) := by
  unfold State.routeSelectEffect; try dsimp only
  repeat' split
  all_goals first | done | simp (maxDischargeDepth := 60) (decide := true) [hK, h2, h3, h4, h5, h6, h7, h8, h28, h43]

@[simp] theorem State.groupLeave_same {m0 : Nat → Bool} {t0 : State} {s : State} (g : Fin 4) (hK : Same m0 t0 s)
    (h0 : m0 0 = false) (h1 : m0 1 = false) (h2 : m0 2 = false) (h3 : m0 3 = false) (h4 : m0 4 = false) (h5 : m0 5 = false) (h6 : m0 6 = false) (h7 : m0 7 = false) (h8 : m0 8 = false) (h9 : m0 9 = false) (h10 : m0 10 = false) (h11 : m0 11 = false) (h24 : m0 24 = false) (h26 : m0 26 = false) (h28 : m0 28 = false) (h36 : m0 36 = false) (h43 : m0 43 = false) :
    Same m0 t0 (State.groupLeave s g) := by
  unfold State.groupLeave; try dsimp only
  repeat' split
  all_goals first | done | simp (maxDischargeDepth := 60) (decide := true) [hK, h0, h1, h2, h3, h4, h5, h6, h7, h8, h9, h10, h11, h24, h26, h28, h36, h43]

@[simp] theorem State.roleClear_same {m0 : Nat → Bool} {t0 : State} {s : State} (i : Nat) (hK : Same m0 t0 s)
    (h0 : m0 0 = false) (h1 : m0 1 = false) (h2 : m0 2 = false) (h3 : m0 3 = false) (h4 : m0 4 = false) (h5 : m0 5 = false) (h6 : m0 6 = false) (h7 : m0 7 = false) (h8 : m0 8 = false) (h9 : m0 9 = false) (h10 : m0 10 = false) (h11 : m0 11 = false) (h24 : m0 24 = false) (h26 : m0 26 = false) (h28 : m0 28 = false) (h36 : m0 36 = false) (h43 : m0 43 = false) :
    Same m0 t0 (State.roleClear s i) := by
  unfold State.roleClear; try dsimp only
  repeat' split
  all_goals first | done | simp (maxDischargeDepth := 60) (decide := true) [hK, h0, h1, h2, h3, h4, h5, h6, h7, h8, h9, h10, h11, h24, h26, h28, h36, h43]

@[simp] theorem State.rolesCommitted_same {m0 : Nat → Bool} {t0 : State} {s : State} (hK : Same m0 t0 s)
    (h0 : m0 0 = false) (h1 : m0 1 = false) (h2 : m0 2 = false) (h3 : m0 3 = false) (h4 : m0 4 = false) (h5 : m0 5 = false) (h6 : m0 6 = false) (h7 : m0 7 = false) (h8 : m0 8 = false) (h9 : m0 9 = false) (h10 : m0 10 = false) (h11 : m0 11 = false) (h24 : m0 24 = false) (h26 : m0 26 = false) (h28 : m0 28 = false) (h36 : m0 36 = false) (h43 : m0 43 = false) :
    Same m0 t0 (State.rolesCommitted s) := by
  unfold State.rolesCommitted; try dsimp only
  repeat' split
  all_goals first | done | simp (maxDischargeDepth := 60) (decide := true) [hK, h0, h1, h2, h3, h4, h5, h6, h7, h8, h9, h10, h11, h24, h26, h28, h36, h43]

@[simp] theorem State.roleSessionEnd_same {m0 : Nat → Bool} {t0 : State} {s : State} (o : Nat) (hK : Same m0 t0 s)
    (h0 : m0 0 = false) (h1 : m0 1 = false) (h2 : m0 2 = false) (h3 : m0 3 = false) (h4 : m0 4 = false) (h5 : m0 5 = false) (h6 : m0 6 = false) (h7 : m0 7 = false) (h8 : m0 8 = false) (h9 : m0 9 = false) (h10 : m0 10 = false) (h11 : m0 11 = false) (h24 : m0 24 = false) (h26 : m0 26 = false) (h28 : m0 28 = false) (h36 : m0 36 = false) (h43 : m0 43 = false) :
    Same m0 t0 (State.roleSessionEnd s o) := by
  unfold State.roleSessionEnd; try dsimp only
  repeat' split
  all_goals first | done | simp (maxDischargeDepth := 60) (decide := true) [hK, h0, h1, h2, h3, h4, h5, h6, h7, h8, h9, h10, h11, h24, h26, h28, h36, h43]

@[simp] theorem State.rolesBoundary_same {m0 : Nat → Bool} {t0 : State} {s : State} (hK : Same m0 t0 s)
    (h0 : m0 0 = false) (h1 : m0 1 = false) (h2 : m0 2 = false) (h3 : m0 3 = false) (h4 : m0 4 = false) (h5 : m0 5 = false) (h6 : m0 6 = false) (h7 : m0 7 = false) (h8 : m0 8 = false) (h9 : m0 9 = false) (h10 : m0 10 = false) (h11 : m0 11 = false) (h24 : m0 24 = false) (h26 : m0 26 = false) (h28 : m0 28 = false) (h36 : m0 36 = false) (h43 : m0 43 = false) :
    Same m0 t0 (State.rolesBoundary s) := by
  unfold State.rolesBoundary; try dsimp only
  repeat' split
  all_goals first | done | simp (maxDischargeDepth := 60) (decide := true) [hK, h0, h1, h2, h3, h4, h5, h6, h7, h8, h9, h10, h11, h24, h26, h28, h36, h43]

/-! ## Machine/Loops.lean -/

@[simp] theorem State.setEngine_same {m0 : Nat → Bool} {t0 : State} {s : State} (e : Fin 38) (x : Engine) (hK : Same m0 t0 s)
    (h27 : m0 27 = false) :
    Same m0 t0 (State.setEngine s e x) := by
  unfold State.setEngine; try dsimp only
  repeat' split
  all_goals first | done | simp (maxDischargeDepth := 60) (decide := true) [hK, h27]

@[simp] theorem State.refreshEngines_same {m0 : Nat → Bool} {t0 : State} {s : State} (hK : Same m0 t0 s)
    (h2 : m0 2 = false) (h3 : m0 3 = false) (h4 : m0 4 = false) (h5 : m0 5 = false) (h6 : m0 6 = false) (h7 : m0 7 = false) (h8 : m0 8 = false) :
    Same m0 t0 (State.refreshEngines s) := by
  unfold State.refreshEngines; try dsimp only
  repeat' split
  all_goals first | done | simp (maxDischargeDepth := 60) (decide := true) [hK, h2, h3, h4, h5, h6, h7, h8]

@[simp] theorem State.applyBinds_same {m0 : Nat → Bool} {t0 : State} {s : State} (hK : Same m0 t0 s)
    (h2 : m0 2 = false) (h3 : m0 3 = false) (h4 : m0 4 = false) (h5 : m0 5 = false) (h6 : m0 6 = false) (h7 : m0 7 = false) (h8 : m0 8 = false) :
    Same m0 t0 (State.applyBinds s) := by
  unfold State.applyBinds; try dsimp only
  repeat' split
  all_goals first | done | simp (maxDischargeDepth := 60) (decide := true) [hK, h2, h3, h4, h5, h6, h7, h8]

@[simp] theorem State.refreshCoolEngines_same {m0 : Nat → Bool} {t0 : State} {s : State} (hK : Same m0 t0 s)
    (h5 : m0 5 = false) (h6 : m0 6 = false) (h7 : m0 7 = false) (h8 : m0 8 = false) (h35 : m0 35 = false) :
    Same m0 t0 (State.refreshCoolEngines s) := by
  unfold State.refreshCoolEngines; try dsimp only
  repeat' split
  all_goals first | done | simp (maxDischargeDepth := 60) (decide := true) [hK, h5, h6, h7, h8, h35]

@[simp] theorem State.deliverZero_same {m0 : Nat → Bool} {t0 : State} {s : State} (n : Fin 32) (hK : Same m0 t0 s)
    (h2 : m0 2 = false) (h3 : m0 3 = false) (h4 : m0 4 = false) (h5 : m0 5 = false) (h6 : m0 6 = false) (h7 : m0 7 = false) (h8 : m0 8 = false) (h26 : m0 26 = false) :
    Same m0 t0 (State.deliverZero s n) := by
  unfold State.deliverZero; try dsimp only
  repeat' split
  all_goals first | done | simp (maxDischargeDepth := 60) (decide := true) [hK, h2, h3, h4, h5, h6, h7, h8, h26]

@[simp] theorem State.applyN_same {m0 : Nat → Bool} {t0 : State} {s : State} (g : Fin 4) (n : Nat) (hK : Same m0 t0 s)
    (h2 : m0 2 = false) (h3 : m0 3 = false) (h4 : m0 4 = false) (h5 : m0 5 = false) (h6 : m0 6 = false) (h7 : m0 7 = false) (h8 : m0 8 = false) (h26 : m0 26 = false) (h28 : m0 28 = false) :
    Same m0 t0 (State.applyN s g n) := by
  unfold State.applyN; try dsimp only
  repeat' split
  all_goals first | done | simp (maxDischargeDepth := 60) (decide := true) [hK, h2, h3, h4, h5, h6, h7, h8, h26, h28]

@[simp] theorem State.refreshShed_same {m0 : Nat → Bool} {t0 : State} {s : State} (g : Fin 4) (hK : Same m0 t0 s)
    (h2 : m0 2 = false) (h3 : m0 3 = false) (h4 : m0 4 = false) (h5 : m0 5 = false) (h6 : m0 6 = false) (h7 : m0 7 = false) (h8 : m0 8 = false) :
    Same m0 t0 (State.refreshShed s g) := by
  unfold State.refreshShed; try dsimp only
  repeat' split
  all_goals first | done | simp (maxDischargeDepth := 60) (decide := true) [hK, h2, h3, h4, h5, h6, h7, h8]

@[simp] theorem State.reshed_same {m0 : Nat → Bool} {t0 : State} {s : State} (g : Fin 4) (hK : Same m0 t0 s)
    (h2 : m0 2 = false) (h3 : m0 3 = false) (h4 : m0 4 = false) (h5 : m0 5 = false) (h6 : m0 6 = false) (h7 : m0 7 = false) (h8 : m0 8 = false) (h26 : m0 26 = false) (h28 : m0 28 = false) :
    Same m0 t0 (State.reshed s g) := by
  unfold State.reshed; try dsimp only
  repeat' split
  all_goals first | done | simp (maxDischargeDepth := 60) (decide := true) [hK, h2, h3, h4, h5, h6, h7, h8, h26, h28]

@[simp] theorem State.shedCancel_same {m0 : Nat → Bool} {t0 : State} {s : State} (g : Fin 4) (hK : Same m0 t0 s)
    (h2 : m0 2 = false) (h3 : m0 3 = false) (h4 : m0 4 = false) (h5 : m0 5 = false) (h6 : m0 6 = false) (h7 : m0 7 = false) (h8 : m0 8 = false) (h26 : m0 26 = false) (h28 : m0 28 = false) :
    Same m0 t0 (State.shedCancel s g) := by
  unfold State.shedCancel; try dsimp only
  repeat' split
  all_goals first | done | simp (maxDischargeDepth := 60) (decide := true) [hK, h2, h3, h4, h5, h6, h7, h8, h26, h28]

@[simp] theorem State.noteShut_same {m0 : Nat → Bool} {t0 : State} {s : State} (g : Fin 4) (hK : Same m0 t0 s)
    (h26 : m0 26 = false) :
    Same m0 t0 (State.noteShut s g) := by
  unfold State.noteShut; try dsimp only
  repeat' split
  all_goals first | done | simp (maxDischargeDepth := 60) (decide := true) [hK, h26]

@[simp] theorem State.closeWindow_same {m0 : Nat → Bool} {t0 : State} {s : State} (g : Fin 4) (hK : Same m0 t0 s)
    (h2 : m0 2 = false) (h3 : m0 3 = false) (h4 : m0 4 = false) (h5 : m0 5 = false) (h6 : m0 6 = false) (h7 : m0 7 = false) (h8 : m0 8 = false) (h28 : m0 28 = false) :
    Same m0 t0 (State.closeWindow s g) := by
  unfold State.closeWindow; try dsimp only
  repeat' split
  all_goals first | done | simp (maxDischargeDepth := 60) (decide := true) [hK, h2, h3, h4, h5, h6, h7, h8, h28]

@[simp] theorem State.shedSample_same {m0 : Nat → Bool} {t0 : State} {s : State} (g : Fin 4) (t : Nat) (hK : Same m0 t0 s)
    (h2 : m0 2 = false) (h3 : m0 3 = false) (h4 : m0 4 = false) (h5 : m0 5 = false) (h6 : m0 6 = false) (h7 : m0 7 = false) (h8 : m0 8 = false) (h26 : m0 26 = false) (h28 : m0 28 = false) :
    Same m0 t0 (State.shedSample s g t) := by
  unfold State.shedSample; try dsimp only
  repeat' split
  all_goals first | done | simp (maxDischargeDepth := 60) (decide := true) [hK, h2, h3, h4, h5, h6, h7, h8, h26, h28]

@[simp] theorem State.setpFaultOn_same {m0 : Nat → Bool} {t0 : State} {s : State} (g : Fin 4) (hK : Same m0 t0 s)
    (h2 : m0 2 = false) (h3 : m0 3 = false) (h4 : m0 4 = false) (h5 : m0 5 = false) (h6 : m0 6 = false) (h7 : m0 7 = false) (h8 : m0 8 = false) (h24 : m0 24 = false) (h28 : m0 28 = false) :
    Same m0 t0 (State.setpFaultOn s g) := by
  unfold State.setpFaultOn; try dsimp only
  repeat' split
  all_goals first | done | simp (maxDischargeDepth := 60) (decide := true) [hK, h2, h3, h4, h5, h6, h7, h8, h24, h28]

@[simp] theorem State.commandSample_same {m0 : Nat → Bool} {t0 : State} {s : State} (g : Fin 4) (t : Nat) (ts : Nat) (pin : Nat) (hK : Same m0 t0 s)
    (h2 : m0 2 = false) (h3 : m0 3 = false) (h4 : m0 4 = false) (h5 : m0 5 = false) (h6 : m0 6 = false) (h7 : m0 7 = false) (h8 : m0 8 = false) (h24 : m0 24 = false) (h28 : m0 28 = false) :
    Same m0 t0 (State.commandSample s g t ts pin) := by
  unfold State.commandSample; try dsimp only
  repeat' split
  all_goals first | done | simp (maxDischargeDepth := 60) (decide := true) [hK, h2, h3, h4, h5, h6, h7, h8, h24, h28]

@[simp] theorem State.stepLimit_same {m0 : Nat → Bool} {t0 : State} {s : State} (g : Fin 4) (hK : Same m0 t0 s)
    (h2 : m0 2 = false) (h3 : m0 3 = false) (h4 : m0 4 = false) (h5 : m0 5 = false) (h6 : m0 6 = false) (h7 : m0 7 = false) (h8 : m0 8 = false) :
    Same m0 t0 (State.stepLimit s g) := by
  unfold State.stepLimit; try dsimp only
  repeat' split
  all_goals first | done | simp (maxDischargeDepth := 60) (decide := true) [hK, h2, h3, h4, h5, h6, h7, h8]

@[simp] theorem State.regionSample_same {m0 : Nat → Bool} {t0 : State} {s : State} (e : Fin 38) (i : LoopIn) (hK : Same m0 t0 s)
    (h2 : m0 2 = false) (h3 : m0 3 = false) (h4 : m0 4 = false) (h5 : m0 5 = false) (h6 : m0 6 = false) (h7 : m0 7 = false) (h8 : m0 8 = false) (h27 : m0 27 = false) :
    Same m0 t0 (State.regionSample s e i).1 := by
  unfold State.regionSample; try dsimp only
  repeat' split
  all_goals first | done | simp (maxDischargeDepth := 60) (decide := true) [hK, h2, h3, h4, h5, h6, h7, h8, h27]

@[simp] theorem State.compute_same {m0 : Nat → Bool} {t0 : State} {s : State} (e : Fin 38) (n : Fin 32) (hK : Same m0 t0 s)
    (h2 : m0 2 = false) (h3 : m0 3 = false) (h4 : m0 4 = false) (h5 : m0 5 = false) (h6 : m0 6 = false) (h7 : m0 7 = false) (h8 : m0 8 = false) (h27 : m0 27 = false) :
    Same m0 t0 (State.compute s e n) := by
  unfold State.compute; try dsimp only
  repeat' split
  all_goals first | done | simp (maxDischargeDepth := 60) (decide := true) [hK, h2, h3, h4, h5, h6, h7, h8, h27]

@[simp] theorem State.copyEngine_same {m0 : Nat → Bool} {t0 : State} {s : State} (old : Fin 38) (new : Fin 38) (hK : Same m0 t0 s)
    (h2 : m0 2 = false) (h3 : m0 3 = false) (h4 : m0 4 = false) (h5 : m0 5 = false) (h6 : m0 6 = false) (h7 : m0 7 = false) (h8 : m0 8 = false) (h27 : m0 27 = false) :
    Same m0 t0 (State.copyEngine s old new) := by
  unfold State.copyEngine; try dsimp only
  repeat' split
  all_goals first | done | simp (maxDischargeDepth := 60) (decide := true) [hK, h2, h3, h4, h5, h6, h7, h8, h27]

@[simp] theorem State.rebindOver_same {m0 : Nat → Bool} {t0 : State} {s : State} (r : Rebind) (hK : Same m0 t0 s)
    (h0 : m0 0 = false) (h1 : m0 1 = false) (h2 : m0 2 = false) (h3 : m0 3 = false) (h4 : m0 4 = false) (h5 : m0 5 = false) (h6 : m0 6 = false) (h7 : m0 7 = false) (h8 : m0 8 = false) (h9 : m0 9 = false) (h10 : m0 10 = false) (h11 : m0 11 = false) (h21 : m0 21 = false) (h30 : m0 30 = false) (h31 : m0 31 = false) (h35 : m0 35 = false) :
    Same m0 t0 (State.rebindOver s r) := by
  unfold State.rebindOver; try dsimp only
  repeat' split
  all_goals first | done | simp (maxDischargeDepth := 60) (decide := true) [hK, h0, h1, h2, h3, h4, h5, h6, h7, h8, h9, h10, h11, h21, h30, h31, h35]

@[simp] theorem State.rebindFailed_same {m0 : Nat → Bool} {t0 : State} {s : State} (r : Rebind) (detail : Nat) (hK : Same m0 t0 s)
    (h0 : m0 0 = false) (h1 : m0 1 = false) (h2 : m0 2 = false) (h3 : m0 3 = false) (h4 : m0 4 = false) (h5 : m0 5 = false) (h6 : m0 6 = false) (h7 : m0 7 = false) (h8 : m0 8 = false) (h9 : m0 9 = false) (h10 : m0 10 = false) (h11 : m0 11 = false) (h21 : m0 21 = false) (h30 : m0 30 = false) (h31 : m0 31 = false) (h35 : m0 35 = false) :
    Same m0 t0 (State.rebindFailed s r detail) := by
  unfold State.rebindFailed; try dsimp only
  repeat' split
  all_goals first | done | simp (maxDischargeDepth := 60) (decide := true) [hK, h0, h1, h2, h3, h4, h5, h6, h7, h8, h9, h10, h11, h21, h30, h31, h35]

@[simp] theorem State.rebindCopy_same {m0 : Nat → Bool} {t0 : State} {s : State} (e : Fin 38) (hK : Same m0 t0 s)
    (h2 : m0 2 = false) (h3 : m0 3 = false) (h4 : m0 4 = false) (h5 : m0 5 = false) (h6 : m0 6 = false) (h7 : m0 7 = false) (h8 : m0 8 = false) (h27 : m0 27 = false) (h30 : m0 30 = false) :
    Same m0 t0 (State.rebindCopy s e) := by
  unfold State.rebindCopy; try dsimp only
  repeat' split
  all_goals first | done | simp (maxDischargeDepth := 60) (decide := true) [hK, h2, h3, h4, h5, h6, h7, h8, h27, h30]

@[simp] theorem State.shadowSample_same {m0 : Nat → Bool} {t0 : State} {s : State} (r : Rebind) (e : Fin 38) (n : Fin 32) (hK : Same m0 t0 s)
    (h0 : m0 0 = false) (h1 : m0 1 = false) (h2 : m0 2 = false) (h3 : m0 3 = false) (h4 : m0 4 = false) (h5 : m0 5 = false) (h6 : m0 6 = false) (h7 : m0 7 = false) (h8 : m0 8 = false) (h9 : m0 9 = false) (h10 : m0 10 = false) (h11 : m0 11 = false) (h21 : m0 21 = false) (h27 : m0 27 = false) (h30 : m0 30 = false) (h31 : m0 31 = false) (h35 : m0 35 = false) :
    Same m0 t0 (State.shadowSample s r e n) := by
  unfold State.shadowSample; try dsimp only
  repeat' split
  all_goals first | done | simp (maxDischargeDepth := 60) (decide := true) [hK, h0, h1, h2, h3, h4, h5, h6, h7, h8, h9, h10, h11, h21, h27, h30, h31, h35]

@[simp] theorem State.unsilence_same {m0 : Nat → Bool} {t0 : State} {s : State} (e : Fin 38) (n : Fin 32) (hK : Same m0 t0 s)
    (h2 : m0 2 = false) (h3 : m0 3 = false) (h4 : m0 4 = false) (h5 : m0 5 = false) (h6 : m0 6 = false) (h7 : m0 7 = false) (h8 : m0 8 = false) (h26 : m0 26 = false) (h28 : m0 28 = false) :
    Same m0 t0 (State.unsilence s e n) := by
  unfold State.unsilence; try dsimp only
  repeat' split
  all_goals first | done | simp (maxDischargeDepth := 60) (decide := true) [hK, h2, h3, h4, h5, h6, h7, h8, h26, h28]

@[simp] theorem State.loadLoop_same {m0 : Nat → Bool} {t0 : State} {s : State} (e : Fin 38) (n : Fin 32) (x : LoopImage) (hK : Same m0 t0 s)
    (h2 : m0 2 = false) (h3 : m0 3 = false) (h4 : m0 4 = false) (h5 : m0 5 = false) (h6 : m0 6 = false) (h7 : m0 7 = false) (h8 : m0 8 = false) (h26 : m0 26 = false) (h27 : m0 27 = false) (h28 : m0 28 = false) :
    Same m0 t0 (State.loadLoop s e n x) := by
  unfold State.loadLoop; try dsimp only
  repeat' split
  all_goals first | done | simp (maxDischargeDepth := 60) (decide := true) [hK, h2, h3, h4, h5, h6, h7, h8, h26, h27, h28]

@[simp] theorem State.loopSample_same {m0 : Nat → Bool} {t0 : State} {s : State} (e : Fin 38) (t : Nat) (vin : Int) (vout : Int) (pin : Nat) (hK : Same m0 t0 s)
    (h0 : m0 0 = false) (h1 : m0 1 = false) (h2 : m0 2 = false) (h3 : m0 3 = false) (h4 : m0 4 = false) (h5 : m0 5 = false) (h6 : m0 6 = false) (h7 : m0 7 = false) (h8 : m0 8 = false) (h9 : m0 9 = false) (h10 : m0 10 = false) (h11 : m0 11 = false) (h21 : m0 21 = false) (h24 : m0 24 = false) (h25 : m0 25 = false) (h26 : m0 26 = false) (h27 : m0 27 = false) (h28 : m0 28 = false) (h30 : m0 30 = false) (h31 : m0 31 = false) (h35 : m0 35 = false) (h43 : m0 43 = false) :
    Same m0 t0 (State.loopSample s e t vin vout pin) := by
  unfold State.loopSample; try dsimp only
  repeat' split
  all_goals first | done | simp (maxDischargeDepth := 60) (decide := true) [hK, h0, h1, h2, h3, h4, h5, h6, h7, h8, h9, h10, h11, h21, h24, h25, h26, h27, h28, h30, h31, h35, h43]

@[simp] theorem State.averageSample_same {m0 : Nat → Bool} {t0 : State} {s : State} (n : Fin 32) (t : Nat) (i : Int) (hK : Same m0 t0 s)
    (h2 : m0 2 = false) (h3 : m0 3 = false) (h4 : m0 4 = false) (h5 : m0 5 = false) (h6 : m0 6 = false) (h7 : m0 7 = false) (h8 : m0 8 = false) (h26 : m0 26 = false) :
    Same m0 t0 (State.averageSample s n t i) := by
  unfold State.averageSample; dsimp only
  split
  · apply State.putI_same _ _ (State.setLeg_same _ _ hK h26) <;> simp (maxDischargeDepth := 60) (decide := true) [hK, h2, h3, h4, h5, h6, h7, h8, h26]
  · exact State.setLeg_same _ _ hK h26

@[simp] theorem State.edgeSample_same {m0 : Nat → Bool} {t0 : State} {s : State} (n : Fin 32) (t : Nat) (count : Int) (hK : Same m0 t0 s)
    (h2 : m0 2 = false) (h3 : m0 3 = false) (h4 : m0 4 = false) (h5 : m0 5 = false) (h6 : m0 6 = false) (h7 : m0 7 = false) (h8 : m0 8 = false) (h25 : m0 25 = false) (h26 : m0 26 = false) :
    Same m0 t0 (State.edgeSample s n t count) := by
  unfold State.edgeSample; try dsimp only
  repeat' split
  all_goals first | done | simp (maxDischargeDepth := 60) (decide := true) [hK, h2, h3, h4, h5, h6, h7, h8, h25, h26]

@[simp] theorem State.deliverSetpoint_same {m0 : Nat → Bool} {t0 : State} {s : State} (g : Fin 4) (t : Nat) (hK : Same m0 t0 s)
    (h2 : m0 2 = false) (h3 : m0 3 = false) (h4 : m0 4 = false) (h5 : m0 5 = false) (h6 : m0 6 = false) (h7 : m0 7 = false) (h8 : m0 8 = false) (h20 : m0 20 = false) (h25 : m0 25 = false) (h28 : m0 28 = false) :
    Same m0 t0 (State.deliverSetpoint s g t) := by
  unfold State.deliverSetpoint; try dsimp only
  repeat' split
  all_goals first | done | simp (maxDischargeDepth := 60) (decide := true) [hK, h2, h3, h4, h5, h6, h7, h8, h20, h25, h28]

@[simp] theorem State.stopTarget_same {m0 : Nat → Bool} {t0 : State} {s : State} (g : Fin 4) (hK : Same m0 t0 s)
    (h28 : m0 28 = false) :
    Same m0 t0 (State.stopTarget s g) := by
  unfold State.stopTarget; try dsimp only
  repeat' split
  all_goals first | done | simp (maxDischargeDepth := 60) (decide := true) [hK, h28]

@[simp] theorem State.otShut_same {m0 : Nat → Bool} {t0 : State} {s : State} (n : Fin 32) (hK : Same m0 t0 s)
    (h2 : m0 2 = false) (h3 : m0 3 = false) (h4 : m0 4 = false) (h5 : m0 5 = false) (h6 : m0 6 = false) (h7 : m0 7 = false) (h8 : m0 8 = false) (h26 : m0 26 = false) :
    Same m0 t0 (State.otShut s n) := by
  unfold State.otShut; try dsimp only
  repeat' split
  all_goals first | done | simp (maxDischargeDepth := 60) (decide := true) [hK, h2, h3, h4, h5, h6, h7, h8, h26]

@[simp] theorem State.otReturn_same {m0 : Nat → Bool} {t0 : State} {s : State} (n : Fin 32) (hK : Same m0 t0 s)
    (h2 : m0 2 = false) (h3 : m0 3 = false) (h4 : m0 4 = false) (h5 : m0 5 = false) (h6 : m0 6 = false) (h7 : m0 7 = false) (h8 : m0 8 = false) (h26 : m0 26 = false) (h28 : m0 28 = false) :
    Same m0 t0 (State.otReturn s n) := by
  unfold State.otReturn; try dsimp only
  repeat' split
  all_goals first | done | simp (maxDischargeDepth := 60) (decide := true) [hK, h2, h3, h4, h5, h6, h7, h8, h26, h28]

@[simp] theorem State.ntcSample_same {m0 : Nat → Bool} {t0 : State} {s : State} (n : Fin 32) (ohms : Nat) (hK : Same m0 t0 s)
    (h2 : m0 2 = false) (h3 : m0 3 = false) (h4 : m0 4 = false) (h5 : m0 5 = false) (h6 : m0 6 = false) (h7 : m0 7 = false) (h8 : m0 8 = false) (h24 : m0 24 = false) (h26 : m0 26 = false) (h28 : m0 28 = false) :
    Same m0 t0 (State.ntcSample s n ohms) := by
  unfold State.ntcSample; try dsimp only
  repeat' split
  all_goals first | done | simp (maxDischargeDepth := 60) (decide := true) [hK, h2, h3, h4, h5, h6, h7, h8, h24, h26, h28]

@[simp] theorem State.beginRebind_same {m0 : Nat → Bool} {t0 : State} {s : State} (target : Nat) (newE : Nat) (auto : Bool) (hK : Same m0 t0 s)
    (h2 : m0 2 = false) (h3 : m0 3 = false) (h4 : m0 4 = false) (h5 : m0 5 = false) (h6 : m0 6 = false) (h7 : m0 7 = false) (h8 : m0 8 = false) (h26 : m0 26 = false) (h27 : m0 27 = false) (h28 : m0 28 = false) (h30 : m0 30 = false) (h35 : m0 35 = false) :
    Same m0 t0 (State.beginRebind s target newE auto) := by
  unfold State.beginRebind; try dsimp only
  repeat' split
  all_goals first | done | simp (maxDischargeDepth := 60) (decide := true) [hK, h2, h3, h4, h5, h6, h7, h8, h26, h27, h28, h30, h35]

@[simp] theorem State.autoRebind_same {m0 : Nat → Bool} {t0 : State} {s : State} (target : Nat) (hK : Same m0 t0 s)
    (h2 : m0 2 = false) (h3 : m0 3 = false) (h4 : m0 4 = false) (h5 : m0 5 = false) (h6 : m0 6 = false) (h7 : m0 7 = false) (h8 : m0 8 = false) (h24 : m0 24 = false) (h26 : m0 26 = false) (h27 : m0 27 = false) (h28 : m0 28 = false) (h30 : m0 30 = false) (h35 : m0 35 = false) :
    Same m0 t0 (State.autoRebind s target) := by
  unfold State.autoRebind; try dsimp only
  repeat' split
  all_goals first | done | simp (maxDischargeDepth := 60) (decide := true) [hK, h2, h3, h4, h5, h6, h7, h8, h24, h26, h27, h28, h30, h35]

@[simp] theorem State.cmdSilence_same {m0 : Nat → Bool} {t0 : State} {s : State} (n : Fin 32) (hK : Same m0 t0 s)
    (h0 : m0 0 = false) (h1 : m0 1 = false) (h2 : m0 2 = false) (h3 : m0 3 = false) (h4 : m0 4 = false) (h5 : m0 5 = false) (h6 : m0 6 = false) (h7 : m0 7 = false) (h8 : m0 8 = false) (h9 : m0 9 = false) (h10 : m0 10 = false) (h11 : m0 11 = false) (h21 : m0 21 = false) (h24 : m0 24 = false) (h26 : m0 26 = false) (h27 : m0 27 = false) (h28 : m0 28 = false) (h30 : m0 30 = false) (h31 : m0 31 = false) (h35 : m0 35 = false) :
    Same m0 t0 (State.cmdSilence s n) := by
  unfold State.cmdSilence; try dsimp only
  repeat' split
  all_goals first | done | simp (maxDischargeDepth := 60) (decide := true) [hK, h0, h1, h2, h3, h4, h5, h6, h7, h8, h9, h10, h11, h21, h24, h26, h27, h28, h30, h31, h35]

@[simp] theorem State.engineRebind_same {m0 : Nat → Bool} {t0 : State} {s : State} (arg : Nat) (hK : Same m0 t0 s)
    (h2 : m0 2 = false) (h3 : m0 3 = false) (h4 : m0 4 = false) (h5 : m0 5 = false) (h6 : m0 6 = false) (h7 : m0 7 = false) (h8 : m0 8 = false) (h21 : m0 21 = false) (h26 : m0 26 = false) (h27 : m0 27 = false) (h28 : m0 28 = false) (h30 : m0 30 = false) (h35 : m0 35 = false) :
    Same m0 t0 (State.engineRebind s arg) := by
  unfold State.engineRebind; try dsimp only
  repeat' split
  all_goals first | done | simp (maxDischargeDepth := 60) (decide := true) [hK, h2, h3, h4, h5, h6, h7, h8, h21, h26, h27, h28, h30, h35]

@[simp] theorem State.rebindComplete_same {m0 : Nat → Bool} {t0 : State} {s : State} (r : Rebind) (hK : Same m0 t0 s)
    (h0 : m0 0 = false) (h1 : m0 1 = false) (h2 : m0 2 = false) (h3 : m0 3 = false) (h4 : m0 4 = false) (h5 : m0 5 = false) (h6 : m0 6 = false) (h7 : m0 7 = false) (h8 : m0 8 = false) (h9 : m0 9 = false) (h10 : m0 10 = false) (h11 : m0 11 = false) (h21 : m0 21 = false) (h26 : m0 26 = false) (h27 : m0 27 = false) (h28 : m0 28 = false) (h30 : m0 30 = false) (h31 : m0 31 = false) (h35 : m0 35 = false) :
    Same m0 t0 (State.rebindComplete s r) := by
  unfold State.rebindComplete; try dsimp only
  repeat' split
  all_goals first | done | simp (maxDischargeDepth := 60) (decide := true) [hK, h0, h1, h2, h3, h4, h5, h6, h7, h8, h9, h10, h11, h21, h26, h27, h28, h30, h31, h35]

@[simp] theorem State.rebindsCaptured_same {m0 : Nat → Bool} {t0 : State} {s : State} (hK : Same m0 t0 s)
    (h0 : m0 0 = false) (h1 : m0 1 = false) (h2 : m0 2 = false) (h3 : m0 3 = false) (h4 : m0 4 = false) (h5 : m0 5 = false) (h6 : m0 6 = false) (h7 : m0 7 = false) (h8 : m0 8 = false) (h9 : m0 9 = false) (h10 : m0 10 = false) (h11 : m0 11 = false) (h21 : m0 21 = false) (h26 : m0 26 = false) (h27 : m0 27 = false) (h28 : m0 28 = false) (h30 : m0 30 = false) (h31 : m0 31 = false) (h35 : m0 35 = false) :
    Same m0 t0 (State.rebindsCaptured s) := by
  unfold State.rebindsCaptured; try dsimp only
  repeat' split
  all_goals first | done | simp (maxDischargeDepth := 60) (decide := true) [hK, h0, h1, h2, h3, h4, h5, h6, h7, h8, h9, h10, h11, h21, h26, h27, h28, h30, h31, h35]

/-! ## Machine/Records.lean -/

@[simp] theorem State.refreshTariff_same {m0 : Nat → Bool} {t0 : State} {s : State} (hK : Same m0 t0 s)
    (h7 : m0 7 = false) (h8 : m0 8 = false) :
    Same m0 t0 (State.refreshTariff s) := by
  unfold State.refreshTariff; try dsimp only
  repeat' split
  all_goals first | done | simp (maxDischargeDepth := 60) (decide := true) [hK, h7, h8]

@[simp] theorem State.setMeter_same {m0 : Nat → Bool} {t0 : State} {s : State} (c : Fin 4) (m : Meter) (hK : Same m0 t0 s)
    (h39 : m0 39 = false) :
    Same m0 t0 (State.setMeter s c m) := by
  unfold State.setMeter; try dsimp only
  repeat' split
  all_goals first | done | simp (maxDischargeDepth := 60) (decide := true) [hK, h39]

@[simp] theorem State.refreshMc_same {m0 : Nat → Bool} {t0 : State} {s : State} (c : Fin 4) (ovr : Bool) (hK : Same m0 t0 s)
    (h7 : m0 7 = false) (h8 : m0 8 = false) :
    Same m0 t0 (State.refreshMc s c ovr) := by
  unfold State.refreshMc; try dsimp only
  repeat' split
  all_goals first | done | simp (maxDischargeDepth := 60) (decide := true) [hK, h7, h8]

@[simp] theorem State.refreshMcs_same {m0 : Nat → Bool} {t0 : State} {s : State} (hK : Same m0 t0 s)
    (h7 : m0 7 = false) (h8 : m0 8 = false) :
    Same m0 t0 (State.refreshMcs s) := by
  unfold State.refreshMcs; try dsimp only
  repeat' split
  all_goals first | done | simp (maxDischargeDepth := 60) (decide := true) [hK, h7, h8]

@[simp] theorem State.advanceMeter_same {m0 : Nat → Bool} {t0 : State} {s : State} (d : Nat) (c : Fin 4) (hK : Same m0 t0 s)
    (h7 : m0 7 = false) (h8 : m0 8 = false) (h24 : m0 24 = false) (h39 : m0 39 = false) :
    Same m0 t0 (State.advanceMeter s d c) := by
  unfold State.advanceMeter; try dsimp only
  repeat' split
  all_goals first | done | simp (maxDischargeDepth := 60) (decide := true) [hK, h7, h8, h24, h39]

@[simp] theorem State.advance_same {m0 : Nat → Bool} {t0 : State} {s : State} (t : Nat) (hK : Same m0 t0 s)
    (h7 : m0 7 = false) (h8 : m0 8 = false) (h20 : m0 20 = false) (h24 : m0 24 = false) (h39 : m0 39 = false) :
    Same m0 t0 (State.advance s t) := by
  unfold State.advance; try dsimp only
  repeat' split
  all_goals first | done | simp (maxDischargeDepth := 60) (decide := true) [hK, h7, h8, h20, h24, h39]

@[simp] theorem State.freeEvents_same {m0 : Nat → Bool} {t0 : State} {s : State} (hK : Same m0 t0 s)
    (h42 : m0 42 = false) :
    Same m0 t0 (State.freeEvents s) := by
  unfold State.freeEvents; try dsimp only
  repeat' split
  all_goals first | done | simp (maxDischargeDepth := 60) (decide := true) [hK, h42]

@[simp] theorem State.vevAdd_same {m0 : Nat → Bool} {t0 : State} {s : State} (kind : Nat) (which : Nat) (at_ : Nat) (hK : Same m0 t0 s)
    (h42 : m0 42 = false) :
    Same m0 t0 (State.vevAdd s kind which at_) := by
  unfold State.vevAdd; try dsimp only
  repeat' split
  all_goals first | done | simp (maxDischargeDepth := 60) (decide := true) [hK, h42]

@[simp] theorem State.vevRecorded_same {m0 : Nat → Bool} {t0 : State} {s : State} (seq : Nat) (hK : Same m0 t0 s)
    (h42 : m0 42 = false) :
    Same m0 t0 (State.vevRecorded s seq) := by
  unfold State.vevRecorded; try dsimp only
  repeat' split
  all_goals first | done | simp (maxDischargeDepth := 60) (decide := true) [hK, h42]

@[simp] theorem State.refreshLog_same {m0 : Nat → Bool} {t0 : State} {s : State} (hK : Same m0 t0 s)
    (h7 : m0 7 = false) (h8 : m0 8 = false) (h24 : m0 24 = false) :
    Same m0 t0 (State.refreshLog s) := by
  unfold State.refreshLog; try dsimp only
  repeat' split
  all_goals first | done | simp (maxDischargeDepth := 60) (decide := true) [hK, h7, h8, h24]

@[simp] theorem State.writeRecord_same {m0 : Nat → Bool} {t0 : State} {s : State} (r : LegalReq) (hK : Same m0 t0 s)
    (h7 : m0 7 = false) (h8 : m0 8 = false) (h24 : m0 24 = false) (h39 : m0 39 = false) (h42 : m0 42 = false) :
    Same m0 t0 (State.writeRecord s r) := by
  unfold State.writeRecord; try dsimp only
  repeat' split
  all_goals first | done | simp (maxDischargeDepth := 60) (decide := true) [hK, h7, h8, h24, h39, h42]

@[simp] theorem State.writeWaiting_same {m0 : Nat → Bool} {t0 : State} (l : List LegalReq) {s : State} (hK : Same m0 t0 s)
    (h7 : m0 7 = false) (h8 : m0 8 = false) (h24 : m0 24 = false) (h39 : m0 39 = false) (h42 : m0 42 = false) :
    Same m0 t0 (State.writeWaiting l s) := by
  induction l generalizing s with
  | nil => exact hK
  | cons r t ih => unfold State.writeWaiting; split <;> exact ih (by simp (maxDischargeDepth := 60) (decide := true) [hK, h7, h8, h24, h39, h42])

@[simp] theorem State.drainWaiting_same {m0 : Nat → Bool} {t0 : State} {s : State} (hK : Same m0 t0 s)
    (h7 : m0 7 = false) (h8 : m0 8 = false) (h24 : m0 24 = false) (h39 : m0 39 = false) (h42 : m0 42 = false) :
    Same m0 t0 (State.drainWaiting s) := by
  unfold State.drainWaiting; try dsimp only
  repeat' split
  all_goals first | done | simp (maxDischargeDepth := 60) (decide := true) [hK, h7, h8, h24, h39, h42]

@[simp] theorem State.record_same {m0 : Nat → Bool} {t0 : State} {s : State} (r : LegalReq) (hK : Same m0 t0 s)
    (h7 : m0 7 = false) (h8 : m0 8 = false) (h24 : m0 24 = false) (h39 : m0 39 = false) (h42 : m0 42 = false) :
    Same m0 t0 (State.record s r) := by
  unfold State.record; try dsimp only
  repeat' split
  all_goals first | done | simp (maxDischargeDepth := 60) (decide := true) [hK, h7, h8, h24, h39, h42]

@[simp] theorem State.copyRegs_same {m0 : Nat → Bool} {t0 : State} {s : State} (hK : Same m0 t0 s)
    (h39 : m0 39 = false) :
    Same m0 t0 (State.copyRegs s) := by
  unfold State.copyRegs; try dsimp only
  repeat' split
  all_goals first | done | simp (maxDischargeDepth := 60) (decide := true) [hK, h39]

@[simp] theorem State.commitRegs_same {m0 : Nat → Bool} {t0 : State} {s : State} (hK : Same m0 t0 s)
    (h7 : m0 7 = false) (h8 : m0 8 = false) (h39 : m0 39 = false) (h43 : m0 43 = false) :
    Same m0 t0 (State.commitRegs s) := by
  unfold State.commitRegs; try dsimp only
  repeat' split
  all_goals first | done | simp (maxDischargeDepth := 60) (decide := true) [hK, h7, h8, h39, h43]

@[simp] theorem State.closeInterval_same {m0 : Nat → Bool} {t0 : State} {s : State} (c : Fin 4) (hK : Same m0 t0 s)
    (h7 : m0 7 = false) (h8 : m0 8 = false) :
    Same m0 t0 (State.closeInterval s c) := by
  unfold State.closeInterval; try dsimp only
  repeat' split
  all_goals first | done | simp (maxDischargeDepth := 60) (decide := true) [hK, h7, h8]

@[simp] theorem State.openInterval_same {m0 : Nat → Bool} {t0 : State} {s : State} (c : Fin 4) (hK : Same m0 t0 s)
    (h7 : m0 7 = false) (h8 : m0 8 = false) :
    Same m0 t0 (State.openInterval s c) := by
  unfold State.openInterval; try dsimp only
  repeat' split
  all_goals first | done | simp (maxDischargeDepth := 60) (decide := true) [hK, h7, h8]

@[simp] theorem State.applyHeld_same {m0 : Nat → Bool} {t0 : State} {s : State} (sel : Nat → Bool) (hK : Same m0 t0 s)
    (h0 : m0 0 = false) (h1 : m0 1 = false) (h2 : m0 2 = false) (h3 : m0 3 = false) (h4 : m0 4 = false) (h5 : m0 5 = false) (h6 : m0 6 = false) (h7 : m0 7 = false) (h8 : m0 8 = false) (h9 : m0 9 = false) (h10 : m0 10 = false) (h11 : m0 11 = false) (h20 : m0 20 = false) (h21 : m0 21 = false) :
    Same m0 t0 (State.applyHeld s sel) := by
  unfold State.applyHeld; try dsimp only
  repeat' split
  all_goals first | done | simp (maxDischargeDepth := 60) (decide := true) [hK, h0, h1, h2, h3, h4, h5, h6, h7, h8, h9, h10, h11, h20, h21]

@[simp] theorem State.boundaryRecord_same {m0 : Nat → Bool} {t0 : State} {s : State} (c : Fin 4) (kind : Nat) (new : Nat) (old : Nat) (demand : Nat) (start : Nat) (hK : Same m0 t0 s)
    (h7 : m0 7 = false) (h8 : m0 8 = false) (h24 : m0 24 = false) (h39 : m0 39 = false) (h42 : m0 42 = false) :
    Same m0 t0 (State.boundaryRecord s c kind new old demand start) := by
  unfold State.boundaryRecord; try dsimp only
  repeat' split
  all_goals first | done | simp (maxDischargeDepth := 60) (decide := true) [hK, h7, h8, h24, h39, h42]

@[simp] theorem State.boundaryRecords_same {m0 : Nat → Bool} {t0 : State} {s : State} (kindOf : Fin 4 → Nat) (new : Nat) (old : Nat) (start : Fin 4 → Nat) (closed : Bool) (hK : Same m0 t0 s)
    (h7 : m0 7 = false) (h8 : m0 8 = false) (h24 : m0 24 = false) (h39 : m0 39 = false) (h42 : m0 42 = false) :
    Same m0 t0 (State.boundaryRecords s kindOf new old start closed) := by
  unfold State.boundaryRecords; try dsimp only
  repeat' split
  all_goals first | done | simp (maxDischargeDepth := 60) (decide := true) [hK, h7, h8, h24, h39, h42]

@[simp] theorem State.resetDemand_same {m0 : Nat → Bool} {t0 : State} {s : State} (hK : Same m0 t0 s)
    (h7 : m0 7 = false) (h8 : m0 8 = false) (h39 : m0 39 = false) :
    Same m0 t0 (State.resetDemand s) := by
  unfold State.resetDemand; try dsimp only
  repeat' split
  all_goals first | done | simp (maxDischargeDepth := 60) (decide := true) [hK, h7, h8, h39]

@[simp] theorem State.takeBoundary_same {m0 : Nat → Bool} {t0 : State} {s : State} (applies : Bool) (extra : Nat) (hK : Same m0 t0 s)
    (h0 : m0 0 = false) (h1 : m0 1 = false) (h2 : m0 2 = false) (h3 : m0 3 = false) (h4 : m0 4 = false) (h5 : m0 5 = false) (h6 : m0 6 = false) (h7 : m0 7 = false) (h8 : m0 8 = false) (h9 : m0 9 = false) (h10 : m0 10 = false) (h11 : m0 11 = false) (h20 : m0 20 = false) (h21 : m0 21 = false) (h24 : m0 24 = false) (h39 : m0 39 = false) (h42 : m0 42 = false) (h43 : m0 43 = false) :
    Same m0 t0 (State.takeBoundary s applies extra) := by
  unfold State.takeBoundary; try dsimp only
  repeat' split
  all_goals first | done | simp (maxDischargeDepth := 60) (decide := true) [hK, h0, h1, h2, h3, h4, h5, h6, h7, h8, h9, h10, h11, h20, h21, h24, h39, h42, h43]

@[simp] theorem State.powerFailRecords_same {m0 : Nat → Bool} {t0 : State} {s : State} (hK : Same m0 t0 s)
    (h0 : m0 0 = false) (h1 : m0 1 = false) (h2 : m0 2 = false) (h3 : m0 3 = false) (h4 : m0 4 = false) (h5 : m0 5 = false) (h6 : m0 6 = false) (h7 : m0 7 = false) (h8 : m0 8 = false) (h9 : m0 9 = false) (h10 : m0 10 = false) (h11 : m0 11 = false) (h20 : m0 20 = false) (h21 : m0 21 = false) (h24 : m0 24 = false) (h39 : m0 39 = false) (h42 : m0 42 = false) (h43 : m0 43 = false) :
    Same m0 t0 (State.powerFailRecords s) := by
  unfold State.powerFailRecords; try dsimp only
  repeat' split
  all_goals first | done | simp (maxDischargeDepth := 60) (decide := true) [hK, h0, h1, h2, h3, h4, h5, h6, h7, h8, h9, h10, h11, h20, h21, h24, h39, h42, h43]

@[simp] theorem State.billingBoundary_same {m0 : Nat → Bool} {t0 : State} {s : State} (t : Nat) (hK : Same m0 t0 s)
    (h0 : m0 0 = false) (h1 : m0 1 = false) (h2 : m0 2 = false) (h3 : m0 3 = false) (h4 : m0 4 = false) (h5 : m0 5 = false) (h6 : m0 6 = false) (h7 : m0 7 = false) (h8 : m0 8 = false) (h9 : m0 9 = false) (h10 : m0 10 = false) (h11 : m0 11 = false) (h20 : m0 20 = false) (h21 : m0 21 = false) (h24 : m0 24 = false) (h39 : m0 39 = false) (h42 : m0 42 = false) (h43 : m0 43 = false) :
    Same m0 t0 (State.billingBoundary s t) := by
  unfold State.billingBoundary; try dsimp only
  repeat' split
  all_goals first | done | simp (maxDischargeDepth := 60) (decide := true) [hK, h0, h1, h2, h3, h4, h5, h6, h7, h8, h9, h10, h11, h20, h21, h24, h39, h42, h43]

@[simp] theorem State.dmdResetEffect_same {m0 : Nat → Bool} {t0 : State} {s : State} (v : Nat) (hK : Same m0 t0 s)
    (h39 : m0 39 = false) :
    Same m0 t0 (State.dmdResetEffect s v) := by
  unfold State.dmdResetEffect; try dsimp only
  repeat' split
  all_goals first | done | simp (maxDischargeDepth := 60) (decide := true) [hK, h39]

@[simp] theorem State.logAckEffect_same {m0 : Nat → Bool} {t0 : State} {s : State} (v : Nat) (hK : Same m0 t0 s)
    (h7 : m0 7 = false) (h8 : m0 8 = false) (h24 : m0 24 = false) (h39 : m0 39 = false) (h42 : m0 42 = false) :
    Same m0 t0 (State.logAckEffect s v) := by
  unfold State.logAckEffect; try dsimp only
  repeat' split
  all_goals first | done | simp (maxDischargeDepth := 60) (decide := true) [hK, h7, h8, h24, h39, h42]

@[simp] theorem State.vevAckEffect_same {m0 : Nat → Bool} {t0 : State} {s : State} (v : Nat) (hK : Same m0 t0 s)
    (h42 : m0 42 = false) :
    Same m0 t0 (State.vevAckEffect s v) := by
  unfold State.vevAckEffect; try dsimp only
  repeat' split
  all_goals first | done | simp (maxDischargeDepth := 60) (decide := true) [hK, h42]

@[simp] theorem State.discardRwl_same {m0 : Nat → Bool} {t0 : State} {s : State} (hK : Same m0 t0 s)
    (h0 : m0 0 = false) (h1 : m0 1 = false) (h2 : m0 2 = false) (h3 : m0 3 = false) (h4 : m0 4 = false) (h5 : m0 5 = false) (h6 : m0 6 = false) (h7 : m0 7 = false) (h8 : m0 8 = false) (h10 : m0 10 = false) (h21 : m0 21 = false) (h24 : m0 24 = false) :
    Same m0 t0 (State.discardRwl s) := by
  unfold State.discardRwl; try dsimp only
  repeat' split
  all_goals first | done | simp (maxDischargeDepth := 60) (decide := true) [hK, h0, h1, h2, h3, h4, h5, h6, h7, h8, h10, h21, h24]

@[simp] theorem State.sealNote_same {m0 : Nat → Bool} {t0 : State} {s : State} (opens : Bool) (at_ : Nat) (hK : Same m0 t0 s)
    (h7 : m0 7 = false) (h8 : m0 8 = false) :
    Same m0 t0 (State.sealNote s opens at_) := by
  unfold State.sealNote; try dsimp only
  repeat' split
  all_goals first | done | simp (maxDischargeDepth := 60) (decide := true) [hK, h7, h8]

@[simp] theorem State.loopRecord_same {m0 : Nat → Bool} {t0 : State} {s : State} (i : Fin 4) (opens : Bool) (at_ : Nat) (flags : Nat) (vev : Nat) (hK : Same m0 t0 s)
    (h7 : m0 7 = false) (h8 : m0 8 = false) (h24 : m0 24 = false) (h39 : m0 39 = false) (h42 : m0 42 = false) :
    Same m0 t0 (State.loopRecord s i opens at_ flags vev) := by
  unfold State.loopRecord; try dsimp only
  repeat' split
  all_goals first | done | simp (maxDischargeDepth := 60) (decide := true) [hK, h7, h8, h24, h39, h42]

@[simp] theorem State.setLoop_same {m0 : Nat → Bool} {t0 : State} {s : State} (i : Fin 4) (l : Loop) (hK : Same m0 t0 s)
    (h42 : m0 42 = false) :
    Same m0 t0 (State.setLoop s i l) := by
  unfold State.setLoop; try dsimp only
  repeat' split
  all_goals first | done | simp (maxDischargeDepth := 60) (decide := true) [hK, h42]

@[simp] theorem State.loopTaken_same {m0 : Nat → Bool} {t0 : State} {s : State} (i : Fin 4) (opens : Bool) (at_ : Nat) (hK : Same m0 t0 s)
    (h0 : m0 0 = false) (h1 : m0 1 = false) (h2 : m0 2 = false) (h3 : m0 3 = false) (h4 : m0 4 = false) (h5 : m0 5 = false) (h6 : m0 6 = false) (h7 : m0 7 = false) (h8 : m0 8 = false) (h10 : m0 10 = false) (h21 : m0 21 = false) (h24 : m0 24 = false) (h39 : m0 39 = false) (h42 : m0 42 = false) :
    Same m0 t0 (State.loopTaken s i opens at_) := by
  unfold State.loopTaken; try dsimp only
  repeat' split
  all_goals first | done | simp (maxDischargeDepth := 60) (decide := true) [hK, h0, h1, h2, h3, h4, h5, h6, h7, h8, h10, h21, h24, h39, h42]

@[simp] theorem State.loopAmbiguous_same {m0 : Nat → Bool} {t0 : State} {s : State} (i : Fin 4) (hK : Same m0 t0 s)
    (h42 : m0 42 = false) :
    Same m0 t0 (State.loopAmbiguous s i) := by
  unfold State.loopAmbiguous; try dsimp only
  repeat' split
  all_goals first | done | simp (maxDischargeDepth := 60) (decide := true) [hK, h42]

@[simp] theorem State.loopReading_same {m0 : Nat → Bool} {t0 : State} {s : State} (i : Fin 4) (opens : Bool) (hK : Same m0 t0 s)
    (h0 : m0 0 = false) (h1 : m0 1 = false) (h2 : m0 2 = false) (h3 : m0 3 = false) (h4 : m0 4 = false) (h5 : m0 5 = false) (h6 : m0 6 = false) (h7 : m0 7 = false) (h8 : m0 8 = false) (h10 : m0 10 = false) (h21 : m0 21 = false) (h24 : m0 24 = false) (h39 : m0 39 = false) (h42 : m0 42 = false) :
    Same m0 t0 (State.loopReading s i opens) := by
  unfold State.loopReading; try dsimp only
  repeat' split
  all_goals first | done | simp (maxDischargeDepth := 60) (decide := true) [hK, h0, h1, h2, h3, h4, h5, h6, h7, h8, h10, h21, h24, h39, h42]

@[simp] theorem State.loopSense_same {m0 : Nat → Bool} {t0 : State} {s : State} (i : Fin 4) (ohms : Nat) (hK : Same m0 t0 s)
    (h0 : m0 0 = false) (h1 : m0 1 = false) (h2 : m0 2 = false) (h3 : m0 3 = false) (h4 : m0 4 = false) (h5 : m0 5 = false) (h6 : m0 6 = false) (h7 : m0 7 = false) (h8 : m0 8 = false) (h10 : m0 10 = false) (h21 : m0 21 = false) (h24 : m0 24 = false) (h39 : m0 39 = false) (h42 : m0 42 = false) :
    Same m0 t0 (State.loopSense s i ohms) := by
  unfold State.loopSense; try dsimp only
  repeat' split
  all_goals first | done | simp (maxDischargeDepth := 60) (decide := true) [hK, h0, h1, h2, h3, h4, h5, h6, h7, h8, h10, h21, h24, h39, h42]

@[simp] theorem State.timeTamper_same {m0 : Nat → Bool} {t0 : State} {s : State} (hK : Same m0 t0 s)
    (h0 : m0 0 = false) (h1 : m0 1 = false) (h2 : m0 2 = false) (h3 : m0 3 = false) (h4 : m0 4 = false) (h5 : m0 5 = false) (h6 : m0 6 = false) (h7 : m0 7 = false) (h8 : m0 8 = false) (h10 : m0 10 = false) (h24 : m0 24 = false) (h42 : m0 42 = false) :
    Same m0 t0 (State.timeTamper s) := by
  unfold State.timeTamper; try dsimp only
  repeat' split
  all_goals first | done | simp (maxDischargeDepth := 60) (decide := true) [hK, h0, h1, h2, h3, h4, h5, h6, h7, h8, h10, h24, h42]

@[simp] theorem State.raiseEct_same {m0 : Nat → Bool} {t0 : State} {s : State} (hK : Same m0 t0 s)
    (h39 : m0 39 = false) :
    Same m0 t0 (State.raiseEct s) := by
  unfold State.raiseEct; try dsimp only
  repeat' split
  all_goals first | done | simp (maxDischargeDepth := 60) (decide := true) [hK, h39]

@[simp] theorem State.timeSetSteps_same {m0 : Nat → Bool} {t0 : State} {s : State} (old : Nat) (new : Nat) (hK : Same m0 t0 s)
    (h0 : m0 0 = false) (h1 : m0 1 = false) (h2 : m0 2 = false) (h3 : m0 3 = false) (h4 : m0 4 = false) (h5 : m0 5 = false) (h6 : m0 6 = false) (h7 : m0 7 = false) (h8 : m0 8 = false) (h9 : m0 9 = false) (h10 : m0 10 = false) (h11 : m0 11 = false) (h20 : m0 20 = false) (h21 : m0 21 = false) (h24 : m0 24 = false) (h39 : m0 39 = false) (h42 : m0 42 = false) (h43 : m0 43 = false) :
    Same m0 t0 (State.timeSetSteps s old new).1 := by
  unfold State.timeSetSteps; try dsimp only
  repeat' split
  all_goals first | done | simp (maxDischargeDepth := 60) (decide := true) [hK, h0, h1, h2, h3, h4, h5, h6, h7, h8, h9, h10, h11, h20, h21, h24, h39, h42, h43]

@[simp] theorem State.civilTimeSet_same {m0 : Nat → Bool} {t0 : State} {s : State} (hK : Same m0 t0 s)
    (h0 : m0 0 = false) (h1 : m0 1 = false) (h2 : m0 2 = false) (h3 : m0 3 = false) (h4 : m0 4 = false) (h5 : m0 5 = false) (h6 : m0 6 = false) (h7 : m0 7 = false) (h8 : m0 8 = false) (h9 : m0 9 = false) (h10 : m0 10 = false) (h11 : m0 11 = false) (h20 : m0 20 = false) (h21 : m0 21 = false) (h24 : m0 24 = false) (h39 : m0 39 = false) (h42 : m0 42 = false) (h43 : m0 43 = false) :
    Same m0 t0 (State.civilTimeSet s) := by
  unfold State.civilTimeSet; try dsimp only
  repeat' split
  all_goals first | done | simp (maxDischargeDepth := 60) (decide := true) [hK, h0, h1, h2, h3, h4, h5, h6, h7, h8, h9, h10, h11, h20, h21, h24, h39, h42, h43]

/-! ## Machine/RingKey.lean -/

@[simp] theorem State.refreshRingKey_same {m0 : Nat → Bool} {t0 : State} {s : State} (hK : Same m0 t0 s)
    (h8 : m0 8 = false) :
    Same m0 t0 (State.refreshRingKey s) := by
  unfold State.refreshRingKey; try dsimp only
  repeat' split
  all_goals first | done | simp (maxDischargeDepth := 60) (decide := true) [hK, h8]

@[simp] theorem State.putStored_same {m0 : Nat → Bool} {t0 : State} {s : State} (k : Nat) (n : Nat) (hK : Same m0 t0 s)
    (h0 : m0 0 = false) (h1 : m0 1 = false) (h2 : m0 2 = false) (h3 : m0 3 = false) (h4 : m0 4 = false) (h5 : m0 5 = false) (h6 : m0 6 = false) (h7 : m0 7 = false) (h8 : m0 8 = false) (h9 : m0 9 = false) (h10 : m0 10 = false) (h11 : m0 11 = false) (h21 : m0 21 = false) :
    Same m0 t0 (State.putStored s k n) := by
  unfold State.putStored; try dsimp only
  repeat' split
  all_goals first | done | simp (maxDischargeDepth := 60) (decide := true) [hK, h0, h1, h2, h3, h4, h5, h6, h7, h8, h9, h10, h11, h21]

@[simp] theorem State.ringKeySwitch_same {m0 : Nat → Bool} {t0 : State} {s : State} (hK : Same m0 t0 s)
    (h0 : m0 0 = false) (h1 : m0 1 = false) (h2 : m0 2 = false) (h3 : m0 3 = false) (h4 : m0 4 = false) (h5 : m0 5 = false) (h6 : m0 6 = false) (h7 : m0 7 = false) (h8 : m0 8 = false) (h9 : m0 9 = false) (h10 : m0 10 = false) (h11 : m0 11 = false) (h21 : m0 21 = false) (h40 : m0 40 = false) :
    Same m0 t0 (State.ringKeySwitch s) := by
  unfold State.ringKeySwitch; try dsimp only
  repeat' split
  all_goals first | done | simp (maxDischargeDepth := 60) (decide := true) [hK, h0, h1, h2, h3, h4, h5, h6, h7, h8, h9, h10, h11, h21, h40]

@[simp] theorem State.ringKeyCommitted_same {m0 : Nat → Bool} {t0 : State} {s : State} (oldSlot : Nat) (hK : Same m0 t0 s)
    (h0 : m0 0 = false) (h1 : m0 1 = false) (h2 : m0 2 = false) (h3 : m0 3 = false) (h4 : m0 4 = false) (h5 : m0 5 = false) (h6 : m0 6 = false) (h7 : m0 7 = false) (h8 : m0 8 = false) (h9 : m0 9 = false) (h10 : m0 10 = false) (h11 : m0 11 = false) (h21 : m0 21 = false) (h40 : m0 40 = false) :
    Same m0 t0 (State.ringKeyCommitted s oldSlot) := by
  unfold State.ringKeyCommitted; try dsimp only
  repeat' split
  all_goals first | done | simp (maxDischargeDepth := 60) (decide := true) [hK, h0, h1, h2, h3, h4, h5, h6, h7, h8, h9, h10, h11, h21, h40]

@[simp] theorem State.ringKeyPersist_same {m0 : Nat → Bool} {t0 : State} {s : State} (hK : Same m0 t0 s)
    (h8 : m0 8 = false) :
    Same m0 t0 (State.ringKeyPersist s) := by
  unfold State.ringKeyPersist; try dsimp only
  repeat' split
  all_goals first | done | simp (maxDischargeDepth := 60) (decide := true) [hK, h8]

@[simp] theorem State.ringKeyBoundary_same {m0 : Nat → Bool} {t0 : State} {s : State} (hK : Same m0 t0 s)
    (h0 : m0 0 = false) (h1 : m0 1 = false) (h2 : m0 2 = false) (h3 : m0 3 = false) (h4 : m0 4 = false) (h5 : m0 5 = false) (h6 : m0 6 = false) (h7 : m0 7 = false) (h8 : m0 8 = false) (h9 : m0 9 = false) (h10 : m0 10 = false) (h11 : m0 11 = false) (h21 : m0 21 = false) (h24 : m0 24 = false) (h40 : m0 40 = false) :
    Same m0 t0 (State.ringKeyBoundary s) := by
  unfold State.ringKeyBoundary; try dsimp only
  repeat' split
  all_goals first | done | simp (maxDischargeDepth := 60) (decide := true) [hK, h0, h1, h2, h3, h4, h5, h6, h7, h8, h9, h10, h11, h21, h24, h40]

@[simp] theorem State.queueShared_same {m0 : Nat → Bool} {t0 : State} {s : State} (r : Nat) (l : List (Nat × List Byte)) (hK : Same m0 t0 s)
    (h33 : m0 33 = false) :
    Same m0 t0 (State.queueShared s r l) := by
  unfold State.queueShared; try dsimp only
  repeat' split
  all_goals first | done | simp (maxDischargeDepth := 60) (decide := true) [hK, h33]

@[simp] theorem State.sendFrame_same {m0 : Nat → Bool} {t0 : State} {s : State} (content : Nat) (dest : Nat) (data : List Byte) (hK : Same m0 t0 s)
    (h8 : m0 8 = false) (h33 : m0 33 = false) (h40 : m0 40 = false) :
    Same m0 t0 (State.sendFrame s content dest data) := by
  unfold State.sendFrame; try dsimp only
  repeat' split
  all_goals first | done | simp (maxDischargeDepth := 60) (decide := true) [hK, h8, h33, h40]

/-! ## Machine/Site.lean -/

@[simp] theorem State.refreshAlloc_same {m0 : Nat → Bool} {t0 : State} {s : State} (hK : Same m0 t0 s)
    (h3 : m0 3 = false) (h4 : m0 4 = false) (h5 : m0 5 = false) (h6 : m0 6 = false) (h7 : m0 7 = false) (h8 : m0 8 = false) :
    Same m0 t0 (State.refreshAlloc s) := by
  unfold State.refreshAlloc; try dsimp only
  repeat' split
  all_goals first | done | simp (maxDischargeDepth := 60) (decide := true) [hK, h3, h4, h5, h6, h7, h8]

@[simp] theorem State.showClaims_same {m0 : Nat → Bool} {t0 : State} {s : State} (b : Block) (hK : Same m0 t0 s)
    (h3 : m0 3 = false) (h4 : m0 4 = false) (h5 : m0 5 = false) (h6 : m0 6 = false) (h7 : m0 7 = false) (h8 : m0 8 = false) :
    Same m0 t0 (State.showClaims s b) := by
  unfold State.showClaims
  extract_lets a0
  have ha0 : Same m0 t0 a0 := by
    first
      | (simp (maxDischargeDepth := 60) (decide := true) [a0, hK, h3, h4, h5, h6, h7, h8]; done)
      | (refine Same.foldl _ _ (by simp (maxDischargeDepth := 60) (decide := true) [hK, h3, h4, h5, h6, h7, h8]) fun st i => ?_; (try dsimp only); repeat' split
         all_goals first | done | simp (maxDischargeDepth := 60) (decide := true) [h3, h4, h5, h6, h7, h8] | (refine Same.foldl _ _ (by simp (maxDischargeDepth := 60) (decide := true) [h3, h4, h5, h6, h7, h8]) fun st i => ?_; (try dsimp only); repeat' split; all_goals first | done | simp (maxDischargeDepth := 60) (decide := true) [h3, h4, h5, h6, h7, h8]))
      | (simp only [a0]; (try dsimp only); repeat' split; all_goals first | done | exact hK | simp (maxDischargeDepth := 60) (decide := true) [hK, h3, h4, h5, h6, h7, h8] | (refine Same.foldl _ _ (by simp (maxDischargeDepth := 60) (decide := true) [hK, h3, h4, h5, h6, h7, h8]) fun st i => ?_; (try dsimp only); repeat' split; all_goals first | done | simp (maxDischargeDepth := 60) (decide := true) [h3, h4, h5, h6, h7, h8]))
  clear_value a0
  first
    | (simp (maxDischargeDepth := 60) (decide := true) [ha0, h3, h4, h5, h6, h7, h8]; done)
    | (refine Same.foldl _ _ (by simp (maxDischargeDepth := 60) (decide := true) [ha0, h3, h4, h5, h6, h7, h8]) fun st i => ?_; (try dsimp only); repeat' split
       all_goals first | done | simp (maxDischargeDepth := 60) (decide := true) [h3, h4, h5, h6, h7, h8] | (refine Same.foldl _ _ (by simp (maxDischargeDepth := 60) (decide := true) [h3, h4, h5, h6, h7, h8]) fun st i => ?_; (try dsimp only); repeat' split; all_goals first | done | simp (maxDischargeDepth := 60) (decide := true) [h3, h4, h5, h6, h7, h8]))
    | ((try dsimp only); repeat' split; all_goals first | done | exact ha0 | simp (maxDischargeDepth := 60) (decide := true) [ha0, h3, h4, h5, h6, h7, h8] | (refine Same.foldl _ _ (by simp (maxDischargeDepth := 60) (decide := true) [ha0, h3, h4, h5, h6, h7, h8]) fun st i => ?_; (try dsimp only); repeat' split; all_goals first | done | simp (maxDischargeDepth := 60) (decide := true) [h3, h4, h5, h6, h7, h8]))

@[simp] theorem State.claimUpdate_same {m0 : Nat → Bool} {t0 : State} {s : State} (o : Fin 4) (hK : Same m0 t0 s)
    (h32 : m0 32 = false) :
    Same m0 t0 (State.claimUpdate s o) := by
  unfold State.claimUpdate; try dsimp only
  repeat' split
  all_goals first | done | simp (maxDischargeDepth := 60) (decide := true) [hK, h32]

@[simp] theorem State.portShown_same {m0 : Nat → Bool} {t0 : State} {s : State} (b : Block) (hK : Same m0 t0 s)
    (h28 : m0 28 = false) :
    Same m0 t0 (State.portShown s b) := by
  unfold State.portShown
  first
    | (simp (maxDischargeDepth := 60) (decide := true) [hK, h28]; done)
    | (refine Same.foldl _ _ (by simp (maxDischargeDepth := 60) (decide := true) [hK, h28]) fun st i => ?_; (try dsimp only); repeat' split
       all_goals first | done | simp (maxDischargeDepth := 60) (decide := true) [h28] | (refine Same.foldl _ _ (by simp (maxDischargeDepth := 60) (decide := true) [h28]) fun st i => ?_; (try dsimp only); repeat' split; all_goals first | done | simp (maxDischargeDepth := 60) (decide := true) [h28]))
    | ((try dsimp only); repeat' split; all_goals first | done | exact hK | simp (maxDischargeDepth := 60) (decide := true) [hK, h28] | (refine Same.foldl _ _ (by simp (maxDischargeDepth := 60) (decide := true) [hK, h28]) fun st i => ?_; (try dsimp only); repeat' split; all_goals first | done | simp (maxDischargeDepth := 60) (decide := true) [h28]))

@[simp] theorem State.keepBlock_same {m0 : Nat → Bool} {t0 : State} {s : State} (b : Block) (hK : Same m0 t0 s)
    (h28 : m0 28 = false) (h32 : m0 32 = false) :
    Same m0 t0 (State.keepBlock s b) := by
  unfold State.keepBlock; try dsimp only
  repeat' split
  all_goals first | done | simp (maxDischargeDepth := 60) (decide := true) [hK, h28, h32]

@[simp] theorem State.queueWave_same {m0 : Nat → Bool} {t0 : State} {s : State} (r : Nat) (own : Bool) (chars : List Byte) (hK : Same m0 t0 s)
    (h33 : m0 33 = false) :
    Same m0 t0 (State.queueWave s r own chars) := by
  unfold State.queueWave; try dsimp only
  repeat' split
  all_goals first | done | simp (maxDischargeDepth := 60) (decide := true) [hK, h33]

@[simp] theorem State.queueBlock_same {m0 : Nat → Bool} {t0 : State} {s : State} (b : Block) (hK : Same m0 t0 s)
    (h33 : m0 33 = false) :
    Same m0 t0 (State.queueBlock s b) := by
  unfold State.queueBlock; try dsimp only
  repeat' split
  all_goals first | done | simp (maxDischargeDepth := 60) (decide := true) [hK, h33]

@[simp] theorem State.insertClaims_same {m0 : Nat → Bool} {t0 : State} {s : State} (hK : Same m0 t0 s)
    (h3 : m0 3 = false) (h4 : m0 4 = false) (h5 : m0 5 = false) (h6 : m0 6 = false) (h7 : m0 7 = false) (h8 : m0 8 = false) (h28 : m0 28 = false) (h32 : m0 32 = false) (h33 : m0 33 = false) :
    Same m0 t0 (State.insertClaims s) := by
  unfold State.insertClaims; try dsimp only
  repeat' split
  all_goals first | done | simp (maxDischargeDepth := 60) (decide := true) [hK, h3, h4, h5, h6, h7, h8, h28, h32, h33]

@[simp] theorem State.waveBlock_same {m0 : Nat → Bool} {t0 : State} {s : State} (src : Nat) (payload : List Byte) (hK : Same m0 t0 s)
    (h3 : m0 3 = false) (h4 : m0 4 = false) (h5 : m0 5 = false) (h6 : m0 6 = false) (h7 : m0 7 = false) (h8 : m0 8 = false) (h28 : m0 28 = false) (h32 : m0 32 = false) :
    Same m0 t0 (State.waveBlock s src payload) := by
  unfold State.waveBlock; try dsimp only
  repeat' split
  all_goals first | done | simp (maxDischargeDepth := 60) (decide := true) [hK, h3, h4, h5, h6, h7, h8, h28, h32]

@[simp] theorem State.closePass_same {m0 : Nat → Bool} {t0 : State} {s : State} (r : Fin 2) (ns : Nat) (hK : Same m0 t0 s)
    (h3 : m0 3 = false) (h4 : m0 4 = false) (h5 : m0 5 = false) (h6 : m0 6 = false) (h7 : m0 7 = false) (h8 : m0 8 = false) (h32 : m0 32 = false) (h33 : m0 33 = false) :
    Same m0 t0 (State.closePass s r ns) := by
  unfold State.closePass; try dsimp only
  repeat' split
  all_goals first | done | simp (maxDischargeDepth := 60) (decide := true) [hK, h3, h4, h5, h6, h7, h8, h32, h33]

@[simp] theorem State.closeMark_same {m0 : Nat → Bool} {t0 : State} {s : State} (r : Fin 2) (hops : Nat) (epoch : Nat) (ns : Nat) (hK : Same m0 t0 s)
    (h3 : m0 3 = false) (h4 : m0 4 = false) (h5 : m0 5 = false) (h6 : m0 6 = false) (h7 : m0 7 = false) (h8 : m0 8 = false) (h32 : m0 32 = false) (h33 : m0 33 = false) :
    Same m0 t0 (State.closeMark s r hops epoch ns) := by
  unfold State.closeMark; try dsimp only
  repeat' split
  all_goals first | done | simp (maxDischargeDepth := 60) (decide := true) [hK, h3, h4, h5, h6, h7, h8, h32, h33]

@[simp] theorem State.noteWave_same {m0 : Nat → Bool} {t0 : State} {s : State} (hK : Same m0 t0 s)
    (h32 : m0 32 = false) :
    Same m0 t0 (State.noteWave s) := by
  unfold State.noteWave; try dsimp only
  repeat' split
  all_goals first | done | simp (maxDischargeDepth := 60) (decide := true) [hK, h32]

@[simp] theorem State.noteCame_same {m0 : Nat → Bool} {t0 : State} {s : State} (hK : Same m0 t0 s)
    (h32 : m0 32 = false) :
    Same m0 t0 (State.noteCame s) := by
  unfold State.noteCame; try dsimp only
  repeat' split
  all_goals first | done | simp (maxDischargeDepth := 60) (decide := true) [hK, h32]

@[simp] theorem State.noteGroupRt_same {m0 : Nat → Bool} {t0 : State} {s : State} (hK : Same m0 t0 s)
    (h32 : m0 32 = false) :
    Same m0 t0 (State.noteGroupRt s) := by
  unfold State.noteGroupRt; try dsimp only
  repeat' split
  all_goals first | done | simp (maxDischargeDepth := 60) (decide := true) [hK, h32]

@[simp] theorem State.putGrants_same {m0 : Nat → Bool} {t0 : State} {s : State} (g : Grants) (hK : Same m0 t0 s)
    (h3 : m0 3 = false) (h4 : m0 4 = false) (h5 : m0 5 = false) (h6 : m0 6 = false) (h7 : m0 7 = false) (h8 : m0 8 = false) :
    Same m0 t0 (State.putGrants s g) := by
  unfold State.putGrants; try dsimp only
  repeat' split
  all_goals first | done | simp (maxDischargeDepth := 60) (decide := true) [hK, h3, h4, h5, h6, h7, h8]

@[simp] theorem State.applyGrants_same {m0 : Nat → Bool} {t0 : State} {s : State} (g : Grants) (hK : Same m0 t0 s)
    (h3 : m0 3 = false) (h4 : m0 4 = false) (h5 : m0 5 = false) (h6 : m0 6 = false) (h7 : m0 7 = false) (h8 : m0 8 = false) (h32 : m0 32 = false) :
    Same m0 t0 (State.applyGrants s g) := by
  unfold State.applyGrants; try dsimp only
  repeat' split
  all_goals first | done | simp (maxDischargeDepth := 60) (decide := true) [hK, h3, h4, h5, h6, h7, h8, h32]

@[simp] theorem State.floorCuts_same {m0 : Nat → Bool} {t0 : State} {s : State} (cs : List Claim) (hK : Same m0 t0 s)
    (h3 : m0 3 = false) (h4 : m0 4 = false) (h5 : m0 5 = false) (h6 : m0 6 = false) (h7 : m0 7 = false) (h8 : m0 8 = false) (h24 : m0 24 = false) (h32 : m0 32 = false) :
    Same m0 t0 (State.floorCuts s cs) := by
  unfold State.floorCuts; try dsimp only
  repeat' split
  all_goals first | done | simp (maxDischargeDepth := 60) (decide := true) [hK, h3, h4, h5, h6, h7, h8, h24, h32]

@[simp] theorem State.notePorts_same {m0 : Nat → Bool} {t0 : State} {s : State} (cs : List Claim) (hK : Same m0 t0 s)
    (h0 : m0 0 = false) (h1 : m0 1 = false) (h2 : m0 2 = false) (h3 : m0 3 = false) (h4 : m0 4 = false) (h5 : m0 5 = false) (h6 : m0 6 = false) (h7 : m0 7 = false) (h8 : m0 8 = false) (h9 : m0 9 = false) (h10 : m0 10 = false) (h11 : m0 11 = false) (h24 : m0 24 = false) (h26 : m0 26 = false) (h28 : m0 28 = false) (h32 : m0 32 = false) :
    Same m0 t0 (State.notePorts s cs) := by
  unfold State.notePorts; try dsimp only
  repeat' split
  all_goals first | done | simp (maxDischargeDepth := 60) (decide := true) [hK, h0, h1, h2, h3, h4, h5, h6, h7, h8, h9, h10, h11, h24, h26, h28, h32]

@[simp] theorem State.keepFrozen_same {m0 : Nat → Bool} {t0 : State} {s : State} (cs : List Claim) (hK : Same m0 t0 s)
    (h32 : m0 32 = false) :
    Same m0 t0 (State.keepFrozen s cs) := by
  unfold State.keepFrozen; try dsimp only
  repeat' split
  all_goals first | done | simp (maxDischargeDepth := 60) (decide := true) [hK, h32]

@[simp] theorem State.holdNow_same {m0 : Nat → Bool} {t0 : State} {s : State} (hK : Same m0 t0 s)
    (h32 : m0 32 = false) :
    Same m0 t0 (State.holdNow s) := by
  unfold State.holdNow; try dsimp only
  repeat' split
  all_goals first | done | simp (maxDischargeDepth := 60) (decide := true) [hK, h32]

@[simp] theorem State.vote_same {m0 : Nat → Bool} {t0 : State} {s : State} (snap : List (Block × Bool)) (hK : Same m0 t0 s)
    (h3 : m0 3 = false) (h4 : m0 4 = false) (h5 : m0 5 = false) (h6 : m0 6 = false) (h7 : m0 7 = false) (h8 : m0 8 = false) (h24 : m0 24 = false) (h32 : m0 32 = false) :
    Same m0 t0 (State.vote s snap) := by
  unfold State.vote; try dsimp only
  repeat' split
  all_goals first | done | simp (maxDischargeDepth := 60) (decide := true) [hK, h3, h4, h5, h6, h7, h8, h24, h32]

@[simp] theorem State.waveFreeze_same {m0 : Nat → Bool} {t0 : State} {s : State} (hK : Same m0 t0 s)
    (h3 : m0 3 = false) (h4 : m0 4 = false) (h5 : m0 5 = false) (h6 : m0 6 = false) (h7 : m0 7 = false) (h8 : m0 8 = false) (h24 : m0 24 = false) (h32 : m0 32 = false) :
    Same m0 t0 (State.waveFreeze s) := by
  unfold State.waveFreeze; try dsimp only
  repeat' split
  all_goals first | done | simp (maxDischargeDepth := 60) (decide := true) [hK, h3, h4, h5, h6, h7, h8, h24, h32]

@[simp] theorem State.calcDone_same {m0 : Nat → Bool} {t0 : State} {s : State} (ns : Nat) (hK : Same m0 t0 s)
    (h0 : m0 0 = false) (h1 : m0 1 = false) (h2 : m0 2 = false) (h3 : m0 3 = false) (h4 : m0 4 = false) (h5 : m0 5 = false) (h6 : m0 6 = false) (h7 : m0 7 = false) (h8 : m0 8 = false) (h9 : m0 9 = false) (h10 : m0 10 = false) (h11 : m0 11 = false) (h24 : m0 24 = false) (h26 : m0 26 = false) (h28 : m0 28 = false) (h32 : m0 32 = false) :
    Same m0 t0 (State.calcDone s ns) := by
  unfold State.calcDone; try dsimp only
  repeat' split
  all_goals first | done | simp (maxDischargeDepth := 60) (decide := true) [hK, h0, h1, h2, h3, h4, h5, h6, h7, h8, h9, h10, h11, h24, h26, h28, h32]

@[simp] theorem State.treeBoundary_same {m0 : Nat → Bool} {t0 : State} {s : State} (hK : Same m0 t0 s)
    (h3 : m0 3 = false) (h4 : m0 4 = false) (h5 : m0 5 = false) (h6 : m0 6 = false) (h7 : m0 7 = false) (h8 : m0 8 = false) (h32 : m0 32 = false) :
    Same m0 t0 (State.treeBoundary s) := by
  unfold State.treeBoundary; try dsimp only
  repeat' split
  all_goals first | done | simp (maxDischargeDepth := 60) (decide := true) [hK, h3, h4, h5, h6, h7, h8, h32]

@[simp] theorem State.released_same {m0 : Nat → Bool} {t0 : State} {s : State} (hK : Same m0 t0 s)
    (h3 : m0 3 = false) (h4 : m0 4 = false) (h5 : m0 5 = false) (h6 : m0 6 = false) (h7 : m0 7 = false) (h8 : m0 8 = false) (h32 : m0 32 = false) :
    Same m0 t0 (State.released s) := by
  unfold State.released; try dsimp only
  repeat' split
  all_goals first | done | simp (maxDischargeDepth := 60) (decide := true) [hK, h3, h4, h5, h6, h7, h8, h32]

@[simp] theorem State.epochShort_same {m0 : Nat → Bool} {t0 : State} {s : State} (hK : Same m0 t0 s)
    (h3 : m0 3 = false) (h4 : m0 4 = false) (h5 : m0 5 = false) (h6 : m0 6 = false) (h7 : m0 7 = false) (h8 : m0 8 = false) (h24 : m0 24 = false) (h32 : m0 32 = false) :
    Same m0 t0 (State.epochShort s) := by
  unfold State.epochShort; try dsimp only
  repeat' split
  all_goals first | done | simp (maxDischargeDepth := 60) (decide := true) [hK, h3, h4, h5, h6, h7, h8, h24, h32]

@[simp] theorem State.ringClassMoves_same {m0 : Nat → Bool} {t0 : State} {s : State} (hK : Same m0 t0 s)
    (h0 : m0 0 = false) (h1 : m0 1 = false) (h2 : m0 2 = false) (h3 : m0 3 = false) (h4 : m0 4 = false) (h5 : m0 5 = false) (h6 : m0 6 = false) (h7 : m0 7 = false) (h8 : m0 8 = false) (h9 : m0 9 = false) (h22 : m0 22 = false) :
    Same m0 t0 (State.ringClassMoves s) := by
  unfold State.ringClassMoves; try dsimp only
  repeat' split
  all_goals first | done | simp (maxDischargeDepth := 60) (decide := true) [hK, h0, h1, h2, h3, h4, h5, h6, h7, h8, h9, h22]

@[simp] theorem State.traceAlloc_same {m0 : Nat → Bool} {t0 : State} {s : State} (hK : Same m0 t0 s)
    (h24 : m0 24 = false) :
    Same m0 t0 (State.traceAlloc s) := by
  unfold State.traceAlloc; try dsimp only
  repeat' split
  all_goals first | done | simp (maxDischargeDepth := 60) (decide := true) [hK, h24]

@[simp] theorem State.boundaryActs_same {m0 : Nat → Bool} {t0 : State} {s : State} (hK : Same m0 t0 s)
    (h0 : m0 0 = false) (h1 : m0 1 = false) (h2 : m0 2 = false) (h3 : m0 3 = false) (h4 : m0 4 = false) (h5 : m0 5 = false) (h6 : m0 6 = false) (h7 : m0 7 = false) (h8 : m0 8 = false) (h9 : m0 9 = false) (h10 : m0 10 = false) (h11 : m0 11 = false) (h21 : m0 21 = false) (h22 : m0 22 = false) (h23 : m0 23 = false) (h24 : m0 24 = false) (h26 : m0 26 = false) (h28 : m0 28 = false) (h32 : m0 32 = false) (h33 : m0 33 = false) (h36 : m0 36 = false) (h37 : m0 37 = false) (h40 : m0 40 = false) (h41 : m0 41 = false) (h43 : m0 43 = false) :
    Same m0 t0 (State.boundaryActs s) := by
  unfold State.boundaryActs; try dsimp only
  repeat' split
  all_goals first | done | simp (maxDischargeDepth := 60) (decide := true) [hK, h0, h1, h2, h3, h4, h5, h6, h7, h8, h9, h10, h11, h21, h22, h23, h24, h26, h28, h32, h33, h36, h37, h40, h41, h43]

@[simp] theorem State.isolate_same {m0 : Nat → Bool} {t0 : State} {s : State} (hK : Same m0 t0 s)
    (h32 : m0 32 = false) :
    Same m0 t0 (State.isolate s) := by
  unfold State.isolate; try dsimp only
  repeat' split
  all_goals first | done | simp (maxDischargeDepth := 60) (decide := true) [hK, h32]

@[simp] theorem State.endIsolation_same {m0 : Nat → Bool} {t0 : State} {s : State} (hK : Same m0 t0 s)
    (h3 : m0 3 = false) (h4 : m0 4 = false) (h5 : m0 5 = false) (h6 : m0 6 = false) (h7 : m0 7 = false) (h8 : m0 8 = false) (h32 : m0 32 = false) :
    Same m0 t0 (State.endIsolation s) := by
  unfold State.endIsolation; try dsimp only
  repeat' split
  all_goals first | done | simp (maxDischargeDepth := 60) (decide := true) [hK, h3, h4, h5, h6, h7, h8, h32]

@[simp] theorem State.stopGroups_same {m0 : Nat → Bool} {t0 : State} {s : State} (node : Nat) (idx : Nat) (epoch : Nat) (hK : Same m0 t0 s)
    (h28 : m0 28 = false) :
    Same m0 t0 (State.stopGroups s node idx epoch) := by
  unfold State.stopGroups; try dsimp only
  repeat' split
  all_goals first | done | simp (maxDischargeDepth := 60) (decide := true) [hK, h28]

@[simp] theorem State.portStopped_same {m0 : Nat → Bool} {t0 : State} {s : State} (src : Nat) (port : Nat) (epoch : Nat) (hK : Same m0 t0 s)
    (h4 : m0 4 = false) (h5 : m0 5 = false) (h6 : m0 6 = false) (h7 : m0 7 = false) (h8 : m0 8 = false) (h28 : m0 28 = false) :
    Same m0 t0 (State.portStopped s src port epoch) := by
  unfold State.portStopped; try dsimp only
  repeat' split
  all_goals first | done | simp (maxDischargeDepth := 60) (decide := true) [hK, h4, h5, h6, h7, h8, h28]

@[simp] theorem State.queueItem_same {m0 : Nat → Bool} {t0 : State} {s : State} (it : Item) (hK : Same m0 t0 s)
    (h33 : m0 33 = false) :
    Same m0 t0 (State.queueItem s it) := by
  unfold State.queueItem; try dsimp only
  repeat' split
  all_goals first | done | simp (maxDischargeDepth := 60) (decide := true) [hK, h33]

@[simp] theorem State.stopPort_same {m0 : Nat → Bool} {t0 : State} {s : State} (idx : Nat) (hK : Same m0 t0 s)
    (h28 : m0 28 = false) (h33 : m0 33 = false) :
    Same m0 t0 (State.stopPort s idx) := by
  unfold State.stopPort; try dsimp only
  repeat' split
  all_goals first | done | simp (maxDischargeDepth := 60) (decide := true) [hK, h28, h33]

@[simp] theorem State.refreshOffer_same {m0 : Nat → Bool} {t0 : State} {s : State} (o : Fin 4) (hK : Same m0 t0 s)
    (h5 : m0 5 = false) (h6 : m0 6 = false) (h7 : m0 7 = false) (h8 : m0 8 = false) :
    Same m0 t0 (State.refreshOffer s o) := by
  unfold State.refreshOffer; try dsimp only
  repeat' split
  all_goals first | done | simp (maxDischargeDepth := 60) (decide := true) [hK, h5, h6, h7, h8]

@[simp] theorem State.lossReceived_same {m0 : Nat → Bool} {t0 : State} {s : State} (src : Nat) (port : Nat) (lost : Nat) (hK : Same m0 t0 s)
    (h4 : m0 4 = false) (h5 : m0 5 = false) (h6 : m0 6 = false) (h7 : m0 7 = false) (h8 : m0 8 = false) (h32 : m0 32 = false) :
    Same m0 t0 (State.lossReceived s src port lost) := by
  unfold State.lossReceived; try dsimp only
  repeat' split
  all_goals first | done | simp (maxDischargeDepth := 60) (decide := true) [hK, h4, h5, h6, h7, h8, h32]

/-! ## Machine/Outlet.lean -/

@[simp] theorem State.setOut_same {m0 : Nat → Bool} {t0 : State} {s : State} (o : Fin 4) (x : Outlet) (hK : Same m0 t0 s)
    (h34 : m0 34 = false) :
    Same m0 t0 (State.setOut s o x) := by
  unfold State.setOut; try dsimp only
  repeat' split
  all_goals first | done | simp (maxDischargeDepth := 60) (decide := true) [hK, h34]

@[simp] theorem State.toState_same {m0 : Nat → Bool} {t0 : State} {s : State} (o : Fin 4) (n : Nat) (hK : Same m0 t0 s)
    (h5 : m0 5 = false) (h6 : m0 6 = false) (h7 : m0 7 = false) (h8 : m0 8 = false) (h43 : m0 43 = false) :
    Same m0 t0 (State.toState s o n) := by
  unfold State.toState; try dsimp only
  repeat' split
  all_goals first | done | simp (maxDischargeDepth := 60) (decide := true) [hK, h5, h6, h7, h8, h43]

@[simp] theorem State.tell_same {m0 : Nat → Bool} {t0 : State} {s : State} (o : Fin 4) (a : Answer) (hK : Same m0 t0 s)
    (h43 : m0 43 = false) :
    Same m0 t0 (State.tell s o a) := by
  unfold State.tell; try dsimp only
  repeat' split
  all_goals first | done | simp (maxDischargeDepth := 60) (decide := true) [hK, h43]

@[simp] theorem State.outletLive_same {m0 : Nat → Bool} {t0 : State} {s : State} (o : Fin 4) (f : State → State) (hK : Same m0 t0 s) (qf : ∀ x, Same m0 x (f x))
    (h43 : m0 43 = false) :
    Same m0 t0 (State.outletLive s o f) := by
  unfold State.outletLive; try dsimp only
  repeat' split
  all_goals first | done | simp (maxDischargeDepth := 60) (decide := true) [hK, qf, h43]

@[simp] theorem State.outletSense_same {m0 : Nat → Bool} {t0 : State} {s : State} (o : Fin 4) (f : State → State) (hK : Same m0 t0 s) (qf : ∀ x, Same m0 x (f x))
     :
    Same m0 t0 (State.outletSense s o f) := by
  unfold State.outletSense; try dsimp only
  repeat' split
  all_goals first | done | simp (maxDischargeDepth := 60) (decide := true) [hK, qf]

@[simp] theorem State.outletPart_same {m0 : Nat → Bool} {t0 : State} {s : State} (o : Fin 4) (f : State → State) (hK : Same m0 t0 s) (qf : ∀ x, Same m0 x (f x))
     :
    Same m0 t0 (State.outletPart s o f) := by
  unfold State.outletPart; try dsimp only
  repeat' split
  all_goals first | done | simp (maxDischargeDepth := 60) (decide := true) [hK, qf]

@[simp] theorem State.linkLive_same {m0 : Nat → Bool} {t0 : State} {s : State} (o : Fin 4) (f : State → State) (hK : Same m0 t0 s) (qf : ∀ x, Same m0 x (f x))
    (h43 : m0 43 = false) :
    Same m0 t0 (State.linkLive s o f) := by
  unfold State.linkLive; try dsimp only
  repeat' split
  all_goals first | done | simp (maxDischargeDepth := 60) (decide := true) [hK, qf, h43]

@[simp] theorem State.inStates_same {m0 : Nat → Bool} {t0 : State} {s : State} (o : Fin 4) (l : List Nat) (f : State → State) (hK : Same m0 t0 s) (qf : ∀ x, Same m0 x (f x))
    (h43 : m0 43 = false) :
    Same m0 t0 (State.inStates s o l f) := by
  unfold State.inStates; try dsimp only
  repeat' split
  all_goals first | done | simp (maxDischargeDepth := 60) (decide := true) [hK, qf, h43]

@[simp] theorem State.refuse_same {m0 : Nat → Bool} {t0 : State} {s : State} (o : Fin 4) (reason : Nat) (hK : Same m0 t0 s)
    (h5 : m0 5 = false) (h6 : m0 6 = false) (h7 : m0 7 = false) (h8 : m0 8 = false) (h24 : m0 24 = false) :
    Same m0 t0 (State.refuse s o reason) := by
  unfold State.refuse; try dsimp only
  repeat' split
  all_goals first | done | simp (maxDischargeDepth := 60) (decide := true) [hK, h5, h6, h7, h8, h24]

@[simp] theorem State.rest_same {m0 : Nat → Bool} {t0 : State} {s : State} (o : Fin 4) (hK : Same m0 t0 s)
    (h5 : m0 5 = false) (h6 : m0 6 = false) (h7 : m0 7 = false) (h8 : m0 8 = false) (h24 : m0 24 = false) (h43 : m0 43 = false) :
    Same m0 t0 (State.rest s o) := by
  unfold State.rest; try dsimp only
  repeat' split
  all_goals first | done | simp (maxDischargeDepth := 60) (decide := true) [hK, h5, h6, h7, h8, h24, h43]

@[simp] theorem State.driveCtr_same {m0 : Nat → Bool} {t0 : State} {s : State} (o : Fin 4) (neg : Bool) (on : Bool) (hK : Same m0 t0 s)
    (h5 : m0 5 = false) (h6 : m0 6 = false) (h7 : m0 7 = false) (h8 : m0 8 = false) (h24 : m0 24 = false) (h36 : m0 36 = false) :
    Same m0 t0 (State.driveCtr s o neg on) := by
  unfold State.driveCtr; try dsimp only
  repeat' split
  all_goals first | done | simp (maxDischargeDepth := 60) (decide := true) [hK, h5, h6, h7, h8, h24, h36]

@[simp] theorem State.drivesOff_same {m0 : Nat → Bool} {t0 : State} {s : State} (o : Fin 4) (hK : Same m0 t0 s)
    (h5 : m0 5 = false) (h6 : m0 6 = false) (h7 : m0 7 = false) (h8 : m0 8 = false) (h24 : m0 24 = false) (h36 : m0 36 = false) :
    Same m0 t0 (State.drivesOff s o) := by
  unfold State.drivesOff; try dsimp only
  repeat' split
  all_goals first | done | simp (maxDischargeDepth := 60) (decide := true) [hK, h5, h6, h7, h8, h24, h36]

@[simp] theorem State.runOn_same {m0 : Nat → Bool} {t0 : State} {s : State} (o : Fin 4) (hK : Same m0 t0 s)
    (h35 : m0 35 = false) :
    Same m0 t0 (State.runOn s o) := by
  unfold State.runOn; try dsimp only
  repeat' split
  all_goals first | done | simp (maxDischargeDepth := 60) (decide := true) [hK, h35]

@[simp] theorem State.zeroClaim_same {m0 : Nat → Bool} {t0 : State} {s : State} (o : Fin 4) (hK : Same m0 t0 s)
    (h5 : m0 5 = false) (h6 : m0 6 = false) (h7 : m0 7 = false) (h8 : m0 8 = false) (h32 : m0 32 = false) :
    Same m0 t0 (State.zeroClaim s o) := by
  unfold State.zeroClaim; try dsimp only
  repeat' split
  all_goals first | done | simp (maxDischargeDepth := 60) (decide := true) [hK, h5, h6, h7, h8, h32]

@[simp] theorem State.stopDone_same {m0 : Nat → Bool} {t0 : State} {s : State} (o : Fin 4) (wh : Int) (hK : Same m0 t0 s)
    (h21 : m0 21 = false) :
    Same m0 t0 (State.stopDone s o wh) := by
  unfold State.stopDone; try dsimp only
  repeat' split
  all_goals first | done | simp (maxDischargeDepth := 60) (decide := true) [hK, h21]

@[simp] theorem State.setAcct_same {m0 : Nat → Bool} {t0 : State} {s : State} (n : Nat) (a : Acct) (hK : Same m0 t0 s)
    (h39 : m0 39 = false) :
    Same m0 t0 (State.setAcct s n a) := by
  unfold State.setAcct; try dsimp only
  repeat' split
  all_goals first | done | simp (maxDischargeDepth := 60) (decide := true) [hK, h39]

@[simp] theorem State.acctsFree_same {m0 : Nat → Bool} {t0 : State} {s : State} (hK : Same m0 t0 s)
    (h39 : m0 39 = false) :
    Same m0 t0 (State.acctsFree s) := by
  unfold State.acctsFree
  first
    | (simp (maxDischargeDepth := 60) (decide := true) [hK, h39]; done)
    | (refine Same.foldl _ _ (by simp (maxDischargeDepth := 60) (decide := true) [hK, h39]) fun st i => ?_; (try dsimp only); repeat' split
       all_goals first | done | simp (maxDischargeDepth := 60) (decide := true) [h39] | (refine Same.foldl _ _ (by simp (maxDischargeDepth := 60) (decide := true) [h39]) fun st i => ?_; (try dsimp only); repeat' split; all_goals first | done | simp (maxDischargeDepth := 60) (decide := true) [h39]))
    | ((try dsimp only); repeat' split; all_goals first | done | exact hK | simp (maxDischargeDepth := 60) (decide := true) [hK, h39] | (refine Same.foldl _ _ (by simp (maxDischargeDepth := 60) (decide := true) [hK, h39]) fun st i => ?_; (try dsimp only); repeat' split; all_goals first | done | simp (maxDischargeDepth := 60) (decide := true) [h39]))

@[simp] theorem State.sessionOver_same {m0 : Nat → Bool} {t0 : State} {s : State} (o : Fin 4) (hK : Same m0 t0 s)
    (h0 : m0 0 = false) (h1 : m0 1 = false) (h2 : m0 2 = false) (h3 : m0 3 = false) (h4 : m0 4 = false) (h5 : m0 5 = false) (h6 : m0 6 = false) (h7 : m0 7 = false) (h8 : m0 8 = false) (h9 : m0 9 = false) (h10 : m0 10 = false) (h11 : m0 11 = false) (h24 : m0 24 = false) (h26 : m0 26 = false) (h28 : m0 28 = false) (h32 : m0 32 = false) (h34 : m0 34 = false) (h35 : m0 35 = false) (h36 : m0 36 = false) (h43 : m0 43 = false) :
    Same m0 t0 (State.sessionOver s o) := by
  unfold State.sessionOver; try dsimp only
  repeat' split
  all_goals first | done | simp (maxDischargeDepth := 60) (decide := true) [hK, h0, h1, h2, h3, h4, h5, h6, h7, h8, h9, h10, h11, h24, h26, h28, h32, h34, h35, h36, h43]

@[simp] theorem State.endQuiet_same {m0 : Nat → Bool} {t0 : State} {s : State} (o : Fin 4) (hK : Same m0 t0 s)
    (h0 : m0 0 = false) (h1 : m0 1 = false) (h2 : m0 2 = false) (h3 : m0 3 = false) (h4 : m0 4 = false) (h5 : m0 5 = false) (h6 : m0 6 = false) (h7 : m0 7 = false) (h8 : m0 8 = false) (h9 : m0 9 = false) (h10 : m0 10 = false) (h11 : m0 11 = false) (h21 : m0 21 = false) (h24 : m0 24 = false) (h26 : m0 26 = false) (h28 : m0 28 = false) (h32 : m0 32 = false) (h34 : m0 34 = false) (h35 : m0 35 = false) (h36 : m0 36 = false) (h39 : m0 39 = false) (h43 : m0 43 = false) :
    Same m0 t0 (State.endQuiet s o) := by
  unfold State.endQuiet; try dsimp only
  repeat' split
  all_goals first | done | simp (maxDischargeDepth := 60) (decide := true) [hK, h0, h1, h2, h3, h4, h5, h6, h7, h8, h9, h10, h11, h21, h24, h26, h28, h32, h34, h35, h36, h39, h43]

@[simp] theorem State.endRefused_same {m0 : Nat → Bool} {t0 : State} {s : State} (o : Fin 4) (reason : Nat) (hK : Same m0 t0 s)
    (h0 : m0 0 = false) (h1 : m0 1 = false) (h2 : m0 2 = false) (h3 : m0 3 = false) (h4 : m0 4 = false) (h5 : m0 5 = false) (h6 : m0 6 = false) (h7 : m0 7 = false) (h8 : m0 8 = false) (h9 : m0 9 = false) (h10 : m0 10 = false) (h11 : m0 11 = false) (h21 : m0 21 = false) (h24 : m0 24 = false) (h26 : m0 26 = false) (h28 : m0 28 = false) (h32 : m0 32 = false) (h34 : m0 34 = false) (h35 : m0 35 = false) (h36 : m0 36 = false) (h39 : m0 39 = false) (h43 : m0 43 = false) :
    Same m0 t0 (State.endRefused s o reason) := by
  unfold State.endRefused; try dsimp only
  repeat' split
  all_goals first | done | simp (maxDischargeDepth := 60) (decide := true) [hK, h0, h1, h2, h3, h4, h5, h6, h7, h8, h9, h10, h11, h21, h24, h26, h28, h32, h34, h35, h36, h39, h43]

@[simp] theorem State.requestEnd_same {m0 : Nat → Bool} {t0 : State} {s : State} (o : Fin 4) (hK : Same m0 t0 s)
    (h39 : m0 39 = false) :
    Same m0 t0 (State.requestEnd s o) := by
  unfold State.requestEnd; try dsimp only
  repeat' split
  all_goals first | done | simp (maxDischargeDepth := 60) (decide := true) [hK, h39]

@[simp] theorem State.opened_same {m0 : Nat → Bool} {t0 : State} {s : State} (o : Fin 4) (hK : Same m0 t0 s)
    (h0 : m0 0 = false) (h1 : m0 1 = false) (h2 : m0 2 = false) (h3 : m0 3 = false) (h4 : m0 4 = false) (h5 : m0 5 = false) (h6 : m0 6 = false) (h7 : m0 7 = false) (h8 : m0 8 = false) (h9 : m0 9 = false) (h10 : m0 10 = false) (h11 : m0 11 = false) (h21 : m0 21 = false) (h24 : m0 24 = false) (h26 : m0 26 = false) (h28 : m0 28 = false) (h32 : m0 32 = false) (h34 : m0 34 = false) (h35 : m0 35 = false) (h36 : m0 36 = false) (h39 : m0 39 = false) (h43 : m0 43 = false) :
    Same m0 t0 (State.opened s o) := by
  unfold State.opened; try dsimp only
  repeat' split
  all_goals first | done | simp (maxDischargeDepth := 60) (decide := true) [hK, h0, h1, h2, h3, h4, h5, h6, h7, h8, h9, h10, h11, h21, h24, h26, h28, h32, h34, h35, h36, h39, h43]

@[simp] theorem State.closedFirst_same {m0 : Nat → Bool} {t0 : State} {s : State} (o : Fin 4) (hK : Same m0 t0 s)
    (h34 : m0 34 = false) (h39 : m0 39 = false) :
    Same m0 t0 (State.closedFirst s o) := by
  unfold State.closedFirst; try dsimp only
  repeat' split
  all_goals first | done | simp (maxDischargeDepth := 60) (decide := true) [hK, h34, h39]

@[simp] theorem State.ctrStep_same {m0 : Nat → Bool} {t0 : State} {s : State} (o : Fin 4) (hK : Same m0 t0 s)
    (h0 : m0 0 = false) (h1 : m0 1 = false) (h2 : m0 2 = false) (h3 : m0 3 = false) (h4 : m0 4 = false) (h5 : m0 5 = false) (h6 : m0 6 = false) (h7 : m0 7 = false) (h8 : m0 8 = false) (h9 : m0 9 = false) (h10 : m0 10 = false) (h11 : m0 11 = false) (h21 : m0 21 = false) (h24 : m0 24 = false) (h26 : m0 26 = false) (h28 : m0 28 = false) (h32 : m0 32 = false) (h34 : m0 34 = false) (h35 : m0 35 = false) (h36 : m0 36 = false) (h39 : m0 39 = false) (h43 : m0 43 = false) :
    Same m0 t0 (State.ctrStep s o) := by
  unfold State.ctrStep; try dsimp only
  repeat' split
  all_goals first | done | simp (maxDischargeDepth := 60) (decide := true) [hK, h0, h1, h2, h3, h4, h5, h6, h7, h8, h9, h10, h11, h21, h24, h26, h28, h32, h34, h35, h36, h39, h43]

@[simp] theorem State.openContactors_same {m0 : Nat → Bool} {t0 : State} {s : State} (o : Fin 4) (hK : Same m0 t0 s)
    (h0 : m0 0 = false) (h1 : m0 1 = false) (h2 : m0 2 = false) (h3 : m0 3 = false) (h4 : m0 4 = false) (h5 : m0 5 = false) (h6 : m0 6 = false) (h7 : m0 7 = false) (h8 : m0 8 = false) (h9 : m0 9 = false) (h10 : m0 10 = false) (h11 : m0 11 = false) (h21 : m0 21 = false) (h24 : m0 24 = false) (h26 : m0 26 = false) (h28 : m0 28 = false) (h32 : m0 32 = false) (h34 : m0 34 = false) (h35 : m0 35 = false) (h36 : m0 36 = false) (h39 : m0 39 = false) (h43 : m0 43 = false) :
    Same m0 t0 (State.openContactors s o) := by
  unfold State.openContactors; try dsimp only
  repeat' split
  all_goals first | done | simp (maxDischargeDepth := 60) (decide := true) [hK, h0, h1, h2, h3, h4, h5, h6, h7, h8, h9, h10, h11, h21, h24, h26, h28, h32, h34, h35, h36, h39, h43]

@[simp] theorem State.beginStop_same {m0 : Nat → Bool} {t0 : State} {s : State} (o : Fin 4) (cause : Option Nat) (hK : Same m0 t0 s)
    (h5 : m0 5 = false) (h6 : m0 6 = false) (h7 : m0 7 = false) (h8 : m0 8 = false) (h32 : m0 32 = false) (h34 : m0 34 = false) (h43 : m0 43 = false) :
    Same m0 t0 (State.beginStop s o cause) := by
  unfold State.beginStop; try dsimp only
  repeat' split
  all_goals first | done | simp (maxDischargeDepth := 60) (decide := true) [hK, h5, h6, h7, h8, h32, h34, h43]

@[simp] theorem State.normalStop_same {m0 : Nat → Bool} {t0 : State} {s : State} (o : Fin 4) (cause : Option Nat) (hK : Same m0 t0 s)
    (h0 : m0 0 = false) (h1 : m0 1 = false) (h2 : m0 2 = false) (h3 : m0 3 = false) (h4 : m0 4 = false) (h5 : m0 5 = false) (h6 : m0 6 = false) (h7 : m0 7 = false) (h8 : m0 8 = false) (h9 : m0 9 = false) (h10 : m0 10 = false) (h11 : m0 11 = false) (h21 : m0 21 = false) (h24 : m0 24 = false) (h26 : m0 26 = false) (h28 : m0 28 = false) (h32 : m0 32 = false) (h34 : m0 34 = false) (h35 : m0 35 = false) (h36 : m0 36 = false) (h39 : m0 39 = false) (h43 : m0 43 = false) :
    Same m0 t0 (State.normalStop s o cause) := by
  unfold State.normalStop; try dsimp only
  repeat' split
  all_goals first | done | simp (maxDischargeDepth := 60) (decide := true) [hK, h0, h1, h2, h3, h4, h5, h6, h7, h8, h9, h10, h11, h21, h24, h26, h28, h32, h34, h35, h36, h39, h43]

@[simp] theorem State.emergencyStop_same {m0 : Nat → Bool} {t0 : State} {s : State} (o : Fin 4) (cause : Nat) (hK : Same m0 t0 s)
    (h0 : m0 0 = false) (h1 : m0 1 = false) (h2 : m0 2 = false) (h3 : m0 3 = false) (h4 : m0 4 = false) (h5 : m0 5 = false) (h6 : m0 6 = false) (h7 : m0 7 = false) (h8 : m0 8 = false) (h9 : m0 9 = false) (h10 : m0 10 = false) (h11 : m0 11 = false) (h21 : m0 21 = false) (h24 : m0 24 = false) (h26 : m0 26 = false) (h28 : m0 28 = false) (h32 : m0 32 = false) (h33 : m0 33 = false) (h34 : m0 34 = false) (h35 : m0 35 = false) (h36 : m0 36 = false) (h39 : m0 39 = false) (h43 : m0 43 = false) :
    Same m0 t0 (State.emergencyStop s o cause) := by
  unfold State.emergencyStop; try dsimp only
  repeat' split
  all_goals first | done | simp (maxDischargeDepth := 60) (decide := true) [hK, h0, h1, h2, h3, h4, h5, h6, h7, h8, h9, h10, h11, h21, h24, h26, h28, h32, h33, h34, h35, h36, h39, h43]

@[simp] theorem State.endInFault_same {m0 : Nat → Bool} {t0 : State} {s : State} (o : Fin 4) (hK : Same m0 t0 s)
    (h34 : m0 34 = false) (h39 : m0 39 = false) :
    Same m0 t0 (State.endInFault s o) := by
  unfold State.endInFault; try dsimp only
  repeat' split
  all_goals first | done | simp (maxDischargeDepth := 60) (decide := true) [hK, h34, h39]

@[simp] theorem State.toFault_same {m0 : Nat → Bool} {t0 : State} {s : State} (o : Fin 4) (hK : Same m0 t0 s)
    (h0 : m0 0 = false) (h1 : m0 1 = false) (h2 : m0 2 = false) (h3 : m0 3 = false) (h4 : m0 4 = false) (h5 : m0 5 = false) (h6 : m0 6 = false) (h7 : m0 7 = false) (h8 : m0 8 = false) (h9 : m0 9 = false) (h10 : m0 10 = false) (h11 : m0 11 = false) (h21 : m0 21 = false) (h24 : m0 24 = false) (h26 : m0 26 = false) (h28 : m0 28 = false) (h32 : m0 32 = false) (h34 : m0 34 = false) (h35 : m0 35 = false) (h36 : m0 36 = false) (h39 : m0 39 = false) (h43 : m0 43 = false) :
    Same m0 t0 (State.toFault s o) := by
  unfold State.toFault; try dsimp only
  repeat' split
  all_goals first | done | simp (maxDischargeDepth := 60) (decide := true) [hK, h0, h1, h2, h3, h4, h5, h6, h7, h8, h9, h10, h11, h21, h24, h26, h28, h32, h34, h35, h36, h39, h43]

@[simp] theorem State.welded_same {m0 : Nat → Bool} {t0 : State} {s : State} (o : Fin 4) (hK : Same m0 t0 s)
    (h0 : m0 0 = false) (h1 : m0 1 = false) (h2 : m0 2 = false) (h3 : m0 3 = false) (h4 : m0 4 = false) (h5 : m0 5 = false) (h6 : m0 6 = false) (h7 : m0 7 = false) (h8 : m0 8 = false) (h9 : m0 9 = false) (h10 : m0 10 = false) (h11 : m0 11 = false) (h21 : m0 21 = false) (h24 : m0 24 = false) (h26 : m0 26 = false) (h28 : m0 28 = false) (h32 : m0 32 = false) (h34 : m0 34 = false) (h35 : m0 35 = false) (h36 : m0 36 = false) (h39 : m0 39 = false) (h43 : m0 43 = false) :
    Same m0 t0 (State.welded s o) := by
  unfold State.welded; try dsimp only
  repeat' split
  all_goals first | done | simp (maxDischargeDepth := 60) (decide := true) [hK, h0, h1, h2, h3, h4, h5, h6, h7, h8, h9, h10, h11, h21, h24, h26, h28, h32, h34, h35, h36, h39, h43]

@[simp] theorem State.feedback_same {m0 : Nat → Bool} {t0 : State} {s : State} (o : Fin 4) (neg : Bool) (high : Bool) (hK : Same m0 t0 s)
    (h0 : m0 0 = false) (h1 : m0 1 = false) (h2 : m0 2 = false) (h3 : m0 3 = false) (h4 : m0 4 = false) (h5 : m0 5 = false) (h6 : m0 6 = false) (h7 : m0 7 = false) (h8 : m0 8 = false) (h9 : m0 9 = false) (h10 : m0 10 = false) (h11 : m0 11 = false) (h21 : m0 21 = false) (h24 : m0 24 = false) (h26 : m0 26 = false) (h28 : m0 28 = false) (h32 : m0 32 = false) (h33 : m0 33 = false) (h34 : m0 34 = false) (h35 : m0 35 = false) (h36 : m0 36 = false) (h39 : m0 39 = false) (h43 : m0 43 = false) :
    Same m0 t0 (State.feedback s o neg high) := by
  unfold State.feedback; try dsimp only
  repeat' split
  all_goals first | done | simp (maxDischargeDepth := 60) (decide := true) [hK, h0, h1, h2, h3, h4, h5, h6, h7, h8, h9, h10, h11, h21, h24, h26, h28, h32, h33, h34, h35, h36, h39, h43]

@[simp] theorem State.outFaultClearEffect_same {m0 : Nat → Bool} {t0 : State} {s : State} (o : Fin 4) (v : Nat) (hK : Same m0 t0 s)
    (h5 : m0 5 = false) (h6 : m0 6 = false) (h7 : m0 7 = false) (h8 : m0 8 = false) (h24 : m0 24 = false) (h43 : m0 43 = false) :
    Same m0 t0 (State.outFaultClearEffect s o v) := by
  unfold State.outFaultClearEffect; try dsimp only
  repeat' split
  all_goals first | done | simp (maxDischargeDepth := 60) (decide := true) [hK, h5, h6, h7, h8, h24, h43]

@[simp] theorem State.senseState_same {m0 : Nat → Bool} {t0 : State} {s : State} (o : Fin 4) (hi : Int) (lo : Int) (hK : Same m0 t0 s)
    (h5 : m0 5 = false) (h6 : m0 6 = false) (h7 : m0 7 = false) (h8 : m0 8 = false) (h34 : m0 34 = false) :
    Same m0 t0 (State.senseState s o hi lo) := by
  unfold State.senseState; try dsimp only
  repeat' split
  all_goals first | done | simp (maxDischargeDepth := 60) (decide := true) [hK, h5, h6, h7, h8, h34]

@[simp] theorem State.negotiate_same {m0 : Nat → Bool} {t0 : State} {s : State} (o : Fin 4) (hK : Same m0 t0 s)
    (h5 : m0 5 = false) (h6 : m0 6 = false) (h7 : m0 7 = false) (h8 : m0 8 = false) (h43 : m0 43 = false) :
    Same m0 t0 (State.negotiate s o) := by
  unfold State.negotiate; try dsimp only
  repeat' split
  all_goals first | done | simp (maxDischargeDepth := 60) (decide := true) [hK, h5, h6, h7, h8, h43]

@[simp] theorem State.unlisted_same {m0 : Nat → Bool} {t0 : State} {s : State} (o : Fin 4) (hK : Same m0 t0 s)
    (h0 : m0 0 = false) (h1 : m0 1 = false) (h2 : m0 2 = false) (h3 : m0 3 = false) (h4 : m0 4 = false) (h5 : m0 5 = false) (h6 : m0 6 = false) (h7 : m0 7 = false) (h8 : m0 8 = false) (h9 : m0 9 = false) (h10 : m0 10 = false) (h11 : m0 11 = false) (h21 : m0 21 = false) (h24 : m0 24 = false) (h26 : m0 26 = false) (h28 : m0 28 = false) (h32 : m0 32 = false) (h34 : m0 34 = false) (h35 : m0 35 = false) (h36 : m0 36 = false) (h39 : m0 39 = false) (h43 : m0 43 = false) :
    Same m0 t0 (State.unlisted s o) := by
  unfold State.unlisted; try dsimp only
  repeat' split
  all_goals first | done | simp (maxDischargeDepth := 60) (decide := true) [hK, h0, h1, h2, h3, h4, h5, h6, h7, h8, h9, h10, h11, h21, h24, h26, h28, h32, h34, h35, h36, h39, h43]

@[simp] theorem State.identify_same {m0 : Nat → Bool} {t0 : State} {s : State} (o : Fin 4) (emaid : List Byte) (chain : List Byte × Nat) (hK : Same m0 t0 s)
    (h0 : m0 0 = false) (h1 : m0 1 = false) (h2 : m0 2 = false) (h3 : m0 3 = false) (h4 : m0 4 = false) (h5 : m0 5 = false) (h6 : m0 6 = false) (h7 : m0 7 = false) (h8 : m0 8 = false) (h9 : m0 9 = false) (h10 : m0 10 = false) (h11 : m0 11 = false) (h21 : m0 21 = false) (h24 : m0 24 = false) (h26 : m0 26 = false) (h28 : m0 28 = false) (h32 : m0 32 = false) (h34 : m0 34 = false) (h35 : m0 35 = false) (h36 : m0 36 = false) (h39 : m0 39 = false) (h43 : m0 43 = false) :
    Same m0 t0 (State.identify s o emaid chain) := by
  unfold State.identify; try dsimp only
  repeat' split
  all_goals first | done | simp (maxDischargeDepth := 60) (decide := true) [hK, h0, h1, h2, h3, h4, h5, h6, h7, h8, h9, h10, h11, h21, h24, h26, h28, h32, h34, h35, h36, h39, h43]

@[simp] theorem State.authEffect_same {m0 : Nat → Bool} {t0 : State} {s : State} (o : Fin 4) (v : Nat) (hK : Same m0 t0 s)
    (h0 : m0 0 = false) (h1 : m0 1 = false) (h2 : m0 2 = false) (h3 : m0 3 = false) (h4 : m0 4 = false) (h5 : m0 5 = false) (h6 : m0 6 = false) (h7 : m0 7 = false) (h8 : m0 8 = false) (h9 : m0 9 = false) (h10 : m0 10 = false) (h11 : m0 11 = false) (h21 : m0 21 = false) (h24 : m0 24 = false) (h26 : m0 26 = false) (h28 : m0 28 = false) (h32 : m0 32 = false) (h34 : m0 34 = false) (h35 : m0 35 = false) (h36 : m0 36 = false) (h39 : m0 39 = false) (h43 : m0 43 = false) :
    Same m0 t0 (State.authEffect s o v) := by
  unfold State.authEffect; try dsimp only
  repeat' split
  all_goals first | done | simp (maxDischargeDepth := 60) (decide := true) [hK, h0, h1, h2, h3, h4, h5, h6, h7, h8, h9, h10, h11, h21, h24, h26, h28, h32, h34, h35, h36, h39, h43]

@[simp] theorem State.isoUnused_same {m0 : Nat → Bool} {t0 : State} {s : State} (o : Fin 4) (hK : Same m0 t0 s)
    (h5 : m0 5 = false) (h6 : m0 6 = false) (h7 : m0 7 = false) (h8 : m0 8 = false) :
    Same m0 t0 (State.isoUnused s o) := by
  unfold State.isoUnused; try dsimp only
  repeat' split
  all_goals first | done | simp (maxDischargeDepth := 60) (decide := true) [hK, h5, h6, h7, h8]

@[simp] theorem State.judgeCheck_same {m0 : Nat → Bool} {t0 : State} {s : State} (o : Fin 4) (imdOk : Bool) (duty : Option Nat) (hK : Same m0 t0 s)
    (h0 : m0 0 = false) (h1 : m0 1 = false) (h2 : m0 2 = false) (h3 : m0 3 = false) (h4 : m0 4 = false) (h5 : m0 5 = false) (h6 : m0 6 = false) (h7 : m0 7 = false) (h8 : m0 8 = false) (h9 : m0 9 = false) (h10 : m0 10 = false) (h11 : m0 11 = false) (h21 : m0 21 = false) (h24 : m0 24 = false) (h26 : m0 26 = false) (h28 : m0 28 = false) (h32 : m0 32 = false) (h34 : m0 34 = false) (h35 : m0 35 = false) (h36 : m0 36 = false) (h39 : m0 39 = false) (h43 : m0 43 = false) :
    Same m0 t0 (State.judgeCheck s o imdOk duty) := by
  unfold State.judgeCheck; try dsimp only
  repeat' split
  all_goals first | done | simp (maxDischargeDepth := 60) (decide := true) [hK, h0, h1, h2, h3, h4, h5, h6, h7, h8, h9, h10, h11, h21, h24, h26, h28, h32, h34, h35, h36, h39, h43]

@[simp] theorem State.chargeLoop_same {m0 : Nat → Bool} {t0 : State} {s : State} (o : Fin 4) (i : Nat) (v : Nat) (p : Option Nat) (di : Nat) (dp : Option Nat) (hK : Same m0 t0 s)
    (h5 : m0 5 = false) (h6 : m0 6 = false) (h7 : m0 7 = false) (h8 : m0 8 = false) (h32 : m0 32 = false) (h34 : m0 34 = false) (h43 : m0 43 = false) :
    Same m0 t0 (State.chargeLoop s o i v p di dp) := by
  unfold State.chargeLoop; try dsimp only
  repeat' split
  all_goals first | done | simp (maxDischargeDepth := 60) (decide := true) [hK, h5, h6, h7, h8, h32, h34, h43]

@[simp] theorem State.offer_same {m0 : Nat → Bool} {t0 : State} {s : State} (o : Fin 4) (hK : Same m0 t0 s)
    (h5 : m0 5 = false) (h6 : m0 6 = false) (h7 : m0 7 = false) (h8 : m0 8 = false) (h43 : m0 43 = false) :
    Same m0 t0 (State.offer s o) := by
  unfold State.offer; try dsimp only
  repeat' split
  all_goals first | done | simp (maxDischargeDepth := 60) (decide := true) [hK, h5, h6, h7, h8, h43]

@[simp] theorem State.certResEffect_same {m0 : Nat → Bool} {t0 : State} {s : State} (o : Fin 4) (body : List Byte) (hK : Same m0 t0 s)
    (h5 : m0 5 = false) (h6 : m0 6 = false) (h7 : m0 7 = false) (h8 : m0 8 = false) (h43 : m0 43 = false) :
    Same m0 t0 (State.certResEffect s o body) := by
  unfold State.certResEffect; try dsimp only
  repeat' split
  all_goals first | done | simp (maxDischargeDepth := 60) (decide := true) [hK, h5, h6, h7, h8, h43]

@[simp] theorem State.sessionStop_same {m0 : Nat → Bool} {t0 : State} {s : State} (arg : Nat) (hK : Same m0 t0 s)
    (h0 : m0 0 = false) (h1 : m0 1 = false) (h2 : m0 2 = false) (h3 : m0 3 = false) (h4 : m0 4 = false) (h5 : m0 5 = false) (h6 : m0 6 = false) (h7 : m0 7 = false) (h8 : m0 8 = false) (h9 : m0 9 = false) (h10 : m0 10 = false) (h11 : m0 11 = false) (h21 : m0 21 = false) (h24 : m0 24 = false) (h26 : m0 26 = false) (h28 : m0 28 = false) (h32 : m0 32 = false) (h33 : m0 33 = false) (h34 : m0 34 = false) (h35 : m0 35 = false) (h36 : m0 36 = false) (h39 : m0 39 = false) (h43 : m0 43 = false) :
    Same m0 t0 (State.sessionStop s arg) := by
  unfold State.sessionStop; try dsimp only
  repeat' split
  all_goals first | done | simp (maxDischargeDepth := 60) (decide := true) [hK, h0, h1, h2, h3, h4, h5, h6, h7, h8, h9, h10, h11, h21, h24, h26, h28, h32, h33, h34, h35, h36, h39, h43]

@[simp] theorem State.noteParked_same {m0 : Nat → Bool} {t0 : State} {s : State} (hK : Same m0 t0 s)
    (h0 : m0 0 = false) (h1 : m0 1 = false) (h2 : m0 2 = false) (h3 : m0 3 = false) (h4 : m0 4 = false) (h5 : m0 5 = false) (h6 : m0 6 = false) (h7 : m0 7 = false) (h8 : m0 8 = false) (h9 : m0 9 = false) (h10 : m0 10 = false) (h11 : m0 11 = false) (h21 : m0 21 = false) (h22 : m0 22 = false) (h24 : m0 24 = false) (h26 : m0 26 = false) (h28 : m0 28 = false) (h32 : m0 32 = false) (h34 : m0 34 = false) (h35 : m0 35 = false) (h36 : m0 36 = false) (h39 : m0 39 = false) (h43 : m0 43 = false) :
    Same m0 t0 (State.noteParked s) := by
  unfold State.noteParked; try dsimp only
  repeat' split
  all_goals first | done | simp (maxDischargeDepth := 60) (decide := true) [hK, h0, h1, h2, h3, h4, h5, h6, h7, h8, h9, h10, h11, h21, h22, h24, h26, h28, h32, h34, h35, h36, h39, h43]

@[simp] theorem State.outletsStop_same {m0 : Nat → Bool} {t0 : State} {s : State} (hK : Same m0 t0 s)
    (h0 : m0 0 = false) (h1 : m0 1 = false) (h2 : m0 2 = false) (h3 : m0 3 = false) (h4 : m0 4 = false) (h5 : m0 5 = false) (h6 : m0 6 = false) (h7 : m0 7 = false) (h8 : m0 8 = false) (h9 : m0 9 = false) (h10 : m0 10 = false) (h11 : m0 11 = false) (h21 : m0 21 = false) (h24 : m0 24 = false) (h26 : m0 26 = false) (h28 : m0 28 = false) (h32 : m0 32 = false) (h34 : m0 34 = false) (h35 : m0 35 = false) (h36 : m0 36 = false) (h39 : m0 39 = false) (h43 : m0 43 = false) :
    Same m0 t0 (State.outletsStop s) := by
  unfold State.outletsStop; try dsimp only
  repeat' split
  all_goals first | done | simp (maxDischargeDepth := 60) (decide := true) [hK, h0, h1, h2, h3, h4, h5, h6, h7, h8, h9, h10, h11, h21, h24, h26, h28, h32, h34, h35, h36, h39, h43]

@[simp] theorem State.openOutlet_same {m0 : Nat → Bool} {t0 : State} {s : State} (o : Fin 4) (hK : Same m0 t0 s)
    (h0 : m0 0 = false) (h1 : m0 1 = false) (h2 : m0 2 = false) (h3 : m0 3 = false) (h4 : m0 4 = false) (h5 : m0 5 = false) (h6 : m0 6 = false) (h7 : m0 7 = false) (h8 : m0 8 = false) (h9 : m0 9 = false) (h10 : m0 10 = false) (h11 : m0 11 = false) (h21 : m0 21 = false) (h24 : m0 24 = false) (h26 : m0 26 = false) (h28 : m0 28 = false) (h32 : m0 32 = false) (h34 : m0 34 = false) (h35 : m0 35 = false) (h36 : m0 36 = false) (h39 : m0 39 = false) (h43 : m0 43 = false) :
    Same m0 t0 (State.openOutlet s o) := by
  unfold State.openOutlet; try dsimp only
  repeat' split
  all_goals first | done | simp (maxDischargeDepth := 60) (decide := true) [hK, h0, h1, h2, h3, h4, h5, h6, h7, h8, h9, h10, h11, h21, h24, h26, h28, h32, h34, h35, h36, h39, h43]

@[simp] theorem State.outletsArrived_same {m0 : Nat → Bool} {t0 : State} {s : State} (hK : Same m0 t0 s)
    (h0 : m0 0 = false) (h1 : m0 1 = false) (h2 : m0 2 = false) (h3 : m0 3 = false) (h4 : m0 4 = false) (h5 : m0 5 = false) (h6 : m0 6 = false) (h7 : m0 7 = false) (h8 : m0 8 = false) (h9 : m0 9 = false) (h10 : m0 10 = false) (h11 : m0 11 = false) (h21 : m0 21 = false) (h24 : m0 24 = false) (h26 : m0 26 = false) (h28 : m0 28 = false) (h32 : m0 32 = false) (h34 : m0 34 = false) (h35 : m0 35 = false) (h36 : m0 36 = false) (h39 : m0 39 = false) (h43 : m0 43 = false) :
    Same m0 t0 (State.outletsArrived s) := by
  unfold State.outletsArrived; try dsimp only
  repeat' split
  all_goals first | done | simp (maxDischargeDepth := 60) (decide := true) [hK, h0, h1, h2, h3, h4, h5, h6, h7, h8, h9, h10, h11, h21, h24, h26, h28, h32, h34, h35, h36, h39, h43]

/-! ## Machine/Billing.lean -/

@[simp] theorem State.acctIdEffect_same {m0 : Nat → Bool} {t0 : State} {s : State} (id : Nat) (hK : Same m0 t0 s)
    (h39 : m0 39 = false) :
    Same m0 t0 (State.acctIdEffect s id) := by
  unfold State.acctIdEffect; try dsimp only
  repeat' split
  all_goals first | done | simp (maxDischargeDepth := 60) (decide := true) [hK, h39]

@[simp] theorem State.creditStop_same {m0 : Nat → Bool} {t0 : State} {s : State} (n : Nat) (hK : Same m0 t0 s)
    (h0 : m0 0 = false) (h1 : m0 1 = false) (h2 : m0 2 = false) (h3 : m0 3 = false) (h4 : m0 4 = false) (h5 : m0 5 = false) (h6 : m0 6 = false) (h7 : m0 7 = false) (h8 : m0 8 = false) (h9 : m0 9 = false) (h10 : m0 10 = false) (h11 : m0 11 = false) (h21 : m0 21 = false) (h24 : m0 24 = false) (h26 : m0 26 = false) (h28 : m0 28 = false) (h32 : m0 32 = false) (h34 : m0 34 = false) (h35 : m0 35 = false) (h36 : m0 36 = false) (h39 : m0 39 = false) (h43 : m0 43 = false) :
    Same m0 t0 (State.creditStop s n) := by
  unfold State.creditStop; try dsimp only
  repeat' split
  all_goals first | done | simp (maxDischargeDepth := 60) (decide := true) [hK, h0, h1, h2, h3, h4, h5, h6, h7, h8, h9, h10, h11, h21, h24, h26, h28, h32, h34, h35, h36, h39, h43]

@[simp] theorem State.creditSpent_same {m0 : Nat → Bool} {t0 : State} {s : State} (n : Nat) (hK : Same m0 t0 s)
    (h0 : m0 0 = false) (h1 : m0 1 = false) (h2 : m0 2 = false) (h3 : m0 3 = false) (h4 : m0 4 = false) (h5 : m0 5 = false) (h6 : m0 6 = false) (h7 : m0 7 = false) (h8 : m0 8 = false) (h9 : m0 9 = false) (h10 : m0 10 = false) (h11 : m0 11 = false) (h21 : m0 21 = false) (h24 : m0 24 = false) (h26 : m0 26 = false) (h28 : m0 28 = false) (h32 : m0 32 = false) (h34 : m0 34 = false) (h35 : m0 35 = false) (h36 : m0 36 = false) (h39 : m0 39 = false) (h43 : m0 43 = false) :
    Same m0 t0 (State.creditSpent s n) := by
  unfold State.creditSpent; try dsimp only
  repeat' split
  all_goals first | done | simp (maxDischargeDepth := 60) (decide := true) [hK, h0, h1, h2, h3, h4, h5, h6, h7, h8, h9, h10, h11, h21, h24, h26, h28, h32, h34, h35, h36, h39, h43]

@[simp] theorem State.grantCredit_same {m0 : Nat → Bool} {t0 : State} {s : State} (n : Nat) (hK : Same m0 t0 s)
    (h24 : m0 24 = false) (h39 : m0 39 = false) :
    Same m0 t0 (State.grantCredit s n) := by
  unfold State.grantCredit; try dsimp only
  repeat' split
  all_goals first | done | simp (maxDischargeDepth := 60) (decide := true) [hK, h24, h39]

@[simp] theorem State.evaluate_same {m0 : Nat → Bool} {t0 : State} {s : State} (n : Nat) (hK : Same m0 t0 s)
    (h0 : m0 0 = false) (h1 : m0 1 = false) (h2 : m0 2 = false) (h3 : m0 3 = false) (h4 : m0 4 = false) (h5 : m0 5 = false) (h6 : m0 6 = false) (h7 : m0 7 = false) (h8 : m0 8 = false) (h9 : m0 9 = false) (h10 : m0 10 = false) (h11 : m0 11 = false) (h21 : m0 21 = false) (h24 : m0 24 = false) (h26 : m0 26 = false) (h28 : m0 28 = false) (h32 : m0 32 = false) (h34 : m0 34 = false) (h35 : m0 35 = false) (h36 : m0 36 = false) (h39 : m0 39 = false) (h43 : m0 43 = false) :
    Same m0 t0 (State.evaluate s n) := by
  unfold State.evaluate; try dsimp only
  repeat' split
  all_goals first | done | simp (maxDischargeDepth := 60) (decide := true) [hK, h0, h1, h2, h3, h4, h5, h6, h7, h8, h9, h10, h11, h21, h24, h26, h28, h32, h34, h35, h36, h39, h43]

@[simp] theorem State.accountTopup_same {m0 : Nat → Bool} {t0 : State} {s : State} (arg : Nat) (hK : Same m0 t0 s)
    (h0 : m0 0 = false) (h1 : m0 1 = false) (h2 : m0 2 = false) (h3 : m0 3 = false) (h4 : m0 4 = false) (h5 : m0 5 = false) (h6 : m0 6 = false) (h7 : m0 7 = false) (h8 : m0 8 = false) (h9 : m0 9 = false) (h10 : m0 10 = false) (h11 : m0 11 = false) (h21 : m0 21 = false) (h24 : m0 24 = false) (h26 : m0 26 = false) (h28 : m0 28 = false) (h32 : m0 32 = false) (h34 : m0 34 = false) (h35 : m0 35 = false) (h36 : m0 36 = false) (h39 : m0 39 = false) (h43 : m0 43 = false) :
    Same m0 t0 (State.accountTopup s arg) := by
  unfold State.accountTopup; try dsimp only
  repeat' split
  all_goals first | done | simp (maxDischargeDepth := 60) (decide := true) [hK, h0, h1, h2, h3, h4, h5, h6, h7, h8, h9, h10, h11, h21, h24, h26, h28, h32, h34, h35, h36, h39, h43]

@[simp] theorem State.addE_same {m0 : Nat → Bool} {t0 : State} {s : State} (k : Nat) (n : Nat) (hK : Same m0 t0 s)
    (h0 : m0 0 = false) (h1 : m0 1 = false) (h2 : m0 2 = false) (h3 : m0 3 = false) (h4 : m0 4 = false) (h5 : m0 5 = false) (h6 : m0 6 = false) (h7 : m0 7 = false) (h8 : m0 8 = false) (h9 : m0 9 = false) (h10 : m0 10 = false) (h11 : m0 11 = false) :
    Same m0 t0 (State.addE s k n) := by
  unfold State.addE; try dsimp only
  repeat' split
  all_goals first | done | simp (maxDischargeDepth := 60) (decide := true) [hK, h0, h1, h2, h3, h4, h5, h6, h7, h8, h9, h10, h11]

@[simp] theorem State.charge_same {m0 : Nat → Bool} {t0 : State} {s : State} (c : Fin 4) (n : Nat) (hK : Same m0 t0 s)
    (h0 : m0 0 = false) (h1 : m0 1 = false) (h2 : m0 2 = false) (h3 : m0 3 = false) (h4 : m0 4 = false) (h5 : m0 5 = false) (h6 : m0 6 = false) (h7 : m0 7 = false) (h8 : m0 8 = false) (h9 : m0 9 = false) (h10 : m0 10 = false) (h11 : m0 11 = false) (h21 : m0 21 = false) (h24 : m0 24 = false) (h26 : m0 26 = false) (h28 : m0 28 = false) (h32 : m0 32 = false) (h34 : m0 34 = false) (h35 : m0 35 = false) (h36 : m0 36 = false) (h39 : m0 39 = false) (h43 : m0 43 = false) :
    Same m0 t0 (State.charge s c n) := by
  unfold State.charge; try dsimp only
  repeat' split
  all_goals first | done | simp (maxDischargeDepth := 60) (decide := true) [hK, h0, h1, h2, h3, h4, h5, h6, h7, h8, h9, h10, h11, h21, h24, h26, h28, h32, h34, h35, h36, h39, h43]

@[simp] theorem State.attribImport_same {m0 : Nat → Bool} {t0 : State} {s : State} (c : Fin 4) (n : Nat) (hK : Same m0 t0 s)
    (h0 : m0 0 = false) (h1 : m0 1 = false) (h2 : m0 2 = false) (h3 : m0 3 = false) (h4 : m0 4 = false) (h5 : m0 5 = false) (h6 : m0 6 = false) (h7 : m0 7 = false) (h8 : m0 8 = false) (h9 : m0 9 = false) (h10 : m0 10 = false) (h11 : m0 11 = false) (h21 : m0 21 = false) (h24 : m0 24 = false) (h26 : m0 26 = false) (h28 : m0 28 = false) (h32 : m0 32 = false) (h34 : m0 34 = false) (h35 : m0 35 = false) (h36 : m0 36 = false) (h39 : m0 39 = false) (h43 : m0 43 = false) :
    Same m0 t0 (State.attribImport s c n) := by
  unfold State.attribImport; try dsimp only
  repeat' split
  all_goals first | done | simp (maxDischargeDepth := 60) (decide := true) [hK, h0, h1, h2, h3, h4, h5, h6, h7, h8, h9, h10, h11, h21, h24, h26, h28, h32, h34, h35, h36, h39, h43]

@[simp] theorem State.attribExport_same {m0 : Nat → Bool} {t0 : State} {s : State} (c : Fin 4) (n : Nat) (hK : Same m0 t0 s)
    (h0 : m0 0 = false) (h1 : m0 1 = false) (h2 : m0 2 = false) (h3 : m0 3 = false) (h4 : m0 4 = false) (h5 : m0 5 = false) (h6 : m0 6 = false) (h7 : m0 7 = false) (h8 : m0 8 = false) (h9 : m0 9 = false) (h10 : m0 10 = false) (h11 : m0 11 = false) (h43 : m0 43 = false) :
    Same m0 t0 (State.attribExport s c n) := by
  unfold State.attribExport; try dsimp only
  repeat' split
  all_goals first | done | simp (maxDischargeDepth := 60) (decide := true) [hK, h0, h1, h2, h3, h4, h5, h6, h7, h8, h9, h10, h11, h43]

@[simp] theorem State.imported_same {m0 : Nat → Bool} {t0 : State} {s : State} (c : Fin 4) (n : Nat) (hK : Same m0 t0 s)
    (h0 : m0 0 = false) (h1 : m0 1 = false) (h2 : m0 2 = false) (h3 : m0 3 = false) (h4 : m0 4 = false) (h5 : m0 5 = false) (h6 : m0 6 = false) (h7 : m0 7 = false) (h8 : m0 8 = false) (h9 : m0 9 = false) (h10 : m0 10 = false) (h11 : m0 11 = false) (h21 : m0 21 = false) (h24 : m0 24 = false) (h26 : m0 26 = false) (h28 : m0 28 = false) (h32 : m0 32 = false) (h34 : m0 34 = false) (h35 : m0 35 = false) (h36 : m0 36 = false) (h39 : m0 39 = false) (h43 : m0 43 = false) :
    Same m0 t0 (State.imported s c n) := by
  unfold State.imported; try dsimp only
  repeat' split
  all_goals first | done | simp (maxDischargeDepth := 60) (decide := true) [hK, h0, h1, h2, h3, h4, h5, h6, h7, h8, h9, h10, h11, h21, h24, h26, h28, h32, h34, h35, h36, h39, h43]

@[simp] theorem State.exported_same {m0 : Nat → Bool} {t0 : State} {s : State} (c : Fin 4) (n : Nat) (hK : Same m0 t0 s)
    (h0 : m0 0 = false) (h1 : m0 1 = false) (h2 : m0 2 = false) (h3 : m0 3 = false) (h4 : m0 4 = false) (h5 : m0 5 = false) (h6 : m0 6 = false) (h7 : m0 7 = false) (h8 : m0 8 = false) (h9 : m0 9 = false) (h10 : m0 10 = false) (h11 : m0 11 = false) (h43 : m0 43 = false) :
    Same m0 t0 (State.exported s c n) := by
  unfold State.exported; try dsimp only
  repeat' split
  all_goals first | done | simp (maxDischargeDepth := 60) (decide := true) [hK, h0, h1, h2, h3, h4, h5, h6, h7, h8, h9, h10, h11, h43]

@[simp] theorem State.startRecord_same {m0 : Nat → Bool} {t0 : State} {s : State} (r : LegalReq) (c : Fin 4) (hK : Same m0 t0 s)
    (h7 : m0 7 = false) (h8 : m0 8 = false) (h24 : m0 24 = false) (h39 : m0 39 = false) (h42 : m0 42 = false) (h43 : m0 43 = false) :
    Same m0 t0 (State.startRecord s r c) := by
  unfold State.startRecord; try dsimp only
  repeat' split
  all_goals first | done | simp (maxDischargeDepth := 60) (decide := true) [hK, h7, h8, h24, h39, h42, h43]

@[simp] theorem State.endRecord_same {m0 : Nat → Bool} {t0 : State} {s : State} (r : LegalReq) (c : Fin 4) (hK : Same m0 t0 s)
    (h7 : m0 7 = false) (h8 : m0 8 = false) (h21 : m0 21 = false) (h24 : m0 24 = false) (h39 : m0 39 = false) (h42 : m0 42 = false) (h43 : m0 43 = false) :
    Same m0 t0 (State.endRecord s r c) := by
  unfold State.endRecord; dsimp only
  refine State.stopDone_same _ _ ?_ h21
  split
  all_goals simp (maxDischargeDepth := 60) (decide := true) [hK, h7, h8, h21, h24, h39, h42, h43]

@[simp] theorem State.recordWritten_same {m0 : Nat → Bool} {t0 : State} {s : State} (hK : Same m0 t0 s)
    (h7 : m0 7 = false) (h8 : m0 8 = false) (h21 : m0 21 = false) (h24 : m0 24 = false) (h39 : m0 39 = false) (h42 : m0 42 = false) (h43 : m0 43 = false) :
    Same m0 t0 (State.recordWritten s) := by
  unfold State.recordWritten; try dsimp only
  repeat' split
  all_goals first | done | simp (maxDischargeDepth := 60) (decide := true) [hK, h7, h8, h21, h24, h39, h42, h43]

/-! ## Machine/Cooling.lean -/

@[simp] theorem State.refreshSensors_same {m0 : Nat → Bool} {t0 : State} {s : State} (o : Fin 4) (hK : Same m0 t0 s)
    (h5 : m0 5 = false) (h6 : m0 6 = false) (h7 : m0 7 = false) (h8 : m0 8 = false) (h20 : m0 20 = false) (h24 : m0 24 = false) :
    Same m0 t0 (State.refreshSensors s o) := by
  unfold State.refreshSensors; try dsimp only
  repeat' split
  all_goals first | done | simp (maxDischargeDepth := 60) (decide := true) [hK, h5, h6, h7, h8, h20, h24]

@[simp] theorem State.setCool_same {m0 : Nat → Bool} {t0 : State} {s : State} (o : Fin 4) (c : Cool) (hK : Same m0 t0 s)
    (h35 : m0 35 = false) :
    Same m0 t0 (State.setCool s o c) := by
  unfold State.setCool; try dsimp only
  repeat' split
  all_goals first | done | simp (maxDischargeDepth := 60) (decide := true) [hK, h35]

@[simp] theorem State.readInput_same {m0 : Nat → Bool} {t0 : State} {s : State} (o : Fin 4) (i : Fin 6) (mohm : Nat) (hK : Same m0 t0 s)
    (h0 : m0 0 = false) (h1 : m0 1 = false) (h2 : m0 2 = false) (h3 : m0 3 = false) (h4 : m0 4 = false) (h5 : m0 5 = false) (h6 : m0 6 = false) (h7 : m0 7 = false) (h8 : m0 8 = false) (h9 : m0 9 = false) (h10 : m0 10 = false) (h11 : m0 11 = false) (h35 : m0 35 = false) :
    Same m0 t0 (State.readInput s o i mohm) := by
  unfold State.readInput; try dsimp only
  repeat' split
  all_goals first | done | simp (maxDischargeDepth := 60) (decide := true) [hK, h0, h1, h2, h3, h4, h5, h6, h7, h8, h9, h10, h11, h35]

@[simp] theorem State.readFlow_same {m0 : Nat → Bool} {t0 : State} {s : State} (o : Fin 4) (pulses : Nat) (us : Nat) (hK : Same m0 t0 s)
    (h5 : m0 5 = false) (h6 : m0 6 = false) (h7 : m0 7 = false) (h8 : m0 8 = false) (h35 : m0 35 = false) :
    Same m0 t0 (State.readFlow s o pulses us) := by
  unfold State.readFlow; try dsimp only
  repeat' split
  all_goals first | done | simp (maxDischargeDepth := 60) (decide := true) [hK, h5, h6, h7, h8, h35]

@[simp] theorem State.startModel_same {m0 : Nat → Bool} {t0 : State} {s : State} (o : Fin 4) (e : Nat) (hK : Same m0 t0 s)
    (h35 : m0 35 = false) :
    Same m0 t0 (State.startModel s o e) := by
  unfold State.startModel; try dsimp only
  repeat' split
  all_goals first | done | simp (maxDischargeDepth := 60) (decide := true) [hK, h35]

@[simp] theorem State.putTemp_same {m0 : Nat → Bool} {t0 : State} {s : State} (k : Nat) (uK : Int) (hK : Same m0 t0 s)
    (h0 : m0 0 = false) (h1 : m0 1 = false) (h2 : m0 2 = false) (h3 : m0 3 = false) (h4 : m0 4 = false) (h5 : m0 5 = false) (h6 : m0 6 = false) (h7 : m0 7 = false) (h8 : m0 8 = false) (h9 : m0 9 = false) (h10 : m0 10 = false) (h11 : m0 11 = false) :
    Same m0 t0 (State.putTemp s k uK) := by
  unfold State.putTemp; try dsimp only
  repeat' split
  all_goals first | done | simp (maxDischargeDepth := 60) (decide := true) [hK, h0, h1, h2, h3, h4, h5, h6, h7, h8, h9, h10, h11]

@[simp] theorem State.refreshPCeil_same {m0 : Nat → Bool} {t0 : State} {s : State} (o : Fin 4) (hK : Same m0 t0 s)
    (h5 : m0 5 = false) (h6 : m0 6 = false) (h7 : m0 7 = false) (h8 : m0 8 = false) :
    Same m0 t0 (State.refreshPCeil s o) := by
  unfold State.refreshPCeil; try dsimp only
  repeat' split
  all_goals first | done | simp (maxDischargeDepth := 60) (decide := true) [hK, h5, h6, h7, h8]

@[simp] theorem State.stepCeiling_same {m0 : Nat → Bool} {t0 : State} {s : State} (o : Fin 4) (td : Int) (hK : Same m0 t0 s)
    (h5 : m0 5 = false) (h6 : m0 6 = false) (h7 : m0 7 = false) (h8 : m0 8 = false) :
    Same m0 t0 (State.stepCeiling s o td) := by
  unfold State.stepCeiling; try dsimp only
  repeat' split
  all_goals first | done | simp (maxDischargeDepth := 60) (decide := true) [hK, h5, h6, h7, h8]

@[simp] theorem State.refreshCool_same {m0 : Nat → Bool} {t0 : State} {s : State} (o : Fin 4) (hK : Same m0 t0 s)
    (h5 : m0 5 = false) (h6 : m0 6 = false) (h7 : m0 7 = false) (h8 : m0 8 = false) (h43 : m0 43 = false) :
    Same m0 t0 (State.refreshCool s o) := by
  unfold State.refreshCool; try dsimp only
  repeat' split
  all_goals first | done | simp (maxDischargeDepth := 60) (decide := true) [hK, h5, h6, h7, h8, h43]

@[simp] theorem State.pumpStep_same {m0 : Nat → Bool} {t0 : State} {s : State} (o : Fin 4) (td : Int) (hK : Same m0 t0 s)
    (h5 : m0 5 = false) (h6 : m0 6 = false) (h7 : m0 7 = false) (h8 : m0 8 = false) (h24 : m0 24 = false) (h35 : m0 35 = false) (h36 : m0 36 = false) (h43 : m0 43 = false) :
    Same m0 t0 (State.pumpStep s o td) := by
  unfold State.pumpStep; try dsimp only
  repeat' split
  all_goals first | done | simp (maxDischargeDepth := 60) (decide := true) [hK, h5, h6, h7, h8, h24, h35, h36, h43]

@[simp] theorem State.judgeRunon_same {m0 : Nat → Bool} {t0 : State} {s : State} (o : Fin 4) (td : Int) (hK : Same m0 t0 s)
    (h35 : m0 35 = false) :
    Same m0 t0 (State.judgeRunon s o td) := by
  unfold State.judgeRunon; try dsimp only
  repeat' split
  all_goals first | done | simp (maxDischargeDepth := 60) (decide := true) [hK, h35]

@[simp] theorem State.coolTrip_same {m0 : Nat → Bool} {t0 : State} {s : State} (o : Fin 4) (variant : Nat) (hK : Same m0 t0 s)
    (h0 : m0 0 = false) (h1 : m0 1 = false) (h2 : m0 2 = false) (h3 : m0 3 = false) (h4 : m0 4 = false) (h5 : m0 5 = false) (h6 : m0 6 = false) (h7 : m0 7 = false) (h8 : m0 8 = false) (h9 : m0 9 = false) (h10 : m0 10 = false) (h11 : m0 11 = false) (h21 : m0 21 = false) (h24 : m0 24 = false) (h26 : m0 26 = false) (h28 : m0 28 = false) (h32 : m0 32 = false) (h33 : m0 33 = false) (h34 : m0 34 = false) (h35 : m0 35 = false) (h36 : m0 36 = false) (h39 : m0 39 = false) (h43 : m0 43 = false) :
    Same m0 t0 (State.coolTrip s o variant) := by
  unfold State.coolTrip; try dsimp only
  repeat' split
  all_goals first | done | simp (maxDischargeDepth := 60) (decide := true) [hK, h0, h1, h2, h3, h4, h5, h6, h7, h8, h9, h10, h11, h21, h24, h26, h28, h32, h33, h34, h35, h36, h39, h43]

@[simp] theorem State.tripStep_same {m0 : Nat → Bool} {t0 : State} {s : State} (o : Fin 4) (ths : Int) (td : Int) (hK : Same m0 t0 s)
    (h0 : m0 0 = false) (h1 : m0 1 = false) (h2 : m0 2 = false) (h3 : m0 3 = false) (h4 : m0 4 = false) (h5 : m0 5 = false) (h6 : m0 6 = false) (h7 : m0 7 = false) (h8 : m0 8 = false) (h9 : m0 9 = false) (h10 : m0 10 = false) (h11 : m0 11 = false) (h21 : m0 21 = false) (h24 : m0 24 = false) (h26 : m0 26 = false) (h28 : m0 28 = false) (h32 : m0 32 = false) (h33 : m0 33 = false) (h34 : m0 34 = false) (h35 : m0 35 = false) (h36 : m0 36 = false) (h39 : m0 39 = false) (h43 : m0 43 = false) :
    Same m0 t0 (State.tripStep s o ths td) := by
  unfold State.tripStep; try dsimp only
  repeat' split
  all_goals first | done | simp (maxDischargeDepth := 60) (decide := true) [hK, h0, h1, h2, h3, h4, h5, h6, h7, h8, h9, h10, h11, h21, h24, h26, h28, h32, h33, h34, h35, h36, h39, h43]

@[simp] theorem State.coolRebind_same {m0 : Nat → Bool} {t0 : State} {s : State} (o : Fin 4) (hK : Same m0 t0 s)
    (h30 : m0 30 = false) :
    Same m0 t0 (State.coolRebind s o) := by
  unfold State.coolRebind; try dsimp only
  repeat' split
  all_goals first | done | simp (maxDischargeDepth := 60) (decide := true) [hK, h30]

@[simp] theorem State.coolAfter_same {m0 : Nat → Bool} {t0 : State} {s : State} (o : Fin 4) (m : Int × Int × Int × Int) (hK : Same m0 t0 s)
    (h0 : m0 0 = false) (h1 : m0 1 = false) (h2 : m0 2 = false) (h3 : m0 3 = false) (h4 : m0 4 = false) (h5 : m0 5 = false) (h6 : m0 6 = false) (h7 : m0 7 = false) (h8 : m0 8 = false) (h9 : m0 9 = false) (h10 : m0 10 = false) (h11 : m0 11 = false) (h21 : m0 21 = false) (h24 : m0 24 = false) (h26 : m0 26 = false) (h28 : m0 28 = false) (h32 : m0 32 = false) (h33 : m0 33 = false) (h34 : m0 34 = false) (h35 : m0 35 = false) (h36 : m0 36 = false) (h39 : m0 39 = false) (h43 : m0 43 = false) :
    Same m0 t0 (State.coolAfter s o m) := by
  unfold State.coolAfter; try dsimp only
  repeat' split
  all_goals first | done | simp (maxDischargeDepth := 60) (decide := true) [hK, h0, h1, h2, h3, h4, h5, h6, h7, h8, h9, h10, h11, h21, h24, h26, h28, h32, h33, h34, h35, h36, h39, h43]

@[simp] theorem State.traceCool_same {m0 : Nat → Bool} {t0 : State} {s : State} (o : Fin 4) (e : Fin 38) (hK : Same m0 t0 s)
    (h24 : m0 24 = false) :
    Same m0 t0 (State.traceCool s o e) := by
  unfold State.traceCool; try dsimp only
  repeat' split
  all_goals first | done | simp (maxDischargeDepth := 60) (decide := true) [hK, h24]

@[simp] theorem State.coolingStep_same {m0 : Nat → Bool} {t0 : State} {s : State} (o : Fin 4) (ohms : List Nat) (pulses : Nat) (us : Nat) (ns : Nat) (hK : Same m0 t0 s)
    (h0 : m0 0 = false) (h1 : m0 1 = false) (h2 : m0 2 = false) (h3 : m0 3 = false) (h4 : m0 4 = false) (h5 : m0 5 = false) (h6 : m0 6 = false) (h7 : m0 7 = false) (h8 : m0 8 = false) (h9 : m0 9 = false) (h10 : m0 10 = false) (h11 : m0 11 = false) (h20 : m0 20 = false) (h21 : m0 21 = false) (h24 : m0 24 = false) (h26 : m0 26 = false) (h28 : m0 28 = false) (h30 : m0 30 = false) (h32 : m0 32 = false) (h33 : m0 33 = false) (h34 : m0 34 = false) (h35 : m0 35 = false) (h36 : m0 36 = false) (h39 : m0 39 = false) (h43 : m0 43 = false) :
    Same m0 t0 (State.coolingStep s o ohms pulses us ns) := by
  unfold State.coolingStep
  split
  · exact hK
  · dsimp only
    apply State.coolRebind_same <;> try with_reducible assumption
    apply State.traceCool_same <;> try with_reducible assumption
    apply State.coolAfter_same <;> try with_reducible assumption
    simp (maxDischargeDepth := 60) (decide := true) [hK, h0, h1, h2, h3, h4, h5, h6, h7, h8, h9, h10, h11, h20, h21, h24, h26, h28, h30, h32, h33, h34, h35, h36, h39, h43]

@[simp] theorem State.coolSilent_same {m0 : Nat → Bool} {t0 : State} {s : State} (o : Fin 4) (hK : Same m0 t0 s)
    (h0 : m0 0 = false) (h1 : m0 1 = false) (h2 : m0 2 = false) (h3 : m0 3 = false) (h4 : m0 4 = false) (h5 : m0 5 = false) (h6 : m0 6 = false) (h7 : m0 7 = false) (h8 : m0 8 = false) (h9 : m0 9 = false) (h10 : m0 10 = false) (h11 : m0 11 = false) (h21 : m0 21 = false) (h24 : m0 24 = false) (h26 : m0 26 = false) (h27 : m0 27 = false) (h28 : m0 28 = false) (h30 : m0 30 = false) (h32 : m0 32 = false) (h33 : m0 33 = false) (h34 : m0 34 = false) (h35 : m0 35 = false) (h36 : m0 36 = false) (h39 : m0 39 = false) (h43 : m0 43 = false) :
    Same m0 t0 (State.coolSilent s o) := by
  unfold State.coolSilent; try dsimp only
  repeat' split
  all_goals first | done | simp (maxDischargeDepth := 60) (decide := true) [hK, h0, h1, h2, h3, h4, h5, h6, h7, h8, h9, h10, h11, h21, h24, h26, h27, h28, h30, h32, h33, h34, h35, h36, h39, h43]

@[simp] theorem State.runonEnd_same {m0 : Nat → Bool} {t0 : State} {s : State} (o : Fin 4) (hK : Same m0 t0 s)
    (h5 : m0 5 = false) (h6 : m0 6 = false) (h7 : m0 7 = false) (h8 : m0 8 = false) (h35 : m0 35 = false) (h43 : m0 43 = false) :
    Same m0 t0 (State.runonEnd s o) := by
  unfold State.runonEnd; try dsimp only
  repeat' split
  all_goals first | done | simp (maxDischargeDepth := 60) (decide := true) [hK, h5, h6, h7, h8, h35, h43]

@[simp] theorem State.runonTick_same {m0 : Nat → Bool} {t0 : State} {s : State} (hK : Same m0 t0 s)
    (h5 : m0 5 = false) (h6 : m0 6 = false) (h7 : m0 7 = false) (h8 : m0 8 = false) (h35 : m0 35 = false) (h43 : m0 43 = false) :
    Same m0 t0 (State.runonTick s) := by
  unfold State.runonTick; try dsimp only
  repeat' split
  all_goals first | done | simp (maxDischargeDepth := 60) (decide := true) [hK, h5, h6, h7, h8, h35, h43]

@[simp] theorem State.coolHalt_same {m0 : Nat → Bool} {t0 : State} {s : State} (hK : Same m0 t0 s)
    (h5 : m0 5 = false) (h6 : m0 6 = false) (h7 : m0 7 = false) (h8 : m0 8 = false) (h24 : m0 24 = false) (h35 : m0 35 = false) (h36 : m0 36 = false) (h43 : m0 43 = false) :
    Same m0 t0 (State.coolHalt s) := by
  unfold State.coolHalt; try dsimp only
  repeat' split
  all_goals first | done | simp (maxDischargeDepth := 60) (decide := true) [hK, h5, h6, h7, h8, h24, h35, h36, h43]

@[simp] theorem State.coolArrived_same {m0 : Nat → Bool} {t0 : State} {s : State} (hK : Same m0 t0 s)
    (h5 : m0 5 = false) (h6 : m0 6 = false) (h7 : m0 7 = false) (h8 : m0 8 = false) (h24 : m0 24 = false) (h36 : m0 36 = false) (h43 : m0 43 = false) :
    Same m0 t0 (State.coolArrived s) := by
  unfold State.coolArrived; try dsimp only
  repeat' split
  all_goals first | done | simp (maxDischargeDepth := 60) (decide := true) [hK, h5, h6, h7, h8, h24, h36, h43]

@[simp] theorem State.enterCheck_same {m0 : Nat → Bool} {t0 : State} {s : State} (o : Fin 4) (hK : Same m0 t0 s)
    (h0 : m0 0 = false) (h1 : m0 1 = false) (h2 : m0 2 = false) (h3 : m0 3 = false) (h4 : m0 4 = false) (h5 : m0 5 = false) (h6 : m0 6 = false) (h7 : m0 7 = false) (h8 : m0 8 = false) (h9 : m0 9 = false) (h10 : m0 10 = false) (h11 : m0 11 = false) (h21 : m0 21 = false) (h24 : m0 24 = false) (h26 : m0 26 = false) (h28 : m0 28 = false) (h32 : m0 32 = false) (h33 : m0 33 = false) (h34 : m0 34 = false) (h35 : m0 35 = false) (h36 : m0 36 = false) (h39 : m0 39 = false) (h43 : m0 43 = false) :
    Same m0 t0 (State.enterCheck s o) := by
  unfold State.enterCheck; try dsimp only
  repeat' split
  all_goals first | done | simp (maxDischargeDepth := 60) (decide := true) [hK, h0, h1, h2, h3, h4, h5, h6, h7, h8, h9, h10, h11, h21, h24, h26, h28, h32, h33, h34, h35, h36, h39, h43]

/-! ## Machine/Events.lean -/

@[simp] theorem State.levelNoted_same {m0 : Nat → Bool} {t0 : State} {s : State} (before : Nat) (hK : Same m0 t0 s)
    (h24 : m0 24 = false) :
    Same m0 t0 (State.levelNoted s before) := by
  unfold State.levelNoted; try dsimp only
  repeat' split
  all_goals first | done | simp (maxDischargeDepth := 60) (decide := true) [hK, h24]

@[simp] theorem State.loseLocal_same {m0 : Nat → Bool} {t0 : State} {s : State} (loss : Nat × Nat × Nat) (reason : Nat) (hK : Same m0 t0 s)
    (h24 : m0 24 = false) :
    Same m0 t0 (State.loseLocal s loss reason) := by
  unfold State.loseLocal; try dsimp only
  repeat' split
  all_goals first | done | simp (maxDischargeDepth := 60) (decide := true) [hK, h24]

@[simp] theorem State.setPool_same {m0 : Nat → Bool} {t0 : State} {s : State} (l : List Packet) (hK : Same m0 t0 s)
    (h24 : m0 24 = false) :
    Same m0 t0 (State.setPool s l) := by
  unfold State.setPool; try dsimp only
  repeat' split
  all_goals first | done | simp (maxDischargeDepth := 60) (decide := true) [hK, h24]

@[simp] theorem State.countTraceLost_same {m0 : Nat → Bool} {t0 : State} {s : State} (words : Nat) (hK : Same m0 t0 s)
     :
    Same m0 t0 (State.countTraceLost s words) := by
  unfold State.countTraceLost; try dsimp only
  repeat' split
  all_goals first | done | simp (maxDischargeDepth := 60) (decide := true) [hK]

@[simp] theorem State.displace_same {m0 : Nat → Bool} {t0 : State} (f n : Nat) {s : State} (hK : Same m0 t0 s)
    (h24 : m0 24 = false) :
    Same m0 t0 (State.displace f n s) := by
  induction f generalizing s with
  | zero => exact hK
  | succ f ih =>
    unfold State.displace
    repeat' split
    all_goals first | exact hK | exact ih (by simp (maxDischargeDepth := 60) (decide := true) [hK, h24])

@[simp] theorem State.enqueue_same {m0 : Nat → Bool} {t0 : State} {s : State} (p : Packet) (hK : Same m0 t0 s)
    (h24 : m0 24 = false) :
    Same m0 t0 (State.enqueue s p) := by
  unfold State.enqueue; try dsimp only
  repeat' split
  all_goals first | done | simp (maxDischargeDepth := 60) (decide := true) [hK, h24]

@[simp] theorem State.enqueuePen_same {m0 : Nat → Bool} {t0 : State} {s : State} (p : Packet) (hK : Same m0 t0 s)
    (h24 : m0 24 = false) :
    Same m0 t0 (State.enqueuePen s p) := by
  unfold State.enqueuePen; try dsimp only
  repeat' split
  all_goals first | done | simp (maxDischargeDepth := 60) (decide := true) [hK, h24]

@[simp] theorem State.emitGap_same {m0 : Nat → Bool} {t0 : State} {s : State} (hK : Same m0 t0 s)
    (h24 : m0 24 = false) :
    Same m0 t0 (State.emitGap s) := by
  unfold State.emitGap; try dsimp only
  repeat' split
  all_goals first | done | simp (maxDischargeDepth := 60) (decide := true) [hK, h24]

@[simp] theorem State.emitDeferred_same {m0 : Nat → Bool} {t0 : State} (f : Nat) {s : State} (hK : Same m0 t0 s)
    (h24 : m0 24 = false) :
    Same m0 t0 (State.emitDeferred f s) := by
  induction f generalizing s with
  | zero => unfold State.emitDeferred; simp (maxDischargeDepth := 60) (decide := true) [hK, h24]
  | succ f ih =>
    unfold State.emitDeferred; dsimp only
    repeat' split
    all_goals first | exact hK | exact ih (by simp (maxDischargeDepth := 60) (decide := true) [hK, h24]) | simp (maxDischargeDepth := 60) (decide := true) [hK, h24]

@[simp] theorem State.levelFell_same {m0 : Nat → Bool} {t0 : State} {s : State} (hK : Same m0 t0 s)
    (h24 : m0 24 = false) :
    Same m0 t0 (State.levelFell s) := by
  unfold State.levelFell; try dsimp only
  repeat' split
  all_goals first | done | simp (maxDischargeDepth := 60) (decide := true) [hK, h24]

@[simp] theorem State.emitRingDeferred_same {m0 : Nat → Bool} {t0 : State} (f : Nat) {s : State} (hK : Same m0 t0 s)
    (h24 : m0 24 = false) :
    Same m0 t0 (State.emitRingDeferred f s) := by
  induction f generalizing s with
  | zero => exact hK
  | succ f ih =>
    unfold State.emitRingDeferred
    repeat' split
    all_goals first | exact hK | exact ih (by simp (maxDischargeDepth := 60) (decide := true) [hK, h24])

@[simp] theorem State.admitPen_same {m0 : Nat → Bool} {t0 : State} {s : State} (p : Packet) (hK : Same m0 t0 s)
    (h24 : m0 24 = false) :
    Same m0 t0 (State.admitPen s p) := by
  unfold State.admitPen; try dsimp only
  repeat' split
  all_goals first | done | simp (maxDischargeDepth := 60) (decide := true) [hK, h24]

@[simp] theorem State.admitTrace_same {m0 : Nat → Bool} {t0 : State} {s : State} (p : Packet) (hK : Same m0 t0 s)
    (h24 : m0 24 = false) :
    Same m0 t0 (State.admitTrace s p) := by
  unfold State.admitTrace; try dsimp only
  repeat' split
  all_goals first | done | simp (maxDischargeDepth := 60) (decide := true) [hK, h24]

@[simp] theorem State.packetWhole_same {m0 : Nat → Bool} {t0 : State} {s : State} (hK : Same m0 t0 s)
    (h24 : m0 24 = false) :
    Same m0 t0 (State.packetWhole s) := by
  unfold State.packetWhole; try dsimp only
  repeat' split
  all_goals first | done | simp (maxDischargeDepth := 60) (decide := true) [hK, h24]

@[simp] theorem State.flushAll_same {m0 : Nat → Bool} {t0 : State} {s : State} (reason : Nat) (hK : Same m0 t0 s)
    (h24 : m0 24 = false) :
    Same m0 t0 (State.flushAll s reason).1 := by
  unfold State.flushAll; try dsimp only
  repeat' split
  all_goals first | done | simp (maxDischargeDepth := 60) (decide := true) [hK, h24]

@[simp] theorem State.flushAtBoundary_same {m0 : Nat → Bool} {t0 : State} {s : State} (hK : Same m0 t0 s)
    (h21 : m0 21 = false) (h24 : m0 24 = false) :
    Same m0 t0 (State.flushAtBoundary s) := by
  unfold State.flushAtBoundary; try dsimp only
  repeat' split
  all_goals first | done | simp (maxDischargeDepth := 60) (decide := true) [hK, h21, h24]

@[simp] theorem State.atBoundary_same {m0 : Nat → Bool} {t0 : State} {s : State} (hK : Same m0 t0 s)
    (h21 : m0 21 = false) (h24 : m0 24 = false) :
    Same m0 t0 (State.atBoundary s) := by
  unfold State.atBoundary; try dsimp only
  repeat' split
  all_goals first | done | simp (maxDischargeDepth := 60) (decide := true) [hK, h21, h24]

@[simp] theorem State.underrun_same {m0 : Nat → Bool} {t0 : State} {s : State} (hK : Same m0 t0 s)
    (h24 : m0 24 = false) :
    Same m0 t0 (State.underrun s) := by
  unfold State.underrun; try dsimp only
  repeat' split
  all_goals first | done | simp (maxDischargeDepth := 60) (decide := true) [hK, h24]

@[simp] theorem State.popWords_same {m0 : Nat → Bool} {t0 : State} {s : State} (n : Nat) (hK : Same m0 t0 s)
    (h21 : m0 21 = false) (h24 : m0 24 = false) :
    Same m0 t0 (State.popWords s n) := by
  unfold State.popWords; try dsimp only
  repeat' split
  all_goals first | done | simp (maxDischargeDepth := 60) (decide := true) [hK, h21, h24]

@[simp] theorem State.readWord_same {m0 : Nat → Bool} {t0 : State} {s : State} (src : Src) (hK : Same m0 t0 s)
    (h21 : m0 21 = false) (h24 : m0 24 = false) :
    Same m0 t0 (State.readWord s src).1 := by
  unfold State.readWord; try dsimp only
  repeat' split
  all_goals first | done | simp (maxDischargeDepth := 60) (decide := true) [hK, h21, h24]

@[simp] theorem State.readPacket_same {m0 : Nat → Bool} {t0 : State} {s : State} (src : Src) (hK : Same m0 t0 s)
    (h21 : m0 21 = false) (h24 : m0 24 = false) :
    Same m0 t0 (State.readPacket s src).1 := by
  unfold State.readPacket; try dsimp only
  repeat' split
  all_goals first | done | simp (maxDischargeDepth := 60) (decide := true) [hK, h21, h24]

@[simp] theorem State.eqClear_same {m0 : Nat → Bool} {t0 : State} {s : State} (v : Nat) (hK : Same m0 t0 s)
    (h24 : m0 24 = false) :
    Same m0 t0 (State.eqClear s v) := by
  unfold State.eqClear; try dsimp only
  repeat' split
  all_goals first | done | simp (maxDischargeDepth := 60) (decide := true) [hK, h24]

@[simp] theorem State.dropRest_same {m0 : Nat → Bool} {t0 : State} {s : State} (hK : Same m0 t0 s)
    (h21 : m0 21 = false) (h24 : m0 24 = false) :
    Same m0 t0 (State.dropRest s) := by
  unfold State.dropRest; try dsimp only
  repeat' split
  all_goals first | done | simp (maxDischargeDepth := 60) (decide := true) [hK, h21, h24]

@[simp] theorem State.flush_same {m0 : Nat → Bool} {t0 : State} {s : State} (hK : Same m0 t0 s)
    (h21 : m0 21 = false) (h24 : m0 24 = false) :
    Same m0 t0 (State.flush s) := by
  unfold State.flush; try dsimp only
  repeat' split
  all_goals first | done | simp (maxDischargeDepth := 60) (decide := true) [hK, h21, h24]

@[simp] theorem State.queueFlush_same {m0 : Nat → Bool} {t0 : State} {s : State} (src : Src) (arg : Nat) (hK : Same m0 t0 s)
    (h21 : m0 21 = false) (h24 : m0 24 = false) :
    Same m0 t0 (State.queueFlush s src arg) := by
  unfold State.queueFlush; try dsimp only
  repeat' split
  all_goals first | done | simp (maxDischargeDepth := 60) (decide := true) [hK, h21, h24]

@[simp] theorem State.toTraceBox_same {m0 : Nat → Bool} {t0 : State} {s : State} (p : Packet) (hK : Same m0 t0 s)
    (h24 : m0 24 = false) :
    Same m0 t0 (State.toTraceBox s p) := by
  unfold State.toTraceBox; try dsimp only
  repeat' split
  all_goals first | done | simp (maxDischargeDepth := 60) (decide := true) [hK, h24]

@[simp] theorem State.traceRecord_same {m0 : Nat → Bool} {t0 : State} {s : State} (kind : Nat) (inst : Nat) (reference : Nat) (samples : List Nat) (hK : Same m0 t0 s)
    (h24 : m0 24 = false) :
    Same m0 t0 (State.traceRecord s kind inst reference samples) := by
  unfold State.traceRecord; try dsimp only
  repeat' split
  all_goals first | done | simp (maxDischargeDepth := 60) (decide := true) [hK, h24]

@[simp] theorem State.traceRaise_same {m0 : Nat → Bool} {t0 : State} {s : State} (kind : Nat) (inst : Nat) (message : Nat) (length : Nat) (hK : Same m0 t0 s)
    (h24 : m0 24 = false) :
    Same m0 t0 (State.traceRaise s kind inst message length) := by
  unfold State.traceRaise; try dsimp only
  repeat' split
  all_goals first | done | simp (maxDischargeDepth := 60) (decide := true) [hK, h24]

@[simp] theorem State.coalWindowEnd_same {m0 : Nat → Bool} {t0 : State} {s : State} (source : Nat) (event : Nat) (hK : Same m0 t0 s)
    (h24 : m0 24 = false) :
    Same m0 t0 (State.coalWindowEnd s source event) := by
  unfold State.coalWindowEnd; try dsimp only
  repeat' split
  all_goals first | done | simp (maxDischargeDepth := 60) (decide := true) [hK, h24]

@[simp] theorem State.gapDue_same {m0 : Nat → Bool} {t0 : State} {s : State} (hK : Same m0 t0 s)
    (h24 : m0 24 = false) :
    Same m0 t0 (State.gapDue s) := by
  unfold State.gapDue; try dsimp only
  repeat' split
  all_goals first | done | simp (maxDischargeDepth := 60) (decide := true) [hK, h24]

@[simp] theorem State.tokenGain_same {m0 : Nat → Bool} {t0 : State} {s : State} (hK : Same m0 t0 s)
     :
    Same m0 t0 (State.tokenGain s) := by
  unfold State.tokenGain; try dsimp only
  repeat' split
  all_goals first | done | simp (maxDischargeDepth := 60) (decide := true) [hK]

@[simp] theorem State.outboxSend_same {m0 : Nat → Bool} {t0 : State} {s : State} (waitedMs : Nat) (hK : Same m0 t0 s)
    (h8 : m0 8 = false) (h24 : m0 24 = false) (h33 : m0 33 = false) (h40 : m0 40 = false) :
    Same m0 t0 (State.outboxSend s waitedMs) := by
  unfold State.outboxSend; try dsimp only
  repeat' split
  all_goals first | done | simp (maxDischargeDepth := 60) (decide := true) [hK, h8, h24, h33, h40]

@[simp] theorem State.traceSend_same {m0 : Nat → Bool} {t0 : State} {s : State} (hK : Same m0 t0 s)
    (h8 : m0 8 = false) (h24 : m0 24 = false) (h33 : m0 33 = false) (h40 : m0 40 = false) :
    Same m0 t0 (State.traceSend s) := by
  unfold State.traceSend; try dsimp only
  repeat' split
  all_goals first | done | simp (maxDischargeDepth := 60) (decide := true) [hK, h8, h24, h33, h40]

@[simp] theorem State.remoteRecord_same {m0 : Nat → Bool} {t0 : State} {s : State} (origin : Nat) (words : List Nat) (hK : Same m0 t0 s)
    (h24 : m0 24 = false) :
    Same m0 t0 (State.remoteRecord s origin words) := by
  unfold State.remoteRecord; try dsimp only
  repeat' split
  all_goals first | done | simp (maxDischargeDepth := 60) (decide := true) [hK, h24]

@[simp] theorem State.remotePennants_same {m0 : Nat → Bool} {t0 : State} (n origin : Nat) (bs : List Byte) {s : State} (hK : Same m0 t0 s)
    (h24 : m0 24 = false) :
    Same m0 t0 (State.remotePennants n origin bs s) := by
  induction n generalizing s bs with
  | zero => exact hK
  | succ f ih => exact ih _ (by simp (maxDischargeDepth := 60) (decide := true) [hK, h24])

@[simp] theorem State.remoteTraces_same {m0 : Nat → Bool} {t0 : State} (n origin : Nat) (bs : List Byte) {s : State} (hK : Same m0 t0 s)
    (h24 : m0 24 = false) :
    Same m0 t0 (State.remoteTraces n origin bs s) := by
  induction n generalizing s bs with
  | zero => exact hK
  | succ f ih =>
    unfold State.remoteTraces
    split
    · exact hK
    · exact ih _ (by simp (maxDischargeDepth := 60) (decide := true) [hK, h24])

@[simp] theorem State.eventsCommitted_same {m0 : Nat → Bool} {t0 : State} {s : State} (oldMode : Nat) (hK : Same m0 t0 s)
    (h24 : m0 24 = false) :
    Same m0 t0 (State.eventsCommitted s oldMode) := by
  unfold State.eventsCommitted; try dsimp only
  repeat' split
  all_goals first | done | simp (maxDischargeDepth := 60) (decide := true) [hK, h24]

/-! ## Machine/Ring.lean -/

@[simp] theorem State.withRing_same {m0 : Nat → Bool} {t0 : State} {s : State} (r : RingState) (hK : Same m0 t0 s)
    (h33 : m0 33 = false) :
    Same m0 t0 (State.withRing s r) := by
  unfold State.withRing; try dsimp only
  repeat' split
  all_goals first | done | simp (maxDischargeDepth := 60) (decide := true) [hK, h33]

@[simp] theorem State.refreshRoster_same {m0 : Nat → Bool} {t0 : State} {s : State} (hK : Same m0 t0 s)
    (h3 : m0 3 = false) (h4 : m0 4 = false) (h5 : m0 5 = false) (h6 : m0 6 = false) (h7 : m0 7 = false) (h8 : m0 8 = false) :
    Same m0 t0 (State.refreshRoster s) := by
  unfold State.refreshRoster; try dsimp only
  repeat' split
  all_goals first | done | simp (maxDischargeDepth := 60) (decide := true) [hK, h3, h4, h5, h6, h7, h8]

@[simp] theorem State.becomeMember_same {m0 : Nat → Bool} {t0 : State} {s : State} (hK : Same m0 t0 s)
    (h4 : m0 4 = false) (h5 : m0 5 = false) (h6 : m0 6 = false) (h7 : m0 7 = false) (h8 : m0 8 = false) (h32 : m0 32 = false) :
    Same m0 t0 (State.becomeMember s) := by
  unfold State.becomeMember; try dsimp only
  repeat' split
  all_goals first | done | simp (maxDischargeDepth := 60) (decide := true) [hK, h4, h5, h6, h7, h8, h32]

@[simp] theorem State.dropOwn_same {m0 : Nat → Bool} {t0 : State} {s : State} (hK : Same m0 t0 s)
    (h33 : m0 33 = false) :
    Same m0 t0 (State.dropOwn s) := by
  unfold State.dropOwn; try dsimp only
  repeat' split
  all_goals first | done | simp (maxDischargeDepth := 60) (decide := true) [hK, h33]

@[simp] theorem State.learnRemoved_same {m0 : Nat → Bool} {t0 : State} {s : State} (hK : Same m0 t0 s)
    (h3 : m0 3 = false) (h4 : m0 4 = false) (h5 : m0 5 = false) (h6 : m0 6 = false) (h7 : m0 7 = false) (h8 : m0 8 = false) (h32 : m0 32 = false) (h33 : m0 33 = false) :
    Same m0 t0 (State.learnRemoved s) := by
  unfold State.learnRemoved; try dsimp only
  repeat' split
  all_goals first | done | simp (maxDischargeDepth := 60) (decide := true) [hK, h3, h4, h5, h6, h7, h8, h32, h33]

@[simp] theorem State.applyChange_same {m0 : Nat → Bool} {t0 : State} {s : State} (c : Change) (hK : Same m0 t0 s)
    (h3 : m0 3 = false) (h4 : m0 4 = false) (h5 : m0 5 = false) (h6 : m0 6 = false) (h7 : m0 7 = false) (h8 : m0 8 = false) (h32 : m0 32 = false) (h33 : m0 33 = false) :
    Same m0 t0 (State.applyChange s c) := by
  unfold State.applyChange; try dsimp only
  repeat' split
  all_goals first | done | simp (maxDischargeDepth := 60) (decide := true) [hK, h3, h4, h5, h6, h7, h8, h32, h33]

@[simp] theorem State.applyChanges_same {m0 : Nat → Bool} {t0 : State} {s : State} (hK : Same m0 t0 s)
    (h3 : m0 3 = false) (h4 : m0 4 = false) (h5 : m0 5 = false) (h6 : m0 6 = false) (h7 : m0 7 = false) (h8 : m0 8 = false) (h20 : m0 20 = false) (h32 : m0 32 = false) (h33 : m0 33 = false) :
    Same m0 t0 (State.applyChanges s) := by
  unfold State.applyChanges; try dsimp only
  repeat' split
  all_goals first | done | simp (maxDischargeDepth := 60) (decide := true) [hK, h3, h4, h5, h6, h7, h8, h20, h32, h33]

@[simp] theorem State.refused_same {m0 : Nat → Bool} {t0 : State} {s : State} (c : Change) (hK : Same m0 t0 s)
    (h4 : m0 4 = false) (h5 : m0 5 = false) (h6 : m0 6 = false) (h7 : m0 7 = false) (h8 : m0 8 = false) (h24 : m0 24 = false) :
    Same m0 t0 (State.refused s c) := by
  unfold State.refused; try dsimp only
  repeat' split
  all_goals first | done | simp (maxDischargeDepth := 60) (decide := true) [hK, h4, h5, h6, h7, h8, h24]

@[simp] theorem State.noteChanges_same {m0 : Nat → Bool} {t0 : State} {s : State} (cs : List Change) (hK : Same m0 t0 s)
    (h4 : m0 4 = false) (h5 : m0 5 = false) (h6 : m0 6 = false) (h7 : m0 7 = false) (h8 : m0 8 = false) (h24 : m0 24 = false) (h33 : m0 33 = false) :
    Same m0 t0 (State.noteChanges s cs) := by
  unfold State.noteChanges; try dsimp only
  repeat' split
  all_goals first | done | simp (maxDischargeDepth := 60) (decide := true) [hK, h4, h5, h6, h7, h8, h24, h33]

@[simp] theorem State.openWindow_same {m0 : Nat → Bool} {t0 : State} {s : State} (hK : Same m0 t0 s)
    (h33 : m0 33 = false) :
    Same m0 t0 (State.openWindow s) := by
  unfold State.openWindow; try dsimp only
  repeat' split
  all_goals first | done | simp (maxDischargeDepth := 60) (decide := true) [hK, h33]

@[simp] theorem State.noteJoining_same {m0 : Nat → Bool} {t0 : State} {s : State} (hK : Same m0 t0 s)
    (h4 : m0 4 = false) (h5 : m0 5 = false) (h6 : m0 6 = false) (h7 : m0 7 = false) (h8 : m0 8 = false) :
    Same m0 t0 (State.noteJoining s) := by
  unfold State.noteJoining; try dsimp only
  repeat' split
  all_goals first | done | simp (maxDischargeDepth := 60) (decide := true) [hK, h4, h5, h6, h7, h8]

@[simp] theorem State.notePeriod_same {m0 : Nat → Bool} {t0 : State} {s : State} (period : Nat) (hK : Same m0 t0 s)
    (h24 : m0 24 = false) (h33 : m0 33 = false) :
    Same m0 t0 (State.notePeriod s period) := by
  unfold State.notePeriod; try dsimp only
  repeat' split
  all_goals first | done | simp (maxDischargeDepth := 60) (decide := true) [hK, h24, h33]

@[simp] theorem State.ownMark_same {m0 : Nat → Bool} {t0 : State} {s : State} (r : Fin 2) (m : Mark) (hK : Same m0 t0 s)
    (h4 : m0 4 = false) (h5 : m0 5 = false) (h6 : m0 6 = false) (h7 : m0 7 = false) (h8 : m0 8 = false) (h33 : m0 33 = false) :
    Same m0 t0 (State.ownMark s r m) := by
  unfold State.ownMark; try dsimp only
  repeat' split
  all_goals first | done | simp (maxDischargeDepth := 60) (decide := true) [hK, h4, h5, h6, h7, h8, h33]

@[simp] theorem State.loseCold_same {m0 : Nat → Bool} {t0 : State} {s : State} (hK : Same m0 t0 s)
    (h3 : m0 3 = false) (h4 : m0 4 = false) (h5 : m0 5 = false) (h6 : m0 6 = false) (h7 : m0 7 = false) (h8 : m0 8 = false) (h32 : m0 32 = false) (h33 : m0 33 = false) :
    Same m0 t0 (State.loseCold s) := by
  unfold State.loseCold; try dsimp only
  repeat' split
  all_goals first | done | simp (maxDischargeDepth := 60) (decide := true) [hK, h3, h4, h5, h6, h7, h8, h32, h33]

@[simp] theorem State.takeLauncher_same {m0 : Nat → Bool} {t0 : State} {s : State} (m : Mark) (hK : Same m0 t0 s)
    (h3 : m0 3 = false) (h4 : m0 4 = false) (h5 : m0 5 = false) (h6 : m0 6 = false) (h7 : m0 7 = false) (h8 : m0 8 = false) (h32 : m0 32 = false) (h33 : m0 33 = false) :
    Same m0 t0 (State.takeLauncher s m) := by
  unfold State.takeLauncher; try dsimp only
  repeat' split
  all_goals first | done | simp (maxDischargeDepth := 60) (decide := true) [hK, h3, h4, h5, h6, h7, h8, h32, h33]

@[simp] theorem State.takeMark_same {m0 : Nat → Bool} {t0 : State} {s : State} (r : Fin 2) (m : Mark) (hK : Same m0 t0 s)
    (h3 : m0 3 = false) (h4 : m0 4 = false) (h5 : m0 5 = false) (h6 : m0 6 = false) (h7 : m0 7 = false) (h8 : m0 8 = false) (h20 : m0 20 = false) (h24 : m0 24 = false) (h32 : m0 32 = false) (h33 : m0 33 = false) :
    Same m0 t0 (State.takeMark s r m) := by
  unfold State.takeMark; try dsimp only
  repeat' split
  all_goals first | done | simp (maxDischargeDepth := 60) (decide := true) [hK, h3, h4, h5, h6, h7, h8, h20, h24, h32, h33]

@[simp] theorem State.epochMark_same {m0 : Nat → Bool} {t0 : State} {s : State} (r : Fin 2) (m : Mark) (hK : Same m0 t0 s)
    (h3 : m0 3 = false) (h4 : m0 4 = false) (h5 : m0 5 = false) (h6 : m0 6 = false) (h7 : m0 7 = false) (h8 : m0 8 = false) (h20 : m0 20 = false) (h24 : m0 24 = false) (h32 : m0 32 = false) (h33 : m0 33 = false) :
    Same m0 t0 (State.epochMark s r m) := by
  unfold State.epochMark; try dsimp only
  repeat' split
  all_goals first | done | simp (maxDischargeDepth := 60) (decide := true) [hK, h3, h4, h5, h6, h7, h8, h20, h24, h32, h33]

@[simp] theorem State.launch_same {m0 : Nat → Bool} {t0 : State} {s : State} (succession : Bool) (hK : Same m0 t0 s)
    (h3 : m0 3 = false) (h4 : m0 4 = false) (h5 : m0 5 = false) (h6 : m0 6 = false) (h7 : m0 7 = false) (h8 : m0 8 = false) (h20 : m0 20 = false) (h24 : m0 24 = false) (h32 : m0 32 = false) (h33 : m0 33 = false) :
    Same m0 t0 (State.launch s succession) := by
  unfold State.launch; try dsimp only
  repeat' split
  all_goals first | done | simp (maxDischargeDepth := 60) (decide := true) [hK, h3, h4, h5, h6, h7, h8, h20, h24, h32, h33]

@[simp] theorem State.coldMember_same {m0 : Nat → Bool} {t0 : State} {s : State} (hK : Same m0 t0 s)
    (h3 : m0 3 = false) (h4 : m0 4 = false) (h5 : m0 5 = false) (h6 : m0 6 = false) (h7 : m0 7 = false) (h8 : m0 8 = false) (h32 : m0 32 = false) (h33 : m0 33 = false) :
    Same m0 t0 (State.coldMember s) := by
  unfold State.coldMember; try dsimp only
  repeat' split
  all_goals first | done | simp (maxDischargeDepth := 60) (decide := true) [hK, h3, h4, h5, h6, h7, h8, h32, h33]

@[simp] theorem State.stopLaunching_same {m0 : Nat → Bool} {t0 : State} {s : State} (hK : Same m0 t0 s)
    (h4 : m0 4 = false) (h5 : m0 5 = false) (h6 : m0 6 = false) (h7 : m0 7 = false) (h8 : m0 8 = false) (h33 : m0 33 = false) :
    Same m0 t0 (State.stopLaunching s) := by
  unfold State.stopLaunching; try dsimp only
  repeat' split
  all_goals first | done | simp (maxDischargeDepth := 60) (decide := true) [hK, h4, h5, h6, h7, h8, h33]

@[simp] theorem State.takeFrame_same {m0 : Nat → Bool} {t0 : State} {s : State} (f : Frame) (act : State → State) (hK : Same m0 t0 s) (qact : ∀ x, Same m0 x (act x))
    (h4 : m0 4 = false) (h5 : m0 5 = false) (h6 : m0 6 = false) (h7 : m0 7 = false) (h8 : m0 8 = false) (h33 : m0 33 = false) :
    Same m0 t0 (State.takeFrame s f act) := by
  unfold State.takeFrame
  refine Same.ite _ hK ?_
  dsimp only
  refine Same.ite _ (by simp (maxDischargeDepth := 60) (decide := true) [hK, qact, h4, h5, h6, h7, h8, h33]) ?_
  exact Same.trans (by simp (maxDischargeDepth := 60) (decide := true) [hK, qact, h4, h5, h6, h7, h8, h33]) (qact _)

@[simp] theorem State.orderIn_same {m0 : Nat → Bool} {t0 : State} {s : State} (src : Src) (rq : Request) (hK : Same m0 t0 s)
    (h21 : m0 21 = false) :
    Same m0 t0 (State.orderIn s src rq) := by
  unfold State.orderIn; try dsimp only
  repeat' split
  all_goals first | done | simp (maxDischargeDepth := 60) (decide := true) [hK, h21]

@[simp] theorem State.frameRequest_same {m0 : Nat → Bool} {t0 : State} {s : State} (f : Frame) (hK : Same m0 t0 s)
    (h4 : m0 4 = false) (h5 : m0 5 = false) (h6 : m0 6 = false) (h7 : m0 7 = false) (h8 : m0 8 = false) (h21 : m0 21 = false) (h33 : m0 33 = false) :
    Same m0 t0 (State.frameRequest s f) := by
  unfold State.frameRequest; try dsimp only
  repeat' split
  all_goals first | done | simp (maxDischargeDepth := 60) (decide := true) [hK, h4, h5, h6, h7, h8, h21, h33]

@[simp] theorem State.framePennants_same {m0 : Nat → Bool} {t0 : State} {s : State} (f : Frame) (hK : Same m0 t0 s)
    (h4 : m0 4 = false) (h5 : m0 5 = false) (h6 : m0 6 = false) (h7 : m0 7 = false) (h8 : m0 8 = false) (h24 : m0 24 = false) (h33 : m0 33 = false) :
    Same m0 t0 (State.framePennants s f) := by
  unfold State.framePennants; try dsimp only
  repeat' split
  all_goals first | done | simp (maxDischargeDepth := 60) (decide := true) [hK, h4, h5, h6, h7, h8, h24, h33]

@[simp] theorem State.frameTraces_same {m0 : Nat → Bool} {t0 : State} {s : State} (f : Frame) (hK : Same m0 t0 s)
    (h4 : m0 4 = false) (h5 : m0 5 = false) (h6 : m0 6 = false) (h7 : m0 7 = false) (h8 : m0 8 = false) (h24 : m0 24 = false) (h33 : m0 33 = false) :
    Same m0 t0 (State.frameTraces s f) := by
  unfold State.frameTraces; try dsimp only
  repeat' split
  all_goals first | done | simp (maxDischargeDepth := 60) (decide := true) [hK, h4, h5, h6, h7, h8, h24, h33]

@[simp] theorem State.frameFirmware_same {m0 : Nat → Bool} {t0 : State} {s : State} (f : Frame) (hK : Same m0 t0 s)
    (h4 : m0 4 = false) (h5 : m0 5 = false) (h6 : m0 6 = false) (h7 : m0 7 = false) (h8 : m0 8 = false) (h33 : m0 33 = false) :
    Same m0 t0 (State.frameFirmware s f) := by
  unfold State.frameFirmware; try dsimp only
  repeat' split
  all_goals first | done | simp (maxDischargeDepth := 60) (decide := true) [hK, h4, h5, h6, h7, h8, h33]

@[simp] theorem State.place_same {m0 : Nat → Bool} {t0 : State} {s : State} (c : Change) (hK : Same m0 t0 s)
    (h33 : m0 33 = false) :
    Same m0 t0 (State.place s c) := by
  unfold State.place; try dsimp only
  repeat' split
  all_goals first | done | simp (maxDischargeDepth := 60) (decide := true) [hK, h33]

@[simp] theorem State.sendRoster_same {m0 : Nat → Bool} {t0 : State} (f addr : Nat) (bs : List Byte) {s : State} (hK : Same m0 t0 s)
    (h8 : m0 8 = false) (h33 : m0 33 = false) (h40 : m0 40 = false) :
    Same m0 t0 (State.sendRoster f addr bs s) := by
  induction f generalizing s bs with
  | zero => exact hK
  | succ f ih =>
    unfold State.sendRoster
    split
    · simp (maxDischargeDepth := 60) (decide := true) [hK, h8, h33, h40]
    · exact ih _ (by simp (maxDischargeDepth := 60) (decide := true) [hK, h8, h33, h40])

@[simp] theorem State.admitJoin_same {m0 : Nat → Bool} {t0 : State} {s : State} (addr : Nat) (tag : Nat) (hK : Same m0 t0 s)
    (h8 : m0 8 = false) (h33 : m0 33 = false) (h40 : m0 40 = false) :
    Same m0 t0 (State.admitJoin s addr tag) := by
  unfold State.admitJoin; dsimp only
  repeat' split
  all_goals simp (maxDischargeDepth := 60) (decide := true) [hK, h8, h33, h40]

@[simp] theorem State.joinFrame_same {m0 : Nat → Bool} {t0 : State} {s : State} (f : Frame) (hK : Same m0 t0 s)
    (h4 : m0 4 = false) (h5 : m0 5 = false) (h6 : m0 6 = false) (h7 : m0 7 = false) (h8 : m0 8 = false) (h33 : m0 33 = false) (h40 : m0 40 = false) :
    Same m0 t0 (State.joinFrame s f) := by
  unfold State.joinFrame; try dsimp only
  repeat' split
  all_goals first | done | simp (maxDischargeDepth := 60) (decide := true) [hK, h4, h5, h6, h7, h8, h33, h40]

@[simp] theorem State.sendJoin_same {m0 : Nat → Bool} {t0 : State} {s : State} (hK : Same m0 t0 s)
    (h4 : m0 4 = false) (h5 : m0 5 = false) (h6 : m0 6 = false) (h7 : m0 7 = false) (h8 : m0 8 = false) (h33 : m0 33 = false) (h40 : m0 40 = false) :
    Same m0 t0 (State.sendJoin s) := by
  unfold State.sendJoin; try dsimp only
  repeat' split
  all_goals first | done | simp (maxDischargeDepth := 60) (decide := true) [hK, h4, h5, h6, h7, h8, h33, h40]

@[simp] theorem State.placeSuccessor_same {m0 : Nat → Bool} {t0 : State} {s : State} (hK : Same m0 t0 s)
    (h33 : m0 33 = false) :
    Same m0 t0 (State.placeSuccessor s) := by
  unfold State.placeSuccessor; try dsimp only
  repeat' split
  all_goals first | done | simp (maxDischargeDepth := 60) (decide := true) [hK, h33]

@[simp] theorem State.sendLeave_same {m0 : Nat → Bool} {t0 : State} {s : State} (hK : Same m0 t0 s)
    (h4 : m0 4 = false) (h5 : m0 5 = false) (h6 : m0 6 = false) (h7 : m0 7 = false) (h8 : m0 8 = false) (h33 : m0 33 = false) (h40 : m0 40 = false) :
    Same m0 t0 (State.sendLeave s) := by
  unfold State.sendLeave; try dsimp only
  repeat' split
  all_goals first | done | simp (maxDischargeDepth := 60) (decide := true) [hK, h4, h5, h6, h7, h8, h33, h40]

@[simp] theorem State.leaveFrame_same {m0 : Nat → Bool} {t0 : State} {s : State} (f : Frame) (hK : Same m0 t0 s)
    (h4 : m0 4 = false) (h5 : m0 5 = false) (h6 : m0 6 = false) (h7 : m0 7 = false) (h8 : m0 8 = false) (h33 : m0 33 = false) :
    Same m0 t0 (State.leaveFrame s f) := by
  unfold State.leaveFrame
  refine Same.ite _ hK (State.takeFrame_same _ _ hK (fun x => ?_) h4 h5 h6 h7 h8 h33)
  split <;> simp (maxDischargeDepth := 60) (decide := true) [h4, h5, h6, h7, h8, h33]

@[simp] theorem State.rosterFrame_same {m0 : Nat → Bool} {t0 : State} {s : State} (f : Frame) (hK : Same m0 t0 s)
    (h3 : m0 3 = false) (h4 : m0 4 = false) (h5 : m0 5 = false) (h6 : m0 6 = false) (h7 : m0 7 = false) (h8 : m0 8 = false) (h20 : m0 20 = false) (h33 : m0 33 = false) :
    Same m0 t0 (State.rosterFrame s f) := by
  unfold State.rosterFrame; try dsimp only
  repeat' split
  all_goals first | done | simp (maxDischargeDepth := 60) (decide := true) [hK, h3, h4, h5, h6, h7, h8, h20, h33]

@[simp] theorem State.noteReport_same {m0 : Nat → Bool} {t0 : State} {s : State} (src : Nat) (ring : Nat) (old : Nat) (new : Nat) (hK : Same m0 t0 s)
    (h33 : m0 33 = false) :
    Same m0 t0 (State.noteReport s src ring old new) := by
  unfold State.noteReport; try dsimp only
  repeat' split
  all_goals first | done | simp (maxDischargeDepth := 60) (decide := true) [hK, h33]

@[simp] theorem State.neighbourFrame_same {m0 : Nat → Bool} {t0 : State} {s : State} (f : Frame) (hK : Same m0 t0 s)
    (h4 : m0 4 = false) (h5 : m0 5 = false) (h6 : m0 6 = false) (h7 : m0 7 = false) (h8 : m0 8 = false) (h33 : m0 33 = false) :
    Same m0 t0 (State.neighbourFrame s f) := by
  unfold State.neighbourFrame
  refine Same.ite _ hK (State.takeFrame_same _ _ hK (fun x => ?_) h4 h5 h6 h7 h8 h33)
  simp (maxDischargeDepth := 60) (decide := true) [h4, h5, h6, h7, h8, h33]

@[simp] theorem State.placeEvict_same {m0 : Nat → Bool} {t0 : State} {s : State} (addr : Nat) (hK : Same m0 t0 s)
    (h33 : m0 33 = false) :
    Same m0 t0 (State.placeEvict s addr) := by
  unfold State.placeEvict; try dsimp only
  repeat' split
  all_goals first | done | simp (maxDischargeDepth := 60) (decide := true) [hK, h33]

@[simp] theorem State.evictFrame_same {m0 : Nat → Bool} {t0 : State} {s : State} (f : Frame) (hK : Same m0 t0 s)
    (h3 : m0 3 = false) (h4 : m0 4 = false) (h5 : m0 5 = false) (h6 : m0 6 = false) (h7 : m0 7 = false) (h8 : m0 8 = false) (h32 : m0 32 = false) (h33 : m0 33 = false) :
    Same m0 t0 (State.evictFrame s f) := by
  unfold State.evictFrame; try dsimp only
  repeat' split
  all_goals first | done | simp (maxDischargeDepth := 60) (decide := true) [hK, h3, h4, h5, h6, h7, h8, h32, h33]

@[simp] theorem State.rosterEvictEffect_same {m0 : Nat → Bool} {t0 : State} {s : State} (v : Nat) (hK : Same m0 t0 s)
    (h8 : m0 8 = false) (h33 : m0 33 = false) (h40 : m0 40 = false) :
    Same m0 t0 (State.rosterEvictEffect s v) := by
  unfold State.rosterEvictEffect; try dsimp only
  repeat' split
  all_goals first | done | simp (maxDischargeDepth := 60) (decide := true) [hK, h8, h33, h40]

@[simp] theorem State.tellNeighbour_same {m0 : Nat → Bool} {t0 : State} {s : State} (r : Fin 2) (old : Nat) (new : Nat) (hK : Same m0 t0 s)
    (h8 : m0 8 = false) (h33 : m0 33 = false) (h40 : m0 40 = false) :
    Same m0 t0 (State.tellNeighbour s r old new) := by
  unfold State.tellNeighbour; try dsimp only
  repeat' split
  all_goals first | done | simp (maxDischargeDepth := 60) (decide := true) [hK, h8, h33, h40]

@[simp] theorem State.driveByp_same {m0 : Nat → Bool} {t0 : State} {s : State} (on : Bool) (hK : Same m0 t0 s)
    (h4 : m0 4 = false) (h5 : m0 5 = false) (h6 : m0 6 = false) (h7 : m0 7 = false) (h8 : m0 8 = false) :
    Same m0 t0 (State.driveByp s on) := by
  unfold State.driveByp; try dsimp only
  repeat' split
  all_goals first | done | simp (maxDischargeDepth := 60) (decide := true) [hK, h4, h5, h6, h7, h8]

@[simp] theorem State.bypReleaseEffect_same {m0 : Nat → Bool} {t0 : State} {s : State} (hK : Same m0 t0 s)
    (h3 : m0 3 = false) (h4 : m0 4 = false) (h5 : m0 5 = false) (h6 : m0 6 = false) (h7 : m0 7 = false) (h8 : m0 8 = false) (h33 : m0 33 = false) :
    Same m0 t0 (State.bypReleaseEffect s) := by
  unfold State.bypReleaseEffect; try dsimp only
  repeat' split
  all_goals first | done | simp (maxDischargeDepth := 60) (decide := true) [hK, h3, h4, h5, h6, h7, h8, h33]

@[simp] theorem State.bypHoldEffect_same {m0 : Nat → Bool} {t0 : State} {s : State} (hK : Same m0 t0 s)
    (h4 : m0 4 = false) (h5 : m0 5 = false) (h6 : m0 6 = false) (h7 : m0 7 = false) (h8 : m0 8 = false) (h33 : m0 33 = false) :
    Same m0 t0 (State.bypHoldEffect s) := by
  unfold State.bypHoldEffect; try dsimp only
  repeat' split
  all_goals first | done | simp (maxDischargeDepth := 60) (decide := true) [hK, h4, h5, h6, h7, h8, h33]

@[simp] theorem State.emitSlot_same {m0 : Nat → Bool} {t0 : State} {s : State} (r : Fin 2) (delim : Delim) (chars : List Byte) (hK : Same m0 t0 s)
    (h43 : m0 43 = false) :
    Same m0 t0 (State.emitSlot s r delim chars) := by
  unfold State.emitSlot; try dsimp only
  repeat' split
  all_goals first | done | simp (maxDischargeDepth := 60) (decide := true) [hK, h43]

@[simp] theorem State.blockLeft_same {m0 : Nat → Bool} {t0 : State} {s : State} (r : Fin 2) (hK : Same m0 t0 s)
    (h33 : m0 33 = false) :
    Same m0 t0 (State.blockLeft s r) := by
  unfold State.blockLeft; try dsimp only
  repeat' split
  all_goals first | done | simp (maxDischargeDepth := 60) (decide := true) [hK, h33]

@[simp] theorem State.fillEmpty_same {m0 : Nat → Bool} {t0 : State} {s : State} (r : Fin 2) (chars : List Byte) (hK : Same m0 t0 s)
    (h33 : m0 33 = false) (h43 : m0 43 = false) :
    Same m0 t0 (State.fillEmpty s r chars) := by
  unfold State.fillEmpty; try dsimp only
  repeat' split
  all_goals first | done | simp (maxDischargeDepth := 60) (decide := true) [hK, h33, h43]

@[simp] theorem State.output_same {m0 : Nat → Bool} {t0 : State} {s : State} (r : Fin 2) (delim : Delim) (chars : List Byte) (hK : Same m0 t0 s)
    (h4 : m0 4 = false) (h5 : m0 5 = false) (h6 : m0 6 = false) (h7 : m0 7 = false) (h8 : m0 8 = false) (h33 : m0 33 = false) (h43 : m0 43 = false) :
    Same m0 t0 (State.output s r delim chars) := by
  unfold State.output; try dsimp only
  repeat' split
  all_goals first | done | simp (maxDischargeDepth := 60) (decide := true) [hK, h4, h5, h6, h7, h8, h33, h43]

@[simp] theorem State.goOn_same {m0 : Nat → Bool} {t0 : State} {s : State} (r : Fin 2) (delim : Delim) (chars : List Byte) (hK : Same m0 t0 s)
    (h4 : m0 4 = false) (h5 : m0 5 = false) (h6 : m0 6 = false) (h7 : m0 7 = false) (h8 : m0 8 = false) (h33 : m0 33 = false) (h43 : m0 43 = false) :
    Same m0 t0 (State.goOn s r delim chars) := by
  unfold State.goOn; try dsimp only
  repeat' split
  all_goals first | done | simp (maxDischargeDepth := 60) (decide := true) [hK, h4, h5, h6, h7, h8, h33, h43]

@[simp] theorem State.originate_same {m0 : Nat → Bool} {t0 : State} {s : State} (r : Fin 2) (delim : Delim) (hK : Same m0 t0 s)
    (h33 : m0 33 = false) :
    Same m0 t0 (State.originate s r delim).1 := by
  unfold State.originate; try dsimp only
  repeat' split
  all_goals first | done | simp (maxDischargeDepth := 60) (decide := true) [hK, h33]

@[simp] theorem State.goEmpty_same {m0 : Nat → Bool} {t0 : State} {s : State} (r : Fin 2) (hK : Same m0 t0 s)
    (h4 : m0 4 = false) (h5 : m0 5 = false) (h6 : m0 6 = false) (h7 : m0 7 = false) (h8 : m0 8 = false) (h33 : m0 33 = false) (h43 : m0 43 = false) :
    Same m0 t0 (State.goEmpty s r) := by
  unfold State.goEmpty; try dsimp only
  repeat' split
  all_goals first | done | simp (maxDischargeDepth := 60) (decide := true) [hK, h4, h5, h6, h7, h8, h33, h43]

@[simp] theorem State.strip_same {m0 : Nat → Bool} {t0 : State} {s : State} (r : Fin 2) (typ : Nat) (hK : Same m0 t0 s)
    (h4 : m0 4 = false) (h5 : m0 5 = false) (h6 : m0 6 = false) (h7 : m0 7 = false) (h8 : m0 8 = false) (h33 : m0 33 = false) (h43 : m0 43 = false) :
    Same m0 t0 (State.strip s r typ) := by
  unfold State.strip; try dsimp only
  repeat' split
  all_goals first | done | simp (maxDischargeDepth := 60) (decide := true) [hK, h4, h5, h6, h7, h8, h33, h43]

@[simp] theorem State.markOn_same {m0 : Nat → Bool} {t0 : State} {s : State} (r : Fin 2) (chars : List Byte) (hK : Same m0 t0 s)
    (h4 : m0 4 = false) (h5 : m0 5 = false) (h6 : m0 6 = false) (h7 : m0 7 = false) (h8 : m0 8 = false) (h33 : m0 33 = false) (h43 : m0 43 = false) :
    Same m0 t0 (State.markOn s r chars) := by
  unfold State.markOn; try dsimp only
  repeat' split
  all_goals first | done | simp (maxDischargeDepth := 60) (decide := true) [hK, h4, h5, h6, h7, h8, h33, h43]

@[simp] theorem State.markIn_same {m0 : Nat → Bool} {t0 : State} {s : State} (r : Fin 2) (m : Mark) (chars : List Byte) (hK : Same m0 t0 s)
    (h3 : m0 3 = false) (h4 : m0 4 = false) (h5 : m0 5 = false) (h6 : m0 6 = false) (h7 : m0 7 = false) (h8 : m0 8 = false) (h20 : m0 20 = false) (h24 : m0 24 = false) (h32 : m0 32 = false) (h33 : m0 33 = false) (h43 : m0 43 = false) :
    Same m0 t0 (State.markIn s r m chars) := by
  unfold State.markIn; try dsimp only
  repeat' split
  all_goals first | done | simp (maxDischargeDepth := 60) (decide := true) [hK, h3, h4, h5, h6, h7, h8, h20, h24, h32, h33, h43]

@[simp] theorem State.closeIn_same {m0 : Nat → Bool} {t0 : State} {s : State} (r : Fin 2) (chars : List Byte) (ns : Nat) (hK : Same m0 t0 s)
    (h3 : m0 3 = false) (h4 : m0 4 = false) (h5 : m0 5 = false) (h6 : m0 6 = false) (h7 : m0 7 = false) (h8 : m0 8 = false) (h32 : m0 32 = false) (h33 : m0 33 = false) (h43 : m0 43 = false) :
    Same m0 t0 (State.closeIn s r chars ns) := by
  unfold State.closeIn; try dsimp only
  repeat' split
  all_goals first | done | simp (maxDischargeDepth := 60) (decide := true) [hK, h3, h4, h5, h6, h7, h8, h32, h33, h43]

@[simp] theorem State.ensignItem_same {m0 : Nat → Bool} {t0 : State} {s : State} (r : Fin 2) (src : Nat) (p : List Byte) (hK : Same m0 t0 s)
    (h4 : m0 4 = false) (h5 : m0 5 = false) (h6 : m0 6 = false) (h7 : m0 7 = false) (h8 : m0 8 = false) (h28 : m0 28 = false) (h32 : m0 32 = false) :
    Same m0 t0 (State.ensignItem s r src p) := by
  unfold State.ensignItem; try dsimp only
  repeat' split
  all_goals first | done | simp (maxDischargeDepth := 60) (decide := true) [hK, h4, h5, h6, h7, h8, h28, h32]

@[simp] theorem State.deliverFrame_same {m0 : Nat → Bool} {t0 : State} {s : State} (content : Nat) (f : Frame) (hK : Same m0 t0 s)
    (h3 : m0 3 = false) (h4 : m0 4 = false) (h5 : m0 5 = false) (h6 : m0 6 = false) (h7 : m0 7 = false) (h8 : m0 8 = false) (h20 : m0 20 = false) (h21 : m0 21 = false) (h24 : m0 24 = false) (h32 : m0 32 = false) (h33 : m0 33 = false) (h40 : m0 40 = false) :
    Same m0 t0 (State.deliverFrame s content f) := by
  unfold State.deliverFrame; try dsimp only
  repeat' split
  all_goals first | done | simp (maxDischargeDepth := 60) (decide := true) [hK, h3, h4, h5, h6, h7, h8, h20, h21, h24, h32, h33, h40]

@[simp] theorem State.frameSlot_same {m0 : Nat → Bool} {t0 : State} {s : State} (r : Nat) (src : Nat) (typ : Nat) (first : Bool) (last : Bool) (p : List Byte) (hK : Same m0 t0 s)
    (h3 : m0 3 = false) (h4 : m0 4 = false) (h5 : m0 5 = false) (h6 : m0 6 = false) (h7 : m0 7 = false) (h8 : m0 8 = false) (h20 : m0 20 = false) (h21 : m0 21 = false) (h24 : m0 24 = false) (h32 : m0 32 = false) (h33 : m0 33 = false) (h40 : m0 40 = false) :
    Same m0 t0 (State.frameSlot s r src typ first last p).1 := by
  unfold State.frameSlot; try dsimp only
  repeat' split
  all_goals first | done | simp (maxDischargeDepth := 60) (decide := true) [hK, h3, h4, h5, h6, h7, h8, h20, h21, h24, h32, h33, h40]

@[simp] theorem State.foreign_same {m0 : Nat → Bool} {t0 : State} {s : State} (src : Nat) (hK : Same m0 t0 s)
    (h8 : m0 8 = false) (h33 : m0 33 = false) (h40 : m0 40 = false) :
    Same m0 t0 (State.foreign s src) := by
  unfold State.foreign; try dsimp only
  repeat' split
  all_goals first | done | simp (maxDischargeDepth := 60) (decide := true) [hK, h8, h33, h40]

@[simp] theorem State.fullSlot_same {m0 : Nat → Bool} {t0 : State} {s : State} (r : Fin 2) (chars : List Byte) (ns : Nat) (hK : Same m0 t0 s)
    (h3 : m0 3 = false) (h4 : m0 4 = false) (h5 : m0 5 = false) (h6 : m0 6 = false) (h7 : m0 7 = false) (h8 : m0 8 = false) (h20 : m0 20 = false) (h21 : m0 21 = false) (h24 : m0 24 = false) (h28 : m0 28 = false) (h32 : m0 32 = false) (h33 : m0 33 = false) (h40 : m0 40 = false) (h43 : m0 43 = false) :
    Same m0 t0 (State.fullSlot s r chars ns) := by
  unfold State.fullSlot; try dsimp only
  repeat' split
  all_goals first | done | simp (maxDischargeDepth := 60) (decide := true) [hK, h3, h4, h5, h6, h7, h8, h20, h21, h24, h28, h32, h33, h40, h43]

@[simp] theorem State.noteNeighbour_same {m0 : Nat → Bool} {t0 : State} {s : State} (r : Fin 2) (a : Nat) (hK : Same m0 t0 s)
    (h4 : m0 4 = false) (h5 : m0 5 = false) (h6 : m0 6 = false) (h7 : m0 7 = false) (h8 : m0 8 = false) (h33 : m0 33 = false) (h40 : m0 40 = false) :
    Same m0 t0 (State.noteNeighbour s r a) := by
  unfold State.noteNeighbour; try dsimp only
  repeat' split
  all_goals first | done | simp (maxDischargeDepth := 60) (decide := true) [hK, h4, h5, h6, h7, h8, h33, h40]

@[simp] theorem State.slotIn_same {m0 : Nat → Bool} {t0 : State} {s : State} (r : Fin 2) (delim : Delim) (chars : List Byte) (ns : Nat) (hK : Same m0 t0 s)
    (h0 : m0 0 = false) (h1 : m0 1 = false) (h2 : m0 2 = false) (h3 : m0 3 = false) (h4 : m0 4 = false) (h5 : m0 5 = false) (h6 : m0 6 = false) (h7 : m0 7 = false) (h8 : m0 8 = false) (h9 : m0 9 = false) (h10 : m0 10 = false) (h11 : m0 11 = false) (h20 : m0 20 = false) (h21 : m0 21 = false) (h24 : m0 24 = false) (h28 : m0 28 = false) (h32 : m0 32 = false) (h33 : m0 33 = false) (h40 : m0 40 = false) (h43 : m0 43 = false) :
    Same m0 t0 (State.slotIn s r delim chars ns) := by
  unfold State.slotIn; try dsimp only
  repeat' split
  all_goals first | done | simp (maxDischargeDepth := 60) (decide := true) [hK, h0, h1, h2, h3, h4, h5, h6, h7, h8, h9, h10, h11, h20, h21, h24, h28, h32, h33, h40, h43]

@[simp] theorem State.passOn_same {m0 : Nat → Bool} {t0 : State} {s : State} (r : Fin 2) (delim : Delim) (chars : List Byte) (hK : Same m0 t0 s)
    (h43 : m0 43 = false) :
    Same m0 t0 (State.passOn s r delim chars) := by
  unfold State.passOn; try dsimp only
  repeat' split
  all_goals first | done | simp (maxDischargeDepth := 60) (decide := true) [hK, h43]

@[simp] theorem State.slotInReset_same {m0 : Nat → Bool} {t0 : State} {s : State} (r : Fin 2) (delim : Delim) (chars : List Byte) (hK : Same m0 t0 s)
    (h43 : m0 43 = false) :
    Same m0 t0 (State.slotInReset s r delim chars) := by
  unfold State.slotInReset; try dsimp only
  repeat' split
  all_goals first | done | simp (maxDischargeDepth := 60) (decide := true) [hK, h43]

@[simp] theorem State.ringTick_same {m0 : Nat → Bool} {t0 : State} {s : State} (hK : Same m0 t0 s)
    (h4 : m0 4 = false) (h5 : m0 5 = false) (h6 : m0 6 = false) (h7 : m0 7 = false) (h8 : m0 8 = false) (h33 : m0 33 = false) (h43 : m0 43 = false) :
    Same m0 t0 (State.ringTick s) := by
  unfold State.ringTick; try dsimp only
  repeat' split
  all_goals first | done | simp (maxDischargeDepth := 60) (decide := true) [hK, h4, h5, h6, h7, h8, h33, h43]

@[simp] theorem State.releaseItem_same {m0 : Nat → Bool} {t0 : State} {s : State} (r : Fin 2) (hK : Same m0 t0 s)
    (h0 : m0 0 = false) (h1 : m0 1 = false) (h2 : m0 2 = false) (h3 : m0 3 = false) (h4 : m0 4 = false) (h5 : m0 5 = false) (h6 : m0 6 = false) (h7 : m0 7 = false) (h8 : m0 8 = false) (h9 : m0 9 = false) (h10 : m0 10 = false) (h11 : m0 11 = false) (h33 : m0 33 = false) (h43 : m0 43 = false) :
    Same m0 t0 (State.releaseItem s r) := by
  unfold State.releaseItem; try dsimp only
  repeat' split
  all_goals first | done | simp (maxDischargeDepth := 60) (decide := true) [hK, h0, h1, h2, h3, h4, h5, h6, h7, h8, h9, h10, h11, h33, h43]

@[simp] theorem State.sendLoss_same {m0 : Nat → Bool} {t0 : State} {s : State} (g : Fin 4) (legs : Nat) (hK : Same m0 t0 s)
    (h33 : m0 33 = false) :
    Same m0 t0 (State.sendLoss s g legs) := by
  unfold State.sendLoss; try dsimp only
  repeat' split
  all_goals first | done | simp (maxDischargeDepth := 60) (decide := true) [hK, h33]

/-! ## Machine/Burgee.lean -/

@[simp] theorem State.withPair_same {m0 : Nat → Bool} {t0 : State} {s : State} (p : PairState) (hK : Same m0 t0 s)
    (h37 : m0 37 = false) :
    Same m0 t0 (State.withPair s p) := by
  unfold State.withPair; try dsimp only
  repeat' split
  all_goals first | done | simp (maxDischargeDepth := 60) (decide := true) [hK, h37]

@[simp] theorem State.sendToken_same {m0 : Nat → Bool} {t0 : State} {s : State} (kind : Nat) (rehearsal : Bool) (hK : Same m0 t0 s)
    (h37 : m0 37 = false) (h43 : m0 43 = false) :
    Same m0 t0 (State.sendToken s kind rehearsal) := by
  unfold State.sendToken; try dsimp only
  repeat' split
  all_goals first | done | simp (maxDischargeDepth := 60) (decide := true) [hK, h37, h43]

@[simp] theorem State.orderlyRelease_same {m0 : Nat → Bool} {t0 : State} {s : State} (rehearsal : Bool) (hK : Same m0 t0 s)
    (h4 : m0 4 = false) (h5 : m0 5 = false) (h6 : m0 6 = false) (h7 : m0 7 = false) (h8 : m0 8 = false) (h33 : m0 33 = false) (h37 : m0 37 = false) (h43 : m0 43 = false) :
    Same m0 t0 (State.orderlyRelease s rehearsal) := by
  unfold State.orderlyRelease; try dsimp only
  repeat' split
  all_goals first | done | simp (maxDischargeDepth := 60) (decide := true) [hK, h4, h5, h6, h7, h8, h33, h37, h43]

@[simp] theorem State.setShadow_same {m0 : Nat → Bool} {t0 : State} {s : State} (on : Bool) (hK : Same m0 t0 s)
    (h0 : m0 0 = false) (h1 : m0 1 = false) (h2 : m0 2 = false) (h3 : m0 3 = false) (h4 : m0 4 = false) (h5 : m0 5 = false) (h6 : m0 6 = false) (h7 : m0 7 = false) (h8 : m0 8 = false) (h9 : m0 9 = false) (h24 : m0 24 = false) :
    Same m0 t0 (State.setShadow s on) := by
  unfold State.setShadow; try dsimp only
  repeat' split
  all_goals first | done | simp (maxDischargeDepth := 60) (decide := true) [hK, h0, h1, h2, h3, h4, h5, h6, h7, h8, h9, h24]

@[simp] theorem State.burgeeFollows_same {m0 : Nat → Bool} {t0 : State} {s : State} (hK : Same m0 t0 s)
    (h4 : m0 4 = false) (h5 : m0 5 = false) (h6 : m0 6 = false) (h7 : m0 7 = false) (h8 : m0 8 = false) (h33 : m0 33 = false) (h37 : m0 37 = false) (h43 : m0 43 = false) :
    Same m0 t0 (State.burgeeFollows s) := by
  unfold State.burgeeFollows; try dsimp only
  repeat' split
  all_goals first | done | simp (maxDischargeDepth := 60) (decide := true) [hK, h4, h5, h6, h7, h8, h33, h37, h43]

/-! ## Machine/Metrology.lean -/

@[simp] theorem State.power_pW_same {m0 : Nat → Bool} {t0 : State} {s : State} (c : Fin 4) (v : Int) (i : Int) (hK : Same m0 t0 s)
     :
    Same m0 t0 (State.power_pW s c v i).1 := by
  unfold State.power_pW; try dsimp only
  repeat' split
  all_goals first | done | simp (maxDischargeDepth := 60) (decide := true) [hK]

@[simp] theorem State.integrate_same {m0 : Nat → Bool} {t0 : State} {s : State} (c : Fin 4) (p : Int) (hK : Same m0 t0 s)
    (h0 : m0 0 = false) (h1 : m0 1 = false) (h2 : m0 2 = false) (h3 : m0 3 = false) (h4 : m0 4 = false) (h5 : m0 5 = false) (h6 : m0 6 = false) (h7 : m0 7 = false) (h8 : m0 8 = false) (h9 : m0 9 = false) (h10 : m0 10 = false) (h11 : m0 11 = false) (h21 : m0 21 = false) (h24 : m0 24 = false) (h26 : m0 26 = false) (h28 : m0 28 = false) (h32 : m0 32 = false) (h34 : m0 34 = false) (h35 : m0 35 = false) (h36 : m0 36 = false) (h39 : m0 39 = false) (h43 : m0 43 = false) :
    Same m0 t0 (State.integrate s c p) := by
  unfold State.integrate; try dsimp only
  repeat' split
  all_goals first | done | simp (maxDischargeDepth := 60) (decide := true) [hK, h0, h1, h2, h3, h4, h5, h6, h7, h8, h9, h10, h11, h21, h24, h26, h28, h32, h34, h35, h36, h39, h43]

@[simp] theorem State.noteOver_same {m0 : Nat → Bool} {t0 : State} {s : State} (c : Fin 4) (ovr : Bool) (hK : Same m0 t0 s)
    (h7 : m0 7 = false) (h8 : m0 8 = false) (h39 : m0 39 = false) :
    Same m0 t0 (State.noteOver s c ovr) := by
  unfold State.noteOver; try dsimp only
  repeat' split
  all_goals first | done | simp (maxDischargeDepth := 60) (decide := true) [hK, h7, h8, h39]

@[simp] theorem State.noteStreams_same {m0 : Nat → Bool} {t0 : State} {s : State} (c : Fin 4) (v : Nat) (i : Nat) (hK : Same m0 t0 s)
    (h39 : m0 39 = false) :
    Same m0 t0 (State.noteStreams s c v i) := by
  unfold State.noteStreams; try dsimp only
  repeat' split
  all_goals first | done | simp (maxDischargeDepth := 60) (decide := true) [hK, h39]

@[simp] theorem State.sample_same {m0 : Nat → Bool} {t0 : State} {s : State} (c : Fin 4) (v : Nat) (i : Nat) (hK : Same m0 t0 s)
    (h0 : m0 0 = false) (h1 : m0 1 = false) (h2 : m0 2 = false) (h3 : m0 3 = false) (h4 : m0 4 = false) (h5 : m0 5 = false) (h6 : m0 6 = false) (h7 : m0 7 = false) (h8 : m0 8 = false) (h9 : m0 9 = false) (h10 : m0 10 = false) (h11 : m0 11 = false) (h21 : m0 21 = false) (h24 : m0 24 = false) (h26 : m0 26 = false) (h28 : m0 28 = false) (h32 : m0 32 = false) (h34 : m0 34 = false) (h35 : m0 35 = false) (h36 : m0 36 = false) (h39 : m0 39 = false) (h43 : m0 43 = false) :
    Same m0 t0 (State.sample s c v i) := by
  unfold State.sample; try dsimp only
  repeat' split
  all_goals first | done | simp (maxDischargeDepth := 60) (decide := true) [hK, h0, h1, h2, h3, h4, h5, h6, h7, h8, h9, h10, h11, h21, h24, h26, h28, h32, h34, h35, h36, h39, h43]

@[simp] theorem State.publish_same {m0 : Nat → Bool} {t0 : State} {s : State} (c : Fin 4) (hK : Same m0 t0 s)
    (h5 : m0 5 = false) (h6 : m0 6 = false) (h7 : m0 7 = false) (h8 : m0 8 = false) (h35 : m0 35 = false) (h39 : m0 39 = false) :
    Same m0 t0 (State.publish s c) := by
  unfold State.publish; try dsimp only
  repeat' split
  all_goals first | done | simp (maxDischargeDepth := 60) (decide := true) [hK, h5, h6, h7, h8, h35, h39]

@[simp] theorem State.calCapture_same {m0 : Nat → Bool} {t0 : State} {s : State} (arg : Nat) (hK : Same m0 t0 s)
    (h21 : m0 21 = false) (h39 : m0 39 = false) :
    Same m0 t0 (State.calCapture s arg) := by
  unfold State.calCapture; try dsimp only
  repeat' split
  all_goals first | done | simp (maxDischargeDepth := 60) (decide := true) [hK, h21, h39]

@[simp] theorem State.captureFault_same {m0 : Nat → Bool} {t0 : State} {s : State} (c : Fin 4) (hK : Same m0 t0 s)
    (h21 : m0 21 = false) (h39 : m0 39 = false) :
    Same m0 t0 (State.captureFault s c) := by
  unfold State.captureFault; try dsimp only
  repeat' split
  all_goals first | done | simp (maxDischargeDepth := 60) (decide := true) [hK, h21, h39]

@[simp] theorem State.meterFenced_same {m0 : Nat → Bool} {t0 : State} {s : State} (e : Fin 2) (hK : Same m0 t0 s)
    (h0 : m0 0 = false) (h1 : m0 1 = false) (h2 : m0 2 = false) (h3 : m0 3 = false) (h4 : m0 4 = false) (h5 : m0 5 = false) (h6 : m0 6 = false) (h7 : m0 7 = false) (h8 : m0 8 = false) (h9 : m0 9 = false) (h10 : m0 10 = false) (h11 : m0 11 = false) (h21 : m0 21 = false) (h24 : m0 24 = false) (h26 : m0 26 = false) (h28 : m0 28 = false) (h32 : m0 32 = false) (h34 : m0 34 = false) (h35 : m0 35 = false) (h36 : m0 36 = false) (h39 : m0 39 = false) (h43 : m0 43 = false) :
    Same m0 t0 (State.meterFenced s e) := by
  unfold State.meterFenced; try dsimp only
  repeat' split
  all_goals first | done | simp (maxDischargeDepth := 60) (decide := true) [hK, h0, h1, h2, h3, h4, h5, h6, h7, h8, h9, h10, h11, h21, h24, h26, h28, h32, h34, h35, h36, h39, h43]

/-! ## Machine/Modes.lean -/

@[simp] theorem State.phasesArrived_same {m0 : Nat → Bool} {t0 : State} {s : State} (hK : Same m0 t0 s)
    (h0 : m0 0 = false) (h1 : m0 1 = false) (h2 : m0 2 = false) (h3 : m0 3 = false) (h4 : m0 4 = false) (h5 : m0 5 = false) (h6 : m0 6 = false) (h7 : m0 7 = false) (h8 : m0 8 = false) (h9 : m0 9 = false) (h10 : m0 10 = false) (h11 : m0 11 = false) (h24 : m0 24 = false) (h26 : m0 26 = false) (h28 : m0 28 = false) (h36 : m0 36 = false) (h43 : m0 43 = false) :
    Same m0 t0 (State.phasesArrived s) := by
  unfold State.phasesArrived; try dsimp only
  repeat' split
  all_goals first | done | simp (maxDischargeDepth := 60) (decide := true) [hK, h0, h1, h2, h3, h4, h5, h6, h7, h8, h9, h10, h11, h24, h26, h28, h36, h43]

@[simp] theorem State.metrologyArrived_same {m0 : Nat → Bool} {t0 : State} {s : State} (was : Beh) (hK : Same m0 t0 s)
    (h1 : m0 1 = false) (h2 : m0 2 = false) (h3 : m0 3 = false) (h4 : m0 4 = false) (h5 : m0 5 = false) (h6 : m0 6 = false) (h7 : m0 7 = false) (h8 : m0 8 = false) (h11 : m0 11 = false) (h21 : m0 21 = false) (h39 : m0 39 = false) :
    Same m0 t0 (State.metrologyArrived s was) := by
  unfold State.metrologyArrived; try dsimp only
  repeat' split
  all_goals first | done | simp (maxDischargeDepth := 60) (decide := true) [hK, h1, h2, h3, h4, h5, h6, h7, h8, h11, h21, h39]

@[simp] theorem State.resumeMeter_same {m0 : Nat → Bool} {t0 : State} {s : State} (hK : Same m0 t0 s)
    (h22 : m0 22 = false) :
    Same m0 t0 (State.resumeMeter s) := by
  unfold State.resumeMeter; try dsimp only
  repeat' split
  all_goals first | done | simp (maxDischargeDepth := 60) (decide := true) [hK, h22]

@[simp] theorem State.enginesArrived_same {m0 : Nat → Bool} {t0 : State} {s : State} (hK : Same m0 t0 s)
    (h2 : m0 2 = false) (h3 : m0 3 = false) (h4 : m0 4 = false) (h5 : m0 5 = false) (h6 : m0 6 = false) (h7 : m0 7 = false) (h8 : m0 8 = false) (h24 : m0 24 = false) (h35 : m0 35 = false) (h36 : m0 36 = false) (h43 : m0 43 = false) :
    Same m0 t0 (State.enginesArrived s) := by
  unfold State.enginesArrived; try dsimp only
  repeat' split
  all_goals first | done | simp (maxDischargeDepth := 60) (decide := true) [hK, h2, h3, h4, h5, h6, h7, h8, h24, h35, h36, h43]

@[simp] theorem State.classArrived_same {m0 : Nat → Bool} {t0 : State} {s : State} (c : Fin 8) (hK : Same m0 t0 s)
    (h0 : m0 0 = false) (h1 : m0 1 = false) (h2 : m0 2 = false) (h3 : m0 3 = false) (h4 : m0 4 = false) (h5 : m0 5 = false) (h6 : m0 6 = false) (h7 : m0 7 = false) (h8 : m0 8 = false) (h9 : m0 9 = false) (h10 : m0 10 = false) (h11 : m0 11 = false) (h21 : m0 21 = false) (h22 : m0 22 = false) (h24 : m0 24 = false) (h26 : m0 26 = false) (h28 : m0 28 = false) (h32 : m0 32 = false) (h33 : m0 33 = false) (h34 : m0 34 = false) (h35 : m0 35 = false) (h36 : m0 36 = false) (h37 : m0 37 = false) (h39 : m0 39 = false) (h43 : m0 43 = false) :
    Same m0 t0 (State.classArrived s c) := by
  unfold State.classArrived; try dsimp only
  repeat' split
  all_goals first | done | simp (maxDischargeDepth := 60) (decide := true) [hK, h0, h1, h2, h3, h4, h5, h6, h7, h8, h9, h10, h11, h21, h22, h24, h26, h28, h32, h33, h34, h35, h36, h37, h39, h43]

@[simp] theorem State.classesTurn_same {m0 : Nat → Bool} {t0 : State} {s : State} (hK : Same m0 t0 s)
    (h0 : m0 0 = false) (h1 : m0 1 = false) (h2 : m0 2 = false) (h3 : m0 3 = false) (h4 : m0 4 = false) (h5 : m0 5 = false) (h6 : m0 6 = false) (h7 : m0 7 = false) (h8 : m0 8 = false) (h9 : m0 9 = false) (h10 : m0 10 = false) (h11 : m0 11 = false) (h21 : m0 21 = false) (h22 : m0 22 = false) (h24 : m0 24 = false) (h26 : m0 26 = false) (h28 : m0 28 = false) (h32 : m0 32 = false) (h33 : m0 33 = false) (h34 : m0 34 = false) (h35 : m0 35 = false) (h36 : m0 36 = false) (h37 : m0 37 = false) (h39 : m0 39 = false) (h43 : m0 43 = false) :
    Same m0 t0 (State.classesTurn s) := by
  unfold State.classesTurn; try dsimp only
  repeat' split
  all_goals first | done | simp (maxDischargeDepth := 60) (decide := true) [hK, h0, h1, h2, h3, h4, h5, h6, h7, h8, h9, h10, h11, h21, h22, h24, h26, h28, h32, h33, h34, h35, h36, h37, h39, h43]

@[simp] theorem State.bistLimp_same {m0 : Nat → Bool} {t0 : State} {s : State} (hK : Same m0 t0 s)
    (h21 : m0 21 = false) :
    Same m0 t0 (State.bistLimp s) := by
  unfold State.bistLimp; try dsimp only
  repeat' split
  all_goals first | done | simp (maxDischargeDepth := 60) (decide := true) [hK, h21]

/-! ## Machine/Pair.lean -/

@[simp] theorem State.paired_same {m0 : Nat → Bool} {t0 : State} {s : State} (f : State → State) (hK : Same m0 t0 s) (qf : ∀ x, Same m0 x (f x))
     :
    Same m0 t0 (State.paired s f) := by
  unfold State.paired; try dsimp only
  repeat' split
  all_goals first | done | simp (maxDischargeDepth := 60) (decide := true) [hK, qf]

@[simp] theorem State.noteToken_same {m0 : Nat → Bool} {t0 : State} {s : State} (t : Token) (hK : Same m0 t0 s)
    (h4 : m0 4 = false) (h5 : m0 5 = false) (h6 : m0 6 = false) (h7 : m0 7 = false) (h8 : m0 8 = false) :
    Same m0 t0 (State.noteToken s t) := by
  unfold State.noteToken; try dsimp only
  repeat' split
  all_goals first | done | simp (maxDischargeDepth := 60) (decide := true) [hK, h4, h5, h6, h7, h8]

@[simp] theorem State.rehearsed_same {m0 : Nat → Bool} {t0 : State} {s : State} (us : Nat) (hK : Same m0 t0 s)
    (h21 : m0 21 = false) (h37 : m0 37 = false) :
    Same m0 t0 (State.rehearsed s us) := by
  unfold State.rehearsed; try dsimp only
  repeat' split
  all_goals first | done | simp (maxDischargeDepth := 60) (decide := true) [hK, h21, h37]

@[simp] theorem State.compareSession_same {m0 : Nat → Bool} {t0 : State} {s : State} (c : Fin 4) (hK : Same m0 t0 s)
    (h7 : m0 7 = false) (h8 : m0 8 = false) (h24 : m0 24 = false) (h37 : m0 37 = false) :
    Same m0 t0 (State.compareSession s c) := by
  unfold State.compareSession; try dsimp only
  repeat' split
  all_goals first | done | simp (maxDischargeDepth := 60) (decide := true) [hK, h7, h8, h24, h37]

@[simp] theorem State.takeJournal_same {m0 : Nat → Bool} {t0 : State} {s : State} (regs : List (Nat × Val)) (accts : List (Nat × AcctImage)) (hK : Same m0 t0 s)
    (h0 : m0 0 = false) (h1 : m0 1 = false) (h2 : m0 2 = false) (h3 : m0 3 = false) (h4 : m0 4 = false) (h5 : m0 5 = false) (h6 : m0 6 = false) (h7 : m0 7 = false) (h8 : m0 8 = false) (h9 : m0 9 = false) (h10 : m0 10 = false) (h11 : m0 11 = false) (h24 : m0 24 = false) (h37 : m0 37 = false) (h39 : m0 39 = false) (h43 : m0 43 = false) :
    Same m0 t0 (State.takeJournal s regs accts) := by
  unfold State.takeJournal; dsimp only
  repeat' split
  all_goals simp (maxDischargeDepth := 60) (decide := true) [hK, h0, h1, h2, h3, h4, h5, h6, h7, h8, h9, h10, h11, h24, h37, h39, h43]

@[simp] theorem State.takeGrants_same {m0 : Nat → Bool} {t0 : State} {s : State} (epoch : Nat) (ports : List Int) (groups : List Int) (crc : Nat) (hK : Same m0 t0 s)
    (h24 : m0 24 = false) (h37 : m0 37 = false) :
    Same m0 t0 (State.takeGrants s epoch ports groups crc) := by
  unfold State.takeGrants; try dsimp only
  repeat' split
  all_goals first | done | simp (maxDischargeDepth := 60) (decide := true) [hK, h24, h37]

@[simp] theorem State.takeItem_same {m0 : Nat → Bool} {t0 : State} {s : State} (it : MirrorItem) (hK : Same m0 t0 s)
    (h0 : m0 0 = false) (h1 : m0 1 = false) (h2 : m0 2 = false) (h3 : m0 3 = false) (h4 : m0 4 = false) (h5 : m0 5 = false) (h6 : m0 6 = false) (h7 : m0 7 = false) (h8 : m0 8 = false) (h9 : m0 9 = false) (h10 : m0 10 = false) (h11 : m0 11 = false) (h24 : m0 24 = false) (h26 : m0 26 = false) (h27 : m0 27 = false) (h28 : m0 28 = false) (h37 : m0 37 = false) (h39 : m0 39 = false) (h43 : m0 43 = false) :
    Same m0 t0 (State.takeItem s it) := by
  unfold State.takeItem; try dsimp only
  repeat' split
  all_goals first | done | simp (maxDischargeDepth := 60) (decide := true) [hK, h0, h1, h2, h3, h4, h5, h6, h7, h8, h9, h10, h11, h24, h26, h27, h28, h37, h39, h43]

@[simp] theorem State.mirrorAll_same {m0 : Nat → Bool} {t0 : State} {s : State} (hK : Same m0 t0 s)
    (h43 : m0 43 = false) :
    Same m0 t0 (State.mirrorAll s) := by
  unfold State.mirrorAll; try dsimp only
  repeat' split
  all_goals first | done | simp (maxDischargeDepth := 60) (decide := true) [hK, h43]

@[simp] theorem State.handover_same {m0 : Nat → Bool} {t0 : State} {s : State} (hK : Same m0 t0 s)
    (h7 : m0 7 = false) (h8 : m0 8 = false) (h24 : m0 24 = false) (h39 : m0 39 = false) (h42 : m0 42 = false) :
    Same m0 t0 (State.handover s) := by
  unfold State.handover; try dsimp only
  repeat' split
  all_goals first | done | simp (maxDischargeDepth := 60) (decide := true) [hK, h7, h8, h24, h39, h42]

@[simp] theorem State.adoptLoop_same {m0 : Nat → Bool} {t0 : State} {s : State} (e : Fin 38) (hK : Same m0 t0 s)
    (h2 : m0 2 = false) (h3 : m0 3 = false) (h4 : m0 4 = false) (h5 : m0 5 = false) (h6 : m0 6 = false) (h7 : m0 7 = false) (h8 : m0 8 = false) (h26 : m0 26 = false) (h27 : m0 27 = false) (h28 : m0 28 = false) :
    Same m0 t0 (State.adoptLoop s e) := by
  unfold State.adoptLoop; try dsimp only
  repeat' split
  all_goals first | done | simp (maxDischargeDepth := 60) (decide := true) [hK, h2, h3, h4, h5, h6, h7, h8, h26, h27, h28]

@[simp] theorem State.adoptRoute_same {m0 : Nat → Bool} {t0 : State} {s : State} (g : Fin 4) (hK : Same m0 t0 s)
    (h2 : m0 2 = false) (h3 : m0 3 = false) (h4 : m0 4 = false) (h5 : m0 5 = false) (h6 : m0 6 = false) (h7 : m0 7 = false) (h8 : m0 8 = false) (h24 : m0 24 = false) (h28 : m0 28 = false) (h36 : m0 36 = false) (h43 : m0 43 = false) :
    Same m0 t0 (State.adoptRoute s g) := by
  unfold State.adoptRoute; try dsimp only
  repeat' split
  all_goals first | done | simp (maxDischargeDepth := 60) (decide := true) [hK, h2, h3, h4, h5, h6, h7, h8, h24, h28, h36, h43]

@[simp] theorem State.adoptGrants_same {m0 : Nat → Bool} {t0 : State} {s : State} (hK : Same m0 t0 s)
    (h3 : m0 3 = false) (h4 : m0 4 = false) (h5 : m0 5 = false) (h6 : m0 6 = false) (h7 : m0 7 = false) (h8 : m0 8 = false) (h32 : m0 32 = false) :
    Same m0 t0 (State.adoptGrants s) := by
  unfold State.adoptGrants; try dsimp only
  repeat' split
  all_goals first | done | simp (maxDischargeDepth := 60) (decide := true) [hK, h3, h4, h5, h6, h7, h8, h32]

@[simp] theorem State.adoptRegisters_same {m0 : Nat → Bool} {t0 : State} {s : State} (c : Fin 4) (hK : Same m0 t0 s)
    (h0 : m0 0 = false) (h1 : m0 1 = false) (h2 : m0 2 = false) (h3 : m0 3 = false) (h4 : m0 4 = false) (h5 : m0 5 = false) (h6 : m0 6 = false) (h7 : m0 7 = false) (h8 : m0 8 = false) (h9 : m0 9 = false) (h10 : m0 10 = false) (h11 : m0 11 = false) (h21 : m0 21 = false) (h24 : m0 24 = false) (h26 : m0 26 = false) (h28 : m0 28 = false) (h32 : m0 32 = false) (h34 : m0 34 = false) (h35 : m0 35 = false) (h36 : m0 36 = false) (h39 : m0 39 = false) (h43 : m0 43 = false) :
    Same m0 t0 (State.adoptRegisters s c) := by
  unfold State.adoptRegisters; try dsimp only
  repeat' split
  all_goals first | done | simp (maxDischargeDepth := 60) (decide := true) [hK, h0, h1, h2, h3, h4, h5, h6, h7, h8, h9, h10, h11, h21, h24, h26, h28, h32, h34, h35, h36, h39, h43]

@[simp] theorem State.adoptIdent_same {m0 : Nat → Bool} {t0 : State} {s : State} (o : Fin 4) (hK : Same m0 t0 s)
    (h5 : m0 5 = false) (h6 : m0 6 = false) (h7 : m0 7 = false) (h8 : m0 8 = false) (h34 : m0 34 = false) :
    Same m0 t0 (State.adoptIdent s o) := by
  unfold State.adoptIdent; try dsimp only
  repeat' split
  all_goals first | done | simp (maxDischargeDepth := 60) (decide := true) [hK, h5, h6, h7, h8, h34]

@[simp] theorem State.adoptSession_same {m0 : Nat → Bool} {t0 : State} {s : State} (o : Fin 4) (hK : Same m0 t0 s)
    (h0 : m0 0 = false) (h1 : m0 1 = false) (h2 : m0 2 = false) (h3 : m0 3 = false) (h4 : m0 4 = false) (h5 : m0 5 = false) (h6 : m0 6 = false) (h7 : m0 7 = false) (h8 : m0 8 = false) (h9 : m0 9 = false) (h10 : m0 10 = false) (h11 : m0 11 = false) (h21 : m0 21 = false) (h24 : m0 24 = false) (h26 : m0 26 = false) (h28 : m0 28 = false) (h32 : m0 32 = false) (h33 : m0 33 = false) (h34 : m0 34 = false) (h35 : m0 35 = false) (h36 : m0 36 = false) (h39 : m0 39 = false) (h43 : m0 43 = false) :
    Same m0 t0 (State.adoptSession s o) := by
  unfold State.adoptSession; try dsimp only
  repeat' split
  all_goals first | done | simp (maxDischargeDepth := 60) (decide := true) [hK, h0, h1, h2, h3, h4, h5, h6, h7, h8, h9, h10, h11, h21, h24, h26, h28, h32, h33, h34, h35, h36, h39, h43]

@[simp] theorem State.takeBurgee_same {m0 : Nat → Bool} {t0 : State} {s : State} (gap : Nat) (hK : Same m0 t0 s)
    (h0 : m0 0 = false) (h1 : m0 1 = false) (h2 : m0 2 = false) (h3 : m0 3 = false) (h4 : m0 4 = false) (h5 : m0 5 = false) (h6 : m0 6 = false) (h7 : m0 7 = false) (h8 : m0 8 = false) (h9 : m0 9 = false) (h10 : m0 10 = false) (h11 : m0 11 = false) (h21 : m0 21 = false) (h22 : m0 22 = false) (h24 : m0 24 = false) (h26 : m0 26 = false) (h27 : m0 27 = false) (h28 : m0 28 = false) (h32 : m0 32 = false) (h33 : m0 33 = false) (h34 : m0 34 = false) (h35 : m0 35 = false) (h36 : m0 36 = false) (h37 : m0 37 = false) (h39 : m0 39 = false) (h42 : m0 42 = false) (h43 : m0 43 = false) :
    Same m0 t0 (State.takeBurgee s gap) := by
  unfold State.takeBurgee; try dsimp only
  repeat' split
  all_goals first | done | simp (maxDischargeDepth := 60) (decide := true) [hK, h0, h1, h2, h3, h4, h5, h6, h7, h8, h9, h10, h11, h21, h22, h24, h26, h27, h28, h32, h33, h34, h35, h36, h37, h39, h42, h43]

@[simp] theorem State.rehearsal_same {m0 : Nat → Bool} {t0 : State} {s : State} (hK : Same m0 t0 s)
    (h21 : m0 21 = false) (h37 : m0 37 = false) :
    Same m0 t0 (State.rehearsal s) := by
  unfold State.rehearsal; try dsimp only
  repeat' split
  all_goals first | done | simp (maxDischargeDepth := 60) (decide := true) [hK, h21, h37]

@[simp] theorem State.abortRehearsal_same {m0 : Nat → Bool} {t0 : State} {s : State} (hK : Same m0 t0 s)
    (h21 : m0 21 = false) (h37 : m0 37 = false) :
    Same m0 t0 (State.abortRehearsal s) := by
  unfold State.abortRehearsal; try dsimp only
  repeat' split
  all_goals first | done | simp (maxDischargeDepth := 60) (decide := true) [hK, h21, h37]

@[simp] theorem State.pairCommitted_same {m0 : Nat → Bool} {t0 : State} {s : State} (old : Nat) (hK : Same m0 t0 s)
    (h0 : m0 0 = false) (h1 : m0 1 = false) (h2 : m0 2 = false) (h3 : m0 3 = false) (h4 : m0 4 = false) (h5 : m0 5 = false) (h6 : m0 6 = false) (h7 : m0 7 = false) (h8 : m0 8 = false) (h9 : m0 9 = false) (h10 : m0 10 = false) (h11 : m0 11 = false) (h21 : m0 21 = false) (h22 : m0 22 = false) (h24 : m0 24 = false) (h26 : m0 26 = false) (h28 : m0 28 = false) (h32 : m0 32 = false) (h33 : m0 33 = false) (h34 : m0 34 = false) (h35 : m0 35 = false) (h36 : m0 36 = false) (h37 : m0 37 = false) (h39 : m0 39 = false) (h43 : m0 43 = false) :
    Same m0 t0 (State.pairCommitted s old) := by
  unfold State.pairCommitted; try dsimp only
  repeat' split
  all_goals first | done | simp (maxDischargeDepth := 60) (decide := true) [hK, h0, h1, h2, h3, h4, h5, h6, h7, h8, h9, h10, h11, h21, h22, h24, h26, h28, h32, h33, h34, h35, h36, h37, h39, h43]

/-! ## Machine/Voner.lean -/

@[simp] theorem State.setSlave_same {m0 : Nat → Bool} {t0 : State} {s : State} (n : Nat) (x : VonSlave) (hK : Same m0 t0 s)
    (h38 : m0 38 = false) :
    Same m0 t0 (State.setSlave s n x) := by
  unfold State.setSlave; try dsimp only
  repeat' split
  all_goals first | done | simp (maxDischargeDepth := 60) (decide := true) [hK, h38]

@[simp] theorem State.slaveFollows_same {m0 : Nat → Bool} {t0 : State} {s : State} (n : Nat) (hK : Same m0 t0 s)
    (h38 : m0 38 = false) :
    Same m0 t0 (State.slaveFollows s n) := by
  unfold State.slaveFollows; try dsimp only
  repeat' split
  all_goals first | done | simp (maxDischargeDepth := 60) (decide := true) [hK, h38]

@[simp] theorem State.slavesFollow_same {m0 : Nat → Bool} {t0 : State} {s : State} (hK : Same m0 t0 s)
    (h38 : m0 38 = false) :
    Same m0 t0 (State.slavesFollow s) := by
  unfold State.slavesFollow; try dsimp only
  repeat' split
  all_goals first | done | simp (maxDischargeDepth := 60) (decide := true) [hK, h38]

@[simp] theorem State.allDue_same {m0 : Nat → Bool} {t0 : State} {s : State} (hK : Same m0 t0 s)
    (h38 : m0 38 = false) :
    Same m0 t0 (State.allDue s) := by
  unfold State.allDue; try dsimp only
  repeat' split
  all_goals first | done | simp (maxDischargeDepth := 60) (decide := true) [hK, h38]

@[simp] theorem State.onePath_same {m0 : Nat → Bool} {t0 : State} {s : State} (hK : Same m0 t0 s)
     :
    Same m0 t0 (State.onePath s) := by
  unfold State.onePath; try dsimp only
  repeat' split
  all_goals first | done | simp (maxDischargeDepth := 60) (decide := true) [hK]

@[simp] theorem State.vonCommitted_same {m0 : Nat → Bool} {t0 : State} {s : State} (hK : Same m0 t0 s)
    (h38 : m0 38 = false) :
    Same m0 t0 (State.vonCommitted s) := by
  unfold State.vonCommitted; try dsimp only
  repeat' split
  all_goals first | done | simp (maxDischargeDepth := 60) (decide := true) [hK, h38]

@[simp] theorem State.vonSend_same {m0 : Nat → Bool} {t0 : State} {s : State} (addr : Nat) (typ : Nat) (seqs : Nat) (data : List Byte) (hK : Same m0 t0 s)
    (h43 : m0 43 = false) :
    Same m0 t0 (State.vonSend s addr typ seqs data) := by
  unfold State.vonSend; try dsimp only
  repeat' split
  all_goals first | done | simp (maxDischargeDepth := 60) (decide := true) [hK, h43]

@[simp] theorem State.vonPoll_same {m0 : Nat → Bool} {t0 : State} {s : State} (n : Nat) (k : Nat) (hK : Same m0 t0 s)
    (h38 : m0 38 = false) (h43 : m0 43 = false) :
    Same m0 t0 (State.vonPoll s n k) := by
  unfold State.vonPoll; try dsimp only
  repeat' split
  all_goals first | done | simp (maxDischargeDepth := 60) (decide := true) [hK, h38, h43]

@[simp] theorem State.vonMaster_same {m0 : Nat → Bool} {t0 : State} {s : State} (hK : Same m0 t0 s)
    (h38 : m0 38 = false) (h43 : m0 43 = false) :
    Same m0 t0 (State.vonMaster s) := by
  unfold State.vonMaster; try dsimp only
  repeat' split
  all_goals first | done | simp (maxDischargeDepth := 60) (decide := true) [hK, h38, h43]

@[simp] theorem State.notePaths_same {m0 : Nat → Bool} {t0 : State} {s : State} (l : List VonPath) (hK : Same m0 t0 s)
     :
    Same m0 t0 (State.notePaths s l) := by
  unfold State.notePaths; try dsimp only
  repeat' split
  all_goals first | done | simp (maxDischargeDepth := 60) (decide := true) [hK]

@[simp] theorem State.vonGood_same {m0 : Nat → Bool} {t0 : State} {s : State} (n : Nat) (dseq : Nat) (w : List Byte) (hK : Same m0 t0 s)
    (h24 : m0 24 = false) (h38 : m0 38 = false) :
    Same m0 t0 (State.vonGood s n dseq w) := by
  unfold State.vonGood; try dsimp only
  repeat' split
  all_goals first | done | simp (maxDischargeDepth := 60) (decide := true) [hK, h24, h38]

@[simp] theorem State.vonMissed_same {m0 : Nat → Bool} {t0 : State} {s : State} (n : Nat) (k : Nat) (hK : Same m0 t0 s)
    (h24 : m0 24 = false) (h38 : m0 38 = false) :
    Same m0 t0 (State.vonMissed s n k) := by
  unfold State.vonMissed; try dsimp only
  repeat' split
  all_goals first | done | simp (maxDischargeDepth := 60) (decide := true) [hK, h24, h38]

@[simp] theorem State.vonTries_same {m0 : Nat → Bool} {t0 : State} {s : State} (n : Nat) (hK : Same m0 t0 s)
    (h24 : m0 24 = false) (h38 : m0 38 = false) :
    Same m0 t0 (State.vonTries s n) := by
  unfold State.vonTries; try dsimp only
  repeat' split
  all_goals first | done | simp (maxDischargeDepth := 60) (decide := true) [hK, h24, h38]

@[simp] theorem State.vonJudge_same {m0 : Nat → Bool} {t0 : State} {s : State} (paths : List VonPath) (word : Option (List Byte)) (hK : Same m0 t0 s)
    (h24 : m0 24 = false) (h38 : m0 38 = false) :
    Same m0 t0 (State.vonJudge s paths word) := by
  unfold State.vonJudge; try dsimp only
  repeat' split
  all_goals first | done | simp (maxDischargeDepth := 60) (decide := true) [hK, h24, h38]

@[simp] theorem State.vonBoxEffect_same {m0 : Nat → Bool} {t0 : State} {s : State} (data : List Byte) (hK : Same m0 t0 s)
    (h38 : m0 38 = false) :
    Same m0 t0 (State.vonBoxEffect s data) := by
  unfold State.vonBoxEffect; try dsimp only
  repeat' split
  all_goals first | done | simp (maxDischargeDepth := 60) (decide := true) [hK, h38]

/-! ## Machine/Update.lean -/

@[simp] theorem State.enterReset_same {m0 : Nat → Bool} {t0 : State} {s : State} (cause : Nat) (hK : Same m0 t0 s)
    (h0 : m0 0 = false) (h1 : m0 1 = false) (h2 : m0 2 = false) (h3 : m0 3 = false) (h4 : m0 4 = false) (h5 : m0 5 = false) (h6 : m0 6 = false) (h7 : m0 7 = false) (h8 : m0 8 = false) (h9 : m0 9 = false) (h10 : m0 10 = false) (h11 : m0 11 = false) (h24 : m0 24 = false) (h26 : m0 26 = false) (h28 : m0 28 = false) (h36 : m0 36 = false) (h39 : m0 39 = false) (h42 : m0 42 = false) (h43 : m0 43 = false) :
    Same m0 t0 (State.enterReset s cause) := by
  unfold State.enterReset; try dsimp only
  repeat' split
  all_goals first | done | simp (maxDischargeDepth := 60) (decide := true) [hK, h0, h1, h2, h3, h4, h5, h6, h7, h8, h9, h10, h11, h24, h26, h28, h36, h39, h42, h43]

@[simp] theorem State.withUpd_same {m0 : Nat → Bool} {t0 : State} {s : State} (u : UpdState) (hK : Same m0 t0 s)
    (h41 : m0 41 = false) :
    Same m0 t0 (State.withUpd s u) := by
  unfold State.withUpd; try dsimp only
  repeat' split
  all_goals first | done | simp (maxDischargeDepth := 60) (decide := true) [hK, h41]

@[simp] theorem State.loadImage_same {m0 : Nat → Bool} {t0 : State} {s : State} (c : Fin 3) (slot : Nat) (hK : Same m0 t0 s)
    (h7 : m0 7 = false) (h8 : m0 8 = false) (h41 : m0 41 = false) :
    Same m0 t0 (State.loadImage s c slot) := by
  unfold State.loadImage; try dsimp only
  repeat' split
  all_goals first | done | simp (maxDischargeDepth := 60) (decide := true) [hK, h7, h8, h41]

@[simp] theorem State.updOpen_same {m0 : Nat → Bool} {t0 : State} {s : State} (hK : Same m0 t0 s)
    (h8 : m0 8 = false) (h41 : m0 41 = false) :
    Same m0 t0 (State.updOpen s) := by
  unfold State.updOpen; try dsimp only
  repeat' split
  all_goals first | done | simp (maxDischargeDepth := 60) (decide := true) [hK, h8, h41]

@[simp] theorem State.updClose_same {m0 : Nat → Bool} {t0 : State} {s : State} (hK : Same m0 t0 s)
    (h41 : m0 41 = false) :
    Same m0 t0 (State.updClose s) := by
  unfold State.updClose; try dsimp only
  repeat' split
  all_goals first | done | simp (maxDischargeDepth := 60) (decide := true) [hK, h41]

@[simp] theorem State.updCancel_same {m0 : Nat → Bool} {t0 : State} {s : State} (hK : Same m0 t0 s)
    (h8 : m0 8 = false) (h41 : m0 41 = false) :
    Same m0 t0 (State.updCancel s) := by
  unfold State.updCancel; try dsimp only
  repeat' split
  all_goals first | done | simp (maxDischargeDepth := 60) (decide := true) [hK, h8, h41]

@[simp] theorem State.updReboot_same {m0 : Nat → Bool} {t0 : State} {s : State} (hK : Same m0 t0 s)
    (h0 : m0 0 = false) (h1 : m0 1 = false) (h2 : m0 2 = false) (h3 : m0 3 = false) (h4 : m0 4 = false) (h5 : m0 5 = false) (h6 : m0 6 = false) (h7 : m0 7 = false) (h8 : m0 8 = false) (h9 : m0 9 = false) (h10 : m0 10 = false) (h11 : m0 11 = false) (h24 : m0 24 = false) (h26 : m0 26 = false) (h28 : m0 28 = false) (h36 : m0 36 = false) (h39 : m0 39 = false) (h42 : m0 42 = false) (h43 : m0 43 = false) :
    Same m0 t0 (State.updReboot s) := by
  unfold State.updReboot; try dsimp only
  repeat' split
  all_goals first | done | simp (maxDischargeDepth := 60) (decide := true) [hK, h0, h1, h2, h3, h4, h5, h6, h7, h8, h9, h10, h11, h24, h26, h28, h36, h39, h42, h43]

@[simp] theorem State.updControlEffect_same {m0 : Nat → Bool} {t0 : State} {s : State} (v : Nat) (hK : Same m0 t0 s)
    (h0 : m0 0 = false) (h1 : m0 1 = false) (h2 : m0 2 = false) (h3 : m0 3 = false) (h4 : m0 4 = false) (h5 : m0 5 = false) (h6 : m0 6 = false) (h7 : m0 7 = false) (h8 : m0 8 = false) (h9 : m0 9 = false) (h10 : m0 10 = false) (h11 : m0 11 = false) (h24 : m0 24 = false) (h26 : m0 26 = false) (h28 : m0 28 = false) (h36 : m0 36 = false) (h39 : m0 39 = false) (h41 : m0 41 = false) (h42 : m0 42 = false) (h43 : m0 43 = false) :
    Same m0 t0 (State.updControlEffect s v) := by
  unfold State.updControlEffect; try dsimp only
  repeat' split
  all_goals first | done | simp (maxDischargeDepth := 60) (decide := true) [hK, h0, h1, h2, h3, h4, h5, h6, h7, h8, h9, h10, h11, h24, h26, h28, h36, h39, h41, h42, h43]

@[simp] theorem State.updChunk_same {m0 : Nat → Bool} {t0 : State} {s : State} (data : List Byte) (hK : Same m0 t0 s)
    (h41 : m0 41 = false) :
    Same m0 t0 (State.updChunk s data).1 := by
  unfold State.updChunk; try dsimp only
  repeat' split
  all_goals first | done | simp (maxDischargeDepth := 60) (decide := true) [hK, h41]

@[simp] theorem State.askGate_same {m0 : Nat → Bool} {t0 : State} {s : State} (r : Nat) (hK : Same m0 t0 s)
    (h8 : m0 8 = false) (h24 : m0 24 = false) (h40 : m0 40 = false) :
    Same m0 t0 (State.askGate s r) := by
  unfold State.askGate; try dsimp only
  repeat' split
  all_goals first | done | simp (maxDischargeDepth := 60) (decide := true) [hK, h8, h24, h40]

@[simp] theorem State.updVerified_same {m0 : Nat → Bool} {t0 : State} {s : State} (hK : Same m0 t0 s)
    (h8 : m0 8 = false) (h24 : m0 24 = false) (h40 : m0 40 = false) (h41 : m0 41 = false) :
    Same m0 t0 (State.updVerified s) := by
  unfold State.updVerified; try dsimp only
  repeat' split
  all_goals first | done | simp (maxDischargeDepth := 60) (decide := true) [hK, h8, h24, h40, h41]

@[simp] theorem State.slotConfirmEffect_same {m0 : Nat → Bool} {t0 : State} {s : State} (mask : Nat) (hK : Same m0 t0 s)
     :
    Same m0 t0 (State.slotConfirmEffect s mask) := by
  unfold State.slotConfirmEffect; try dsimp only
  repeat' split
  all_goals first | done | simp (maxDischargeDepth := 60) (decide := true) [hK]

@[simp] theorem State.svnAdvanceEffect_same {m0 : Nat → Bool} {t0 : State} {s : State} (v : Nat) (hK : Same m0 t0 s)
    (h8 : m0 8 = false) :
    Same m0 t0 (State.svnAdvanceEffect s v) := by
  unfold State.svnAdvanceEffect; try dsimp only
  repeat' split
  all_goals first | done | simp (maxDischargeDepth := 60) (decide := true) [hK, h8]

@[simp] theorem State.journalSlot_same {m0 : Nat → Bool} {t0 : State} {s : State} (c : Fin 3) (hK : Same m0 t0 s)
     :
    Same m0 t0 (State.journalSlot s c) := by
  unfold State.journalSlot; try dsimp only
  repeat' split
  all_goals first | done | simp (maxDischargeDepth := 60) (decide := true) [hK]

@[simp] theorem State.slotSwitch_same {m0 : Nat → Bool} {t0 : State} {s : State} (arg : Nat) (hK : Same m0 t0 s)
    (h21 : m0 21 = false) (h41 : m0 41 = false) :
    Same m0 t0 (State.slotSwitch s arg) := by
  unfold State.slotSwitch; try dsimp only
  repeat' split
  all_goals first | done | simp (maxDischargeDepth := 60) (decide := true) [hK, h21, h41]

@[simp] theorem State.loopDark_same {m0 : Nat → Bool} {t0 : State} {s : State} (hK : Same m0 t0 s)
    (h0 : m0 0 = false) (h1 : m0 1 = false) (h2 : m0 2 = false) (h3 : m0 3 = false) (h4 : m0 4 = false) (h5 : m0 5 = false) (h6 : m0 6 = false) (h7 : m0 7 = false) (h8 : m0 8 = false) (h9 : m0 9 = false) (h10 : m0 10 = false) (h11 : m0 11 = false) (h26 : m0 26 = false) :
    Same m0 t0 (State.loopDark s) := by
  unfold State.loopDark; try dsimp only
  repeat' split
  all_goals first | done | simp (maxDischargeDepth := 60) (decide := true) [hK, h0, h1, h2, h3, h4, h5, h6, h7, h8, h9, h10, h11, h26]

@[simp] theorem State.switchNow_same {m0 : Nat → Bool} {t0 : State} {s : State} (hK : Same m0 t0 s)
    (h0 : m0 0 = false) (h1 : m0 1 = false) (h2 : m0 2 = false) (h3 : m0 3 = false) (h4 : m0 4 = false) (h5 : m0 5 = false) (h6 : m0 6 = false) (h7 : m0 7 = false) (h8 : m0 8 = false) (h9 : m0 9 = false) (h10 : m0 10 = false) (h11 : m0 11 = false) (h21 : m0 21 = false) (h26 : m0 26 = false) (h37 : m0 37 = false) (h41 : m0 41 = false) (h43 : m0 43 = false) :
    Same m0 t0 (State.switchNow s) := by
  unfold State.switchNow; try dsimp only
  repeat' split
  all_goals first | done | simp (maxDischargeDepth := 60) (decide := true) [hK, h0, h1, h2, h3, h4, h5, h6, h7, h8, h9, h10, h11, h21, h26, h37, h41, h43]

@[simp] theorem State.abortSwitch_same {m0 : Nat → Bool} {t0 : State} {s : State} (hK : Same m0 t0 s)
    (h21 : m0 21 = false) (h41 : m0 41 = false) :
    Same m0 t0 (State.abortSwitch s) := by
  unfold State.abortSwitch; try dsimp only
  repeat' split
  all_goals first | done | simp (maxDischargeDepth := 60) (decide := true) [hK, h21, h41]

@[simp] theorem State.blackoutEnd_same {m0 : Nat → Bool} {t0 : State} {s : State} (c : Fin 2) (us : Nat) (hK : Same m0 t0 s)
    (h4 : m0 4 = false) (h5 : m0 5 = false) (h6 : m0 6 = false) (h7 : m0 7 = false) (h8 : m0 8 = false) (h21 : m0 21 = false) (h37 : m0 37 = false) (h41 : m0 41 = false) (h43 : m0 43 = false) :
    Same m0 t0 (State.blackoutEnd s c us) := by
  unfold State.blackoutEnd; try dsimp only
  repeat' split
  all_goals first | done | simp (maxDischargeDepth := 60) (decide := true) [hK, h4, h5, h6, h7, h8, h21, h37, h41, h43]

@[simp] theorem State.archiveTested_same {m0 : Nat → Bool} {t0 : State} {s : State} (hK : Same m0 t0 s)
    (h24 : m0 24 = false) :
    Same m0 t0 (State.archiveTested s) := by
  unfold State.archiveTested; try dsimp only
  repeat' split
  all_goals first | done | simp (maxDischargeDepth := 60) (decide := true) [hK, h24]

@[simp] theorem State.bistBegins_same {m0 : Nat → Bool} {t0 : State} {s : State} (t : Nat) (kind : Nat) (hK : Same m0 t0 s)
    (h5 : m0 5 = false) (h6 : m0 6 = false) (h7 : m0 7 = false) (h8 : m0 8 = false) (h24 : m0 24 = false) (h35 : m0 35 = false) (h36 : m0 36 = false) (h40 : m0 40 = false) (h41 : m0 41 = false) (h43 : m0 43 = false) :
    Same m0 t0 (State.bistBegins s t kind) := by
  unfold State.bistBegins; try dsimp only
  repeat' split
  all_goals first | done | simp (maxDischargeDepth := 60) (decide := true) [hK, h5, h6, h7, h8, h24, h35, h36, h40, h41, h43]

@[simp] theorem State.bistEnds_same {m0 : Nat → Bool} {t0 : State} {s : State} (hK : Same m0 t0 s)
    (h2 : m0 2 = false) (h3 : m0 3 = false) (h4 : m0 4 = false) (h5 : m0 5 = false) (h6 : m0 6 = false) (h7 : m0 7 = false) (h8 : m0 8 = false) (h24 : m0 24 = false) (h27 : m0 27 = false) (h32 : m0 32 = false) (h33 : m0 33 = false) (h35 : m0 35 = false) (h36 : m0 36 = false) (h42 : m0 42 = false) (h43 : m0 43 = false) :
    Same m0 t0 (State.bistEnds s) := by
  unfold State.bistEnds; try dsimp only
  repeat' split
  all_goals first | done | simp (maxDischargeDepth := 60) (decide := true) [hK, h2, h3, h4, h5, h6, h7, h8, h24, h27, h32, h33, h35, h36, h42, h43]

@[simp] theorem State.bist_same {m0 : Nat → Bool} {t0 : State} {s : State} (kind : Nat) (hK : Same m0 t0 s)
    (h5 : m0 5 = false) (h6 : m0 6 = false) (h7 : m0 7 = false) (h8 : m0 8 = false) (h21 : m0 21 = false) (h24 : m0 24 = false) (h35 : m0 35 = false) (h36 : m0 36 = false) (h40 : m0 40 = false) (h41 : m0 41 = false) (h43 : m0 43 = false) :
    Same m0 t0 (State.bist s kind) := by
  unfold State.bist; try dsimp only
  repeat' split
  all_goals first | done | simp (maxDischargeDepth := 60) (decide := true) [hK, h5, h6, h7, h8, h21, h24, h35, h36, h40, h41, h43]

@[simp] theorem State.bistReadbacks_same {m0 : Nat → Bool} {t0 : State} {s : State} (t : Nat) (kind : Nat) (misr : Nat) (children : List Nat) (origin : Nat) (hK : Same m0 t0 s)
     :
    Same m0 t0 (State.bistReadbacks s t kind misr children origin) := by
  unfold State.bistReadbacks; try dsimp only
  repeat' split
  all_goals first | done | simp (maxDischargeDepth := 60) (decide := true) [hK]

@[simp] theorem State.bistDone_same {m0 : Nat → Bool} {t0 : State} {s : State} (misr : Nat) (children : List Nat) (hK : Same m0 t0 s)
    (h2 : m0 2 = false) (h3 : m0 3 = false) (h4 : m0 4 = false) (h5 : m0 5 = false) (h6 : m0 6 = false) (h7 : m0 7 = false) (h8 : m0 8 = false) (h21 : m0 21 = false) (h24 : m0 24 = false) (h27 : m0 27 = false) (h32 : m0 32 = false) (h33 : m0 33 = false) (h35 : m0 35 = false) (h36 : m0 36 = false) (h40 : m0 40 = false) (h41 : m0 41 = false) (h42 : m0 42 = false) (h43 : m0 43 = false) :
    Same m0 t0 (State.bistDone s misr children) := by
  unfold State.bistDone; try dsimp only
  repeat' split
  all_goals first | done | simp (maxDischargeDepth := 60) (decide := true) [hK, h2, h3, h4, h5, h6, h7, h8, h21, h24, h27, h32, h33, h35, h36, h40, h41, h42, h43]

@[simp] theorem State.abortBist_same {m0 : Nat → Bool} {t0 : State} {s : State} (hK : Same m0 t0 s)
    (h5 : m0 5 = false) (h6 : m0 6 = false) (h7 : m0 7 = false) (h8 : m0 8 = false) (h21 : m0 21 = false) (h24 : m0 24 = false) (h35 : m0 35 = false) (h36 : m0 36 = false) (h40 : m0 40 = false) (h41 : m0 41 = false) (h43 : m0 43 = false) :
    Same m0 t0 (State.abortBist s) := by
  unfold State.abortBist; try dsimp only
  repeat' split
  all_goals first | done | simp (maxDischargeDepth := 60) (decide := true) [hK, h5, h6, h7, h8, h21, h24, h35, h36, h40, h41, h43]

@[simp] theorem State.tapInstruction_same {m0 : Nat → Bool} {t0 : State} {s : State} (code : Nat) (hK : Same m0 t0 s)
    (h0 : m0 0 = false) (h1 : m0 1 = false) (h2 : m0 2 = false) (h3 : m0 3 = false) (h4 : m0 4 = false) (h5 : m0 5 = false) (h6 : m0 6 = false) (h7 : m0 7 = false) (h8 : m0 8 = false) (h9 : m0 9 = false) (h10 : m0 10 = false) (h11 : m0 11 = false) (h24 : m0 24 = false) (h26 : m0 26 = false) (h28 : m0 28 = false) (h36 : m0 36 = false) (h39 : m0 39 = false) (h42 : m0 42 = false) (h43 : m0 43 = false) :
    Same m0 t0 (State.tapInstruction s code) := by
  unfold State.tapInstruction; try dsimp only
  repeat' split
  all_goals first | done | simp (maxDischargeDepth := 60) (decide := true) [hK, h0, h1, h2, h3, h4, h5, h6, h7, h8, h9, h10, h11, h24, h26, h28, h36, h39, h42, h43]

@[simp] theorem State.svcFault_same {m0 : Nat → Bool} {t0 : State} {s : State} (kind : Nat) (hK : Same m0 t0 s)
    (h21 : m0 21 = false) :
    Same m0 t0 (State.svcFault s kind) := by
  unfold State.svcFault; try dsimp only
  repeat' split
  all_goals first | done | simp (maxDischargeDepth := 60) (decide := true) [hK, h21]

@[simp] theorem State.svcRequest_same {m0 : Nat → Bool} {t0 : State} {s : State} (bs : List Byte) (hK : Same m0 t0 s)
    (h21 : m0 21 = false) :
    Same m0 t0 (State.svcRequest s bs) := by
  unfold State.svcRequest; try dsimp only
  repeat' split
  all_goals first | done | simp (maxDischargeDepth := 60) (decide := true) [hK, h21]

/-! ## Machine/Power.lean -/

@[simp] theorem State.withPower_same {m0 : Nat → Bool} {t0 : State} {s : State} (p : PowerState) (hK : Same m0 t0 s)
    (h42 : m0 42 = false) :
    Same m0 t0 (State.withPower s p) := by
  unfold State.withPower; try dsimp only
  repeat' split
  all_goals first | done | simp (maxDischargeDepth := 60) (decide := true) [hK, h42]

@[simp] theorem State.copyLoops_same {m0 : Nat → Bool} {t0 : State} {s : State} (hK : Same m0 t0 s)
    (h42 : m0 42 = false) :
    Same m0 t0 (State.copyLoops s) := by
  unfold State.copyLoops; try dsimp only
  repeat' split
  all_goals first | done | simp (maxDischargeDepth := 60) (decide := true) [hK, h42]

@[simp] theorem State.preLoss_same {m0 : Nat → Bool} {t0 : State} {s : State} (hK : Same m0 t0 s)
    (h0 : m0 0 = false) (h1 : m0 1 = false) (h2 : m0 2 = false) (h3 : m0 3 = false) (h4 : m0 4 = false) (h5 : m0 5 = false) (h6 : m0 6 = false) (h7 : m0 7 = false) (h8 : m0 8 = false) (h9 : m0 9 = false) :
    Same m0 t0 (State.preLoss s) := by
  unfold State.preLoss; try dsimp only
  repeat' split
  all_goals first | done | simp (maxDischargeDepth := 60) (decide := true) [hK, h0, h1, h2, h3, h4, h5, h6, h7, h8, h9]

@[simp] theorem State.driversLow_same {m0 : Nat → Bool} {t0 : State} {s : State} (hK : Same m0 t0 s)
    (h0 : m0 0 = false) (h1 : m0 1 = false) (h2 : m0 2 = false) (h3 : m0 3 = false) (h4 : m0 4 = false) (h5 : m0 5 = false) (h6 : m0 6 = false) (h7 : m0 7 = false) (h8 : m0 8 = false) (h9 : m0 9 = false) (h10 : m0 10 = false) (h11 : m0 11 = false) (h26 : m0 26 = false) (h28 : m0 28 = false) :
    Same m0 t0 (State.driversLow s) := by
  unfold State.driversLow; try dsimp only
  repeat' split
  all_goals first | done | simp (maxDischargeDepth := 60) (decide := true) [hK, h0, h1, h2, h3, h4, h5, h6, h7, h8, h9, h10, h11, h26, h28]

@[simp] theorem State.modeWordEffect_same {m0 : Nat → Bool} {t0 : State} {s : State} (v : Nat) (hK : Same m0 t0 s)
    (h0 : m0 0 = false) (h1 : m0 1 = false) (h2 : m0 2 = false) (h3 : m0 3 = false) (h4 : m0 4 = false) (h5 : m0 5 = false) (h6 : m0 6 = false) (h7 : m0 7 = false) (h8 : m0 8 = false) (h9 : m0 9 = false) (h10 : m0 10 = false) (h11 : m0 11 = false) (h21 : m0 21 = false) (h22 : m0 22 = false) (h24 : m0 24 = false) (h26 : m0 26 = false) (h28 : m0 28 = false) (h32 : m0 32 = false) (h33 : m0 33 = false) (h34 : m0 34 = false) (h35 : m0 35 = false) (h36 : m0 36 = false) (h37 : m0 37 = false) (h39 : m0 39 = false) (h42 : m0 42 = false) (h43 : m0 43 = false) :
    Same m0 t0 (State.modeWordEffect s v) := by
  unfold State.modeWordEffect; try dsimp only
  repeat' split
  all_goals first | done | simp (maxDischargeDepth := 60) (decide := true) [hK, h0, h1, h2, h3, h4, h5, h6, h7, h8, h9, h10, h11, h21, h22, h24, h26, h28, h32, h33, h34, h35, h36, h37, h39, h42, h43]

@[simp] theorem State.wakeNow_same {m0 : Nat → Bool} {t0 : State} {s : State} (source : Nat) (hK : Same m0 t0 s)
    (h6 : m0 6 = false) (h7 : m0 7 = false) (h8 : m0 8 = false) (h22 : m0 22 = false) (h24 : m0 24 = false) (h36 : m0 36 = false) (h42 : m0 42 = false) :
    Same m0 t0 (State.wakeNow s source) := by
  unfold State.wakeNow; try dsimp only
  repeat' split
  all_goals first | done | simp (maxDischargeDepth := 60) (decide := true) [hK, h6, h7, h8, h22, h24, h36, h42]

@[simp] theorem State.powerRemoved_same {m0 : Nat → Bool} {t0 : State} {s : State} (hK : Same m0 t0 s)
    (h0 : m0 0 = false) (h1 : m0 1 = false) (h2 : m0 2 = false) (h3 : m0 3 = false) (h4 : m0 4 = false) (h5 : m0 5 = false) (h6 : m0 6 = false) (h7 : m0 7 = false) (h8 : m0 8 = false) (h9 : m0 9 = false) (h10 : m0 10 = false) (h11 : m0 11 = false) (h22 : m0 22 = false) (h24 : m0 24 = false) (h26 : m0 26 = false) (h28 : m0 28 = false) (h36 : m0 36 = false) (h42 : m0 42 = false) :
    Same m0 t0 (State.powerRemoved s) := by
  unfold State.powerRemoved; try dsimp only
  repeat' split
  all_goals first | done | simp (maxDischargeDepth := 60) (decide := true) [hK, h0, h1, h2, h3, h4, h5, h6, h7, h8, h9, h10, h11, h22, h24, h26, h28, h36, h42]

@[simp] theorem State.vaultStepMade_same {m0 : Nat → Bool} {t0 : State} {s : State} (step : Nat) (hK : Same m0 t0 s)
    (h0 : m0 0 = false) (h1 : m0 1 = false) (h2 : m0 2 = false) (h3 : m0 3 = false) (h4 : m0 4 = false) (h5 : m0 5 = false) (h6 : m0 6 = false) (h7 : m0 7 = false) (h8 : m0 8 = false) (h9 : m0 9 = false) (h10 : m0 10 = false) (h11 : m0 11 = false) (h20 : m0 20 = false) (h21 : m0 21 = false) (h22 : m0 22 = false) (h24 : m0 24 = false) (h26 : m0 26 = false) (h28 : m0 28 = false) (h33 : m0 33 = false) (h36 : m0 36 = false) (h37 : m0 37 = false) (h39 : m0 39 = false) (h42 : m0 42 = false) (h43 : m0 43 = false) :
    Same m0 t0 (State.vaultStepMade s step) := by
  unfold State.vaultStepMade; try dsimp only
  repeat' split
  all_goals first | done | simp (maxDischargeDepth := 60) (decide := true) [hK, h0, h1, h2, h3, h4, h5, h6, h7, h8, h9, h10, h11, h20, h21, h22, h24, h26, h28, h33, h36, h37, h39, h42, h43]

@[simp] theorem State.bootBase_same {m0 : Nat → Bool} {t0 : State} {s : State} (hK : Same m0 t0 s)
    (h0 : m0 0 = false) (h1 : m0 1 = false) (h2 : m0 2 = false) (h3 : m0 3 = false) (h4 : m0 4 = false) (h5 : m0 5 = false) (h6 : m0 6 = false) (h7 : m0 7 = false) (h8 : m0 8 = false) (h9 : m0 9 = false) (h10 : m0 10 = false) (h11 : m0 11 = false) (h20 : m0 20 = false) (h21 : m0 21 = false) (h22 : m0 22 = false) (h23 : m0 23 = false) (h24 : m0 24 = false) (h25 : m0 25 = false) (h26 : m0 26 = false) (h27 : m0 27 = false) (h28 : m0 28 = false) (h29 : m0 29 = false) (h30 : m0 30 = false) (h31 : m0 31 = false) (h32 : m0 32 = false) (h33 : m0 33 = false) (h34 : m0 34 = false) (h35 : m0 35 = false) (h36 : m0 36 = false) (h37 : m0 37 = false) (h38 : m0 38 = false) (h39 : m0 39 = false) (h40 : m0 40 = false) (h41 : m0 41 = false) (h42 : m0 42 = false) (h43 : m0 43 = false) :
    Same m0 t0 (State.bootBase s) := by
  refine hK.trans ?_
  constructor <;> intro e <;> first | rfl | (exfalso; simp_all)

@[simp] theorem State.bootClocks_same {m0 : Nat → Bool} {t0 : State} {s : State} (hK : Same m0 t0 s)
    (h1 : m0 1 = false) (h2 : m0 2 = false) (h3 : m0 3 = false) (h4 : m0 4 = false) (h5 : m0 5 = false) (h6 : m0 6 = false) (h7 : m0 7 = false) (h8 : m0 8 = false) (h11 : m0 11 = false) :
    Same m0 t0 (State.bootClocks s) := by
  unfold State.bootClocks; try dsimp only
  repeat' split
  all_goals first | done | simp (maxDischargeDepth := 60) (decide := true) [hK, h1, h2, h3, h4, h5, h6, h7, h8, h11]

@[simp] theorem State.bootTrust_same {m0 : Nat → Bool} {t0 : State} {s : State} (rootOk : Bool) (damaged : List Nat) (hK : Same m0 t0 s)
    (h8 : m0 8 = false) (h40 : m0 40 = false) :
    Same m0 t0 (State.bootTrust s rootOk damaged) := by
  unfold State.bootTrust; try dsimp only
  repeat' split
  all_goals first | done | simp (maxDischargeDepth := 60) (decide := true) [hK, h8, h40]

@[simp] theorem State.bootBist_same {m0 : Nat → Bool} {t0 : State} {s : State} (test : Option (Nat × Nat)) (misr : Nat) (children : List Nat) (hK : Same m0 t0 s)
     :
    Same m0 t0 (State.bootBist s test misr children) := by
  unfold State.bootBist; try dsimp only
  repeat' split
  all_goals first | done | simp (maxDischargeDepth := 60) (decide := true) [hK]

@[simp] theorem State.trialFallback_same {m0 : Nat → Bool} {t0 : State} {s : State} (c : Fin 3) (hK : Same m0 t0 s)
    (h8 : m0 8 = false) :
    Same m0 t0 (State.trialFallback s c) := by
  unfold State.trialFallback; try dsimp only
  repeat' split
  all_goals first | done | simp (maxDischargeDepth := 60) (decide := true) [hK, h8]

@[simp] theorem State.bootTrial_same {m0 : Nat → Bool} {t0 : State} {s : State} (cause : Nat) (hK : Same m0 t0 s)
    (h8 : m0 8 = false) :
    Same m0 t0 (State.bootTrial s cause) := by
  unfold State.bootTrial; try dsimp only
  repeat' split
  all_goals first | done | simp (maxDischargeDepth := 60) (decide := true) [hK, h8]

@[simp] theorem State.checkImage_same {m0 : Nat → Bool} {t0 : State} {s : State} (a : Nat) (hK : Same m0 t0 s)
    (h8 : m0 8 = false) :
    Same m0 t0 (State.checkImage s a) := by
  unfold State.checkImage; try dsimp only
  repeat' split
  all_goals first | done | simp (maxDischargeDepth := 60) (decide := true) [hK, h8]

@[simp] theorem State.bootImage_same {m0 : Nat → Bool} {t0 : State} {s : State} (c : Fin 3) (hK : Same m0 t0 s)
    (h7 : m0 7 = false) (h8 : m0 8 = false) (h41 : m0 41 = false) :
    Same m0 t0 (State.bootImage s c) := by
  unfold State.bootImage; try dsimp only
  repeat' split
  all_goals first | done | simp (maxDischargeDepth := 60) (decide := true) [hK, h7, h8, h41]

@[simp] theorem State.bootImages_same {m0 : Nat → Bool} {t0 : State} {s : State} (cause : Nat) (hK : Same m0 t0 s)
    (h7 : m0 7 = false) (h8 : m0 8 = false) (h41 : m0 41 = false) :
    Same m0 t0 (State.bootImages s cause) := by
  unfold State.bootImages; try dsimp only
  repeat' split
  all_goals first | done | simp (maxDischargeDepth := 60) (decide := true) [hK, h7, h8, h41]

@[simp] theorem State.bootJournal_same {m0 : Nat → Bool} {t0 : State} {s : State} (hK : Same m0 t0 s)
    (h0 : m0 0 = false) (h1 : m0 1 = false) (h2 : m0 2 = false) (h3 : m0 3 = false) (h4 : m0 4 = false) (h5 : m0 5 = false) (h6 : m0 6 = false) (h7 : m0 7 = false) (h8 : m0 8 = false) (h10 : m0 10 = false) (h20 : m0 20 = false) (h21 : m0 21 = false) :
    Same m0 t0 (State.bootJournal s) := by
  unfold State.bootJournal; try dsimp only
  repeat' split
  all_goals first | done | simp (maxDischargeDepth := 60) (decide := true) [hK, h0, h1, h2, h3, h4, h5, h6, h7, h8, h10, h20, h21]

@[simp] theorem State.bootStore_same {m0 : Nat → Bool} {t0 : State} {s : State} (hK : Same m0 t0 s)
    (h0 : m0 0 = false) (h1 : m0 1 = false) (h2 : m0 2 = false) (h3 : m0 3 = false) (h4 : m0 4 = false) (h5 : m0 5 = false) (h6 : m0 6 = false) (h7 : m0 7 = false) (h8 : m0 8 = false) (h9 : m0 9 = false) (h10 : m0 10 = false) (h11 : m0 11 = false) (h20 : m0 20 = false) (h21 : m0 21 = false) (h36 : m0 36 = false) :
    Same m0 t0 (State.bootStore s) := by
  unfold State.bootStore; try dsimp only
  repeat' split
  all_goals first | done | simp (maxDischargeDepth := 60) (decide := true) [hK, h0, h1, h2, h3, h4, h5, h6, h7, h8, h9, h10, h11, h20, h21, h36]

@[simp] theorem State.bootApply_same {m0 : Nat → Bool} {t0 : State} {s : State} (hK : Same m0 t0 s)
    (h0 : m0 0 = false) (h1 : m0 1 = false) (h2 : m0 2 = false) (h3 : m0 3 = false) (h4 : m0 4 = false) (h5 : m0 5 = false) (h6 : m0 6 = false) (h7 : m0 7 = false) (h8 : m0 8 = false) (h9 : m0 9 = false) (h10 : m0 10 = false) (h11 : m0 11 = false) (h24 : m0 24 = false) (h26 : m0 26 = false) (h28 : m0 28 = false) (h35 : m0 35 = false) (h36 : m0 36 = false) (h40 : m0 40 = false) (h43 : m0 43 = false) :
    Same m0 t0 (State.bootApply s) := by
  unfold State.bootApply; try dsimp only
  repeat' split
  all_goals first | done | simp (maxDischargeDepth := 60) (decide := true) [hK, h0, h1, h2, h3, h4, h5, h6, h7, h8, h9, h10, h11, h24, h26, h28, h35, h36, h40, h43]

@[simp] theorem State.bootTime_same {m0 : Nat → Bool} {t0 : State} {s : State} (vaultLost : Bool) (hK : Same m0 t0 s)
    (h0 : m0 0 = false) (h1 : m0 1 = false) (h2 : m0 2 = false) (h3 : m0 3 = false) (h4 : m0 4 = false) (h5 : m0 5 = false) (h6 : m0 6 = false) (h7 : m0 7 = false) (h8 : m0 8 = false) (h10 : m0 10 = false) (h39 : m0 39 = false) :
    Same m0 t0 (State.bootTime s vaultLost) := by
  unfold State.bootTime; try dsimp only
  repeat' split
  all_goals first | done | simp (maxDischargeDepth := 60) (decide := true) [hK, h0, h1, h2, h3, h4, h5, h6, h7, h8, h10, h39]

@[simp] theorem State.bootModes_same {m0 : Nat → Bool} {t0 : State} {s : State} (cause : Nat) (hK : Same m0 t0 s)
    (h0 : m0 0 = false) (h1 : m0 1 = false) (h2 : m0 2 = false) (h3 : m0 3 = false) (h4 : m0 4 = false) (h5 : m0 5 = false) (h6 : m0 6 = false) (h7 : m0 7 = false) (h8 : m0 8 = false) (h9 : m0 9 = false) (h11 : m0 11 = false) (h22 : m0 22 = false) (h36 : m0 36 = false) :
    Same m0 t0 (State.bootModes s cause) := by
  unfold State.bootModes; try dsimp only
  repeat' split
  all_goals first | done | simp (maxDischargeDepth := 60) (decide := true) [hK, h0, h1, h2, h3, h4, h5, h6, h7, h8, h9, h11, h22, h36]

@[simp] theorem State.bootCauseRecord_same {m0 : Nat → Bool} {t0 : State} {s : State} (cause : Nat) (hK : Same m0 t0 s)
    (h24 : m0 24 = false) :
    Same m0 t0 (State.bootCauseRecord s cause) := by
  unfold State.bootCauseRecord; try dsimp only
  repeat' split
  all_goals first | done | simp (maxDischargeDepth := 60) (decide := true) [hK, h24]

@[simp] theorem State.bootRestart_same {m0 : Nat → Bool} {t0 : State} {s : State} (cause : Nat) (retained : Bool) (hK : Same m0 t0 s)
    (h7 : m0 7 = false) (h8 : m0 8 = false) (h24 : m0 24 = false) (h39 : m0 39 = false) (h42 : m0 42 = false) (h43 : m0 43 = false) :
    Same m0 t0 (State.bootRestart s cause retained) := by
  unfold State.bootRestart; try dsimp only
  repeat' split
  all_goals first | done | simp (maxDischargeDepth := 60) (decide := true) [hK, h7, h8, h24, h39, h42, h43]

@[simp] theorem State.bootEvents_same {m0 : Nat → Bool} {t0 : State} {s : State} (hK : Same m0 t0 s)
    (h7 : m0 7 = false) (h8 : m0 8 = false) (h24 : m0 24 = false) (h39 : m0 39 = false) (h42 : m0 42 = false) :
    Same m0 t0 (State.bootEvents s) := by
  unfold State.bootEvents; try dsimp only
  repeat' split
  all_goals first | done | simp (maxDischargeDepth := 60) (decide := true) [hK, h7, h8, h24, h39, h42]

@[simp] theorem State.bootLoop_same {m0 : Nat → Bool} {t0 : State} {s : State} (i : Fin 4) (opens : Bool) (hK : Same m0 t0 s)
    (h7 : m0 7 = false) (h8 : m0 8 = false) (h24 : m0 24 = false) (h39 : m0 39 = false) (h42 : m0 42 = false) :
    Same m0 t0 (State.bootLoop s i opens) := by
  unfold State.bootLoop; try dsimp only
  repeat' split
  all_goals first | done | simp (maxDischargeDepth := 60) (decide := true) [hK, h7, h8, h24, h39, h42]

@[simp] theorem State.bootSessionEnd_same {m0 : Nat → Bool} {t0 : State} {s : State} (account : Nat) (c : Fin 4) (hK : Same m0 t0 s)
    (h7 : m0 7 = false) (h8 : m0 8 = false) (h24 : m0 24 = false) (h39 : m0 39 = false) (h42 : m0 42 = false) :
    Same m0 t0 (State.bootSessionEnd s account c) := by
  unfold State.bootSessionEnd; try dsimp only
  repeat' split
  all_goals first | done | simp (maxDischargeDepth := 60) (decide := true) [hK, h7, h8, h24, h39, h42]

@[simp] theorem State.bootLegalFw_same {m0 : Nat → Bool} {t0 : State} {s : State} (hK : Same m0 t0 s)
    (h7 : m0 7 = false) (h8 : m0 8 = false) (h24 : m0 24 = false) (h39 : m0 39 = false) (h41 : m0 41 = false) (h42 : m0 42 = false) :
    Same m0 t0 (State.bootLegalFw s) := by
  unfold State.bootLegalFw; try dsimp only
  repeat' split
  all_goals first | done | simp (maxDischargeDepth := 60) (decide := true) [hK, h7, h8, h24, h39, h41, h42]

@[simp] theorem State.bootRecords_same {m0 : Nat → Bool} {t0 : State} {s : State} (past : BootPast) (loops : Nat) (hK : Same m0 t0 s)
    (h0 : m0 0 = false) (h1 : m0 1 = false) (h2 : m0 2 = false) (h3 : m0 3 = false) (h4 : m0 4 = false) (h5 : m0 5 = false) (h6 : m0 6 = false) (h7 : m0 7 = false) (h8 : m0 8 = false) (h9 : m0 9 = false) (h10 : m0 10 = false) (h11 : m0 11 = false) (h20 : m0 20 = false) (h21 : m0 21 = false) (h24 : m0 24 = false) (h39 : m0 39 = false) (h41 : m0 41 = false) (h42 : m0 42 = false) (h43 : m0 43 = false) :
    Same m0 t0 (State.bootRecords s past loops) := by
  unfold State.bootRecords; try dsimp only
  repeat' split
  all_goals first | done | simp (maxDischargeDepth := 60) (decide := true) [hK, h0, h1, h2, h3, h4, h5, h6, h7, h8, h9, h10, h11, h20, h21, h24, h39, h41, h42, h43]

@[simp] theorem State.bootPennants_same {m0 : Nat → Bool} {t0 : State} {s : State} (committed : Bool) (mismatch : Bool) (fellBack : Bool) (taps : Nat) (hK : Same m0 t0 s)
    (h24 : m0 24 = false) :
    Same m0 t0 (State.bootPennants s committed mismatch fellBack taps) := by
  unfold State.bootPennants; try dsimp only
  repeat' split
  all_goals first | done | simp (maxDischargeDepth := 60) (decide := true) [hK, h24]

@[simp] theorem State.bootStarts_same {m0 : Nat → Bool} {t0 : State} {s : State} (us : Nat) (hK : Same m0 t0 s)
    (h0 : m0 0 = false) (h1 : m0 1 = false) (h2 : m0 2 = false) (h3 : m0 3 = false) (h4 : m0 4 = false) (h5 : m0 5 = false) (h6 : m0 6 = false) (h7 : m0 7 = false) (h8 : m0 8 = false) (h9 : m0 9 = false) (h10 : m0 10 = false) (h11 : m0 11 = false) (h20 : m0 20 = false) (h21 : m0 21 = false) (h22 : m0 22 = false) (h24 : m0 24 = false) (h26 : m0 26 = false) (h28 : m0 28 = false) (h32 : m0 32 = false) (h33 : m0 33 = false) (h34 : m0 34 = false) (h35 : m0 35 = false) (h36 : m0 36 = false) (h37 : m0 37 = false) (h38 : m0 38 = false) (h39 : m0 39 = false) (h42 : m0 42 = false) (h43 : m0 43 = false) :
    Same m0 t0 (State.bootStarts s us) := by
  unfold State.bootStarts; try dsimp only
  repeat' split
  all_goals first | done | simp (maxDischargeDepth := 60) (decide := true) [hK, h0, h1, h2, h3, h4, h5, h6, h7, h8, h9, h10, h11, h20, h21, h22, h24, h26, h28, h32, h33, h34, h35, h36, h37, h38, h39, h42, h43]

@[simp] theorem State.bootedImages_same {m0 : Nat → Bool} {t0 : State} {s : State} (b : BootFacts) (hK : Same m0 t0 s)
    (h0 : m0 0 = false) (h1 : m0 1 = false) (h2 : m0 2 = false) (h3 : m0 3 = false) (h4 : m0 4 = false) (h5 : m0 5 = false) (h6 : m0 6 = false) (h7 : m0 7 = false) (h8 : m0 8 = false) (h9 : m0 9 = false) (h10 : m0 10 = false) (h11 : m0 11 = false) (h20 : m0 20 = false) (h21 : m0 21 = false) (h22 : m0 22 = false) (h23 : m0 23 = false) (h24 : m0 24 = false) (h25 : m0 25 = false) (h26 : m0 26 = false) (h27 : m0 27 = false) (h28 : m0 28 = false) (h29 : m0 29 = false) (h30 : m0 30 = false) (h31 : m0 31 = false) (h32 : m0 32 = false) (h33 : m0 33 = false) (h34 : m0 34 = false) (h35 : m0 35 = false) (h36 : m0 36 = false) (h37 : m0 37 = false) (h38 : m0 38 = false) (h39 : m0 39 = false) (h40 : m0 40 = false) (h41 : m0 41 = false) (h42 : m0 42 = false) (h43 : m0 43 = false) :
    Same m0 t0 (State.bootedImages s b) := by
  unfold State.bootedImages; try dsimp only
  repeat' split
  all_goals first | done | simp (maxDischargeDepth := 60) (decide := true) [hK, h0, h1, h2, h3, h4, h5, h6, h7, h8, h9, h10, h11, h20, h21, h22, h23, h24, h25, h26, h27, h28, h29, h30, h31, h32, h33, h34, h35, h36, h37, h38, h39, h40, h41, h42, h43]

@[simp] theorem State.booted_same {m0 : Nat → Bool} {t0 : State} {s : State} (b : BootFacts) (hK : Same m0 t0 s)
    (h0 : m0 0 = false) (h1 : m0 1 = false) (h2 : m0 2 = false) (h3 : m0 3 = false) (h4 : m0 4 = false) (h5 : m0 5 = false) (h6 : m0 6 = false) (h7 : m0 7 = false) (h8 : m0 8 = false) (h9 : m0 9 = false) (h10 : m0 10 = false) (h11 : m0 11 = false) (h20 : m0 20 = false) (h21 : m0 21 = false) (h22 : m0 22 = false) (h23 : m0 23 = false) (h24 : m0 24 = false) (h25 : m0 25 = false) (h26 : m0 26 = false) (h27 : m0 27 = false) (h28 : m0 28 = false) (h29 : m0 29 = false) (h30 : m0 30 = false) (h31 : m0 31 = false) (h32 : m0 32 = false) (h33 : m0 33 = false) (h34 : m0 34 = false) (h35 : m0 35 = false) (h36 : m0 36 = false) (h37 : m0 37 = false) (h38 : m0 38 = false) (h39 : m0 39 = false) (h40 : m0 40 = false) (h41 : m0 41 = false) (h42 : m0 42 = false) (h43 : m0 43 = false) :
    Same m0 t0 (State.booted s b) := by
  unfold State.booted; try dsimp only
  repeat' split
  all_goals first | done | simp (maxDischargeDepth := 60) (decide := true) [hK, h0, h1, h2, h3, h4, h5, h6, h7, h8, h9, h10, h11, h20, h21, h22, h23, h24, h25, h26, h27, h28, h29, h30, h31, h32, h33, h34, h35, h36, h37, h38, h39, h40, h41, h42, h43]

@[simp] theorem State.scheduledReset_same {m0 : Nat → Bool} {t0 : State} {s : State} (hK : Same m0 t0 s)
    (h0 : m0 0 = false) (h1 : m0 1 = false) (h2 : m0 2 = false) (h3 : m0 3 = false) (h4 : m0 4 = false) (h5 : m0 5 = false) (h6 : m0 6 = false) (h7 : m0 7 = false) (h8 : m0 8 = false) (h9 : m0 9 = false) (h10 : m0 10 = false) (h11 : m0 11 = false) (h24 : m0 24 = false) (h26 : m0 26 = false) (h28 : m0 28 = false) (h36 : m0 36 = false) (h39 : m0 39 = false) (h42 : m0 42 = false) (h43 : m0 43 = false) :
    Same m0 t0 (State.scheduledReset s) := by
  unfold State.scheduledReset; try dsimp only
  repeat' split
  all_goals first | done | simp (maxDischargeDepth := 60) (decide := true) [hK, h0, h1, h2, h3, h4, h5, h6, h7, h8, h9, h10, h11, h24, h26, h28, h36, h39, h42, h43]

@[simp] theorem State.resetRequestEffect_same {m0 : Nat → Bool} {t0 : State} {s : State} (hK : Same m0 t0 s)
    (h42 : m0 42 = false) :
    Same m0 t0 (State.resetRequestEffect s) := by
  unfold State.resetRequestEffect; try dsimp only
  repeat' split
  all_goals first | done | simp (maxDischargeDepth := 60) (decide := true) [hK, h42]

@[simp] theorem State.powerFail_same {m0 : Nat → Bool} {t0 : State} {s : State} (steps : Nat) (hK : Same m0 t0 s)
    (h0 : m0 0 = false) (h1 : m0 1 = false) (h2 : m0 2 = false) (h3 : m0 3 = false) (h4 : m0 4 = false) (h5 : m0 5 = false) (h6 : m0 6 = false) (h7 : m0 7 = false) (h8 : m0 8 = false) (h9 : m0 9 = false) (h10 : m0 10 = false) (h11 : m0 11 = false) (h20 : m0 20 = false) (h21 : m0 21 = false) (h22 : m0 22 = false) (h24 : m0 24 = false) (h26 : m0 26 = false) (h28 : m0 28 = false) (h33 : m0 33 = false) (h37 : m0 37 = false) (h39 : m0 39 = false) (h42 : m0 42 = false) (h43 : m0 43 = false) :
    Same m0 t0 (State.powerFail s steps) := by
  unfold State.powerFail; try dsimp only
  repeat' split
  all_goals first | done | simp (maxDischargeDepth := 60) (decide := true) [hK, h0, h1, h2, h3, h4, h5, h6, h7, h8, h9, h10, h11, h20, h21, h22, h24, h26, h28, h33, h37, h39, h42, h43]

@[simp] theorem State.supplyBits_same {m0 : Nat → Bool} {t0 : State} {s : State} (out : Nat) (hK : Same m0 t0 s)
     :
    Same m0 t0 (State.supplyBits s out) := by
  unfold State.supplyBits; try dsimp only
  repeat' split
  all_goals first | done | simp (maxDischargeDepth := 60) (decide := true) [hK]

@[simp] theorem State.warned_same {m0 : Nat → Bool} {t0 : State} {s : State} (below : Nat) (hK : Same m0 t0 s)
     :
    Same m0 t0 (State.warned s below) := by
  unfold State.warned; try dsimp only
  repeat' split
  all_goals first | done | simp (maxDischargeDepth := 60) (decide := true) [hK]

@[simp] theorem State.mainsGone_same {m0 : Nat → Bool} {t0 : State} {s : State} (tripped : Nat) (out : Nat) (hK : Same m0 t0 s)
    (h0 : m0 0 = false) (h1 : m0 1 = false) (h2 : m0 2 = false) (h3 : m0 3 = false) (h4 : m0 4 = false) (h5 : m0 5 = false) (h6 : m0 6 = false) (h7 : m0 7 = false) (h8 : m0 8 = false) (h9 : m0 9 = false) (h10 : m0 10 = false) (h11 : m0 11 = false) (h22 : m0 22 = false) (h24 : m0 24 = false) (h26 : m0 26 = false) (h28 : m0 28 = false) (h36 : m0 36 = false) (h42 : m0 42 = false) :
    Same m0 t0 (State.mainsGone s tripped out) := by
  unfold State.mainsGone; try dsimp only
  repeat' split
  all_goals first | done | simp (maxDischargeDepth := 60) (decide := true) [hK, h0, h1, h2, h3, h4, h5, h6, h7, h8, h9, h10, h11, h22, h24, h26, h28, h36, h42]

@[simp] theorem State.vaultGone_same {m0 : Nat → Bool} {t0 : State} {s : State} (hK : Same m0 t0 s)
    (h0 : m0 0 = false) (h1 : m0 1 = false) (h2 : m0 2 = false) (h3 : m0 3 = false) (h4 : m0 4 = false) (h5 : m0 5 = false) (h6 : m0 6 = false) (h7 : m0 7 = false) (h8 : m0 8 = false) (h9 : m0 9 = false) (h10 : m0 10 = false) (h11 : m0 11 = false) (h20 : m0 20 = false) (h36 : m0 36 = false) (h42 : m0 42 = false) :
    Same m0 t0 (State.vaultGone s) := by
  unfold State.vaultGone; try dsimp only
  repeat' split
  all_goals first | done | simp (maxDischargeDepth := 60) (decide := true) [hK, h0, h1, h2, h3, h4, h5, h6, h7, h8, h9, h10, h11, h20, h36, h42]

/-! ## Machine/Fabric.lean -/

@[simp] theorem State.refreshBounds_same {m0 : Nat → Bool} {t0 : State} {s : State} (hK : Same m0 t0 s)
    (h1 : m0 1 = false) (h2 : m0 2 = false) (h3 : m0 3 = false) (h4 : m0 4 = false) (h5 : m0 5 = false) (h6 : m0 6 = false) (h7 : m0 7 = false) (h8 : m0 8 = false) (h11 : m0 11 = false) :
    Same m0 t0 (State.refreshBounds s) := by
  unfold State.refreshBounds; try dsimp only
  repeat' split
  all_goals first | done | simp (maxDischargeDepth := 60) (decide := true) [hK, h1, h2, h3, h4, h5, h6, h7, h8, h11]

@[simp] theorem State.judgePace_same {m0 : Nat → Bool} {t0 : State} {s : State} (pace : Nat) (hK : Same m0 t0 s)
    (h1 : m0 1 = false) (h2 : m0 2 = false) (h3 : m0 3 = false) (h4 : m0 4 = false) (h5 : m0 5 = false) (h6 : m0 6 = false) (h7 : m0 7 = false) (h8 : m0 8 = false) (h11 : m0 11 = false) (h23 : m0 23 = false) (h24 : m0 24 = false) :
    Same m0 t0 (State.judgePace s pace) := by
  unfold State.judgePace; try dsimp only
  repeat' split
  all_goals first | done | simp (maxDischargeDepth := 60) (decide := true) [hK, h1, h2, h3, h4, h5, h6, h7, h8, h11, h23, h24]

@[simp] theorem State.measurePace_same {m0 : Nat → Bool} {t0 : State} {s : State} (chains : List Nat) (hK : Same m0 t0 s)
    (h1 : m0 1 = false) (h2 : m0 2 = false) (h3 : m0 3 = false) (h4 : m0 4 = false) (h5 : m0 5 = false) (h6 : m0 6 = false) (h7 : m0 7 = false) (h8 : m0 8 = false) (h11 : m0 11 = false) (h23 : m0 23 = false) (h24 : m0 24 = false) :
    Same m0 t0 (State.measurePace s chains) := by
  unfold State.measurePace; try dsimp only
  repeat' split
  all_goals first | done | simp (maxDischargeDepth := 60) (decide := true) [hK, h1, h2, h3, h4, h5, h6, h7, h8, h11, h23, h24]

@[simp] theorem State.latClearEffect_same {m0 : Nat → Bool} {t0 : State} {s : State} (v : Nat) (hK : Same m0 t0 s)
    (h1 : m0 1 = false) (h2 : m0 2 = false) (h3 : m0 3 = false) (h4 : m0 4 = false) (h5 : m0 5 = false) (h6 : m0 6 = false) (h7 : m0 7 = false) (h8 : m0 8 = false) (h11 : m0 11 = false) :
    Same m0 t0 (State.latClearEffect s v) := by
  unfold State.latClearEffect; try dsimp only
  repeat' split
  all_goals first | done | simp (maxDischargeDepth := 60) (decide := true) [hK, h1, h2, h3, h4, h5, h6, h7, h8, h11]

@[simp] theorem State.putIslands_same {m0 : Nat → Bool} {t0 : State} {s : State} (st : Nat) (hK : Same m0 t0 s)
    (h1 : m0 1 = false) (h2 : m0 2 = false) (h3 : m0 3 = false) (h4 : m0 4 = false) (h5 : m0 5 = false) (h6 : m0 6 = false) (h7 : m0 7 = false) (h8 : m0 8 = false) (h11 : m0 11 = false) :
    Same m0 t0 (State.putIslands s st) := by
  unfold State.putIslands; try dsimp only
  repeat' split
  all_goals first | done | simp (maxDischargeDepth := 60) (decide := true) [hK, h1, h2, h3, h4, h5, h6, h7, h8, h11]

@[simp] theorem State.legsFaulted_same {m0 : Nat → Bool} {t0 : State} {s : State} (hK : Same m0 t0 s)
    (h0 : m0 0 = false) (h1 : m0 1 = false) (h2 : m0 2 = false) (h3 : m0 3 = false) (h4 : m0 4 = false) (h5 : m0 5 = false) (h6 : m0 6 = false) (h7 : m0 7 = false) (h8 : m0 8 = false) (h9 : m0 9 = false) (h10 : m0 10 = false) (h11 : m0 11 = false) (h26 : m0 26 = false) (h28 : m0 28 = false) :
    Same m0 t0 (State.legsFaulted s) := by
  unfold State.legsFaulted; try dsimp only
  repeat' split
  all_goals first | done | simp (maxDischargeDepth := 60) (decide := true) [hK, h0, h1, h2, h3, h4, h5, h6, h7, h8, h9, h10, h11, h26, h28]

@[simp] theorem State.loseClock_same {m0 : Nat → Bool} {t0 : State} {s : State} (b : Nat) (island : Nat) (event : Nat) (hK : Same m0 t0 s)
    (h0 : m0 0 = false) (h1 : m0 1 = false) (h2 : m0 2 = false) (h3 : m0 3 = false) (h4 : m0 4 = false) (h5 : m0 5 = false) (h6 : m0 6 = false) (h7 : m0 7 = false) (h8 : m0 8 = false) (h9 : m0 9 = false) (h10 : m0 10 = false) (h11 : m0 11 = false) (h24 : m0 24 = false) (h26 : m0 26 = false) (h28 : m0 28 = false) (h33 : m0 33 = false) (h37 : m0 37 = false) (h43 : m0 43 = false) :
    Same m0 t0 (State.loseClock s b island event) := by
  unfold State.loseClock; try dsimp only
  repeat' split
  all_goals first | done | simp (maxDischargeDepth := 60) (decide := true) [hK, h0, h1, h2, h3, h4, h5, h6, h7, h8, h9, h10, h11, h24, h26, h28, h33, h37, h43]

@[simp] theorem State.relock_same {m0 : Nat → Bool} {t0 : State} {s : State} (hK : Same m0 t0 s)
    (h0 : m0 0 = false) (h1 : m0 1 = false) (h2 : m0 2 = false) (h3 : m0 3 = false) (h4 : m0 4 = false) (h5 : m0 5 = false) (h6 : m0 6 = false) (h7 : m0 7 = false) (h8 : m0 8 = false) (h9 : m0 9 = false) (h10 : m0 10 = false) (h11 : m0 11 = false) (h23 : m0 23 = false) (h24 : m0 24 = false) (h26 : m0 26 = false) (h28 : m0 28 = false) :
    Same m0 t0 (State.relock s) := by
  unfold State.relock; try dsimp only
  repeat' split
  all_goals first | done | simp (maxDischargeDepth := 60) (decide := true) [hK, h0, h1, h2, h3, h4, h5, h6, h7, h8, h9, h10, h11, h23, h24, h26, h28]

@[simp] theorem State.fabError_same {m0 : Nat → Bool} {t0 : State} {s : State} (kind : Nat) (level : Nat) (region : Nat) (block : Nat) (cell : Nat) (hK : Same m0 t0 s)
    (h1 : m0 1 = false) (h2 : m0 2 = false) (h3 : m0 3 = false) (h4 : m0 4 = false) (h5 : m0 5 = false) (h6 : m0 6 = false) (h7 : m0 7 = false) (h8 : m0 8 = false) (h11 : m0 11 = false) :
    Same m0 t0 (State.fabError s kind level region block cell) := by
  unfold State.fabError; try dsimp only
  repeat' split
  all_goals first | done | simp (maxDischargeDepth := 60) (decide := true) [hK, h1, h2, h3, h4, h5, h6, h7, h8, h11]

@[simp] theorem State.fenceShown_same {m0 : Nat → Bool} {t0 : State} {s : State} (r : Nat) (hK : Same m0 t0 s)
    (h1 : m0 1 = false) (h2 : m0 2 = false) (h3 : m0 3 = false) (h4 : m0 4 = false) (h5 : m0 5 = false) (h6 : m0 6 = false) (h7 : m0 7 = false) (h8 : m0 8 = false) (h11 : m0 11 = false) (h24 : m0 24 = false) :
    Same m0 t0 (State.fenceShown s r) := by
  unfold State.fenceShown; try dsimp only
  repeat' split
  all_goals first | done | simp (maxDischargeDepth := 60) (decide := true) [hK, h1, h2, h3, h4, h5, h6, h7, h8, h11, h24]

@[simp] theorem State.fenceMeters_same {m0 : Nat → Bool} {t0 : State} {s : State} (hK : Same m0 t0 s)
    (h0 : m0 0 = false) (h1 : m0 1 = false) (h2 : m0 2 = false) (h3 : m0 3 = false) (h4 : m0 4 = false) (h5 : m0 5 = false) (h6 : m0 6 = false) (h7 : m0 7 = false) (h8 : m0 8 = false) (h9 : m0 9 = false) (h10 : m0 10 = false) (h11 : m0 11 = false) (h21 : m0 21 = false) (h24 : m0 24 = false) (h26 : m0 26 = false) (h28 : m0 28 = false) (h32 : m0 32 = false) (h34 : m0 34 = false) (h35 : m0 35 = false) (h36 : m0 36 = false) (h39 : m0 39 = false) (h43 : m0 43 = false) :
    Same m0 t0 (State.fenceMeters s) := by
  unfold State.fenceMeters; try dsimp only
  repeat' split
  all_goals first | done | simp (maxDischargeDepth := 60) (decide := true) [hK, h0, h1, h2, h3, h4, h5, h6, h7, h8, h9, h10, h11, h21, h24, h26, h28, h32, h34, h35, h36, h39, h43]

@[simp] theorem State.fenceRegion_same {m0 : Nat → Bool} {t0 : State} {s : State} (r : Nat) (hK : Same m0 t0 s)
    (h0 : m0 0 = false) (h1 : m0 1 = false) (h2 : m0 2 = false) (h3 : m0 3 = false) (h4 : m0 4 = false) (h5 : m0 5 = false) (h6 : m0 6 = false) (h7 : m0 7 = false) (h8 : m0 8 = false) (h9 : m0 9 = false) (h10 : m0 10 = false) (h11 : m0 11 = false) (h21 : m0 21 = false) (h23 : m0 23 = false) (h24 : m0 24 = false) (h26 : m0 26 = false) (h28 : m0 28 = false) (h32 : m0 32 = false) (h34 : m0 34 = false) (h35 : m0 35 = false) (h36 : m0 36 = false) (h39 : m0 39 = false) (h42 : m0 42 = false) (h43 : m0 43 = false) :
    Same m0 t0 (State.fenceRegion s r) := by
  unfold State.fenceRegion; try dsimp only
  repeat' split
  all_goals first | done | simp (maxDischargeDepth := 60) (decide := true) [hK, h0, h1, h2, h3, h4, h5, h6, h7, h8, h9, h10, h11, h21, h23, h24, h26, h28, h32, h34, h35, h36, h39, h42, h43]

@[simp] theorem State.fenceBlock_same {m0 : Nat → Bool} {t0 : State} {s : State} (r : Nat) (b : Nat) (hK : Same m0 t0 s)
    (h0 : m0 0 = false) (h1 : m0 1 = false) (h2 : m0 2 = false) (h3 : m0 3 = false) (h4 : m0 4 = false) (h5 : m0 5 = false) (h6 : m0 6 = false) (h7 : m0 7 = false) (h8 : m0 8 = false) (h9 : m0 9 = false) (h10 : m0 10 = false) (h11 : m0 11 = false) (h21 : m0 21 = false) (h23 : m0 23 = false) (h24 : m0 24 = false) (h26 : m0 26 = false) (h28 : m0 28 = false) (h32 : m0 32 = false) (h34 : m0 34 = false) (h35 : m0 35 = false) (h36 : m0 36 = false) (h39 : m0 39 = false) (h43 : m0 43 = false) :
    Same m0 t0 (State.fenceBlock s r b) := by
  unfold State.fenceBlock; try dsimp only
  repeat' split
  all_goals first | done | simp (maxDischargeDepth := 60) (decide := true) [hK, h0, h1, h2, h3, h4, h5, h6, h7, h8, h9, h10, h11, h21, h23, h24, h26, h28, h32, h34, h35, h36, h39, h43]

@[simp] theorem State.fenceCell_same {m0 : Nat → Bool} {t0 : State} {s : State} (r : Nat) (b : Nat) (c : Nat) (hK : Same m0 t0 s)
    (h0 : m0 0 = false) (h1 : m0 1 = false) (h2 : m0 2 = false) (h3 : m0 3 = false) (h4 : m0 4 = false) (h5 : m0 5 = false) (h6 : m0 6 = false) (h7 : m0 7 = false) (h8 : m0 8 = false) (h9 : m0 9 = false) (h10 : m0 10 = false) (h11 : m0 11 = false) (h21 : m0 21 = false) (h23 : m0 23 = false) (h24 : m0 24 = false) (h26 : m0 26 = false) (h28 : m0 28 = false) (h32 : m0 32 = false) (h34 : m0 34 = false) (h35 : m0 35 = false) (h36 : m0 36 = false) (h39 : m0 39 = false) (h43 : m0 43 = false) :
    Same m0 t0 (State.fenceCell s r b c) := by
  unfold State.fenceCell; try dsimp only
  repeat' split
  all_goals first | done | simp (maxDischargeDepth := 60) (decide := true) [hK, h0, h1, h2, h3, h4, h5, h6, h7, h8, h9, h10, h11, h21, h23, h24, h26, h28, h32, h34, h35, h36, h39, h43]

@[simp] theorem State.packetLost_same {m0 : Nat → Bool} {t0 : State} {s : State} (hK : Same m0 t0 s)
    (h21 : m0 21 = false) (h24 : m0 24 = false) :
    Same m0 t0 (State.packetLost s) := by
  unfold State.packetLost; try dsimp only
  repeat' split
  all_goals first | done | simp (maxDischargeDepth := 60) (decide := true) [hK, h21, h24]

@[simp] theorem State.itemLost_same {m0 : Nat → Bool} {t0 : State} {s : State} (hK : Same m0 t0 s)
    (h33 : m0 33 = false) :
    Same m0 t0 (State.itemLost s) := by
  unfold State.itemLost; try dsimp only
  repeat' split
  all_goals first | done | simp (maxDischargeDepth := 60) (decide := true) [hK, h33]

/-! ## Machine/HostAccess.lean -/

@[simp] theorem State.readValue_same {m0 : Nat → Bool} {t0 : State} {s : State} (src : Src) (r : Row) (k : Nat) (hK : Same m0 t0 s)
    (h21 : m0 21 = false) (h24 : m0 24 = false) :
    Same m0 t0 (State.readValue s src r k).1 := by
  unfold State.readValue; try dsimp only
  repeat' split
  all_goals first | done | simp (maxDischargeDepth := 60) (decide := true) [hK, h21, h24]

@[simp] theorem State.readWhole_same {m0 : Nat → Bool} {t0 : State} {s : State} (src : Src) (k : Nat) (hK : Same m0 t0 s)
    (h21 : m0 21 = false) (h24 : m0 24 = false) :
    Same m0 t0 (State.readWhole s src k).1 := by
  unfold State.readWhole; try dsimp only
  repeat' split
  all_goals first | done | simp (maxDischargeDepth := 60) (decide := true) [hK, h21, h24]

@[simp] theorem State.commitStart_same {m0 : Nat → Bool} {t0 : State} {s : State} (hK : Same m0 t0 s)
    (h0 : m0 0 = false) (h1 : m0 1 = false) (h2 : m0 2 = false) (h3 : m0 3 = false) (h4 : m0 4 = false) (h5 : m0 5 = false) (h6 : m0 6 = false) (h7 : m0 7 = false) (h8 : m0 8 = false) (h10 : m0 10 = false) (h21 : m0 21 = false) :
    Same m0 t0 (State.commitStart s) := by
  unfold State.commitStart; try dsimp only
  repeat' split
  all_goals first | done | simp (maxDischargeDepth := 60) (decide := true) [hK, h0, h1, h2, h3, h4, h5, h6, h7, h8, h10, h21]

@[simp] theorem State.stageWrite_same {m0 : Nat → Bool} {t0 : State} {s : State} (k : Nat) (v : Val) (hK : Same m0 t0 s)
    (h0 : m0 0 = false) (h1 : m0 1 = false) (h2 : m0 2 = false) (h3 : m0 3 = false) (h4 : m0 4 = false) (h5 : m0 5 = false) (h6 : m0 6 = false) (h7 : m0 7 = false) (h8 : m0 8 = false) (h10 : m0 10 = false) (h21 : m0 21 = false) :
    Same m0 t0 (State.stageWrite s k v).1 := by
  unfold State.stageWrite; try dsimp only
  repeat' split
  all_goals first | done | simp (maxDischargeDepth := 60) (decide := true) [hK, h0, h1, h2, h3, h4, h5, h6, h7, h8, h10, h21]

@[simp] theorem State.legsCommitted_same {m0 : Nat → Bool} {t0 : State} {s : State} (set : List (Nat × Val)) (hK : Same m0 t0 s)
    (h2 : m0 2 = false) (h3 : m0 3 = false) (h4 : m0 4 = false) (h5 : m0 5 = false) (h6 : m0 6 = false) (h7 : m0 7 = false) (h8 : m0 8 = false) (h26 : m0 26 = false) :
    Same m0 t0 (State.legsCommitted s set) := by
  unfold State.legsCommitted; try dsimp only
  repeat' split
  all_goals first | done | simp (maxDischargeDepth := 60) (decide := true) [hK, h2, h3, h4, h5, h6, h7, h8, h26]

@[simp] theorem State.treeCommitted_same {m0 : Nat → Bool} {t0 : State} {s : State} (touched : Bool) (before : List (Nat × Val)) (hK : Same m0 t0 s)
    (h3 : m0 3 = false) (h4 : m0 4 = false) (h5 : m0 5 = false) (h6 : m0 6 = false) (h7 : m0 7 = false) (h8 : m0 8 = false) (h32 : m0 32 = false) :
    Same m0 t0 (State.treeCommitted s touched before) := by
  unfold State.treeCommitted; try dsimp only
  repeat' split
  all_goals first | done | simp (maxDischargeDepth := 60) (decide := true) [hK, h3, h4, h5, h6, h7, h8, h32]

@[simp] theorem State.commitEntry_same {m0 : Nat → Bool} {t0 : State} {s : State} (e : Nat × Val) (hK : Same m0 t0 s)
    (h0 : m0 0 = false) (h1 : m0 1 = false) (h2 : m0 2 = false) (h3 : m0 3 = false) (h4 : m0 4 = false) (h5 : m0 5 = false) (h6 : m0 6 = false) (h7 : m0 7 = false) (h8 : m0 8 = false) (h9 : m0 9 = false) (h10 : m0 10 = false) (h11 : m0 11 = false) (h21 : m0 21 = false) (h31 : m0 31 = false) :
    Same m0 t0 (State.commitEntry s e) := by
  unfold State.commitEntry; try dsimp only
  repeat' split
  all_goals first | done | simp (maxDischargeDepth := 60) (decide := true) [hK, h0, h1, h2, h3, h4, h5, h6, h7, h8, h9, h10, h11, h21, h31]

@[simp] theorem State.holdEntries_same {m0 : Nat → Bool} {t0 : State} {s : State} (l : List (Nat × Val)) (hK : Same m0 t0 s)
    (h0 : m0 0 = false) (h1 : m0 1 = false) (h2 : m0 2 = false) (h3 : m0 3 = false) (h4 : m0 4 = false) (h5 : m0 5 = false) (h6 : m0 6 = false) (h7 : m0 7 = false) (h8 : m0 8 = false) (h10 : m0 10 = false) (h21 : m0 21 = false) :
    Same m0 t0 (State.holdEntries s l) := by
  unfold State.holdEntries; try dsimp only
  repeat' split
  all_goals first | done | simp (maxDischargeDepth := 60) (decide := true) [hK, h0, h1, h2, h3, h4, h5, h6, h7, h8, h10, h21]

@[simp] theorem State.committed_same {m0 : Nat → Bool} {t0 : State} {s : State} (set : List (Nat × Val)) (oldMode : Nat) (oldSlot : Nat) (oldPair : Nat) (oldSrc : List Nat) (hK : Same m0 t0 s)
    (h0 : m0 0 = false) (h1 : m0 1 = false) (h2 : m0 2 = false) (h3 : m0 3 = false) (h4 : m0 4 = false) (h5 : m0 5 = false) (h6 : m0 6 = false) (h7 : m0 7 = false) (h8 : m0 8 = false) (h9 : m0 9 = false) (h10 : m0 10 = false) (h11 : m0 11 = false) (h20 : m0 20 = false) (h21 : m0 21 = false) (h22 : m0 22 = false) (h24 : m0 24 = false) (h26 : m0 26 = false) (h28 : m0 28 = false) (h32 : m0 32 = false) (h33 : m0 33 = false) (h34 : m0 34 = false) (h35 : m0 35 = false) (h36 : m0 36 = false) (h37 : m0 37 = false) (h38 : m0 38 = false) (h39 : m0 39 = false) (h40 : m0 40 = false) (h42 : m0 42 = false) (h43 : m0 43 = false) :
    Same m0 t0 (State.committed s set oldMode oldSlot oldPair oldSrc) := by
  unfold State.committed; try dsimp only
  repeat' split
  all_goals first | done | simp (maxDischargeDepth := 60) (decide := true) [hK, h0, h1, h2, h3, h4, h5, h6, h7, h8, h9, h10, h11, h20, h21, h22, h24, h26, h28, h32, h33, h34, h35, h36, h37, h38, h39, h40, h42, h43]

@[simp] theorem State.applyCommit_same {m0 : Nat → Bool} {t0 : State} {s : State} (hK : Same m0 t0 s)
    (h0 : m0 0 = false) (h1 : m0 1 = false) (h2 : m0 2 = false) (h3 : m0 3 = false) (h4 : m0 4 = false) (h5 : m0 5 = false) (h6 : m0 6 = false) (h7 : m0 7 = false) (h8 : m0 8 = false) (h9 : m0 9 = false) (h10 : m0 10 = false) (h11 : m0 11 = false) (h20 : m0 20 = false) (h21 : m0 21 = false) (h22 : m0 22 = false) (h24 : m0 24 = false) (h26 : m0 26 = false) (h28 : m0 28 = false) (h31 : m0 31 = false) (h32 : m0 32 = false) (h33 : m0 33 = false) (h34 : m0 34 = false) (h35 : m0 35 = false) (h36 : m0 36 = false) (h37 : m0 37 = false) (h38 : m0 38 = false) (h39 : m0 39 = false) (h40 : m0 40 = false) (h42 : m0 42 = false) (h43 : m0 43 = false) :
    Same m0 t0 (State.applyCommit s) := by
  unfold State.applyCommit; try dsimp only
  repeat' split
  all_goals first | done | simp (maxDischargeDepth := 60) (decide := true) [hK, h0, h1, h2, h3, h4, h5, h6, h7, h8, h9, h10, h11, h20, h21, h22, h24, h26, h28, h31, h32, h33, h34, h35, h36, h37, h38, h39, h40, h42, h43]

@[simp] theorem State.commitStored_same {m0 : Nat → Bool} {t0 : State} {s : State} (hK : Same m0 t0 s)
    (h0 : m0 0 = false) (h1 : m0 1 = false) (h2 : m0 2 = false) (h3 : m0 3 = false) (h4 : m0 4 = false) (h5 : m0 5 = false) (h6 : m0 6 = false) (h7 : m0 7 = false) (h8 : m0 8 = false) (h9 : m0 9 = false) (h10 : m0 10 = false) (h11 : m0 11 = false) (h20 : m0 20 = false) (h21 : m0 21 = false) (h22 : m0 22 = false) (h24 : m0 24 = false) (h26 : m0 26 = false) (h28 : m0 28 = false) (h31 : m0 31 = false) (h32 : m0 32 = false) (h33 : m0 33 = false) (h34 : m0 34 = false) (h35 : m0 35 = false) (h36 : m0 36 = false) (h37 : m0 37 = false) (h38 : m0 38 = false) (h39 : m0 39 = false) (h40 : m0 40 = false) (h42 : m0 42 = false) (h43 : m0 43 = false) :
    Same m0 t0 (State.commitStored s) := by
  unfold State.commitStored; try dsimp only
  repeat' split
  all_goals first | done | simp (maxDischargeDepth := 60) (decide := true) [hK, h0, h1, h2, h3, h4, h5, h6, h7, h8, h9, h10, h11, h20, h21, h22, h24, h26, h28, h31, h32, h33, h34, h35, h36, h37, h38, h39, h40, h42, h43]

@[simp] theorem State.stageDiscard_same {m0 : Nat → Bool} {t0 : State} {s : State} (hK : Same m0 t0 s)
    (h0 : m0 0 = false) (h1 : m0 1 = false) (h2 : m0 2 = false) (h3 : m0 3 = false) (h4 : m0 4 = false) (h5 : m0 5 = false) (h6 : m0 6 = false) (h7 : m0 7 = false) (h8 : m0 8 = false) (h10 : m0 10 = false) (h21 : m0 21 = false) :
    Same m0 t0 (State.stageDiscard s) := by
  unfold State.stageDiscard; try dsimp only
  repeat' split
  all_goals first | done | simp (maxDischargeDepth := 60) (decide := true) [hK, h0, h1, h2, h3, h4, h5, h6, h7, h8, h10, h21]

@[simp] theorem State.configErase_same {m0 : Nat → Bool} {t0 : State} {s : State} (hK : Same m0 t0 s)
    (h21 : m0 21 = false) :
    Same m0 t0 (State.configErase s) := by
  unfold State.configErase; try dsimp only
  repeat' split
  all_goals first | done | simp (maxDischargeDepth := 60) (decide := true) [hK, h21]

@[simp] theorem State.configEraseStored_same {m0 : Nat → Bool} {t0 : State} {s : State} (hK : Same m0 t0 s)
    (h21 : m0 21 = false) :
    Same m0 t0 (State.configEraseStored s) := by
  unfold State.configEraseStored; try dsimp only
  repeat' split
  all_goals first | done | simp (maxDischargeDepth := 60) (decide := true) [hK, h21]

@[simp] theorem State.startOf_same {m0 : Nat → Bool} {t0 : State} {s : State} (src : Src) (c : CmdId) (arg : Nat) (hK : Same m0 t0 s)
    (h0 : m0 0 = false) (h1 : m0 1 = false) (h2 : m0 2 = false) (h3 : m0 3 = false) (h4 : m0 4 = false) (h5 : m0 5 = false) (h6 : m0 6 = false) (h7 : m0 7 = false) (h8 : m0 8 = false) (h9 : m0 9 = false) (h10 : m0 10 = false) (h11 : m0 11 = false) (h20 : m0 20 = false) (h21 : m0 21 = false) (h24 : m0 24 = false) (h26 : m0 26 = false) (h27 : m0 27 = false) (h28 : m0 28 = false) (h30 : m0 30 = false) (h32 : m0 32 = false) (h33 : m0 33 = false) (h34 : m0 34 = false) (h35 : m0 35 = false) (h36 : m0 36 = false) (h37 : m0 37 = false) (h39 : m0 39 = false) (h40 : m0 40 = false) (h41 : m0 41 = false) (h42 : m0 42 = false) (h43 : m0 43 = false) :
    Same m0 t0 (State.startOf s src c arg) := by
  unfold State.startOf; try dsimp only
  repeat' split
  all_goals first | done | simp (maxDischargeDepth := 60) (decide := true) [hK, h0, h1, h2, h3, h4, h5, h6, h7, h8, h9, h10, h11, h20, h21, h24, h26, h27, h28, h30, h32, h33, h34, h35, h36, h37, h39, h40, h41, h42, h43]

@[simp] theorem State.abortCapture_same {m0 : Nat → Bool} {t0 : State} {s : State} (hK : Same m0 t0 s)
    (h21 : m0 21 = false) (h39 : m0 39 = false) :
    Same m0 t0 (State.abortCapture s) := by
  unfold State.abortCapture; try dsimp only
  repeat' split
  all_goals first | done | simp (maxDischargeDepth := 60) (decide := true) [hK, h21, h39]

@[simp] theorem State.abortPending_same {m0 : Nat → Bool} {t0 : State} {s : State} (c : CmdId) (hK : Same m0 t0 s)
    (h5 : m0 5 = false) (h6 : m0 6 = false) (h7 : m0 7 = false) (h8 : m0 8 = false) (h21 : m0 21 = false) (h24 : m0 24 = false) (h35 : m0 35 = false) (h36 : m0 36 = false) (h37 : m0 37 = false) (h39 : m0 39 = false) (h40 : m0 40 = false) (h41 : m0 41 = false) (h43 : m0 43 = false) :
    Same m0 t0 (State.abortPending s c).1 := by
  unfold State.abortPending; try dsimp only
  repeat' split
  all_goals first | done | simp (maxDischargeDepth := 60) (decide := true) [hK, h5, h6, h7, h8, h21, h24, h35, h36, h37, h39, h40, h41, h43]

@[simp] theorem State.abortCmd_same {m0 : Nat → Bool} {t0 : State} {s : State} (c : CmdId) (hK : Same m0 t0 s)
    (h5 : m0 5 = false) (h6 : m0 6 = false) (h7 : m0 7 = false) (h8 : m0 8 = false) (h21 : m0 21 = false) (h24 : m0 24 = false) (h35 : m0 35 = false) (h36 : m0 36 = false) (h37 : m0 37 = false) (h39 : m0 39 = false) (h40 : m0 40 = false) (h41 : m0 41 = false) (h43 : m0 43 = false) :
    Same m0 t0 (State.abortCmd s c).1 := by
  unfold State.abortCmd; try dsimp only
  repeat' split
  all_goals first | done | simp (maxDischargeDepth := 60) (decide := true) [hK, h5, h6, h7, h8, h21, h24, h35, h36, h37, h39, h40, h41, h43]

@[simp] theorem State.ackCmd_same {m0 : Nat → Bool} {t0 : State} {s : State} (c : CmdId) (hK : Same m0 t0 s)
    (h21 : m0 21 = false) :
    Same m0 t0 (State.ackCmd s c).1 := by
  unfold State.ackCmd; try dsimp only
  repeat' split
  all_goals first | done | simp (maxDischargeDepth := 60) (decide := true) [hK, h21]

@[simp] theorem State.writeCommand_same {m0 : Nat → Bool} {t0 : State} {s : State} (src : Src) (c : CmdId) (e : Nat) (n : Nat) (hK : Same m0 t0 s)
    (h0 : m0 0 = false) (h1 : m0 1 = false) (h2 : m0 2 = false) (h3 : m0 3 = false) (h4 : m0 4 = false) (h5 : m0 5 = false) (h6 : m0 6 = false) (h7 : m0 7 = false) (h8 : m0 8 = false) (h9 : m0 9 = false) (h10 : m0 10 = false) (h11 : m0 11 = false) (h20 : m0 20 = false) (h21 : m0 21 = false) (h24 : m0 24 = false) (h26 : m0 26 = false) (h27 : m0 27 = false) (h28 : m0 28 = false) (h30 : m0 30 = false) (h32 : m0 32 = false) (h33 : m0 33 = false) (h34 : m0 34 = false) (h35 : m0 35 = false) (h36 : m0 36 = false) (h37 : m0 37 = false) (h39 : m0 39 = false) (h40 : m0 40 = false) (h41 : m0 41 = false) (h42 : m0 42 = false) (h43 : m0 43 = false) :
    Same m0 t0 (State.writeCommand s src c e n).1 := by
  unfold State.writeCommand; try dsimp only
  repeat' split
  all_goals first | done | simp (maxDischargeDepth := 60) (decide := true) [hK, h0, h1, h2, h3, h4, h5, h6, h7, h8, h9, h10, h11, h20, h21, h24, h26, h27, h28, h30, h32, h33, h34, h35, h36, h37, h39, h40, h41, h42, h43]

@[simp] theorem State.writePhase_same {m0 : Nat → Bool} {t0 : State} {s : State} (k : Nat) (n : Nat) (v : Val) (hK : Same m0 t0 s)
    (h0 : m0 0 = false) (h1 : m0 1 = false) (h2 : m0 2 = false) (h3 : m0 3 = false) (h4 : m0 4 = false) (h5 : m0 5 = false) (h6 : m0 6 = false) (h7 : m0 7 = false) (h8 : m0 8 = false) (h9 : m0 9 = false) (h10 : m0 10 = false) (h11 : m0 11 = false) (h26 : m0 26 = false) (h28 : m0 28 = false) (h43 : m0 43 = false) :
    Same m0 t0 (State.writePhase s k n v) := by
  unfold State.writePhase; try dsimp only
  repeat' split
  all_goals first | done | simp (maxDischargeDepth := 60) (decide := true) [hK, h0, h1, h2, h3, h4, h5, h6, h7, h8, h9, h10, h11, h26, h28, h43]

@[simp] theorem State.writeOutlet_same {m0 : Nat → Bool} {t0 : State} {s : State} (k : Nat) (n : Nat) (v : Val) (hK : Same m0 t0 s)
    (h0 : m0 0 = false) (h1 : m0 1 = false) (h2 : m0 2 = false) (h3 : m0 3 = false) (h4 : m0 4 = false) (h5 : m0 5 = false) (h6 : m0 6 = false) (h7 : m0 7 = false) (h8 : m0 8 = false) (h9 : m0 9 = false) (h10 : m0 10 = false) (h11 : m0 11 = false) (h21 : m0 21 = false) (h24 : m0 24 = false) (h26 : m0 26 = false) (h28 : m0 28 = false) (h32 : m0 32 = false) (h34 : m0 34 = false) (h35 : m0 35 = false) (h36 : m0 36 = false) (h39 : m0 39 = false) (h43 : m0 43 = false) :
    Same m0 t0 (State.writeOutlet s k n v) := by
  unfold State.writeOutlet; try dsimp only
  repeat' split
  all_goals first | done | simp (maxDischargeDepth := 60) (decide := true) [hK, h0, h1, h2, h3, h4, h5, h6, h7, h8, h9, h10, h11, h21, h24, h26, h28, h32, h34, h35, h36, h39, h43]

@[simp] theorem State.writeChannel_same {m0 : Nat → Bool} {t0 : State} {s : State} (k : Nat) (n : Nat) (v : Val) (hK : Same m0 t0 s)
    (h0 : m0 0 = false) (h1 : m0 1 = false) (h2 : m0 2 = false) (h3 : m0 3 = false) (h4 : m0 4 = false) (h5 : m0 5 = false) (h6 : m0 6 = false) (h7 : m0 7 = false) (h8 : m0 8 = false) (h9 : m0 9 = false) (h10 : m0 10 = false) (h11 : m0 11 = false) (h24 : m0 24 = false) (h36 : m0 36 = false) :
    Same m0 t0 (State.writeChannel s k n v) := by
  unfold State.writeChannel; try dsimp only
  repeat' split
  all_goals first | done | simp (maxDischargeDepth := 60) (decide := true) [hK, h0, h1, h2, h3, h4, h5, h6, h7, h8, h9, h10, h11, h24, h36]

@[simp] theorem State.writeBilling_same {m0 : Nat → Bool} {t0 : State} {s : State} (k : Nat) (n : Nat) (v : Val) (hK : Same m0 t0 s)
    (h0 : m0 0 = false) (h1 : m0 1 = false) (h2 : m0 2 = false) (h3 : m0 3 = false) (h4 : m0 4 = false) (h5 : m0 5 = false) (h6 : m0 6 = false) (h7 : m0 7 = false) (h8 : m0 8 = false) (h9 : m0 9 = false) (h10 : m0 10 = false) (h11 : m0 11 = false) (h24 : m0 24 = false) (h39 : m0 39 = false) (h42 : m0 42 = false) :
    Same m0 t0 (State.writeBilling s k n v) := by
  unfold State.writeBilling; try dsimp only
  repeat' split
  all_goals first | done | simp (maxDischargeDepth := 60) (decide := true) [hK, h0, h1, h2, h3, h4, h5, h6, h7, h8, h9, h10, h11, h24, h39, h42]

@[simp] theorem State.writePlain_same {m0 : Nat → Bool} {t0 : State} {s : State} (k : Nat) (n : Nat) (v : Val) (hK : Same m0 t0 s)
    (h0 : m0 0 = false) (h1 : m0 1 = false) (h2 : m0 2 = false) (h3 : m0 3 = false) (h4 : m0 4 = false) (h5 : m0 5 = false) (h6 : m0 6 = false) (h7 : m0 7 = false) (h8 : m0 8 = false) (h9 : m0 9 = false) (h10 : m0 10 = false) (h11 : m0 11 = false) (h21 : m0 21 = false) (h22 : m0 22 = false) (h24 : m0 24 = false) (h26 : m0 26 = false) (h28 : m0 28 = false) (h32 : m0 32 = false) (h33 : m0 33 = false) (h34 : m0 34 = false) (h35 : m0 35 = false) (h36 : m0 36 = false) (h37 : m0 37 = false) (h38 : m0 38 = false) (h39 : m0 39 = false) (h40 : m0 40 = false) (h41 : m0 41 = false) (h42 : m0 42 = false) (h43 : m0 43 = false) :
    Same m0 t0 (State.writePlain s k n v) := by
  unfold State.writePlain
  first
    | (simp (maxDischargeDepth := 60) (decide := true) [hK, h0, h1, h2, h3, h4, h5, h6, h7, h8, h9, h10, h11, h21, h22, h24, h26, h28, h32, h33, h34, h35, h36, h37, h38, h39, h40, h41, h42, h43]; done)
    | (refine Same.foldl _ _ (by simp (maxDischargeDepth := 60) (decide := true) [hK, h0, h1, h2, h3, h4, h5, h6, h7, h8, h9, h10, h11, h21, h22, h24, h26, h28, h32, h33, h34, h35, h36, h37, h38, h39, h40, h41, h42, h43]) fun st i => ?_; (try dsimp only); repeat' split
       all_goals first | done | simp (maxDischargeDepth := 60) (decide := true) [h0, h1, h2, h3, h4, h5, h6, h7, h8, h9, h10, h11, h21, h22, h24, h26, h28, h32, h33, h34, h35, h36, h37, h38, h39, h40, h41, h42, h43] | (refine Same.foldl _ _ (by simp (maxDischargeDepth := 60) (decide := true) [h0, h1, h2, h3, h4, h5, h6, h7, h8, h9, h10, h11, h21, h22, h24, h26, h28, h32, h33, h34, h35, h36, h37, h38, h39, h40, h41, h42, h43]) fun st i => ?_; (try dsimp only); repeat' split; all_goals first | done | simp (maxDischargeDepth := 60) (decide := true) [h0, h1, h2, h3, h4, h5, h6, h7, h8, h9, h10, h11, h21, h22, h24, h26, h28, h32, h33, h34, h35, h36, h37, h38, h39, h40, h41, h42, h43]))
    | ((try dsimp only); repeat' split; all_goals first | done | exact hK | simp (maxDischargeDepth := 60) (decide := true) [hK, h0, h1, h2, h3, h4, h5, h6, h7, h8, h9, h10, h11, h21, h22, h24, h26, h28, h32, h33, h34, h35, h36, h37, h38, h39, h40, h41, h42, h43] | (refine Same.foldl _ _ (by simp (maxDischargeDepth := 60) (decide := true) [hK, h0, h1, h2, h3, h4, h5, h6, h7, h8, h9, h10, h11, h21, h22, h24, h26, h28, h32, h33, h34, h35, h36, h37, h38, h39, h40, h41, h42, h43]) fun st i => ?_; (try dsimp only); repeat' split; all_goals first | done | simp (maxDischargeDepth := 60) (decide := true) [h0, h1, h2, h3, h4, h5, h6, h7, h8, h9, h10, h11, h21, h22, h24, h26, h28, h32, h33, h34, h35, h36, h37, h38, h39, h40, h41, h42, h43]))

@[simp] theorem State.writeNow_same {m0 : Nat → Bool} {t0 : State} {s : State} (k : Nat) (v : Val) (hK : Same m0 t0 s)
    (h0 : m0 0 = false) (h1 : m0 1 = false) (h2 : m0 2 = false) (h3 : m0 3 = false) (h4 : m0 4 = false) (h5 : m0 5 = false) (h6 : m0 6 = false) (h7 : m0 7 = false) (h8 : m0 8 = false) (h9 : m0 9 = false) (h10 : m0 10 = false) (h11 : m0 11 = false) (h21 : m0 21 = false) (h22 : m0 22 = false) (h24 : m0 24 = false) (h26 : m0 26 = false) (h28 : m0 28 = false) (h32 : m0 32 = false) (h33 : m0 33 = false) (h34 : m0 34 = false) (h35 : m0 35 = false) (h36 : m0 36 = false) (h37 : m0 37 = false) (h38 : m0 38 = false) (h39 : m0 39 = false) (h40 : m0 40 = false) (h41 : m0 41 = false) (h42 : m0 42 = false) (h43 : m0 43 = false) :
    Same m0 t0 (State.writeNow s k v).1 := by
  unfold State.writeNow; try dsimp only
  repeat' split
  all_goals first | done | simp (maxDischargeDepth := 60) (decide := true) [hK, h0, h1, h2, h3, h4, h5, h6, h7, h8, h9, h10, h11, h21, h22, h24, h26, h28, h32, h33, h34, h35, h36, h37, h38, h39, h40, h41, h42, h43]

@[simp] theorem State.writeEffect_same {m0 : Nat → Bool} {t0 : State} {s : State} (src : Src) (r : Row) (k : Nat) (v : Val) (hK : Same m0 t0 s)
    (h0 : m0 0 = false) (h1 : m0 1 = false) (h2 : m0 2 = false) (h3 : m0 3 = false) (h4 : m0 4 = false) (h5 : m0 5 = false) (h6 : m0 6 = false) (h7 : m0 7 = false) (h8 : m0 8 = false) (h9 : m0 9 = false) (h10 : m0 10 = false) (h11 : m0 11 = false) (h20 : m0 20 = false) (h21 : m0 21 = false) (h22 : m0 22 = false) (h24 : m0 24 = false) (h26 : m0 26 = false) (h27 : m0 27 = false) (h28 : m0 28 = false) (h30 : m0 30 = false) (h32 : m0 32 = false) (h33 : m0 33 = false) (h34 : m0 34 = false) (h35 : m0 35 = false) (h36 : m0 36 = false) (h37 : m0 37 = false) (h38 : m0 38 = false) (h39 : m0 39 = false) (h40 : m0 40 = false) (h41 : m0 41 = false) (h42 : m0 42 = false) (h43 : m0 43 = false) :
    Same m0 t0 (State.writeEffect s src r k v).1 := by
  unfold State.writeEffect; try dsimp only
  repeat' split
  all_goals first | done | simp (maxDischargeDepth := 60) (decide := true) [hK, h0, h1, h2, h3, h4, h5, h6, h7, h8, h9, h10, h11, h20, h21, h22, h24, h26, h27, h28, h30, h32, h33, h34, h35, h36, h37, h38, h39, h40, h41, h42, h43]

@[simp] theorem State.writeWhole_same {m0 : Nat → Bool} {t0 : State} {s : State} (src : Src) (k : Nat) (data : List Byte) (hK : Same m0 t0 s)
    (h0 : m0 0 = false) (h1 : m0 1 = false) (h2 : m0 2 = false) (h3 : m0 3 = false) (h4 : m0 4 = false) (h5 : m0 5 = false) (h6 : m0 6 = false) (h7 : m0 7 = false) (h8 : m0 8 = false) (h9 : m0 9 = false) (h10 : m0 10 = false) (h11 : m0 11 = false) (h20 : m0 20 = false) (h21 : m0 21 = false) (h22 : m0 22 = false) (h24 : m0 24 = false) (h26 : m0 26 = false) (h27 : m0 27 = false) (h28 : m0 28 = false) (h30 : m0 30 = false) (h32 : m0 32 = false) (h33 : m0 33 = false) (h34 : m0 34 = false) (h35 : m0 35 = false) (h36 : m0 36 = false) (h37 : m0 37 = false) (h38 : m0 38 = false) (h39 : m0 39 = false) (h40 : m0 40 = false) (h41 : m0 41 = false) (h42 : m0 42 = false) (h43 : m0 43 = false) :
    Same m0 t0 (State.writeWhole s src k data).1 := by
  unfold State.writeWhole; try dsimp only
  repeat' split
  all_goals first | done | simp (maxDischargeDepth := 60) (decide := true) [hK, h0, h1, h2, h3, h4, h5, h6, h7, h8, h9, h10, h11, h20, h21, h22, h24, h26, h27, h28, h30, h32, h33, h34, h35, h36, h37, h38, h39, h40, h41, h42, h43]

@[simp] theorem State.setSeg_same {m0 : Nat → Bool} {t0 : State} {s : State} (b : Option SegBuf) (hK : Same m0 t0 s)
    (h21 : m0 21 = false) :
    Same m0 t0 (State.setSeg s b) := by
  unfold State.setSeg; try dsimp only
  repeat' split
  all_goals first | done | simp (maxDischargeDepth := 60) (decide := true) [hK, h21]

@[simp] theorem State.segAdd_same {m0 : Nat → Bool} {t0 : State} {s : State} (src : Src) (r : Row) (k : Nat) (declared : Nat) (held : List Byte) (hK : Same m0 t0 s)
    (h0 : m0 0 = false) (h1 : m0 1 = false) (h2 : m0 2 = false) (h3 : m0 3 = false) (h4 : m0 4 = false) (h5 : m0 5 = false) (h6 : m0 6 = false) (h7 : m0 7 = false) (h8 : m0 8 = false) (h9 : m0 9 = false) (h10 : m0 10 = false) (h11 : m0 11 = false) (h20 : m0 20 = false) (h21 : m0 21 = false) (h22 : m0 22 = false) (h24 : m0 24 = false) (h26 : m0 26 = false) (h27 : m0 27 = false) (h28 : m0 28 = false) (h30 : m0 30 = false) (h32 : m0 32 = false) (h33 : m0 33 = false) (h34 : m0 34 = false) (h35 : m0 35 = false) (h36 : m0 36 = false) (h37 : m0 37 = false) (h38 : m0 38 = false) (h39 : m0 39 = false) (h40 : m0 40 = false) (h41 : m0 41 = false) (h42 : m0 42 = false) (h43 : m0 43 = false) :
    Same m0 t0 (State.segAdd s src r k declared held).1 := by
  unfold State.segAdd; try dsimp only
  repeat' split
  all_goals first | done | simp (maxDischargeDepth := 60) (decide := true) [hK, h0, h1, h2, h3, h4, h5, h6, h7, h8, h9, h10, h11, h20, h21, h22, h24, h26, h27, h28, h30, h32, h33, h34, h35, h36, h37, h38, h39, h40, h41, h42, h43]

@[simp] theorem State.segFirst_same {m0 : Nat → Bool} {t0 : State} {s : State} (src : Src) (r : Row) (k : Nat) (data : List Byte) (hK : Same m0 t0 s)
    (h0 : m0 0 = false) (h1 : m0 1 = false) (h2 : m0 2 = false) (h3 : m0 3 = false) (h4 : m0 4 = false) (h5 : m0 5 = false) (h6 : m0 6 = false) (h7 : m0 7 = false) (h8 : m0 8 = false) (h9 : m0 9 = false) (h10 : m0 10 = false) (h11 : m0 11 = false) (h20 : m0 20 = false) (h21 : m0 21 = false) (h22 : m0 22 = false) (h24 : m0 24 = false) (h26 : m0 26 = false) (h27 : m0 27 = false) (h28 : m0 28 = false) (h30 : m0 30 = false) (h32 : m0 32 = false) (h33 : m0 33 = false) (h34 : m0 34 = false) (h35 : m0 35 = false) (h36 : m0 36 = false) (h37 : m0 37 = false) (h38 : m0 38 = false) (h39 : m0 39 = false) (h40 : m0 40 = false) (h41 : m0 41 = false) (h42 : m0 42 = false) (h43 : m0 43 = false) :
    Same m0 t0 (State.segFirst s src r k data).1 := by
  unfold State.segFirst; try dsimp only
  repeat' split
  all_goals first | done | simp (maxDischargeDepth := 60) (decide := true) [hK, h0, h1, h2, h3, h4, h5, h6, h7, h8, h9, h10, h11, h20, h21, h22, h24, h26, h27, h28, h30, h32, h33, h34, h35, h36, h37, h38, h39, h40, h41, h42, h43]

@[simp] theorem State.segNext_same {m0 : Nat → Bool} {t0 : State} {s : State} (src : Src) (r : Row) (k : Nat) (off : Nat) (data : List Byte) (hK : Same m0 t0 s)
    (h0 : m0 0 = false) (h1 : m0 1 = false) (h2 : m0 2 = false) (h3 : m0 3 = false) (h4 : m0 4 = false) (h5 : m0 5 = false) (h6 : m0 6 = false) (h7 : m0 7 = false) (h8 : m0 8 = false) (h9 : m0 9 = false) (h10 : m0 10 = false) (h11 : m0 11 = false) (h20 : m0 20 = false) (h21 : m0 21 = false) (h22 : m0 22 = false) (h24 : m0 24 = false) (h26 : m0 26 = false) (h27 : m0 27 = false) (h28 : m0 28 = false) (h30 : m0 30 = false) (h32 : m0 32 = false) (h33 : m0 33 = false) (h34 : m0 34 = false) (h35 : m0 35 = false) (h36 : m0 36 = false) (h37 : m0 37 = false) (h38 : m0 38 = false) (h39 : m0 39 = false) (h40 : m0 40 = false) (h41 : m0 41 = false) (h42 : m0 42 = false) (h43 : m0 43 = false) :
    Same m0 t0 (State.segNext s src r k off data).1 := by
  unfold State.segNext; try dsimp only
  repeat' split
  all_goals first | done | simp (maxDischargeDepth := 60) (decide := true) [hK, h0, h1, h2, h3, h4, h5, h6, h7, h8, h9, h10, h11, h20, h21, h22, h24, h26, h27, h28, h30, h32, h33, h34, h35, h36, h37, h38, h39, h40, h41, h42, h43]

@[simp] theorem State.segDrop_same {m0 : Nat → Bool} {t0 : State} {s : State} (k : Nat) (off : Nat) (hK : Same m0 t0 s)
    (h21 : m0 21 = false) :
    Same m0 t0 (State.segDrop s k off) := by
  unfold State.segDrop; try dsimp only
  repeat' split
  all_goals first | done | simp (maxDischargeDepth := 60) (decide := true) [hK, h21]

@[simp] theorem State.writePart_same {m0 : Nat → Bool} {t0 : State} {s : State} (src : Src) (k : Nat) (off : Nat) (data : List Byte) (hK : Same m0 t0 s)
    (h0 : m0 0 = false) (h1 : m0 1 = false) (h2 : m0 2 = false) (h3 : m0 3 = false) (h4 : m0 4 = false) (h5 : m0 5 = false) (h6 : m0 6 = false) (h7 : m0 7 = false) (h8 : m0 8 = false) (h9 : m0 9 = false) (h10 : m0 10 = false) (h11 : m0 11 = false) (h20 : m0 20 = false) (h21 : m0 21 = false) (h22 : m0 22 = false) (h24 : m0 24 = false) (h26 : m0 26 = false) (h27 : m0 27 = false) (h28 : m0 28 = false) (h30 : m0 30 = false) (h32 : m0 32 = false) (h33 : m0 33 = false) (h34 : m0 34 = false) (h35 : m0 35 = false) (h36 : m0 36 = false) (h37 : m0 37 = false) (h38 : m0 38 = false) (h39 : m0 39 = false) (h40 : m0 40 = false) (h41 : m0 41 = false) (h42 : m0 42 = false) (h43 : m0 43 = false) :
    Same m0 t0 (State.writePart s src k off data).1 := by
  unfold State.writePart; try dsimp only
  repeat' split
  all_goals first | done | simp (maxDischargeDepth := 60) (decide := true) [hK, h0, h1, h2, h3, h4, h5, h6, h7, h8, h9, h10, h11, h20, h21, h22, h24, h26, h27, h28, h30, h32, h33, h34, h35, h36, h37, h38, h39, h40, h41, h42, h43]

@[simp] theorem State.carryOut_same {m0 : Nat → Bool} {t0 : State} {s : State} (src : Src) (rq : Request) (hK : Same m0 t0 s)
    (h0 : m0 0 = false) (h1 : m0 1 = false) (h2 : m0 2 = false) (h3 : m0 3 = false) (h4 : m0 4 = false) (h5 : m0 5 = false) (h6 : m0 6 = false) (h7 : m0 7 = false) (h8 : m0 8 = false) (h9 : m0 9 = false) (h10 : m0 10 = false) (h11 : m0 11 = false) (h20 : m0 20 = false) (h21 : m0 21 = false) (h22 : m0 22 = false) (h24 : m0 24 = false) (h26 : m0 26 = false) (h27 : m0 27 = false) (h28 : m0 28 = false) (h30 : m0 30 = false) (h32 : m0 32 = false) (h33 : m0 33 = false) (h34 : m0 34 = false) (h35 : m0 35 = false) (h36 : m0 36 = false) (h37 : m0 37 = false) (h38 : m0 38 = false) (h39 : m0 39 = false) (h40 : m0 40 = false) (h41 : m0 41 = false) (h42 : m0 42 = false) (h43 : m0 43 = false) :
    Same m0 t0 (State.carryOut s src rq).1 := by
  unfold State.carryOut; try dsimp only
  repeat' split
  all_goals first | done | simp (maxDischargeDepth := 60) (decide := true) [hK, h0, h1, h2, h3, h4, h5, h6, h7, h8, h9, h10, h11, h20, h21, h22, h24, h26, h27, h28, h30, h32, h33, h34, h35, h36, h37, h38, h39, h40, h41, h42, h43]

@[simp] theorem State.transact_same {m0 : Nat → Bool} {t0 : State} {s : State} (src : Src) (rq : Request) (hK : Same m0 t0 s)
    (h0 : m0 0 = false) (h1 : m0 1 = false) (h2 : m0 2 = false) (h3 : m0 3 = false) (h4 : m0 4 = false) (h5 : m0 5 = false) (h6 : m0 6 = false) (h7 : m0 7 = false) (h8 : m0 8 = false) (h9 : m0 9 = false) (h10 : m0 10 = false) (h11 : m0 11 = false) (h20 : m0 20 = false) (h21 : m0 21 = false) (h22 : m0 22 = false) (h24 : m0 24 = false) (h26 : m0 26 = false) (h27 : m0 27 = false) (h28 : m0 28 = false) (h30 : m0 30 = false) (h32 : m0 32 = false) (h33 : m0 33 = false) (h34 : m0 34 = false) (h35 : m0 35 = false) (h36 : m0 36 = false) (h37 : m0 37 = false) (h38 : m0 38 = false) (h39 : m0 39 = false) (h40 : m0 40 = false) (h41 : m0 41 = false) (h42 : m0 42 = false) (h43 : m0 43 = false) :
    Same m0 t0 (State.transact s src rq) := by
  unfold State.transact; try dsimp only
  repeat' split
  all_goals first | done | simp (maxDischargeDepth := 60) (decide := true) [hK, h0, h1, h2, h3, h4, h5, h6, h7, h8, h9, h10, h11, h20, h21, h22, h24, h26, h27, h28, h30, h32, h33, h34, h35, h36, h37, h38, h39, h40, h41, h42, h43]

/-! ## Machine/Tick.lean -/

@[simp] theorem State.age_same {m0 : Nat → Bool} {t0 : State} {s : State} (k : Nat) (n : Nat) (hK : Same m0 t0 s)
    (h0 : m0 0 = false ∨ below 0x50000 k = false ∨ tally k = true ∨ below 0x0 k = true) (h1 : m0 1 = false ∨ below 0x100000 k = false ∨ tally k = true ∨ below 0x0 k = true) (h2 : m0 2 = false ∨ below 0x500000 k = false ∨ tally k = true ∨ below 0x0 k = true) (h3 : m0 3 = false ∨ below 0x580000 k = false ∨ tally k = true ∨ below 0x0 k = true) (h4 : m0 4 = false ∨ below 0x600000 k = false ∨ tally k = true ∨ below 0x0 k = true) (h5 : m0 5 = false ∨ below 0x700000 k = false ∨ tally k = true ∨ below 0x0 k = true) (h6 : m0 6 = false ∨ below 0x880000 k = false ∨ tally k = true ∨ below 0x0 k = true) (h7 : m0 7 = false ∨ below 0xA00000 k = false ∨ tally k = true ∨ below 0x0 k = true) (h8 : m0 8 = false ∨ below 0xB00000 k = false ∨ tally k = true ∨ below 0x0 k = true) (h9 : m0 9 = false ∨ below 0x20000 k = false ∨ tally k = true ∨ below 0x10000 k = true) (h10 : m0 10 = false ∨ below 0x50000 k = false ∨ tally k = true ∨ below 0x20000 k = true) (h11 : m0 11 = false ∨ below 0x60000 k = false ∨ tally k = true ∨ below 0x50000 k = true) :
    Same m0 t0 (State.age s k n) := by
  unfold State.age; try dsimp only
  repeat' split
  all_goals first | done | simp (maxDischargeDepth := 60) (decide := true) [hK, h0, h1, h2, h3, h4, h5, h6, h7, h8, h9, h10, h11]

@[simp] theorem State.pairTick_same {m0 : Nat → Bool} {t0 : State} {s : State} (hK : Same m0 t0 s)
    (h4 : m0 4 = false) (h5 : m0 5 = false) (h6 : m0 6 = false) (h7 : m0 7 = false) (h8 : m0 8 = false) (h37 : m0 37 = false) :
    Same m0 t0 (State.pairTick s) := by
  unfold State.pairTick; try dsimp only
  repeat' split
  all_goals first | done | simp (maxDischargeDepth := 60) (decide := true) [hK, h4, h5, h6, h7, h8, h37]

@[simp] theorem State.traceSwitches_same {m0 : Nat → Bool} {t0 : State} {s : State} (hK : Same m0 t0 s)
    (h24 : m0 24 = false) :
    Same m0 t0 (State.traceSwitches s) := by
  unfold State.traceSwitches; try dsimp only
  repeat' split
  all_goals first | done | simp (maxDischargeDepth := 60) (decide := true) [hK, h24]

@[simp] theorem State.tick_same {m0 : Nat → Bool} {t0 : State} {s : State} (hK : Same m0 t0 s)
    (h0 : m0 0 = false) (h1 : m0 1 = false) (h2 : m0 2 = false) (h3 : m0 3 = false) (h4 : m0 4 = false) (h5 : m0 5 = false) (h6 : m0 6 = false) (h7 : m0 7 = false) (h8 : m0 8 = false) (h9 : m0 9 = false) (h10 : m0 10 = false) (h11 : m0 11 = false) (h20 : m0 20 = false) (h24 : m0 24 = false) (h26 : m0 26 = false) (h28 : m0 28 = false) (h33 : m0 33 = false) (h35 : m0 35 = false) (h36 : m0 36 = false) (h37 : m0 37 = false) (h39 : m0 39 = false) (h42 : m0 42 = false) (h43 : m0 43 = false) :
    Same m0 t0 (State.tick s) := by
  unfold State.tick; try dsimp only
  repeat' split
  all_goals first | done | simp (maxDischargeDepth := 60) (decide := true) [hK, h0, h1, h2, h3, h4, h5, h6, h7, h8, h9, h10, h11, h20, h24, h26, h28, h33, h35, h36, h37, h39, h42, h43]

end Sys2Proof.Machine
end

