-- ==== Sys2Proof/Laws/Commands.lean ====
section
/-! SUPPORT. Laws.Commands: every command answers a next state; what it keeps, and which parts of the state it leaves alone. -/

set_option linter.unusedSimpArgs false
set_option linter.unusedVariables false

namespace Sys2Proof.Machine

theorem execKeyGenerate_law (h : Hdr) (slot : Nat) (rsv : Nat) (word : Nat) (s : State) :
    ∃ s1, execKeyGenerate h slot rsv word s = .next s1 ∧ Keeps s s1 ∧ ∀ m0 : Nat → Bool, m0 8 = false → m0 21 = false → m0 24 = false → m0 40 = false → Same m0 s s1 := by
  exact ⟨_, rfl, by simp (maxDischargeDepth := 60), fun m0 h8 h21 h24 h40 => by simp (maxDischargeDepth := 60) (decide := true) [h8, h21, h24, h40]⟩

theorem execKeyDerive_law (h : Hdr) (slot : Nat) (rsv : Nat) (word : Nat) (rest : List Byte) (s : State) :
    ∃ s1, execKeyDerive h slot rsv word rest s = .next s1 ∧ Keeps s s1 ∧ ∀ m0 : Nat → Bool, m0 8 = false → m0 21 = false → m0 24 = false → m0 40 = false → Same m0 s s1 := by
  exact ⟨_, rfl, by simp (maxDischargeDepth := 60), fun m0 h8 h21 h24 h40 => by simp (maxDischargeDepth := 60) (decide := true) [h8, h21, h24, h40]⟩

theorem execKeyImport_law (h : Hdr) (slot : Nat) (rsv : Nat) (word : Nat) (rest : List Byte) (s : State) :
    ∃ s1, execKeyImport h slot rsv word rest s = .next s1 ∧ Keeps s s1 ∧ ∀ m0 : Nat → Bool, m0 8 = false → m0 21 = false → m0 24 = false → m0 40 = false → Same m0 s s1 := by
  exact ⟨_, rfl, by simp (maxDischargeDepth := 60), fun m0 h8 h21 h24 h40 => by simp (maxDischargeDepth := 60) (decide := true) [h8, h21, h24, h40]⟩

theorem execKeyRequest_law (slot : Nat) (engine : Nat) (use : Nat) (s : State) :
    ∃ s1, execKeyRequest slot engine use s = .next s1 ∧ Keeps s s1 ∧ ∀ m0 : Nat → Bool, m0 8 = false → m0 24 = false → m0 40 = false → Same m0 s s1 := by
  exact ⟨_, rfl, by simp (maxDischargeDepth := 60), fun m0 h8 h24 h40 => by simp (maxDischargeDepth := 60) (decide := true) [h8, h24, h40]⟩

theorem execRemaskPass_law (late : Bool) (s : State) :
    ∃ s1, execRemaskPass late s = .next s1 ∧ Keeps s s1 ∧ ∀ m0 : Nat → Bool, m0 8 = false → m0 24 = false → m0 40 = false → Same m0 s s1 := by
  exact ⟨_, rfl, by simp (maxDischargeDepth := 60), fun m0 h8 h24 h40 => by simp (maxDischargeDepth := 60) (decide := true) [h8, h24, h40]⟩

theorem execEntropyFail_law  (s : State) :
    ∃ s1, execEntropyFail s = .next s1 ∧ Keeps s s1 ∧ ∀ m0 : Nat → Bool, m0 8 = false → m0 24 = false → Same m0 s s1 := by
  exact ⟨_, rfl, by simp (maxDischargeDepth := 60), fun m0 h8 h24 => by simp (maxDischargeDepth := 60) (decide := true) [h8, h24]⟩

theorem execEntropyRecover_law  (s : State) :
    ∃ s1, execEntropyRecover s = .next s1 ∧ Keeps s s1 ∧ ∀ m0 : Nat → Bool, m0 8 = false → Same m0 s s1 := by
  exact ⟨_, rfl, by simp (maxDischargeDepth := 60), fun m0 h8 => by simp (maxDischargeDepth := 60) (decide := true) [h8]⟩

theorem execKeyDestroy_law (h : Hdr) (arg : Nat) (s : State) :
    ∃ s1, execKeyDestroy h arg s = .next s1 ∧ Keeps s s1 ∧ ∀ m0 : Nat → Bool, m0 8 = false → m0 21 = false → m0 40 = false → Same m0 s s1 := by
  exact ⟨_, rfl, by simp (maxDischargeDepth := 60), fun m0 h8 h21 h40 => by simp (maxDischargeDepth := 60) (decide := true) [h8, h21, h40]⟩

theorem execKeySlotErased_law (slot : Nat) (s : State) :
    ∃ s1, execKeySlotErased slot s = .next s1 ∧ Keeps s s1 ∧ ∀ m0 : Nat → Bool, m0 8 = false → m0 40 = false → Same m0 s s1 := by
  exact ⟨_, rfl, by simp (maxDischargeDepth := 60), fun m0 h8 h40 => by simp (maxDischargeDepth := 60) (decide := true) [h8, h40]⟩

theorem execCsrSubjectWrite_law (h : Hdr) (data : List Byte) (s : State) :
    ∃ s1, execCsrSubjectWrite h data s = .next s1 ∧ Keeps s s1 ∧ ∀ m0 : Nat → Bool, m0 8 = false → m0 21 = false → Same m0 s s1 := by
  exact ⟨_, rfl, by simp (maxDischargeDepth := 60), fun m0 h8 h21 => by simp (maxDischargeDepth := 60) (decide := true) [h8, h21]⟩

theorem execTimeActiveEnd_law (leg : Fin 32) (s : State) :
    ∃ s1, execTimeActiveEnd leg s = .next s1 ∧ Keeps s s1 ∧ ∀ m0 : Nat → Bool, m0 2 = false → m0 3 = false → m0 4 = false → m0 5 = false → m0 6 = false → m0 7 = false → m0 8 = false → m0 26 = false → Same m0 s s1 := by
  exact ⟨_, rfl, by simp (maxDischargeDepth := 60), fun m0 h2 h3 h4 h5 h6 h7 h8 h26 => by simp (maxDischargeDepth := 60) (decide := true) [h2, h3, h4, h5, h6, h7, h8, h26]⟩

theorem execEndOff_law (leg : Fin 32) (t : Nat) (s : State) :
    ∃ s1, execEndOff leg t s = .next s1 ∧ Keeps s s1 ∧ ∀ m0 : Nat → Bool, m0 2 = false → m0 3 = false → m0 4 = false → m0 5 = false → m0 6 = false → m0 7 = false → m0 8 = false → m0 26 = false → Same m0 s s1 := by
  exact ⟨_, rfl, by simp (maxDischargeDepth := 60), fun m0 h2 h3 h4 h5 h6 h7 h8 h26 => by simp (maxDischargeDepth := 60) (decide := true) [h2, h3, h4, h5, h6, h7, h8, h26]⟩

theorem execEndOn_law (leg : Fin 32) (t : Nat) (s : State) :
    ∃ s1, execEndOn leg t s = .next s1 ∧ Keeps s s1 ∧ ∀ m0 : Nat → Bool, m0 2 = false → m0 3 = false → m0 4 = false → m0 5 = false → m0 6 = false → m0 7 = false → m0 8 = false → m0 26 = false → Same m0 s s1 := by
  exact ⟨_, rfl, by simp (maxDischargeDepth := 60), fun m0 h2 h3 h4 h5 h6 h7 h8 h26 => by simp (maxDischargeDepth := 60) (decide := true) [h2, h3, h4, h5, h6, h7, h8, h26]⟩

theorem execAcceptanceMinimumEnd_law (leg : Fin 32) (s : State) :
    ∃ s1, execAcceptanceMinimumEnd leg s = .next s1 ∧ Keeps s s1 ∧ ∀ m0 : Nat → Bool, m0 2 = false → m0 3 = false → m0 4 = false → m0 5 = false → m0 6 = false → m0 7 = false → m0 8 = false → m0 26 = false → Same m0 s s1 := by
  exact ⟨_, rfl, by simp (maxDischargeDepth := 60), fun m0 h2 h3 h4 h5 h6 h7 h8 h26 => by simp (maxDischargeDepth := 60) (decide := true) [h2, h3, h4, h5, h6, h7, h8, h26]⟩

theorem execOnMaxHit_law (leg : Fin 32) (s : State) :
    ∃ s1, execOnMaxHit leg s = .next s1 ∧ Keeps s s1 ∧ ∀ m0 : Nat → Bool, m0 2 = false → m0 3 = false → m0 4 = false → m0 5 = false → m0 6 = false → m0 7 = false → m0 8 = false → m0 26 = false → Same m0 s s1 := by
  exact ⟨_, rfl, by simp (maxDischargeDepth := 60), fun m0 h2 h3 h4 h5 h6 h7 h8 h26 => by simp (maxDischargeDepth := 60) (decide := true) [h2, h3, h4, h5, h6, h7, h8, h26]⟩

theorem execPeriodMinExpiry_law (leg : Fin 32) (s : State) :
    ∃ s1, execPeriodMinExpiry leg s = .next s1 ∧ Keeps s s1 ∧ ∀ m0 : Nat → Bool, m0 2 = false → m0 3 = false → m0 4 = false → m0 5 = false → m0 6 = false → m0 7 = false → m0 8 = false → m0 26 = false → Same m0 s s1 := by
  exact ⟨_, rfl, by simp (maxDischargeDepth := 60), fun m0 h2 h3 h4 h5 h6 h7 h8 h26 => by simp (maxDischargeDepth := 60) (decide := true) [h2, h3, h4, h5, h6, h7, h8, h26]⟩

theorem execSyncSlot_law (leg : Fin 32) (s : State) :
    ∃ s1, execSyncSlot leg s = .next s1 ∧ Keeps s s1 ∧ ∀ m0 : Nat → Bool, m0 2 = false → m0 3 = false → m0 4 = false → m0 5 = false → m0 6 = false → m0 7 = false → m0 8 = false → m0 26 = false → Same m0 s s1 := by
  exact ⟨_, rfl, by simp (maxDischargeDepth := 60), fun m0 h2 h3 h4 h5 h6 h7 h8 h26 => by simp (maxDischargeDepth := 60) (decide := true) [h2, h3, h4, h5, h6, h7, h8, h26]⟩

theorem execSwnRegistered_law (leg : Fin 32) (level : Bool) (t : Nat) (s : State) :
    ∃ s1, execSwnRegistered leg level t s = .next s1 ∧ Keeps s s1 ∧ ∀ m0 : Nat → Bool, m0 0 = false → m0 1 = false → m0 2 = false → m0 3 = false → m0 4 = false → m0 5 = false → m0 6 = false → m0 7 = false → m0 8 = false → m0 9 = false → m0 10 = false → m0 11 = false → m0 26 = false → Same m0 s s1 := by
  exact ⟨_, rfl, by simp (maxDischargeDepth := 60), fun m0 h0 h1 h2 h3 h4 h5 h6 h7 h8 h9 h10 h11 h26 => by simp (maxDischargeDepth := 60) (decide := true) [h0, h1, h2, h3, h4, h5, h6, h7, h8, h9, h10, h11, h26]⟩

theorem execDtMinExpiry_law (leg : Fin 32) (s : State) :
    ∃ s1, execDtMinExpiry leg s = .next s1 ∧ Keeps s s1 ∧ ∀ m0 : Nat → Bool, m0 0 = false → m0 1 = false → m0 2 = false → m0 3 = false → m0 4 = false → m0 5 = false → m0 6 = false → m0 7 = false → m0 8 = false → m0 9 = false → m0 10 = false → m0 11 = false → m0 26 = false → Same m0 s s1 := by
  exact ⟨_, rfl, by simp (maxDischargeDepth := 60), fun m0 h0 h1 h2 h3 h4 h5 h6 h7 h8 h9 h10 h11 h26 => by simp (maxDischargeDepth := 60) (decide := true) [h0, h1, h2, h3, h4, h5, h6, h7, h8, h9, h10, h11, h26]⟩

theorem execDtMaxExpiry_law (leg : Fin 32) (s : State) :
    ∃ s1, execDtMaxExpiry leg s = .next s1 ∧ Keeps s s1 ∧ ∀ m0 : Nat → Bool, m0 0 = false → m0 1 = false → m0 2 = false → m0 3 = false → m0 4 = false → m0 5 = false → m0 6 = false → m0 7 = false → m0 8 = false → m0 9 = false → m0 10 = false → m0 11 = false → m0 26 = false → Same m0 s s1 := by
  unfold execDtMaxExpiry; (try dsimp only)
  repeat' split
  all_goals exact ⟨_, rfl, by first | done | simp (maxDischargeDepth := 60), fun m0 h0 h1 h2 h3 h4 h5 h6 h7 h8 h9 h10 h11 h26 => by first | done | simp (maxDischargeDepth := 60) (decide := true) [h0, h1, h2, h3, h4, h5, h6, h7, h8, h9, h10, h11, h26]⟩

theorem execSyncInPulse_law (g : Fin 4) (t : Nat) (widthNs : Nat) (s : State) :
    ∃ s1, execSyncInPulse g t widthNs s = .next s1 ∧ Keeps s s1 ∧ ∀ m0 : Nat → Bool, m0 2 = false → m0 3 = false → m0 4 = false → m0 5 = false → m0 6 = false → m0 7 = false → m0 8 = false → m0 26 = false → m0 28 = false → Same m0 s s1 := by
  exact ⟨_, rfl, by simp (maxDischargeDepth := 60), fun m0 h2 h3 h4 h5 h6 h7 h8 h26 h28 => by simp (maxDischargeDepth := 60) (decide := true) [h2, h3, h4, h5, h6, h7, h8, h26, h28]⟩

theorem execSyncLost_law (g : Fin 4) (s : State) :
    ∃ s1, execSyncLost g s = .next s1 ∧ Keeps s s1 ∧ ∀ m0 : Nat → Bool, m0 2 = false → m0 3 = false → m0 4 = false → m0 5 = false → m0 6 = false → m0 7 = false → m0 8 = false → m0 26 = false → m0 28 = false → Same m0 s s1 := by
  exact ⟨_, rfl, by simp (maxDischargeDepth := 60), fun m0 h2 h3 h4 h5 h6 h7 h8 h26 h28 => by simp (maxDischargeDepth := 60) (decide := true) [h2, h3, h4, h5, h6, h7, h8, h26, h28]⟩

theorem execOverrideWrite_law (h : Hdr) (leg : Fin 32) (v : Nat) (t : Nat) (s : State) :
    ∃ s1, execOverrideWrite h leg v t s = .next s1 ∧ Keeps s s1 ∧ ∀ m0 : Nat → Bool, m0 2 = false → m0 3 = false → m0 4 = false → m0 5 = false → m0 6 = false → m0 7 = false → m0 8 = false → m0 21 = false → m0 26 = false → Same m0 s s1 := by
  exact ⟨_, rfl, by simp (maxDischargeDepth := 60), fun m0 h2 h3 h4 h5 h6 h7 h8 h21 h26 => by simp (maxDischargeDepth := 60) (decide := true) [h2, h3, h4, h5, h6, h7, h8, h21, h26]⟩

theorem execArmHoldWrite_law (h : Hdr) (g : Fin 4) (mask : Nat) (t : Nat) (s : State) :
    ∃ s1, execArmHoldWrite h g mask t s = .next s1 ∧ Keeps s s1 ∧ ∀ m0 : Nat → Bool, m0 2 = false → m0 3 = false → m0 4 = false → m0 5 = false → m0 6 = false → m0 7 = false → m0 8 = false → m0 21 = false → m0 26 = false → Same m0 s s1 := by
  exact ⟨_, rfl, by simp (maxDischargeDepth := 60), fun m0 h2 h3 h4 h5 h6 h7 h8 h21 h26 => by simp (maxDischargeDepth := 60) (decide := true) [h2, h3, h4, h5, h6, h7, h8, h21, h26]⟩

theorem execArmRelease_law (h : Hdr) (g : Fin 4) (mask : Nat) (t : Nat) (s : State) :
    ∃ s1, execArmRelease h g mask t s = .next s1 ∧ Keeps s s1 ∧ ∀ m0 : Nat → Bool, m0 2 = false → m0 3 = false → m0 4 = false → m0 5 = false → m0 6 = false → m0 7 = false → m0 8 = false → m0 21 = false → m0 26 = false → Same m0 s s1 := by
  exact ⟨_, rfl, by simp (maxDischargeDepth := 60), fun m0 h2 h3 h4 h5 h6 h7 h8 h21 h26 => by simp (maxDischargeDepth := 60) (decide := true) [h2, h3, h4, h5, h6, h7, h8, h21, h26]⟩

theorem execCountClear_law (h : Hdr) (g : Fin 4) (mask : Nat) (s : State) :
    ∃ s1, execCountClear h g mask s = .next s1 ∧ Keeps s s1 ∧ ∀ m0 : Nat → Bool, m0 0 = false → m0 1 = false → m0 2 = false → m0 3 = false → m0 4 = false → m0 5 = false → m0 6 = false → m0 7 = false → m0 8 = false → m0 9 = false → m0 10 = false → m0 11 = false → m0 21 = false → Same m0 s s1 := by
  exact ⟨_, rfl, by simp (maxDischargeDepth := 60), fun m0 h0 h1 h2 h3 h4 h5 h6 h7 h8 h9 h10 h11 h21 => by simp (maxDischargeDepth := 60) (decide := true) [h0, h1, h2, h3, h4, h5, h6, h7, h8, h9, h10, h11, h21]⟩

theorem execFltNAssert_law (leg : Fin 32) (low : Bool) (widthNs : Nat) (s : State) :
    ∃ s1, execFltNAssert leg low widthNs s = .next s1 ∧ Keeps s s1 ∧ ∀ m0 : Nat → Bool, m0 0 = false → m0 1 = false → m0 2 = false → m0 3 = false → m0 4 = false → m0 5 = false → m0 6 = false → m0 7 = false → m0 8 = false → m0 9 = false → m0 10 = false → m0 11 = false → m0 24 = false → m0 26 = false → Same m0 s s1 := by
  exact ⟨_, rfl, by simp (maxDischargeDepth := 60), fun m0 h0 h1 h2 h3 h4 h5 h6 h7 h8 h9 h10 h11 h24 h26 => by simp (maxDischargeDepth := 60) (decide := true) [h0, h1, h2, h3, h4, h5, h6, h7, h8, h9, h10, h11, h24, h26]⟩

theorem execFaultClear_law (h : Hdr) (g : Fin 4) (mask : Nat) (s : State) :
    ∃ s1, execFaultClear h g mask s = .next s1 ∧ Keeps s s1 ∧ ∀ m0 : Nat → Bool, m0 2 = false → m0 3 = false → m0 4 = false → m0 5 = false → m0 6 = false → m0 7 = false → m0 8 = false → m0 21 = false → m0 26 = false → Same m0 s s1 := by
  exact ⟨_, rfl, by simp (maxDischargeDepth := 60), fun m0 h2 h3 h4 h5 h6 h7 h8 h21 h26 => by simp (maxDischargeDepth := 60) (decide := true) [h2, h3, h4, h5, h6, h7, h8, h21, h26]⟩

theorem execShortTrip_law (ch : Fin 16) (s : State) :
    ∃ s1, execShortTrip ch s = .next s1 ∧ Keeps s s1 ∧ ∀ m0 : Nat → Bool, m0 6 = false → m0 7 = false → m0 8 = false → m0 24 = false → m0 36 = false → Same m0 s s1 := by
  exact ⟨_, rfl, by simp (maxDischargeDepth := 60), fun m0 h6 h7 h8 h24 h36 => by simp (maxDischargeDepth := 60) (decide := true) [h6, h7, h8, h24, h36]⟩

theorem execOverloadTrip_law (ch : Fin 16) (s : State) :
    ∃ s1, execOverloadTrip ch s = .next s1 ∧ Keeps s s1 ∧ ∀ m0 : Nat → Bool, m0 6 = false → m0 7 = false → m0 8 = false → m0 24 = false → m0 36 = false → Same m0 s s1 := by
  exact ⟨_, rfl, by simp (maxDischargeDepth := 60), fun m0 h6 h7 h8 h24 h36 => by simp (maxDischargeDepth := 60) (decide := true) [h6, h7, h8, h24, h36]⟩

theorem execThermalTrip_law (ch : Fin 16) (s : State) :
    ∃ s1, execThermalTrip ch s = .next s1 ∧ Keeps s s1 ∧ ∀ m0 : Nat → Bool, m0 6 = false → m0 7 = false → m0 8 = false → m0 24 = false → m0 36 = false → Same m0 s s1 := by
  exact ⟨_, rfl, by simp (maxDischargeDepth := 60), fun m0 h6 h7 h8 h24 h36 => by simp (maxDischargeDepth := 60) (decide := true) [h6, h7, h8, h24, h36]⟩

theorem execInrushWindowEnd_law (ch : Fin 16) (short : Bool) (s : State) :
    ∃ s1, execInrushWindowEnd ch short s = .next s1 ∧ Keeps s s1 ∧ ∀ m0 : Nat → Bool, m0 6 = false → m0 7 = false → m0 8 = false → m0 24 = false → m0 36 = false → Same m0 s s1 := by
  exact ⟨_, rfl, by simp (maxDischargeDepth := 60), fun m0 h6 h7 h8 h24 h36 => by simp (maxDischargeDepth := 60) (decide := true) [h6, h7, h8, h24, h36]⟩

theorem execLsRetry_law (ch : Fin 16) (s : State) :
    ∃ s1, execLsRetry ch s = .next s1 ∧ Keeps s s1 ∧ ∀ m0 : Nat → Bool, m0 6 = false → m0 7 = false → m0 8 = false → m0 36 = false → Same m0 s s1 := by
  exact ⟨_, rfl, by simp (maxDischargeDepth := 60), fun m0 h6 h7 h8 h36 => by simp (maxDischargeDepth := 60) (decide := true) [h6, h7, h8, h36]⟩

theorem execCurtailEnd_law (ch : Fin 16) (s : State) :
    ∃ s1, execCurtailEnd ch s = .next s1 ∧ Keeps s s1 ∧ ∀ m0 : Nat → Bool, m0 6 = false → m0 7 = false → m0 8 = false → Same m0 s s1 := by
  exact ⟨_, rfl, by simp (maxDischargeDepth := 60), fun m0 h6 h7 h8 => by simp (maxDischargeDepth := 60) (decide := true) [h6, h7, h8]⟩

theorem execRetriesReload_law (ch : Fin 16) (s : State) :
    ∃ s1, execRetriesReload ch s = .next s1 ∧ Keeps s s1 ∧ ∀ m0 : Nat → Bool, m0 6 = false → m0 7 = false → m0 8 = false → Same m0 s s1 := by
  exact ⟨_, rfl, by simp (maxDischargeDepth := 60), fun m0 h6 h7 h8 => by simp (maxDischargeDepth := 60) (decide := true) [h6, h7, h8]⟩

theorem execVsLsOutOfRange_law (high : Bool) (s : State) :
    ∃ s1, execVsLsOutOfRange high s = .next s1 ∧ Keeps s s1 ∧ ∀ m0 : Nat → Bool, m0 6 = false → m0 7 = false → m0 8 = false → m0 36 = false → Same m0 s s1 := by
  exact ⟨_, rfl, by simp (maxDischargeDepth := 60), fun m0 h6 h7 h8 h36 => by simp (maxDischargeDepth := 60) (decide := true) [h6, h7, h8, h36]⟩

theorem execVsLsRestored_law  (s : State) :
    ∃ s1, execVsLsRestored s = .next s1 ∧ Keeps s s1 ∧ ∀ m0 : Nat → Bool, m0 6 = false → m0 7 = false → m0 8 = false → m0 24 = false → m0 36 = false → Same m0 s s1 := by
  exact ⟨_, rfl, by simp (maxDischargeDepth := 60), fun m0 h6 h7 h8 h24 h36 => by simp (maxDischargeDepth := 60) (decide := true) [h6, h7, h8, h24, h36]⟩

theorem execPkgCurrentCheck_law (vsLs : Int) (currents : List Int) (s : State) :
    ∃ s1, execPkgCurrentCheck vsLs currents s = .next s1 ∧ Keeps s s1 ∧ ∀ m0 : Nat → Bool, m0 6 = false → m0 7 = false → m0 8 = false → m0 24 = false → m0 36 = false → Same m0 s s1 := by
  exact ⟨_, rfl, by simp (maxDischargeDepth := 60), fun m0 h6 h7 h8 h24 h36 => by simp (maxDischargeDepth := 60) (decide := true) [h6, h7, h8, h24, h36]⟩

theorem execOpenLoad_law (ch : Fin 16) (below : Bool) (s : State) :
    ∃ s1, execOpenLoad ch below s = .next s1 ∧ Keeps s s1 ∧ ∀ m0 : Nat → Bool, m0 6 = false → m0 7 = false → m0 8 = false → Same m0 s s1 := by
  exact ⟨_, rfl, by simp (maxDischargeDepth := 60), fun m0 h6 h7 h8 => by simp (maxDischargeDepth := 60) (decide := true) [h6, h7, h8]⟩

theorem execChannelThermalWarning_law (ch : Fin 16) (rising : Bool) (t : Int) (s : State) :
    ∃ s1, execChannelThermalWarning ch rising t s = .next s1 ∧ Keeps s s1 ∧ ∀ m0 : Nat → Bool, m0 6 = false → m0 7 = false → m0 8 = false → m0 24 = false → Same m0 s s1 := by
  exact ⟨_, rfl, by simp (maxDischargeDepth := 60), fun m0 h6 h7 h8 h24 => by simp (maxDischargeDepth := 60) (decide := true) [h6, h7, h8, h24]⟩

theorem execFailsafeTrigger_law (silent : Bool) (s : State) :
    ∃ s1, execFailsafeTrigger silent s = .next s1 ∧ Keeps s s1 ∧ ∀ m0 : Nat → Bool, m0 6 = false → m0 7 = false → m0 8 = false → m0 24 = false → m0 36 = false → Same m0 s s1 := by
  exact ⟨_, rfl, by simp (maxDischargeDepth := 60), fun m0 h6 h7 h8 h24 h36 => by simp (maxDischargeDepth := 60) (decide := true) [h6, h7, h8, h24, h36]⟩

theorem execFsWaitEnd_law (ch : Fin 16) (s : State) :
    ∃ s1, execFsWaitEnd ch s = .next s1 ∧ Keeps s s1 ∧ ∀ m0 : Nat → Bool, m0 6 = false → m0 7 = false → m0 8 = false → m0 36 = false → Same m0 s s1 := by
  exact ⟨_, rfl, by simp (maxDischargeDepth := 60), fun m0 h6 h7 h8 h36 => by simp (maxDischargeDepth := 60) (decide := true) [h6, h7, h8, h36]⟩

theorem execHeartbeatWord_law (framed : Bool) (seq : Nat) (chk : Nat) (sinceMs : Nat) (s : State) :
    ∃ s1, execHeartbeatWord framed seq chk sinceMs s = .next s1 ∧ Keeps s s1 ∧ ∀ m0 : Nat → Bool, m0 6 = false → m0 7 = false → m0 8 = false → m0 24 = false → m0 36 = false → Same m0 s s1 := by
  exact ⟨_, rfl, by simp (maxDischargeDepth := 60), fun m0 h6 h7 h8 h24 h36 => by simp (maxDischargeDepth := 60) (decide := true) [h6, h7, h8, h24, h36]⟩

theorem execHbMaxExpiry_law  (s : State) :
    ∃ s1, execHbMaxExpiry s = .next s1 ∧ Keeps s s1 ∧ ∀ m0 : Nat → Bool, m0 6 = false → m0 7 = false → m0 8 = false → m0 24 = false → m0 36 = false → Same m0 s s1 := by
  unfold execHbMaxExpiry; (try dsimp only)
  repeat' split
  all_goals exact ⟨_, rfl, by first | done | simp (maxDischargeDepth := 60), fun m0 h6 h7 h8 h24 h36 => by first | done | simp (maxDischargeDepth := 60) (decide := true) [h6, h7, h8, h24, h36]⟩

theorem execWdRelease_law (h : Hdr) (v : Nat) (s : State) :
    ∃ s1, execWdRelease h v s = .next s1 ∧ Keeps s s1 ∧ ∀ m0 : Nat → Bool, m0 6 = false → m0 7 = false → m0 8 = false → m0 21 = false → m0 24 = false → m0 36 = false → Same m0 s s1 := by
  exact ⟨_, rfl, by simp (maxDischargeDepth := 60), fun m0 h6 h7 h8 h21 h24 h36 => by simp (maxDischargeDepth := 60) (decide := true) [h6, h7, h8, h21, h24, h36]⟩

theorem execLsOnWrite_law (h : Hdr) (ch : Fin 16) (v : Nat) (s : State) :
    ∃ s1, execLsOnWrite h ch v s = .next s1 ∧ Keeps s s1 ∧ ∀ m0 : Nat → Bool, m0 6 = false → m0 7 = false → m0 8 = false → m0 21 = false → m0 24 = false → m0 36 = false → Same m0 s s1 := by
  exact ⟨_, rfl, by simp (maxDischargeDepth := 60), fun m0 h6 h7 h8 h21 h24 h36 => by simp (maxDischargeDepth := 60) (decide := true) [h6, h7, h8, h21, h24, h36]⟩

theorem execLsClear_law (h : Hdr) (ch : Fin 16) (v : Nat) (s : State) :
    ∃ s1, execLsClear h ch v s = .next s1 ∧ Keeps s s1 ∧ ∀ m0 : Nat → Bool, m0 6 = false → m0 7 = false → m0 8 = false → m0 21 = false → m0 24 = false → m0 36 = false → Same m0 s s1 := by
  exact ⟨_, rfl, by simp (maxDischargeDepth := 60), fun m0 h6 h7 h8 h21 h24 h36 => by simp (maxDischargeDepth := 60) (decide := true) [h6, h7, h8, h21, h24, h36]⟩

theorem execLimpInChange_law (pin : Fin 8) (level : Bool) (held10ms : Bool) (s : State) :
    ∃ s1, execLimpInChange pin level held10ms s = .next s1 ∧ Keeps s s1 ∧ ∀ m0 : Nat → Bool, m0 6 = false → m0 7 = false → m0 8 = false → m0 24 = false → m0 36 = false → Same m0 s s1 := by
  exact ⟨_, rfl, by simp (maxDischargeDepth := 60), fun m0 h6 h7 h8 h24 h36 => by simp (maxDischargeDepth := 60) (decide := true) [h6, h7, h8, h24, h36]⟩

theorem execMtxFbChange_law (fb : Fin 8) (level : Bool) (s : State) :
    ∃ s1, execMtxFbChange fb level s = .next s1 ∧ Keeps s s1 ∧ ∀ m0 : Nat → Bool, m0 2 = false → m0 3 = false → m0 4 = false → m0 5 = false → m0 6 = false → m0 7 = false → m0 8 = false → m0 24 = false → m0 26 = false → m0 28 = false → m0 29 = false → m0 36 = false → m0 43 = false → Same m0 s s1 := by
  exact ⟨_, rfl, by simp (maxDischargeDepth := 60), fun m0 h2 h3 h4 h5 h6 h7 h8 h24 h26 h28 h29 h36 h43 => by simp (maxDischargeDepth := 60) (decide := true) [h2, h3, h4, h5, h6, h7, h8, h24, h26, h28, h29, h36, h43]⟩

theorem execRouteFbTimeout_law (g : Fin 4) (s : State) :
    ∃ s1, execRouteFbTimeout g s = .next s1 ∧ Keeps s s1 ∧ ∀ m0 : Nat → Bool, m0 0 = false → m0 1 = false → m0 2 = false → m0 3 = false → m0 4 = false → m0 5 = false → m0 6 = false → m0 7 = false → m0 8 = false → m0 9 = false → m0 10 = false → m0 11 = false → m0 24 = false → m0 26 = false → m0 28 = false → m0 36 = false → m0 43 = false → Same m0 s s1 := by
  exact ⟨_, rfl, by simp (maxDischargeDepth := 60), fun m0 h0 h1 h2 h3 h4 h5 h6 h7 h8 h9 h10 h11 h24 h26 h28 h36 h43 => by simp (maxDischargeDepth := 60) (decide := true) [h0, h1, h2, h3, h4, h5, h6, h7, h8, h9, h10, h11, h24, h26, h28, h36, h43]⟩

theorem execLoopSample_law (e : Fin 38) (t : Nat) (vin : Int) (vout : Int) (pin : Nat) (s : State) :
    ∃ s1, execLoopSample e t vin vout pin s = .next s1 ∧ Keeps s s1 ∧ ∀ m0 : Nat → Bool, m0 0 = false → m0 1 = false → m0 2 = false → m0 3 = false → m0 4 = false → m0 5 = false → m0 6 = false → m0 7 = false → m0 8 = false → m0 9 = false → m0 10 = false → m0 11 = false → m0 21 = false → m0 24 = false → m0 25 = false → m0 26 = false → m0 27 = false → m0 28 = false → m0 30 = false → m0 31 = false → m0 35 = false → m0 43 = false → Same m0 s s1 := by
  exact ⟨_, rfl, by simp (maxDischargeDepth := 60), fun m0 h0 h1 h2 h3 h4 h5 h6 h7 h8 h9 h10 h11 h21 h24 h25 h26 h27 h28 h30 h31 h35 h43 => by simp (maxDischargeDepth := 60) (decide := true) [h0, h1, h2, h3, h4, h5, h6, h7, h8, h9, h10, h11, h21, h24, h25, h26, h27, h28, h30, h31, h35, h43]⟩

theorem execEdgeSample_law (leg : Fin 32) (t : Nat) (count : Int) (s : State) :
    ∃ s1, execEdgeSample leg t count s = .next s1 ∧ Keeps s s1 ∧ ∀ m0 : Nat → Bool, m0 0 = false → m0 1 = false → m0 2 = false → m0 3 = false → m0 4 = false → m0 5 = false → m0 6 = false → m0 7 = false → m0 8 = false → m0 9 = false → m0 10 = false → m0 11 = false → m0 24 = false → m0 25 = false → m0 26 = false → m0 28 = false → m0 36 = false → m0 43 = false → Same m0 s s1 := by
  exact ⟨_, rfl, by simp (maxDischargeDepth := 60), fun m0 h0 h1 h2 h3 h4 h5 h6 h7 h8 h9 h10 h11 h24 h25 h26 h28 h36 h43 => by simp (maxDischargeDepth := 60) (decide := true) [h0, h1, h2, h3, h4, h5, h6, h7, h8, h9, h10, h11, h24, h25, h26, h28, h36, h43]⟩

theorem execSetpointDelivery_law (g : Fin 4) (t : Nat) (s : State) :
    ∃ s1, execSetpointDelivery g t s = .next s1 ∧ Keeps s s1 ∧ ∀ m0 : Nat → Bool, m0 2 = false → m0 3 = false → m0 4 = false → m0 5 = false → m0 6 = false → m0 7 = false → m0 8 = false → m0 20 = false → m0 25 = false → m0 28 = false → Same m0 s s1 := by
  exact ⟨_, rfl, by simp (maxDischargeDepth := 60), fun m0 h2 h3 h4 h5 h6 h7 h8 h20 h25 h28 => by simp (maxDischargeDepth := 60) (decide := true) [h2, h3, h4, h5, h6, h7, h8, h20, h25, h28]⟩

theorem execSetpFault_law (g : Fin 4) (s : State) :
    ∃ s1, execSetpFault g s = .next s1 ∧ Keeps s s1 ∧ ∀ m0 : Nat → Bool, m0 2 = false → m0 3 = false → m0 4 = false → m0 5 = false → m0 6 = false → m0 7 = false → m0 8 = false → m0 24 = false → m0 28 = false → Same m0 s s1 := by
  exact ⟨_, rfl, by simp (maxDischargeDepth := 60), fun m0 h2 h3 h4 h5 h6 h7 h8 h24 h28 => by simp (maxDischargeDepth := 60) (decide := true) [h2, h3, h4, h5, h6, h7, h8, h24, h28]⟩

theorem execSetpFaultClear_law (g : Fin 4) (s : State) :
    ∃ s1, execSetpFaultClear g s = .next s1 ∧ Keeps s s1 ∧ ∀ m0 : Nat → Bool, m0 2 = false → m0 3 = false → m0 4 = false → m0 5 = false → m0 6 = false → m0 7 = false → m0 8 = false → Same m0 s s1 := by
  exact ⟨_, rfl, by simp (maxDischargeDepth := 60), fun m0 h2 h3 h4 h5 h6 h7 h8 => by simp (maxDischargeDepth := 60) (decide := true) [h2, h3, h4, h5, h6, h7, h8]⟩

theorem execNtcSample_law (leg : Fin 32) (ohms : Nat) (s : State) :
    ∃ s1, execNtcSample leg ohms s = .next s1 ∧ Keeps s s1 ∧ ∀ m0 : Nat → Bool, m0 2 = false → m0 3 = false → m0 4 = false → m0 5 = false → m0 6 = false → m0 7 = false → m0 8 = false → m0 24 = false → m0 26 = false → m0 28 = false → Same m0 s s1 := by
  exact ⟨_, rfl, by simp (maxDischargeDepth := 60), fun m0 h2 h3 h4 h5 h6 h7 h8 h24 h26 h28 => by simp (maxDischargeDepth := 60) (decide := true) [h2, h3, h4, h5, h6, h7, h8, h24, h26, h28]⟩

theorem execSensorValidReturn_law (leg : Fin 32) (s : State) :
    ∃ s1, execSensorValidReturn leg s = .next s1 ∧ Keeps s s1 ∧ ∀ m0 : Nat → Bool, m0 2 = false → m0 3 = false → m0 4 = false → m0 5 = false → m0 6 = false → m0 7 = false → m0 8 = false → m0 26 = false → m0 28 = false → Same m0 s s1 := by
  exact ⟨_, rfl, by simp (maxDischargeDepth := 60), fun m0 h2 h3 h4 h5 h6 h7 h8 h26 h28 => by simp (maxDischargeDepth := 60) (decide := true) [h2, h3, h4, h5, h6, h7, h8, h26, h28]⟩

theorem execShedDecision_law (g : Fin 4) (s : State) :
    ∃ s1, execShedDecision g s = .next s1 ∧ Keeps s s1 ∧ ∀ m0 : Nat → Bool, m0 2 = false → m0 3 = false → m0 4 = false → m0 5 = false → m0 6 = false → m0 7 = false → m0 8 = false → m0 26 = false → m0 28 = false → Same m0 s s1 := by
  exact ⟨_, rfl, by simp (maxDischargeDepth := 60), fun m0 h2 h3 h4 h5 h6 h7 h8 h26 h28 => by simp (maxDischargeDepth := 60) (decide := true) [h2, h3, h4, h5, h6, h7, h8, h26, h28]⟩

theorem execShedWindowClose_law (g : Fin 4) (s : State) :
    ∃ s1, execShedWindowClose g s = .next s1 ∧ Keeps s s1 ∧ ∀ m0 : Nat → Bool, m0 2 = false → m0 3 = false → m0 4 = false → m0 5 = false → m0 6 = false → m0 7 = false → m0 8 = false → m0 28 = false → Same m0 s s1 := by
  exact ⟨_, rfl, by simp (maxDischargeDepth := 60), fun m0 h2 h3 h4 h5 h6 h7 h8 h28 => by simp (maxDischargeDepth := 60) (decide := true) [h2, h3, h4, h5, h6, h7, h8, h28]⟩

theorem execCmdSilenceTimeout_law (leg : Fin 32) (s : State) :
    ∃ s1, execCmdSilenceTimeout leg s = .next s1 ∧ Keeps s s1 ∧ ∀ m0 : Nat → Bool, m0 0 = false → m0 1 = false → m0 2 = false → m0 3 = false → m0 4 = false → m0 5 = false → m0 6 = false → m0 7 = false → m0 8 = false → m0 9 = false → m0 10 = false → m0 11 = false → m0 21 = false → m0 24 = false → m0 26 = false → m0 27 = false → m0 28 = false → m0 30 = false → m0 31 = false → m0 35 = false → Same m0 s s1 := by
  exact ⟨_, rfl, by simp (maxDischargeDepth := 60), fun m0 h0 h1 h2 h3 h4 h5 h6 h7 h8 h9 h10 h11 h21 h24 h26 h27 h28 h30 h31 h35 => by simp (maxDischargeDepth := 60) (decide := true) [h0, h1, h2, h3, h4, h5, h6, h7, h8, h9, h10, h11, h21, h24, h26, h27, h28, h30, h31, h35]⟩

theorem execEngineRebind_law (h : Hdr) (arg : Nat) (s : State) :
    ∃ s1, execEngineRebind h arg s = .next s1 ∧ Keeps s s1 ∧ ∀ m0 : Nat → Bool, m0 2 = false → m0 3 = false → m0 4 = false → m0 5 = false → m0 6 = false → m0 7 = false → m0 8 = false → m0 21 = false → m0 26 = false → m0 27 = false → m0 28 = false → m0 30 = false → m0 35 = false → Same m0 s s1 := by
  exact ⟨_, rfl, by simp (maxDischargeDepth := 60), fun m0 h2 h3 h4 h5 h6 h7 h8 h21 h26 h27 h28 h30 h35 => by simp (maxDischargeDepth := 60) (decide := true) [h2, h3, h4, h5, h6, h7, h8, h21, h26, h27, h28, h30, h35]⟩

theorem execRebindSwitch_law (newE : Fin 38) (s : State) :
    ∃ s1, execRebindSwitch newE s = .next s1 ∧ Keeps s s1 ∧ ∀ m0 : Nat → Bool, m0 2 = false → m0 3 = false → m0 4 = false → m0 5 = false → m0 6 = false → m0 7 = false → m0 8 = false → m0 30 = false → m0 35 = false → Same m0 s s1 := by
  refine ⟨_, rfl, State.live_keeps _ (Keeps.refl s) fun x => ?_, fun m0 h2 h3 h4 h5 h6 h7 h8 h30 h35 => State.live_same _ (Same.refl m0 s) (fun x => ?_) ⟩
  · split
    · simp
    · dsimp only
      repeat' split
      all_goals simp (maxDischargeDepth := 60)
  · split
    · simp (maxDischargeDepth := 60) (decide := true) [h2, h3, h4, h5, h6, h7, h8, h30, h35]
    · dsimp only
      repeat' split
      all_goals simp (maxDischargeDepth := 60) (decide := true) [h2, h3, h4, h5, h6, h7, h8, h30, h35]

theorem execRebindRecorded_law (newE : Fin 38) (s : State) :
    ∃ s1, execRebindRecorded newE s = .next s1 ∧ Keeps s s1 ∧ ∀ m0 : Nat → Bool, m0 0 = false → m0 1 = false → m0 2 = false → m0 3 = false → m0 4 = false → m0 5 = false → m0 6 = false → m0 7 = false → m0 8 = false → m0 9 = false → m0 10 = false → m0 11 = false → m0 21 = false → m0 26 = false → m0 27 = false → m0 28 = false → m0 30 = false → m0 31 = false → m0 35 = false → Same m0 s s1 := by
  refine ⟨_, rfl, State.live_keeps _ (Keeps.refl s) fun x => ?_, fun m0 h0 h1 h2 h3 h4 h5 h6 h7 h8 h9 h10 h11 h21 h26 h27 h28 h30 h31 h35 => State.live_same _ (Same.refl m0 s) (fun x => ?_) ⟩
  · split
    · simp
    · simp (maxDischargeDepth := 60)
  · split
    · simp (maxDischargeDepth := 60) (decide := true) [h0, h1, h2, h3, h4, h5, h6, h7, h8, h9, h10, h11, h21, h26, h27, h28, h30, h31, h35]
    · simp (maxDischargeDepth := 60) (decide := true) [h0, h1, h2, h3, h4, h5, h6, h7, h8, h9, h10, h11, h21, h26, h27, h28, h30, h31, h35]

theorem execPeriodBoundary_law (leg : Fin 32) (s : State) :
    ∃ s1, execPeriodBoundary leg s = .next s1 ∧ Keeps s s1 ∧ ∀ m0 : Nat → Bool, m0 0 = false → m0 1 = false → m0 2 = false → m0 3 = false → m0 4 = false → m0 5 = false → m0 6 = false → m0 7 = false → m0 8 = false → m0 9 = false → m0 10 = false → m0 11 = false → m0 21 = false → m0 25 = false → m0 26 = false → m0 27 = false → m0 28 = false → m0 30 = false → m0 31 = false → m0 35 = false → m0 43 = false → Same m0 s s1 := by
  exact ⟨_, rfl, by simp (maxDischargeDepth := 60), fun m0 h0 h1 h2 h3 h4 h5 h6 h7 h8 h9 h10 h11 h21 h25 h26 h27 h28 h30 h31 h35 h43 => by simp (maxDischargeDepth := 60) (decide := true) [h0, h1, h2, h3, h4, h5, h6, h7, h8, h9, h10, h11, h21, h25, h26, h27, h28, h30, h31, h35, h43]⟩

theorem execVirtualBoundary_law (leg : Fin 32) (s : State) :
    ∃ s1, execVirtualBoundary leg s = .next s1 ∧ Keeps s s1 ∧ ∀ m0 : Nat → Bool, m0 0 = false → m0 1 = false → m0 2 = false → m0 3 = false → m0 4 = false → m0 5 = false → m0 6 = false → m0 7 = false → m0 8 = false → m0 9 = false → m0 10 = false → m0 11 = false → m0 21 = false → m0 25 = false → m0 26 = false → m0 27 = false → m0 28 = false → m0 30 = false → m0 31 = false → m0 35 = false → m0 43 = false → Same m0 s s1 := by
  exact ⟨_, rfl, by simp (maxDischargeDepth := 60), fun m0 h0 h1 h2 h3 h4 h5 h6 h7 h8 h9 h10 h11 h21 h25 h26 h27 h28 h30 h31 h35 h43 => by simp (maxDischargeDepth := 60) (decide := true) [h0, h1, h2, h3, h4, h5, h6, h7, h8, h9, h10, h11, h21, h25, h26, h27, h28, h30, h31, h35, h43]⟩

theorem execBillingBoundary_law (t : Nat) (s : State) :
    ∃ s1, execBillingBoundary t s = .next s1 ∧ Keeps s s1 ∧ ∀ m0 : Nat → Bool, m0 0 = false → m0 1 = false → m0 2 = false → m0 3 = false → m0 4 = false → m0 5 = false → m0 6 = false → m0 7 = false → m0 8 = false → m0 9 = false → m0 10 = false → m0 11 = false → m0 20 = false → m0 21 = false → m0 24 = false → m0 39 = false → m0 42 = false → m0 43 = false → Same m0 s s1 := by
  exact ⟨_, rfl, by simp (maxDischargeDepth := 60), fun m0 h0 h1 h2 h3 h4 h5 h6 h7 h8 h9 h10 h11 h20 h21 h24 h39 h42 h43 => by simp (maxDischargeDepth := 60) (decide := true) [h0, h1, h2, h3, h4, h5, h6, h7, h8, h9, h10, h11, h20, h21, h24, h39, h42, h43]⟩

theorem execRegisterCommit_law  (s : State) :
    ∃ s1, execRegisterCommit s = .next s1 ∧ Keeps s s1 ∧ ∀ m0 : Nat → Bool, m0 7 = false → m0 8 = false → m0 39 = false → m0 43 = false → Same m0 s s1 := by
  exact ⟨_, rfl, by simp (maxDischargeDepth := 60), fun m0 h7 h8 h39 h43 => by simp (maxDischargeDepth := 60) (decide := true) [h7, h8, h39, h43]⟩

theorem execDmdReset_law (h : Hdr) (v : Nat) (s : State) :
    ∃ s1, execDmdReset h v s = .next s1 ∧ Keeps s s1 ∧ ∀ m0 : Nat → Bool, m0 21 = false → m0 39 = false → Same m0 s s1 := by
  exact ⟨_, rfl, by simp (maxDischargeDepth := 60), fun m0 h21 h39 => by simp (maxDischargeDepth := 60) (decide := true) [h21, h39]⟩

theorem execLogAckSeqWrite_law (h : Hdr) (v : Nat) (s : State) :
    ∃ s1, execLogAckSeqWrite h v s = .next s1 ∧ Keeps s s1 ∧ ∀ m0 : Nat → Bool, m0 7 = false → m0 8 = false → m0 21 = false → m0 24 = false → m0 39 = false → m0 42 = false → Same m0 s s1 := by
  exact ⟨_, rfl, by simp (maxDischargeDepth := 60), fun m0 h7 h8 h21 h24 h39 h42 => by simp (maxDischargeDepth := 60) (decide := true) [h7, h8, h21, h24, h39, h42]⟩

theorem execVevAckWrite_law (h : Hdr) (v : Nat) (s : State) :
    ∃ s1, execVevAckWrite h v s = .next s1 ∧ Keeps s s1 ∧ ∀ m0 : Nat → Bool, m0 21 = false → m0 42 = false → Same m0 s s1 := by
  exact ⟨_, rfl, by simp (maxDischargeDepth := 60), fun m0 h21 h42 => by simp (maxDischargeDepth := 60) (decide := true) [h21, h42]⟩

theorem execSealLoopSample_law (ohms : Nat) (s : State) :
    ∃ s1, execSealLoopSample ohms s = .next s1 ∧ Keeps s s1 ∧ ∀ m0 : Nat → Bool, m0 0 = false → m0 1 = false → m0 2 = false → m0 3 = false → m0 4 = false → m0 5 = false → m0 6 = false → m0 7 = false → m0 8 = false → m0 10 = false → m0 21 = false → m0 24 = false → m0 39 = false → m0 42 = false → Same m0 s s1 := by
  exact ⟨_, rfl, by simp (maxDischargeDepth := 60), fun m0 h0 h1 h2 h3 h4 h5 h6 h7 h8 h10 h21 h24 h39 h42 => by simp (maxDischargeDepth := 60) (decide := true) [h0, h1, h2, h3, h4, h5, h6, h7, h8, h10, h21, h24, h39, h42]⟩

theorem execTamperLoopSample_law (loop : Fin 4) (ohms : Nat) (s : State) :
    ∃ s1, execTamperLoopSample loop ohms s = .next s1 ∧ Keeps s s1 ∧ ∀ m0 : Nat → Bool, m0 0 = false → m0 1 = false → m0 2 = false → m0 3 = false → m0 4 = false → m0 5 = false → m0 6 = false → m0 7 = false → m0 8 = false → m0 10 = false → m0 21 = false → m0 24 = false → m0 39 = false → m0 42 = false → Same m0 s s1 := by
  exact ⟨_, rfl, by simp (maxDischargeDepth := 60), fun m0 h0 h1 h2 h3 h4 h5 h6 h7 h8 h10 h21 h24 h39 h42 => by simp (maxDischargeDepth := 60) (decide := true) [h0, h1, h2, h3, h4, h5, h6, h7, h8, h10, h21, h24, h39, h42]⟩

theorem execCivilTimeSet_law (h : Hdr) (arg : Nat) (s : State) :
    ∃ s1, execCivilTimeSet h arg s = .next s1 ∧ Keeps s s1 ∧ ∀ m0 : Nat → Bool, m0 0 = false → m0 1 = false → m0 2 = false → m0 3 = false → m0 4 = false → m0 5 = false → m0 6 = false → m0 7 = false → m0 8 = false → m0 9 = false → m0 10 = false → m0 11 = false → m0 20 = false → m0 21 = false → m0 24 = false → m0 39 = false → m0 42 = false → m0 43 = false → Same m0 s s1 := by
  exact ⟨_, rfl, by simp (maxDischargeDepth := 60), fun m0 h0 h1 h2 h3 h4 h5 h6 h7 h8 h9 h10 h11 h20 h21 h24 h39 h42 h43 => by simp (maxDischargeDepth := 60) (decide := true) [h0, h1, h2, h3, h4, h5, h6, h7, h8, h9, h10, h11, h20, h21, h24, h39, h42, h43]⟩

theorem execClaimUpdate_law (o : Fin 4) (s : State) :
    ∃ s1, execClaimUpdate o s = .next s1 ∧ Keeps s s1 ∧ ∀ m0 : Nat → Bool, m0 32 = false → Same m0 s s1 := by
  exact ⟨_, rfl, by simp (maxDischargeDepth := 60), fun m0 h32 => by simp (maxDischargeDepth := 60) (decide := true) [h32]⟩

theorem execWaveBlockReceive_law (src : Nat) (payload : List Byte) (s : State) :
    ∃ s1, execWaveBlockReceive src payload s = .next s1 ∧ Keeps s s1 ∧ ∀ m0 : Nat → Bool, m0 3 = false → m0 4 = false → m0 5 = false → m0 6 = false → m0 7 = false → m0 8 = false → m0 28 = false → m0 32 = false → Same m0 s s1 := by
  exact ⟨_, rfl, by simp (maxDischargeDepth := 60), fun m0 h3 h4 h5 h6 h7 h8 h28 h32 => by simp (maxDischargeDepth := 60) (decide := true) [h3, h4, h5, h6, h7, h8, h28, h32]⟩

theorem execClaimBlockInsert_law  (s : State) :
    ∃ s1, execClaimBlockInsert s = .next s1 ∧ Keeps s s1 ∧ ∀ m0 : Nat → Bool, m0 3 = false → m0 4 = false → m0 5 = false → m0 6 = false → m0 7 = false → m0 8 = false → m0 28 = false → m0 32 = false → m0 33 = false → Same m0 s s1 := by
  exact ⟨_, rfl, by simp (maxDischargeDepth := 60), fun m0 h3 h4 h5 h6 h7 h8 h28 h32 h33 => by simp (maxDischargeDepth := 60) (decide := true) [h3, h4, h5, h6, h7, h8, h28, h32, h33]⟩

theorem execWaveFreeze_law  (s : State) :
    ∃ s1, execWaveFreeze s = .next s1 ∧ Keeps s s1 ∧ ∀ m0 : Nat → Bool, m0 3 = false → m0 4 = false → m0 5 = false → m0 6 = false → m0 7 = false → m0 8 = false → m0 24 = false → m0 32 = false → Same m0 s s1 := by
  exact ⟨_, rfl, by simp (maxDischargeDepth := 60), fun m0 h3 h4 h5 h6 h7 h8 h24 h32 => by simp (maxDischargeDepth := 60) (decide := true) [h3, h4, h5, h6, h7, h8, h24, h32]⟩

theorem execAllocCalcDone_law (ns : Nat) (s : State) :
    ∃ s1, execAllocCalcDone ns s = .next s1 ∧ Keeps s s1 ∧ ∀ m0 : Nat → Bool, m0 0 = false → m0 1 = false → m0 2 = false → m0 3 = false → m0 4 = false → m0 5 = false → m0 6 = false → m0 7 = false → m0 8 = false → m0 9 = false → m0 10 = false → m0 11 = false → m0 24 = false → m0 26 = false → m0 28 = false → m0 32 = false → Same m0 s s1 := by
  exact ⟨_, rfl, by simp (maxDischargeDepth := 60), fun m0 h0 h1 h2 h3 h4 h5 h6 h7 h8 h9 h10 h11 h24 h26 h28 h32 => by simp (maxDischargeDepth := 60) (decide := true) [h0, h1, h2, h3, h4, h5, h6, h7, h8, h9, h10, h11, h24, h26, h28, h32]⟩

theorem execEpochBoundary_law  (s : State) :
    ∃ s1, execEpochBoundary s = .next s1 ∧ Keeps s s1 ∧ ∀ m0 : Nat → Bool, m0 0 = false → m0 1 = false → m0 2 = false → m0 3 = false → m0 4 = false → m0 5 = false → m0 6 = false → m0 7 = false → m0 8 = false → m0 9 = false → m0 10 = false → m0 11 = false → m0 21 = false → m0 22 = false → m0 23 = false → m0 24 = false → m0 26 = false → m0 28 = false → m0 32 = false → m0 33 = false → m0 36 = false → m0 37 = false → m0 40 = false → m0 41 = false → m0 43 = false → Same m0 s s1 := by
  exact ⟨_, rfl, by simp (maxDischargeDepth := 60), fun m0 h0 h1 h2 h3 h4 h5 h6 h7 h8 h9 h10 h11 h21 h22 h23 h24 h26 h28 h32 h33 h36 h37 h40 h41 h43 => by simp (maxDischargeDepth := 60) (decide := true) [h0, h1, h2, h3, h4, h5, h6, h7, h8, h9, h10, h11, h21, h22, h23, h24, h26, h28, h32, h33, h36, h37, h40, h41, h43]⟩

theorem execLocalEpochBoundary_law  (s : State) :
    ∃ s1, execLocalEpochBoundary s = .next s1 ∧ Keeps s s1 ∧ ∀ m0 : Nat → Bool, m0 0 = false → m0 1 = false → m0 2 = false → m0 3 = false → m0 4 = false → m0 5 = false → m0 6 = false → m0 7 = false → m0 8 = false → m0 9 = false → m0 10 = false → m0 11 = false → m0 21 = false → m0 22 = false → m0 23 = false → m0 24 = false → m0 26 = false → m0 28 = false → m0 32 = false → m0 33 = false → m0 36 = false → m0 37 = false → m0 40 = false → m0 41 = false → m0 43 = false → Same m0 s s1 := by
  exact ⟨_, rfl, by simp (maxDischargeDepth := 60), fun m0 h0 h1 h2 h3 h4 h5 h6 h7 h8 h9 h10 h11 h21 h22 h23 h24 h26 h28 h32 h33 h36 h37 h40 h41 h43 => by simp (maxDischargeDepth := 60) (decide := true) [h0, h1, h2, h3, h4, h5, h6, h7, h8, h9, h10, h11, h21, h22, h23, h24, h26, h28, h32, h33, h36, h37, h40, h41, h43]⟩

theorem execRingIsolated_law  (s : State) :
    ∃ s1, execRingIsolated s = .next s1 ∧ Keeps s s1 ∧ ∀ m0 : Nat → Bool, m0 3 = false → m0 4 = false → m0 5 = false → m0 6 = false → m0 7 = false → m0 8 = false → m0 32 = false → m0 33 = false → Same m0 s s1 := by
  exact ⟨_, rfl, by simp (maxDischargeDepth := 60), fun m0 h3 h4 h5 h6 h7 h8 h32 h33 => by simp (maxDischargeDepth := 60) (decide := true) [h3, h4, h5, h6, h7, h8, h32, h33]⟩

theorem execDemandBudgetDelivery_law (e : Fin 2) (s : State) :
    ∃ s1, execDemandBudgetDelivery e s = .next s1 ∧ Keeps s s1 ∧ ∀ m0 : Nat → Bool, m0 32 = false → Same m0 s s1 := by
  exact ⟨_, rfl, by simp (maxDischargeDepth := 60), fun m0 h32 => by simp (maxDischargeDepth := 60) (decide := true) [h32]⟩

theorem execPortStop_law (src : Nat) (port : Nat) (epoch : Nat) (s : State) :
    ∃ s1, execPortStop src port epoch s = .next s1 ∧ Keeps s s1 ∧ ∀ m0 : Nat → Bool, m0 4 = false → m0 5 = false → m0 6 = false → m0 7 = false → m0 8 = false → m0 28 = false → Same m0 s s1 := by
  exact ⟨_, rfl, by simp (maxDischargeDepth := 60), fun m0 h4 h5 h6 h7 h8 h28 => by simp (maxDischargeDepth := 60) (decide := true) [h4, h5, h6, h7, h8, h28]⟩

theorem execGroupLoss_law (src : Nat) (port : Nat) (lost : Nat) (s : State) :
    ∃ s1, execGroupLoss src port lost s = .next s1 ∧ Keeps s s1 ∧ ∀ m0 : Nat → Bool, m0 4 = false → m0 5 = false → m0 6 = false → m0 7 = false → m0 8 = false → m0 32 = false → Same m0 s s1 := by
  exact ⟨_, rfl, by simp (maxDischargeDepth := 60), fun m0 h4 h5 h6 h7 h8 h32 => by simp (maxDischargeDepth := 60) (decide := true) [h4, h5, h6, h7, h8, h32]⟩

theorem execContactorFeedback_law (o : Fin 4) (neg : Bool) (high : Bool) (s : State) :
    ∃ s1, execContactorFeedback o neg high s = .next s1 ∧ Keeps s s1 ∧ ∀ m0 : Nat → Bool, m0 0 = false → m0 1 = false → m0 2 = false → m0 3 = false → m0 4 = false → m0 5 = false → m0 6 = false → m0 7 = false → m0 8 = false → m0 9 = false → m0 10 = false → m0 11 = false → m0 21 = false → m0 24 = false → m0 26 = false → m0 28 = false → m0 32 = false → m0 33 = false → m0 34 = false → m0 35 = false → m0 36 = false → m0 39 = false → m0 43 = false → Same m0 s s1 := by
  exact ⟨_, rfl, by simp (maxDischargeDepth := 60), fun m0 h0 h1 h2 h3 h4 h5 h6 h7 h8 h9 h10 h11 h21 h24 h26 h28 h32 h33 h34 h35 h36 h39 h43 => by simp (maxDischargeDepth := 60) (decide := true) [h0, h1, h2, h3, h4, h5, h6, h7, h8, h9, h10, h11, h21, h24, h26, h28, h32, h33, h34, h35, h36, h39, h43]⟩

theorem execCtrTimeout_law (o : Fin 4) (neg : Bool) (s : State) :
    ∃ s1, execCtrTimeout o neg s = .next s1 ∧ Keeps s s1 ∧ ∀ m0 : Nat → Bool, m0 0 = false → m0 1 = false → m0 2 = false → m0 3 = false → m0 4 = false → m0 5 = false → m0 6 = false → m0 7 = false → m0 8 = false → m0 9 = false → m0 10 = false → m0 11 = false → m0 21 = false → m0 24 = false → m0 26 = false → m0 28 = false → m0 32 = false → m0 34 = false → m0 35 = false → m0 36 = false → m0 39 = false → m0 43 = false → Same m0 s s1 := by
  exact ⟨_, rfl, by simp (maxDischargeDepth := 60), fun m0 h0 h1 h2 h3 h4 h5 h6 h7 h8 h9 h10 h11 h21 h24 h26 h28 h32 h34 h35 h36 h39 h43 => by simp (maxDischargeDepth := 60) (decide := true) [h0, h1, h2, h3, h4, h5, h6, h7, h8, h9, h10, h11, h21, h24, h26, h28, h32, h34, h35, h36, h39, h43]⟩

theorem execOutletFaultClear_law (h : Hdr) (o : Fin 4) (v : Nat) (s : State) :
    ∃ s1, execOutletFaultClear h o v s = .next s1 ∧ Keeps s s1 ∧ ∀ m0 : Nat → Bool, m0 5 = false → m0 6 = false → m0 7 = false → m0 8 = false → m0 21 = false → m0 24 = false → m0 43 = false → Same m0 s s1 := by
  exact ⟨_, rfl, by simp (maxDischargeDepth := 60), fun m0 h5 h6 h7 h8 h21 h24 h43 => by simp (maxDischargeDepth := 60) (decide := true) [h5, h6, h7, h8, h21, h24, h43]⟩

theorem execPilotStateChange_law (o : Fin 4) (level : PilotLevel) (s : State) :
    ∃ s1, execPilotStateChange o level s = .next s1 ∧ Keeps s s1 ∧ ∀ m0 : Nat → Bool, m0 0 = false → m0 1 = false → m0 2 = false → m0 3 = false → m0 4 = false → m0 5 = false → m0 6 = false → m0 7 = false → m0 8 = false → m0 9 = false → m0 10 = false → m0 11 = false → m0 21 = false → m0 24 = false → m0 26 = false → m0 28 = false → m0 32 = false → m0 33 = false → m0 34 = false → m0 35 = false → m0 36 = false → m0 39 = false → m0 43 = false → Same m0 s s1 := by
  exact ⟨_, rfl, by simp (maxDischargeDepth := 60), fun m0 h0 h1 h2 h3 h4 h5 h6 h7 h8 h9 h10 h11 h21 h24 h26 h28 h32 h33 h34 h35 h36 h39 h43 => by simp (maxDischargeDepth := 60) (decide := true) [h0, h1, h2, h3, h4, h5, h6, h7, h8, h9, h10, h11, h21, h24, h26, h28, h32, h33, h34, h35, h36, h39, h43]⟩

theorem execPpChange_law (o : Fin 4) (mv : Nat) (s : State) :
    ∃ s1, execPpChange o mv s = .next s1 ∧ Keeps s s1 ∧ ∀ m0 : Nat → Bool, m0 0 = false → m0 1 = false → m0 2 = false → m0 3 = false → m0 4 = false → m0 5 = false → m0 6 = false → m0 7 = false → m0 8 = false → m0 9 = false → m0 10 = false → m0 11 = false → m0 21 = false → m0 24 = false → m0 26 = false → m0 28 = false → m0 32 = false → m0 33 = false → m0 34 = false → m0 35 = false → m0 36 = false → m0 39 = false → m0 43 = false → Same m0 s s1 := by
  exact ⟨_, rfl, by simp (maxDischargeDepth := 60), fun m0 h0 h1 h2 h3 h4 h5 h6 h7 h8 h9 h10 h11 h21 h24 h26 h28 h32 h33 h34 h35 h36 h39 h43 => by simp (maxDischargeDepth := 60) (decide := true) [h0, h1, h2, h3, h4, h5, h6, h7, h8, h9, h10, h11, h21, h24, h26, h28, h32, h33, h34, h35, h36, h39, h43]⟩

theorem execSlacMatch_law (o : Fin 4) (atten : Nat) (s : State) :
    ∃ s1, execSlacMatch o atten s = .next s1 ∧ Keeps s s1 ∧ ∀ m0 : Nat → Bool, m0 34 = false → m0 43 = false → Same m0 s s1 := by
  exact ⟨_, rfl, by simp (maxDischargeDepth := 60), fun m0 h34 h43 => by simp (maxDischargeDepth := 60) (decide := true) [h34, h43]⟩

theorem execSlacFail_law (o : Fin 4) (s : State) :
    ∃ s1, execSlacFail o s = .next s1 ∧ Keeps s s1 ∧ ∀ m0 : Nat → Bool, m0 0 = false → m0 1 = false → m0 2 = false → m0 3 = false → m0 4 = false → m0 5 = false → m0 6 = false → m0 7 = false → m0 8 = false → m0 9 = false → m0 10 = false → m0 11 = false → m0 21 = false → m0 24 = false → m0 26 = false → m0 28 = false → m0 32 = false → m0 34 = false → m0 35 = false → m0 36 = false → m0 39 = false → m0 43 = false → Same m0 s s1 := by
  exact ⟨_, rfl, by simp (maxDischargeDepth := 60), fun m0 h0 h1 h2 h3 h4 h5 h6 h7 h8 h9 h10 h11 h21 h24 h26 h28 h32 h34 h35 h36 h39 h43 => by simp (maxDischargeDepth := 60) (decide := true) [h0, h1, h2, h3, h4, h5, h6, h7, h8, h9, h10, h11, h21, h24, h26, h28, h32, h34, h35, h36, h39, h43]⟩

theorem execSdpRequest_law (o : Fin 4) (s : State) :
    ∃ s1, execSdpRequest o s = .next s1 ∧ Keeps s s1 ∧ ∀ m0 : Nat → Bool, m0 5 = false → m0 6 = false → m0 7 = false → m0 8 = false → m0 24 = false → m0 34 = false → m0 43 = false → Same m0 s s1 := by
  exact ⟨_, rfl, by simp (maxDischargeDepth := 60), fun m0 h5 h6 h7 h8 h24 h34 h43 => by simp (maxDischargeDepth := 60) (decide := true) [h5, h6, h7, h8, h24, h34, h43]⟩

theorem execTlsHandshake_law (o : Fin 4) (hello : TlsHello) (s : State) :
    ∃ s1, execTlsHandshake o hello s = .next s1 ∧ Keeps s s1 ∧ ∀ m0 : Nat → Bool, m0 5 = false → m0 6 = false → m0 7 = false → m0 8 = false → m0 24 = false → m0 34 = false → m0 40 = false → m0 43 = false → Same m0 s s1 := by
  exact ⟨_, rfl, by simp (maxDischargeDepth := 60), fun m0 h5 h6 h7 h8 h24 h34 h40 h43 => by simp (maxDischargeDepth := 60) (decide := true) [h5, h6, h7, h8, h24, h34, h40, h43]⟩

theorem execAppProtocolHandshake_law (o : Fin 4) (entries : List (Fin 3)) (s : State) :
    ∃ s1, execAppProtocolHandshake o entries s = .next s1 ∧ Keeps s s1 ∧ ∀ m0 : Nat → Bool, m0 0 = false → m0 1 = false → m0 2 = false → m0 3 = false → m0 4 = false → m0 5 = false → m0 6 = false → m0 7 = false → m0 8 = false → m0 9 = false → m0 10 = false → m0 11 = false → m0 21 = false → m0 24 = false → m0 26 = false → m0 28 = false → m0 32 = false → m0 34 = false → m0 35 = false → m0 36 = false → m0 39 = false → m0 43 = false → Same m0 s s1 := by
  refine ⟨_, rfl, State.inStates_keeps _ _ _ (Keeps.refl s) fun x => ?_, fun m0 h0 h1 h2 h3 h4 h5 h6 h7 h8 h9 h10 h11 h21 h24 h26 h28 h32 h34 h35 h36 h39 h43 => State.inStates_same _ _ _ (Same.refl m0 s) (fun x => ?_) h43⟩
  · split <;> simp (maxDischargeDepth := 60)
  · split <;> simp (maxDischargeDepth := 60) (decide := true) [h0, h1, h2, h3, h4, h5, h6, h7, h8, h9, h10, h11, h21, h24, h26, h28, h32, h34, h35, h36, h39, h43]

theorem execSessionSetup_law (o : Fin 4) (evcc : List Byte) (s : State) :
    ∃ s1, execSessionSetup o evcc s = .next s1 ∧ Keeps s s1 ∧ ∀ m0 : Nat → Bool, m0 34 = false → m0 43 = false → Same m0 s s1 := by
  exact ⟨_, rfl, by simp (maxDischargeDepth := 60), fun m0 h34 h43 => by simp (maxDischargeDepth := 60) (decide := true) [h34, h43]⟩

theorem execServiceDiscovery_law (o : Fin 4) (s : State) :
    ∃ s1, execServiceDiscovery o s = .next s1 ∧ Keeps s s1 ∧ ∀ m0 : Nat → Bool, m0 43 = false → Same m0 s s1 := by
  exact ⟨_, rfl, by simp (maxDischargeDepth := 60), fun m0 h43 => by simp (maxDischargeDepth := 60) (decide := true) [h43]⟩

theorem execServiceSelection_law (o : Fin 4) (bpt : Bool) (s : State) :
    ∃ s1, execServiceSelection o bpt s = .next s1 ∧ Keeps s s1 ∧ ∀ m0 : Nat → Bool, m0 5 = false → m0 6 = false → m0 7 = false → m0 8 = false → m0 43 = false → Same m0 s s1 := by
  exact ⟨_, rfl, by simp (maxDischargeDepth := 60), fun m0 h5 h6 h7 h8 h43 => by simp (maxDischargeDepth := 60) (decide := true) [h5, h6, h7, h8, h43]⟩

theorem execAuthorization_law (o : Fin 4) (emaid : List Byte) (chain : List Byte × Nat) (s : State) :
    ∃ s1, execAuthorization o emaid chain s = .next s1 ∧ Keeps s s1 ∧ ∀ m0 : Nat → Bool, m0 0 = false → m0 1 = false → m0 2 = false → m0 3 = false → m0 4 = false → m0 5 = false → m0 6 = false → m0 7 = false → m0 8 = false → m0 9 = false → m0 10 = false → m0 11 = false → m0 21 = false → m0 24 = false → m0 26 = false → m0 28 = false → m0 32 = false → m0 34 = false → m0 35 = false → m0 36 = false → m0 39 = false → m0 43 = false → Same m0 s s1 := by
  exact ⟨_, rfl, by simp (maxDischargeDepth := 60), fun m0 h0 h1 h2 h3 h4 h5 h6 h7 h8 h9 h10 h11 h21 h24 h26 h28 h32 h34 h35 h36 h39 h43 => by simp (maxDischargeDepth := 60) (decide := true) [h0, h1, h2, h3, h4, h5, h6, h7, h8, h9, h10, h11, h21, h24, h26, h28, h32, h34, h35, h36, h39, h43]⟩

theorem execAuthWrite_law (h : Hdr) (o : Fin 4) (v : Nat) (s : State) :
    ∃ s1, execAuthWrite h o v s = .next s1 ∧ Keeps s s1 ∧ ∀ m0 : Nat → Bool, m0 0 = false → m0 1 = false → m0 2 = false → m0 3 = false → m0 4 = false → m0 5 = false → m0 6 = false → m0 7 = false → m0 8 = false → m0 9 = false → m0 10 = false → m0 11 = false → m0 21 = false → m0 24 = false → m0 26 = false → m0 28 = false → m0 32 = false → m0 34 = false → m0 35 = false → m0 36 = false → m0 39 = false → m0 43 = false → Same m0 s s1 := by
  exact ⟨_, rfl, by simp (maxDischargeDepth := 60), fun m0 h0 h1 h2 h3 h4 h5 h6 h7 h8 h9 h10 h11 h21 h24 h26 h28 h32 h34 h35 h36 h39 h43 => by simp (maxDischargeDepth := 60) (decide := true) [h0, h1, h2, h3, h4, h5, h6, h7, h8, h9, h10, h11, h21, h24, h26, h28, h32, h34, h35, h36, h39, h43]⟩

theorem execAuthTimeout_law (o : Fin 4) (s : State) :
    ∃ s1, execAuthTimeout o s = .next s1 ∧ Keeps s s1 ∧ ∀ m0 : Nat → Bool, m0 0 = false → m0 1 = false → m0 2 = false → m0 3 = false → m0 4 = false → m0 5 = false → m0 6 = false → m0 7 = false → m0 8 = false → m0 9 = false → m0 10 = false → m0 11 = false → m0 21 = false → m0 24 = false → m0 26 = false → m0 28 = false → m0 32 = false → m0 34 = false → m0 35 = false → m0 36 = false → m0 39 = false → m0 43 = false → Same m0 s s1 := by
  exact ⟨_, rfl, by simp (maxDischargeDepth := 60), fun m0 h0 h1 h2 h3 h4 h5 h6 h7 h8 h9 h10 h11 h21 h24 h26 h28 h32 h34 h35 h36 h39 h43 => by simp (maxDischargeDepth := 60) (decide := true) [h0, h1, h2, h3, h4, h5, h6, h7, h8, h9, h10, h11, h21, h24, h26, h28, h32, h34, h35, h36, h39, h43]⟩

theorem execChargeParameterDiscovery_law (o : Fin 4) (maxV : Nat) (s : State) :
    ∃ s1, execChargeParameterDiscovery o maxV s = .next s1 ∧ Keeps s s1 ∧ ∀ m0 : Nat → Bool, m0 34 = false → m0 43 = false → Same m0 s s1 := by
  exact ⟨_, rfl, by simp (maxDischargeDepth := 60), fun m0 h34 h43 => by simp (maxDischargeDepth := 60) (decide := true) [h34, h43]⟩

theorem execScheduleExchange_law (o : Fin 4) (s : State) :
    ∃ s1, execScheduleExchange o s = .next s1 ∧ Keeps s s1 ∧ ∀ m0 : Nat → Bool, m0 0 = false → m0 1 = false → m0 2 = false → m0 3 = false → m0 4 = false → m0 5 = false → m0 6 = false → m0 7 = false → m0 8 = false → m0 9 = false → m0 10 = false → m0 11 = false → m0 21 = false → m0 24 = false → m0 26 = false → m0 28 = false → m0 32 = false → m0 34 = false → m0 35 = false → m0 36 = false → m0 39 = false → m0 43 = false → Same m0 s s1 := by
  exact ⟨_, rfl, by simp (maxDischargeDepth := 60), fun m0 h0 h1 h2 h3 h4 h5 h6 h7 h8 h9 h10 h11 h21 h24 h26 h28 h32 h34 h35 h36 h39 h43 => by simp (maxDischargeDepth := 60) (decide := true) [h0, h1, h2, h3, h4, h5, h6, h7, h8, h9, h10, h11, h21, h24, h26, h28, h32, h34, h35, h36, h39, h43]⟩

theorem execCableCheckJudged_law (o : Fin 4) (imdOk : Bool) (duty : Option Nat) (s : State) :
    ∃ s1, execCableCheckJudged o imdOk duty s = .next s1 ∧ Keeps s s1 ∧ ∀ m0 : Nat → Bool, m0 0 = false → m0 1 = false → m0 2 = false → m0 3 = false → m0 4 = false → m0 5 = false → m0 6 = false → m0 7 = false → m0 8 = false → m0 9 = false → m0 10 = false → m0 11 = false → m0 21 = false → m0 24 = false → m0 26 = false → m0 28 = false → m0 32 = false → m0 34 = false → m0 35 = false → m0 36 = false → m0 39 = false → m0 43 = false → Same m0 s s1 := by
  exact ⟨_, rfl, by simp (maxDischargeDepth := 60), fun m0 h0 h1 h2 h3 h4 h5 h6 h7 h8 h9 h10 h11 h21 h24 h26 h28 h32 h34 h35 h36 h39 h43 => by simp (maxDischargeDepth := 60) (decide := true) [h0, h1, h2, h3, h4, h5, h6, h7, h8, h9, h10, h11, h21, h24, h26, h28, h32, h34, h35, h36, h39, h43]⟩

theorem execChkTimeout_law (o : Fin 4) (s : State) :
    ∃ s1, execChkTimeout o s = .next s1 ∧ Keeps s s1 ∧ ∀ m0 : Nat → Bool, m0 0 = false → m0 1 = false → m0 2 = false → m0 3 = false → m0 4 = false → m0 5 = false → m0 6 = false → m0 7 = false → m0 8 = false → m0 9 = false → m0 10 = false → m0 11 = false → m0 21 = false → m0 24 = false → m0 26 = false → m0 28 = false → m0 32 = false → m0 34 = false → m0 35 = false → m0 36 = false → m0 39 = false → m0 43 = false → Same m0 s s1 := by
  exact ⟨_, rfl, by simp (maxDischargeDepth := 60), fun m0 h0 h1 h2 h3 h4 h5 h6 h7 h8 h9 h10 h11 h21 h24 h26 h28 h32 h34 h35 h36 h39 h43 => by simp (maxDischargeDepth := 60) (decide := true) [h0, h1, h2, h3, h4, h5, h6, h7, h8, h9, h10, h11, h21, h24, h26, h28, h32, h34, h35, h36, h39, h43]⟩

theorem execPreCharge_law (o : Fin 4) (target : Nat) (s : State) :
    ∃ s1, execPreCharge o target s = .next s1 ∧ Keeps s s1 ∧ ∀ m0 : Nat → Bool, m0 5 = false → m0 6 = false → m0 7 = false → m0 8 = false → m0 34 = false → m0 43 = false → Same m0 s s1 := by
  exact ⟨_, rfl, by simp (maxDischargeDepth := 60), fun m0 h5 h6 h7 h8 h34 h43 => by simp (maxDischargeDepth := 60) (decide := true) [h5, h6, h7, h8, h34, h43]⟩

theorem execPchTimeout_law (o : Fin 4) (s : State) :
    ∃ s1, execPchTimeout o s = .next s1 ∧ Keeps s s1 ∧ ∀ m0 : Nat → Bool, m0 0 = false → m0 1 = false → m0 2 = false → m0 3 = false → m0 4 = false → m0 5 = false → m0 6 = false → m0 7 = false → m0 8 = false → m0 9 = false → m0 10 = false → m0 11 = false → m0 21 = false → m0 24 = false → m0 26 = false → m0 28 = false → m0 32 = false → m0 34 = false → m0 35 = false → m0 36 = false → m0 39 = false → m0 43 = false → Same m0 s s1 := by
  exact ⟨_, rfl, by simp (maxDischargeDepth := 60), fun m0 h0 h1 h2 h3 h4 h5 h6 h7 h8 h9 h10 h11 h21 h24 h26 h28 h32 h34 h35 h36 h39 h43 => by simp (maxDischargeDepth := 60) (decide := true) [h0, h1, h2, h3, h4, h5, h6, h7, h8, h9, h10, h11, h21, h24, h26, h28, h32, h34, h35, h36, h39, h43]⟩

theorem execPowerDelivery_law (o : Fin 4) (start : Bool) (s : State) :
    ∃ s1, execPowerDelivery o start s = .next s1 ∧ Keeps s s1 ∧ ∀ m0 : Nat → Bool, m0 0 = false → m0 1 = false → m0 2 = false → m0 3 = false → m0 4 = false → m0 5 = false → m0 6 = false → m0 7 = false → m0 8 = false → m0 9 = false → m0 10 = false → m0 11 = false → m0 21 = false → m0 24 = false → m0 26 = false → m0 28 = false → m0 32 = false → m0 34 = false → m0 35 = false → m0 36 = false → m0 39 = false → m0 43 = false → Same m0 s s1 := by
  exact ⟨_, rfl, by simp (maxDischargeDepth := 60), fun m0 h0 h1 h2 h3 h4 h5 h6 h7 h8 h9 h10 h11 h21 h24 h26 h28 h32 h34 h35 h36 h39 h43 => by simp (maxDischargeDepth := 60) (decide := true) [h0, h1, h2, h3, h4, h5, h6, h7, h8, h9, h10, h11, h21, h24, h26, h28, h32, h34, h35, h36, h39, h43]⟩

theorem execChargeLoopRequest_law (o : Fin 4) (error : Bool) (i : Nat) (v : Nat) (p : Option Nat) (di : Nat) (dp : Option Nat) (s : State) :
    ∃ s1, execChargeLoopRequest o error i v p di dp s = .next s1 ∧ Keeps s s1 ∧ ∀ m0 : Nat → Bool, m0 0 = false → m0 1 = false → m0 2 = false → m0 3 = false → m0 4 = false → m0 5 = false → m0 6 = false → m0 7 = false → m0 8 = false → m0 9 = false → m0 10 = false → m0 11 = false → m0 21 = false → m0 24 = false → m0 26 = false → m0 28 = false → m0 32 = false → m0 33 = false → m0 34 = false → m0 35 = false → m0 36 = false → m0 39 = false → m0 43 = false → Same m0 s s1 := by
  exact ⟨_, rfl, by simp (maxDischargeDepth := 60), fun m0 h0 h1 h2 h3 h4 h5 h6 h7 h8 h9 h10 h11 h21 h24 h26 h28 h32 h33 h34 h35 h36 h39 h43 => by simp (maxDischargeDepth := 60) (decide := true) [h0, h1, h2, h3, h4, h5, h6, h7, h8, h9, h10, h11, h21, h24, h26, h28, h32, h33, h34, h35, h36, h39, h43]⟩

theorem execMeteringReceipt_law (o : Fin 4) (body : List Byte) (s : State) :
    ∃ s1, execMeteringReceipt o body s = .next s1 ∧ Keeps s s1 ∧ ∀ m0 : Nat → Bool, m0 0 = false → m0 1 = false → m0 2 = false → m0 3 = false → m0 4 = false → m0 5 = false → m0 6 = false → m0 7 = false → m0 8 = false → m0 9 = false → m0 10 = false → m0 11 = false → m0 21 = false → m0 24 = false → m0 26 = false → m0 28 = false → m0 32 = false → m0 34 = false → m0 35 = false → m0 36 = false → m0 39 = false → m0 42 = false → m0 43 = false → Same m0 s s1 := by
  exact ⟨_, rfl, by simp (maxDischargeDepth := 60), fun m0 h0 h1 h2 h3 h4 h5 h6 h7 h8 h9 h10 h11 h21 h24 h26 h28 h32 h34 h35 h36 h39 h42 h43 => by simp (maxDischargeDepth := 60) (decide := true) [h0, h1, h2, h3, h4, h5, h6, h7, h8, h9, h10, h11, h21, h24, h26, h28, h32, h34, h35, h36, h39, h42, h43]⟩

theorem execCertificateRequest_law (o : Fin 4) (body : List Byte) (s : State) :
    ∃ s1, execCertificateRequest o body s = .next s1 ∧ Keeps s s1 ∧ ∀ m0 : Nat → Bool, m0 0 = false → m0 1 = false → m0 2 = false → m0 3 = false → m0 4 = false → m0 5 = false → m0 6 = false → m0 7 = false → m0 8 = false → m0 9 = false → m0 10 = false → m0 11 = false → m0 21 = false → m0 24 = false → m0 26 = false → m0 28 = false → m0 32 = false → m0 34 = false → m0 35 = false → m0 36 = false → m0 39 = false → m0 43 = false → Same m0 s s1 := by
  exact ⟨_, rfl, by simp (maxDischargeDepth := 60), fun m0 h0 h1 h2 h3 h4 h5 h6 h7 h8 h9 h10 h11 h21 h24 h26 h28 h32 h34 h35 h36 h39 h43 => by simp (maxDischargeDepth := 60) (decide := true) [h0, h1, h2, h3, h4, h5, h6, h7, h8, h9, h10, h11, h21, h24, h26, h28, h32, h34, h35, h36, h39, h43]⟩

theorem execCertResWrite_law (h : Hdr) (o : Fin 4) (data : List Byte) (s : State) :
    ∃ s1, execCertResWrite h o data s = .next s1 ∧ Keeps s s1 ∧ ∀ m0 : Nat → Bool, m0 5 = false → m0 6 = false → m0 7 = false → m0 8 = false → m0 21 = false → m0 43 = false → Same m0 s s1 := by
  exact ⟨_, rfl, by simp (maxDischargeDepth := 60), fun m0 h5 h6 h7 h8 h21 h43 => by simp (maxDischargeDepth := 60) (decide := true) [h5, h6, h7, h8, h21, h43]⟩

theorem execCertResTimeout_law (o : Fin 4) (s : State) :
    ∃ s1, execCertResTimeout o s = .next s1 ∧ Keeps s s1 ∧ ∀ m0 : Nat → Bool, m0 5 = false → m0 6 = false → m0 7 = false → m0 8 = false → m0 43 = false → Same m0 s s1 := by
  exact ⟨_, rfl, by simp (maxDischargeDepth := 60), fun m0 h5 h6 h7 h8 h43 => by simp (maxDischargeDepth := 60) (decide := true) [h5, h6, h7, h8, h43]⟩

theorem execUnknownMessage_law (o : Fin 4) (s : State) :
    ∃ s1, execUnknownMessage o s = .next s1 ∧ Keeps s s1 ∧ ∀ m0 : Nat → Bool, m0 0 = false → m0 1 = false → m0 2 = false → m0 3 = false → m0 4 = false → m0 5 = false → m0 6 = false → m0 7 = false → m0 8 = false → m0 9 = false → m0 10 = false → m0 11 = false → m0 21 = false → m0 24 = false → m0 26 = false → m0 28 = false → m0 32 = false → m0 34 = false → m0 35 = false → m0 36 = false → m0 39 = false → m0 43 = false → Same m0 s s1 := by
  exact ⟨_, rfl, by simp (maxDischargeDepth := 60), fun m0 h0 h1 h2 h3 h4 h5 h6 h7 h8 h9 h10 h11 h21 h24 h26 h28 h32 h34 h35 h36 h39 h43 => by simp (maxDischargeDepth := 60) (decide := true) [h0, h1, h2, h3, h4, h5, h6, h7, h8, h9, h10, h11, h21, h24, h26, h28, h32, h34, h35, h36, h39, h43]⟩

theorem execWeldingDetection_law (o : Fin 4) (s : State) :
    ∃ s1, execWeldingDetection o s = .next s1 ∧ Keeps s s1 ∧ ∀ m0 : Nat → Bool, m0 43 = false → Same m0 s s1 := by
  exact ⟨_, rfl, by simp (maxDischargeDepth := 60), fun m0 h43 => by simp (maxDischargeDepth := 60) (decide := true) [h43]⟩

theorem execSessionStopReq_law (o : Fin 4) (s : State) :
    ∃ s1, execSessionStopReq o s = .next s1 ∧ Keeps s s1 ∧ ∀ m0 : Nat → Bool, m0 0 = false → m0 1 = false → m0 2 = false → m0 3 = false → m0 4 = false → m0 5 = false → m0 6 = false → m0 7 = false → m0 8 = false → m0 9 = false → m0 10 = false → m0 11 = false → m0 21 = false → m0 24 = false → m0 26 = false → m0 28 = false → m0 32 = false → m0 34 = false → m0 35 = false → m0 36 = false → m0 39 = false → m0 43 = false → Same m0 s s1 := by
  exact ⟨_, rfl, by simp (maxDischargeDepth := 60), fun m0 h0 h1 h2 h3 h4 h5 h6 h7 h8 h9 h10 h11 h21 h24 h26 h28 h32 h34 h35 h36 h39 h43 => by simp (maxDischargeDepth := 60) (decide := true) [h0, h1, h2, h3, h4, h5, h6, h7, h8, h9, h10, h11, h21, h24, h26, h28, h32, h34, h35, h36, h39, h43]⟩

theorem execFeedingGroupsParked_law (o : Fin 4) (s : State) :
    ∃ s1, execFeedingGroupsParked o s = .next s1 ∧ Keeps s s1 ∧ ∀ m0 : Nat → Bool, m0 0 = false → m0 1 = false → m0 2 = false → m0 3 = false → m0 4 = false → m0 5 = false → m0 6 = false → m0 7 = false → m0 8 = false → m0 9 = false → m0 10 = false → m0 11 = false → m0 21 = false → m0 24 = false → m0 26 = false → m0 28 = false → m0 32 = false → m0 34 = false → m0 35 = false → m0 36 = false → m0 39 = false → m0 43 = false → Same m0 s s1 := by
  exact ⟨_, rfl, by simp (maxDischargeDepth := 60), fun m0 h0 h1 h2 h3 h4 h5 h6 h7 h8 h9 h10 h11 h21 h24 h26 h28 h32 h34 h35 h36 h39 h43 => by simp (maxDischargeDepth := 60) (decide := true) [h0, h1, h2, h3, h4, h5, h6, h7, h8, h9, h10, h11, h21, h24, h26, h28, h32, h34, h35, h36, h39, h43]⟩

theorem execEstopOpenExpiry_law (o : Fin 4) (s : State) :
    ∃ s1, execEstopOpenExpiry o s = .next s1 ∧ Keeps s s1 ∧ ∀ m0 : Nat → Bool, m0 0 = false → m0 1 = false → m0 2 = false → m0 3 = false → m0 4 = false → m0 5 = false → m0 6 = false → m0 7 = false → m0 8 = false → m0 9 = false → m0 10 = false → m0 11 = false → m0 21 = false → m0 24 = false → m0 26 = false → m0 28 = false → m0 32 = false → m0 34 = false → m0 35 = false → m0 36 = false → m0 39 = false → m0 43 = false → Same m0 s s1 := by
  exact ⟨_, rfl, by simp (maxDischargeDepth := 60), fun m0 h0 h1 h2 h3 h4 h5 h6 h7 h8 h9 h10 h11 h21 h24 h26 h28 h32 h34 h35 h36 h39 h43 => by simp (maxDischargeDepth := 60) (decide := true) [h0, h1, h2, h3, h4, h5, h6, h7, h8, h9, h10, h11, h21, h24, h26, h28, h32, h34, h35, h36, h39, h43]⟩

theorem execImdFault_law (o : Fin 4) (s : State) :
    ∃ s1, execImdFault o s = .next s1 ∧ Keeps s s1 ∧ ∀ m0 : Nat → Bool, m0 0 = false → m0 1 = false → m0 2 = false → m0 3 = false → m0 4 = false → m0 5 = false → m0 6 = false → m0 7 = false → m0 8 = false → m0 9 = false → m0 10 = false → m0 11 = false → m0 21 = false → m0 24 = false → m0 26 = false → m0 28 = false → m0 32 = false → m0 33 = false → m0 34 = false → m0 35 = false → m0 36 = false → m0 39 = false → m0 43 = false → Same m0 s s1 := by
  exact ⟨_, rfl, by simp (maxDischargeDepth := 60), fun m0 h0 h1 h2 h3 h4 h5 h6 h7 h8 h9 h10 h11 h21 h24 h26 h28 h32 h33 h34 h35 h36 h39 h43 => by simp (maxDischargeDepth := 60) (decide := true) [h0, h1, h2, h3, h4, h5, h6, h7, h8, h9, h10, h11, h21, h24, h26, h28, h32, h33, h34, h35, h36, h39, h43]⟩

theorem execImdPwmEdgeLost_law (o : Fin 4) (s : State) :
    ∃ s1, execImdPwmEdgeLost o s = .next s1 ∧ Keeps s s1 ∧ ∀ m0 : Nat → Bool, m0 5 = false → m0 6 = false → m0 7 = false → m0 8 = false → m0 43 = false → Same m0 s s1 := by
  exact ⟨_, rfl, by simp (maxDischargeDepth := 60), fun m0 h5 h6 h7 h8 h43 => by simp (maxDischargeDepth := 60) (decide := true) [h5, h6, h7, h8, h43]⟩

theorem execSessionStop_law (h : Hdr) (arg : Nat) (s : State) :
    ∃ s1, execSessionStop h arg s = .next s1 ∧ Keeps s s1 ∧ ∀ m0 : Nat → Bool, m0 0 = false → m0 1 = false → m0 2 = false → m0 3 = false → m0 4 = false → m0 5 = false → m0 6 = false → m0 7 = false → m0 8 = false → m0 9 = false → m0 10 = false → m0 11 = false → m0 21 = false → m0 24 = false → m0 26 = false → m0 28 = false → m0 32 = false → m0 33 = false → m0 34 = false → m0 35 = false → m0 36 = false → m0 39 = false → m0 43 = false → Same m0 s s1 := by
  exact ⟨_, rfl, by simp (maxDischargeDepth := 60), fun m0 h0 h1 h2 h3 h4 h5 h6 h7 h8 h9 h10 h11 h21 h24 h26 h28 h32 h33 h34 h35 h36 h39 h43 => by simp (maxDischargeDepth := 60) (decide := true) [h0, h1, h2, h3, h4, h5, h6, h7, h8, h9, h10, h11, h21, h24, h26, h28, h32, h33, h34, h35, h36, h39, h43]⟩

theorem execAcctIdWrite_law (h : Hdr) (v : Nat) (s : State) :
    ∃ s1, execAcctIdWrite h v s = .next s1 ∧ Keeps s s1 ∧ ∀ m0 : Nat → Bool, m0 21 = false → m0 39 = false → Same m0 s s1 := by
  exact ⟨_, rfl, by simp (maxDischargeDepth := 60), fun m0 h21 h39 => by simp (maxDischargeDepth := 60) (decide := true) [h21, h39]⟩

theorem execFriendlyHoursChange_law  (s : State) :
    ∃ s1, execFriendlyHoursChange s = .next s1 ∧ Keeps s s1 ∧ ∀ m0 : Nat → Bool, m0 0 = false → m0 1 = false → m0 2 = false → m0 3 = false → m0 4 = false → m0 5 = false → m0 6 = false → m0 7 = false → m0 8 = false → m0 9 = false → m0 10 = false → m0 11 = false → m0 21 = false → m0 24 = false → m0 26 = false → m0 28 = false → m0 32 = false → m0 34 = false → m0 35 = false → m0 36 = false → m0 39 = false → m0 43 = false → Same m0 s s1 := by
  exact ⟨_, rfl, by simp (maxDischargeDepth := 60), fun m0 h0 h1 h2 h3 h4 h5 h6 h7 h8 h9 h10 h11 h21 h24 h26 h28 h32 h34 h35 h36 h39 h43 => by simp (maxDischargeDepth := 60) (decide := true) [h0, h1, h2, h3, h4, h5, h6, h7, h8, h9, h10, h11, h21, h24, h26, h28, h32, h34, h35, h36, h39, h43]⟩

theorem execAccountTopup_law (h : Hdr) (arg : Nat) (s : State) :
    ∃ s1, execAccountTopup h arg s = .next s1 ∧ Keeps s s1 ∧ ∀ m0 : Nat → Bool, m0 0 = false → m0 1 = false → m0 2 = false → m0 3 = false → m0 4 = false → m0 5 = false → m0 6 = false → m0 7 = false → m0 8 = false → m0 9 = false → m0 10 = false → m0 11 = false → m0 21 = false → m0 24 = false → m0 26 = false → m0 28 = false → m0 32 = false → m0 34 = false → m0 35 = false → m0 36 = false → m0 39 = false → m0 43 = false → Same m0 s s1 := by
  exact ⟨_, rfl, by simp (maxDischargeDepth := 60), fun m0 h0 h1 h2 h3 h4 h5 h6 h7 h8 h9 h10 h11 h21 h24 h26 h28 h32 h34 h35 h36 h39 h43 => by simp (maxDischargeDepth := 60) (decide := true) [h0, h1, h2, h3, h4, h5, h6, h7, h8, h9, h10, h11, h21, h24, h26, h28, h32, h34, h35, h36, h39, h43]⟩

theorem execLegalRecordWritten_law  (s : State) :
    ∃ s1, execLegalRecordWritten s = .next s1 ∧ Keeps s s1 ∧ ∀ m0 : Nat → Bool, m0 7 = false → m0 8 = false → m0 21 = false → m0 24 = false → m0 39 = false → m0 42 = false → m0 43 = false → Same m0 s s1 := by
  exact ⟨_, rfl, by simp (maxDischargeDepth := 60), fun m0 h7 h8 h21 h24 h39 h42 h43 => by simp (maxDischargeDepth := 60) (decide := true) [h7, h8, h21, h24, h39, h42, h43]⟩

theorem execFlowLost_law (o : Fin 4) (s : State) :
    ∃ s1, execFlowLost o s = .next s1 ∧ Keeps s s1 ∧ ∀ m0 : Nat → Bool, m0 5 = false → m0 6 = false → m0 7 = false → m0 8 = false → m0 20 = false → m0 24 = false → m0 35 = false → Same m0 s s1 := by
  exact ⟨_, rfl, by simp (maxDischargeDepth := 60), fun m0 h5 h6 h7 h8 h20 h24 h35 => by simp (maxDischargeDepth := 60) (decide := true) [h5, h6, h7, h8, h20, h24, h35]⟩

theorem execInputValidReturn_law (o : Fin 4) (input : Fin 7) (s : State) :
    ∃ s1, execInputValidReturn o input s = .next s1 ∧ Keeps s s1 ∧ ∀ m0 : Nat → Bool, m0 5 = false → m0 6 = false → m0 7 = false → m0 8 = false → m0 20 = false → m0 24 = false → m0 35 = false → Same m0 s s1 := by
  exact ⟨_, rfl, by simp (maxDischargeDepth := 60), fun m0 h5 h6 h7 h8 h20 h24 h35 => by simp (maxDischargeDepth := 60) (decide := true) [h5, h6, h7, h8, h20, h24, h35]⟩

theorem execCoolingStep_law (o : Fin 4) (ohms : List Nat) (pulses : Nat) (us : Nat) (ns : Nat) (s : State) :
    ∃ s1, execCoolingStep o ohms pulses us ns s = .next s1 ∧ Keeps s s1 ∧ ∀ m0 : Nat → Bool, m0 0 = false → m0 1 = false → m0 2 = false → m0 3 = false → m0 4 = false → m0 5 = false → m0 6 = false → m0 7 = false → m0 8 = false → m0 9 = false → m0 10 = false → m0 11 = false → m0 20 = false → m0 21 = false → m0 24 = false → m0 26 = false → m0 28 = false → m0 30 = false → m0 32 = false → m0 33 = false → m0 34 = false → m0 35 = false → m0 36 = false → m0 39 = false → m0 43 = false → Same m0 s s1 := by
  exact ⟨_, rfl, by simp (maxDischargeDepth := 60), fun m0 h0 h1 h2 h3 h4 h5 h6 h7 h8 h9 h10 h11 h20 h21 h24 h26 h28 h30 h32 h33 h34 h35 h36 h39 h43 => by simp (maxDischargeDepth := 60) (decide := true) [h0, h1, h2, h3, h4, h5, h6, h7, h8, h9, h10, h11, h20, h21, h24, h26, h28, h30, h32, h33, h34, h35, h36, h39, h43]⟩

theorem execCoolLoopSilent_law (o : Fin 4) (s : State) :
    ∃ s1, execCoolLoopSilent o s = .next s1 ∧ Keeps s s1 ∧ ∀ m0 : Nat → Bool, m0 0 = false → m0 1 = false → m0 2 = false → m0 3 = false → m0 4 = false → m0 5 = false → m0 6 = false → m0 7 = false → m0 8 = false → m0 9 = false → m0 10 = false → m0 11 = false → m0 21 = false → m0 24 = false → m0 26 = false → m0 27 = false → m0 28 = false → m0 30 = false → m0 32 = false → m0 33 = false → m0 34 = false → m0 35 = false → m0 36 = false → m0 39 = false → m0 43 = false → Same m0 s s1 := by
  exact ⟨_, rfl, by simp (maxDischargeDepth := 60), fun m0 h0 h1 h2 h3 h4 h5 h6 h7 h8 h9 h10 h11 h21 h24 h26 h27 h28 h30 h32 h33 h34 h35 h36 h39 h43 => by simp (maxDischargeDepth := 60) (decide := true) [h0, h1, h2, h3, h4, h5, h6, h7, h8, h9, h10, h11, h21, h24, h26, h27, h28, h30, h32, h33, h34, h35, h36, h39, h43]⟩

theorem execCableCheckRequest_law (o : Fin 4) (s : State) :
    ∃ s1, execCableCheckRequest o s = .next s1 ∧ Keeps s s1 ∧ ∀ m0 : Nat → Bool, m0 0 = false → m0 1 = false → m0 2 = false → m0 3 = false → m0 4 = false → m0 5 = false → m0 6 = false → m0 7 = false → m0 8 = false → m0 9 = false → m0 10 = false → m0 11 = false → m0 21 = false → m0 24 = false → m0 26 = false → m0 28 = false → m0 32 = false → m0 33 = false → m0 34 = false → m0 35 = false → m0 36 = false → m0 39 = false → m0 43 = false → Same m0 s s1 := by
  exact ⟨_, rfl, by simp (maxDischargeDepth := 60), fun m0 h0 h1 h2 h3 h4 h5 h6 h7 h8 h9 h10 h11 h21 h24 h26 h28 h32 h33 h34 h35 h36 h39 h43 => by simp (maxDischargeDepth := 60) (decide := true) [h0, h1, h2, h3, h4, h5, h6, h7, h8, h9, h10, h11, h21, h24, h26, h28, h32, h33, h34, h35, h36, h39, h43]⟩

theorem execQueuePacketWhole_law  (s : State) :
    ∃ s1, execQueuePacketWhole s = .next s1 ∧ Keeps s s1 ∧ ∀ m0 : Nat → Bool, m0 24 = false → Same m0 s s1 := by
  exact ⟨_, rfl, by simp (maxDischargeDepth := 60), fun m0 h24 => by simp (maxDischargeDepth := 60) (decide := true) [h24]⟩

theorem execEqWordRead_law (h : Hdr) (s : State) :
    ∃ s1, execEqWordRead h s = .next s1 ∧ Keeps s s1 ∧ ∀ m0 : Nat → Bool, m0 21 = false → m0 24 = false → Same m0 s s1 := by
  unfold execEqWordRead; (try dsimp only)
  repeat' split
  all_goals exact ⟨_, rfl, by first | done | simp (maxDischargeDepth := 60), fun m0 h21 h24 => by first | done | simp (maxDischargeDepth := 60) (decide := true) [h21, h24]⟩

theorem execEqPacketRead_law (h : Hdr) (s : State) :
    ∃ s1, execEqPacketRead h s = .next s1 ∧ Keeps s s1 ∧ ∀ m0 : Nat → Bool, m0 21 = false → m0 24 = false → Same m0 s s1 := by
  unfold execEqPacketRead; (try dsimp only)
  repeat' split
  all_goals exact ⟨_, rfl, by first | done | simp (maxDischargeDepth := 60), fun m0 h21 h24 => by first | done | simp (maxDischargeDepth := 60) (decide := true) [h21, h24]⟩

theorem execEqClear_law (h : Hdr) (v : Nat) (s : State) :
    ∃ s1, execEqClear h v s = .next s1 ∧ Keeps s s1 ∧ ∀ m0 : Nat → Bool, m0 21 = false → m0 24 = false → Same m0 s s1 := by
  exact ⟨_, rfl, by simp (maxDischargeDepth := 60), fun m0 h21 h24 => by simp (maxDischargeDepth := 60) (decide := true) [h21, h24]⟩

theorem execDropRest_law (h : Hdr) (arg : Nat) (s : State) :
    ∃ s1, execDropRest h arg s = .next s1 ∧ Keeps s s1 ∧ ∀ m0 : Nat → Bool, m0 21 = false → m0 24 = false → Same m0 s s1 := by
  exact ⟨_, rfl, by simp (maxDischargeDepth := 60), fun m0 h21 h24 => by simp (maxDischargeDepth := 60) (decide := true) [h21, h24]⟩

theorem execFlush_law (h : Hdr) (arg : Nat) (s : State) :
    ∃ s1, execFlush h arg s = .next s1 ∧ Keeps s s1 ∧ ∀ m0 : Nat → Bool, m0 21 = false → m0 24 = false → Same m0 s s1 := by
  exact ⟨_, rfl, by simp (maxDischargeDepth := 60), fun m0 h21 h24 => by simp (maxDischargeDepth := 60) (decide := true) [h21, h24]⟩

theorem execFlushAtBoundary_law  (s : State) :
    ∃ s1, execFlushAtBoundary s = .next s1 ∧ Keeps s s1 ∧ ∀ m0 : Nat → Bool, m0 21 = false → m0 24 = false → Same m0 s s1 := by
  exact ⟨_, rfl, by simp (maxDischargeDepth := 60), fun m0 h21 h24 => by simp (maxDischargeDepth := 60) (decide := true) [h21, h24]⟩

theorem execPennantRaise_law (source : Nat) (event : Nat) (prio : Nat) (detailKind : Nat) (before : Nat) (extra : Nat) (s : State) :
    ∃ s1, execPennantRaise source event prio detailKind before extra s = .next s1 ∧ Keeps s s1 ∧ ∀ m0 : Nat → Bool, m0 24 = false → Same m0 s s1 := by
  exact ⟨_, rfl, by simp (maxDischargeDepth := 60), fun m0 h24 => by simp (maxDischargeDepth := 60) (decide := true) [h24]⟩

theorem execTraceRaise_law (kind : Nat) (inst : Nat) (message : Nat) (length : Nat) (s : State) :
    ∃ s1, execTraceRaise kind inst message length s = .next s1 ∧ Keeps s s1 ∧ ∀ m0 : Nat → Bool, m0 24 = false → Same m0 s s1 := by
  exact ⟨_, rfl, by simp (maxDischargeDepth := 60), fun m0 h24 => by simp (maxDischargeDepth := 60) (decide := true) [h24]⟩

theorem execCoalWindowEnd_law (source : Nat) (event : Nat) (s : State) :
    ∃ s1, execCoalWindowEnd source event s = .next s1 ∧ Keeps s s1 ∧ ∀ m0 : Nat → Bool, m0 24 = false → Same m0 s s1 := by
  exact ⟨_, rfl, by simp (maxDischargeDepth := 60), fun m0 h24 => by simp (maxDischargeDepth := 60) (decide := true) [h24]⟩

theorem execGapDue_law  (s : State) :
    ∃ s1, execGapDue s = .next s1 ∧ Keeps s s1 ∧ ∀ m0 : Nat → Bool, m0 24 = false → Same m0 s s1 := by
  exact ⟨_, rfl, by simp (maxDischargeDepth := 60), fun m0 h24 => by simp (maxDischargeDepth := 60) (decide := true) [h24]⟩

theorem execRingTokenGain_law  (s : State) :
    ∃ s1, execRingTokenGain s = .next s1 ∧ Keeps s s1 ∧ ∀ m0 : Nat → Bool, Same m0 s s1 := by
  exact ⟨_, rfl, by simp (maxDischargeDepth := 60), fun m0 => by simp (maxDischargeDepth := 60) (decide := true) []⟩

theorem execRingOutboxSend_law (waitedMs : Nat) (s : State) :
    ∃ s1, execRingOutboxSend waitedMs s = .next s1 ∧ Keeps s s1 ∧ ∀ m0 : Nat → Bool, m0 8 = false → m0 24 = false → m0 33 = false → m0 40 = false → Same m0 s s1 := by
  exact ⟨_, rfl, by simp (maxDischargeDepth := 60), fun m0 h8 h24 h33 h40 => by simp (maxDischargeDepth := 60) (decide := true) [h8, h24, h33, h40]⟩

theorem execTraceOutboxSend_law  (s : State) :
    ∃ s1, execTraceOutboxSend s = .next s1 ∧ Keeps s s1 ∧ ∀ m0 : Nat → Bool, m0 8 = false → m0 24 = false → m0 33 = false → m0 40 = false → Same m0 s s1 := by
  exact ⟨_, rfl, by simp (maxDischargeDepth := 60), fun m0 h8 h24 h33 h40 => by simp (maxDischargeDepth := 60) (decide := true) [h8, h24, h33, h40]⟩

theorem execMarkLaunch_law (cold : Bool) (s : State) :
    ∃ s1, execMarkLaunch cold s = .next s1 ∧ Keeps s s1 ∧ ∀ m0 : Nat → Bool, m0 3 = false → m0 4 = false → m0 5 = false → m0 6 = false → m0 7 = false → m0 8 = false → m0 20 = false → m0 24 = false → m0 32 = false → m0 33 = false → Same m0 s s1 := by
  exact ⟨_, rfl, by simp (maxDischargeDepth := 60), fun m0 h3 h4 h5 h6 h7 h8 h20 h24 h32 h33 => by simp (maxDischargeDepth := 60) (decide := true) [h3, h4, h5, h6, h7, h8, h20, h24, h32, h33]⟩

theorem execHoistSuccession_law  (s : State) :
    ∃ s1, execHoistSuccession s = .next s1 ∧ Keeps s s1 ∧ ∀ m0 : Nat → Bool, m0 3 = false → m0 4 = false → m0 5 = false → m0 6 = false → m0 7 = false → m0 8 = false → m0 20 = false → m0 24 = false → m0 32 = false → m0 33 = false → Same m0 s s1 := by
  exact ⟨_, rfl, by simp (maxDischargeDepth := 60), fun m0 h3 h4 h5 h6 h7 h8 h20 h24 h32 h33 => by simp (maxDischargeDepth := 60) (decide := true) [h3, h4, h5, h6, h7, h8, h20, h24, h32, h33]⟩

theorem execDictRequestFrame_law (f : Frame) (s : State) :
    ∃ s1, execDictRequestFrame f s = .next s1 ∧ Keeps s s1 ∧ ∀ m0 : Nat → Bool, m0 4 = false → m0 5 = false → m0 6 = false → m0 7 = false → m0 8 = false → m0 21 = false → m0 33 = false → Same m0 s s1 := by
  exact ⟨_, rfl, by simp (maxDischargeDepth := 60), fun m0 h4 h5 h6 h7 h8 h21 h33 => by simp (maxDischargeDepth := 60) (decide := true) [h4, h5, h6, h7, h8, h21, h33]⟩

theorem execDictResponseFrame_law (node : Nat) (s : State) :
    ∃ s1, execDictResponseFrame node s = .next s1 ∧ Keeps s s1 ∧ ∀ m0 : Nat → Bool, m0 8 = false → m0 21 = false → m0 33 = false → m0 40 = false → Same m0 s s1 := by
  refine ⟨_, rfl, State.live_keeps _ (Keeps.refl s) fun x => ?_, fun m0 h8 h21 h33 h40 => State.live_same _ (Same.refl m0 s) (fun x => ?_) ⟩
  · split
    · split <;> simp (maxDischargeDepth := 60)
    · simp
  · split
    · split <;> simp (maxDischargeDepth := 60) (decide := true) [h8, h21, h33, h40]
    · simp (maxDischargeDepth := 60) (decide := true) [h8, h21, h33, h40]

theorem execPennantRecordsFrame_law (f : Frame) (s : State) :
    ∃ s1, execPennantRecordsFrame f s = .next s1 ∧ Keeps s s1 ∧ ∀ m0 : Nat → Bool, m0 4 = false → m0 5 = false → m0 6 = false → m0 7 = false → m0 8 = false → m0 24 = false → m0 33 = false → Same m0 s s1 := by
  exact ⟨_, rfl, by simp (maxDischargeDepth := 60), fun m0 h4 h5 h6 h7 h8 h24 h33 => by simp (maxDischargeDepth := 60) (decide := true) [h4, h5, h6, h7, h8, h24, h33]⟩

theorem execStreamerRecordsFrame_law (f : Frame) (s : State) :
    ∃ s1, execStreamerRecordsFrame f s = .next s1 ∧ Keeps s s1 ∧ ∀ m0 : Nat → Bool, m0 4 = false → m0 5 = false → m0 6 = false → m0 7 = false → m0 8 = false → m0 24 = false → m0 33 = false → Same m0 s s1 := by
  exact ⟨_, rfl, by simp (maxDischargeDepth := 60), fun m0 h4 h5 h6 h7 h8 h24 h33 => by simp (maxDischargeDepth := 60) (decide := true) [h4, h5, h6, h7, h8, h24, h33]⟩

theorem execFirmwareDataFrame_law (f : Frame) (s : State) :
    ∃ s1, execFirmwareDataFrame f s = .next s1 ∧ Keeps s s1 ∧ ∀ m0 : Nat → Bool, m0 4 = false → m0 5 = false → m0 6 = false → m0 7 = false → m0 8 = false → m0 33 = false → Same m0 s s1 := by
  exact ⟨_, rfl, by simp (maxDischargeDepth := 60), fun m0 h4 h5 h6 h7 h8 h33 => by simp (maxDischargeDepth := 60) (decide := true) [h4, h5, h6, h7, h8, h33]⟩

theorem execJoin_law (f : Frame) (s : State) :
    ∃ s1, execJoin f s = .next s1 ∧ Keeps s s1 ∧ ∀ m0 : Nat → Bool, m0 4 = false → m0 5 = false → m0 6 = false → m0 7 = false → m0 8 = false → m0 33 = false → m0 40 = false → Same m0 s s1 := by
  exact ⟨_, rfl, by simp (maxDischargeDepth := 60), fun m0 h4 h5 h6 h7 h8 h33 h40 => by simp (maxDischargeDepth := 60) (decide := true) [h4, h5, h6, h7, h8, h33, h40]⟩

theorem execJoinSend_law  (s : State) :
    ∃ s1, execJoinSend s = .next s1 ∧ Keeps s s1 ∧ ∀ m0 : Nat → Bool, m0 4 = false → m0 5 = false → m0 6 = false → m0 7 = false → m0 8 = false → m0 33 = false → m0 40 = false → Same m0 s s1 := by
  exact ⟨_, rfl, by simp (maxDischargeDepth := 60), fun m0 h4 h5 h6 h7 h8 h33 h40 => by simp (maxDischargeDepth := 60) (decide := true) [h4, h5, h6, h7, h8, h33, h40]⟩

theorem execJoinRetry_law  (s : State) :
    ∃ s1, execJoinRetry s = .next s1 ∧ Keeps s s1 ∧ ∀ m0 : Nat → Bool, m0 4 = false → m0 5 = false → m0 6 = false → m0 7 = false → m0 8 = false → m0 33 = false → m0 40 = false → Same m0 s s1 := by
  exact ⟨_, rfl, by simp (maxDischargeDepth := 60), fun m0 h4 h5 h6 h7 h8 h33 h40 => by simp (maxDischargeDepth := 60) (decide := true) [h4, h5, h6, h7, h8, h33, h40]⟩

theorem execLeaveSend_law  (s : State) :
    ∃ s1, execLeaveSend s = .next s1 ∧ Keeps s s1 ∧ ∀ m0 : Nat → Bool, m0 4 = false → m0 5 = false → m0 6 = false → m0 7 = false → m0 8 = false → m0 33 = false → m0 40 = false → Same m0 s s1 := by
  exact ⟨_, rfl, by simp (maxDischargeDepth := 60), fun m0 h4 h5 h6 h7 h8 h33 h40 => by simp (maxDischargeDepth := 60) (decide := true) [h4, h5, h6, h7, h8, h33, h40]⟩

theorem execLeave_law (f : Frame) (s : State) :
    ∃ s1, execLeave f s = .next s1 ∧ Keeps s s1 ∧ ∀ m0 : Nat → Bool, m0 4 = false → m0 5 = false → m0 6 = false → m0 7 = false → m0 8 = false → m0 33 = false → Same m0 s s1 := by
  exact ⟨_, rfl, by simp (maxDischargeDepth := 60), fun m0 h4 h5 h6 h7 h8 h33 => by simp (maxDischargeDepth := 60) (decide := true) [h4, h5, h6, h7, h8, h33]⟩

theorem execRoster_law (f : Frame) (s : State) :
    ∃ s1, execRoster f s = .next s1 ∧ Keeps s s1 ∧ ∀ m0 : Nat → Bool, m0 3 = false → m0 4 = false → m0 5 = false → m0 6 = false → m0 7 = false → m0 8 = false → m0 20 = false → m0 33 = false → Same m0 s s1 := by
  exact ⟨_, rfl, by simp (maxDischargeDepth := 60), fun m0 h3 h4 h5 h6 h7 h8 h20 h33 => by simp (maxDischargeDepth := 60) (decide := true) [h3, h4, h5, h6, h7, h8, h20, h33]⟩

theorem execNeighbourChange_law (f : Frame) (s : State) :
    ∃ s1, execNeighbourChange f s = .next s1 ∧ Keeps s s1 ∧ ∀ m0 : Nat → Bool, m0 4 = false → m0 5 = false → m0 6 = false → m0 7 = false → m0 8 = false → m0 33 = false → Same m0 s s1 := by
  exact ⟨_, rfl, by simp (maxDischargeDepth := 60), fun m0 h4 h5 h6 h7 h8 h33 => by simp (maxDischargeDepth := 60) (decide := true) [h4, h5, h6, h7, h8, h33]⟩

theorem execEvict_law (f : Frame) (s : State) :
    ∃ s1, execEvict f s = .next s1 ∧ Keeps s s1 ∧ ∀ m0 : Nat → Bool, m0 3 = false → m0 4 = false → m0 5 = false → m0 6 = false → m0 7 = false → m0 8 = false → m0 32 = false → m0 33 = false → Same m0 s s1 := by
  exact ⟨_, rfl, by simp (maxDischargeDepth := 60), fun m0 h3 h4 h5 h6 h7 h8 h32 h33 => by simp (maxDischargeDepth := 60) (decide := true) [h3, h4, h5, h6, h7, h8, h32, h33]⟩

theorem execRosterEvict_law (h : Hdr) (v : Nat) (s : State) :
    ∃ s1, execRosterEvict h v s = .next s1 ∧ Keeps s s1 ∧ ∀ m0 : Nat → Bool, m0 8 = false → m0 21 = false → m0 33 = false → m0 40 = false → Same m0 s s1 := by
  exact ⟨_, rfl, by simp (maxDischargeDepth := 60), fun m0 h8 h21 h33 h40 => by simp (maxDischargeDepth := 60) (decide := true) [h8, h21, h33, h40]⟩

theorem execWrap_law (ring : Fin 2) (s : State) :
    ∃ s1, execWrap ring s = .next s1 ∧ Keeps s s1 ∧ ∀ m0 : Nat → Bool, m0 3 = false → m0 4 = false → m0 5 = false → m0 6 = false → m0 7 = false → m0 8 = false → m0 33 = false → m0 40 = false → Same m0 s s1 := by
  exact ⟨_, rfl, by simp (maxDischargeDepth := 60), fun m0 h3 h4 h5 h6 h7 h8 h33 h40 => by simp (maxDischargeDepth := 60) (decide := true) [h3, h4, h5, h6, h7, h8, h33, h40]⟩

theorem execUnwrap_law (ring : Fin 2) (s : State) :
    ∃ s1, execUnwrap ring s = .next s1 ∧ Keeps s s1 ∧ ∀ m0 : Nat → Bool, m0 3 = false → m0 4 = false → m0 5 = false → m0 6 = false → m0 7 = false → m0 8 = false → m0 32 = false → Same m0 s s1 := by
  exact ⟨_, rfl, by simp (maxDischargeDepth := 60), fun m0 h3 h4 h5 h6 h7 h8 h32 => by simp (maxDischargeDepth := 60) (decide := true) [h3, h4, h5, h6, h7, h8, h32]⟩

theorem execBypForceRelease_law (h : Hdr) (s : State) :
    ∃ s1, execBypForceRelease h s = .next s1 ∧ Keeps s s1 ∧ ∀ m0 : Nat → Bool, m0 3 = false → m0 4 = false → m0 5 = false → m0 6 = false → m0 7 = false → m0 8 = false → m0 21 = false → m0 33 = false → Same m0 s s1 := by
  exact ⟨_, rfl, by simp (maxDischargeDepth := 60), fun m0 h3 h4 h5 h6 h7 h8 h21 h33 => by simp (maxDischargeDepth := 60) (decide := true) [h3, h4, h5, h6, h7, h8, h21, h33]⟩

theorem execBypForceHold_law (h : Hdr) (s : State) :
    ∃ s1, execBypForceHold h s = .next s1 ∧ Keeps s s1 ∧ ∀ m0 : Nat → Bool, m0 4 = false → m0 5 = false → m0 6 = false → m0 7 = false → m0 8 = false → m0 21 = false → m0 33 = false → Same m0 s s1 := by
  exact ⟨_, rfl, by simp (maxDischargeDepth := 60), fun m0 h4 h5 h6 h7 h8 h21 h33 => by simp (maxDischargeDepth := 60) (decide := true) [h4, h5, h6, h7, h8, h21, h33]⟩

theorem execBypHoldDrive_law  (s : State) :
    ∃ s1, execBypHoldDrive s = .next s1 ∧ Keeps s s1 ∧ ∀ m0 : Nat → Bool, m0 4 = false → m0 5 = false → m0 6 = false → m0 7 = false → m0 8 = false → m0 33 = false → Same m0 s s1 := by
  exact ⟨_, rfl, by simp (maxDischargeDepth := 60), fun m0 h4 h5 h6 h7 h8 h33 => by simp (maxDischargeDepth := 60) (decide := true) [h4, h5, h6, h7, h8, h33]⟩

theorem execEpochMark_law (ring : Fin 2) (m : Mark) (s : State) :
    ∃ s1, execEpochMark ring m s = .next s1 ∧ Keeps s s1 ∧ ∀ m0 : Nat → Bool, m0 3 = false → m0 4 = false → m0 5 = false → m0 6 = false → m0 7 = false → m0 8 = false → m0 20 = false → m0 24 = false → m0 32 = false → m0 33 = false → m0 43 = false → Same m0 s s1 := by
  exact ⟨_, rfl, by simp (maxDischargeDepth := 60), fun m0 h3 h4 h5 h6 h7 h8 h20 h24 h32 h33 h43 => by simp (maxDischargeDepth := 60) (decide := true) [h3, h4, h5, h6, h7, h8, h20, h24, h32, h33, h43]⟩

theorem execCloseMark_law (ring : Fin 2) (hops : Nat) (epoch : Nat) (ns : Nat) (s : State) :
    ∃ s1, execCloseMark ring hops epoch ns s = .next s1 ∧ Keeps s s1 ∧ ∀ m0 : Nat → Bool, m0 3 = false → m0 4 = false → m0 5 = false → m0 6 = false → m0 7 = false → m0 8 = false → m0 32 = false → m0 33 = false → m0 43 = false → Same m0 s s1 := by
  exact ⟨_, rfl, by simp (maxDischargeDepth := 60), fun m0 h3 h4 h5 h6 h7 h8 h32 h33 h43 => by simp (maxDischargeDepth := 60) (decide := true) [h3, h4, h5, h6, h7, h8, h32, h33, h43]⟩

theorem execSlotReceive_law (ring : Fin 2) (delim : Delim) (chars : List Byte) (ns : Nat) (s : State) :
    ∃ s1, execSlotReceive ring delim chars ns s = .next s1 ∧ Keeps s s1 ∧ ∀ m0 : Nat → Bool, m0 0 = false → m0 1 = false → m0 2 = false → m0 3 = false → m0 4 = false → m0 5 = false → m0 6 = false → m0 7 = false → m0 8 = false → m0 9 = false → m0 10 = false → m0 11 = false → m0 20 = false → m0 21 = false → m0 24 = false → m0 28 = false → m0 32 = false → m0 33 = false → m0 40 = false → m0 43 = false → Same m0 s s1 := by
  exact ⟨_, rfl, by simp (maxDischargeDepth := 60), fun m0 h0 h1 h2 h3 h4 h5 h6 h7 h8 h9 h10 h11 h20 h21 h24 h28 h32 h33 h40 h43 => by simp (maxDischargeDepth := 60) (decide := true) [h0, h1, h2, h3, h4, h5, h6, h7, h8, h9, h10, h11, h20, h21, h24, h28, h32, h33, h40, h43]⟩

theorem execOwnEnsignRelease_law (ring : Fin 2) (s : State) :
    ∃ s1, execOwnEnsignRelease ring s = .next s1 ∧ Keeps s s1 ∧ ∀ m0 : Nat → Bool, m0 0 = false → m0 1 = false → m0 2 = false → m0 3 = false → m0 4 = false → m0 5 = false → m0 6 = false → m0 7 = false → m0 8 = false → m0 9 = false → m0 10 = false → m0 11 = false → m0 33 = false → m0 43 = false → Same m0 s s1 := by
  exact ⟨_, rfl, by simp (maxDischargeDepth := 60), fun m0 h0 h1 h2 h3 h4 h5 h6 h7 h8 h9 h10 h11 h33 h43 => by simp (maxDischargeDepth := 60) (decide := true) [h0, h1, h2, h3, h4, h5, h6, h7, h8, h9, h10, h11, h33, h43]⟩

theorem execGroupLossSend_law (g : Fin 4) (legs : Nat) (s : State) :
    ∃ s1, execGroupLossSend g legs s = .next s1 ∧ Keeps s s1 ∧ ∀ m0 : Nat → Bool, m0 33 = false → Same m0 s s1 := by
  exact ⟨_, rfl, by simp (maxDischargeDepth := 60), fun m0 h33 => by simp (maxDischargeDepth := 60) (decide := true) [h33]⟩

theorem execMetrologySample_law (c : Fin 4) (v : Nat) (i : Nat) (s : State) :
    ∃ s1, execMetrologySample c v i s = .next s1 ∧ Keeps s s1 ∧ ∀ m0 : Nat → Bool, m0 0 = false → m0 1 = false → m0 2 = false → m0 3 = false → m0 4 = false → m0 5 = false → m0 6 = false → m0 7 = false → m0 8 = false → m0 9 = false → m0 10 = false → m0 11 = false → m0 21 = false → m0 24 = false → m0 26 = false → m0 28 = false → m0 32 = false → m0 34 = false → m0 35 = false → m0 36 = false → m0 39 = false → m0 43 = false → Same m0 s s1 := by
  exact ⟨_, rfl, by simp (maxDischargeDepth := 60), fun m0 h0 h1 h2 h3 h4 h5 h6 h7 h8 h9 h10 h11 h21 h24 h26 h28 h32 h34 h35 h36 h39 h43 => by simp (maxDischargeDepth := 60) (decide := true) [h0, h1, h2, h3, h4, h5, h6, h7, h8, h9, h10, h11, h21, h24, h26, h28, h32, h34, h35, h36, h39, h43]⟩

theorem execMetrologyPublish_law  (s : State) :
    ∃ s1, execMetrologyPublish s = .next s1 ∧ Keeps s s1 ∧ ∀ m0 : Nat → Bool, m0 5 = false → m0 6 = false → m0 7 = false → m0 8 = false → m0 35 = false → m0 39 = false → Same m0 s s1 := by
  exact ⟨_, rfl, by simp (maxDischargeDepth := 60), fun m0 h5 h6 h7 h8 h35 h39 => by simp (maxDischargeDepth := 60) (decide := true) [h5, h6, h7, h8, h35, h39]⟩

theorem execCalCapture_law (h : Hdr) (arg : Nat) (s : State) :
    ∃ s1, execCalCapture h arg s = .next s1 ∧ Keeps s s1 ∧ ∀ m0 : Nat → Bool, m0 21 = false → m0 39 = false → Same m0 s s1 := by
  exact ⟨_, rfl, by simp (maxDischargeDepth := 60), fun m0 h21 h39 => by simp (maxDischargeDepth := 60) (decide := true) [h21, h39]⟩

theorem execCalCaptureDone_law  (s : State) :
    ∃ s1, execCalCaptureDone s = .next s1 ∧ Keeps s s1 ∧ ∀ m0 : Nat → Bool, m0 21 = false → m0 39 = false → Same m0 s s1 := by
  refine ⟨_, rfl, State.live_keeps _ (Keeps.refl s) fun x => ?_, fun m0 h21 h39 => State.live_same _ (Same.refl m0 s) (fun x => ?_) ⟩
  · dsimp only
    split
    · split <;> simp (maxDischargeDepth := 60)
    · simp
  · dsimp only
    split
    · split <;> simp (maxDischargeDepth := 60) (decide := true) [h21, h39]
    · simp (maxDischargeDepth := 60) (decide := true) [h21, h39]

theorem execMscrClockLost_law (e : Fin 2) (s : State) :
    ∃ s1, execMscrClockLost e s = .next s1 ∧ Keeps s s1 ∧ ∀ m0 : Nat → Bool, m0 7 = false → m0 8 = false → m0 21 = false → m0 39 = false → Same m0 s s1 := by
  exact ⟨_, rfl, by simp (maxDischargeDepth := 60), fun m0 h7 h8 h21 h39 => by simp (maxDischargeDepth := 60) (decide := true) [h7, h8, h21, h39]⟩

theorem execMscrClockReturn_law (e : Fin 2) (s : State) :
    ∃ s1, execMscrClockReturn e s = .next s1 ∧ Keeps s s1 ∧ ∀ m0 : Nat → Bool, m0 7 = false → m0 8 = false → m0 39 = false → Same m0 s s1 := by
  exact ⟨_, rfl, by simp (maxDischargeDepth := 60), fun m0 h7 h8 h39 => by simp (maxDischargeDepth := 60) (decide := true) [h7, h8, h39]⟩

theorem execStreamStuck_law (c : Fin 4) (cur : Bool) (s : State) :
    ∃ s1, execStreamStuck c cur s = .next s1 ∧ Keeps s s1 ∧ ∀ m0 : Nat → Bool, m0 7 = false → m0 8 = false → m0 21 = false → m0 24 = false → m0 39 = false → Same m0 s s1 := by
  exact ⟨_, rfl, by simp (maxDischargeDepth := 60), fun m0 h7 h8 h21 h24 h39 => by simp (maxDischargeDepth := 60) (decide := true) [h7, h8, h21, h24, h39]⟩

theorem execClassArrive_law (c : Fin 8) (s : State) :
    ∃ s1, execClassArrive c s = .next s1 ∧ Keeps s s1 ∧ ∀ m0 : Nat → Bool, m0 0 = false → m0 1 = false → m0 2 = false → m0 3 = false → m0 4 = false → m0 5 = false → m0 6 = false → m0 7 = false → m0 8 = false → m0 9 = false → m0 10 = false → m0 11 = false → m0 21 = false → m0 22 = false → m0 24 = false → m0 26 = false → m0 28 = false → m0 32 = false → m0 33 = false → m0 34 = false → m0 35 = false → m0 36 = false → m0 37 = false → m0 39 = false → m0 43 = false → Same m0 s s1 := by
  exact ⟨_, rfl, by simp (maxDischargeDepth := 60), fun m0 h0 h1 h2 h3 h4 h5 h6 h7 h8 h9 h10 h11 h21 h22 h24 h26 h28 h32 h33 h34 h35 h36 h37 h39 h43 => by simp (maxDischargeDepth := 60) (decide := true) [h0, h1, h2, h3, h4, h5, h6, h7, h8, h9, h10, h11, h21, h22, h24, h26, h28, h32, h33, h34, h35, h36, h37, h39, h43]⟩

theorem execEngineRestoreDone_law (c : Fin 8) (s : State) :
    ∃ s1, execEngineRestoreDone c s = .next s1 ∧ Keeps s s1 ∧ ∀ m0 : Nat → Bool, m0 0 = false → m0 1 = false → m0 2 = false → m0 3 = false → m0 4 = false → m0 5 = false → m0 6 = false → m0 7 = false → m0 8 = false → m0 9 = false → m0 10 = false → m0 11 = false → m0 21 = false → m0 22 = false → m0 24 = false → m0 26 = false → m0 28 = false → m0 32 = false → m0 33 = false → m0 34 = false → m0 35 = false → m0 36 = false → m0 37 = false → m0 39 = false → m0 43 = false → Same m0 s s1 := by
  exact ⟨_, rfl, by simp (maxDischargeDepth := 60), fun m0 h0 h1 h2 h3 h4 h5 h6 h7 h8 h9 h10 h11 h21 h22 h24 h26 h28 h32 h33 h34 h35 h36 h37 h39 h43 => by simp (maxDischargeDepth := 60) (decide := true) [h0, h1, h2, h3, h4, h5, h6, h7, h8, h9, h10, h11, h21, h22, h24, h26, h28, h32, h33, h34, h35, h36, h37, h39, h43]⟩

theorem execGroupPark_law (g : Fin 4) (s : State) :
    ∃ s1, execGroupPark g s = .next s1 ∧ Keeps s s1 ∧ ∀ m0 : Nat → Bool, m0 0 = false → m0 1 = false → m0 2 = false → m0 3 = false → m0 4 = false → m0 5 = false → m0 6 = false → m0 7 = false → m0 8 = false → m0 9 = false → m0 10 = false → m0 11 = false → m0 21 = false → m0 22 = false → m0 24 = false → m0 26 = false → m0 28 = false → m0 32 = false → m0 33 = false → m0 34 = false → m0 35 = false → m0 36 = false → m0 37 = false → m0 39 = false → m0 43 = false → Same m0 s s1 := by
  exact ⟨_, rfl, by simp (maxDischargeDepth := 60), fun m0 h0 h1 h2 h3 h4 h5 h6 h7 h8 h9 h10 h11 h21 h22 h24 h26 h28 h32 h33 h34 h35 h36 h37 h39 h43 => by simp (maxDischargeDepth := 60) (decide := true) [h0, h1, h2, h3, h4, h5, h6, h7, h8, h9, h10, h11, h21, h22, h24, h26, h28, h32, h33, h34, h35, h36, h37, h39, h43]⟩

theorem execOutletContactorDelayEnd_law (o : Fin 4) (s : State) :
    ∃ s1, execOutletContactorDelayEnd o s = .next s1 ∧ Keeps s s1 ∧ ∀ m0 : Nat → Bool, m0 0 = false → m0 1 = false → m0 2 = false → m0 3 = false → m0 4 = false → m0 5 = false → m0 6 = false → m0 7 = false → m0 8 = false → m0 9 = false → m0 10 = false → m0 11 = false → m0 21 = false → m0 22 = false → m0 24 = false → m0 26 = false → m0 28 = false → m0 32 = false → m0 34 = false → m0 35 = false → m0 36 = false → m0 39 = false → m0 43 = false → Same m0 s s1 := by
  exact ⟨_, rfl, by simp (maxDischargeDepth := 60), fun m0 h0 h1 h2 h3 h4 h5 h6 h7 h8 h9 h10 h11 h21 h22 h24 h26 h28 h32 h34 h35 h36 h39 h43 => by simp (maxDischargeDepth := 60) (decide := true) [h0, h1, h2, h3, h4, h5, h6, h7, h8, h9, h10, h11, h21, h22, h24, h26, h28, h32, h34, h35, h36, h39, h43]⟩

theorem execForcedStop_law  (s : State) :
    ∃ s1, execForcedStop s = .next s1 ∧ Keeps s s1 ∧ ∀ m0 : Nat → Bool, m0 0 = false → m0 1 = false → m0 2 = false → m0 3 = false → m0 4 = false → m0 5 = false → m0 6 = false → m0 7 = false → m0 8 = false → m0 9 = false → m0 10 = false → m0 11 = false → m0 21 = false → m0 22 = false → m0 24 = false → m0 26 = false → m0 28 = false → m0 32 = false → m0 33 = false → m0 34 = false → m0 35 = false → m0 36 = false → m0 37 = false → m0 39 = false → m0 43 = false → Same m0 s s1 := by
  exact ⟨_, rfl, by simp (maxDischargeDepth := 60), fun m0 h0 h1 h2 h3 h4 h5 h6 h7 h8 h9 h10 h11 h21 h22 h24 h26 h28 h32 h33 h34 h35 h36 h37 h39 h43 => by simp (maxDischargeDepth := 60) (decide := true) [h0, h1, h2, h3, h4, h5, h6, h7, h8, h9, h10, h11, h21, h22, h24, h26, h28, h32, h33, h34, h35, h36, h37, h39, h43]⟩

theorem execLimpEnChange_law (asserted : Bool) (s : State) :
    ∃ s1, execLimpEnChange asserted s = .next s1 ∧ Keeps s s1 ∧ ∀ m0 : Nat → Bool, m0 0 = false → m0 1 = false → m0 2 = false → m0 3 = false → m0 4 = false → m0 5 = false → m0 6 = false → m0 7 = false → m0 8 = false → m0 9 = false → m0 10 = false → m0 11 = false → m0 21 = false → m0 22 = false → m0 24 = false → m0 26 = false → m0 28 = false → m0 32 = false → m0 33 = false → m0 34 = false → m0 35 = false → m0 36 = false → m0 37 = false → m0 39 = false → m0 40 = false → m0 41 = false → m0 43 = false → Same m0 s s1 := by
  exact ⟨_, rfl, by simp (maxDischargeDepth := 60), fun m0 h0 h1 h2 h3 h4 h5 h6 h7 h8 h9 h10 h11 h21 h22 h24 h26 h28 h32 h33 h34 h35 h36 h37 h39 h40 h41 h43 => by simp (maxDischargeDepth := 60) (decide := true) [h0, h1, h2, h3, h4, h5, h6, h7, h8, h9, h10, h11, h21, h22, h24, h26, h28, h32, h33, h34, h35, h36, h37, h39, h40, h41, h43]⟩

theorem execRenewSend_law  (s : State) :
    ∃ s1, execRenewSend s = .next s1 ∧ Keeps s s1 ∧ ∀ m0 : Nat → Bool, m0 4 = false → m0 5 = false → m0 6 = false → m0 7 = false → m0 8 = false → m0 37 = false → m0 43 = false → Same m0 s s1 := by
  exact ⟨_, rfl, by simp (maxDischargeDepth := 60), fun m0 h4 h5 h6 h7 h8 h37 h43 => by simp (maxDischargeDepth := 60) (decide := true) [h4, h5, h6, h7, h8, h37, h43]⟩

theorem execStandbySend_law  (s : State) :
    ∃ s1, execStandbySend s = .next s1 ∧ Keeps s s1 ∧ ∀ m0 : Nat → Bool, m0 37 = false → m0 43 = false → Same m0 s s1 := by
  exact ⟨_, rfl, by simp (maxDischargeDepth := 60), fun m0 h37 h43 => by simp (maxDischargeDepth := 60) (decide := true) [h37, h43]⟩

theorem execRenew_law (t : Token) (us : Nat) (s : State) :
    ∃ s1, execRenew t us s = .next s1 ∧ Keeps s s1 ∧ ∀ m0 : Nat → Bool, m0 4 = false → m0 5 = false → m0 6 = false → m0 7 = false → m0 8 = false → m0 21 = false → m0 24 = false → m0 37 = false → Same m0 s s1 := by
  exact ⟨_, rfl, by simp (maxDischargeDepth := 60), fun m0 h4 h5 h6 h7 h8 h21 h24 h37 => by simp (maxDischargeDepth := 60) (decide := true) [h4, h5, h6, h7, h8, h21, h24, h37]⟩

theorem execRelease_law (t : Token) (s : State) :
    ∃ s1, execRelease t s = .next s1 ∧ Keeps s s1 ∧ ∀ m0 : Nat → Bool, m0 4 = false → m0 5 = false → m0 6 = false → m0 7 = false → m0 8 = false → m0 37 = false → Same m0 s s1 := by
  exact ⟨_, rfl, by simp (maxDischargeDepth := 60), fun m0 h4 h5 h6 h7 h8 h37 => by simp (maxDischargeDepth := 60) (decide := true) [h4, h5, h6, h7, h8, h37]⟩

theorem execClaim_law (t : Token) (s : State) :
    ∃ s1, execClaim t s = .next s1 ∧ Keeps s s1 ∧ ∀ m0 : Nat → Bool, m0 4 = false → m0 5 = false → m0 6 = false → m0 7 = false → m0 8 = false → m0 37 = false → Same m0 s s1 := by
  exact ⟨_, rfl, by simp (maxDischargeDepth := 60), fun m0 h4 h5 h6 h7 h8 h37 => by simp (maxDischargeDepth := 60) (decide := true) [h4, h5, h6, h7, h8, h37]⟩

theorem execStandby_law (t : Token) (s : State) :
    ∃ s1, execStandby t s = .next s1 ∧ Keeps s s1 ∧ ∀ m0 : Nat → Bool, m0 4 = false → m0 5 = false → m0 6 = false → m0 7 = false → m0 8 = false → Same m0 s s1 := by
  exact ⟨_, rfl, by simp (maxDischargeDepth := 60), fun m0 h4 h5 h6 h7 h8 => by simp (maxDischargeDepth := 60) (decide := true) [h4, h5, h6, h7, h8]⟩

theorem execClaimSend_law  (s : State) :
    ∃ s1, execClaimSend s = .next s1 ∧ Keeps s s1 ∧ ∀ m0 : Nat → Bool, m0 4 = false → m0 5 = false → m0 6 = false → m0 7 = false → m0 8 = false → m0 37 = false → m0 43 = false → Same m0 s s1 := by
  exact ⟨_, rfl, by simp (maxDischargeDepth := 60), fun m0 h4 h5 h6 h7 h8 h37 h43 => by simp (maxDischargeDepth := 60) (decide := true) [h4, h5, h6, h7, h8, h37, h43]⟩

theorem execMirrorItem_law (item : MirrorItem) (s : State) :
    ∃ s1, execMirrorItem item s = .next s1 ∧ Keeps s s1 ∧ ∀ m0 : Nat → Bool, m0 0 = false → m0 1 = false → m0 2 = false → m0 3 = false → m0 4 = false → m0 5 = false → m0 6 = false → m0 7 = false → m0 8 = false → m0 9 = false → m0 10 = false → m0 11 = false → m0 24 = false → m0 26 = false → m0 27 = false → m0 28 = false → m0 37 = false → m0 39 = false → m0 43 = false → Same m0 s s1 := by
  exact ⟨_, rfl, by simp (maxDischargeDepth := 60), fun m0 h0 h1 h2 h3 h4 h5 h6 h7 h8 h9 h10 h11 h24 h26 h27 h28 h37 h39 h43 => by simp (maxDischargeDepth := 60) (decide := true) [h0, h1, h2, h3, h4, h5, h6, h7, h8, h9, h10, h11, h24, h26, h27, h28, h37, h39, h43]⟩

theorem execPairLaneUp_law (lane : Fin 2) (s : State) :
    ∃ s1, execPairLaneUp lane s = .next s1 ∧ Keeps s s1 ∧ ∀ m0 : Nat → Bool, m0 1 = false → m0 2 = false → m0 3 = false → m0 4 = false → m0 5 = false → m0 6 = false → m0 7 = false → m0 8 = false → m0 11 = false → m0 43 = false → Same m0 s s1 := by
  exact ⟨_, rfl, by simp (maxDischargeDepth := 60), fun m0 h1 h2 h3 h4 h5 h6 h7 h8 h11 h43 => by simp (maxDischargeDepth := 60) (decide := true) [h1, h2, h3, h4, h5, h6, h7, h8, h11, h43]⟩

theorem execPairLaneDown_law (lane : Fin 2) (s : State) :
    ∃ s1, execPairLaneDown lane s = .next s1 ∧ Keeps s s1 ∧ ∀ m0 : Nat → Bool, m0 4 = false → m0 5 = false → m0 6 = false → m0 7 = false → m0 8 = false → Same m0 s s1 := by
  exact ⟨_, rfl, by simp (maxDischargeDepth := 60), fun m0 h4 h5 h6 h7 h8 => by simp (maxDischargeDepth := 60) (decide := true) [h4, h5, h6, h7, h8]⟩

theorem execTakeover_law (gap : Nat) (s : State) :
    ∃ s1, execTakeover gap s = .next s1 ∧ Keeps s s1 ∧ ∀ m0 : Nat → Bool, m0 0 = false → m0 1 = false → m0 2 = false → m0 3 = false → m0 4 = false → m0 5 = false → m0 6 = false → m0 7 = false → m0 8 = false → m0 9 = false → m0 10 = false → m0 11 = false → m0 21 = false → m0 22 = false → m0 24 = false → m0 26 = false → m0 27 = false → m0 28 = false → m0 32 = false → m0 33 = false → m0 34 = false → m0 35 = false → m0 36 = false → m0 37 = false → m0 39 = false → m0 42 = false → m0 43 = false → Same m0 s s1 := by
  exact ⟨_, rfl, by simp (maxDischargeDepth := 60), fun m0 h0 h1 h2 h3 h4 h5 h6 h7 h8 h9 h10 h11 h21 h22 h24 h26 h27 h28 h32 h33 h34 h35 h36 h37 h39 h42 h43 => by simp (maxDischargeDepth := 60) (decide := true) [h0, h1, h2, h3, h4, h5, h6, h7, h8, h9, h10, h11, h21, h22, h24, h26, h27, h28, h32, h33, h34, h35, h36, h37, h39, h42, h43]⟩

theorem execPartnerLeaseExpired_law  (s : State) :
    ∃ s1, execPartnerLeaseExpired s = .next s1 ∧ Keeps s s1 ∧ ∀ m0 : Nat → Bool, m0 24 = false → Same m0 s s1 := by
  exact ⟨_, rfl, by simp (maxDischargeDepth := 60), fun m0 h24 => by simp (maxDischargeDepth := 60) (decide := true) [h24]⟩

theorem execSplitDetect_law  (s : State) :
    ∃ s1, execSplitDetect s = .next s1 ∧ Keeps s s1 ∧ ∀ m0 : Nat → Bool, m0 4 = false → m0 5 = false → m0 6 = false → m0 7 = false → m0 8 = false → m0 24 = false → Same m0 s s1 := by
  exact ⟨_, rfl, by simp (maxDischargeDepth := 60), fun m0 h4 h5 h6 h7 h8 h24 => by simp (maxDischargeDepth := 60) (decide := true) [h4, h5, h6, h7, h8, h24]⟩

theorem execOePeerChange_law (high : Bool) (s : State) :
    ∃ s1, execOePeerChange high s = .next s1 ∧ Keeps s s1 ∧ ∀ m0 : Nat → Bool, m0 3 = false → m0 4 = false → m0 5 = false → m0 6 = false → m0 7 = false → m0 8 = false → m0 32 = false → Same m0 s s1 := by
  exact ⟨_, rfl, by simp (maxDischargeDepth := 60), fun m0 h3 h4 h5 h6 h7 h8 h32 => by simp (maxDischargeDepth := 60) (decide := true) [h3, h4, h5, h6, h7, h8, h32]⟩

theorem execDriverConflict_law  (s : State) :
    ∃ s1, execDriverConflict s = .next s1 ∧ Keeps s s1 ∧ ∀ m0 : Nat → Bool, m0 0 = false → m0 1 = false → m0 2 = false → m0 3 = false → m0 4 = false → m0 5 = false → m0 6 = false → m0 7 = false → m0 8 = false → m0 9 = false → m0 10 = false → m0 11 = false → m0 21 = false → m0 22 = false → m0 24 = false → m0 26 = false → m0 28 = false → m0 32 = false → m0 33 = false → m0 34 = false → m0 35 = false → m0 36 = false → m0 37 = false → m0 39 = false → m0 43 = false → Same m0 s s1 := by
  exact ⟨_, rfl, by simp (maxDischargeDepth := 60), fun m0 h0 h1 h2 h3 h4 h5 h6 h7 h8 h9 h10 h11 h21 h22 h24 h26 h28 h32 h33 h34 h35 h36 h37 h39 h43 => by simp (maxDischargeDepth := 60) (decide := true) [h0, h1, h2, h3, h4, h5, h6, h7, h8, h9, h10, h11, h21, h22, h24, h26, h28, h32, h33, h34, h35, h36, h37, h39, h43]⟩

theorem execRehearsal_law (h : Hdr) (arg : Nat) (s : State) :
    ∃ s1, execRehearsal h arg s = .next s1 ∧ Keeps s s1 ∧ ∀ m0 : Nat → Bool, m0 21 = false → m0 37 = false → Same m0 s s1 := by
  exact ⟨_, rfl, by simp (maxDischargeDepth := 60), fun m0 h21 h37 => by simp (maxDischargeDepth := 60) (decide := true) [h21, h37]⟩

theorem execRehearsalSwap_law  (s : State) :
    ∃ s1, execRehearsalSwap s = .next s1 ∧ Keeps s s1 ∧ ∀ m0 : Nat → Bool, m0 0 = false → m0 1 = false → m0 2 = false → m0 3 = false → m0 4 = false → m0 5 = false → m0 6 = false → m0 7 = false → m0 8 = false → m0 9 = false → m0 10 = false → m0 11 = false → m0 21 = false → m0 22 = false → m0 24 = false → m0 26 = false → m0 28 = false → m0 32 = false → m0 33 = false → m0 34 = false → m0 35 = false → m0 36 = false → m0 37 = false → m0 39 = false → m0 42 = false → m0 43 = false → Same m0 s s1 := by
  exact ⟨_, rfl, by simp (maxDischargeDepth := 60), fun m0 h0 h1 h2 h3 h4 h5 h6 h7 h8 h9 h10 h11 h21 h22 h24 h26 h28 h32 h33 h34 h35 h36 h37 h39 h42 h43 => by simp (maxDischargeDepth := 60) (decide := true) [h0, h1, h2, h3, h4, h5, h6, h7, h8, h9, h10, h11, h21, h22, h24, h26, h28, h32, h33, h34, h35, h36, h37, h39, h42, h43]⟩

theorem execRehearsalWaitExpired_law  (s : State) :
    ∃ s1, execRehearsalWaitExpired s = .next s1 ∧ Keeps s s1 ∧ ∀ m0 : Nat → Bool, m0 21 = false → m0 37 = false → Same m0 s s1 := by
  exact ⟨_, rfl, by simp (maxDischargeDepth := 60), fun m0 h21 h37 => by simp (maxDischargeDepth := 60) (decide := true) [h21, h37]⟩

theorem execRehearsalTakeTimeout_law  (s : State) :
    ∃ s1, execRehearsalTakeTimeout s = .next s1 ∧ Keeps s s1 ∧ ∀ m0 : Nat → Bool, m0 0 = false → m0 1 = false → m0 2 = false → m0 3 = false → m0 4 = false → m0 5 = false → m0 6 = false → m0 7 = false → m0 8 = false → m0 9 = false → m0 10 = false → m0 11 = false → m0 21 = false → m0 22 = false → m0 24 = false → m0 26 = false → m0 28 = false → m0 32 = false → m0 33 = false → m0 34 = false → m0 35 = false → m0 36 = false → m0 37 = false → m0 39 = false → m0 43 = false → Same m0 s s1 := by
  exact ⟨_, rfl, by simp (maxDischargeDepth := 60), fun m0 h0 h1 h2 h3 h4 h5 h6 h7 h8 h9 h10 h11 h21 h22 h24 h26 h28 h32 h33 h34 h35 h36 h37 h39 h43 => by simp (maxDischargeDepth := 60) (decide := true) [h0, h1, h2, h3, h4, h5, h6, h7, h8, h9, h10, h11, h21, h22, h24, h26, h28, h32, h33, h34, h35, h36, h37, h39, h43]⟩

theorem execVonMasterSlot_law  (s : State) :
    ∃ s1, execVonMasterSlot s = .next s1 ∧ Keeps s s1 ∧ ∀ m0 : Nat → Bool, m0 38 = false → m0 43 = false → Same m0 s s1 := by
  exact ⟨_, rfl, by simp (maxDischargeDepth := 60), fun m0 h38 h43 => by simp (maxDischargeDepth := 60) (decide := true) [h38, h43]⟩

theorem execVonReplyJudged_law (paths : List VonPath) (word : Option (List Byte)) (s : State) :
    ∃ s1, execVonReplyJudged paths word s = .next s1 ∧ Keeps s s1 ∧ ∀ m0 : Nat → Bool, m0 24 = false → m0 38 = false → Same m0 s s1 := by
  unfold execVonReplyJudged; (try dsimp only)
  repeat' split
  all_goals exact ⟨_, rfl, by first | done | simp (maxDischargeDepth := 60), fun m0 h24 h38 => by first | done | simp (maxDischargeDepth := 60) (decide := true) [h24, h38]⟩

theorem execVonTxBoxWrite_law (h : Hdr) (data : List Byte) (s : State) :
    ∃ s1, execVonTxBoxWrite h data s = .next s1 ∧ Keeps s s1 ∧ ∀ m0 : Nat → Bool, m0 21 = false → m0 38 = false → Same m0 s s1 := by
  exact ⟨_, rfl, by simp (maxDischargeDepth := 60), fun m0 h21 h38 => by simp (maxDischargeDepth := 60) (decide := true) [h21, h38]⟩

theorem execUpdOpen_law (h : Hdr) (s : State) :
    ∃ s1, execUpdOpen h s = .next s1 ∧ Keeps s s1 ∧ ∀ m0 : Nat → Bool, m0 8 = false → m0 21 = false → m0 41 = false → Same m0 s s1 := by
  exact ⟨_, rfl, by simp (maxDischargeDepth := 60), fun m0 h8 h21 h41 => by simp (maxDischargeDepth := 60) (decide := true) [h8, h21, h41]⟩

theorem execUpdClose_law (h : Hdr) (s : State) :
    ∃ s1, execUpdClose h s = .next s1 ∧ Keeps s s1 ∧ ∀ m0 : Nat → Bool, m0 21 = false → m0 41 = false → Same m0 s s1 := by
  exact ⟨_, rfl, by simp (maxDischargeDepth := 60), fun m0 h21 h41 => by simp (maxDischargeDepth := 60) (decide := true) [h21, h41]⟩

theorem execUpdCancel_law (h : Hdr) (s : State) :
    ∃ s1, execUpdCancel h s = .next s1 ∧ Keeps s s1 ∧ ∀ m0 : Nat → Bool, m0 8 = false → m0 21 = false → m0 41 = false → Same m0 s s1 := by
  exact ⟨_, rfl, by simp (maxDischargeDepth := 60), fun m0 h8 h21 h41 => by simp (maxDischargeDepth := 60) (decide := true) [h8, h21, h41]⟩

theorem execReboot_law (h : Hdr) (s : State) :
    ∃ s1, execReboot h s = .next s1 ∧ Keeps s s1 ∧ ∀ m0 : Nat → Bool, m0 0 = false → m0 1 = false → m0 2 = false → m0 3 = false → m0 4 = false → m0 5 = false → m0 6 = false → m0 7 = false → m0 8 = false → m0 9 = false → m0 10 = false → m0 11 = false → m0 21 = false → m0 24 = false → m0 26 = false → m0 28 = false → m0 36 = false → m0 39 = false → m0 42 = false → m0 43 = false → Same m0 s s1 := by
  exact ⟨_, rfl, by simp (maxDischargeDepth := 60), fun m0 h0 h1 h2 h3 h4 h5 h6 h7 h8 h9 h10 h11 h21 h24 h26 h28 h36 h39 h42 h43 => by simp (maxDischargeDepth := 60) (decide := true) [h0, h1, h2, h3, h4, h5, h6, h7, h8, h9, h10, h11, h21, h24, h26, h28, h36, h39, h42, h43]⟩

theorem execUpdChunkWrite_law (h : Hdr) (data : List Byte) (s : State) :
    ∃ s1, execUpdChunkWrite h data s = .next s1 ∧ Keeps s s1 ∧ ∀ m0 : Nat → Bool, m0 21 = false → m0 41 = false → Same m0 s s1 := by
  exact ⟨_, rfl, by simp (maxDischargeDepth := 60), fun m0 h21 h41 => by simp (maxDischargeDepth := 60) (decide := true) [h21, h41]⟩

theorem execUpdVerifyDone_law  (s : State) :
    ∃ s1, execUpdVerifyDone s = .next s1 ∧ Keeps s s1 ∧ ∀ m0 : Nat → Bool, m0 8 = false → m0 24 = false → m0 40 = false → m0 41 = false → Same m0 s s1 := by
  exact ⟨_, rfl, by simp (maxDischargeDepth := 60), fun m0 h8 h24 h40 h41 => by simp (maxDischargeDepth := 60) (decide := true) [h8, h24, h40, h41]⟩

theorem execSlotConfirm_law (h : Hdr) (mask : Nat) (s : State) :
    ∃ s1, execSlotConfirm h mask s = .next s1 ∧ Keeps s s1 ∧ ∀ m0 : Nat → Bool, m0 21 = false → Same m0 s s1 := by
  exact ⟨_, rfl, by simp (maxDischargeDepth := 60), fun m0 h21 => by simp (maxDischargeDepth := 60) (decide := true) [h21]⟩

theorem execSvnAdvance_law (h : Hdr) (v : Nat) (s : State) :
    ∃ s1, execSvnAdvance h v s = .next s1 ∧ Keeps s s1 ∧ ∀ m0 : Nat → Bool, m0 8 = false → m0 21 = false → Same m0 s s1 := by
  exact ⟨_, rfl, by simp (maxDischargeDepth := 60), fun m0 h8 h21 => by simp (maxDischargeDepth := 60) (decide := true) [h8, h21]⟩

theorem execSlotSwitch_law (h : Hdr) (arg : Nat) (s : State) :
    ∃ s1, execSlotSwitch h arg s = .next s1 ∧ Keeps s s1 ∧ ∀ m0 : Nat → Bool, m0 21 = false → m0 41 = false → Same m0 s s1 := by
  exact ⟨_, rfl, by simp (maxDischargeDepth := 60), fun m0 h21 h41 => by simp (maxDischargeDepth := 60) (decide := true) [h21, h41]⟩

theorem execSlotSwitchQuietBoundary_law  (s : State) :
    ∃ s1, execSlotSwitchQuietBoundary s = .next s1 ∧ Keeps s s1 ∧ ∀ m0 : Nat → Bool, m0 0 = false → m0 1 = false → m0 2 = false → m0 3 = false → m0 4 = false → m0 5 = false → m0 6 = false → m0 7 = false → m0 8 = false → m0 9 = false → m0 10 = false → m0 11 = false → m0 21 = false → m0 26 = false → m0 37 = false → m0 41 = false → m0 43 = false → Same m0 s s1 := by
  exact ⟨_, rfl, by simp (maxDischargeDepth := 60), fun m0 h0 h1 h2 h3 h4 h5 h6 h7 h8 h9 h10 h11 h21 h26 h37 h41 h43 => by simp (maxDischargeDepth := 60) (decide := true) [h0, h1, h2, h3, h4, h5, h6, h7, h8, h9, h10, h11, h21, h26, h37, h41, h43]⟩

theorem execSlotSwitchWaitExpired_law  (s : State) :
    ∃ s1, execSlotSwitchWaitExpired s = .next s1 ∧ Keeps s s1 ∧ ∀ m0 : Nat → Bool, m0 21 = false → m0 41 = false → Same m0 s s1 := by
  exact ⟨_, rfl, by simp (maxDischargeDepth := 60), fun m0 h21 h41 => by simp (maxDischargeDepth := 60) (decide := true) [h21, h41]⟩

theorem execBlackoutEnd_law (c : Fin 2) (us : Nat) (s : State) :
    ∃ s1, execBlackoutEnd c us s = .next s1 ∧ Keeps s s1 ∧ ∀ m0 : Nat → Bool, m0 4 = false → m0 5 = false → m0 6 = false → m0 7 = false → m0 8 = false → m0 21 = false → m0 37 = false → m0 41 = false → m0 43 = false → Same m0 s s1 := by
  exact ⟨_, rfl, by simp (maxDischargeDepth := 60), fun m0 h4 h5 h6 h7 h8 h21 h37 h41 h43 => by simp (maxDischargeDepth := 60) (decide := true) [h4, h5, h6, h7, h8, h21, h37, h41, h43]⟩

theorem execBist_law (h : Hdr) (arg : Nat) (s : State) :
    ∃ s1, execBist h arg s = .next s1 ∧ Keeps s s1 ∧ ∀ m0 : Nat → Bool, m0 5 = false → m0 6 = false → m0 7 = false → m0 8 = false → m0 21 = false → m0 24 = false → m0 35 = false → m0 36 = false → m0 40 = false → m0 41 = false → m0 43 = false → Same m0 s s1 := by
  exact ⟨_, rfl, by simp (maxDischargeDepth := 60), fun m0 h5 h6 h7 h8 h21 h24 h35 h36 h40 h41 h43 => by simp (maxDischargeDepth := 60) (decide := true) [h5, h6, h7, h8, h21, h24, h35, h36, h40, h41, h43]⟩

theorem execBistDone_law (misr : Nat) (children : List Nat) (s : State) :
    ∃ s1, execBistDone misr children s = .next s1 ∧ Keeps s s1 ∧ ∀ m0 : Nat → Bool, m0 2 = false → m0 3 = false → m0 4 = false → m0 5 = false → m0 6 = false → m0 7 = false → m0 8 = false → m0 21 = false → m0 24 = false → m0 27 = false → m0 32 = false → m0 33 = false → m0 35 = false → m0 36 = false → m0 40 = false → m0 41 = false → m0 42 = false → m0 43 = false → Same m0 s s1 := by
  exact ⟨_, rfl, by simp (maxDischargeDepth := 60), fun m0 h2 h3 h4 h5 h6 h7 h8 h21 h24 h27 h32 h33 h35 h36 h40 h41 h42 h43 => by simp (maxDischargeDepth := 60) (decide := true) [h2, h3, h4, h5, h6, h7, h8, h21, h24, h27, h32, h33, h35, h36, h40, h41, h42, h43]⟩

theorem execBistWindDownEnd_law (begun : Bool) (s : State) :
    ∃ s1, execBistWindDownEnd begun s = .next s1 ∧ Keeps s s1 ∧ ∀ m0 : Nat → Bool, m0 2 = false → m0 3 = false → m0 4 = false → m0 5 = false → m0 6 = false → m0 7 = false → m0 8 = false → m0 21 = false → m0 24 = false → m0 27 = false → m0 32 = false → m0 33 = false → m0 35 = false → m0 36 = false → m0 40 = false → m0 41 = false → m0 42 = false → m0 43 = false → Same m0 s s1 := by
  exact ⟨_, rfl, by simp (maxDischargeDepth := 60), fun m0 h2 h3 h4 h5 h6 h7 h8 h21 h24 h27 h32 h33 h35 h36 h40 h41 h42 h43 => by simp (maxDischargeDepth := 60) (decide := true) [h2, h3, h4, h5, h6, h7, h8, h21, h24, h27, h32, h33, h35, h36, h40, h41, h42, h43]⟩

theorem execBistDeferredReset_law  (s : State) :
    ∃ s1, execBistDeferredReset s = .next s1 ∧ Keeps s s1 ∧ ∀ m0 : Nat → Bool, m0 0 = false → m0 1 = false → m0 2 = false → m0 3 = false → m0 4 = false → m0 5 = false → m0 6 = false → m0 7 = false → m0 8 = false → m0 9 = false → m0 10 = false → m0 11 = false → m0 24 = false → m0 26 = false → m0 28 = false → m0 36 = false → m0 39 = false → m0 42 = false → m0 43 = false → Same m0 s s1 := by
  exact ⟨_, rfl, by simp (maxDischargeDepth := 60), fun m0 h0 h1 h2 h3 h4 h5 h6 h7 h8 h9 h10 h11 h24 h26 h28 h36 h39 h42 h43 => by simp (maxDischargeDepth := 60) (decide := true) [h0, h1, h2, h3, h4, h5, h6, h7, h8, h9, h10, h11, h24, h26, h28, h36, h39, h42, h43]⟩

theorem execExtest_law  (s : State) :
    ∃ s1, execExtest s = .next s1 ∧ Keeps s s1 ∧ ∀ m0 : Nat → Bool, m0 0 = false → m0 1 = false → m0 2 = false → m0 3 = false → m0 4 = false → m0 5 = false → m0 6 = false → m0 7 = false → m0 8 = false → m0 9 = false → m0 10 = false → m0 11 = false → m0 24 = false → m0 26 = false → m0 28 = false → m0 36 = false → m0 39 = false → m0 42 = false → m0 43 = false → Same m0 s s1 := by
  exact ⟨_, rfl, by simp (maxDischargeDepth := 60), fun m0 h0 h1 h2 h3 h4 h5 h6 h7 h8 h9 h10 h11 h24 h26 h28 h36 h39 h42 h43 => by simp (maxDischargeDepth := 60) (decide := true) [h0, h1, h2, h3, h4, h5, h6, h7, h8, h9, h10, h11, h24, h26, h28, h36, h39, h42, h43]⟩

theorem execClamp_law  (s : State) :
    ∃ s1, execClamp s = .next s1 ∧ Keeps s s1 ∧ ∀ m0 : Nat → Bool, m0 0 = false → m0 1 = false → m0 2 = false → m0 3 = false → m0 4 = false → m0 5 = false → m0 6 = false → m0 7 = false → m0 8 = false → m0 9 = false → m0 10 = false → m0 11 = false → m0 24 = false → m0 26 = false → m0 28 = false → m0 36 = false → m0 39 = false → m0 42 = false → m0 43 = false → Same m0 s s1 := by
  exact ⟨_, rfl, by simp (maxDischargeDepth := 60), fun m0 h0 h1 h2 h3 h4 h5 h6 h7 h8 h9 h10 h11 h24 h26 h28 h36 h39 h42 h43 => by simp (maxDischargeDepth := 60) (decide := true) [h0, h1, h2, h3, h4, h5, h6, h7, h8, h9, h10, h11, h24, h26, h28, h36, h39, h42, h43]⟩

theorem execHighz_law  (s : State) :
    ∃ s1, execHighz s = .next s1 ∧ Keeps s s1 ∧ ∀ m0 : Nat → Bool, m0 0 = false → m0 1 = false → m0 2 = false → m0 3 = false → m0 4 = false → m0 5 = false → m0 6 = false → m0 7 = false → m0 8 = false → m0 9 = false → m0 10 = false → m0 11 = false → m0 24 = false → m0 26 = false → m0 28 = false → m0 36 = false → m0 39 = false → m0 42 = false → m0 43 = false → Same m0 s s1 := by
  exact ⟨_, rfl, by simp (maxDischargeDepth := 60), fun m0 h0 h1 h2 h3 h4 h5 h6 h7 h8 h9 h10 h11 h24 h26 h28 h36 h39 h42 h43 => by simp (maxDischargeDepth := 60) (decide := true) [h0, h1, h2, h3, h4, h5, h6, h7, h8, h9, h10, h11, h24, h26, h28, h36, h39, h42, h43]⟩

theorem execSamplePreload_law (pins : List Bool) (preload : List Bool) (s : State) :
    ∃ s1, execSamplePreload pins preload s = .next s1 ∧ Keeps s s1 ∧ ∀ m0 : Nat → Bool, m0 0 = false → m0 1 = false → m0 2 = false → m0 3 = false → m0 4 = false → m0 5 = false → m0 6 = false → m0 7 = false → m0 8 = false → m0 9 = false → m0 10 = false → m0 11 = false → m0 24 = false → m0 26 = false → m0 28 = false → m0 36 = false → m0 39 = false → m0 42 = false → m0 43 = false → Same m0 s s1 := by
  exact ⟨_, rfl, by simp (maxDischargeDepth := 60), fun m0 h0 h1 h2 h3 h4 h5 h6 h7 h8 h9 h10 h11 h24 h26 h28 h36 h39 h42 h43 => by simp (maxDischargeDepth := 60) (decide := true) [h0, h1, h2, h3, h4, h5, h6, h7, h8, h9, h10, h11, h24, h26, h28, h36, h39, h42, h43]⟩

theorem execIdcode_law  (s : State) :
    ∃ s1, execIdcode s = .next s1 ∧ Keeps s s1 ∧ ∀ m0 : Nat → Bool, m0 0 = false → m0 1 = false → m0 2 = false → m0 3 = false → m0 4 = false → m0 5 = false → m0 6 = false → m0 7 = false → m0 8 = false → m0 9 = false → m0 10 = false → m0 11 = false → m0 24 = false → m0 26 = false → m0 28 = false → m0 36 = false → m0 39 = false → m0 42 = false → m0 43 = false → Same m0 s s1 := by
  exact ⟨_, rfl, by simp (maxDischargeDepth := 60), fun m0 h0 h1 h2 h3 h4 h5 h6 h7 h8 h9 h10 h11 h24 h26 h28 h36 h39 h42 h43 => by simp (maxDischargeDepth := 60) (decide := true) [h0, h1, h2, h3, h4, h5, h6, h7, h8, h9, h10, h11, h24, h26, h28, h36, h39, h42, h43]⟩

theorem execBypass_law (code : Nat) (s : State) :
    ∃ s1, execBypass code s = .next s1 ∧ Keeps s s1 ∧ ∀ m0 : Nat → Bool, m0 0 = false → m0 1 = false → m0 2 = false → m0 3 = false → m0 4 = false → m0 5 = false → m0 6 = false → m0 7 = false → m0 8 = false → m0 9 = false → m0 10 = false → m0 11 = false → m0 24 = false → m0 26 = false → m0 28 = false → m0 36 = false → m0 39 = false → m0 42 = false → m0 43 = false → Same m0 s s1 := by
  exact ⟨_, rfl, by simp (maxDischargeDepth := 60), fun m0 h0 h1 h2 h3 h4 h5 h6 h7 h8 h9 h10 h11 h24 h26 h28 h36 h39 h42 h43 => by simp (maxDischargeDepth := 60) (decide := true) [h0, h1, h2, h3, h4, h5, h6, h7, h8, h9, h10, h11, h24, h26, h28, h36, h39, h42, h43]⟩

theorem execTapLeaveReset_law  (s : State) :
    ∃ s1, execTapLeaveReset s = .next s1 ∧ Keeps s s1 ∧ ∀ m0 : Nat → Bool, m0 24 = false → m0 42 = false → Same m0 s s1 := by
  exact ⟨_, rfl, by simp (maxDischargeDepth := 60), fun m0 h24 h42 => by simp (maxDischargeDepth := 60) (decide := true) [h24, h42]⟩

theorem execTrstNAssert_law (low : Bool) (s : State) :
    ∃ s1, execTrstNAssert low s = .next s1 ∧ Keeps s s1 ∧ ∀ m0 : Nat → Bool, m0 42 = false → Same m0 s s1 := by
  exact ⟨_, rfl, by simp (maxDischargeDepth := 60), fun m0 h42 => by simp (maxDischargeDepth := 60) (decide := true) [h42]⟩

theorem execServiceRequestFrame_law (mosi : List Byte) (s : State) :
    ∃ s1, execServiceRequestFrame mosi s = .next s1 ∧ Keeps s s1 ∧ ∀ m0 : Nat → Bool, m0 21 = false → m0 43 = false → Same m0 s s1 := by
  unfold execServiceRequestFrame; (try dsimp only)
  repeat' split
  all_goals exact ⟨_, rfl, by first | done | simp (maxDischargeDepth := 60), fun m0 h21 h43 => by first | done | simp (maxDischargeDepth := 60) (decide := true) [h21, h43]⟩

theorem execServiceFrameFault_law (kind : Fin 3) (s : State) :
    ∃ s1, execServiceFrameFault kind s = .next s1 ∧ Keeps s s1 ∧ ∀ m0 : Nat → Bool, m0 21 = false → Same m0 s s1 := by
  exact ⟨_, rfl, by simp (maxDischargeDepth := 60), fun m0 h21 => by simp (maxDischargeDepth := 60) (decide := true) [h21]⟩

theorem execServiceResponseFrame_law (clocked : Nat) (s : State) :
    ∃ s1, execServiceResponseFrame clocked s = .next s1 ∧ Keeps s s1 ∧ ∀ m0 : Nat → Bool, m0 21 = false → m0 43 = false → Same m0 s s1 := by
  unfold execServiceResponseFrame; (try dsimp only)
  repeat' split
  all_goals exact ⟨_, rfl, by first | done | simp (maxDischargeDepth := 60), fun m0 h21 h43 => by first | done | simp (maxDischargeDepth := 60) (decide := true) [h21, h43]⟩

theorem execModeWordWrite_law (h : Hdr) (v : Nat) (s : State) :
    ∃ s1, execModeWordWrite h v s = .next s1 ∧ Keeps s s1 ∧ ∀ m0 : Nat → Bool, m0 0 = false → m0 1 = false → m0 2 = false → m0 3 = false → m0 4 = false → m0 5 = false → m0 6 = false → m0 7 = false → m0 8 = false → m0 9 = false → m0 10 = false → m0 11 = false → m0 21 = false → m0 22 = false → m0 24 = false → m0 26 = false → m0 28 = false → m0 32 = false → m0 33 = false → m0 34 = false → m0 35 = false → m0 36 = false → m0 37 = false → m0 39 = false → m0 42 = false → m0 43 = false → Same m0 s s1 := by
  exact ⟨_, rfl, by simp (maxDischargeDepth := 60), fun m0 h0 h1 h2 h3 h4 h5 h6 h7 h8 h9 h10 h11 h21 h22 h24 h26 h28 h32 h33 h34 h35 h36 h37 h39 h42 h43 => by simp (maxDischargeDepth := 60) (decide := true) [h0, h1, h2, h3, h4, h5, h6, h7, h8, h9, h10, h11, h21, h22, h24, h26, h28, h32, h33, h34, h35, h36, h37, h39, h42, h43]⟩

theorem execWake_law (source : Fin 6) (s : State) :
    ∃ s1, execWake source s = .next s1 ∧ Keeps s s1 ∧ ∀ m0 : Nat → Bool, m0 6 = false → m0 7 = false → m0 8 = false → m0 22 = false → m0 24 = false → m0 36 = false → m0 42 = false → Same m0 s s1 := by
  exact ⟨_, rfl, by simp (maxDischargeDepth := 60), fun m0 h6 h7 h8 h22 h24 h36 h42 => by simp (maxDischargeDepth := 60) (decide := true) [h6, h7, h8, h22, h24, h36, h42]⟩

theorem execVaultEntry_law (step : Nat) (s : State) :
    ∃ s1, execVaultEntry step s = .next s1 ∧ Keeps s s1 ∧ ∀ m0 : Nat → Bool, m0 0 = false → m0 1 = false → m0 2 = false → m0 3 = false → m0 4 = false → m0 5 = false → m0 6 = false → m0 7 = false → m0 8 = false → m0 9 = false → m0 10 = false → m0 11 = false → m0 20 = false → m0 21 = false → m0 22 = false → m0 24 = false → m0 26 = false → m0 28 = false → m0 33 = false → m0 36 = false → m0 37 = false → m0 39 = false → m0 42 = false → m0 43 = false → Same m0 s s1 := by
  exact ⟨_, rfl, by simp (maxDischargeDepth := 60), fun m0 h0 h1 h2 h3 h4 h5 h6 h7 h8 h9 h10 h11 h20 h21 h22 h24 h26 h28 h33 h36 h37 h39 h42 h43 => by simp (maxDischargeDepth := 60) (decide := true) [h0, h1, h2, h3, h4, h5, h6, h7, h8, h9, h10, h11, h20, h21, h22, h24, h26, h28, h33, h36, h37, h39, h42, h43]⟩

theorem execBoot_law (b : BootFacts) (s : State) :
    ∃ s1, execBoot b s = .next s1 ∧ Keeps s s1 ∧ ∀ m0 : Nat → Bool, m0 0 = false → m0 1 = false → m0 2 = false → m0 3 = false → m0 4 = false → m0 5 = false → m0 6 = false → m0 7 = false → m0 8 = false → m0 9 = false → m0 10 = false → m0 11 = false → m0 20 = false → m0 21 = false → m0 22 = false → m0 23 = false → m0 24 = false → m0 25 = false → m0 26 = false → m0 27 = false → m0 28 = false → m0 29 = false → m0 30 = false → m0 31 = false → m0 32 = false → m0 33 = false → m0 34 = false → m0 35 = false → m0 36 = false → m0 37 = false → m0 38 = false → m0 39 = false → m0 40 = false → m0 41 = false → m0 42 = false → m0 43 = false → Same m0 s s1 := by
  exact ⟨_, rfl, by simp (maxDischargeDepth := 60), fun m0 h0 h1 h2 h3 h4 h5 h6 h7 h8 h9 h10 h11 h20 h21 h22 h23 h24 h25 h26 h27 h28 h29 h30 h31 h32 h33 h34 h35 h36 h37 h38 h39 h40 h41 h42 h43 => by simp (maxDischargeDepth := 60) (decide := true) [h0, h1, h2, h3, h4, h5, h6, h7, h8, h9, h10, h11, h20, h21, h22, h23, h24, h25, h26, h27, h28, h29, h30, h31, h32, h33, h34, h35, h36, h37, h38, h39, h40, h41, h42, h43]⟩

theorem execLeaseLapse_law  (s : State) :
    ∃ s1, execLeaseLapse s = .next s1 ∧ Keeps s s1 ∧ ∀ m0 : Nat → Bool, m0 0 = false → m0 1 = false → m0 2 = false → m0 3 = false → m0 4 = false → m0 5 = false → m0 6 = false → m0 7 = false → m0 8 = false → m0 9 = false → m0 10 = false → m0 11 = false → m0 24 = false → m0 26 = false → m0 28 = false → m0 36 = false → m0 39 = false → m0 42 = false → m0 43 = false → Same m0 s s1 := by
  exact ⟨_, rfl, by simp (maxDischargeDepth := 60), fun m0 h0 h1 h2 h3 h4 h5 h6 h7 h8 h9 h10 h11 h24 h26 h28 h36 h39 h42 h43 => by simp (maxDischargeDepth := 60) (decide := true) [h0, h1, h2, h3, h4, h5, h6, h7, h8, h9, h10, h11, h24, h26, h28, h36, h39, h42, h43]⟩

theorem execPowerOnResetRelease_law  (s : State) :
    ∃ s1, execPowerOnResetRelease s = .next s1 ∧ Keeps s s1 ∧ ∀ m0 : Nat → Bool, m0 42 = false → Same m0 s s1 := by
  exact ⟨_, rfl, by simp (maxDischargeDepth := 60), fun m0 h42 => by simp (maxDischargeDepth := 60) (decide := true) [h42]⟩

theorem execResetN_law (low : Bool) (s : State) :
    ∃ s1, execResetN low s = .next s1 ∧ Keeps s s1 ∧ ∀ m0 : Nat → Bool, m0 0 = false → m0 1 = false → m0 2 = false → m0 3 = false → m0 4 = false → m0 5 = false → m0 6 = false → m0 7 = false → m0 8 = false → m0 9 = false → m0 10 = false → m0 11 = false → m0 24 = false → m0 26 = false → m0 28 = false → m0 36 = false → m0 39 = false → m0 42 = false → m0 43 = false → Same m0 s s1 := by
  exact ⟨_, rfl, by simp (maxDischargeDepth := 60), fun m0 h0 h1 h2 h3 h4 h5 h6 h7 h8 h9 h10 h11 h24 h26 h28 h36 h39 h42 h43 => by simp (maxDischargeDepth := 60) (decide := true) [h0, h1, h2, h3, h4, h5, h6, h7, h8, h9, h10, h11, h24, h26, h28, h36, h39, h42, h43]⟩

theorem execResetRequest_law (h : Hdr) (v : Nat) (s : State) :
    ∃ s1, execResetRequest h v s = .next s1 ∧ Keeps s s1 ∧ ∀ m0 : Nat → Bool, m0 21 = false → m0 42 = false → Same m0 s s1 := by
  exact ⟨_, rfl, by simp (maxDischargeDepth := 60), fun m0 h21 h42 => by simp (maxDischargeDepth := 60) (decide := true) [h21, h42]⟩

theorem execLockstep_law  (s : State) :
    ∃ s1, execLockstep s = .next s1 ∧ Keeps s s1 ∧ ∀ m0 : Nat → Bool, m0 0 = false → m0 1 = false → m0 2 = false → m0 3 = false → m0 4 = false → m0 5 = false → m0 6 = false → m0 7 = false → m0 8 = false → m0 9 = false → m0 10 = false → m0 11 = false → m0 24 = false → m0 26 = false → m0 28 = false → m0 36 = false → m0 39 = false → m0 42 = false → m0 43 = false → Same m0 s s1 := by
  exact ⟨_, rfl, by simp (maxDischargeDepth := 60), fun m0 h0 h1 h2 h3 h4 h5 h6 h7 h8 h9 h10 h11 h24 h26 h28 h36 h39 h42 h43 => by simp (maxDischargeDepth := 60) (decide := true) [h0, h1, h2, h3, h4, h5, h6, h7, h8, h9, h10, h11, h24, h26, h28, h36, h39, h42, h43]⟩

theorem execWatchdog_law  (s : State) :
    ∃ s1, execWatchdog s = .next s1 ∧ Keeps s s1 ∧ ∀ m0 : Nat → Bool, m0 0 = false → m0 1 = false → m0 2 = false → m0 3 = false → m0 4 = false → m0 5 = false → m0 6 = false → m0 7 = false → m0 8 = false → m0 9 = false → m0 10 = false → m0 11 = false → m0 24 = false → m0 26 = false → m0 28 = false → m0 36 = false → m0 39 = false → m0 42 = false → m0 43 = false → Same m0 s s1 := by
  exact ⟨_, rfl, by simp (maxDischargeDepth := 60), fun m0 h0 h1 h2 h3 h4 h5 h6 h7 h8 h9 h10 h11 h24 h26 h28 h36 h39 h42 h43 => by simp (maxDischargeDepth := 60) (decide := true) [h0, h1, h2, h3, h4, h5, h6, h7, h8, h9, h10, h11, h24, h26, h28, h36, h39, h42, h43]⟩

theorem execTestmodeHigh_law (high : Bool) (s : State) :
    ∃ s1, execTestmodeHigh high s = .next s1 ∧ Keeps s s1 ∧ ∀ m0 : Nat → Bool, m0 0 = false → m0 1 = false → m0 2 = false → m0 3 = false → m0 4 = false → m0 5 = false → m0 6 = false → m0 7 = false → m0 8 = false → m0 9 = false → m0 10 = false → m0 11 = false → m0 24 = false → m0 26 = false → m0 28 = false → m0 36 = false → m0 39 = false → m0 42 = false → m0 43 = false → Same m0 s s1 := by
  exact ⟨_, rfl, by simp (maxDischargeDepth := 60), fun m0 h0 h1 h2 h3 h4 h5 h6 h7 h8 h9 h10 h11 h24 h26 h28 h36 h39 h42 h43 => by simp (maxDischargeDepth := 60) (decide := true) [h0, h1, h2, h3, h4, h5, h6, h7, h8, h9, h10, h11, h24, h26, h28, h36, h39, h42, h43]⟩

theorem execPfw_law (work : PfwWork) (s : State) :
    ∃ s1, execPfw work s = .next s1 ∧ Keeps s s1 ∧ ∀ m0 : Nat → Bool, m0 0 = false → m0 1 = false → m0 2 = false → m0 3 = false → m0 4 = false → m0 5 = false → m0 6 = false → m0 7 = false → m0 8 = false → m0 9 = false → m0 10 = false → m0 11 = false → m0 20 = false → m0 21 = false → m0 22 = false → m0 24 = false → m0 26 = false → m0 28 = false → m0 33 = false → m0 36 = false → m0 37 = false → m0 39 = false → m0 42 = false → m0 43 = false → Same m0 s s1 := by
  exact ⟨_, rfl, by simp (maxDischargeDepth := 60), fun m0 h0 h1 h2 h3 h4 h5 h6 h7 h8 h9 h10 h11 h20 h21 h22 h24 h26 h28 h33 h36 h37 h39 h42 h43 => by simp (maxDischargeDepth := 60) (decide := true) [h0, h1, h2, h3, h4, h5, h6, h7, h8, h9, h10, h11, h20, h21, h22, h24, h26, h28, h33, h36, h37, h39, h42, h43]⟩

theorem execPfwRelease_law  (s : State) :
    ∃ s1, execPfwRelease s = .next s1 ∧ Keeps s s1 ∧ ∀ m0 : Nat → Bool, m0 0 = false → m0 1 = false → m0 2 = false → m0 3 = false → m0 4 = false → m0 5 = false → m0 6 = false → m0 7 = false → m0 8 = false → m0 9 = false → m0 10 = false → m0 11 = false → m0 24 = false → m0 26 = false → m0 28 = false → m0 36 = false → m0 39 = false → m0 42 = false → m0 43 = false → Same m0 s s1 := by
  exact ⟨_, rfl, by simp (maxDischargeDepth := 60), fun m0 h0 h1 h2 h3 h4 h5 h6 h7 h8 h9 h10 h11 h24 h26 h28 h36 h39 h42 h43 => by simp (maxDischargeDepth := 60) (decide := true) [h0, h1, h2, h3, h4, h5, h6, h7, h8, h9, h10, h11, h24, h26, h28, h36, h39, h42, h43]⟩

theorem execMainsLost_law (first : Fin 5) (out : Nat) (s : State) :
    ∃ s1, execMainsLost first out s = .next s1 ∧ Keeps s s1 ∧ ∀ m0 : Nat → Bool, m0 0 = false → m0 1 = false → m0 2 = false → m0 3 = false → m0 4 = false → m0 5 = false → m0 6 = false → m0 7 = false → m0 8 = false → m0 9 = false → m0 10 = false → m0 11 = false → m0 22 = false → m0 24 = false → m0 26 = false → m0 28 = false → m0 36 = false → m0 42 = false → Same m0 s s1 := by
  exact ⟨_, rfl, by simp (maxDischargeDepth := 60), fun m0 h0 h1 h2 h3 h4 h5 h6 h7 h8 h9 h10 h11 h22 h24 h26 h28 h36 h42 => by simp (maxDischargeDepth := 60) (decide := true) [h0, h1, h2, h3, h4, h5, h6, h7, h8, h9, h10, h11, h22, h24, h26, h28, h36, h42]⟩

theorem execMainsReturned_law  (s : State) :
    ∃ s1, execMainsReturned s = .next s1 ∧ Keeps s s1 ∧ ∀ m0 : Nat → Bool, m0 6 = false → m0 7 = false → m0 8 = false → m0 24 = false → m0 36 = false → m0 42 = false → Same m0 s s1 := by
  exact ⟨_, rfl, by simp (maxDischargeDepth := 60), fun m0 h6 h7 h8 h24 h36 h42 => by simp (maxDischargeDepth := 60) (decide := true) [h6, h7, h8, h24, h36, h42]⟩

theorem execVbatLow_law  (s : State) :
    ∃ s1, execVbatLow s = .next s1 ∧ Keeps s s1 ∧ ∀ m0 : Nat → Bool, m0 24 = false → m0 42 = false → Same m0 s s1 := by
  exact ⟨_, rfl, by simp (maxDischargeDepth := 60), fun m0 h24 h42 => by simp (maxDischargeDepth := 60) (decide := true) [h24, h42]⟩

theorem execVaultBrownOut_law  (s : State) :
    ∃ s1, execVaultBrownOut s = .next s1 ∧ Keeps s s1 ∧ ∀ m0 : Nat → Bool, m0 0 = false → m0 1 = false → m0 2 = false → m0 3 = false → m0 4 = false → m0 5 = false → m0 6 = false → m0 7 = false → m0 8 = false → m0 9 = false → m0 10 = false → m0 11 = false → m0 20 = false → m0 36 = false → m0 42 = false → Same m0 s s1 := by
  exact ⟨_, rfl, by simp (maxDischargeDepth := 60), fun m0 h0 h1 h2 h3 h4 h5 h6 h7 h8 h9 h10 h11 h20 h36 h42 => by simp (maxDischargeDepth := 60) (decide := true) [h0, h1, h2, h3, h4, h5, h6, h7, h8, h9, h10, h11, h20, h36, h42]⟩

theorem execRtcStop_law  (s : State) :
    ∃ s1, execRtcStop s = .next s1 ∧ Keeps s s1 ∧ ∀ m0 : Nat → Bool, m0 42 = false → Same m0 s s1 := by
  exact ⟨_, rfl, by simp (maxDischargeDepth := 60), fun m0 h42 => by simp (maxDischargeDepth := 60) (decide := true) [h42]⟩

theorem execRtcRestart_law  (s : State) :
    ∃ s1, execRtcRestart s = .next s1 ∧ Keeps s s1 ∧ ∀ m0 : Nat → Bool, m0 42 = false → Same m0 s s1 := by
  exact ⟨_, rfl, by simp (maxDischargeDepth := 60), fun m0 h42 => by simp (maxDischargeDepth := 60) (decide := true) [h42]⟩

theorem execPaceMeasure_law (chains : List Nat) (s : State) :
    ∃ s1, execPaceMeasure chains s = .next s1 ∧ Keeps s s1 ∧ ∀ m0 : Nat → Bool, m0 1 = false → m0 2 = false → m0 3 = false → m0 4 = false → m0 5 = false → m0 6 = false → m0 7 = false → m0 8 = false → m0 11 = false → m0 23 = false → m0 24 = false → Same m0 s s1 := by
  exact ⟨_, rfl, by simp (maxDischargeDepth := 60), fun m0 h1 h2 h3 h4 h5 h6 h7 h8 h11 h23 h24 => by simp (maxDischargeDepth := 60) (decide := true) [h1, h2, h3, h4, h5, h6, h7, h8, h11, h23, h24]⟩

theorem execEnsignLatClear_law (h : Hdr) (v : Nat) (s : State) :
    ∃ s1, execEnsignLatClear h v s = .next s1 ∧ Keeps s s1 ∧ ∀ m0 : Nat → Bool, m0 1 = false → m0 2 = false → m0 3 = false → m0 4 = false → m0 5 = false → m0 6 = false → m0 7 = false → m0 8 = false → m0 11 = false → m0 21 = false → Same m0 s s1 := by
  exact ⟨_, rfl, by simp (maxDischargeDepth := 60), fun m0 h1 h2 h3 h4 h5 h6 h7 h8 h11 h21 => by simp (maxDischargeDepth := 60) (decide := true) [h1, h2, h3, h4, h5, h6, h7, h8, h11, h21]⟩

theorem execRefclkLost_law  (s : State) :
    ∃ s1, execRefclkLost s = .next s1 ∧ Keeps s s1 ∧ ∀ m0 : Nat → Bool, m0 0 = false → m0 1 = false → m0 2 = false → m0 3 = false → m0 4 = false → m0 5 = false → m0 6 = false → m0 7 = false → m0 8 = false → m0 9 = false → m0 10 = false → m0 11 = false → m0 24 = false → m0 26 = false → m0 28 = false → m0 33 = false → m0 37 = false → m0 43 = false → Same m0 s s1 := by
  exact ⟨_, rfl, by simp (maxDischargeDepth := 60), fun m0 h0 h1 h2 h3 h4 h5 h6 h7 h8 h9 h10 h11 h24 h26 h28 h33 h37 h43 => by simp (maxDischargeDepth := 60) (decide := true) [h0, h1, h2, h3, h4, h5, h6, h7, h8, h9, h10, h11, h24, h26, h28, h33, h37, h43]⟩

theorem execPllUnlock_law  (s : State) :
    ∃ s1, execPllUnlock s = .next s1 ∧ Keeps s s1 ∧ ∀ m0 : Nat → Bool, m0 0 = false → m0 1 = false → m0 2 = false → m0 3 = false → m0 4 = false → m0 5 = false → m0 6 = false → m0 7 = false → m0 8 = false → m0 9 = false → m0 10 = false → m0 11 = false → m0 24 = false → m0 26 = false → m0 28 = false → m0 33 = false → m0 37 = false → m0 43 = false → Same m0 s s1 := by
  exact ⟨_, rfl, by simp (maxDischargeDepth := 60), fun m0 h0 h1 h2 h3 h4 h5 h6 h7 h8 h9 h10 h11 h24 h26 h28 h33 h37 h43 => by simp (maxDischargeDepth := 60) (decide := true) [h0, h1, h2, h3, h4, h5, h6, h7, h8, h9, h10, h11, h24, h26, h28, h33, h37, h43]⟩

theorem execPllRelock_law  (s : State) :
    ∃ s1, execPllRelock s = .next s1 ∧ Keeps s s1 ∧ ∀ m0 : Nat → Bool, m0 0 = false → m0 1 = false → m0 2 = false → m0 3 = false → m0 4 = false → m0 5 = false → m0 6 = false → m0 7 = false → m0 8 = false → m0 9 = false → m0 10 = false → m0 11 = false → m0 23 = false → m0 24 = false → m0 26 = false → m0 28 = false → Same m0 s s1 := by
  exact ⟨_, rfl, by simp (maxDischargeDepth := 60), fun m0 h0 h1 h2 h3 h4 h5 h6 h7 h8 h9 h10 h11 h23 h24 h26 h28 => by simp (maxDischargeDepth := 60) (decide := true) [h0, h1, h2, h3, h4, h5, h6, h7, h8, h9, h10, h11, h23, h24, h26, h28]⟩

theorem execLaneClockLost_law (island : Nat) (s : State) :
    ∃ s1, execLaneClockLost island s = .next s1 ∧ Keeps s s1 ∧ ∀ m0 : Nat → Bool, m0 1 = false → m0 2 = false → m0 3 = false → m0 4 = false → m0 5 = false → m0 6 = false → m0 7 = false → m0 8 = false → m0 11 = false → Same m0 s s1 := by
  exact ⟨_, rfl, by simp (maxDischargeDepth := 60), fun m0 h1 h2 h3 h4 h5 h6 h7 h8 h11 => by simp (maxDischargeDepth := 60) (decide := true) [h1, h2, h3, h4, h5, h6, h7, h8, h11]⟩

theorem execMeterEngineFenced_law (e : Fin 2) (s : State) :
    ∃ s1, execMeterEngineFenced e s = .next s1 ∧ Keeps s s1 ∧ ∀ m0 : Nat → Bool, m0 0 = false → m0 1 = false → m0 2 = false → m0 3 = false → m0 4 = false → m0 5 = false → m0 6 = false → m0 7 = false → m0 8 = false → m0 9 = false → m0 10 = false → m0 11 = false → m0 21 = false → m0 23 = false → m0 24 = false → m0 26 = false → m0 28 = false → m0 32 = false → m0 34 = false → m0 35 = false → m0 36 = false → m0 39 = false → m0 43 = false → Same m0 s s1 := by
  exact ⟨_, rfl, by simp (maxDischargeDepth := 60), fun m0 h0 h1 h2 h3 h4 h5 h6 h7 h8 h9 h10 h11 h21 h23 h24 h26 h28 h32 h34 h35 h36 h39 h43 => by simp (maxDischargeDepth := 60) (decide := true) [h0, h1, h2, h3, h4, h5, h6, h7, h8, h9, h10, h11, h21, h23, h24, h26, h28, h32, h34, h35, h36, h39, h43]⟩

theorem execParityError_law (region : Fin 7) (level : Nat) (block : Nat) (cell : Nat) (second : Bool) (s : State) :
    ∃ s1, execParityError region level block cell second s = .next s1 ∧ Keeps s s1 ∧ ∀ m0 : Nat → Bool, m0 1 = false → m0 2 = false → m0 3 = false → m0 4 = false → m0 5 = false → m0 6 = false → m0 7 = false → m0 8 = false → m0 11 = false → m0 21 = false → m0 24 = false → Same m0 s s1 := by
  exact ⟨_, rfl, by simp (maxDischargeDepth := 60), fun m0 h1 h2 h3 h4 h5 h6 h7 h8 h11 h21 h24 => by simp (maxDischargeDepth := 60) (decide := true) [h1, h2, h3, h4, h5, h6, h7, h8, h11, h21, h24]⟩

theorem execEnsignSingleBitError_law (region : Fin 7) (level : Nat) (block : Nat) (cell : Nat) (s : State) :
    ∃ s1, execEnsignSingleBitError region level block cell s = .next s1 ∧ Keeps s s1 ∧ ∀ m0 : Nat → Bool, m0 1 = false → m0 2 = false → m0 3 = false → m0 4 = false → m0 5 = false → m0 6 = false → m0 7 = false → m0 8 = false → m0 11 = false → Same m0 s s1 := by
  exact ⟨_, rfl, by simp (maxDischargeDepth := 60), fun m0 h1 h2 h3 h4 h5 h6 h7 h8 h11 => by simp (maxDischargeDepth := 60) (decide := true) [h1, h2, h3, h4, h5, h6, h7, h8, h11]⟩

theorem execEnsignUncorrectable_law (region : Fin 7) (block : Nat) (cell : Nat) (s : State) :
    ∃ s1, execEnsignUncorrectable region block cell s = .next s1 ∧ Keeps s s1 ∧ ∀ m0 : Nat → Bool, m0 0 = false → m0 1 = false → m0 2 = false → m0 3 = false → m0 4 = false → m0 5 = false → m0 6 = false → m0 7 = false → m0 8 = false → m0 9 = false → m0 10 = false → m0 11 = false → m0 21 = false → m0 23 = false → m0 24 = false → m0 26 = false → m0 28 = false → m0 32 = false → m0 33 = false → m0 34 = false → m0 35 = false → m0 36 = false → m0 39 = false → m0 43 = false → Same m0 s s1 := by
  exact ⟨_, rfl, by simp (maxDischargeDepth := 60), fun m0 h0 h1 h2 h3 h4 h5 h6 h7 h8 h9 h10 h11 h21 h23 h24 h26 h28 h32 h33 h34 h35 h36 h39 h43 => by simp (maxDischargeDepth := 60) (decide := true) [h0, h1, h2, h3, h4, h5, h6, h7, h8, h9, h10, h11, h21, h23, h24, h26, h28, h32, h33, h34, h35, h36, h39, h43]⟩

theorem execMissingEndMark_law (region : Fin 7) (block : Nat) (cell : Nat) (s : State) :
    ∃ s1, execMissingEndMark region block cell s = .next s1 ∧ Keeps s s1 ∧ ∀ m0 : Nat → Bool, m0 0 = false → m0 1 = false → m0 2 = false → m0 3 = false → m0 4 = false → m0 5 = false → m0 6 = false → m0 7 = false → m0 8 = false → m0 9 = false → m0 10 = false → m0 11 = false → m0 21 = false → m0 23 = false → m0 24 = false → m0 26 = false → m0 28 = false → m0 32 = false → m0 34 = false → m0 35 = false → m0 36 = false → m0 39 = false → m0 43 = false → Same m0 s s1 := by
  exact ⟨_, rfl, by simp (maxDischargeDepth := 60), fun m0 h0 h1 h2 h3 h4 h5 h6 h7 h8 h9 h10 h11 h21 h23 h24 h26 h28 h32 h34 h35 h36 h39 h43 => by simp (maxDischargeDepth := 60) (decide := true) [h0, h1, h2, h3, h4, h5, h6, h7, h8, h9, h10, h11, h21, h23, h24, h26, h28, h32, h34, h35, h36, h39, h43]⟩

theorem execCellStallTimeout_law (region : Fin 7) (block : Nat) (cell : Nat) (s : State) :
    ∃ s1, execCellStallTimeout region block cell s = .next s1 ∧ Keeps s s1 ∧ ∀ m0 : Nat → Bool, m0 0 = false → m0 1 = false → m0 2 = false → m0 3 = false → m0 4 = false → m0 5 = false → m0 6 = false → m0 7 = false → m0 8 = false → m0 9 = false → m0 10 = false → m0 11 = false → m0 21 = false → m0 23 = false → m0 24 = false → m0 26 = false → m0 28 = false → m0 32 = false → m0 34 = false → m0 35 = false → m0 36 = false → m0 39 = false → m0 43 = false → Same m0 s s1 := by
  exact ⟨_, rfl, by simp (maxDischargeDepth := 60), fun m0 h0 h1 h2 h3 h4 h5 h6 h7 h8 h9 h10 h11 h21 h23 h24 h26 h28 h32 h34 h35 h36 h39 h43 => by simp (maxDischargeDepth := 60) (decide := true) [h0, h1, h2, h3, h4, h5, h6, h7, h8, h9, h10, h11, h21, h23, h24, h26, h28, h32, h34, h35, h36, h39, h43]⟩

theorem execBlockStallTimeout_law (region : Fin 7) (block : Nat) (s : State) :
    ∃ s1, execBlockStallTimeout region block s = .next s1 ∧ Keeps s s1 ∧ ∀ m0 : Nat → Bool, m0 0 = false → m0 1 = false → m0 2 = false → m0 3 = false → m0 4 = false → m0 5 = false → m0 6 = false → m0 7 = false → m0 8 = false → m0 9 = false → m0 10 = false → m0 11 = false → m0 21 = false → m0 23 = false → m0 24 = false → m0 26 = false → m0 28 = false → m0 32 = false → m0 34 = false → m0 35 = false → m0 36 = false → m0 39 = false → m0 43 = false → Same m0 s s1 := by
  exact ⟨_, rfl, by simp (maxDischargeDepth := 60), fun m0 h0 h1 h2 h3 h4 h5 h6 h7 h8 h9 h10 h11 h21 h23 h24 h26 h28 h32 h34 h35 h36 h39 h43 => by simp (maxDischargeDepth := 60) (decide := true) [h0, h1, h2, h3, h4, h5, h6, h7, h8, h9, h10, h11, h21, h23, h24, h26, h28, h32, h34, h35, h36, h39, h43]⟩

theorem execRegionStallTimeout_law (region : Fin 7) (s : State) :
    ∃ s1, execRegionStallTimeout region s = .next s1 ∧ Keeps s s1 ∧ ∀ m0 : Nat → Bool, m0 0 = false → m0 1 = false → m0 2 = false → m0 3 = false → m0 4 = false → m0 5 = false → m0 6 = false → m0 7 = false → m0 8 = false → m0 9 = false → m0 10 = false → m0 11 = false → m0 21 = false → m0 23 = false → m0 24 = false → m0 26 = false → m0 28 = false → m0 32 = false → m0 34 = false → m0 35 = false → m0 36 = false → m0 39 = false → m0 42 = false → m0 43 = false → Same m0 s s1 := by
  exact ⟨_, rfl, by simp (maxDischargeDepth := 60), fun m0 h0 h1 h2 h3 h4 h5 h6 h7 h8 h9 h10 h11 h21 h23 h24 h26 h28 h32 h34 h35 h36 h39 h42 h43 => by simp (maxDischargeDepth := 60) (decide := true) [h0, h1, h2, h3, h4, h5, h6, h7, h8, h9, h10, h11, h21, h23, h24, h26, h28, h32, h34, h35, h36, h39, h42, h43]⟩

theorem execChipStallTimeout_law  (s : State) :
    ∃ s1, execChipStallTimeout s = .next s1 ∧ Keeps s s1 ∧ ∀ m0 : Nat → Bool, m0 0 = false → m0 1 = false → m0 2 = false → m0 3 = false → m0 4 = false → m0 5 = false → m0 6 = false → m0 7 = false → m0 8 = false → m0 9 = false → m0 10 = false → m0 11 = false → m0 24 = false → m0 26 = false → m0 28 = false → m0 36 = false → m0 39 = false → m0 42 = false → m0 43 = false → Same m0 s s1 := by
  exact ⟨_, rfl, by simp (maxDischargeDepth := 60), fun m0 h0 h1 h2 h3 h4 h5 h6 h7 h8 h9 h10 h11 h24 h26 h28 h36 h39 h42 h43 => by simp (maxDischargeDepth := 60) (decide := true) [h0, h1, h2, h3, h4, h5, h6, h7, h8, h9, h10, h11, h24, h26, h28, h36, h39, h42, h43]⟩

theorem execCommitStored_law  (s : State) :
    ∃ s1, execCommitStored s = .next s1 ∧ Keeps s s1 ∧ ∀ m0 : Nat → Bool, m0 0 = false → m0 1 = false → m0 2 = false → m0 3 = false → m0 4 = false → m0 5 = false → m0 6 = false → m0 7 = false → m0 8 = false → m0 9 = false → m0 10 = false → m0 11 = false → m0 20 = false → m0 21 = false → m0 22 = false → m0 24 = false → m0 26 = false → m0 28 = false → m0 31 = false → m0 32 = false → m0 33 = false → m0 34 = false → m0 35 = false → m0 36 = false → m0 37 = false → m0 38 = false → m0 39 = false → m0 40 = false → m0 42 = false → m0 43 = false → Same m0 s s1 := by
  exact ⟨_, rfl, by simp (maxDischargeDepth := 60), fun m0 h0 h1 h2 h3 h4 h5 h6 h7 h8 h9 h10 h11 h20 h21 h22 h24 h26 h28 h31 h32 h33 h34 h35 h36 h37 h38 h39 h40 h42 h43 => by simp (maxDischargeDepth := 60) (decide := true) [h0, h1, h2, h3, h4, h5, h6, h7, h8, h9, h10, h11, h20, h21, h22, h24, h26, h28, h31, h32, h33, h34, h35, h36, h37, h38, h39, h40, h42, h43]⟩

theorem execCommitApply_law  (s : State) :
    ∃ s1, execCommitApply s = .next s1 ∧ Keeps s s1 ∧ ∀ m0 : Nat → Bool, m0 0 = false → m0 1 = false → m0 2 = false → m0 3 = false → m0 4 = false → m0 5 = false → m0 6 = false → m0 7 = false → m0 8 = false → m0 9 = false → m0 10 = false → m0 11 = false → m0 20 = false → m0 21 = false → m0 22 = false → m0 24 = false → m0 26 = false → m0 28 = false → m0 31 = false → m0 32 = false → m0 33 = false → m0 34 = false → m0 35 = false → m0 36 = false → m0 37 = false → m0 38 = false → m0 39 = false → m0 40 = false → m0 42 = false → m0 43 = false → Same m0 s s1 := by
  exact ⟨_, rfl, by simp (maxDischargeDepth := 60), fun m0 h0 h1 h2 h3 h4 h5 h6 h7 h8 h9 h10 h11 h20 h21 h22 h24 h26 h28 h31 h32 h33 h34 h35 h36 h37 h38 h39 h40 h42 h43 => by simp (maxDischargeDepth := 60) (decide := true) [h0, h1, h2, h3, h4, h5, h6, h7, h8, h9, h10, h11, h20, h21, h22, h24, h26, h28, h31, h32, h33, h34, h35, h36, h37, h38, h39, h40, h42, h43]⟩

theorem execConfigEraseStored_law  (s : State) :
    ∃ s1, execConfigEraseStored s = .next s1 ∧ Keeps s s1 ∧ ∀ m0 : Nat → Bool, m0 21 = false → Same m0 s s1 := by
  exact ⟨_, rfl, by simp (maxDischargeDepth := 60), fun m0 h21 => by simp (maxDischargeDepth := 60) (decide := true) [h21]⟩

theorem execWrite_law (src : Src) (rq : Request) (s : State) :
    ∃ s1, execWrite src rq s = .next s1 ∧ Keeps s s1 ∧ ∀ m0 : Nat → Bool, m0 0 = false → m0 1 = false → m0 2 = false → m0 3 = false → m0 4 = false → m0 5 = false → m0 6 = false → m0 7 = false → m0 8 = false → m0 9 = false → m0 10 = false → m0 11 = false → m0 20 = false → m0 21 = false → m0 22 = false → m0 24 = false → m0 26 = false → m0 27 = false → m0 28 = false → m0 30 = false → m0 32 = false → m0 33 = false → m0 34 = false → m0 35 = false → m0 36 = false → m0 37 = false → m0 38 = false → m0 39 = false → m0 40 = false → m0 41 = false → m0 42 = false → m0 43 = false → Same m0 s s1 := by
  exact ⟨_, rfl, by simp (maxDischargeDepth := 60), fun m0 h0 h1 h2 h3 h4 h5 h6 h7 h8 h9 h10 h11 h20 h21 h22 h24 h26 h27 h28 h30 h32 h33 h34 h35 h36 h37 h38 h39 h40 h41 h42 h43 => by simp (maxDischargeDepth := 60) (decide := true) [h0, h1, h2, h3, h4, h5, h6, h7, h8, h9, h10, h11, h20, h21, h22, h24, h26, h27, h28, h30, h32, h33, h34, h35, h36, h37, h38, h39, h40, h41, h42, h43]⟩

theorem execWriteSeg_law (src : Src) (rq : Request) (s : State) :
    ∃ s1, execWriteSeg src rq s = .next s1 ∧ Keeps s s1 ∧ ∀ m0 : Nat → Bool, m0 0 = false → m0 1 = false → m0 2 = false → m0 3 = false → m0 4 = false → m0 5 = false → m0 6 = false → m0 7 = false → m0 8 = false → m0 9 = false → m0 10 = false → m0 11 = false → m0 20 = false → m0 21 = false → m0 22 = false → m0 24 = false → m0 26 = false → m0 27 = false → m0 28 = false → m0 30 = false → m0 32 = false → m0 33 = false → m0 34 = false → m0 35 = false → m0 36 = false → m0 37 = false → m0 38 = false → m0 39 = false → m0 40 = false → m0 41 = false → m0 42 = false → m0 43 = false → Same m0 s s1 := by
  exact ⟨_, rfl, by simp (maxDischargeDepth := 60), fun m0 h0 h1 h2 h3 h4 h5 h6 h7 h8 h9 h10 h11 h20 h21 h22 h24 h26 h27 h28 h30 h32 h33 h34 h35 h36 h37 h38 h39 h40 h41 h42 h43 => by simp (maxDischargeDepth := 60) (decide := true) [h0, h1, h2, h3, h4, h5, h6, h7, h8, h9, h10, h11, h20, h21, h22, h24, h26, h27, h28, h30, h32, h33, h34, h35, h36, h37, h38, h39, h40, h41, h42, h43]⟩

theorem execReadSeg_law (src : Src) (rq : Request) (s : State) :
    ∃ s1, execReadSeg src rq s = .next s1 ∧ Keeps s s1 ∧ ∀ m0 : Nat → Bool, m0 0 = false → m0 1 = false → m0 2 = false → m0 3 = false → m0 4 = false → m0 5 = false → m0 6 = false → m0 7 = false → m0 8 = false → m0 9 = false → m0 10 = false → m0 11 = false → m0 20 = false → m0 21 = false → m0 22 = false → m0 24 = false → m0 26 = false → m0 27 = false → m0 28 = false → m0 30 = false → m0 32 = false → m0 33 = false → m0 34 = false → m0 35 = false → m0 36 = false → m0 37 = false → m0 38 = false → m0 39 = false → m0 40 = false → m0 41 = false → m0 42 = false → m0 43 = false → Same m0 s s1 := by
  exact ⟨_, rfl, by simp (maxDischargeDepth := 60), fun m0 h0 h1 h2 h3 h4 h5 h6 h7 h8 h9 h10 h11 h20 h21 h22 h24 h26 h27 h28 h30 h32 h33 h34 h35 h36 h37 h38 h39 h40 h41 h42 h43 => by simp (maxDischargeDepth := 60) (decide := true) [h0, h1, h2, h3, h4, h5, h6, h7, h8, h9, h10, h11, h20, h21, h22, h24, h26, h27, h28, h30, h32, h33, h34, h35, h36, h37, h38, h39, h40, h41, h42, h43]⟩

theorem execResRead_law (h : Hdr) (cmd : CmdId) (s : State) :
    ∃ s1, execResRead h cmd s = .next s1 ∧ Keeps s s1 ∧ ∀ m0 : Nat → Bool, m0 0 = false → m0 1 = false → m0 2 = false → m0 3 = false → m0 4 = false → m0 5 = false → m0 6 = false → m0 7 = false → m0 8 = false → m0 9 = false → m0 10 = false → m0 11 = false → m0 20 = false → m0 21 = false → m0 22 = false → m0 24 = false → m0 26 = false → m0 27 = false → m0 28 = false → m0 30 = false → m0 32 = false → m0 33 = false → m0 34 = false → m0 35 = false → m0 36 = false → m0 37 = false → m0 38 = false → m0 39 = false → m0 40 = false → m0 41 = false → m0 42 = false → m0 43 = false → Same m0 s s1 := by
  exact ⟨_, rfl, by simp (maxDischargeDepth := 60), fun m0 h0 h1 h2 h3 h4 h5 h6 h7 h8 h9 h10 h11 h20 h21 h22 h24 h26 h27 h28 h30 h32 h33 h34 h35 h36 h37 h38 h39 h40 h41 h42 h43 => by simp (maxDischargeDepth := 60) (decide := true) [h0, h1, h2, h3, h4, h5, h6, h7, h8, h9, h10, h11, h20, h21, h22, h24, h26, h27, h28, h30, h32, h33, h34, h35, h36, h37, h38, h39, h40, h41, h42, h43]⟩

theorem execCmdRead_law (h : Hdr) (cmd : CmdId) (s : State) :
    ∃ s1, execCmdRead h cmd s = .next s1 ∧ Keeps s s1 ∧ ∀ m0 : Nat → Bool, m0 0 = false → m0 1 = false → m0 2 = false → m0 3 = false → m0 4 = false → m0 5 = false → m0 6 = false → m0 7 = false → m0 8 = false → m0 9 = false → m0 10 = false → m0 11 = false → m0 20 = false → m0 21 = false → m0 22 = false → m0 24 = false → m0 26 = false → m0 27 = false → m0 28 = false → m0 30 = false → m0 32 = false → m0 33 = false → m0 34 = false → m0 35 = false → m0 36 = false → m0 37 = false → m0 38 = false → m0 39 = false → m0 40 = false → m0 41 = false → m0 42 = false → m0 43 = false → Same m0 s s1 := by
  exact ⟨_, rfl, by simp (maxDischargeDepth := 60), fun m0 h0 h1 h2 h3 h4 h5 h6 h7 h8 h9 h10 h11 h20 h21 h22 h24 h26 h27 h28 h30 h32 h33 h34 h35 h36 h37 h38 h39 h40 h41 h42 h43 => by simp (maxDischargeDepth := 60) (decide := true) [h0, h1, h2, h3, h4, h5, h6, h7, h8, h9, h10, h11, h20, h21, h22, h24, h26, h27, h28, h30, h32, h33, h34, h35, h36, h37, h38, h39, h40, h41, h42, h43]⟩

theorem execAbort_law (h : Hdr) (cmd : CmdId) (s : State) :
    ∃ s1, execAbort h cmd s = .next s1 ∧ Keeps s s1 ∧ ∀ m0 : Nat → Bool, m0 0 = false → m0 1 = false → m0 2 = false → m0 3 = false → m0 4 = false → m0 5 = false → m0 6 = false → m0 7 = false → m0 8 = false → m0 9 = false → m0 10 = false → m0 11 = false → m0 20 = false → m0 21 = false → m0 22 = false → m0 24 = false → m0 26 = false → m0 27 = false → m0 28 = false → m0 30 = false → m0 32 = false → m0 33 = false → m0 34 = false → m0 35 = false → m0 36 = false → m0 37 = false → m0 38 = false → m0 39 = false → m0 40 = false → m0 41 = false → m0 42 = false → m0 43 = false → Same m0 s s1 := by
  exact ⟨_, rfl, by simp (maxDischargeDepth := 60), fun m0 h0 h1 h2 h3 h4 h5 h6 h7 h8 h9 h10 h11 h20 h21 h22 h24 h26 h27 h28 h30 h32 h33 h34 h35 h36 h37 h38 h39 h40 h41 h42 h43 => by simp (maxDischargeDepth := 60) (decide := true) [h0, h1, h2, h3, h4, h5, h6, h7, h8, h9, h10, h11, h20, h21, h22, h24, h26, h27, h28, h30, h32, h33, h34, h35, h36, h37, h38, h39, h40, h41, h42, h43]⟩

theorem execAck_law (h : Hdr) (cmd : CmdId) (s : State) :
    ∃ s1, execAck h cmd s = .next s1 ∧ Keeps s s1 ∧ ∀ m0 : Nat → Bool, m0 0 = false → m0 1 = false → m0 2 = false → m0 3 = false → m0 4 = false → m0 5 = false → m0 6 = false → m0 7 = false → m0 8 = false → m0 9 = false → m0 10 = false → m0 11 = false → m0 20 = false → m0 21 = false → m0 22 = false → m0 24 = false → m0 26 = false → m0 27 = false → m0 28 = false → m0 30 = false → m0 32 = false → m0 33 = false → m0 34 = false → m0 35 = false → m0 36 = false → m0 37 = false → m0 38 = false → m0 39 = false → m0 40 = false → m0 41 = false → m0 42 = false → m0 43 = false → Same m0 s s1 := by
  exact ⟨_, rfl, by simp (maxDischargeDepth := 60), fun m0 h0 h1 h2 h3 h4 h5 h6 h7 h8 h9 h10 h11 h20 h21 h22 h24 h26 h27 h28 h30 h32 h33 h34 h35 h36 h37 h38 h39 h40 h41 h42 h43 => by simp (maxDischargeDepth := 60) (decide := true) [h0, h1, h2, h3, h4, h5, h6, h7, h8, h9, h10, h11, h20, h21, h22, h24, h26, h27, h28, h30, h32, h33, h34, h35, h36, h37, h38, h39, h40, h41, h42, h43]⟩

theorem execCommit_law (h : Hdr) (arg : Nat) (s : State) :
    ∃ s1, execCommit h arg s = .next s1 ∧ Keeps s s1 ∧ ∀ m0 : Nat → Bool, m0 0 = false → m0 1 = false → m0 2 = false → m0 3 = false → m0 4 = false → m0 5 = false → m0 6 = false → m0 7 = false → m0 8 = false → m0 9 = false → m0 10 = false → m0 11 = false → m0 20 = false → m0 21 = false → m0 22 = false → m0 24 = false → m0 26 = false → m0 27 = false → m0 28 = false → m0 30 = false → m0 32 = false → m0 33 = false → m0 34 = false → m0 35 = false → m0 36 = false → m0 37 = false → m0 38 = false → m0 39 = false → m0 40 = false → m0 41 = false → m0 42 = false → m0 43 = false → Same m0 s s1 := by
  exact ⟨_, rfl, by simp (maxDischargeDepth := 60), fun m0 h0 h1 h2 h3 h4 h5 h6 h7 h8 h9 h10 h11 h20 h21 h22 h24 h26 h27 h28 h30 h32 h33 h34 h35 h36 h37 h38 h39 h40 h41 h42 h43 => by simp (maxDischargeDepth := 60) (decide := true) [h0, h1, h2, h3, h4, h5, h6, h7, h8, h9, h10, h11, h20, h21, h22, h24, h26, h27, h28, h30, h32, h33, h34, h35, h36, h37, h38, h39, h40, h41, h42, h43]⟩

theorem execStageDiscard_law (h : Hdr) (arg : Nat) (s : State) :
    ∃ s1, execStageDiscard h arg s = .next s1 ∧ Keeps s s1 ∧ ∀ m0 : Nat → Bool, m0 0 = false → m0 1 = false → m0 2 = false → m0 3 = false → m0 4 = false → m0 5 = false → m0 6 = false → m0 7 = false → m0 8 = false → m0 9 = false → m0 10 = false → m0 11 = false → m0 20 = false → m0 21 = false → m0 22 = false → m0 24 = false → m0 26 = false → m0 27 = false → m0 28 = false → m0 30 = false → m0 32 = false → m0 33 = false → m0 34 = false → m0 35 = false → m0 36 = false → m0 37 = false → m0 38 = false → m0 39 = false → m0 40 = false → m0 41 = false → m0 42 = false → m0 43 = false → Same m0 s s1 := by
  exact ⟨_, rfl, by simp (maxDischargeDepth := 60), fun m0 h0 h1 h2 h3 h4 h5 h6 h7 h8 h9 h10 h11 h20 h21 h22 h24 h26 h27 h28 h30 h32 h33 h34 h35 h36 h37 h38 h39 h40 h41 h42 h43 => by simp (maxDischargeDepth := 60) (decide := true) [h0, h1, h2, h3, h4, h5, h6, h7, h8, h9, h10, h11, h20, h21, h22, h24, h26, h27, h28, h30, h32, h33, h34, h35, h36, h37, h38, h39, h40, h41, h42, h43]⟩

theorem execConfigErase_law (h : Hdr) (arg : Nat) (s : State) :
    ∃ s1, execConfigErase h arg s = .next s1 ∧ Keeps s s1 ∧ ∀ m0 : Nat → Bool, m0 0 = false → m0 1 = false → m0 2 = false → m0 3 = false → m0 4 = false → m0 5 = false → m0 6 = false → m0 7 = false → m0 8 = false → m0 9 = false → m0 10 = false → m0 11 = false → m0 20 = false → m0 21 = false → m0 22 = false → m0 24 = false → m0 26 = false → m0 27 = false → m0 28 = false → m0 30 = false → m0 32 = false → m0 33 = false → m0 34 = false → m0 35 = false → m0 36 = false → m0 37 = false → m0 38 = false → m0 39 = false → m0 40 = false → m0 41 = false → m0 42 = false → m0 43 = false → Same m0 s s1 := by
  exact ⟨_, rfl, by simp (maxDischargeDepth := 60), fun m0 h0 h1 h2 h3 h4 h5 h6 h7 h8 h9 h10 h11 h20 h21 h22 h24 h26 h27 h28 h30 h32 h33 h34 h35 h36 h37 h38 h39 h40 h41 h42 h43 => by simp (maxDischargeDepth := 60) (decide := true) [h0, h1, h2, h3, h4, h5, h6, h7, h8, h9, h10, h11, h20, h21, h22, h24, h26, h27, h28, h30, h32, h33, h34, h35, h36, h37, h38, h39, h40, h41, h42, h43]⟩

/-- Every command answers a next state, which keeps what Keeps says. -/
theorem exec_keeps (c : Instr) (s : State) : ∃ s1, exec c s = .next s1 ∧ Keeps s s1 := by
  cases c
  · obtain ⟨s1, h, k, _⟩ := execWrite_law _ _ _; exact ⟨s1, h, k⟩
  · obtain ⟨s1, h, k, _⟩ := execWriteSeg_law _ _ _; exact ⟨s1, h, k⟩
  · obtain ⟨s1, h, k, _⟩ := execReadSeg_law _ _ _; exact ⟨s1, h, k⟩
  · obtain ⟨s1, h, k, _⟩ := execResRead_law _ _ _; exact ⟨s1, h, k⟩
  · obtain ⟨s1, h, k, _⟩ := execCmdRead_law _ _ _; exact ⟨s1, h, k⟩
  · obtain ⟨s1, h, k, _⟩ := execAbort_law _ _ _; exact ⟨s1, h, k⟩
  · obtain ⟨s1, h, k, _⟩ := execAck_law _ _ _; exact ⟨s1, h, k⟩
  · obtain ⟨s1, h, k, _⟩ := execCommit_law _ _ _; exact ⟨s1, h, k⟩
  · obtain ⟨s1, h, k, _⟩ := execCommitStored_law _; exact ⟨s1, h, k⟩
  · obtain ⟨s1, h, k, _⟩ := execCommitApply_law _; exact ⟨s1, h, k⟩
  · obtain ⟨s1, h, k, _⟩ := execStageDiscard_law _ _ _; exact ⟨s1, h, k⟩
  · obtain ⟨s1, h, k, _⟩ := execConfigErase_law _ _ _; exact ⟨s1, h, k⟩
  · obtain ⟨s1, h, k, _⟩ := execConfigEraseStored_law _; exact ⟨s1, h, k⟩
  · obtain ⟨s1, h, k, _⟩ := execSessionStop_law _ _ _; exact ⟨s1, h, k⟩
  · obtain ⟨s1, h, k, _⟩ := execSlotSwitch_law _ _ _; exact ⟨s1, h, k⟩
  · obtain ⟨s1, h, k, _⟩ := execSlotSwitchQuietBoundary_law _; exact ⟨s1, h, k⟩
  · obtain ⟨s1, h, k, _⟩ := execSlotSwitchWaitExpired_law _; exact ⟨s1, h, k⟩
  · obtain ⟨s1, h, k, _⟩ := execBlackoutEnd_law _ _ _; exact ⟨s1, h, k⟩
  · obtain ⟨s1, h, k, _⟩ := execBist_law _ _ _; exact ⟨s1, h, k⟩
  · obtain ⟨s1, h, k, _⟩ := execBistDone_law _ _ _; exact ⟨s1, h, k⟩
  · obtain ⟨s1, h, k, _⟩ := execBistDeferredReset_law _; exact ⟨s1, h, k⟩
  · obtain ⟨s1, h, k, _⟩ := execBistWindDownEnd_law _ _; exact ⟨s1, h, k⟩
  · obtain ⟨s1, h, k, _⟩ := execCalCapture_law _ _ _; exact ⟨s1, h, k⟩
  · obtain ⟨s1, h, k, _⟩ := execCalCaptureDone_law _; exact ⟨s1, h, k⟩
  · obtain ⟨s1, h, k, _⟩ := execRehearsal_law _ _ _; exact ⟨s1, h, k⟩
  · obtain ⟨s1, h, k, _⟩ := execRehearsalSwap_law _; exact ⟨s1, h, k⟩
  · obtain ⟨s1, h, k, _⟩ := execRehearsalWaitExpired_law _; exact ⟨s1, h, k⟩
  · obtain ⟨s1, h, k, _⟩ := execRehearsalTakeTimeout_law _; exact ⟨s1, h, k⟩
  · obtain ⟨s1, h, k, _⟩ := execEngineRebind_law _ _ _; exact ⟨s1, h, k⟩
  · obtain ⟨s1, h, k, _⟩ := execRebindSwitch_law _ _; exact ⟨s1, h, k⟩
  · obtain ⟨s1, h, k, _⟩ := execRebindRecorded_law _ _; exact ⟨s1, h, k⟩
  · obtain ⟨s1, h, k, _⟩ := execKeyGenerate_law _ _ _ _ _; exact ⟨s1, h, k⟩
  · obtain ⟨s1, h, k, _⟩ := execKeyDerive_law _ _ _ _ _ _; exact ⟨s1, h, k⟩
  · obtain ⟨s1, h, k, _⟩ := execKeyImport_law _ _ _ _ _ _; exact ⟨s1, h, k⟩
  · obtain ⟨s1, h, k, _⟩ := execKeyDestroy_law _ _ _; exact ⟨s1, h, k⟩
  · obtain ⟨s1, h, k, _⟩ := execKeySlotErased_law _ _; exact ⟨s1, h, k⟩
  · obtain ⟨s1, h, k, _⟩ := execCsrSubjectWrite_law _ _ _; exact ⟨s1, h, k⟩
  · obtain ⟨s1, h, k, _⟩ := execRemaskPass_law _ _; exact ⟨s1, h, k⟩
  · obtain ⟨s1, h, k, _⟩ := execEntropyFail_law _; exact ⟨s1, h, k⟩
  · obtain ⟨s1, h, k, _⟩ := execEntropyRecover_law _; exact ⟨s1, h, k⟩
  · obtain ⟨s1, h, k, _⟩ := execKeyRequest_law _ _ _ _; exact ⟨s1, h, k⟩
  · obtain ⟨s1, h, k, _⟩ := execSvnAdvance_law _ _ _; exact ⟨s1, h, k⟩
  · obtain ⟨s1, h, k, _⟩ := execAccountTopup_law _ _ _; exact ⟨s1, h, k⟩
  · obtain ⟨s1, h, k, _⟩ := execCivilTimeSet_law _ _ _; exact ⟨s1, h, k⟩
  · obtain ⟨s1, h, k, _⟩ := execDropRest_law _ _ _; exact ⟨s1, h, k⟩
  · obtain ⟨s1, h, k, _⟩ := execFlush_law _ _ _; exact ⟨s1, h, k⟩
  · obtain ⟨s1, h, k, _⟩ := execFlushAtBoundary_law _; exact ⟨s1, h, k⟩
  · obtain ⟨s1, h, k, _⟩ := execModeWordWrite_law _ _ _; exact ⟨s1, h, k⟩
  · obtain ⟨s1, h, k, _⟩ := execVaultEntry_law _ _; exact ⟨s1, h, k⟩
  · obtain ⟨s1, h, k, _⟩ := execGroupPark_law _ _; exact ⟨s1, h, k⟩
  · obtain ⟨s1, h, k, _⟩ := execOutletContactorDelayEnd_law _ _; exact ⟨s1, h, k⟩
  · obtain ⟨s1, h, k, _⟩ := execClassArrive_law _ _; exact ⟨s1, h, k⟩
  · obtain ⟨s1, h, k, _⟩ := execForcedStop_law _; exact ⟨s1, h, k⟩
  · obtain ⟨s1, h, k, _⟩ := execEngineRestoreDone_law _ _; exact ⟨s1, h, k⟩
  · obtain ⟨s1, h, k, _⟩ := execLimpEnChange_law _ _; exact ⟨s1, h, k⟩
  · obtain ⟨s1, h, k, _⟩ := execPaceMeasure_law _ _; exact ⟨s1, h, k⟩
  · obtain ⟨s1, h, k, _⟩ := execEnsignLatClear_law _ _ _; exact ⟨s1, h, k⟩
  · obtain ⟨s1, h, k, _⟩ := execRefclkLost_law _; exact ⟨s1, h, k⟩
  · obtain ⟨s1, h, k, _⟩ := execPllUnlock_law _; exact ⟨s1, h, k⟩
  · obtain ⟨s1, h, k, _⟩ := execPllRelock_law _; exact ⟨s1, h, k⟩
  · obtain ⟨s1, h, k, _⟩ := execLaneClockLost_law _ _; exact ⟨s1, h, k⟩
  · obtain ⟨s1, h, k, _⟩ := execParityError_law _ _ _ _ _ _; exact ⟨s1, h, k⟩
  · obtain ⟨s1, h, k, _⟩ := execEnsignSingleBitError_law _ _ _ _ _; exact ⟨s1, h, k⟩
  · obtain ⟨s1, h, k, _⟩ := execEnsignUncorrectable_law _ _ _ _; exact ⟨s1, h, k⟩
  · obtain ⟨s1, h, k, _⟩ := execMissingEndMark_law _ _ _ _; exact ⟨s1, h, k⟩
  · obtain ⟨s1, h, k, _⟩ := execCellStallTimeout_law _ _ _ _; exact ⟨s1, h, k⟩
  · obtain ⟨s1, h, k, _⟩ := execBlockStallTimeout_law _ _ _; exact ⟨s1, h, k⟩
  · obtain ⟨s1, h, k, _⟩ := execRegionStallTimeout_law _ _; exact ⟨s1, h, k⟩
  · obtain ⟨s1, h, k, _⟩ := execChipStallTimeout_law _; exact ⟨s1, h, k⟩
  · obtain ⟨s1, h, k, _⟩ := execPeriodBoundary_law _ _; exact ⟨s1, h, k⟩
  · obtain ⟨s1, h, k, _⟩ := execVirtualBoundary_law _ _; exact ⟨s1, h, k⟩
  · obtain ⟨s1, h, k, _⟩ := execTimeActiveEnd_law _ _; exact ⟨s1, h, k⟩
  · obtain ⟨s1, h, k, _⟩ := execEndOff_law _ _ _; exact ⟨s1, h, k⟩
  · obtain ⟨s1, h, k, _⟩ := execEndOn_law _ _ _; exact ⟨s1, h, k⟩
  · obtain ⟨s1, h, k, _⟩ := execOnMaxHit_law _ _; exact ⟨s1, h, k⟩
  · obtain ⟨s1, h, k, _⟩ := execSwnRegistered_law _ _ _ _; exact ⟨s1, h, k⟩
  · obtain ⟨s1, h, k, _⟩ := execDtMaxExpiry_law _ _; exact ⟨s1, h, k⟩
  · obtain ⟨s1, h, k, _⟩ := execSyncSlot_law _ _; exact ⟨s1, h, k⟩
  · obtain ⟨s1, h, k, _⟩ := execSyncInPulse_law _ _ _ _; exact ⟨s1, h, k⟩
  · obtain ⟨s1, h, k, _⟩ := execSyncLost_law _ _; exact ⟨s1, h, k⟩
  · obtain ⟨s1, h, k, _⟩ := execOverrideWrite_law _ _ _ _ _; exact ⟨s1, h, k⟩
  · obtain ⟨s1, h, k, _⟩ := execArmHoldWrite_law _ _ _ _ _; exact ⟨s1, h, k⟩
  · obtain ⟨s1, h, k, _⟩ := execArmRelease_law _ _ _ _ _; exact ⟨s1, h, k⟩
  · obtain ⟨s1, h, k, _⟩ := execFltNAssert_law _ _ _ _; exact ⟨s1, h, k⟩
  · obtain ⟨s1, h, k, _⟩ := execFaultClear_law _ _ _ _; exact ⟨s1, h, k⟩
  · obtain ⟨s1, h, k, _⟩ := execCountClear_law _ _ _ _; exact ⟨s1, h, k⟩
  · obtain ⟨s1, h, k, _⟩ := execCmdSilenceTimeout_law _ _; exact ⟨s1, h, k⟩
  · obtain ⟨s1, h, k, _⟩ := execLoopSample_law _ _ _ _ _ _; exact ⟨s1, h, k⟩
  · obtain ⟨s1, h, k, _⟩ := execEdgeSample_law _ _ _ _; exact ⟨s1, h, k⟩
  · obtain ⟨s1, h, k, _⟩ := execSetpointDelivery_law _ _ _; exact ⟨s1, h, k⟩
  · obtain ⟨s1, h, k, _⟩ := execSetpFault_law _ _; exact ⟨s1, h, k⟩
  · obtain ⟨s1, h, k, _⟩ := execSetpFaultClear_law _ _; exact ⟨s1, h, k⟩
  · obtain ⟨s1, h, k, _⟩ := execNtcSample_law _ _ _; exact ⟨s1, h, k⟩
  · obtain ⟨s1, h, k, _⟩ := execSensorValidReturn_law _ _; exact ⟨s1, h, k⟩
  · obtain ⟨s1, h, k, _⟩ := execShedDecision_law _ _; exact ⟨s1, h, k⟩
  · obtain ⟨s1, h, k, _⟩ := execShedWindowClose_law _ _; exact ⟨s1, h, k⟩
  · obtain ⟨s1, h, k, _⟩ := execClaimUpdate_law _ _; exact ⟨s1, h, k⟩
  · obtain ⟨s1, h, k, _⟩ := execEpochMark_law _ _ _; exact ⟨s1, h, k⟩
  · obtain ⟨s1, h, k, _⟩ := execEpochBoundary_law _; exact ⟨s1, h, k⟩
  · obtain ⟨s1, h, k, _⟩ := execLocalEpochBoundary_law _; exact ⟨s1, h, k⟩
  · obtain ⟨s1, h, k, _⟩ := execClaimBlockInsert_law _; exact ⟨s1, h, k⟩
  · obtain ⟨s1, h, k, _⟩ := execWaveBlockReceive_law _ _ _; exact ⟨s1, h, k⟩
  · obtain ⟨s1, h, k, _⟩ := execCloseMark_law _ _ _ _ _; exact ⟨s1, h, k⟩
  · obtain ⟨s1, h, k, _⟩ := execWaveFreeze_law _; exact ⟨s1, h, k⟩
  · obtain ⟨s1, h, k, _⟩ := execAllocCalcDone_law _ _; exact ⟨s1, h, k⟩
  · obtain ⟨s1, h, k, _⟩ := execRingIsolated_law _; exact ⟨s1, h, k⟩
  · obtain ⟨s1, h, k, _⟩ := execMarkLaunch_law _ _; exact ⟨s1, h, k⟩
  · obtain ⟨s1, h, k, _⟩ := execHoistSuccession_law _; exact ⟨s1, h, k⟩
  · obtain ⟨s1, h, k, _⟩ := execSlotReceive_law _ _ _ _ _; exact ⟨s1, h, k⟩
  · obtain ⟨s1, h, k, _⟩ := execOwnEnsignRelease_law _ _; exact ⟨s1, h, k⟩
  · obtain ⟨s1, h, k, _⟩ := execPortStop_law _ _ _ _; exact ⟨s1, h, k⟩
  · obtain ⟨s1, h, k, _⟩ := execGroupLoss_law _ _ _ _; exact ⟨s1, h, k⟩
  · obtain ⟨s1, h, k, _⟩ := execGroupLossSend_law _ _ _; exact ⟨s1, h, k⟩
  · obtain ⟨s1, h, k, _⟩ := execDictRequestFrame_law _ _; exact ⟨s1, h, k⟩
  · obtain ⟨s1, h, k, _⟩ := execDictResponseFrame_law _ _; exact ⟨s1, h, k⟩
  · obtain ⟨s1, h, k, _⟩ := execPennantRecordsFrame_law _ _; exact ⟨s1, h, k⟩
  · obtain ⟨s1, h, k, _⟩ := execStreamerRecordsFrame_law _ _; exact ⟨s1, h, k⟩
  · obtain ⟨s1, h, k, _⟩ := execFirmwareDataFrame_law _ _; exact ⟨s1, h, k⟩
  · obtain ⟨s1, h, k, _⟩ := execJoin_law _ _; exact ⟨s1, h, k⟩
  · obtain ⟨s1, h, k, _⟩ := execJoinSend_law _; exact ⟨s1, h, k⟩
  · obtain ⟨s1, h, k, _⟩ := execJoinRetry_law _; exact ⟨s1, h, k⟩
  · obtain ⟨s1, h, k, _⟩ := execLeave_law _ _; exact ⟨s1, h, k⟩
  · obtain ⟨s1, h, k, _⟩ := execLeaveSend_law _; exact ⟨s1, h, k⟩
  · obtain ⟨s1, h, k, _⟩ := execRoster_law _ _; exact ⟨s1, h, k⟩
  · obtain ⟨s1, h, k, _⟩ := execNeighbourChange_law _ _; exact ⟨s1, h, k⟩
  · obtain ⟨s1, h, k, _⟩ := execEvict_law _ _; exact ⟨s1, h, k⟩
  · obtain ⟨s1, h, k, _⟩ := execRosterEvict_law _ _ _; exact ⟨s1, h, k⟩
  · obtain ⟨s1, h, k, _⟩ := execWrap_law _ _; exact ⟨s1, h, k⟩
  · obtain ⟨s1, h, k, _⟩ := execUnwrap_law _ _; exact ⟨s1, h, k⟩
  · obtain ⟨s1, h, k, _⟩ := execBypForceRelease_law _ _; exact ⟨s1, h, k⟩
  · obtain ⟨s1, h, k, _⟩ := execBypForceHold_law _ _; exact ⟨s1, h, k⟩
  · obtain ⟨s1, h, k, _⟩ := execBypHoldDrive_law _; exact ⟨s1, h, k⟩
  · obtain ⟨s1, h, k, _⟩ := execPairLaneUp_law _ _; exact ⟨s1, h, k⟩
  · obtain ⟨s1, h, k, _⟩ := execPairLaneDown_law _ _; exact ⟨s1, h, k⟩
  · obtain ⟨s1, h, k, _⟩ := execPilotStateChange_law _ _ _; exact ⟨s1, h, k⟩
  · obtain ⟨s1, h, k, _⟩ := execPpChange_law _ _ _; exact ⟨s1, h, k⟩
  · obtain ⟨s1, h, k, _⟩ := execSlacMatch_law _ _ _; exact ⟨s1, h, k⟩
  · obtain ⟨s1, h, k, _⟩ := execSlacFail_law _ _; exact ⟨s1, h, k⟩
  · obtain ⟨s1, h, k, _⟩ := execSdpRequest_law _ _; exact ⟨s1, h, k⟩
  · obtain ⟨s1, h, k, _⟩ := execTlsHandshake_law _ _ _; exact ⟨s1, h, k⟩
  · obtain ⟨s1, h, k, _⟩ := execAppProtocolHandshake_law _ _ _; exact ⟨s1, h, k⟩
  · obtain ⟨s1, h, k, _⟩ := execSessionSetup_law _ _ _; exact ⟨s1, h, k⟩
  · obtain ⟨s1, h, k, _⟩ := execServiceDiscovery_law _ _; exact ⟨s1, h, k⟩
  · obtain ⟨s1, h, k, _⟩ := execServiceSelection_law _ _ _; exact ⟨s1, h, k⟩
  · obtain ⟨s1, h, k, _⟩ := execAuthorization_law _ _ _ _; exact ⟨s1, h, k⟩
  · obtain ⟨s1, h, k, _⟩ := execAuthWrite_law _ _ _ _; exact ⟨s1, h, k⟩
  · obtain ⟨s1, h, k, _⟩ := execAuthTimeout_law _ _; exact ⟨s1, h, k⟩
  · obtain ⟨s1, h, k, _⟩ := execChargeParameterDiscovery_law _ _ _; exact ⟨s1, h, k⟩
  · obtain ⟨s1, h, k, _⟩ := execScheduleExchange_law _ _; exact ⟨s1, h, k⟩
  · obtain ⟨s1, h, k, _⟩ := execCableCheckRequest_law _ _; exact ⟨s1, h, k⟩
  · obtain ⟨s1, h, k, _⟩ := execCableCheckJudged_law _ _ _ _; exact ⟨s1, h, k⟩
  · obtain ⟨s1, h, k, _⟩ := execChkTimeout_law _ _; exact ⟨s1, h, k⟩
  · obtain ⟨s1, h, k, _⟩ := execPreCharge_law _ _ _; exact ⟨s1, h, k⟩
  · obtain ⟨s1, h, k, _⟩ := execPchTimeout_law _ _; exact ⟨s1, h, k⟩
  · obtain ⟨s1, h, k, _⟩ := execPowerDelivery_law _ _ _; exact ⟨s1, h, k⟩
  · obtain ⟨s1, h, k, _⟩ := execChargeLoopRequest_law _ _ _ _ _ _ _ _; exact ⟨s1, h, k⟩
  · obtain ⟨s1, h, k, _⟩ := execWeldingDetection_law _ _; exact ⟨s1, h, k⟩
  · obtain ⟨s1, h, k, _⟩ := execSessionStopReq_law _ _; exact ⟨s1, h, k⟩
  · obtain ⟨s1, h, k, _⟩ := execMeteringReceipt_law _ _ _; exact ⟨s1, h, k⟩
  · obtain ⟨s1, h, k, _⟩ := execCertificateRequest_law _ _ _; exact ⟨s1, h, k⟩
  · obtain ⟨s1, h, k, _⟩ := execCertResWrite_law _ _ _ _; exact ⟨s1, h, k⟩
  · obtain ⟨s1, h, k, _⟩ := execCertResTimeout_law _ _; exact ⟨s1, h, k⟩
  · obtain ⟨s1, h, k, _⟩ := execUnknownMessage_law _ _; exact ⟨s1, h, k⟩
  · obtain ⟨s1, h, k, _⟩ := execFeedingGroupsParked_law _ _; exact ⟨s1, h, k⟩
  · obtain ⟨s1, h, k, _⟩ := execEstopOpenExpiry_law _ _; exact ⟨s1, h, k⟩
  · obtain ⟨s1, h, k, _⟩ := execContactorFeedback_law _ _ _ _; exact ⟨s1, h, k⟩
  · obtain ⟨s1, h, k, _⟩ := execCtrTimeout_law _ _ _; exact ⟨s1, h, k⟩
  · obtain ⟨s1, h, k, _⟩ := execImdFault_law _ _; exact ⟨s1, h, k⟩
  · obtain ⟨s1, h, k, _⟩ := execOutletFaultClear_law _ _ _ _; exact ⟨s1, h, k⟩
  · obtain ⟨s1, h, k, _⟩ := execCoolingStep_law _ _ _ _ _ _; exact ⟨s1, h, k⟩
  · obtain ⟨s1, h, k, _⟩ := execFlowLost_law _ _; exact ⟨s1, h, k⟩
  · obtain ⟨s1, h, k, _⟩ := execInputValidReturn_law _ _ _; exact ⟨s1, h, k⟩
  · obtain ⟨s1, h, k, _⟩ := execCoolLoopSilent_law _ _; exact ⟨s1, h, k⟩
  · obtain ⟨s1, h, k, _⟩ := execLsOnWrite_law _ _ _ _; exact ⟨s1, h, k⟩
  · obtain ⟨s1, h, k, _⟩ := execLsClear_law _ _ _ _; exact ⟨s1, h, k⟩
  · obtain ⟨s1, h, k, _⟩ := execShortTrip_law _ _; exact ⟨s1, h, k⟩
  · obtain ⟨s1, h, k, _⟩ := execOverloadTrip_law _ _; exact ⟨s1, h, k⟩
  · obtain ⟨s1, h, k, _⟩ := execThermalTrip_law _ _; exact ⟨s1, h, k⟩
  · obtain ⟨s1, h, k, _⟩ := execInrushWindowEnd_law _ _ _; exact ⟨s1, h, k⟩
  · obtain ⟨s1, h, k, _⟩ := execLsRetry_law _ _; exact ⟨s1, h, k⟩
  · obtain ⟨s1, h, k, _⟩ := execCurtailEnd_law _ _; exact ⟨s1, h, k⟩
  · obtain ⟨s1, h, k, _⟩ := execRetriesReload_law _ _; exact ⟨s1, h, k⟩
  · obtain ⟨s1, h, k, _⟩ := execVsLsOutOfRange_law _ _; exact ⟨s1, h, k⟩
  · obtain ⟨s1, h, k, _⟩ := execVsLsRestored_law _; exact ⟨s1, h, k⟩
  · obtain ⟨s1, h, k, _⟩ := execPkgCurrentCheck_law _ _ _; exact ⟨s1, h, k⟩
  · obtain ⟨s1, h, k, _⟩ := execOpenLoad_law _ _ _; exact ⟨s1, h, k⟩
  · obtain ⟨s1, h, k, _⟩ := execChannelThermalWarning_law _ _ _ _; exact ⟨s1, h, k⟩
  · obtain ⟨s1, h, k, _⟩ := execFailsafeTrigger_law _ _; exact ⟨s1, h, k⟩
  · obtain ⟨s1, h, k, _⟩ := execFsWaitEnd_law _ _; exact ⟨s1, h, k⟩
  · obtain ⟨s1, h, k, _⟩ := execHeartbeatWord_law _ _ _ _ _; exact ⟨s1, h, k⟩
  · obtain ⟨s1, h, k, _⟩ := execHbMaxExpiry_law _; exact ⟨s1, h, k⟩
  · obtain ⟨s1, h, k, _⟩ := execWdRelease_law _ _ _; exact ⟨s1, h, k⟩
  · obtain ⟨s1, h, k, _⟩ := execLimpInChange_law _ _ _ _; exact ⟨s1, h, k⟩
  · obtain ⟨s1, h, k, _⟩ := execMetrologySample_law _ _ _ _; exact ⟨s1, h, k⟩
  · obtain ⟨s1, h, k, _⟩ := execMetrologyPublish_law _; exact ⟨s1, h, k⟩
  · obtain ⟨s1, h, k, _⟩ := execMscrClockLost_law _ _; exact ⟨s1, h, k⟩
  · obtain ⟨s1, h, k, _⟩ := execMscrClockReturn_law _ _; exact ⟨s1, h, k⟩
  · obtain ⟨s1, h, k, _⟩ := execStreamStuck_law _ _ _; exact ⟨s1, h, k⟩
  · obtain ⟨s1, h, k, _⟩ := execDemandBudgetDelivery_law _ _; exact ⟨s1, h, k⟩
  · obtain ⟨s1, h, k, _⟩ := execSealLoopSample_law _ _; exact ⟨s1, h, k⟩
  · obtain ⟨s1, h, k, _⟩ := execLegalRecordWritten_law _; exact ⟨s1, h, k⟩
  · obtain ⟨s1, h, k, _⟩ := execMeterEngineFenced_law _ _; exact ⟨s1, h, k⟩
  · obtain ⟨s1, h, k, _⟩ := execBillingBoundary_law _ _; exact ⟨s1, h, k⟩
  · obtain ⟨s1, h, k, _⟩ := execRegisterCommit_law _; exact ⟨s1, h, k⟩
  · obtain ⟨s1, h, k, _⟩ := execFriendlyHoursChange_law _; exact ⟨s1, h, k⟩
  · obtain ⟨s1, h, k, _⟩ := execAcctIdWrite_law _ _ _; exact ⟨s1, h, k⟩
  · obtain ⟨s1, h, k, _⟩ := execDmdReset_law _ _ _; exact ⟨s1, h, k⟩
  · obtain ⟨s1, h, k, _⟩ := execLogAckSeqWrite_law _ _ _; exact ⟨s1, h, k⟩
  · obtain ⟨s1, h, k, _⟩ := execPennantRaise_law _ _ _ _ _ _ _; exact ⟨s1, h, k⟩
  · obtain ⟨s1, h, k, _⟩ := execTraceRaise_law _ _ _ _ _; exact ⟨s1, h, k⟩
  · obtain ⟨s1, h, k, _⟩ := execEqWordRead_law _ _; exact ⟨s1, h, k⟩
  · obtain ⟨s1, h, k, _⟩ := execEqPacketRead_law _ _; exact ⟨s1, h, k⟩
  · obtain ⟨s1, h, k, _⟩ := execEqClear_law _ _ _; exact ⟨s1, h, k⟩
  · obtain ⟨s1, h, k, _⟩ := execQueuePacketWhole_law _; exact ⟨s1, h, k⟩
  · obtain ⟨s1, h, k, _⟩ := execCoalWindowEnd_law _ _ _; exact ⟨s1, h, k⟩
  · obtain ⟨s1, h, k, _⟩ := execGapDue_law _; exact ⟨s1, h, k⟩
  · obtain ⟨s1, h, k, _⟩ := execRingTokenGain_law _; exact ⟨s1, h, k⟩
  · obtain ⟨s1, h, k, _⟩ := execRingOutboxSend_law _ _; exact ⟨s1, h, k⟩
  · obtain ⟨s1, h, k, _⟩ := execTraceOutboxSend_law _; exact ⟨s1, h, k⟩
  · obtain ⟨s1, h, k, _⟩ := execRenewSend_law _; exact ⟨s1, h, k⟩
  · obtain ⟨s1, h, k, _⟩ := execStandbySend_law _; exact ⟨s1, h, k⟩
  · obtain ⟨s1, h, k, _⟩ := execLeaseLapse_law _; exact ⟨s1, h, k⟩
  · obtain ⟨s1, h, k, _⟩ := execRenew_law _ _ _; exact ⟨s1, h, k⟩
  · obtain ⟨s1, h, k, _⟩ := execRelease_law _ _; exact ⟨s1, h, k⟩
  · obtain ⟨s1, h, k, _⟩ := execClaim_law _ _; exact ⟨s1, h, k⟩
  · obtain ⟨s1, h, k, _⟩ := execStandby_law _ _; exact ⟨s1, h, k⟩
  · obtain ⟨s1, h, k, _⟩ := execTakeover_law _ _; exact ⟨s1, h, k⟩
  · obtain ⟨s1, h, k, _⟩ := execClaimSend_law _; exact ⟨s1, h, k⟩
  · obtain ⟨s1, h, k, _⟩ := execDriverConflict_law _; exact ⟨s1, h, k⟩
  · obtain ⟨s1, h, k, _⟩ := execSplitDetect_law _; exact ⟨s1, h, k⟩
  · obtain ⟨s1, h, k, _⟩ := execMirrorItem_law _ _; exact ⟨s1, h, k⟩
  · obtain ⟨s1, h, k, _⟩ := execVonMasterSlot_law _; exact ⟨s1, h, k⟩
  · obtain ⟨s1, h, k, _⟩ := execVonReplyJudged_law _ _ _; exact ⟨s1, h, k⟩
  · obtain ⟨s1, h, k, _⟩ := execVonTxBoxWrite_law _ _ _; exact ⟨s1, h, k⟩
  · obtain ⟨s1, h, k, _⟩ := execUpdOpen_law _ _; exact ⟨s1, h, k⟩
  · obtain ⟨s1, h, k, _⟩ := execUpdChunkWrite_law _ _ _; exact ⟨s1, h, k⟩
  · obtain ⟨s1, h, k, _⟩ := execUpdClose_law _ _; exact ⟨s1, h, k⟩
  · obtain ⟨s1, h, k, _⟩ := execUpdVerifyDone_law _; exact ⟨s1, h, k⟩
  · obtain ⟨s1, h, k, _⟩ := execUpdCancel_law _ _; exact ⟨s1, h, k⟩
  · obtain ⟨s1, h, k, _⟩ := execReboot_law _ _; exact ⟨s1, h, k⟩
  · obtain ⟨s1, h, k, _⟩ := execSlotConfirm_law _ _ _; exact ⟨s1, h, k⟩
  · obtain ⟨s1, h, k, _⟩ := execServiceRequestFrame_law _ _; exact ⟨s1, h, k⟩
  · obtain ⟨s1, h, k, _⟩ := execServiceResponseFrame_law _ _; exact ⟨s1, h, k⟩
  · obtain ⟨s1, h, k, _⟩ := execServiceFrameFault_law _ _; exact ⟨s1, h, k⟩
  · obtain ⟨s1, h, k, _⟩ := execExtest_law _; exact ⟨s1, h, k⟩
  · obtain ⟨s1, h, k, _⟩ := execSamplePreload_law _ _ _; exact ⟨s1, h, k⟩
  · obtain ⟨s1, h, k, _⟩ := execIdcode_law _; exact ⟨s1, h, k⟩
  · obtain ⟨s1, h, k, _⟩ := execClamp_law _; exact ⟨s1, h, k⟩
  · obtain ⟨s1, h, k, _⟩ := execHighz_law _; exact ⟨s1, h, k⟩
  · obtain ⟨s1, h, k, _⟩ := execBypass_law _ _; exact ⟨s1, h, k⟩
  · obtain ⟨s1, h, k, _⟩ := execTapLeaveReset_law _; exact ⟨s1, h, k⟩
  · obtain ⟨s1, h, k, _⟩ := execTrstNAssert_law _ _; exact ⟨s1, h, k⟩
  · obtain ⟨s1, h, k, _⟩ := execPowerOnResetRelease_law _; exact ⟨s1, h, k⟩
  · obtain ⟨s1, h, k, _⟩ := execBoot_law _ _; exact ⟨s1, h, k⟩
  · obtain ⟨s1, h, k, _⟩ := execResetN_law _ _; exact ⟨s1, h, k⟩
  · obtain ⟨s1, h, k, _⟩ := execResetRequest_law _ _ _; exact ⟨s1, h, k⟩
  · obtain ⟨s1, h, k, _⟩ := execLockstep_law _; exact ⟨s1, h, k⟩
  · obtain ⟨s1, h, k, _⟩ := execWatchdog_law _; exact ⟨s1, h, k⟩
  · obtain ⟨s1, h, k, _⟩ := execTestmodeHigh_law _ _; exact ⟨s1, h, k⟩
  · obtain ⟨s1, h, k, _⟩ := execPfw_law _ _; exact ⟨s1, h, k⟩
  · obtain ⟨s1, h, k, _⟩ := execPfwRelease_law _; exact ⟨s1, h, k⟩
  · obtain ⟨s1, h, k, _⟩ := execMainsLost_law _ _ _; exact ⟨s1, h, k⟩
  · obtain ⟨s1, h, k, _⟩ := execMainsReturned_law _; exact ⟨s1, h, k⟩
  · obtain ⟨s1, h, k, _⟩ := execVbatLow_law _; exact ⟨s1, h, k⟩
  · obtain ⟨s1, h, k, _⟩ := execVaultBrownOut_law _; exact ⟨s1, h, k⟩
  · obtain ⟨s1, h, k, _⟩ := execTamperLoopSample_law _ _ _; exact ⟨s1, h, k⟩
  · obtain ⟨s1, h, k, _⟩ := execVevAckWrite_law _ _ _; exact ⟨s1, h, k⟩
  · obtain ⟨s1, h, k, _⟩ := execWake_law _ _; exact ⟨s1, h, k⟩
  · obtain ⟨s1, h, k, _⟩ := execRtcStop_law _; exact ⟨s1, h, k⟩
  · obtain ⟨s1, h, k, _⟩ := execRtcRestart_law _; exact ⟨s1, h, k⟩
  · obtain ⟨s1, h, k, _⟩ := execMtxFbChange_law _ _ _; exact ⟨s1, h, k⟩
  · obtain ⟨s1, h, k, _⟩ := execRouteFbTimeout_law _ _; exact ⟨s1, h, k⟩
  · obtain ⟨s1, h, k, _⟩ := execDtMinExpiry_law _ _; exact ⟨s1, h, k⟩
  · obtain ⟨s1, h, k, _⟩ := execPeriodMinExpiry_law _ _; exact ⟨s1, h, k⟩
  · obtain ⟨s1, h, k, _⟩ := execAcceptanceMinimumEnd_law _ _; exact ⟨s1, h, k⟩
  · obtain ⟨s1, h, k, _⟩ := execOePeerChange_law _ _; exact ⟨s1, h, k⟩
  · obtain ⟨s1, h, k, _⟩ := execImdPwmEdgeLost_law _ _; exact ⟨s1, h, k⟩
  · obtain ⟨s1, h, k, _⟩ := execPartnerLeaseExpired_law _; exact ⟨s1, h, k⟩

end Sys2Proof.Machine
end

