-- ==== Sys2Proof/Laws/State.lean ====
section
/-! SUPPORT. Laws of State: what each write of a dictionary element leaves alone, and what an element then reads as. -/

namespace Sys2Proof.Machine

/-! ## Reading after writing -/

@[simp] theorem State.get_put (s : State) (k j : Nat) (v : Val) : (s.put k v).get j = if j = k then v else s.get j := by
  unfold State.get State.put
  split
  · rename_i h; subst h; exact objGet_put_same _ _ _
  · rename_i h; exact objGet_put_other _ _ h

@[simp] theorem State.get_putI (s : State) (k j : Nat) (i : Int) : (s.putI k i).get j = if j = k then .num i else s.get j :=
  State.get_put s k j _
@[simp] theorem State.get_putN (s : State) (k j n : Nat) : (s.putN k n).get j = if j = k then .num n else s.get j :=
  State.get_put s k j _
@[simp] theorem State.get_putB (s : State) (k j : Nat) (bs : List Byte) :
    (s.putB k bs).get j = if j = k then .bytes bs else s.get j := State.get_put s k j _

@[simp] theorem State.nat_put (s : State) (k j : Nat) (v : Val) :
    (s.put k v).nat j = if j = k then v.int.toNat else s.nat j := by
  unfold State.nat State.int; rw [State.get_put]; split <;> rfl
@[simp] theorem State.nat_putN (s : State) (k j n : Nat) : (s.putN k n).nat j = if j = k then n else s.nat j := by
  unfold State.putN; rw [State.nat_put]; split <;> simp [Val.int]
@[simp] theorem State.nat_putI (s : State) (k j : Nat) (i : Int) : (s.putI k i).nat j = if j = k then i.toNat else s.nat j := by
  unfold State.putI; rw [State.nat_put]; rfl
@[simp] theorem State.nat_putB (s : State) (k j : Nat) (bs : List Byte) : (s.putB k bs).nat j = if j = k then 0 else s.nat j := by
  unfold State.putB; rw [State.nat_put]; rfl

@[simp] theorem State.int_put (s : State) (k j : Nat) (v : Val) : (s.put k v).int j = if j = k then v.int else s.int j := by
  unfold State.int; rw [State.get_put]; split <;> rfl
@[simp] theorem State.int_putN (s : State) (k j n : Nat) : (s.putN k n).int j = if j = k then (n : Int) else s.int j :=
  State.int_put s k j _
@[simp] theorem State.int_putI (s : State) (k j : Nat) (i : Int) : (s.putI k i).int j = if j = k then i else s.int j :=
  State.int_put s k j _

@[simp] theorem State.blob_put (s : State) (k j : Nat) (v : Val) : (s.put k v).blob j = if j = k then v.blob else s.blob j := by
  unfold State.blob; rw [State.get_put]; split <;> rfl
@[simp] theorem State.blob_putB (s : State) (k j : Nat) (bs : List Byte) :
    (s.putB k bs).blob j = if j = k then bs else s.blob j := State.blob_put s k j _

/-- A counter counts modulo 2^32, and no other element moves. -/
@[simp] theorem State.nat_addC (s : State) (k j n : Nat) :
    (s.addC k n).nat j = if j = k then (s.nat k + n) % 4294967296 else s.nat j := State.nat_putN s k j _
@[simp] theorem State.nat_count (s : State) (k j : Nat) :
    (s.count k).nat j = if j = k then (s.nat k + 1) % 4294967296 else s.nat j := State.nat_putN s k j _
@[simp] theorem State.nat_putBit (s : State) (k j i : Nat) (b : Bool) :
    (s.putBit k i b).nat j = if j = k then setBit (s.nat k) i b else s.nat j := State.nat_putN s k j _
@[simp] theorem State.get_addC (s : State) (k j n : Nat) :
    (s.addC k n).get j = if j = k then .num ((s.nat k + n) % 4294967296 : Nat) else s.get j := State.get_put s k j _
@[simp] theorem State.get_count (s : State) (k j : Nat) :
    (s.count k).get j = if j = k then .num ((s.nat k + 1) % 4294967296 : Nat) else s.get j := State.get_put s k j _

/-- What is sent is appended to what was sent. -/
@[simp] theorem State.send_sent (s : State) (e : Emit) : (s.send e).sent = s.sent ++ [e] := rfl
@[simp] theorem State.send_objs (s : State) (e : Emit) : (s.send e).objs = s.objs := rfl

/-! ## One lemma per field and operation -/

@[simp] theorem State.put_now (s : State) (k : Nat) (v : Val) : (s.put k v).now = s.now := rfl
@[simp] theorem State.putI_now (s : State) (k : Nat) (i : Int) : (s.putI k i).now = s.now := rfl
@[simp] theorem State.putN_now (s : State) (k n : Nat) : (s.putN k n).now = s.now := rfl
@[simp] theorem State.putB_now (s : State) (k : Nat) (bs : List Byte) : (s.putB k bs).now = s.now := rfl
@[simp] theorem State.addC_now (s : State) (k n : Nat) : (s.addC k n).now = s.now := rfl
@[simp] theorem State.count_now (s : State) (k : Nat) : (s.count k).now = s.now := rfl
@[simp] theorem State.putBit_now (s : State) (k i : Nat) (b : Bool) : (s.putBit k i b).now = s.now := rfl
@[simp] theorem State.put_dict (s : State) (k : Nat) (v : Val) : (s.put k v).dict = s.dict := rfl
@[simp] theorem State.putI_dict (s : State) (k : Nat) (i : Int) : (s.putI k i).dict = s.dict := rfl
@[simp] theorem State.putN_dict (s : State) (k n : Nat) : (s.putN k n).dict = s.dict := rfl
@[simp] theorem State.putB_dict (s : State) (k : Nat) (bs : List Byte) : (s.putB k bs).dict = s.dict := rfl
@[simp] theorem State.addC_dict (s : State) (k n : Nat) : (s.addC k n).dict = s.dict := rfl
@[simp] theorem State.count_dict (s : State) (k : Nat) : (s.count k).dict = s.dict := rfl
@[simp] theorem State.putBit_dict (s : State) (k i : Nat) (b : Bool) : (s.putBit k i b).dict = s.dict := rfl
@[simp] theorem State.put_modes (s : State) (k : Nat) (v : Val) : (s.put k v).modes = s.modes := rfl
@[simp] theorem State.putI_modes (s : State) (k : Nat) (i : Int) : (s.putI k i).modes = s.modes := rfl
@[simp] theorem State.putN_modes (s : State) (k n : Nat) : (s.putN k n).modes = s.modes := rfl
@[simp] theorem State.putB_modes (s : State) (k : Nat) (bs : List Byte) : (s.putB k bs).modes = s.modes := rfl
@[simp] theorem State.addC_modes (s : State) (k n : Nat) : (s.addC k n).modes = s.modes := rfl
@[simp] theorem State.count_modes (s : State) (k : Nat) : (s.count k).modes = s.modes := rfl
@[simp] theorem State.putBit_modes (s : State) (k i : Nat) (b : Bool) : (s.putBit k i b).modes = s.modes := rfl
@[simp] theorem State.put_fab (s : State) (k : Nat) (v : Val) : (s.put k v).fab = s.fab := rfl
@[simp] theorem State.putI_fab (s : State) (k : Nat) (i : Int) : (s.putI k i).fab = s.fab := rfl
@[simp] theorem State.putN_fab (s : State) (k n : Nat) : (s.putN k n).fab = s.fab := rfl
@[simp] theorem State.putB_fab (s : State) (k : Nat) (bs : List Byte) : (s.putB k bs).fab = s.fab := rfl
@[simp] theorem State.addC_fab (s : State) (k n : Nat) : (s.addC k n).fab = s.fab := rfl
@[simp] theorem State.count_fab (s : State) (k : Nat) : (s.count k).fab = s.fab := rfl
@[simp] theorem State.putBit_fab (s : State) (k i : Nat) (b : Bool) : (s.putBit k i b).fab = s.fab := rfl
@[simp] theorem State.put_ev (s : State) (k : Nat) (v : Val) : (s.put k v).ev = s.ev := rfl
@[simp] theorem State.putI_ev (s : State) (k : Nat) (i : Int) : (s.putI k i).ev = s.ev := rfl
@[simp] theorem State.putN_ev (s : State) (k n : Nat) : (s.putN k n).ev = s.ev := rfl
@[simp] theorem State.putB_ev (s : State) (k : Nat) (bs : List Byte) : (s.putB k bs).ev = s.ev := rfl
@[simp] theorem State.addC_ev (s : State) (k n : Nat) : (s.addC k n).ev = s.ev := rfl
@[simp] theorem State.count_ev (s : State) (k : Nat) : (s.count k).ev = s.ev := rfl
@[simp] theorem State.putBit_ev (s : State) (k i : Nat) (b : Bool) : (s.putBit k i b).ev = s.ev := rfl
@[simp] theorem State.put_pwmNow (s : State) (k : Nat) (v : Val) : (s.put k v).pwmNow = s.pwmNow := rfl
@[simp] theorem State.putI_pwmNow (s : State) (k : Nat) (i : Int) : (s.putI k i).pwmNow = s.pwmNow := rfl
@[simp] theorem State.putN_pwmNow (s : State) (k n : Nat) : (s.putN k n).pwmNow = s.pwmNow := rfl
@[simp] theorem State.putB_pwmNow (s : State) (k : Nat) (bs : List Byte) : (s.putB k bs).pwmNow = s.pwmNow := rfl
@[simp] theorem State.addC_pwmNow (s : State) (k n : Nat) : (s.addC k n).pwmNow = s.pwmNow := rfl
@[simp] theorem State.count_pwmNow (s : State) (k : Nat) : (s.count k).pwmNow = s.pwmNow := rfl
@[simp] theorem State.putBit_pwmNow (s : State) (k i : Nat) (b : Bool) : (s.putBit k i b).pwmNow = s.pwmNow := rfl
@[simp] theorem State.put_legs (s : State) (k : Nat) (v : Val) : (s.put k v).legs = s.legs := rfl
@[simp] theorem State.putI_legs (s : State) (k : Nat) (i : Int) : (s.putI k i).legs = s.legs := rfl
@[simp] theorem State.putN_legs (s : State) (k n : Nat) : (s.putN k n).legs = s.legs := rfl
@[simp] theorem State.putB_legs (s : State) (k : Nat) (bs : List Byte) : (s.putB k bs).legs = s.legs := rfl
@[simp] theorem State.addC_legs (s : State) (k n : Nat) : (s.addC k n).legs = s.legs := rfl
@[simp] theorem State.count_legs (s : State) (k : Nat) : (s.count k).legs = s.legs := rfl
@[simp] theorem State.putBit_legs (s : State) (k i : Nat) (b : Bool) : (s.putBit k i b).legs = s.legs := rfl
@[simp] theorem State.put_engines (s : State) (k : Nat) (v : Val) : (s.put k v).engines = s.engines := rfl
@[simp] theorem State.putI_engines (s : State) (k : Nat) (i : Int) : (s.putI k i).engines = s.engines := rfl
@[simp] theorem State.putN_engines (s : State) (k n : Nat) : (s.putN k n).engines = s.engines := rfl
@[simp] theorem State.putB_engines (s : State) (k : Nat) (bs : List Byte) : (s.putB k bs).engines = s.engines := rfl
@[simp] theorem State.addC_engines (s : State) (k n : Nat) : (s.addC k n).engines = s.engines := rfl
@[simp] theorem State.count_engines (s : State) (k : Nat) : (s.count k).engines = s.engines := rfl
@[simp] theorem State.putBit_engines (s : State) (k i : Nat) (b : Bool) : (s.putBit k i b).engines = s.engines := rfl
@[simp] theorem State.put_groups (s : State) (k : Nat) (v : Val) : (s.put k v).groups = s.groups := rfl
@[simp] theorem State.putI_groups (s : State) (k : Nat) (i : Int) : (s.putI k i).groups = s.groups := rfl
@[simp] theorem State.putN_groups (s : State) (k n : Nat) : (s.putN k n).groups = s.groups := rfl
@[simp] theorem State.putB_groups (s : State) (k : Nat) (bs : List Byte) : (s.putB k bs).groups = s.groups := rfl
@[simp] theorem State.addC_groups (s : State) (k n : Nat) : (s.addC k n).groups = s.groups := rfl
@[simp] theorem State.count_groups (s : State) (k : Nat) : (s.count k).groups = s.groups := rfl
@[simp] theorem State.putBit_groups (s : State) (k i : Nat) (b : Bool) : (s.putBit k i b).groups = s.groups := rfl
@[simp] theorem State.put_matrixFb (s : State) (k : Nat) (v : Val) : (s.put k v).matrixFb = s.matrixFb := rfl
@[simp] theorem State.putI_matrixFb (s : State) (k : Nat) (i : Int) : (s.putI k i).matrixFb = s.matrixFb := rfl
@[simp] theorem State.putN_matrixFb (s : State) (k n : Nat) : (s.putN k n).matrixFb = s.matrixFb := rfl
@[simp] theorem State.putB_matrixFb (s : State) (k : Nat) (bs : List Byte) : (s.putB k bs).matrixFb = s.matrixFb := rfl
@[simp] theorem State.addC_matrixFb (s : State) (k n : Nat) : (s.addC k n).matrixFb = s.matrixFb := rfl
@[simp] theorem State.count_matrixFb (s : State) (k : Nat) : (s.count k).matrixFb = s.matrixFb := rfl
@[simp] theorem State.putBit_matrixFb (s : State) (k i : Nat) (b : Bool) : (s.putBit k i b).matrixFb = s.matrixFb := rfl
@[simp] theorem State.put_rebinds (s : State) (k : Nat) (v : Val) : (s.put k v).rebinds = s.rebinds := rfl
@[simp] theorem State.putI_rebinds (s : State) (k : Nat) (i : Int) : (s.putI k i).rebinds = s.rebinds := rfl
@[simp] theorem State.putN_rebinds (s : State) (k n : Nat) : (s.putN k n).rebinds = s.rebinds := rfl
@[simp] theorem State.putB_rebinds (s : State) (k : Nat) (bs : List Byte) : (s.putB k bs).rebinds = s.rebinds := rfl
@[simp] theorem State.addC_rebinds (s : State) (k n : Nat) : (s.addC k n).rebinds = s.rebinds := rfl
@[simp] theorem State.count_rebinds (s : State) (k : Nat) : (s.count k).rebinds = s.rebinds := rfl
@[simp] theorem State.putBit_rebinds (s : State) (k i : Nat) (b : Bool) : (s.putBit k i b).rebinds = s.rebinds := rfl
@[simp] theorem State.put_bindHeld (s : State) (k : Nat) (v : Val) : (s.put k v).bindHeld = s.bindHeld := rfl
@[simp] theorem State.putI_bindHeld (s : State) (k : Nat) (i : Int) : (s.putI k i).bindHeld = s.bindHeld := rfl
@[simp] theorem State.putN_bindHeld (s : State) (k n : Nat) : (s.putN k n).bindHeld = s.bindHeld := rfl
@[simp] theorem State.putB_bindHeld (s : State) (k : Nat) (bs : List Byte) : (s.putB k bs).bindHeld = s.bindHeld := rfl
@[simp] theorem State.addC_bindHeld (s : State) (k n : Nat) : (s.addC k n).bindHeld = s.bindHeld := rfl
@[simp] theorem State.count_bindHeld (s : State) (k : Nat) : (s.count k).bindHeld = s.bindHeld := rfl
@[simp] theorem State.putBit_bindHeld (s : State) (k i : Nat) (b : Bool) : (s.putBit k i b).bindHeld = s.bindHeld := rfl
@[simp] theorem State.put_site (s : State) (k : Nat) (v : Val) : (s.put k v).site = s.site := rfl
@[simp] theorem State.putI_site (s : State) (k : Nat) (i : Int) : (s.putI k i).site = s.site := rfl
@[simp] theorem State.putN_site (s : State) (k n : Nat) : (s.putN k n).site = s.site := rfl
@[simp] theorem State.putB_site (s : State) (k : Nat) (bs : List Byte) : (s.putB k bs).site = s.site := rfl
@[simp] theorem State.addC_site (s : State) (k n : Nat) : (s.addC k n).site = s.site := rfl
@[simp] theorem State.count_site (s : State) (k : Nat) : (s.count k).site = s.site := rfl
@[simp] theorem State.putBit_site (s : State) (k i : Nat) (b : Bool) : (s.putBit k i b).site = s.site := rfl
@[simp] theorem State.put_ring (s : State) (k : Nat) (v : Val) : (s.put k v).ring = s.ring := rfl
@[simp] theorem State.putI_ring (s : State) (k : Nat) (i : Int) : (s.putI k i).ring = s.ring := rfl
@[simp] theorem State.putN_ring (s : State) (k n : Nat) : (s.putN k n).ring = s.ring := rfl
@[simp] theorem State.putB_ring (s : State) (k : Nat) (bs : List Byte) : (s.putB k bs).ring = s.ring := rfl
@[simp] theorem State.addC_ring (s : State) (k n : Nat) : (s.addC k n).ring = s.ring := rfl
@[simp] theorem State.count_ring (s : State) (k : Nat) : (s.count k).ring = s.ring := rfl
@[simp] theorem State.putBit_ring (s : State) (k i : Nat) (b : Bool) : (s.putBit k i b).ring = s.ring := rfl
@[simp] theorem State.put_outs (s : State) (k : Nat) (v : Val) : (s.put k v).outs = s.outs := rfl
@[simp] theorem State.putI_outs (s : State) (k : Nat) (i : Int) : (s.putI k i).outs = s.outs := rfl
@[simp] theorem State.putN_outs (s : State) (k n : Nat) : (s.putN k n).outs = s.outs := rfl
@[simp] theorem State.putB_outs (s : State) (k : Nat) (bs : List Byte) : (s.putB k bs).outs = s.outs := rfl
@[simp] theorem State.addC_outs (s : State) (k n : Nat) : (s.addC k n).outs = s.outs := rfl
@[simp] theorem State.count_outs (s : State) (k : Nat) : (s.count k).outs = s.outs := rfl
@[simp] theorem State.putBit_outs (s : State) (k i : Nat) (b : Bool) : (s.putBit k i b).outs = s.outs := rfl
@[simp] theorem State.put_cools (s : State) (k : Nat) (v : Val) : (s.put k v).cools = s.cools := rfl
@[simp] theorem State.putI_cools (s : State) (k : Nat) (i : Int) : (s.putI k i).cools = s.cools := rfl
@[simp] theorem State.putN_cools (s : State) (k n : Nat) : (s.putN k n).cools = s.cools := rfl
@[simp] theorem State.putB_cools (s : State) (k : Nat) (bs : List Byte) : (s.putB k bs).cools = s.cools := rfl
@[simp] theorem State.addC_cools (s : State) (k n : Nat) : (s.addC k n).cools = s.cools := rfl
@[simp] theorem State.count_cools (s : State) (k : Nat) : (s.count k).cools = s.cools := rfl
@[simp] theorem State.putBit_cools (s : State) (k i : Nat) (b : Bool) : (s.putBit k i b).cools = s.cools := rfl
@[simp] theorem State.put_ls (s : State) (k : Nat) (v : Val) : (s.put k v).ls = s.ls := rfl
@[simp] theorem State.putI_ls (s : State) (k : Nat) (i : Int) : (s.putI k i).ls = s.ls := rfl
@[simp] theorem State.putN_ls (s : State) (k n : Nat) : (s.putN k n).ls = s.ls := rfl
@[simp] theorem State.putB_ls (s : State) (k : Nat) (bs : List Byte) : (s.putB k bs).ls = s.ls := rfl
@[simp] theorem State.addC_ls (s : State) (k n : Nat) : (s.addC k n).ls = s.ls := rfl
@[simp] theorem State.count_ls (s : State) (k : Nat) : (s.count k).ls = s.ls := rfl
@[simp] theorem State.putBit_ls (s : State) (k i : Nat) (b : Bool) : (s.putBit k i b).ls = s.ls := rfl
@[simp] theorem State.put_pair (s : State) (k : Nat) (v : Val) : (s.put k v).pair = s.pair := rfl
@[simp] theorem State.putI_pair (s : State) (k : Nat) (i : Int) : (s.putI k i).pair = s.pair := rfl
@[simp] theorem State.putN_pair (s : State) (k n : Nat) : (s.putN k n).pair = s.pair := rfl
@[simp] theorem State.putB_pair (s : State) (k : Nat) (bs : List Byte) : (s.putB k bs).pair = s.pair := rfl
@[simp] theorem State.addC_pair (s : State) (k n : Nat) : (s.addC k n).pair = s.pair := rfl
@[simp] theorem State.count_pair (s : State) (k : Nat) : (s.count k).pair = s.pair := rfl
@[simp] theorem State.putBit_pair (s : State) (k i : Nat) (b : Bool) : (s.putBit k i b).pair = s.pair := rfl
@[simp] theorem State.put_von (s : State) (k : Nat) (v : Val) : (s.put k v).von = s.von := rfl
@[simp] theorem State.putI_von (s : State) (k : Nat) (i : Int) : (s.putI k i).von = s.von := rfl
@[simp] theorem State.putN_von (s : State) (k n : Nat) : (s.putN k n).von = s.von := rfl
@[simp] theorem State.putB_von (s : State) (k : Nat) (bs : List Byte) : (s.putB k bs).von = s.von := rfl
@[simp] theorem State.addC_von (s : State) (k n : Nat) : (s.addC k n).von = s.von := rfl
@[simp] theorem State.count_von (s : State) (k : Nat) : (s.count k).von = s.von := rfl
@[simp] theorem State.putBit_von (s : State) (k i : Nat) (b : Bool) : (s.putBit k i b).von = s.von := rfl
@[simp] theorem State.put_bill (s : State) (k : Nat) (v : Val) : (s.put k v).bill = s.bill := rfl
@[simp] theorem State.putI_bill (s : State) (k : Nat) (i : Int) : (s.putI k i).bill = s.bill := rfl
@[simp] theorem State.putN_bill (s : State) (k n : Nat) : (s.putN k n).bill = s.bill := rfl
@[simp] theorem State.putB_bill (s : State) (k : Nat) (bs : List Byte) : (s.putB k bs).bill = s.bill := rfl
@[simp] theorem State.addC_bill (s : State) (k n : Nat) : (s.addC k n).bill = s.bill := rfl
@[simp] theorem State.count_bill (s : State) (k : Nat) : (s.count k).bill = s.bill := rfl
@[simp] theorem State.putBit_bill (s : State) (k i : Nat) (b : Bool) : (s.putBit k i b).bill = s.bill := rfl
@[simp] theorem State.put_trust (s : State) (k : Nat) (v : Val) : (s.put k v).trust = s.trust := rfl
@[simp] theorem State.putI_trust (s : State) (k : Nat) (i : Int) : (s.putI k i).trust = s.trust := rfl
@[simp] theorem State.putN_trust (s : State) (k n : Nat) : (s.putN k n).trust = s.trust := rfl
@[simp] theorem State.putB_trust (s : State) (k : Nat) (bs : List Byte) : (s.putB k bs).trust = s.trust := rfl
@[simp] theorem State.addC_trust (s : State) (k n : Nat) : (s.addC k n).trust = s.trust := rfl
@[simp] theorem State.count_trust (s : State) (k : Nat) : (s.count k).trust = s.trust := rfl
@[simp] theorem State.putBit_trust (s : State) (k i : Nat) (b : Bool) : (s.putBit k i b).trust = s.trust := rfl
@[simp] theorem State.put_upd (s : State) (k : Nat) (v : Val) : (s.put k v).upd = s.upd := rfl
@[simp] theorem State.putI_upd (s : State) (k : Nat) (i : Int) : (s.putI k i).upd = s.upd := rfl
@[simp] theorem State.putN_upd (s : State) (k n : Nat) : (s.putN k n).upd = s.upd := rfl
@[simp] theorem State.putB_upd (s : State) (k : Nat) (bs : List Byte) : (s.putB k bs).upd = s.upd := rfl
@[simp] theorem State.addC_upd (s : State) (k n : Nat) : (s.addC k n).upd = s.upd := rfl
@[simp] theorem State.count_upd (s : State) (k : Nat) : (s.count k).upd = s.upd := rfl
@[simp] theorem State.putBit_upd (s : State) (k i : Nat) (b : Bool) : (s.putBit k i b).upd = s.upd := rfl
@[simp] theorem State.put_power (s : State) (k : Nat) (v : Val) : (s.put k v).power = s.power := rfl
@[simp] theorem State.putI_power (s : State) (k : Nat) (i : Int) : (s.putI k i).power = s.power := rfl
@[simp] theorem State.putN_power (s : State) (k n : Nat) : (s.putN k n).power = s.power := rfl
@[simp] theorem State.putB_power (s : State) (k : Nat) (bs : List Byte) : (s.putB k bs).power = s.power := rfl
@[simp] theorem State.addC_power (s : State) (k n : Nat) : (s.addC k n).power = s.power := rfl
@[simp] theorem State.count_power (s : State) (k : Nat) : (s.count k).power = s.power := rfl
@[simp] theorem State.putBit_power (s : State) (k i : Nat) (b : Bool) : (s.putBit k i b).power = s.power := rfl
@[simp] theorem State.put_sent (s : State) (k : Nat) (v : Val) : (s.put k v).sent = s.sent := rfl
@[simp] theorem State.putI_sent (s : State) (k : Nat) (i : Int) : (s.putI k i).sent = s.sent := rfl
@[simp] theorem State.putN_sent (s : State) (k n : Nat) : (s.putN k n).sent = s.sent := rfl
@[simp] theorem State.putB_sent (s : State) (k : Nat) (bs : List Byte) : (s.putB k bs).sent = s.sent := rfl
@[simp] theorem State.addC_sent (s : State) (k n : Nat) : (s.addC k n).sent = s.sent := rfl
@[simp] theorem State.count_sent (s : State) (k : Nat) : (s.count k).sent = s.sent := rfl
@[simp] theorem State.putBit_sent (s : State) (k i : Nat) (b : Bool) : (s.putBit k i b).sent = s.sent := rfl
@[simp] theorem State.put_fresh (s : State) (k : Nat) (v : Val) : (s.put k v).fresh = s.fresh := rfl
@[simp] theorem State.putI_fresh (s : State) (k : Nat) (i : Int) : (s.putI k i).fresh = s.fresh := rfl
@[simp] theorem State.putN_fresh (s : State) (k n : Nat) : (s.putN k n).fresh = s.fresh := rfl
@[simp] theorem State.putB_fresh (s : State) (k : Nat) (bs : List Byte) : (s.putB k bs).fresh = s.fresh := rfl
@[simp] theorem State.addC_fresh (s : State) (k n : Nat) : (s.addC k n).fresh = s.fresh := rfl
@[simp] theorem State.count_fresh (s : State) (k : Nat) : (s.count k).fresh = s.fresh := rfl
@[simp] theorem State.putBit_fresh (s : State) (k i : Nat) (b : Bool) : (s.putBit k i b).fresh = s.fresh := rfl
@[simp] theorem State.put_pending (s : State) (k : Nat) (v : Val) : (s.put k v).pending = s.pending := rfl
@[simp] theorem State.putI_pending (s : State) (k : Nat) (i : Int) : (s.putI k i).pending = s.pending := rfl
@[simp] theorem State.putN_pending (s : State) (k n : Nat) : (s.putN k n).pending = s.pending := rfl
@[simp] theorem State.putB_pending (s : State) (k : Nat) (bs : List Byte) : (s.putB k bs).pending = s.pending := rfl
@[simp] theorem State.addC_pending (s : State) (k n : Nat) : (s.addC k n).pending = s.pending := rfl
@[simp] theorem State.count_pending (s : State) (k : Nat) : (s.count k).pending = s.pending := rfl
@[simp] theorem State.putBit_pending (s : State) (k i : Nat) (b : Bool) : (s.putBit k i b).pending = s.pending := rfl
@[simp] theorem State.put_part (s : State) (k : Nat) (v : Val) : (s.put k v).part = s.part := rfl
@[simp] theorem State.putI_part (s : State) (k : Nat) (i : Int) : (s.putI k i).part = s.part := rfl
@[simp] theorem State.putN_part (s : State) (k n : Nat) : (s.putN k n).part = s.part := rfl
@[simp] theorem State.putB_part (s : State) (k : Nat) (bs : List Byte) : (s.putB k bs).part = s.part := rfl
@[simp] theorem State.addC_part (s : State) (k n : Nat) : (s.addC k n).part = s.part := rfl
@[simp] theorem State.count_part (s : State) (k : Nat) : (s.count k).part = s.part := rfl
@[simp] theorem State.putBit_part (s : State) (k i : Nat) (b : Bool) : (s.putBit k i b).part = s.part := rfl

end Sys2Proof.Machine
end

