-- ==== Sys2Proof/Laws/Write.lean ====
section
/-! SUPPORT. Laws of transactions: what an answer changes, and what an accepted write does. -/

namespace Sys2Proof.Machine

open Sys2Proof

/-- An answer moves no element but the two counters of transactions. -/
@[simp] theorem State.get_answer (s : State) (src : Src) (op tag : Nat) (st : Status) (data : List Byte) {k : Nat}
    (h1 : k ≠ Reg.DICT_RX_COUNT) (h2 : k ≠ Reg.DICT_REJECT_COUNT) : (s.answer src op tag st data).get k = s.get k := by
  unfold State.answer; dsimp only
  split
  · rw [State.get_count, if_neg h1]; rfl
  · rw [State.get_count, if_neg h2, State.get_count, if_neg h1]; rfl

@[simp] theorem State.get_answerW (s : State) (h : Hdr) (st : Status) {k : Nat}
    (h1 : k ≠ Reg.DICT_RX_COUNT) (h2 : k ≠ Reg.DICT_REJECT_COUNT) : (s.answerW h st).get k = s.get k :=
  State.get_answer s _ _ _ _ _ h1 h2
@[simp] theorem State.nat_answerW (s : State) (h : Hdr) (st : Status) {k : Nat}
    (h1 : k ≠ Reg.DICT_RX_COUNT) (h2 : k ≠ Reg.DICT_REJECT_COUNT) : (s.answerW h st).nat k = s.nat k := by
  unfold State.nat State.int; rw [State.get_answerW s h st h1 h2]
@[simp] theorem State.int_answerW (s : State) (h : Hdr) (st : Status) {k : Nat}
    (h1 : k ≠ Reg.DICT_RX_COUNT) (h2 : k ≠ Reg.DICT_REJECT_COUNT) : (s.answerW h st).int k = s.int k := by
  unfold State.int; rw [State.get_answerW s h st h1 h2]

/-- The answer is the last response. -/
theorem State.answer_last (s : State) (src : Src) (op tag : Nat) (st : Status) (data : List Byte) :
    (s.answer src op tag st data).dict.responses.getLast? = some ⟨src, op, tag, st, data⟩ := by
  unfold State.answer; dsimp only
  split <;> simp [State.count_dict]

theorem answered_answerW (s : State) (h : Hdr) (st : Status) : Answered (s.answerW h st) h st := State.answer_last _ _ _ _ _ _
theorem answeredData_answerR (s : State) (h : Hdr) (data : List Byte) : AnsweredData (s.answerR h .ok data) h data :=
  State.answer_last _ _ _ _ _ _

/-- What an answer leaves alone beside the transactions' own state. -/
theorem State.answer_frame (s : State) (src : Src) (op tag : Nat) (st : Status) (data : List Byte) :
    ∃ q r o, s.answer src op tag st data =
      { s with objs := o, dict := { s.dict with queue := q, responses := r } } := by
  unfold State.answer; dsimp only
  split
  · exact ⟨_, _, _, rfl⟩
  · exact ⟨_, _, _, rfl⟩

/-- An accepted write has its effect and is answered OK. -/
theorem State.hostWrite_accepts {s : State} {h : Hdr} {k n : Nat} (ha : Accepts s h k n) (f : State → State) :
    s.hostWrite h k n f = (f s).answerW h .ok := by
  obtain ⟨h1, r, v, h2, h3⟩ := ha
  unfold State.hostWrite
  simp [h1, h2, h3]

theorem State.hostCmd_accepts {s : State} {h : Hdr} {c : CmdId} {n : Nat} (ha : Accepts s h (cmdBase c + 1) n) (f : State → State) :
    s.hostCmd h c n f = (f (s.startCmd c n)).answerW h .ok := State.hostWrite_accepts ha _

theorem State.hostWriteB_accepts {s : State} {h : Hdr} {k : Nat} {data : List Byte} (ha : AcceptsBlob s h k data)
    (f : State → State × Status) : s.hostWriteB h k data f = (f s).1.answerW h (f s).2 := by
  obtain ⟨h1, v, h3⟩ := ha
  unfold State.hostWriteB
  simp [h1, h3]

theorem leNat_leBytes (k n : Nat) (h : n < 256 ^ k) : leNat (leBytes k n) = n := by
  induction k generalizing n with
  | zero => simp at h; subst h; rfl
  | succ k ih =>
    simp only [leBytes, leNat]
    rw [ih (n / 256) (by rw [Nat.pow_succ] at h; omega)]
    simp [byte]; omega

theorem leBytes_length (k n : Nat) : (leBytes k n).length = k := by
  induction k generalizing n with
  | zero => rfl
  | succ k ih => simp [leBytes, ih]

/-- The data that carries a number has the size of the type exactly where the number fits. -/
theorem dataOf_length (k n : Nat) : (dataOf k n).length = k ↔ n < 256 ^ k := by
  unfold dataOf; split <;> simp [leBytes_length, *]

/-- The rows of the commands' elements .01. -/
theorem rowAt_cmd (c : CmdId) : (rowAt (cmdBase c + 1)).map (fun r => decide (r.ty = .cmd)) = some true := by
  cases c <;> decide

theorem cmdOfKey_cmd (c : CmdId) : cmdOfKey (cmdBase c + 1) = some c ∧ keyE (cmdBase c + 1) = 1 ∧ cmdBase c + 1 < 16777216 := by
  cases c <;> decide

theorem rowFor_cmd {s : State} {c : CmdId} {r : Row} (h : s.rowFor (cmdBase c + 1) = some r) : r.ty = .cmd := by
  unfold State.rowFor at h
  split at h
  · cases h
  · have := rowAt_cmd c; rw [h] at this; simpa using this

theorem reqKey_writeOf {tag k : Nat} (data : List Byte) (hk : k < 16777216) : reqKey (writeOf tag k data) = k := by
  simp only [reqKey, writeOf, key, keyG, keyO, keyE]; omega

/-- An accepted CMD write starts its operation and is answered OK (R60). -/
theorem State.transact_cmd {s : State} {h : Hdr} {c : CmdId} {n : Nat} (ha : Accepts s h (cmdBase c + 1) n) :
    s.transact h.src (writeOf h.tag (cmdBase c + 1) (dataOf 4 n)) = (s.startOf h.src c n).answerW h .ok := by
  obtain ⟨h1, r, v, h2, h3⟩ := ha
  have hr := rowFor_cmd h2
  obtain ⟨hc, he, hk⟩ := cmdOfKey_cmd c
  rw [hr] at h3
  change s.writeCheck h.src (cmdBase c + 1) (dataOf 4 n) = .ok v at h3
  have hg : n < 4294967296 ∧ v = .num (leNat (dataOf 4 n)) := by
    unfold State.writeCheck at h3
    split at h3
    · cases h3
    · rename_i r' hgate
      have hr' : r' = r := by
        unfold State.writeGate at hgate
        rw [h2] at hgate
        simp only at hgate
        split at hgate
        · cases hgate
        · split at hgate
          · cases hgate
          · exact (Except.ok.inj hgate).symm
      subst hr'
      rw [hc] at h3
      simp only at h3
      split at h3
      · cases h3
      · split at h3
        · cases h3
        · split at h3
          · cases h3
          · rename_i ht _
            rw [hr] at ht h3
            constructor
            · have := (dataOf_length 4 n).mp (by simpa [typeOk, Ty.size] using ht)
              simpa using this
            · simpa [decodeVal, Ty.signed] using (Except.ok.inj h3).symm
  have hv : v.int.toNat = n := by
    rw [hg.2]; unfold dataOf; rw [if_pos (by simpa using hg.1), leNat_leBytes 4 n (by simpa using hg.1)]; rfl
  have hl : (dataOf 4 n).length = 4 := (dataOf_length 4 n).mpr (by simpa using hg.1)
  have hf : framingOk (writeOf h.tag (cmdBase c + 1) (dataOf 4 n)) = true := by simp [framingOk, writeOf, hl]
  unfold State.transact
  simp only [h1, Bool.not_true, Bool.false_eq_true, if_false]
  unfold State.carryOut
  simp only [hf, Bool.not_true, Bool.false_eq_true, if_false, reqKey_writeOf _ hk]
  unfold State.writeWhole
  simp [writeOf, h2, h3, State.writeEffect, hc, State.writeCommand, he, hv, State.answerW]

/-! ## Fields an answer leaves alone -/

@[simp] theorem State.answer_now (s : State) (src : Src) (op tag : Nat) (st : Status) (data : List Byte) :
    (s.answer src op tag st data).now = s.now := by unfold State.answer; dsimp only; split <;> rfl
@[simp] theorem State.answerW_now (s : State) (h : Hdr) (st : Status) : (s.answerW h st).now = s.now :=
  State.answer_now _ _ _ _ _ _
@[simp] theorem State.answerR_now (s : State) (h : Hdr) (st : Status) (d : List Byte) : (s.answerR h st d).now = s.now :=
  State.answer_now _ _ _ _ _ _
@[simp] theorem State.answer_modes (s : State) (src : Src) (op tag : Nat) (st : Status) (data : List Byte) :
    (s.answer src op tag st data).modes = s.modes := by unfold State.answer; dsimp only; split <;> rfl
@[simp] theorem State.answerW_modes (s : State) (h : Hdr) (st : Status) : (s.answerW h st).modes = s.modes :=
  State.answer_modes _ _ _ _ _ _
@[simp] theorem State.answerR_modes (s : State) (h : Hdr) (st : Status) (d : List Byte) : (s.answerR h st d).modes = s.modes :=
  State.answer_modes _ _ _ _ _ _
@[simp] theorem State.answer_fab (s : State) (src : Src) (op tag : Nat) (st : Status) (data : List Byte) :
    (s.answer src op tag st data).fab = s.fab := by unfold State.answer; dsimp only; split <;> rfl
@[simp] theorem State.answerW_fab (s : State) (h : Hdr) (st : Status) : (s.answerW h st).fab = s.fab :=
  State.answer_fab _ _ _ _ _ _
@[simp] theorem State.answerR_fab (s : State) (h : Hdr) (st : Status) (d : List Byte) : (s.answerR h st d).fab = s.fab :=
  State.answer_fab _ _ _ _ _ _
@[simp] theorem State.answer_ev (s : State) (src : Src) (op tag : Nat) (st : Status) (data : List Byte) :
    (s.answer src op tag st data).ev = s.ev := by unfold State.answer; dsimp only; split <;> rfl
@[simp] theorem State.answerW_ev (s : State) (h : Hdr) (st : Status) : (s.answerW h st).ev = s.ev :=
  State.answer_ev _ _ _ _ _ _
@[simp] theorem State.answerR_ev (s : State) (h : Hdr) (st : Status) (d : List Byte) : (s.answerR h st d).ev = s.ev :=
  State.answer_ev _ _ _ _ _ _
@[simp] theorem State.answer_pwmNow (s : State) (src : Src) (op tag : Nat) (st : Status) (data : List Byte) :
    (s.answer src op tag st data).pwmNow = s.pwmNow := by unfold State.answer; dsimp only; split <;> rfl
@[simp] theorem State.answerW_pwmNow (s : State) (h : Hdr) (st : Status) : (s.answerW h st).pwmNow = s.pwmNow :=
  State.answer_pwmNow _ _ _ _ _ _
@[simp] theorem State.answerR_pwmNow (s : State) (h : Hdr) (st : Status) (d : List Byte) : (s.answerR h st d).pwmNow = s.pwmNow :=
  State.answer_pwmNow _ _ _ _ _ _
@[simp] theorem State.answer_legs (s : State) (src : Src) (op tag : Nat) (st : Status) (data : List Byte) :
    (s.answer src op tag st data).legs = s.legs := by unfold State.answer; dsimp only; split <;> rfl
@[simp] theorem State.answerW_legs (s : State) (h : Hdr) (st : Status) : (s.answerW h st).legs = s.legs :=
  State.answer_legs _ _ _ _ _ _
@[simp] theorem State.answerR_legs (s : State) (h : Hdr) (st : Status) (d : List Byte) : (s.answerR h st d).legs = s.legs :=
  State.answer_legs _ _ _ _ _ _
@[simp] theorem State.answer_engines (s : State) (src : Src) (op tag : Nat) (st : Status) (data : List Byte) :
    (s.answer src op tag st data).engines = s.engines := by unfold State.answer; dsimp only; split <;> rfl
@[simp] theorem State.answerW_engines (s : State) (h : Hdr) (st : Status) : (s.answerW h st).engines = s.engines :=
  State.answer_engines _ _ _ _ _ _
@[simp] theorem State.answerR_engines (s : State) (h : Hdr) (st : Status) (d : List Byte) : (s.answerR h st d).engines = s.engines :=
  State.answer_engines _ _ _ _ _ _
@[simp] theorem State.answer_groups (s : State) (src : Src) (op tag : Nat) (st : Status) (data : List Byte) :
    (s.answer src op tag st data).groups = s.groups := by unfold State.answer; dsimp only; split <;> rfl
@[simp] theorem State.answerW_groups (s : State) (h : Hdr) (st : Status) : (s.answerW h st).groups = s.groups :=
  State.answer_groups _ _ _ _ _ _
@[simp] theorem State.answerR_groups (s : State) (h : Hdr) (st : Status) (d : List Byte) : (s.answerR h st d).groups = s.groups :=
  State.answer_groups _ _ _ _ _ _
@[simp] theorem State.answer_matrixFb (s : State) (src : Src) (op tag : Nat) (st : Status) (data : List Byte) :
    (s.answer src op tag st data).matrixFb = s.matrixFb := by unfold State.answer; dsimp only; split <;> rfl
@[simp] theorem State.answerW_matrixFb (s : State) (h : Hdr) (st : Status) : (s.answerW h st).matrixFb = s.matrixFb :=
  State.answer_matrixFb _ _ _ _ _ _
@[simp] theorem State.answerR_matrixFb (s : State) (h : Hdr) (st : Status) (d : List Byte) : (s.answerR h st d).matrixFb = s.matrixFb :=
  State.answer_matrixFb _ _ _ _ _ _
@[simp] theorem State.answer_rebinds (s : State) (src : Src) (op tag : Nat) (st : Status) (data : List Byte) :
    (s.answer src op tag st data).rebinds = s.rebinds := by unfold State.answer; dsimp only; split <;> rfl
@[simp] theorem State.answerW_rebinds (s : State) (h : Hdr) (st : Status) : (s.answerW h st).rebinds = s.rebinds :=
  State.answer_rebinds _ _ _ _ _ _
@[simp] theorem State.answerR_rebinds (s : State) (h : Hdr) (st : Status) (d : List Byte) : (s.answerR h st d).rebinds = s.rebinds :=
  State.answer_rebinds _ _ _ _ _ _
@[simp] theorem State.answer_bindHeld (s : State) (src : Src) (op tag : Nat) (st : Status) (data : List Byte) :
    (s.answer src op tag st data).bindHeld = s.bindHeld := by unfold State.answer; dsimp only; split <;> rfl
@[simp] theorem State.answerW_bindHeld (s : State) (h : Hdr) (st : Status) : (s.answerW h st).bindHeld = s.bindHeld :=
  State.answer_bindHeld _ _ _ _ _ _
@[simp] theorem State.answerR_bindHeld (s : State) (h : Hdr) (st : Status) (d : List Byte) : (s.answerR h st d).bindHeld = s.bindHeld :=
  State.answer_bindHeld _ _ _ _ _ _
@[simp] theorem State.answer_site (s : State) (src : Src) (op tag : Nat) (st : Status) (data : List Byte) :
    (s.answer src op tag st data).site = s.site := by unfold State.answer; dsimp only; split <;> rfl
@[simp] theorem State.answerW_site (s : State) (h : Hdr) (st : Status) : (s.answerW h st).site = s.site :=
  State.answer_site _ _ _ _ _ _
@[simp] theorem State.answerR_site (s : State) (h : Hdr) (st : Status) (d : List Byte) : (s.answerR h st d).site = s.site :=
  State.answer_site _ _ _ _ _ _
@[simp] theorem State.answer_ring (s : State) (src : Src) (op tag : Nat) (st : Status) (data : List Byte) :
    (s.answer src op tag st data).ring = s.ring := by unfold State.answer; dsimp only; split <;> rfl
@[simp] theorem State.answerW_ring (s : State) (h : Hdr) (st : Status) : (s.answerW h st).ring = s.ring :=
  State.answer_ring _ _ _ _ _ _
@[simp] theorem State.answerR_ring (s : State) (h : Hdr) (st : Status) (d : List Byte) : (s.answerR h st d).ring = s.ring :=
  State.answer_ring _ _ _ _ _ _
@[simp] theorem State.answer_outs (s : State) (src : Src) (op tag : Nat) (st : Status) (data : List Byte) :
    (s.answer src op tag st data).outs = s.outs := by unfold State.answer; dsimp only; split <;> rfl
@[simp] theorem State.answerW_outs (s : State) (h : Hdr) (st : Status) : (s.answerW h st).outs = s.outs :=
  State.answer_outs _ _ _ _ _ _
@[simp] theorem State.answerR_outs (s : State) (h : Hdr) (st : Status) (d : List Byte) : (s.answerR h st d).outs = s.outs :=
  State.answer_outs _ _ _ _ _ _
@[simp] theorem State.answer_cools (s : State) (src : Src) (op tag : Nat) (st : Status) (data : List Byte) :
    (s.answer src op tag st data).cools = s.cools := by unfold State.answer; dsimp only; split <;> rfl
@[simp] theorem State.answerW_cools (s : State) (h : Hdr) (st : Status) : (s.answerW h st).cools = s.cools :=
  State.answer_cools _ _ _ _ _ _
@[simp] theorem State.answerR_cools (s : State) (h : Hdr) (st : Status) (d : List Byte) : (s.answerR h st d).cools = s.cools :=
  State.answer_cools _ _ _ _ _ _
@[simp] theorem State.answer_ls (s : State) (src : Src) (op tag : Nat) (st : Status) (data : List Byte) :
    (s.answer src op tag st data).ls = s.ls := by unfold State.answer; dsimp only; split <;> rfl
@[simp] theorem State.answerW_ls (s : State) (h : Hdr) (st : Status) : (s.answerW h st).ls = s.ls :=
  State.answer_ls _ _ _ _ _ _
@[simp] theorem State.answerR_ls (s : State) (h : Hdr) (st : Status) (d : List Byte) : (s.answerR h st d).ls = s.ls :=
  State.answer_ls _ _ _ _ _ _
@[simp] theorem State.answer_pair (s : State) (src : Src) (op tag : Nat) (st : Status) (data : List Byte) :
    (s.answer src op tag st data).pair = s.pair := by unfold State.answer; dsimp only; split <;> rfl
@[simp] theorem State.answerW_pair (s : State) (h : Hdr) (st : Status) : (s.answerW h st).pair = s.pair :=
  State.answer_pair _ _ _ _ _ _
@[simp] theorem State.answerR_pair (s : State) (h : Hdr) (st : Status) (d : List Byte) : (s.answerR h st d).pair = s.pair :=
  State.answer_pair _ _ _ _ _ _
@[simp] theorem State.answer_von (s : State) (src : Src) (op tag : Nat) (st : Status) (data : List Byte) :
    (s.answer src op tag st data).von = s.von := by unfold State.answer; dsimp only; split <;> rfl
@[simp] theorem State.answerW_von (s : State) (h : Hdr) (st : Status) : (s.answerW h st).von = s.von :=
  State.answer_von _ _ _ _ _ _
@[simp] theorem State.answerR_von (s : State) (h : Hdr) (st : Status) (d : List Byte) : (s.answerR h st d).von = s.von :=
  State.answer_von _ _ _ _ _ _
@[simp] theorem State.answer_bill (s : State) (src : Src) (op tag : Nat) (st : Status) (data : List Byte) :
    (s.answer src op tag st data).bill = s.bill := by unfold State.answer; dsimp only; split <;> rfl
@[simp] theorem State.answerW_bill (s : State) (h : Hdr) (st : Status) : (s.answerW h st).bill = s.bill :=
  State.answer_bill _ _ _ _ _ _
@[simp] theorem State.answerR_bill (s : State) (h : Hdr) (st : Status) (d : List Byte) : (s.answerR h st d).bill = s.bill :=
  State.answer_bill _ _ _ _ _ _
@[simp] theorem State.answer_trust (s : State) (src : Src) (op tag : Nat) (st : Status) (data : List Byte) :
    (s.answer src op tag st data).trust = s.trust := by unfold State.answer; dsimp only; split <;> rfl
@[simp] theorem State.answerW_trust (s : State) (h : Hdr) (st : Status) : (s.answerW h st).trust = s.trust :=
  State.answer_trust _ _ _ _ _ _
@[simp] theorem State.answerR_trust (s : State) (h : Hdr) (st : Status) (d : List Byte) : (s.answerR h st d).trust = s.trust :=
  State.answer_trust _ _ _ _ _ _
@[simp] theorem State.answer_upd (s : State) (src : Src) (op tag : Nat) (st : Status) (data : List Byte) :
    (s.answer src op tag st data).upd = s.upd := by unfold State.answer; dsimp only; split <;> rfl
@[simp] theorem State.answerW_upd (s : State) (h : Hdr) (st : Status) : (s.answerW h st).upd = s.upd :=
  State.answer_upd _ _ _ _ _ _
@[simp] theorem State.answerR_upd (s : State) (h : Hdr) (st : Status) (d : List Byte) : (s.answerR h st d).upd = s.upd :=
  State.answer_upd _ _ _ _ _ _
@[simp] theorem State.answer_power (s : State) (src : Src) (op tag : Nat) (st : Status) (data : List Byte) :
    (s.answer src op tag st data).power = s.power := by unfold State.answer; dsimp only; split <;> rfl
@[simp] theorem State.answerW_power (s : State) (h : Hdr) (st : Status) : (s.answerW h st).power = s.power :=
  State.answer_power _ _ _ _ _ _
@[simp] theorem State.answerR_power (s : State) (h : Hdr) (st : Status) (d : List Byte) : (s.answerR h st d).power = s.power :=
  State.answer_power _ _ _ _ _ _
@[simp] theorem State.answer_sent (s : State) (src : Src) (op tag : Nat) (st : Status) (data : List Byte) :
    (s.answer src op tag st data).sent = s.sent := by unfold State.answer; dsimp only; split <;> rfl
@[simp] theorem State.answerW_sent (s : State) (h : Hdr) (st : Status) : (s.answerW h st).sent = s.sent :=
  State.answer_sent _ _ _ _ _ _
@[simp] theorem State.answerR_sent (s : State) (h : Hdr) (st : Status) (d : List Byte) : (s.answerR h st d).sent = s.sent :=
  State.answer_sent _ _ _ _ _ _
@[simp] theorem State.answer_fresh (s : State) (src : Src) (op tag : Nat) (st : Status) (data : List Byte) :
    (s.answer src op tag st data).fresh = s.fresh := by unfold State.answer; dsimp only; split <;> rfl
@[simp] theorem State.answerW_fresh (s : State) (h : Hdr) (st : Status) : (s.answerW h st).fresh = s.fresh :=
  State.answer_fresh _ _ _ _ _ _
@[simp] theorem State.answerR_fresh (s : State) (h : Hdr) (st : Status) (d : List Byte) : (s.answerR h st d).fresh = s.fresh :=
  State.answer_fresh _ _ _ _ _ _
@[simp] theorem State.answer_pending (s : State) (src : Src) (op tag : Nat) (st : Status) (data : List Byte) :
    (s.answer src op tag st data).pending = s.pending := by unfold State.answer; dsimp only; split <;> rfl
@[simp] theorem State.answerW_pending (s : State) (h : Hdr) (st : Status) : (s.answerW h st).pending = s.pending :=
  State.answer_pending _ _ _ _ _ _
@[simp] theorem State.answerR_pending (s : State) (h : Hdr) (st : Status) (d : List Byte) : (s.answerR h st d).pending = s.pending :=
  State.answer_pending _ _ _ _ _ _
@[simp] theorem State.answer_part (s : State) (src : Src) (op tag : Nat) (st : Status) (data : List Byte) :
    (s.answer src op tag st data).part = s.part := by unfold State.answer; dsimp only; split <;> rfl
@[simp] theorem State.answerW_part (s : State) (h : Hdr) (st : Status) : (s.answerW h st).part = s.part :=
  State.answer_part _ _ _ _ _ _
@[simp] theorem State.answerR_part (s : State) (h : Hdr) (st : Status) (d : List Byte) : (s.answerR h st d).part = s.part :=
  State.answer_part _ _ _ _ _ _
@[simp] theorem State.answer_dict_staging (s : State) (src : Src) (op tag : Nat) (st : Status) (data : List Byte) :
    (s.answer src op tag st data).dict.staging = s.dict.staging := by unfold State.answer; dsimp only; split <;> rfl
@[simp] theorem State.answerW_dict_staging (s : State) (h : Hdr) (st : Status) : (s.answerW h st).dict.staging = s.dict.staging :=
  State.answer_dict_staging _ _ _ _ _ _
@[simp] theorem State.answerR_dict_staging (s : State) (h : Hdr) (st : Status) (d : List Byte) : (s.answerR h st d).dict.staging = s.dict.staging :=
  State.answer_dict_staging _ _ _ _ _ _
@[simp] theorem State.answer_dict_seg (s : State) (src : Src) (op tag : Nat) (st : Status) (data : List Byte) :
    (s.answer src op tag st data).dict.seg = s.dict.seg := by unfold State.answer; dsimp only; split <;> rfl
@[simp] theorem State.answerW_dict_seg (s : State) (h : Hdr) (st : Status) : (s.answerW h st).dict.seg = s.dict.seg :=
  State.answer_dict_seg _ _ _ _ _ _
@[simp] theorem State.answerR_dict_seg (s : State) (h : Hdr) (st : Status) (d : List Byte) : (s.answerR h st d).dict.seg = s.dict.seg :=
  State.answer_dict_seg _ _ _ _ _ _
@[simp] theorem State.answer_dict_commitSet (s : State) (src : Src) (op tag : Nat) (st : Status) (data : List Byte) :
    (s.answer src op tag st data).dict.commitSet = s.dict.commitSet := by unfold State.answer; dsimp only; split <;> rfl
@[simp] theorem State.answerW_dict_commitSet (s : State) (h : Hdr) (st : Status) : (s.answerW h st).dict.commitSet = s.dict.commitSet :=
  State.answer_dict_commitSet _ _ _ _ _ _
@[simp] theorem State.answerR_dict_commitSet (s : State) (h : Hdr) (st : Status) (d : List Byte) : (s.answerR h st d).dict.commitSet = s.dict.commitSet :=
  State.answer_dict_commitSet _ _ _ _ _ _
@[simp] theorem State.answer_dict_billHold (s : State) (src : Src) (op tag : Nat) (st : Status) (data : List Byte) :
    (s.answer src op tag st data).dict.billHold = s.dict.billHold := by unfold State.answer; dsimp only; split <;> rfl
@[simp] theorem State.answerW_dict_billHold (s : State) (h : Hdr) (st : Status) : (s.answerW h st).dict.billHold = s.dict.billHold :=
  State.answer_dict_billHold _ _ _ _ _ _
@[simp] theorem State.answerR_dict_billHold (s : State) (h : Hdr) (st : Status) (d : List Byte) : (s.answerR h st d).dict.billHold = s.dict.billHold :=
  State.answer_dict_billHold _ _ _ _ _ _
@[simp] theorem State.answer_dict_store (s : State) (src : Src) (op tag : Nat) (st : Status) (data : List Byte) :
    (s.answer src op tag st data).dict.store = s.dict.store := by unfold State.answer; dsimp only; split <;> rfl
@[simp] theorem State.answerW_dict_store (s : State) (h : Hdr) (st : Status) : (s.answerW h st).dict.store = s.dict.store :=
  State.answer_dict_store _ _ _ _ _ _
@[simp] theorem State.answerR_dict_store (s : State) (h : Hdr) (st : Status) (d : List Byte) : (s.answerR h st d).dict.store = s.dict.store :=
  State.answer_dict_store _ _ _ _ _ _
@[simp] theorem State.answer_dict_journal (s : State) (src : Src) (op tag : Nat) (st : Status) (data : List Byte) :
    (s.answer src op tag st data).dict.journal = s.dict.journal := by unfold State.answer; dsimp only; split <;> rfl
@[simp] theorem State.answerW_dict_journal (s : State) (h : Hdr) (st : Status) : (s.answerW h st).dict.journal = s.dict.journal :=
  State.answer_dict_journal _ _ _ _ _ _
@[simp] theorem State.answerR_dict_journal (s : State) (h : Hdr) (st : Status) (d : List Byte) : (s.answerR h st d).dict.journal = s.dict.journal :=
  State.answer_dict_journal _ _ _ _ _ _
@[simp] theorem State.answer_dict_journalled (s : State) (src : Src) (op tag : Nat) (st : Status) (data : List Byte) :
    (s.answer src op tag st data).dict.journalled = s.dict.journalled := by unfold State.answer; dsimp only; split <;> rfl
@[simp] theorem State.answerW_dict_journalled (s : State) (h : Hdr) (st : Status) : (s.answerW h st).dict.journalled = s.dict.journalled :=
  State.answer_dict_journalled _ _ _ _ _ _
@[simp] theorem State.answerR_dict_journalled (s : State) (h : Hdr) (st : Status) (d : List Byte) : (s.answerR h st d).dict.journalled = s.dict.journalled :=
  State.answer_dict_journalled _ _ _ _ _ _
@[simp] theorem State.answer_dict_blank (s : State) (src : Src) (op tag : Nat) (st : Status) (data : List Byte) :
    (s.answer src op tag st data).dict.blank = s.dict.blank := by unfold State.answer; dsimp only; split <;> rfl
@[simp] theorem State.answerW_dict_blank (s : State) (h : Hdr) (st : Status) : (s.answerW h st).dict.blank = s.dict.blank :=
  State.answer_dict_blank _ _ _ _ _ _
@[simp] theorem State.answerR_dict_blank (s : State) (h : Hdr) (st : Status) (d : List Byte) : (s.answerR h st d).dict.blank = s.dict.blank :=
  State.answer_dict_blank _ _ _ _ _ _
@[simp] theorem State.answer_dict_erasing (s : State) (src : Src) (op tag : Nat) (st : Status) (data : List Byte) :
    (s.answer src op tag st data).dict.erasing = s.dict.erasing := by unfold State.answer; dsimp only; split <;> rfl
@[simp] theorem State.answerW_dict_erasing (s : State) (h : Hdr) (st : Status) : (s.answerW h st).dict.erasing = s.dict.erasing :=
  State.answer_dict_erasing _ _ _ _ _ _
@[simp] theorem State.answerR_dict_erasing (s : State) (h : Hdr) (st : Status) (d : List Byte) : (s.answerR h st d).dict.erasing = s.dict.erasing :=
  State.answer_dict_erasing _ _ _ _ _ _
@[simp] theorem State.answer_dict_commitErased (s : State) (src : Src) (op tag : Nat) (st : Status) (data : List Byte) :
    (s.answer src op tag st data).dict.commitErased = s.dict.commitErased := by unfold State.answer; dsimp only; split <;> rfl
@[simp] theorem State.answerW_dict_commitErased (s : State) (h : Hdr) (st : Status) : (s.answerW h st).dict.commitErased = s.dict.commitErased :=
  State.answer_dict_commitErased _ _ _ _ _ _
@[simp] theorem State.answerR_dict_commitErased (s : State) (h : Hdr) (st : Status) (d : List Byte) : (s.answerR h st d).dict.commitErased = s.dict.commitErased :=
  State.answer_dict_commitErased _ _ _ _ _ _
@[simp] theorem State.answer_dict_res (s : State) (src : Src) (op tag : Nat) (st : Status) (data : List Byte) :
    (s.answer src op tag st data).dict.res = s.dict.res := by unfold State.answer; dsimp only; split <;> rfl
@[simp] theorem State.answerW_dict_res (s : State) (h : Hdr) (st : Status) : (s.answerW h st).dict.res = s.dict.res :=
  State.answer_dict_res _ _ _ _ _ _
@[simp] theorem State.answerR_dict_res (s : State) (h : Hdr) (st : Status) (d : List Byte) : (s.answerR h st d).dict.res = s.dict.res :=
  State.answer_dict_res _ _ _ _ _ _

end Sys2Proof.Machine
end

