-- ==== Sys2Proof/WellFormed.lean ====
section
/-! DEFINITION. WellFormed: which commands the block's interfaces can carry: every operand within the field that carries it. -/

namespace Sys2Proof

/-- A number that fits a field of w bits. -/
def fits (w n : Nat) : Bool := n < 2 ^ w

/-- A source: ring addresses have 12 bits (R46). -/
def Src.wf : Src → Bool
  | .service => true
  | .node a => fits 12 a

/-- A source and a TAG of one byte (R38). -/
def Hdr.wf (h : Hdr) : Bool := h.src.wf && fits 8 h.tag

/-- The header fields of a request: six bytes, LENGTH of two and OFFSET of four (R38). -/
def Request.wf (r : Request) : Bool :=
  fits 8 r.opcode && fits 8 r.tag && fits 8 r.group && fits 8 r.object && fits 8 r.element && fits 8 r.reserved &&
    fits 16 r.length && fits 32 r.offset

/-- A roster change as its 12 bytes carry it (R196). -/
def Change.wf (c : Change) : Bool := fits 16 c.addr && fits 8 c.action && fits 8 c.reason && fits 32 c.tag && fits 32 c.epoch

/-- An EPOCH_MARK as its slot carries it: at most eight changes (R189, R196). -/
def Mark.wf (m : Mark) : Bool :=
  fits 12 m.src && fits 12 m.hops && fits 64 m.epoch && fits 32 m.tag && fits 32 m.period && fits 16 m.nodes &&
    m.changes.length <= 8 && m.changes.all Change.wf

/-- A reassembled frame: 1 to 1,892 data bytes (R195). -/
def Frame.wf (f : Frame) : Bool :=
  fits 12 f.src && fits 16 f.dest && fits 16 f.id && fits 32 f.epoch && 1 <= f.data.length && f.data.length <= 1892

/-- A token (R395). -/
def Token.wf (t : Token) : Bool :=
  fits 8 t.flags && fits 32 t.seq && fits 32 t.leaseMs && fits 32 t.tag && fits 8 t.mode && fits 64 t.epoch

/-- A mirrored item (R394): grants of four ports and four groups; the codes of the registers it mirrors. -/
def MirrorItem.wf : MirrorItem → Bool
  | .grants epoch ports groups crc => fits 64 epoch && ports.length == 4 && groups.length == 4 && fits 32 crc
  | .loop _ x => x.region <= 3 && x.cand <= 3
  | .route _ state select => fits 8 state && fits 8 select
  | .session _ x => fits 8 x.state && fits 32 x.session && fits 8 x.protocol && x.evcc.length <= 32 && x.emaid.length <= 32 &&
      fits 16 x.account && fits 8 x.auth && fits 32 x.startSeq
  | .journal _ accts => accts.all fun a => fits 32 a.2.id && fits 32 a.2.lastRef

/-- What a boot finds: key slots 8 bits, four loops (R338, R462). -/
def BootFacts.wf (b : BootFacts) : Bool :=
  b.damaged.all (fits 8) && fits 4 b.loops && fits 32 b.misr && b.children.all (fits 32)

/-- Whether a command is one that the block's interfaces can carry. -/
def Instr.wf : Instr → Bool
  | .write src rq => src.wf && rq.wf
  | .writeSeg src rq => src.wf && rq.wf && rq.opcode == 4
  | .readSeg src rq => src.wf && rq.wf && rq.opcode == 3
  | .resRead h _ | .cmdRead h _ | .abort h _ | .ack h _ => h.wf
  | .commit h arg | .stageDiscard h arg | .configErase h arg | .sessionStop h arg | .slotSwitch h arg | .bist h arg
  | .calCapture h arg | .rehearsal h arg | .engineRebind h arg | .keyDestroy h arg | .accountTopup h arg
  | .civilTimeSet h arg | .dropRest h arg | .flush h arg => h.wf && fits 32 arg
  | .commitStored | .commitApply | .configEraseStored | .slotSwitchQuietBoundary | .slotSwitchWaitExpired
  | .bistDeferredReset | .calCaptureDone | .rehearsalSwap | .rehearsalWaitExpired | .rehearsalTakeTimeout => true
  | .blackoutEnd _ _ | .bistWindDownEnd _ | .rebindSwitch _ | .rebindRecorded _ => true
  | .bistDone misr children => fits 32 misr && children.all (fits 32)
  | .keyGenerate h slot rsv word => h.wf && fits 8 slot && fits 16 rsv && fits 64 word
  | .keyDerive h slot rsv word rest | .keyImport h slot rsv word rest =>
    h.wf && fits 8 slot && fits 16 rsv && fits 64 word && rest.length <= 1010
  | .keySlotErased slot => fits 8 slot
  | .csrSubjectWrite h data | .certResWrite h _ data | .vonTxBoxWrite h data | .updChunkWrite h data =>
    h.wf && data.length <= 1022
  | .remaskPass _ | .entropyFail | .entropyRecover => true
  | .keyRequest slot engine use => fits 8 slot && 8 <= engine && engine <= 12 && 3 <= use && use <= 7
  | .svnAdvance h v => h.wf && fits 16 v
  | .flushAtBoundary => true
  | .modeWordWrite h v | .ensignLatClear h v => h.wf && fits 8 v
  | .vaultEntry step => 2 <= step && step <= 6
  | .groupPark _ | .outletContactorDelayEnd _ | .classArrive _ | .forcedStop | .engineRestoreDone _ | .limpEnChange _ => true
  | .paceMeasure chains => chains.length == 21
  | .refclkLost | .pllUnlock | .pllRelock => true
  | .laneClockLost island => 4 <= island && island <= 6
  | .parityError _ level block cell _ | .ensignSingleBitError _ level block cell => level <= 3 && fits 8 block && fits 8 cell
  | .ensignUncorrectable _ block cell | .missingEndMark _ block cell | .cellStallTimeout _ block cell =>
    fits 8 block && fits 8 cell
  | .blockStallTimeout _ block => fits 8 block
  | .regionStallTimeout _ | .chipStallTimeout => true
  | .periodBoundary _ | .virtualBoundary _ | .timeActiveEnd _ | .endOff _ _ | .endOn _ _ | .onMaxHit _
  | .swnRegistered _ _ _ | .dtMaxExpiry _ | .syncSlot _ | .syncInPulse _ _ _ | .syncLost _ => true
  | .overrideWrite h _ v _ => h.wf && fits 8 v
  | .armHoldWrite h _ mask _ | .armRelease h _ mask _ => h.wf && fits 8 mask
  | .fltNAssert _ _ _ => true
  | .faultClear h _ mask | .countClear h _ mask => h.wf && fits 8 mask
  | .cmdSilenceTimeout _ | .loopSample _ _ _ _ _ | .edgeSample _ _ _ | .setpointDelivery _ _ | .setpFault _
  | .setpFaultClear _ | .ntcSample _ _ | .sensorValidReturn _ | .shedDecision _ | .shedWindowClose _ | .claimUpdate _ => true
  | .epochMark _ m => m.wf
  | .epochBoundary | .localEpochBoundary | .claimBlockInsert | .waveFreeze | .allocCalcDone _ | .ringIsolated
  | .markLaunch _ | .hoistSuccession => true
  | .waveBlockReceive src payload => fits 12 src && payload.length == 120
  | .closeMark _ hops epoch _ => fits 12 hops && fits 64 epoch
  | .slotReceive _ _ chars _ => chars.length == 127
  | .ownEnsignRelease _ => true
  | .portStop src port epoch => fits 12 src && fits 16 port && fits 16 epoch
  | .groupLoss src port lost => fits 12 src && fits 16 port && fits 16 lost
  | .groupLossSend _ legs => fits 8 legs
  | .dictRequestFrame f | .pennantRecordsFrame f | .streamerRecordsFrame f | .firmwareDataFrame f | .join f | .leave f
  | .roster f | .neighbourChange f | .evict f => f.wf
  | .dictResponseFrame node => fits 12 node
  | .joinSend | .joinRetry | .leaveSend => true
  | .rosterEvict h v => h.wf && fits 16 v
  | .wrap _ | .unwrap _ => true
  | .bypForceRelease h | .bypForceHold h => h.wf
  | .bypHoldDrive | .pairLaneUp _ | .pairLaneDown _ => true
  | .pilotStateChange _ x => decide (-14000 <= x.hi && x.hi <= 14000 && -14000 <= x.lo && x.lo <= 14000)
  | .ppChange _ _ | .slacMatch _ _ | .slacFail _ | .sdpRequest _ => true
  | .tlsHandshake _ x => x.client.all fun c => c.1.length <= 1024
  | .appProtocolHandshake _ entries => 1 <= entries.length && entries.length <= 20
  | .sessionSetup _ evcc => evcc.length <= 32
  | .serviceDiscovery _ | .serviceSelection _ _ | .authTimeout _ | .chargeParameterDiscovery _ _ | .scheduleExchange _
  | .cableCheckRequest _ => true
  | .authorization _ emaid chain => emaid.length <= 32 && chain.1.length <= 1024
  | .authWrite h _ v | .outletFaultClear h _ v => h.wf && fits 8 v
  | .cableCheckJudged _ _ duty => duty.all (· <= 1000)
  | .chkTimeout _ | .preCharge _ _ | .pchTimeout _ | .powerDelivery _ _ | .chargeLoopRequest _ _ _ _ _ _ _
  | .weldingDetection _ | .sessionStopReq _ => true
  | .meteringReceipt _ body | .certificateRequest _ body => body.length <= 1024
  | .certResTimeout _ | .unknownMessage _ | .feedingGroupsParked _ | .estopOpenExpiry _ | .contactorFeedback _ _ _
  | .ctrTimeout _ _ | .imdFault _ => true
  | .coolingStep _ ohms _ _ _ => ohms.length == 6
  | .flowLost _ | .inputValidReturn _ _ | .coolLoopSilent _ => true
  | .lsOnWrite h _ v | .lsClear h _ v => h.wf && fits 8 v
  | .shortTrip _ | .overloadTrip _ | .thermalTrip _ | .inrushWindowEnd _ _ | .lsRetry _ | .curtailEnd _
  | .retriesReload _ | .vsLsOutOfRange _ | .vsLsRestored => true
  | .pkgCurrentCheck _ currents => currents.length == 16
  | .openLoad _ _ | .channelThermalWarning _ _ _ | .failsafeTrigger _ | .fsWaitEnd _ => true
  | .heartbeatWord _ seq chk _ => fits 8 seq && fits 8 chk
  | .hbMaxExpiry => true
  | .wdRelease h v => h.wf && fits 8 v
  | .limpInChange _ _ _ => true
  | .metrologySample _ v i => fits 64 v && fits 64 i
  | .metrologyPublish | .mscrClockLost _ | .mscrClockReturn _ | .streamStuck _ _ | .demandBudgetDelivery _
  | .sealLoopSample _ | .legalRecordWritten | .meterEngineFenced _ | .billingBoundary _ | .registerCommit
  | .friendlyHoursChange => true
  | .acctIdWrite h v | .logAckSeqWrite h v => h.wf && fits 32 v
  | .dmdReset h v => h.wf && fits 8 v
  | .pennantRaise source event prio detailKind before extra =>
    fits 16 source && fits 12 event && prio <= 6 && detailKind <= 3 && fits 64 before && fits 64 extra
  | .traceRaise kind inst message length =>
    1 <= kind && kind <= 5 && inst < 32 && (if kind == 3 then fits 17 message && fits 32 length else message == 0 && length == 0)
  | .eqWordRead h | .eqPacketRead h => h.wf
  | .eqClear h v => h.wf && fits 16 v
  | .queuePacketWhole | .gapDue | .ringTokenGain | .ringOutboxSend _ | .traceOutboxSend => true
  | .coalWindowEnd source event => fits 16 source && fits 12 event
  | .renewSend | .standbySend | .leaseLapse => true
  | .renew t _ => t.wf
  | .release t | .claim t | .standby t => t.wf
  | .takeover _ | .claimSend | .driverConflict | .splitDetect => true
  | .mirrorItem item => item.wf
  | .vonMasterSlot => true
  | .vonReplyJudged paths word => paths.length <= 3 && word.all fun w => w.length == 104
  | .updOpen h | .updClose h | .updCancel h | .reboot h => h.wf
  | .updVerifyDone => true
  | .slotConfirm h mask => h.wf && fits 8 mask
  | .serviceRequestFrame _ | .serviceResponseFrame _ | .serviceFrameFault _ => true
  | .extest | .idcode | .clamp | .highz => true
  | .samplePreload pins preload => pins.length == preload.length
  | .bypass code => fits 6 code && !([0, 1, 2, 4, 5].contains code)
  | .tapLeaveReset | .trstNAssert _ | .powerOnResetRelease => true
  | .boot b => b.wf
  | .resetN _ | .lockstep | .watchdog | .testmodeHigh _ | .pfwRelease => true
  | .pfw x => x.below < 32
  | .resetRequest h v | .vevAckWrite h v => h.wf && fits 32 v
  | .mainsLost first out => fits 5 out && out.testBit first.val
  | .mainsReturned | .vbatLow | .vaultBrownOut | .tamperLoopSample _ _ | .wake _ | .rtcStop | .rtcRestart => true
  | .mtxFbChange _ _ | .routeFbTimeout _ | .dtMinExpiry _ | .periodMinExpiry _ | .acceptanceMinimumEnd _
  | .oePeerChange _ | .imdPwmEdgeLost _ | .partnerLeaseExpired => true

end Sys2Proof
end

