-- ==== Sys2Proof/Tests/Slice0.lean ====
section
/-! SUPPORT. Tests.Slice0: the checks of WellFormed, values worked out in the chapters, and for each statement with hypotheses states
that meet them, with what the statement then says of the next state. -/

namespace Sys2Proof.Tests

set_option maxRecDepth 100000
set_option Elab.async false

open Sys2Proof Sys2Proof.Machine

/-- What a test asks of the next state of a command. -/
def after (c : Instr) (s : State) (f : State → Bool) : Bool :=
  match exec c s with
  | .next t => f t
  | _ => false

/-- A state with some elements set to numbers. -/
def withN (s : State) (l : List (Nat × Nat)) : State := l.foldl (fun s e => s.putN e.1 e.2) s

/-- A state with some elements set to integers. -/
def withI (s : State) (l : List (Nat × Int)) : State := l.foldl (fun s e => s.put e.1 (.num e.2)) s

/-- The state after reset with some elements set. -/
def at_ (l : List (Nat × Nat)) : State := withN State.reset l

/-- A transaction of the service port. -/
def svc : Hdr := ⟨.service, 7⟩

/-- A write that passes every check (the statements' `Accepts`, decided). -/
def accepts (s : State) (h : Hdr) (k n : Nat) : Bool :=
  s.answersTo h.src && (match s.rowFor k with
    | some r => (match s.writeCheck h.src k (dataOf r.ty.size n) with | .ok _ => true | .error _ => false)
    | none => false)

/-- A write of a BLOB that passes them. -/
def acceptsBlob (s : State) (h : Hdr) (k : Nat) (data : List Byte) : Bool :=
  s.answersTo h.src && (match s.writeCheck h.src k (leBytes 2 data.length ++ data) with | .ok _ => true | .error _ => false)

/-- The last response answers a write with a status. -/
def answered (t : State) (h : Hdr) (st : Status) : Bool := t.dict.responses.getLast? == some ⟨h.src, 2, h.tag, st, []⟩

/-- The last response answers a read, OK with its data. -/
def readBack (t : State) (h : Hdr) (data : List Byte) : Bool := t.dict.responses.getLast? == some ⟨h.src, 1, h.tag, .ok, data⟩

/-- What `accepts` decides is what the statements assume. -/
theorem accepts_sound {s : State} {h : Hdr} {k n : Nat} (p : accepts s h k n = true) : Accepts s h k n := by
  unfold accepts at p
  rw [Bool.and_eq_true] at p
  refine ⟨p.1, ?_⟩
  split at p
  · rename_i r hr
    split at p
    · rename_i v hv; exact ⟨r, v, hr, hv⟩
    · exact absurd p.2 (by decide)
  · exact absurd p.2 (by decide)

/-- The same for a BLOB. -/
theorem acceptsBlob_sound {s : State} {h : Hdr} {k : Nat} {data : List Byte} (p : acceptsBlob s h k data = true) :
    AcceptsBlob s h k data := by
  unfold acceptsBlob at p
  rw [Bool.and_eq_true] at p
  refine ⟨p.1, ?_⟩
  split at p
  · rename_i v hv; exact ⟨v, hv⟩
  · exact absurd p.2 (by decide)

/-! ## WellFormed refuses each malformed operand -/

/-- A node address of 13 bits. -/
def badHdr : Hdr := ⟨.node 4096, 0⟩
/-- A TAG of 9 bits. -/
def badTag : Hdr := ⟨.service, 256⟩
/-- A well-formed frame, mark, token and boot, to spoil one field of. -/
def frame0 : Frame := ⟨1, 2, 3, 4, true, [0]⟩
def mark0 : Mark := ⟨1, 0, false, 2, 3, 2000000, 4, false, false, []⟩
def token0 : Token := ⟨0, 0, 0, 0, 0, 0⟩
def boot0 : BootFacts := ⟨0, true, [], 0, false, 0, []⟩
def rq0 : Request := ⟨2, 0, 1, 0, 0, 0, 1, 0, [0]⟩
def session0 : SessionImage := ⟨0, 0, 0, [], [], 0, 0, 0⟩
def loop0 : LoopImage := ⟨0, false, 0, 0, 0, 0, 0, 0, 0, 0, 0, []⟩
def acct0 : AcctImage := ⟨0, 0, 0, 0, false, 0, 0, none⟩

theorem test_wf_transactions : ([.write (.node 4096) rq0, .write .service { rq0 with opcode := 256 },
    .write .service { rq0 with tag := 256 }, .write .service { rq0 with group := 256 },
    .write .service { rq0 with object := 256 }, .write .service { rq0 with element := 256 },
    .write .service { rq0 with reserved := 256 }, .write .service { rq0 with length := 65536 },
    .write .service { rq0 with offset := 4294967296 }, .writeSeg .service rq0, .writeSeg (.node 4096) { rq0 with opcode := 4 },
    .readSeg .service rq0, .readSeg .service { rq0 with opcode := 3, tag := 256 }, .resRead badHdr .commit,
    .cmdRead badTag .commit, .abort badHdr .bist, .ack badTag .bist] : List Instr).all (fun i => !i.wf) = true := by decide +kernel

theorem test_wf_commands : ([.commit svc 4294967296, .stageDiscard badTag 0, .configErase svc 4294967296, .sessionStop badHdr 0,
    .slotSwitch svc 4294967296, .bist svc 4294967296, .calCapture svc 4294967296, .rehearsal svc 4294967296,
    .engineRebind svc 4294967296, .keyDestroy svc 4294967296, .accountTopup svc 4294967296, .civilTimeSet svc 4294967296,
    .dropRest svc 4294967296, .flush svc 4294967296, .bistDone 4294967296 [], .bistDone 0 [4294967296]] : List Instr).all
    (fun i => !i.wf) = true := by decide +kernel

theorem test_wf_keys : ([.keyGenerate svc 256 0 0, .keyGenerate svc 8 65536 0, .keyGenerate svc 8 0 (2 ^ 64),
    .keyDerive svc 256 0 0 [], .keyDerive svc 8 0 0 (zeros 1011), .keyImport badTag 8 0 0 [], .keySlotErased 256,
    .csrSubjectWrite svc (zeros 1023), .keyRequest 256 8 3, .keyRequest 8 7 3, .keyRequest 8 13 3, .keyRequest 8 8 2,
    .keyRequest 8 8 8, .svnAdvance svc 65536] : List Instr).all (fun i => !i.wf) = true := by decide +kernel

theorem test_wf_modes_and_fabric : ([.modeWordWrite svc 256, .vaultEntry 1, .vaultEntry 7, .paceMeasure [1, 2],
    .ensignLatClear svc 256, .laneClockLost 3, .laneClockLost 7, .parityError 0 4 0 0 false, .parityError 0 0 256 0 false,
    .ensignSingleBitError 0 0 0 256, .ensignUncorrectable 0 256 0, .missingEndMark 0 0 256, .cellStallTimeout 0 256 0,
    .blockStallTimeout 0 256, .overrideWrite svc 0 256 0, .armHoldWrite svc 0 256 0, .armRelease svc 0 256 0,
    .faultClear svc 0 256, .countClear svc 0 256] : List Instr).all (fun i => !i.wf) = true := by decide +kernel

theorem test_wf_ring : ([.epochMark 0 { mark0 with src := 4096 }, .epochMark 0 { mark0 with hops := 4096 },
    .epochMark 0 { mark0 with epoch := 2 ^ 64 }, .epochMark 0 { mark0 with tag := 4294967296 },
    .epochMark 0 { mark0 with period := 4294967296 }, .epochMark 0 { mark0 with nodes := 65536 },
    .epochMark 0 { mark0 with changes := List.replicate 9 ⟨1, 1, 0, 0, 0⟩ },
    .epochMark 0 { mark0 with changes := [⟨65536, 1, 0, 0, 0⟩] }, .epochMark 0 { mark0 with changes := [⟨1, 256, 0, 0, 0⟩] },
    .epochMark 0 { mark0 with changes := [⟨1, 1, 256, 0, 0⟩] }, .epochMark 0 { mark0 with changes := [⟨1, 1, 0, 4294967296, 0⟩] },
    .epochMark 0 { mark0 with changes := [⟨1, 1, 0, 0, 4294967296⟩] }, .waveBlockReceive 4096 (zeros 120),
    .waveBlockReceive 1 (zeros 119), .closeMark 0 4096 0 0, .closeMark 0 0 (2 ^ 64) 0, .slotReceive 0 .full (zeros 126) 0,
    .portStop 4096 0 0, .portStop 0 65536 0, .portStop 0 0 65536, .groupLoss 4096 0 0, .groupLoss 0 65536 0,
    .groupLoss 0 0 65536, .groupLossSend 0 256, .dictResponseFrame 4096, .rosterEvict svc 65536, .bypForceRelease badTag,
    .bypForceHold badHdr] : List Instr).all (fun i => !i.wf) = true := by decide +kernel

theorem test_wf_frames : ([.dictRequestFrame { frame0 with src := 4096 }, .pennantRecordsFrame { frame0 with dest := 65536 },
    .streamerRecordsFrame { frame0 with id := 65536 }, .firmwareDataFrame { frame0 with epoch := 4294967296 },
    .join { frame0 with data := [] }, .leave { frame0 with data := zeros 1893 }, .roster { frame0 with src := 4096 },
    .neighbourChange { frame0 with data := [] }, .evict { frame0 with data := [] }] : List Instr).all
    (fun i => !i.wf) = true := by decide +kernel

theorem test_wf_outlets : ([.appProtocolHandshake 0 [], .appProtocolHandshake 0 (List.replicate 21 0),
    .sessionSetup 0 (zeros 33), .authorization 0 (zeros 33) ([], 0), .authWrite svc 0 256, .outletFaultClear svc 0 256,
    .cableCheckJudged 0 true (some 1001), .meteringReceipt 0 (zeros 1025), .certificateRequest 0 (zeros 1025),
    .certResWrite svc 0 (zeros 1023), .coolingStep 0 [1, 2] 0 1 0] : List Instr).all (fun i => !i.wf) = true := by decide +kernel

theorem test_wf_switches_and_meters : ([.lsOnWrite svc 0 256, .lsClear svc 0 256, .pkgCurrentCheck 0 [], .heartbeatWord true 256 0 0,
    .heartbeatWord true 0 256 0, .wdRelease svc 256, .metrologySample 0 (2 ^ 64) 0, .metrologySample 0 0 (2 ^ 64),
    .acctIdWrite svc 4294967296, .logAckSeqWrite svc 4294967296, .dmdReset svc 256] : List Instr).all
    (fun i => !i.wf) = true := by decide +kernel

theorem test_wf_events : ([.pennantRaise 65536 0 0 0 0 0, .pennantRaise 0 4096 0 0 0 0, .pennantRaise 0 0 7 0 0 0,
    .pennantRaise 0 0 0 4 0 0, .pennantRaise 0 0 0 0 (2 ^ 64) 0, .pennantRaise 0 0 0 0 0 (2 ^ 64), .traceRaise 0 0 0 0,
    .traceRaise 6 0 0 0, .traceRaise 1 256 0 0, .traceRaise 4 0 (2 ^ 64) 0, .eqWordRead badTag, .eqPacketRead badHdr,
    .eqClear svc 65536, .coalWindowEnd 65536 0, .coalWindowEnd 0 4096] : List Instr).all (fun i => !i.wf) = true := by decide +kernel

theorem test_wf_pair_and_voner : ([.renew { token0 with flags := 256 } 0, .release { token0 with seq := 4294967296 },
    .claim { token0 with leaseMs := 4294967296 }, .standby { token0 with tag := 4294967296 },
    .standby { token0 with mode := 256 }, .standby { token0 with epoch := 2 ^ 64 },
    .mirrorItem (.grants (2 ^ 64) [0, 0, 0, 0] [0, 0, 0, 0] 0), .mirrorItem (.grants 0 [0] [0, 0, 0, 0] 0),
    .mirrorItem (.grants 0 [0, 0, 0, 0] [0] 0), .mirrorItem (.grants 0 [0, 0, 0, 0] [0, 0, 0, 0] 4294967296),
    .mirrorItem (.loop 0 { loop0 with region := 4 }), .mirrorItem (.loop 0 { loop0 with cand := 4 }),
    .mirrorItem (.route 0 256 0), .mirrorItem (.route 0 0 256), .mirrorItem (.session 0 { session0 with state := 256 }),
    .mirrorItem (.session 0 { session0 with session := 4294967296 }), .mirrorItem (.session 0 { session0 with protocol := 256 }),
    .mirrorItem (.session 0 { session0 with evcc := zeros 33 }), .mirrorItem (.session 0 { session0 with emaid := zeros 33 }),
    .mirrorItem (.session 0 { session0 with account := 65536 }), .mirrorItem (.session 0 { session0 with auth := 256 }),
    .mirrorItem (.session 0 { session0 with startSeq := 4294967296 }),
    .mirrorItem (.journal [] [(0, { acct0 with id := 4294967296 })]),
    .mirrorItem (.journal [] [(0, { acct0 with lastRef := 4294967296 })]), .vonReplyJudged (List.replicate 4 ⟨true, 0, []⟩) none,
    .vonReplyJudged [] (some (zeros 103)), .vonTxBoxWrite svc (zeros 1023)] : List Instr).all (fun i => !i.wf) = true := by decide +kernel

theorem test_wf_service_and_power : ([.updOpen badHdr, .updChunkWrite svc (zeros 1023), .updClose badTag, .updCancel badTag,
    .reboot badTag, .slotConfirm svc 256, .samplePreload [true] [], .bypass 64, .bypass 2, .boot { boot0 with damaged := [256] },
    .boot { boot0 with loops := 16 }, .boot { boot0 with misr := 4294967296 }, .boot { boot0 with children := [4294967296] },
    .resetRequest svc 4294967296, .mainsLost 0 32, .mainsLost 0 2, .vevAckWrite svc 4294967296] : List Instr).all
    (fun i => !i.wf) = true := by decide +kernel

theorem test_wf_accepts : ([.write .service rq0, .epochMark 0 mark0, .join frame0, .standby token0, .boot boot0, .keyRequest 8 12 7,
    .vaultEntry 6, .bypass 0x3F, .mainsLost 4 16, .coolingStep 0 (List.replicate 6 1000000) 0 1 0,
    .mirrorItem (.session 0 session0)] : List Instr).all Instr.wf = true := by decide +kernel

/-! ## Chapter 02 -/

/-- A request of the service port. -/
def req (opcode length offset : Nat) (data : List Byte) (k : Nat) : Request :=
  ⟨opcode, 9, k / 65536, k / 256 % 256, k % 256, 0, length, offset, data⟩

theorem witness_framing : ([req 0 0 0 [] 0, req 5 0 0 [] 0, req 2 1025 0 (zeros 1025) 0, req 2 2 0 [0] 0, req 1 1 0 [0] 0,
    req 3 1 0 [0] 0, req 1 0 1 [] 0, req 2 0 1 [] 0].all fun rq =>
      !framingOk rq && State.reset.answersTo .service && after (.write .service rq) State.reset fun t =>
        t.dict.responses.getLast? == some ⟨.service, rq.opcode, 9, .typeError, []⟩) = true := by decide +kernel

theorem test_framing_boundary : framingOk (req 2 1024 0 (zeros 1024) 0) = true ∧ framingOk (req 4 1 5 [0] 0) = true ∧
    framingOk (req 3 0 5 [] 0) = true := by decide +kernel

theorem witness_read_of_an_idle_result :
    (let s : State := State.reset;
      decide (s.answersTo svc.src) && decide (s.nat Reg.BOOT_STATE ≠ 3) &&
      after (.resRead svc .bist) s fun t =>
      decide (readBack t svc (zeros 16))) = true := by decide +kernel

theorem witness_read_of_a_cmd :
    (let s : State := State.reset;
      decide (s.nat Reg.BOOT_STATE ≠ 3) &&
      after (.cmdRead svc .bist) s fun t =>
      decide (t.dict.responses.getLast? = some ⟨.service, 1, 7, .writeOnly, zeros 4⟩)) = true := by decide +kernel

theorem witness_read_seg_of_nothing :
    (let s : State := State.reset;
      decide (s.rowFor 0xFFFFFF = none) && decide (framingOk (req 3 0 0 [] 0xFFFFFF)) &&
      after (.readSeg .service (req 3 0 0 [] 0xFFFFFF)) s fun t =>
      decide (t.dict.responses.getLast? = some ⟨.service, 3, 9, .noSuchObject, []⟩)) = true := by decide +kernel

theorem witness_write_is_staged :
    (let s : State := State.reset;
      decide (accepts s svc Reg.STOP_TIMEOUT 60000)
      && decide (stageFits (stagePut s.dict.staging Reg.STOP_TIMEOUT (.num 60000))) &&
      after (.write .service (writeOf 7 Reg.STOP_TIMEOUT (leBytes 4 60000))) s fun t =>
      decide (answered t svc .ok) && decide (t.dict.staging = [(Reg.STOP_TIMEOUT, .num 60000)])
      && decide (t.nat Reg.STAGE_COUNT = 1) && decide (t.nat Reg.STOP_TIMEOUT = 5000)) = true := by decide +kernel

theorem witness_staging_area_full :
    (let s : State := { State.reset with dict := { State.reset.dict with staging := List.replicate 2048 (Reg.BOOT_MODE, .num 0) } };
      decide (accepts s svc Reg.STOP_TIMEOUT 60000)
      && decide (stageFits (stagePut s.dict.staging Reg.STOP_TIMEOUT (.num 60000)) = false) &&
      after (.write .service (writeOf 7 Reg.STOP_TIMEOUT (leBytes 4 60000))) s fun t =>
      decide (answered t svc .stageFull) && decide (t.dict.staging.length = 2048)) = true := by decide +kernel

theorem witness_read_seg_of_a_blob :
    (let s : State := State.reset;
      decide ((match s.rowFor Reg.CSR_SUBJECT with | some r => decide (r.ty = .blob) && !writeOnly r | none => false) = true)
      && decide (framingOk (req 3 0 1 [] Reg.CSR_SUBJECT) ∧ 1 ≤ (encodeVal .blob (s.show Reg.CSR_SUBJECT)).length) &&
      after (.readSeg .service (req 3 0 1 [] Reg.CSR_SUBJECT)) s fun t =>
      decide (t.dict.responses.getLast? = some ⟨.service, 3, 9, .ok, [0]⟩)) = true := by decide +kernel

theorem witness_read_seg_beyond_the_end :
    (let s : State := State.reset;
      decide ((encodeVal .blob (s.show Reg.CSR_SUBJECT)).length < 3) &&
      after (.readSeg .service (req 3 0 3 [] Reg.CSR_SUBJECT)) s fun t =>
      decide (t.dict.responses.getLast? = some ⟨.service, 3, 9, .rangeError, []⟩)) = true := by decide +kernel

theorem witness_read_seg_of_a_number :
    (let s : State := State.reset;
      decide ((match s.rowFor Reg.PART_ID with | some r => decide (r.ty ≠ .blob) && !writeOnly r | none => false) = true) &&
      after (.readSeg .service (req 3 0 0 [] Reg.PART_ID)) s fun t =>
      decide (t.dict.responses.getLast? = some ⟨.service, 3, 9, .typeError, []⟩)) = true := by decide +kernel

theorem witness_segment_gathers :
    (let s : State := State.reset;
     
      decide ((match s.writeGate .service Reg.CSR_SUBJECT with | .ok r => decide (r.ty = .blob ∧ blobMax r = 257) | _ => false) = true) &&
      after (.writeSeg .service (req 4 2 0 (leBytes 2 1) Reg.CSR_SUBJECT)) s fun t =>
      decide (t.dict.seg = some ⟨Reg.CSR_SUBJECT, 3, leBytes 2 1⟩)
      && decide (t.dict.responses.getLast? = some ⟨.service, 4, 9, .ok, []⟩)) = true := by decide +kernel

theorem witness_segment_too_long :
    (let s : State := State.reset;
      after (.writeSeg .service (req 4 2 0 (leBytes 2 258) Reg.CSR_SUBJECT)) s fun t =>
      decide (t.dict.responses.getLast? = some ⟨.service, 4, 9, .rangeError, []⟩)) = true := by decide +kernel

theorem witness_commit_with_entries :
    (let s : State := { State.reset with dict := { State.reset.dict with staging := [(Reg.STOP_TIMEOUT, .num 100)] } };
      decide (accepts s svc (cmdBase .commit + 1) 0) &&
      after (.commit svc 0) s fun t =>
      decide (t.dict.commitSet = s.dict.staging) && decide (t.nat Reg.COMMIT_STATE = 1)
      && decide ((t.res .commit).status = .pending)) = true := by decide +kernel

theorem witness_commit_without_entries :
    (let s : State := State.reset;
      decide (accepts s svc (cmdBase .commit + 1) 0) && decide (s.dict.staging = []) &&
      after (.commit svc 0) s fun t =>
      decide (t.nat Reg.COMMIT_STATE = 3 ∧ t.nat Reg.COMMIT_SEQ = s.nat Reg.COMMIT_SEQ)
      && decide ((t.res .commit).status = .completed ∧ (t.res .commit).detail = 0 ∧ (t.res .commit).value = s.commitValue)) = true := by decide +kernel

theorem witness_commit_stored :
    (let s : State := { at_ [(Reg.COMMIT_STATE, 1), (Reg.ROLE_ACTIVE, 4096), (Reg.RING_STATUS, 1)] with dict := { State.reset.dict with commitSet := [(Reg.STOP_TIMEOUT, .num 100)] } };
      decide (s.powered) && decide (s.waitsEpoch) && decide (s.dict.erasing = false) &&
      after (.commitStored) s fun t =>
      decide (t.nat Reg.COMMIT_STATE = 2 ∧ t.dict.blank = false ∧ t.dict.journalled)
      && decide (t.dict.journal = s.dict.commitSet)) = true := by decide +kernel

theorem witness_commit_stored_off_a_ring :
    (let s : State := { at_ [(Reg.COMMIT_STATE, 1)] with dict := { State.reset.dict with commitSet := [(Reg.STOP_TIMEOUT, .num 100)], blank := true } };
      decide (s.powered ∧ s.waitsEpoch = false ∧ s.dict.erasing = false ∧ s.dict.commitErased = false) &&
      after (.commitStored) s fun t =>
     
      decide (t.nat Reg.COMMIT_STATE = 3 ∧ (t.res .commit).status = .completed ∧ (t.res .commit).value = t.commitValue ∧ t.dict.blank = false)) = true := by decide +kernel

theorem witness_commit_applied :
    (let s : State := { at_ [(Reg.COMMIT_STATE, 2)] with dict := { State.reset.dict with commitSet := [(Reg.STOP_TIMEOUT, .num 100)] }, ring := { State.reset.ring with due := true } };
      decide (s.powered) && decide (s.ring.due) &&
      after (.commitApply) s fun t =>
      decide (t.nat Reg.STOP_TIMEOUT = 100) && decide (t.nat Reg.COMMIT_STATE = 3)
      && decide ((t.res .commit).status = .completed ∧ (t.res .commit).value = t.commitValue ∧ (t.res .commit).detail = 0)) = true := by decide +kernel

theorem witness_erase_refused :
    (let s : State := at_ [(Reg.MODE_WORD, 0)];
      decide (accepts s svc (cmdBase .configErase + 1) 0xE4A5) &&
      after (.configErase svc 0xE4A5) s fun t =>
      decide ((t.res .configErase).status = .refused) && decide ((t.res .configErase).detail = 1)) = true := by decide +kernel

theorem witness_erase_taken :
    (let s : State := { State.reset with dict := { State.reset.dict with store := [(Reg.STOP_TIMEOUT, .num 100)] } };
      decide (accepts s svc (cmdBase .configErase + 1) 0xE4A5) &&
      after (.configErase svc 0xE4A5) s fun t =>
     
      decide (t.dict.store = s.dict.store ∧ t.dict.blank = s.dict.blank ∧ t.dict.erasing ∧ (t.res .configErase).status = .pending)
      && decide (t.dict.billHold = s.dict.billHold ∧ t.nat Reg.MODE_WORD = s.nat Reg.MODE_WORD)) = true := by decide +kernel

theorem witness_erase_stored :
    (let s : State := { State.reset with dict := { State.reset.dict with erasing := true, store := [(Reg.STOP_TIMEOUT, .num 100)] } };
      decide (s.powered) && decide (s.dict.commitErased = false) &&
      after (.configEraseStored) s fun t =>
      decide (t.dict.erasing = false ∧ t.dict.store = [] ∧ t.dict.blank) && decide ((t.res .configErase).status = .completed)) = true := by decide +kernel

theorem witness_abort_too_late :
    (let s : State := State.reset.setRes .bist { State.reset.res .bist with status := .completed };
      decide (accepts s svc (cmdBase .bist + 3) 1) &&
      after (.abort svc .bist) s fun t =>
      decide ((t.res .bist).abortLate)) = true := by decide +kernel

theorem witness_abort_of_an_idle_result :
    (let s : State := State.reset;
      decide (accepts s svc (cmdBase .bist + 3) 1) &&
      after (.abort svc .bist) s fun t =>
      decide (t.res .bist = s.res .bist)) = true := by decide +kernel

theorem witness_abort_never_abortable :
    (let s : State := State.reset.setRes .commit { State.reset.res .commit with status := .pending };
      decide (accepts s svc (cmdBase .commit + 3) 1) &&
      after (.abort svc .commit) s fun t =>
      decide (answered t svc .accessError)) = true := by decide +kernel

theorem witness_ack_pending :
    (let s : State := State.reset.setRes .commit { State.reset.res .commit with status := .pending };
      decide (accepts s svc (cmdBase .commit + 3) 2) &&
      after (.ack svc .commit) s fun t =>
      decide (answered t svc .busy)) = true := by decide +kernel

theorem witness_ack_final :
    (let s : State := State.reset.setRes .commit { State.reset.res .commit with status := .refused, detail := 1 };
      decide (accepts s svc (cmdBase .commit + 3) 2) &&
      after (.ack svc .commit) s fun t =>
      decide ((t.res .commit).encode = zeros 16)) = true := by decide +kernel

theorem witness_ack_idle :
    (let s : State := State.reset;
      decide (accepts s svc (cmdBase .commit + 3) 2) &&
      after (.ack svc .commit) s fun t =>
      decide (t.res .commit = s.res .commit)) = true := by decide +kernel

theorem witness_stage_discard :
    (let s : State := { State.reset with dict := { State.reset.dict with staging := [(Reg.STOP_TIMEOUT, .num 100)] } };
      decide (accepts s svc (cmdBase .stageDiscard + 1) 0) &&
      after (.stageDiscard svc 0) s fun t =>
      decide (t.dict.staging = [] ∧ t.dict.seg = none ∧ t.nat Reg.STAGE_COUNT = 0)
      && decide ((t.res .stageDiscard).value = 1)) = true := by decide +kernel

theorem witness_stage_discard_range :
    (let s : State := State.reset;
      decide ((match s.writeGate .service (cmdBase .stageDiscard + 1) with | .ok _ => true | _ => false) = true)
      && decide (s.isPending .stageDiscard = false) &&
      after (.stageDiscard svc 1) s fun t =>
      decide (answered t svc .rangeError)) = true := by decide +kernel

theorem witness_write_not_authorised :
    (let s : State := State.reset;
      decide (s.answersTo (.node 5)) && decide (s.mayWrite (.node 5) = false) &&
      after (.write (.node 5) (writeOf 7 Reg.STOP_TIMEOUT [])) s fun t =>
      decide (t.dict.responses.getLast? = some ⟨.node 5, 2, 7, .notAuthorised, []⟩)) = true := by decide +kernel

theorem witness_write_read_only :
    (let s : State := State.reset;
      decide (s.mayWrite .service) && decide (s.rowFor Reg.PART_ID ≠ none) &&
      after (.write .service (writeOf 7 Reg.PART_ID [])) s fun t =>
      decide (answered t svc .accessError)) = true := by decide +kernel

theorem witness_result_counted :
    (let s : State := State.reset.setRes .commit { State.reset.res .commit with status := .completed, readCount := 1 };
      decide (s.answersTo svc.src) &&
      after (.resRead svc .commit) s fun t =>
      decide ((t.res .commit).readCount = 2)) = true := by decide +kernel

/-- A step takes the front command (R41). -/
theorem witness_step_takes_the_front : (match step { State.reset with pending := [.limpEnChange true, .rtcStop] } with
    | .next t => decide (t.modes.limpEn = true ∧ t.pending = [.rtcStop])
    | _ => false) = true := by decide +kernel

theorem witness_reset_is_canonical : (objWf State.reset.objs && objWf State.reset.dict.store && memWf State.reset.upd.mem &&
    heldAll State.reset.dict.billHold) = true := by decide +kernel

/-! ## Chapters 03 and 04 -/

/-- A state whose classes have reached given behaviours. -/
def withBeh (s : State) (l : List (Fin 8 × Beh)) : State := l.foldl (fun s e => s.setBeh e.1 e.2) s

/-- A state with a group changed. -/
def withGroup (s : State) (g : Fin 4) (f : Group → Group) : State := s.setGroup g (f s.groups[g])

theorem witness_mode_word_write :
    (let s : State := State.reset;
      decide (accepts s svc Reg.MODE_WORD 0x48) &&
      after (.modeWordWrite svc 0x48) s fun t =>
      decide (t.nat Reg.MODE_WORD = 0x48) && decide (t.nat Reg.MODE_CHANGES = 1)
      && decide (t.nat Reg.MODE_TRANSIT = t.transit)) = true := by decide +kernel

theorem witness_mode_word_vault :
    (let s : State := State.reset;
      decide (accepts s svc Reg.MODE_WORD 0xC5) &&
      after (.modeWordWrite svc 0xC5) s fun t =>
      decide (t.nat Reg.MODE_WORD = 0x80)) = true := by decide +kernel

theorem witness_class_arrives_first :
    (let s : State := at_ [(Reg.MODE_WORD, 0x08)];
      decide (s.powered ∧ s.onTheWay 0 ∧ s.mayArrive 0) &&
      after (.classArrive 0) s fun t =>
      decide (t.beh 0 = .track)) = true := by decide +kernel

theorem witness_class_arrives_last :
    (let s : State := at_ [(Reg.MODE_WORD, 0x40)];
      decide (s.powered ∧ s.onTheWay 7 ∧ s.mayArrive 7) &&
      after (.classArrive 7) s fun t =>
      decide (t.beh 7 = .low)) = true := by decide +kernel

theorem witness_engines_restored :
    (let s : State := { at_ [(Reg.MODE_WORD, 0x02)] with modes := { State.reset.modes with restoring := State.reset.modes.restoring.set 0 true } };
      decide (s.powered ∧ s.modes.restoring[(0 : Fin 8)] ∧ s.targetBeh 6 = .run) &&
      after (.engineRestoreDone 0) s fun t =>
      decide (t.modes.restoring[(0 : Fin 8)] = false) && decide (t.beh 6 = .run)) = true := by decide +kernel

theorem witness_group_parks :
    (let s : State := withGroup (withBeh State.reset [(0, .run)]) 3 fun g => { g with parked := false };
      decide (s.powered ∧ s.groupZero 3 ∧ s.phasesRun ∧ s.phasesLeave ∧ s.allParked = false) &&
      after (.groupPark 3) s fun t =>
      decide (t.groups[(3 : Fin 4)].parked)) = true := by decide +kernel

theorem witness_contactor_delay_ends :
    (let s : State := { at_ [(Reg.OUT_STATE 3, 8)] with modes := { State.reset.modes with ctrDelay := State.reset.modes.ctrDelay.set 3 true } };
      decide (s.powered ∧ s.modes.ctrDelay[(3 : Fin 4)] ∧ s.outState 3 = 8) &&
      after (.outletContactorDelayEnd 3) s fun t =>
      decide (t.modes.ctrDelay[(3 : Fin 4)] = false)) = true := by decide +kernel

theorem witness_contactor_delay_ends_closed :
    (let s : State := { at_ [(Reg.OUT_STATE 0, 8), (Reg.CTR_STATE 0, 0xF)] with modes := { State.reset.modes with ctrDelay := State.reset.modes.ctrDelay.set 0 true } };
      decide (s.powered ∧ s.modes.ctrDelay[(0 : Fin 4)] ∧ s.outState 0 = 8 ∧ s.ctr 0 2) &&
      after (.outletContactorDelayEnd 0) s fun t =>
      decide (t.outState 0 = 9 ∧ t.ctr 0 0 = false)) = true := by decide +kernel

theorem witness_forced_stop_with_a_contactor :
    (let s : State := { at_ [(Reg.CTR_STATE 2, 0xF)] with modes := { State.reset.modes with stopping := true } };
      decide (s.powered ∧ s.modes.stopping ∧ s.someCtrClosed) &&
      after (.forcedStop) s fun t =>
      decide (t.nat Reg.FORCED_STOPS = 1 ∧ t.allParked)) = true := by decide +kernel

theorem witness_forced_stop :
    (let s : State := (withGroup { State.reset with modes := { State.reset.modes with stopping := true } } 1 fun g => { g with parked := false });
      decide (s.powered ∧ s.modes.stopping ∧ s.allParked = false) &&
      after (.forcedStop) s fun t =>
      decide (t.nat Reg.FORCED_STOPS = 1) && decide (t.allParked)) = true := by decide +kernel

theorem witness_vault_step :
    (let s : State := at_ [(Reg.MODE_WORD, 0x80)];
      decide (s.powered ∧ s.modes.vaultStep = 0 ∧ s.vaultStopped ∧ s.power.pfw = false) &&
      after (.vaultEntry 2) s fun t =>
      decide (t.modes.vaultStep = 2) && decide (t.beh 2 = .off)) = true := by decide +kernel

theorem witness_vault_integration_stops :
    (let s : State := { at_ [(Reg.MODE_WORD, 0x80)] with modes := { State.reset.modes with vaultStep := 2 } };
      decide (s.powered ∧ s.power.pfw = false) &&
      after (.vaultEntry 3) s fun t =>
      decide (t.modes.vaultStep = 3 ∧ t.modes.meterStopped)) = true := by decide +kernel

theorem witness_vault_journal_written :
    (let s : State := { at_ [(Reg.MODE_WORD, 0x80)] with modes := { State.reset.modes with vaultStep := 3 } };
      decide (s.powered ∧ s.power.pfw = false ∧ s.nat Reg.COMMIT_STATE ≠ 1 ∧ s.dict.erasing = false) &&
      after (.vaultEntry 4) s fun t =>
      decide (t.modes.vaultStep = 4)) = true := by decide +kernel

theorem witness_vault_ring_left :
    (let s : State := { at_ [(Reg.MODE_WORD, 0x80)] with modes := { State.reset.modes with vaultStep := 4 } };
      decide (s.powered ∧ s.power.pfw = false ∧ s.isMember = false) &&
      after (.vaultEntry 5) s fun t =>
      decide (t.modes.vaultStep = 5 ∧ t.beh 3 = .bypassed)) = true := by decide +kernel

theorem witness_vault_power_removed :
    (let s : State := { at_ [(Reg.MODE_WORD, 0x80)] with modes := { State.reset.modes with vaultStep := 5 } };
      decide (s.powered ∧ s.power.pfw = false ∧ s.power.wakePending = none) &&
      after (.vaultEntry 6) s fun t =>
      decide (t.modes.vaultStep = 6 ∧ t.power.inVault ∧ t.powered = false)) = true := by decide +kernel

theorem witness_limp_pin :
    (let s : State := State.reset;
      after (.limpEnChange true) s fun t =>
      decide (t.modes.limpEn ∧ t.nat Reg.MODE_CHANGES = 1)) = true := by decide +kernel

theorem witness_pace_below_floor :
    (let s : State := State.reset;
      decide (s.powered ∧ bit (s.nat Reg.FABRIC_STATUS) 1 = false)
) = true := by decide +kernel

theorem witness_pace_capped :
    (let s : State := State.reset;
      after (.paceMeasure (List.replicate 21 5000)) s fun t =>
      decide (t.nat Reg.PACE = 4000) && decide (bit (t.nat Reg.FABRIC_STATUS) 0 = false)) = true := by decide +kernel

theorem witness_refclk_lost :
    (let s : State := withGroup (at_ [(Reg.PACE, 900)]) 0 fun g => { g with claims := true };
      decide (s.powered) &&
      after (.refclkLost) s fun t =>
      decide (bit (t.nat Reg.FABRIC_STATUS) 1 ∧ t.nat Reg.PACE = 0 ∧ t.hardOff 31 ∧ t.groups[(0 : Fin 4)].claims = false)) = true := by decide +kernel

theorem witness_pll_unlock :
    (let s : State := State.reset;
      decide (s.powered ∧ bit (s.nat Reg.FABRIC_STATUS) 1 = false ∧ bit (s.nat Reg.FABRIC_STATUS) 2 = false) &&
      after (.pllUnlock) s fun t =>
      decide (bit (t.nat Reg.FABRIC_STATUS) 2 ∧ t.hardOff 0)) = true := by decide +kernel

theorem witness_pll_relock :
    (let s : State := at_ [(Reg.FABRIC_STATUS, 6)];
      decide (s.powered ∧ s.clockLost) &&
      after (.pllRelock) s fun t =>
      decide (t.nat Reg.FABRIC_STATUS = 0) && decide (t.fab.clockHold)) = true := by decide +kernel

theorem witness_lane_clock :
    (let s : State := State.reset;
      decide (s.powered) &&
      after (.laneClockLost 4) s fun t =>
      decide (t.nat (Reg.ISLAND_STATE 4) = 3) && decide (t.nat (Reg.ISLAND_STATE 5) = s.nat (Reg.ISLAND_STATE 5))) = true := by decide +kernel

theorem witness_latencies_cleared :
    (let s : State := at_ [(Reg.LAT_EVENT_TO_RING, 5), (Reg.LAT_EPOCH_TO_LOOP, 6), (Reg.LAT_SAMPLE_TO_PWM, 7)];
      decide (accepts s svc Reg.ENSIGN_LAT_CLEAR 1) &&
      after (.ensignLatClear svc 1) s fun t =>
      decide (t.nat Reg.LAT_EVENT_TO_RING = 0 ∧ t.nat Reg.LAT_EPOCH_TO_LOOP = 0 ∧ t.nat Reg.LAT_SAMPLE_TO_PWM = 0)) = true := by decide +kernel

theorem witness_parity_second :
    (let s : State := at_ [(Reg.FAB_ERR_COUNT 7, 4294967295)];
      decide (s.powered)
) = true := by decide +kernel

theorem witness_single_bit :
    (let s : State := State.reset;
      decide (s.powered) &&
      after (.ensignSingleBitError 0 1 2 3) s fun t =>
      decide (t.nat (Reg.FAB_ERR_COUNT 1) = 1 ∧ field (t.nat Reg.LAST_FAB_ERR) 7 0 = 2)) = true := by decide +kernel

theorem witness_uncorrectable :
    (let s : State := State.reset;
      decide (s.powered)
) = true := by decide +kernel

theorem witness_missing_end_mark :
    (let s : State := State.reset;
      decide (s.powered)
) = true := by decide +kernel

theorem witness_cell_stall :
    (let s : State := State.reset;
      decide (s.powered)
) = true := by decide +kernel

theorem witness_block_stall :
    (let s : State := State.reset;
      decide (s.powered)
) = true := by decide +kernel

theorem witness_region_stall :
    (let s : State := State.reset;
      decide (s.powered)
) = true := by decide +kernel

theorem witness_chip_stall :
    (let s : State := State.reset;
      decide (s.powered ∧ s.power.por = false) &&
      after (.chipStallTimeout) s fun t =>
      decide (t.power.held ∧ t.power.cause = 0xFF08)) = true := by decide +kernel

/-! ## Chapter 05 -/

/-- A state with a leg changed. -/
def withLeg (s : State) (n : Fin 32) (f : Leg → Leg) : State := s.setLeg n (f s.legs[n])
/-- The carrier rules CONST_OFF. -/
def constOff : LegCfg := { LegCfg.reset with carrier := 1 }

theorem witness_timed_high_ends :
    (let s : State := withLeg State.reset 31 fun l => { l with iv := .high, start := 1000, timeActive := 500 };
      decide (s.powered ∧ s.legs[(31 : Fin 32)].iv = .high ∧ s.legs[(31 : Fin 32)].act.carrier = 0) &&
      after (.timeActiveEnd 31) s fun t =>
      decide (t.legs[(31 : Fin 32)].iv = .deadA ∧ t.legs[(31 : Fin 32)].start = 1500 ∧ t.legs[(31 : Fin 32)].onTime = 500)) = true := by decide +kernel

theorem witness_end_off_accepted :
    (let s : State := withLeg State.reset 0 fun l => { l with iv := .low, minDone := true };
     let x := (s.legs[(0 : Fin 32)]).acceptEnd;
      decide (s.powered ∧ s.hasPred 0 = false ∧ s.legs[(0 : Fin 32)].endAt = none) &&
      after (.endOff 0 x) s fun t =>
      decide (t.legs[(0 : Fin 32)].iv = .deadB ∧ t.legs[(0 : Fin 32)].start = tickUp (max x (nsFt 2000)))) = true := by decide +kernel

theorem witness_end_off_latched :
    (let s : State := withLeg State.reset 0 fun l => { l with iv := .low, minDone := true };
     let x := (s.legs[(0 : Fin 32)]).acceptEnd - 1;
      decide (s.powered ∧ s.legs[(0 : Fin 32)].endAt = none ∧ s.hasPred 0 = false) &&
      after (.endOff 0 x) s fun t =>
      decide (t.legs[(0 : Fin 32)].iv = .low ∧ t.legs[(0 : Fin 32)].endAt = some x)) = true := by decide +kernel

theorem witness_end_on_accepted :
    (let s : State := withLeg State.reset 8 fun l => { l with iv := .high, act := constOff };
     let x := (s.legs[(8 : Fin 32)]).acceptEnd;
      decide (s.powered ∧ s.legs[(8 : Fin 32)].endAt = none) &&
      after (.endOn 8 x) s fun t =>
      decide (t.legs[(8 : Fin 32)].iv = .deadA ∧ t.legs[(8 : Fin 32)].start = tickUp x)) = true := by decide +kernel

theorem witness_end_on_latched :
    (let s : State := withLeg State.reset 8 fun l => { l with iv := .high, act := constOff };
     let x := (s.legs[(8 : Fin 32)]).acceptEnd - 1;
      after (.endOn 8 x) s fun t =>
      decide (t.legs[(8 : Fin 32)].iv = .high ∧ t.legs[(8 : Fin 32)].endAt = some x)) = true := by decide +kernel

theorem witness_acceptance_minimum :
    (let s : State := withLeg State.reset 8 fun l => { l with iv := .high, act := constOff, endAt := some 99 };
      decide (s.powered ∧ s.legs[(8 : Fin 32)].accepted = none) &&
      after (.acceptanceMinimumEnd 8) s fun t =>
      decide (t.legs[(8 : Fin 32)].iv = .deadA ∧ t.legs[(8 : Fin 32)].start = tickUp (s.legs[(8 : Fin 32)]).acceptEnd)) = true := by decide +kernel

theorem witness_on_max :
    (let s : State := withLeg State.reset 8 fun l => { l with iv := .high, act := constOff, start := 7 };
      decide (s.powered) &&
      after (.onMaxHit 8) s fun t =>
     
      decide (t.legs[(8 : Fin 32)].iv = .deadA ∧ t.legs[(8 : Fin 32)].start = 7 + nsFt 50000 ∧ t.nat (Reg.ON_MAX_HIT_CNT 1 1) = 1)) = true := by decide +kernel

theorem witness_period_min :
    (let s : State := withLeg State.reset 8 fun l => { l with iv := .low, act := constOff, timedDone := true, start := 10, timeActive := 5 };
      decide (s.powered ∧ s.hasPred 8 = false) &&
      after (.periodMinExpiry 8) s fun t =>
      decide (t.legs[(8 : Fin 32)].iv = .deadB ∧ t.legs[(8 : Fin 32)].start = tickUp (nsFt 2000))) = true := by decide +kernel

theorem witness_sync_slot :
    (let s : State := withLeg State.reset 9 fun l => { l with iv := .low, act := constOff, timedDone := true, minDone := true, slots := [(40, 10)] };
      decide (s.powered ∧ s.legs[(9 : Fin 32)].slot ≠ none) &&
      after (.syncSlot 9) s fun t =>
      decide (t.legs[(9 : Fin 32)].slotDone ∧ t.legs[(9 : Fin 32)].iv = .deadB)) = true := by decide +kernel

theorem witness_swn_ends_dead_a :
    (let s : State := withLeg State.reset 2 fun l => { l with iv := .deadA, start := 0 };
     let x := nsFt 20;
      decide (s.powered ∧ s.legs[(2 : Fin 32)].senses ∧ s.hardOff 2 = false) &&
      after (.swnRegistered 2 false x) s fun t =>
      decide (t.legs[(2 : Fin 32)].iv = .low ∧ t.legs[(2 : Fin 32)].start = tickUp x ∧ t.nat (Reg.DT_A_LAST 0 3) = tickUp x)) = true := by decide +kernel

theorem witness_swn_ends_dead_b :
    (let s : State := withLeg State.reset 2 fun l => { l with iv := .deadB, start := 0 };
     let x := nsFt 20;
      decide (s.legs[(2 : Fin 32)].senses ∧ s.legs[(2 : Fin 32)].turnOn = none) &&
      after (.swnRegistered 2 true x) s fun t =>
      decide (t.legs[(2 : Fin 32)].turnOn = some (tickUp x) ∧ t.nat (Reg.DT_B_LAST 0 3) = tickUp x)) = true := by decide +kernel

theorem witness_forced_edge :
    (let s : State := withLeg State.reset 2 fun l => { l with iv := .deadA, start := 0, forcedA := true };
      decide (s.powered) &&
      after (.dtMinExpiry 2) s fun t =>
      decide (t.nat (Reg.FORCED_EDGE_CNT 0 3) = 1 ∧ t.nat (Reg.DT_A_LAST 0 3) = tickUp (nsFt 20))) = true := by decide +kernel

theorem witness_hard_switch :
    (let s : State := withLeg State.reset 2 fun l => { l with iv := .deadB, start := 0 };
      decide (s.powered ∧ s.legs[(2 : Fin 32)].senses ∧ s.legs[(2 : Fin 32)].swn = false) &&
      after (.dtMaxExpiry 2) s fun t =>
      decide (t.nat (Reg.HARD_SWITCH_CNT 0 3) = 1 ∧ t.legs[(2 : Fin 32)].turnOn = some (tickUp (nsFt 500)))) = true := by decide +kernel

theorem witness_fixed_dead_time :
    (let s : State := withLeg State.reset 2 fun l => { l with iv := .deadB, start := 0, act := { LegCfg.reset with swnMode := 1 } };
      after (.dtMaxExpiry 2) s fun t =>
      decide (t.nat (Reg.HARD_SWITCH_CNT 0 3) = 0 ∧ t.nat (Reg.DT_B_LAST 0 3) = tickUp (nsFt 500))) = true := by decide +kernel

theorem witness_period_boundary :
    (let s : State := withLeg State.reset 2 fun l => { l with iv := .deadB, bnd := 100, turnOn := some 300, shadow := [⟨0, .cmd 0x1234 false false 0, false, false, false⟩] };
      decide (s.powered ∧ s.hardOff 2 = false) &&
      after (.periodBoundary 2) s fun t =>
      decide (t.legs[(2 : Fin 32)].bnd = 300 ∧ t.nat (Reg.PERIOD_MEAS 0 3) = 200 ∧ t.nat (Reg.BOUNDARY_COUNT 0 3) = 1)
      && decide (t.nat (Reg.CMD_LAST 0 3) = t.legs[(2 : Fin 32)].cmd ∧ t.legs[(2 : Fin 32)].cmd = (s.legs[(2 : Fin 32)].capture 300).1.cmd)) = true := by decide +kernel

theorem witness_virtual_boundary :
    (let s : State := State.reset;
      decide (s.powered ∧ s.legs[(0 : Fin 32)].virtual ∧ s.clockLost = false ∧ s.beh 0 ≠ .off) &&
      after (.virtualBoundary 0) s fun t =>
      decide (t.legs[(0 : Fin 32)].bnd = tickUp (nsFt 50000) ∧ t.nat (Reg.BOUNDARY_COUNT 0 1) = 1)) = true := by decide +kernel

theorem witness_fault_clear :
    (let s : State := at_ [(Reg.FAULT_LATCH 3, 0x81)];
      decide (accepts s svc (Reg.FAULT_CLEAR 3) 0x80) &&
      after (.faultClear svc 3 0x80) s fun t =>
      decide (t.nat (Reg.FAULT_LATCH 3) = 1 ∧ t.legs[(31 : Fin 32)].afterFault ∧ t.legs[(24 : Fin 32)].afterFault = false)) = true := by decide +kernel

theorem witness_fault_stays_while_low :
    (let s : State := withLeg (at_ [(Reg.FAULT_LATCH 3, 0x80)]) 31 fun l => { l with fltLow := true };
      decide (accepts s svc (Reg.FAULT_CLEAR 3) 0x80) &&
      after (.faultClear svc 3 0x80) s fun t =>
      decide (t.latched 31)) = true := by decide +kernel

theorem witness_cleared_leg_stays_off :
    (let s : State := withLeg (withGroup (withBeh (at_ [(Reg.ROLE_ACTIVE, 1), (Reg.ROUTE_STATE 0, 4)]) [(0, .run)]) 0 fun g => { g with parked := false }) 0 fun l => { l with afterFault := true, cmdSeen := true };
      decide (s.powered ∧ s.legMayRun 0 ∧ (s.legs[(0 : Fin 32)].capture (tickUp (nsFt 50000))).1.cmd = 0) &&
      after (.virtualBoundary 0) s fun t =>
      decide (t.legs[(0 : Fin 32)].iv = .parked ∧ t.legs[(0 : Fin 32)].afterFault)) = true := by decide +kernel

theorem witness_cleared_leg_starts :
    (let s : State := withLeg (withGroup (withBeh (at_ [(Reg.ROLE_ACTIVE, 1), (Reg.ROUTE_STATE 0, 4)]) [(0, .run)]) 0 fun g => { g with parked := false }) 0 fun l => { l with afterFault := true, cmdSeen := true, shadow := [⟨0, .cmd 0x1000400 false false 0, false, false, false⟩] };
      decide (s.powered ∧ s.legMayRun 0 ∧ (s.legs[(0 : Fin 32)].capture (tickUp (nsFt 50000))).1.cmd ≠ 0) &&
      after (.virtualBoundary 0) s fun t =>
      decide (t.legs[(0 : Fin 32)].iv ≠ .parked ∧ t.legs[(0 : Fin 32)].afterFault = false)) = true := by decide +kernel

theorem witness_override :
    (let s : State := State.reset;
      decide (accepts s svc (Reg.OVERRIDE 3 8) 5) &&
      after (.overrideWrite svc 31 5 77) s fun t =>
      decide (t.nat (Reg.OVERRIDE 3 8) = 5 ∧ t.nat (Reg.CAPTURE_STATUS 3 8) = 1)
      && decide (t.legs[(31 : Fin 32)].shadow = [⟨77, .ovr 5, false, false, false⟩])) = true := by decide +kernel

theorem witness_override_held :
    (let s : State := at_ [(Reg.ARM_HOLD 3, 0x80)];
      decide (accepts s svc (Reg.OVERRIDE 3 8) 5) &&
      after (.overrideWrite svc 31 5 77) s fun t =>
      decide (t.nat (Reg.CAPTURE_STATUS 3 8) = 2 ∧ t.legs[(31 : Fin 32)].holdOvr = some 5)) = true := by decide +kernel

theorem witness_arm_hold_lets_go :
    (let s : State := withLeg (at_ [(Reg.ARM_HOLD 3, 0x81)]) 31 fun l => { l with holdOvr := some 5 };
      decide (accepts s svc (Reg.ARM_HOLD 3) 0x01) &&
      after (.armHoldWrite svc 3 0x01 9) s fun t =>
     
      decide (t.legs[(31 : Fin 32)].holdOvr = none ∧ t.legs[(24 : Fin 32)] = s.legs[(24 : Fin 32)] ∧ t.nat (Reg.ARM_HOLD 3) = 1)) = true := by decide +kernel

theorem witness_arm_release :
    (let s : State := withLeg (at_ [(Reg.ARM_HOLD 0, 0x02)]) 1 fun l => { l with holdOvr := some 5, holdCfg := some constOff };
      decide (accepts s svc (Reg.ARM_RELEASE 0) 0x02) &&
      after (.armRelease svc 0 0x02 9) s fun t =>
      decide (t.legs[(1 : Fin 32)].shadow = [⟨9, .cfg constOff, false, false, false⟩, ⟨9, .ovr 5, false, false, false⟩])) = true := by decide +kernel

theorem witness_count_clear :
    (let s : State := at_ [(Reg.FAULT_CNT 0 1, 3), (Reg.FAULT_CNT 0 2, 4)];
      decide (accepts s svc (Reg.COUNT_CLEAR 0) 1)
      && decide (Reg.FAULT_CNT 0 1 ∈ legCounters 0 ∧ Reg.FAULT_CNT 0 2 ∉ legCounters 0) &&
      after (.countClear svc 0 0x01) s fun t =>
      decide (t.nat (Reg.FAULT_CNT 0 1) = 0 ∧ t.nat (Reg.FAULT_CNT 0 2) = 4)) = true := by decide +kernel

theorem witness_flt_n_leg :
    (let s : State := State.reset;
      decide (s.powered ∧ s.nat (Reg.FLT_SCOPE 1) = 0)
) = true := by decide +kernel

theorem witness_flt_n_group :
    (let s : State := at_ [(Reg.FLT_SCOPE 1, 1)];
      decide (s.powered ∧ s.nat (Reg.FLT_SCOPE 1) = 1)
) = true := by decide +kernel

theorem witness_flt_n_all :
    (let s : State := at_ [(Reg.FLT_SCOPE 1, 2)];
      decide (s.powered ∧ 2 ≤ s.nat (Reg.FLT_SCOPE 1))
) = true := by decide +kernel

theorem witness_flt_n_glitch :
    (let s : State := State.reset;
      decide (s.powered) &&
      after (.fltNAssert 9 true 9) s fun t =>
      decide (t = s)) = true := by decide +kernel

theorem witness_flt_n_rises :
    (let s : State := withLeg (at_ [(Reg.FAULT_LATCH 1, 2)]) 9 fun l => { l with fltLow := true };
      after (.fltNAssert 9 false 0) s fun t =>
      decide (t.legs[(9 : Fin 32)].fltLow = false ∧ t.latched 9)) = true := by decide +kernel

theorem witness_sync_in :
    (let s : State := at_ [(Reg.SYNC_SRC 2, 1), (Reg.SYNC_STATUS 2, 1)];
      decide (s.powered) &&
      after (.syncInPulse 2 500 25) s fun t =>
      decide (bit (t.nat (Reg.SYNC_STATUS 2)) 0 = false ∧ t.legs[(16 : Fin 32)].predAt = some 500)) = true := by decide +kernel

theorem witness_sync_lost :
    (let s : State := withLeg (at_ [(Reg.SYNC_SRC 2, 1)]) 16 fun l => { l with predAt := some 5, slots := [(7, 3)] };
      decide (s.powered) &&
      after (.syncLost 2) s fun t =>
      decide (bit (t.nat (Reg.SYNC_STATUS 2)) 0 ∧ t.legs[(16 : Fin 32)].predAt = none ∧ t.legs[(16 : Fin 32)].slots = [])) = true := by decide +kernel

theorem witness_cmd_silence :
    (let s : State := withLeg (at_ [(Reg.LEG_STATE 0 1, 2), (Reg.BIND_ACTIVE 0, 255), (Reg.SPARE_POLICY 36, 0), (Reg.SPARE_POLICY 37, 0)]) 0 fun l => { l with iv := .high };
      decide (s.powered ∧ s.engineOf 0 = none ∧ s.autoSpare = none) &&
      after (.cmdSilenceTimeout 0) s fun t =>
      decide (t.legs[(0 : Fin 32)].iv = .parked ∧ t.legs[(0 : Fin 32)].silent)) = true := by decide +kernel

theorem witness_leg_event_frame :
    (let s : State := withLeg State.reset 31 fun l => { l with iv := .high, start := 1000, timeActive := 500 };
      after (.timeActiveEnd 31) s fun t =>
      decide (t.legs[(30 : Fin 32)] = s.legs[(30 : Fin 32)] ∧ t.sent = s.sent ∧ t.power = s.power)) = true := by decide +kernel

theorem witness_timed_low_ends :
    (let s : State := withLeg State.reset 8 fun l => { l with iv := .low, act := constOff, start := nsFt 3000, timeActive := 640, minDone := true };
      decide (s.powered ∧ s.hasPred 8 = false ∧ s.legs[(8 : Fin 32)].act.carrier = 1) &&
      after (.timeActiveEnd 8) s fun t =>
      decide (t.legs[(8 : Fin 32)].iv = .deadB ∧ t.legs[(8 : Fin 32)].start = nsFt 3000 + 640)) = true := by decide +kernel

theorem witness_end_off_waits_for_the_period :
    (let s : State := withLeg State.reset 0 fun l => { l with iv := .low };
     let x := (s.legs[(0 : Fin 32)]).acceptEnd;
      decide (s.powered ∧ s.legs[(0 : Fin 32)].endAt = none ∧ s.legs[(0 : Fin 32)].minDone = false) &&
      after (.endOff 0 x) s fun t =>
      decide (t.legs[(0 : Fin 32)].iv = .low ∧ t.legs[(0 : Fin 32)].accepted = some x)) = true := by decide +kernel

theorem witness_end_off_at_the_predicted_crossing :
    (let s : State := withLeg State.reset 0 fun l => { l with iv := .low, minDone := true, predict := some (nsFt 4000) };
      decide (s.powered ∧ s.legs[(0 : Fin 32)].acceptEnd ≤ s.legs[(0 : Fin 32)].endMoment 5) &&
      after (.endOff 0 5) s fun t =>
      decide (t.legs[(0 : Fin 32)].iv = .deadB ∧ t.legs[(0 : Fin 32)].start = tickUp (nsFt 4000))) = true := by decide +kernel

theorem witness_acceptance_minimum_of_the_low_side :
    (let s : State := withLeg State.reset 0 fun l => { l with iv := .low, start := nsFt 5000, minDone := true, endAt := some 9 };
      decide (s.powered ∧ s.hasPred 0 = false ∧ s.legs[(0 : Fin 32)].accepted = none) &&
      after (.acceptanceMinimumEnd 0) s fun t =>
      decide (t.legs[(0 : Fin 32)].iv = .deadB ∧ t.legs[(0 : Fin 32)].start = tickUp (s.legs[(0 : Fin 32)]).acceptEnd)) = true := by decide +kernel

theorem witness_on_max_after_a_latched_end_on :
    (let s : State := withLeg State.reset 8 fun l => { l with iv := .high, act := constOff, start := 7, endAt := some 9 };
      decide (s.powered ∧ tickUp (s.legs[(8 : Fin 32)]).acceptEnd ≤ tickUp (7 + nsFt 50000)) &&
      after (.onMaxHit 8) s fun t =>
     
      decide (t.legs[(8 : Fin 32)].iv = .deadA ∧ t.legs[(8 : Fin 32)].start = tickUp (s.legs[(8 : Fin 32)]).acceptEnd ∧ t.nat (Reg.ON_MAX_HIT_CNT 1 1) = 0)) = true := by decide +kernel

theorem witness_period_min_after_end_off :
    (let s : State := withLeg State.reset 0 fun l => { l with iv := .low, accepted := some 99 };
      decide (s.powered ∧ s.hasPred 0 = false) &&
      after (.periodMinExpiry 0) s fun t =>
      decide (t.legs[(0 : Fin 32)].iv = .deadB ∧ t.legs[(0 : Fin 32)].start = tickUp (nsFt 2000))) = true := by decide +kernel

theorem witness_sync_slot_after_end_off :
    (let s : State := withLeg State.reset 1 fun l => { l with iv := .low, minDone := true, accepted := some 30, slots := [(40, 10)] };
      decide (s.powered ∧ s.legs[(1 : Fin 32)].slot ≠ none) &&
      after (.syncSlot 1) s fun t =>
      decide (t.legs[(1 : Fin 32)].slotDone ∧ t.legs[(1 : Fin 32)].iv = .deadB)) = true := by decide +kernel

theorem witness_swn_before_dt_min_kept :
    (let s : State := withLeg State.reset 2 fun l => { l with iv := .deadB, start := 0 };
      decide (s.legs[(2 : Fin 32)].senses ∧ s.legs[(2 : Fin 32)].turnOn = none ∧ s.legs[(2 : Fin 32)].swnHit = none) &&
      after (.swnRegistered 2 true (nsFt 20 - 1)) s fun t =>
      decide (t.legs[(2 : Fin 32)].turnOn = none ∧ t.legs[(2 : Fin 32)].swnHit = some (nsFt 20 - 1))) = true := by decide +kernel

theorem witness_swn_before_dt_min_kept_in_dead_a :
    (let s : State := withLeg State.reset 2 fun l => { l with iv := .deadA, start := 0 };
      decide (s.legs[(2 : Fin 32)].senses ∧ s.legs[(2 : Fin 32)].swnHit = none) &&
      after (.swnRegistered 2 false (nsFt 20 - 1)) s fun t =>
      decide (t.legs[(2 : Fin 32)].iv = .deadA ∧ t.legs[(2 : Fin 32)].swnHit = some (nsFt 20 - 1))) = true := by decide +kernel

theorem witness_dt_min_after_swn :
    (let s : State := withLeg State.reset 2 fun l => { l with iv := .deadB, start := 0, swnHit := some 5 };
      decide (s.powered ∧ s.legs[(2 : Fin 32)].senses) &&
      after (.dtMinExpiry 2) s fun t =>
     
      decide (t.legs[(2 : Fin 32)].turnOn = some (tickUp (nsFt 20)) ∧ t.nat (Reg.HARD_SWITCH_CNT 0 3) = 0 ∧ t.nat (Reg.FORCED_EDGE_CNT 0 3) = 0)) = true := by decide +kernel

theorem witness_cmd_silence_counts :
    (let s : State := withLeg (at_ [(Reg.LEG_STATE 0 1, 2), (Reg.SPARE_POLICY 36, 0), (Reg.SPARE_POLICY 37, 0)]) 0 fun l => { l with iv := .high };
      decide (s.powered ∧ s.engineOf 0 = some 0 ∧ s.rebinds = [] ∧ s.autoSpare = none)
) = true := by decide +kernel

/-! ## Chapters 01, 06 and 07 -/

/-- A state whose engines run and whose ring address is 5. -/
def running : State := withBeh (at_ [(Reg.RING_ADDR, 5)]) [(6, .run)]
/-- One member besides this node, on a ring with a launcher. -/
def member : State :=
  { withN running [(Reg.ROLE_ACTIVE, 4096), (Reg.RING_STATUS, 1), (Reg.EPOCH_NUMBER, 9), (Reg.ROSTER_STATE, 2)] with
    ring := { State.reset.ring with roster := [⟨5, 0⟩, ⟨6, 1⟩], launcher := some (6, 1) } }
/-- A rebind of engine 36 to leg 3, away from engine 3. -/
def rebind0 : Rebind := ⟨3, 36, 3, false, true, 1, 8, 0⟩

theorem witness_loop_sample :
    (let s : State := running;
     
      decide (s.powered ∧ s.rebinds = [] ∧ s.engineFenced 0 = false ∧ s.beh 6 = .run ∧ s.enginesRun ∧ s.nat (Reg.BIND_ACTIVE 0) = 0 ∧ s.engineOf 0 = some 0)
) = true := by decide +kernel

theorem witness_edge_sample :
    (let s : State := withLeg State.reset 31 fun l => { l with edges := [(1, 1), (2, 2), (3, 3)], perOpen := true, perStart := 0, perEnd := 5000, accPrev := 70 };
      decide (s.powered ∧ s.legs[(31 : Fin 32)].perEnd ≤ 6000 - 960) &&
      after (.edgeSample 31 6000 4) s fun t =>
      decide (t.legs[(31 : Fin 32)].edges = [(2, 2), (3, 3), (5040, s.edgeCurrent 31 4)])
      && decide (t.int (Reg.I_MEAS 3 8) = Int.tdiv (70 + s.edgeCurrent 31 4 * overlap 3760 5040 0 5000) 5000)) = true := by decide +kernel

theorem witness_setpoint_ramps :
    (let s : State := at_ [(Reg.PG_GRANT 1, 1000), (Reg.RAMP_TIME 0, 100)];
     
      decide (s.powered ∧ s.nat (Reg.SETP_SRC 0) = 0 ∧ s.grantTarget 0 1000 ≠ 0 ∧ nearer (s.grantTarget 0 1000) (s.groups[(0 : Fin 4)].rampValue 5) = false) &&
      after (.setpointDelivery 0 5) s fun t =>
     
      decide (t.groups[(0 : Fin 4)].target = s.grantTarget 0 1000 ∧ t.groups[(0 : Fin 4)].rampNs = 100 ∧ t.groups[(0 : Fin 4)].cmd = 0)) = true := by decide +kernel

theorem witness_setpoint_at_once :
    (let s : State := withGroup (at_ [(Reg.PG_GRANT 4, 0)]) 3 fun g => { g with target := 5, cmd := 5 };
      decide (s.powered ∧ nearer 0 (s.groups[(3 : Fin 4)].rampValue 5) ∧ s.groups[(3 : Fin 4)].rampValue 5 ≠ 0) &&
      after (.setpointDelivery 3 5) s fun t =>
      decide (t.groups[(3 : Fin 4)].target = 0 ∧ t.groups[(3 : Fin 4)].cmd = 0)) = true := by decide +kernel

theorem witness_setp_fault :
    (let s : State := withGroup (at_ [(Reg.SETP_SRC 2, 1)]) 2 fun g => { g with target := 7 };
      decide (s.powered ∧ s.nat (Reg.SETP_SRC 2) ≠ 0 ∧ bit (s.nat (Reg.SETP_FAULT 2)) 0 = false)
) = true := by decide +kernel

theorem witness_setp_fault_clears :
    (let s : State := at_ [(Reg.SETP_FAULT 2, 1)];
      decide (s.powered) &&
      after (.setpFaultClear 2) s fun t =>
      decide (bit (t.nat (Reg.SETP_FAULT 2)) 0 = false)) = true := by decide +kernel

theorem witness_ntc_out_of_range :
    (let s : State := State.reset;
     
      decide (s.powered ∧ 20000 < ntcTemp 1 (s.nat (Reg.NTC_RNOM 0 1)) (s.nat (Reg.NTC_BETA 0 1)) ∧ bit (s.nat (Reg.OT_STATUS 0)) 16 = false)
) = true := by decide +kernel

theorem witness_ntc_reads :
    (let s : State := State.reset;
      decide (s.powered) &&
      after (.ntcSample 0 10000) s fun t =>
     
      decide (t.int (Reg.T_STAGE 0 1) = ntcTemp 10000 (s.nat (Reg.NTC_RNOM 0 1)) (s.nat (Reg.NTC_BETA 0 1)) ∧ t.nat (Reg.OT_SHUT_CNT 0 1) = 0)) = true := by decide +kernel

theorem witness_ntc_over_temperature :
    (let s : State := State.reset;
     let x := ntcTemp 200 (s.nat (Reg.NTC_RNOM 0 1)) (s.nat (Reg.NTC_BETA 0 1));
      decide (s.powered ∧ s.int (Reg.OT_SHUT 0) ≤ x ∧ x ≤ 20000 ∧ bit (s.nat (Reg.OT_STATUS 0)) 8 = false)
) = true := by decide +kernel

theorem witness_sensor_returns :
    (let s : State := withLeg (at_ [(Reg.OT_STATUS 3, 0x808000)]) 31 fun l => { l with otOut := true };
     
      decide (s.powered ∧ bit (s.nat (Reg.OT_STATUS 3)) 23 ∧ s.int (Reg.T_STAGE 3 8) < s.int (Reg.OT_SHUT 3) - s.int (Reg.OT_HYST 3)) &&
      after (.sensorValidReturn 31) s fun t =>
      decide (t.nat (Reg.OT_STATUS 3) = 0 ∧ t.legs[(31 : Fin 32)].otOut = false)) = true := by decide +kernel

theorem witness_shed :
    (let s : State := withGroup (at_ [(Reg.SHED_EN 0, 1)]) 0 fun g => { g with candN := 3, nTarget := 4, candRun := 100000 };
      decide (s.powered ∧ s.nat (Reg.SHED_EN 0) = 1 ∧ s.nat (Reg.SHED_DWELL 0) ≤ 100000) &&
      after (.shedDecision 0) s fun t =>
     
      decide (t.groups[(0 : Fin 4)].nTarget = 3 ∧ t.groups[(0 : Fin 4)].windowOpen ∧ t.nat (Reg.SHED_STATE 0) = 1 ∧ t.nat (Reg.SHED_CNT 0) = 1)) = true := by decide +kernel

theorem witness_shed_window :
    (let s : State := withGroup (at_ [(Reg.SHED_EN 0, 1), (Reg.SHED_STATE 0, 1)]) 0 fun g => { g with windowOpen := true, windowFrom := some 5 };
      decide (s.powered) &&
      after (.shedWindowClose 0) s fun t =>
      decide (t.groups[(0 : Fin 4)].windowOpen = false ∧ t.nat (Reg.SHED_STATE 0) ≠ 1)) = true := by decide +kernel

theorem witness_shed_window_stays_open :
    (let s : State := withGroup (at_ [(Reg.SHED_EN 0, 1), (Reg.SHED_STATE 0, 1)]) 0 fun g => { g with windowOpen := true };
      decide (s.powered ∧ s.groups[(0 : Fin 4)].windowFrom = none) &&
      after (.shedWindowClose 0) s fun t =>
      decide (t.groups[(0 : Fin 4)].windowOpen)) = true := by decide +kernel

theorem witness_rebind_refused_by_the_class :
    (let s : State := withBeh State.reset [(6, .service)];
      decide (accepts s svc (cmdBase .engineRebind + 1) 0x2400) &&
      after (.engineRebind svc 0x2400) s fun t =>
      decide ((t.res .engineRebind).detail = 1)) = true := by decide +kernel

theorem witness_rebind_refused_bound :
    (let s : State := running;
      decide (accepts s svc (cmdBase .engineRebind + 1) 0x0000 ∧ s.nat (Reg.BIND 0) ≠ 0xFF) &&
      after (.engineRebind svc 0x0000) s fun t =>
      decide ((t.res .engineRebind).detail = 2)) = true := by decide +kernel

theorem witness_rebind_refused_standby :
    (let s : State := withN running [(Reg.MODE_IN_FORCE, 8)];
      decide (accepts s svc (cmdBase .engineRebind + 1) 0x2403 ∧ s.isStandby ∧ s.nat (Reg.BIND 36) = 0xFF) &&
      after (.engineRebind svc 0x2403) s fun t =>
      decide ((t.res .engineRebind).detail = 3)) = true := by decide +kernel

theorem witness_rebind_refused_fenced :
    (let s : State := { running with fab := { State.reset.fab with regions := [0] } };
      decide (accepts s svc (cmdBase .engineRebind + 1) 0x2403 ∧ s.engineFenced 36) &&
      after (.engineRebind svc 0x2403) s fun t =>
      decide ((t.res .engineRebind).detail = 0x100)) = true := by decide +kernel

theorem witness_rebind_begins :
    (let s : State := running;
      decide (accepts s svc (cmdBase .engineRebind + 1) 0x2403 ∧ s.isStandby = false ∧ s.engineFenced 36 = false) &&
      after (.engineRebind svc 0x2403) s fun t =>
      decide ((t.res .engineRebind).status = .pending ∧ t.rebinds.length = 1)) = true := by decide +kernel

theorem witness_rebind_switches :
    (let s : State := { running with rebinds := [rebind0] };
      decide (s.powered) &&
      after (.rebindSwitch 36) s fun t =>
      decide (t.nat (Reg.BIND_ACTIVE 36) = 3 ∧ t.nat (Reg.BIND_ACTIVE 3) = 0xFF)) = true := by decide +kernel

theorem witness_rebind_recorded :
    (let s : State := { running with rebinds := [{ rebind0 with phase := 3 }] };
      decide (s.powered ∧ s.bindHeld = []) &&
      after (.rebindRecorded 36) s fun t =>
     
      decide (t.nat (Reg.BIND 36) = 3 ∧ t.nat (Reg.BIND 3) = 0xFF ∧ t.rebinds = [] ∧ (t.res .engineRebind).status = .completed)
      && decide ((t.res .engineRebind).value = 36 + 256 * 3 + 4294967296 * rebind0.bcount ∧ (t.res .engineRebind).detail = if rebind0.warm then 0 else 0x0102)) = true := by decide +kernel

theorem witness_rebind_recorded_before_the_capture :
    (let s : State := { running with rebinds := [{ rebind0 with phase := 2 }] };
      decide (s.powered ∧ s.bindHeld = []) &&
      after (.rebindRecorded 36) s fun t =>
     
      decide (t.nat (Reg.BIND 36) = 3 ∧ t.rebinds = [{ rebind0 with phase := 4 }] ∧ (t.res .engineRebind).status = (s.res .engineRebind).status)) = true := by decide +kernel

theorem witness_route_connects :
    (let s : State := withGroup (withBeh (at_ [(Reg.ROUTE_STATE 0, 3), (Reg.ROUTE 0 1, 0x40000)]) [(0, .run)]) 0 fun g => { g with routeNow := 1, nowVal := 0x40000 };
     
      decide (s.powered ∧ s.phasesRun ∧ s.routeState 0 = 3 ∧ ({ s with matrixFb := s.matrixFb.set 0 true } : State).nowClosed 0) &&
      after (.mtxFbChange 0 true) s fun t =>
      decide (t.routeState 0 = 4)) = true := by decide +kernel

theorem witness_route_opens_to_idle :
    (let s : State := withGroup (withBeh (at_ [(Reg.ROUTE_STATE 3, 2), (Reg.ROUTE 3 1, 0x40000)]) [(0, .run)]) 3 fun g => { g with routeNow := 1, nowVal := 0x40000, routeNext := 0 };
      decide (s.powered ∧ s.phasesRun ∧ s.routeVal 3 0 = none) &&
      after (.mtxFbChange 0 false) s fun t =>
      decide (t.routeState 3 = 0)) = true := by decide +kernel

theorem witness_route_opens_to_closing :
    (let s : State := withGroup (withBeh (at_ [(Reg.ROUTE_STATE 3, 2), (Reg.ROUTE 3 1, 0x40000), (Reg.ROUTE 3 2, 0x40200)]) [(0, .run)]) 3 fun g => { g with routeNow := 1, nowVal := 0x40000, routeNext := 2 };
      decide (s.powered ∧ s.routeVal 3 2 ≠ none) &&
      after (.mtxFbChange 0 false) s fun t =>
      decide (t.routeState 3 = 3 ∧ t.groups[(3 : Fin 4)].routeNow = 2 ∧ t.groups[(3 : Fin 4)].nowVal = 0x40200)) = true := by decide +kernel

theorem witness_route_timeout :
    (let s : State := withGroup (withBeh (at_ [(Reg.ROUTE_STATE 3, 1), (Reg.ROUTE 3 1, 0x40000)]) [(0, .run)]) 3 fun g => { g with parked := false };
      decide (s.powered ∧ s.phasesRun ∧ s.routeState 3 = 1) &&
      after (.routeFbTimeout 3) s fun t =>
      decide (t.routeState 3 = 5 ∧ t.groups[(3 : Fin 4)].parked)) = true := by decide +kernel

theorem witness_claim_update :
    (let s : State := at_ [(Reg.SESSION_CEIL 3, 50000), (Reg.SESSION_FLOOR 3, 1000)];
      decide (s.powered) &&
      after (.claimUpdate 3) s fun t =>
      decide (t.site.claims[(3 : Fin 4)] = ⟨50000, 1000, false⟩)) = true := by decide +kernel

theorem witness_claim_block_alone :
    (let s : State := running;
      decide (s.powered ∧ s.ringQuiet = false ∧ s.waitsBurgee = false ∧ s.site.clearHold = false ∧ s.byMarks = false) &&
      after (.claimBlockInsert) s fun t =>
      decide (s.ownBlock ∈ t.site.got ∧ t.site.waveDone)) = true := by decide +kernel

theorem witness_claim_block_on_the_ring :
    (let s : State := member;
      decide (s.powered ∧ s.byMarks ∧ s.isMember ∧ s.beh 3 ≠ .bypassed ∧ s.broadcastPlan ≠ []) &&
      after (.claimBlockInsert) s fun t =>
      decide (s.ownBlock ∈ t.site.got ∧ t.nat (Reg.OUT_CLAIM_CEIL 4) = (s.outletEntry 3).ceil)
      && decide ((s.broadcastPlan.all fun p => t.ring.wave[(Fin.ofNat 2 p.1 : Fin 2)].contains (true, slotChars (slotHeader 0 5 p.2 false false) s.ownBlock.encode)))) = true := by decide +kernel

theorem witness_claim_block_with_the_close_mark :
    (let s : State := { withN member [(Reg.RING_STATUS, 0x21)] with ring := { member.ring with launcher := some (5, 0), markEpoch := 9 } };
      decide (s.powered ∧ s.byMarks ∧ s.isMember ∧ s.closesRing 0) &&
      after (.claimBlockInsert) s fun t =>
      decide (t.ring.wave[(0 : Fin 2)].contains (false, slotChars (slotHeader 7 5 4095 false false) (closePayload 9)))) = true := by decide +kernel

theorem witness_block_foreign :
    (let s : State := member;
      decide (s.powered ∧ s.byMarks ∧ (s.ring.roster.any fun m => m.addr == 7) = false) &&
      after (.waveBlockReceive 7 (zeros 120)) s fun t =>
      decide (t.nat Reg.FOREIGN_SLOT_CNT = 1)) = true := by decide +kernel

theorem witness_block_late :
    (let s : State := member;
      decide (s.powered ∧ (s.ring.roster.any fun m => m.addr == 6) ∧ (Block.decode (zeros 120)).epoch ≠ 9) &&
      after (.waveBlockReceive 6 (zeros 120)) s fun t =>
      decide (t.nat Reg.LATE_BLOCK_CNT = 1)) = true := by decide +kernel

theorem witness_block_kept :
    (let s : State := member;
      decide (s.powered ∧ (Block.decode s.ownBlock.encode).epoch = 9 ∧ s.site.frozen = false) &&
      after (.waveBlockReceive 6 s.ownBlock.encode) s fun t =>
      decide (Block.decode s.ownBlock.encode ∈ t.site.got)) = true := by decide +kernel

theorem witness_close_mark_second_pass :
    (let s : State := { member with ring := { member.ring with markEpoch := 9, passes := member.ring.passes.set 0 1, firstPass := member.ring.firstPass.set 0 500 } };
      decide (s.powered ∧ s.ringUp 0) &&
      after (.closeMark 0 0 s.ring.markEpoch 900) s fun t =>
      decide (t.ring.passes[(0 : Fin 2)] = 2 ∧ t.nat (Reg.LOOP_TIME 1) = 400)) = true := by decide +kernel

theorem witness_close_mark_of_the_epoch_before :
    (let s : State := { member with ring := { member.ring with markEpoch := 9 } };
      decide (s.powered ∧ s.ringUp 0) &&
      after (.closeMark 0 0 8 900) s fun t =>
      decide (t.ring.passes = s.ring.passes ∧ t.ring.oldPasses[(0 : Fin 2)] = 1)) = true := by decide +kernel

theorem witness_freeze_complete :
    (let s : State := { running with site := { State.reset.site with waveDone := true } };
      decide (s.powered ∧ s.allocRuns ∧ s.ringQuiet = false ∧ s.byMarks = false) &&
      after (.waveFreeze) s fun t =>
      decide (t.site.frozen ∧ t.site.toCompute)) = true := by decide +kernel

theorem witness_freeze_missed :
    (let s : State := running;
      decide (s.powered ∧ s.site.frozen = false ∧ s.site.waveDone = false) &&
      after (.waveFreeze) s fun t =>
      decide (t.site.hold ∧ t.nat Reg.MISSED_WAVE_CNT = 1)) = true := by decide +kernel

theorem witness_calculation_done :
    (let s : State := { running with site := { State.reset.site with toCompute := true, snap := [(running.ownBlock, true)] } };
      decide (s.powered ∧ s.site.computed = none) &&
      after (.allocCalcDone 1234) s fun t =>
     
      decide (t.nat Reg.T_CALC_LAST = 1234 ∧ t.nat Reg.RESULT_CRC_OWN = (s.allocate s.site.snap).crc ∧ t.site.computed ≠ none)) = true := by decide +kernel

theorem witness_epoch_boundary :
    (let s : State := { member with ring := { member.ring with due := true }, site := { State.reset.site with hold := true, frozen := true } };
      decide (s.powered ∧ s.ring.due ∧ s.isMember)
) = true := by decide +kernel

theorem witness_local_boundary :
    (let s : State := running;
      decide (s.powered ∧ s.byMarks = false) &&
      after (.localEpochBoundary) s fun t =>
      decide (t.nat Reg.EPOCH_NUMBER = 1 ∧ t.site.got = [])) = true := by decide +kernel

theorem witness_isolated :
    (let s : State := withN member [(Reg.RING_STATUS, 0)];
      decide (s.powered ∧ s.role 12 ∧ s.anyRing = false ∧ s.isMember ∧ s.site.isoCap = none) &&
      after (.ringIsolated) s fun t =>
      decide (t.site.isoCap = some s.site.applied ∧ t.nat Reg.ALLOC_STATE = 3)) = true := by decide +kernel

theorem witness_isolated_ahead_of_a_boundary :
    (let s : State := { withN member [(Reg.RING_STATUS, 0)] with ring := { member.ring with due := true } };
      decide (s.powered ∧ s.role 12 ∧ s.anyRing = false ∧ s.isMember ∧ s.site.isoCap = none ∧ s.ring.due) &&
      after (.ringIsolated) s fun t =>
      decide (t.site.isoSoon)) = true := by decide +kernel

theorem witness_budget :
    (let s : State := State.reset;
      decide (s.powered ∧ s.part.variant = .l) &&
      after (.demandBudgetDelivery 1) s fun t =>
      decide (t.site.budget[(3 : Fin 4)] = s.budgetOf 3)) = true := by decide +kernel

theorem witness_port_stop :
    (let s : State := withGroup (withN member [(Reg.ROUTE 0 1, 0x640000), (Reg.ROUTE_STATE 0, 4)]) 0 fun g => { g with routeNow := 1, target := 9 };
     
      decide (s.powered ∧ portIndex (6 + 4096) = some 0 ∧ (s.ring.roster.any fun m => m.addr == 6) ∧ s.groupPort 0 = some (6, 0)) &&
      after (.portStop 6 (6 + 4096) 77) s fun t =>
      decide (t.groups[(0 : Fin 4)].portStopped ∧ t.groups[(0 : Fin 4)].target = 0 ∧ t.groups[(0 : Fin 4)].stopEpoch = 77)) = true := by decide +kernel

theorem witness_group_loss :
    (let s : State := member;
      decide (s.powered ∧ s.ownNode = 5) &&
      after (.groupLoss 6 (5 + 4096 + 16384 * 3) 25) s fun t =>
      decide (t.site.offerLoss[(3 : Fin 4)] = 25000)) = true := by decide +kernel

/-! ## Chapter 08 -/

/-- A member with a key for ring frames in slot 8. -/
def keyed : State :=
  { withN member [(Reg.RING_KEY_SLOT, 8)] with
    trust := { State.reset.trust with slots := [(8, ⟨kWith (2 ^ 3 + 2 ^ 4 + 2 ^ 11) 1, 0, 0⟩)] } }
/-- That member as the hoist. -/
def hoist : State := { withN keyed [(Reg.RING_STATUS, 0x21), (Reg.HOIST_ADDR, 5)] with
  ring := { keyed.ring with launcher := some (5, keyed.serialTag), returned := true } }
/-- A frame from node 6 to node 5 with given data. -/
def from6 (data : List Byte) : Frame := ⟨6, 5, 77, 9, true, data⟩

theorem witness_epoch_mark :
    (let s : State := member;
     let m := (⟨6, 3, false, 10, 1, 2000000, 2, false, false, []⟩ : Mark);
     
      decide (s.powered ∧ s.byMarks ∧ s.ring.launcher = some (m.src, m.tag) ∧ m.src ≠ s.nat Reg.RING_ADDR ∧ s.ring.markEpoch < m.epoch ∧ s.wrappedAt 0 = false ∧ s.wrappedAt 1 = false ∧ s.role 12 ∧ s.ring.ready[(0 : Fin 2)] = [] ∧ s.ring.relay[(0 : Fin 2)] = []) &&
      after (.epochMark 0 m) s fun t =>
      decide (t.nat Reg.EPOCH_NUMBER = 10 ∧ t.nat Reg.HOIST_ADDR = 6 ∧ t.ring.due ∧ t.isHoist = false)
      && decide (t.sent.getLast? = some (.slot 0 .full (slotChars (slotHeader 6 6 (hopsOn 3) false false) (Mark.payload m))))) = true := by decide +kernel

theorem witness_own_mark_returns :
    (let s : State := hoist;
     let m := (⟨5, 4094, false, 9, s.serialTag, 2000000, 2, false, false, []⟩ : Mark);
     
      decide (s.powered ∧ m.src = s.nat Reg.RING_ADDR ∧ m.tag = s.serialTag ∧ s.wrappedAt 0 = false ∧ s.wrappedAt 1 = false ∧ s.ring.ready[(0 : Fin 2)] = [] ∧ s.ring.relay[(0 : Fin 2)] = []) &&
      after (.epochMark 0 m) s fun t =>
      decide (t.nat Reg.RING_NODES = 2 ∧ t.ring.returned ∧ t.nat Reg.DISPLACE_CNT = 1)) = true := by decide +kernel

theorem witness_mark_launch :
    (let s : State := hoist;
      decide (s.powered ∧ s.isHoist ∧ s.canLaunch ∧ s.ring.returned ∧ s.ring.lastMark = false ∧ s.ringUp 0 ∧ s.ringOn 0) &&
      after (.markLaunch false) s fun t =>
      decide (t.nat Reg.EPOCH_NUMBER = 10 ∧ t.ring.due ∧ t.nat Reg.HOIST_ADDR = 5 ∧ t.ring.returned = false)
      && decide (t.ring.wave[(0 : Fin 2)].any fun x => !x.1 && (x.2.take 4 == (slotChars (slotHeader 6 5 4095 false false) (zeros 120)).take 4))) = true := by decide +kernel

theorem witness_mark_after_the_last :
    (let s : State := { hoist with ring := { hoist.ring with lastMark := true } };
      decide (s.powered ∧ s.isHoist ∧ s.canLaunch ∧ s.ring.returned ∧ s.ring.lastMark) &&
      after (.markLaunch false) s fun t =>
      decide (t = s)) = true := by decide +kernel

theorem witness_cold_start :
    (let s : State := keyed;
      decide (s.powered ∧ s.canLaunch ∧ s.isHoist = false)
) = true := by decide +kernel

theorem witness_mark_not_returned :
    (let s : State := { hoist with ring := { hoist.ring with returned := false } };
      decide (s.powered ∧ s.isHoist ∧ s.canLaunch ∧ s.ring.returned = false) &&
      after (.markLaunch false) s fun t =>
      decide (t.isHoist = false ∧ t.ring.launcher = none ∧ t.epochNo = 9)) = true := by decide +kernel

theorem witness_succession :
    (let s : State := keyed;
      decide (s.powered ∧ s.canLaunch ∧ s.isMember ∧ s.isHoist = false ∧ s.ring.launcher ≠ none)
) = true := by decide +kernel

theorem witness_slot_broken :
    (let s : State := member;
      decide (s.power.mains ∧ s.power.por = false ∧ s.modes.vaultStep < 6 ∧ s.powered) &&
      after (.slotReceive 1 .broken [] 0) s fun t =>
      decide (t.nat (Reg.LINK_ERR_CNT 2) = 1)) = true := by decide +kernel

theorem witness_slot_bad_crc :
    (let s : State := member;
     
      decide (s.powered ∧ leAt (List.replicate 127 1) 124 3 ≠ crc24 (List.replicate 127 1) ∧ s.wrappedAt 0 = false ∧ s.wrappedAt 1 = false ∧ s.ring.ready[(0 : Fin 2)] = [] ∧ s.ring.relay[(0 : Fin 2)] = []) &&
      after (.slotReceive 0 .full (List.replicate 127 1) 0) s fun t =>
      decide (t.nat (Reg.LINK_ERR_CNT 1) = 1 ∧ t.sent = [.slot 0 .full (List.replicate 127 1)])) = true := by decide +kernel

theorem witness_slot_takes_an_item :
    (let s : State := { member with ring := { member.ring with ready := member.ring.ready.set 0 [(4, zeros 120, false)] } };
      decide (s.powered ∧ s.power.por = false ∧ s.wrappedAt 0 = false)
) = true := by decide +kernel

theorem witness_slot_in_reset :
    (let s : State := { member with power := { member.power with held := true } };
      decide (s.powered = false ∧ s.power.por = false ∧ s.wrappedAt 0 = false ∧ s.wrappedAt 1 = false) &&
      after (.slotReceive 0 .reserved (zeros 127) 0) s fun t =>
      decide (t.sent = [.slot 0 .reserved s.idleChars])) = true := by decide +kernel

theorem witness_slot_without_supplies :
    (let s : State := { member with power := { member.power with mains := false } };
      decide (s.power.mains = false) &&
      after (.slotReceive 0 .empty [1, 2] 0) s fun t =>
      decide (t = s)) = true := by decide +kernel

theorem witness_item_released :
    (let s : State := { member with ring := { member.ring with items := [⟨1, 6 + 4096, 0, 0, none, []⟩] } };
     let hops := (s.broadcastPlan.headD (9, 9)).2;
      decide (s.powered ∧ s.ringQuiet = false ∧ s.broadcastPlan = [(0, hops)] ∧ bit (s.nat Reg.RING_STATUS) 0)
) = true := by decide +kernel

theorem witness_group_loss_sent :
    (let s : State := withLeg (withGroup (withN member [(Reg.ROUTE 0 1, 0x640000), (Reg.ROUTE_STATE 0, 4)]) 0 fun g => { g with routeNow := 1 }) 7 fun l => { l with silent := true };
      decide (s.powered ∧ s.groupPort 0 = some (6, 0) ∧ s.legUp 7 = false ∧ s.isMember ∧ s.routeState 0 = 4) &&
      after (.groupLossSend 0 0x80) s fun t =>
      decide ((t.ring.items.any fun it => it.kind == 2 && it.group == 0 && it.port == 6 + 4096))) = true := by decide +kernel

theorem witness_wrap :
    (let s : State := member;
      decide (s.powered ∧ bit (s.nat Reg.RING_STATUS) 2 = false) &&
      after (.wrap 0) s fun t =>
      decide (bit (t.nat Reg.RING_STATUS) 2 ∧ bit (t.nat Reg.RING_STATUS) 0 = false ∧ t.nat (Reg.WRAP_CNT 1) = 1)) = true := by decide +kernel

theorem witness_unwrap :
    (let s : State := withN member [(Reg.RING_STATUS, 8)];
      decide (s.powered ∧ bit (s.nat Reg.RING_STATUS) 3) &&
      after (.unwrap 1) s fun t =>
      decide (bit (t.nat Reg.RING_STATUS) 3 = false ∧ bit (t.nat Reg.RING_STATUS) 1)) = true := by decide +kernel

theorem witness_bypass_released :
    (let s : State := withN hoist [(Reg.RING_STATUS, 0xE1)];
      decide (accepts s svc Reg.BYP_FORCE 1 ∧ s.isHoist) &&
      after (.bypForceRelease svc) s fun t =>
      decide (t.nat Reg.BYP_FORCE = 1 ∧ t.nat Reg.RING_STATUS / 64 = 0 ∧ t.isHoist = false ∧ t.ring.launcher = none)) = true := by decide +kernel

theorem witness_bypass_held :
    (let s : State := at_ [(Reg.BYP_FORCE, 1), (Reg.RING_STATUS, 0)];
      decide (accepts s svc Reg.BYP_FORCE 0 ∧ s.bypConditions) &&
      after (.bypForceHold svc) s fun t =>
      decide (t.nat Reg.BYP_FORCE = 0 ∧ bit (t.nat Reg.RING_STATUS) 6 ∧ bit (t.nat Reg.RING_STATUS) 7)) = true := by decide +kernel

theorem witness_bypass_waits :
    (let s : State := at_ [(Reg.BYP_FORCE, 1), (Reg.RING_STATUS, 0), (Reg.FABRIC_STATUS, 4)];
      decide (accepts s svc Reg.BYP_FORCE 0 ∧ s.bypConditions = false) &&
      after (.bypForceHold svc) s fun t =>
      decide (t.ring.bypWanted ∧ t.nat Reg.RING_STATUS = 0)) = true := by decide +kernel

theorem witness_bypass_drive :
    (let s : State := at_ [(Reg.RING_STATUS, 0)];
      decide (s.powered ∧ s.bypConditions ∧ s.nat Reg.BYP_FORCE = 0) &&
      after (.bypHoldDrive) s fun t =>
      decide (bit (t.nat Reg.RING_STATUS) 6 ∧ bit (t.nat Reg.RING_STATUS) 7)) = true := by decide +kernel

theorem witness_bad_frame :
    (let s : State := keyed;
     let f := { from6 [1] with authentic := false };
      decide (s.powered ∧ s.frameForMe f ∧ s.frameBad f) &&
      after (.dictRequestFrame f) s fun t =>
      decide (t.nat Reg.AUTH_FAIL_CNT = 1 ∧ t.dict = s.dict ∧ t.ring = s.ring)) = true := by decide +kernel

theorem witness_request_frame :
    (let s : State := keyed;
     let f := from6 ([1, 5, 0, 1, 0, 0] ++ zeros 6);
      decide (s.powered ∧ s.frameForMe f ∧ s.frameBad f = false ∧ s.answersTo (.node 6)) &&
      after (.dictRequestFrame f) s fun t =>
      decide ((6, 77, 9) ∈ t.ring.accepted ∧ t.dict.queue = [(.node 6, requestOf f.data)])) = true := by decide +kernel

theorem witness_pennant_frame :
    (let s : State := keyed;
     let f := from6 (zeros 64);
      decide (s.powered ∧ s.frameForMe f ∧ s.frameBad f = false)
) = true := by decide +kernel

theorem witness_streamer_frame :
    (let s : State := keyed;
     let f := from6 (zeros 8 ++ leBytes 8 (3 * 268435456) ++ leBytes 8 (1 * 65536 + 1) ++ zeros 8);
     
      decide (s.powered ∧ s.frameForMe f ∧ s.frameBad f = false ∧ field (leAt f.data 8 8) 30 28 = 3 ∧ f.data.length = 8 * traceRecordWords f.data) &&
      after (.streamerRecordsFrame f) s fun t =>
      decide (t.ev.lane.length = 1 ∧ (t.ev.lane.all fun p => p.kind == 3))) = true := by decide +kernel

theorem witness_firmware_frame :
    (let s : State := keyed;
     let f := from6 [9, 9];
      decide (s.powered ∧ s.frameForMe f ∧ s.frameBad f = false) &&
      after (.firmwareDataFrame f) s fun t =>
      decide (t.ring.firmware = [(6, [9, 9])])) = true := by decide +kernel

theorem witness_response_frame :
    (let s : State := { keyed with dict := { keyed.dict with responses := [⟨.node 6, 1, 5, .ok, [7]⟩] } };
      decide (s.powered ∧ s.canSendFrame 2 ∧ s.unicastOut = some 0) &&
      after (.dictResponseFrame 6) s fun t =>
      decide (t.dict.responses = [])) = true := by decide +kernel

theorem witness_join_admitted :
    (let s : State := hoist;
     let f := from6 (leBytes 2 7 ++ leBytes 4 99);
     
      decide (s.powered ∧ s.isHoist ∧ s.frameForMe f ∧ s.ringUsable (s.ringSlotFor 9) ∧ s.frameBad f = false ∧ (s.ring.roster.any fun m => m.addr == 7) = false ∧ ((s.ring.changes ++ s.ring.toPlace).any fun c => c.addr == 7 && c.action == 1) = false) &&
      after (.join f) s fun t =>
      decide ((⟨7, 1, 0, 99, 1⟩ : Change) ∈ t.ring.toPlace)) = true := by decide +kernel

theorem witness_join_refused :
    (let s : State := hoist;
     let f := { from6 (leBytes 2 7 ++ leBytes 4 99) with authentic := false };
      decide (s.powered ∧ s.isHoist ∧ s.frameForMe f) &&
      after (.join f) s fun t =>
      decide (t.nat Reg.AUTH_FAIL_CNT = 1 ∧ t.ring.roster = s.ring.roster ∧ (⟨7, 3, 2, 99, 0⟩ : Change) ∈ t.ring.toPlace)) = true := by decide +kernel

theorem witness_leave :
    (let s : State := hoist;
      decide (s.frameBad (from6 [0]) = false ∧ (s.ring.roster.find? fun m => m.addr == 6) = some ⟨6, 1⟩) &&
      after (.leave (from6 [0])) s fun t =>
      decide ((⟨6, 2, 1, 1, 1⟩ : Change) ∈ t.ring.toPlace)) = true := by decide +kernel

theorem witness_neighbour_change :
    (let s : State := hoist;
      decide (s.frameForMe (from6 [1, 4, 0, 7, 0]) ∧ s.frameBad (from6 [1, 4, 0, 7, 0]) = false) &&
      after (.neighbourChange (from6 [1, 4, 0, 7, 0])) s fun t =>
      decide ((6, 1, 4, 7) ∈ t.ring.reports)) = true := by decide +kernel

theorem witness_roster_evict :
    (let s : State := hoist;
      decide (accepts s svc Reg.ROSTER_EVICT 6 ∧ s.isHoist) &&
      after (.rosterEvict svc 6) s fun t =>
      decide ((⟨6, 2, 3, 1, 1⟩ : Change) ∈ t.ring.toPlace)) = true := by decide +kernel

theorem witness_join_send :
    (let s : State := { withN keyed [(Reg.ROSTER_STATE, 0)] with ring := { keyed.ring with roster := [⟨6, 1⟩], marks := 2 } };
      decide (s.powered ∧ s.mayJoin) &&
      after (.joinSend) s fun t =>
      decide (t.nat Reg.ROSTER_STATE = 1 ∧ t.ring.sinceJoin = 0)) = true := by decide +kernel

theorem witness_join_retry :
    (let s : State := { withN keyed [(Reg.ROSTER_STATE, 3)] with ring := { keyed.ring with roster := [⟨6, 1⟩], marks := 2 } };
      decide (s.powered ∧ s.mayJoin) &&
      after (.joinRetry) s fun t =>
      decide (t.nat Reg.ROSTER_STATE = 3 ∧ t.ring.sinceJoin = 0)) = true := by decide +kernel

theorem witness_leave_send :
    (let s : State := withN hoist [(Reg.ROLE_ACTIVE, 0)];
      decide (s.powered ∧ s.isMember ∧ s.waitsBurgee = false ∧ s.nat Reg.ROSTER_STATE = 2 ∧ s.role 12 = false ∧ s.isHoist) &&
      after (.leaveSend) s fun t =>
      decide (t.nat Reg.ROSTER_STATE = 4 ∧ (⟨5, 2, 1, s.serialTag, 1⟩ : Change) ∈ t.ring.toPlace)) = true := by decide +kernel

theorem witness_roster_frame :
    (let s : State := { withN keyed [(Reg.ROSTER_STATE, 1)] with ring := { keyed.ring with roster := [] } };
     let f := from6 (Change.encode ⟨6, 1, 0, 1, 4⟩);
      decide (s.powered ∧ s.isMember = false ∧ s.frameForMe f ∧ s.frameBad f = false ∧ epochAhead 4 s.epochNo = false) &&
      after (.roster f) s fun t =>
      decide ((⟨6, 1⟩ : Member) ∈ t.ring.roster ∧ t.nat Reg.ROSTER_SIZE = 1)) = true := by decide +kernel

theorem witness_evicted :
    (let s : State := keyed;
     let f := from6 (leBytes 2 5);
      decide (s.powered ∧ s.frameForMe f ∧ s.frameBad f = false ∧ leAt f.data 0 2 = s.nat Reg.RING_ADDR) &&
      after (.evict f) s fun t =>
      decide (t.nat Reg.ROSTER_STATE = 0 ∧ t.isMember = false)) = true := by decide +kernel

theorem witness_evict_at_the_hoist :
    (let s : State := hoist;
     let f := from6 (leBytes 2 6);
      decide (s.powered ∧ s.isHoist ∧ s.frameForMe f ∧ s.frameBad f = false) &&
      after (.evict f) s fun t =>
      decide ((⟨6, 2, 3, 1, 1⟩ : Change) ∈ t.ring.toPlace)) = true := by decide +kernel

/-! ## Chapters 09 and 10 -/

/-- The premises of `Serves`, decided. -/
def serves (s : State) (o : Fin 4) : Bool :=
  s.powered && decide (s.part.variant = .l) && !s.unpowered (0x60 + o.val) && (decide (s.beh 1 ≠ .mirror) || s.inSession o.val)

/-- What `serves` decides is what the statements assume. -/
theorem serves_sound {s : State} {o : Fin 4} (p : serves s o = true) : Serves s o := by
  unfold serves at p
  simp only [Bool.and_eq_true, Bool.or_eq_true, decide_eq_true_eq, Bool.not_eq_true'] at p
  exact ⟨⟨p.1.1.1, p.1.1.2, p.1.2⟩, p.2⟩

/-- The premises of `Hears`, decided. -/
def hears (s : State) (o : Fin 4) : Bool :=
  serves s o && s.role (4 + o.val) && (decide (s.nat (Reg.OUT_KIND o.val) ≠ 0) || !s.fab.fenced (modemCell o.val))

/-- What `hears` decides is what the statements assume. -/
theorem hears_sound {s : State} {o : Fin 4} (p : hears s o = true) : Hears s o := by
  unfold hears at p
  simp only [Bool.and_eq_true, Bool.or_eq_true, decide_eq_true_eq, Bool.not_eq_true'] at p
  exact ⟨serves_sound p.1.1, p.1.2, fun h => p.2.resolve_left fun n => n h⟩

/-- The premises of `Cools`, decided. -/
def cools (s : State) (o : Fin 4) : Bool := s.powered && decide (s.part.variant = .l) && !s.unpowered (0x64 + o.val)

/-- Open outlets, all four in their roles, an outlet in a state. -/
def outletAt (o : Fin 4) (st : Nat) : State :=
  withBeh (at_ [(Reg.ROLE_ACTIVE, 0xF0), (Reg.ROLE_MASK, 0xF0), (Reg.OUT_STATE o, st), (Reg.MODE_WORD, 0x04)]) [(1, .opened), (6, .run)]
/-- An outlet's record changed. -/
def withOut (s : State) (o : Fin 4) (f : Outlet → Outlet) : State := s.setOut o (f s.outs[o])
/-- The last thing told to an outlet's vehicle. -/
def tells (t : State) (o : Fin 4) (a : Answer) : Bool := t.sent.getLast? == some (.vehicle o a)

theorem witness_pilot_fault :
    (let s : State := outletAt 3 7;
      decide (serves s 3 ∧ s.inSession 3 ∧ s.outs[(3 : Fin 4)].emergency = false) &&
      after (.pilotStateChange 3 ⟨0, 0⟩) s fun t =>
      decide (t.nat (Reg.PILOT_STATE 3) = 4 ∧ t.nat (Reg.ESTOP_CNT 3) = 1)) = true := by decide +kernel

theorem witness_pilot_reads :
    (let s : State := outletAt 0 1;
      decide (serves s 0) &&
      after (.pilotStateChange 0 ⟨7500, (-10500)⟩) s fun t =>
      decide (t.nat (Reg.PILOT_STATE 0) = 1 ∧ t.nat (Reg.ESTOP_CNT 0) = 0)) = true := by decide +kernel

theorem witness_pilot_unplugged :
    (let s : State := outletAt 0 1;
      decide (serves s 0) &&
      after (.pilotStateChange 0 ⟨10500, (-12000)⟩) s fun t =>
      decide (t.nat (Reg.PILOT_STATE 0) = 0)) = true := by decide +kernel

theorem witness_pilot_state_c :
    (let s : State := outletAt 0 7;
      decide (serves s 0) &&
      after (.pilotStateChange 0 ⟨4500, (-12000)⟩) s fun t =>
      decide (t.nat (Reg.PILOT_STATE 0) = 2 ∧ t.nat (Reg.ESTOP_CNT 0) = 0)) = true := by decide +kernel

theorem witness_pilot_state_d :
    (let s : State := outletAt 0 7;
      decide (serves s 0) &&
      after (.pilotStateChange 0 ⟨1500, (-12000)⟩) s fun t =>
      decide (t.nat (Reg.PILOT_STATE 0) = 3 ∧ t.nat (Reg.ESTOP_CNT 0) = 0)) = true := by decide +kernel

theorem witness_pilot_state_f :
    (let s : State := outletAt 0 7;
      decide (serves s 0 ∧ s.inSession 0) &&
      after (.pilotStateChange 0 ⟨(-10501), (-12000)⟩) s fun t =>
      decide (t.nat (Reg.PILOT_STATE 0) = 5 ∧ t.nat (Reg.ESTOP_CNT 0) = 1)) = true := by decide +kernel

theorem witness_pilot_diode :
    (let s : State := outletAt 0 7;
      decide (serves s 0 ∧ s.pilotDrive 0 = .pwm 50) &&
      after (.pilotStateChange 0 ⟨9000, 0⟩) s fun t =>
      decide (t.nat (Reg.PILOT_STATE 0) = 6 ∧ t.nat (Reg.ESTOP_CNT 0) = 1)) = true := by decide +kernel

theorem witness_pilot_outside_every_window :
    (let s : State := outletAt 0 7;
      decide (serves s 0 ∧ s.inSession 0 ∧ s.outs[(0 : Fin 4)].emergency = false)
) = true := by decide +kernel

theorem witness_plug :
    (let s : State := withN (outletAt 0 1) [(Reg.PP_WIN 0 1, 1000), (Reg.PP_WIN 0 2, 2000)];
      decide (serves s 0) &&
      after (.ppChange 0 1000) s fun t =>
      decide (t.nat (Reg.PP_MV 0) = 1000 ∧ t.outs[(0 : Fin 4)].plugged)) = true := by decide +kernel

theorem witness_plug_outside :
    (let s : State := withN (outletAt 0 1) [(Reg.PP_WIN 0 1, 1000), (Reg.PP_WIN 0 2, 2000)];
      after (.ppChange 0 9000) s fun t =>
      decide (t.nat (Reg.PP_MV 0) = 5000 ∧ t.outs[(0 : Fin 4)].plugged = false)) = true := by decide +kernel

theorem witness_slac_match :
    (let s : State := outletAt 2 2;
      decide (hears s 2 ∧ s.nat (Reg.OUT_KIND 2) = 0 ∧ s.outState 2 = 2 ∧ s.nat Reg.TRUST_STATE ≠ 2)
) = true := by decide +kernel

theorem witness_slac_fail :
    (let s : State := withOut (outletAt 2 3) 2 fun x => { x with linked := true };
      decide (hears s 2 ∧ s.nat (Reg.OUT_KIND 2) = 0 ∧ s.outState 2 = 3) &&
      after (.slacFail 2) s fun t =>
      decide (t.outs[(2 : Fin 4)].linked = false ∧ t.nat (Reg.SLAC_FAIL_CNT 2) = 1 ∧ t.outState 2 = 2)) = true := by decide +kernel

theorem witness_discovery_refused :
    (let s : State := withOut (withN (outletAt 1 2) [(Reg.ROLE_MASK, 0)]) 1 fun x => { x with linked := true };
      decide (hears s 1 ∧ s.outState 1 = 2 ∧ s.refusal 1 = 1)
) = true := by decide +kernel

theorem witness_discovery_starts :
    (let s : State := withOut (outletAt 1 2) 1 fun x => { x with linked := true };
      decide (hears s 1 ∧ s.outState 1 = 2 ∧ s.outs[(1 : Fin 4)].linked)
) = true := by decide +kernel

theorem witness_tls_fails :
    (let s : State := outletAt 1 3;
      decide (hears s 1 ∧ s.outState 1 = 3) &&
      after (.tlsHandshake 1 ⟨false, true, none⟩) s fun t =>
      decide (t.nat (Reg.TLS_FAIL_CNT 1) = 1)) = true := by decide +kernel

theorem witness_tls_completes :
    (let s : State := withOut { (outletAt 1 3).put (Reg.SECC_CHAIN 1) (.bytes [1]) with trust := { State.reset.trust with slots := [(9, ⟨kWith (2 ^ 3 + 2 ^ 10) 1, 0, 0⟩)] } } 1 fun x => { x with handshake := true };
     let u := withN s [(Reg.SECC_KEY_SLOT 1, 9)];
      decide (serves u 1 ∧ u.outState 1 = 3 ∧ u.secc 1 ∧ u.nat Reg.TRUST_STATE ≠ 2) &&
      after (.limpEnChange false) s fun t =>
     
      decide (after (.tlsHandshake 1 ⟨true, false, none⟩) u fun t => t.outs[(1 : Fin 4)].secured && t.outState 1 == 4 && t.sent.contains (.vehicle 1 (.handshake [1] (u.staple 1))))) = true := by decide +kernel

theorem witness_protocol_accepted :
    (let s : State := withN (outletAt 1 3) [(Reg.PROTO_EN 1, 1)];
      decide (hears s 1 ∧ s.outState 1 = 3 ∧ s.entryOk 1 0 ∧ s.entryOk 1 1 = false) &&
      after (.appProtocolHandshake 1 [1, 0]) s fun t =>
      decide (t.outState 1 = 4 ∧ t.nat (Reg.PROTOCOL 1) = 1 ∧ t.outs[(1 : Fin 4)].handshake)) = true := by decide +kernel

theorem witness_no_protocol :
    (let s : State := withN (outletAt 1 3) [(Reg.PROTO_EN 1, 1)];
      decide (hears s 1 ∧ s.entryOk 1 2 = false)
) = true := by decide +kernel

theorem witness_setup :
    (let s : State := outletAt 0 4;
      decide (hears s 0 ∧ s.outState 0 = 4) &&
      after (.sessionSetup 0 [1, 2]) s fun t =>
      decide (t.outs[(0 : Fin 4)].evcc = [1, 2] ∧ tells t 0 .ok)) = true := by decide +kernel

theorem witness_services :
    (let s : State := outletAt 0 4;
      decide (hears s 0) &&
      after (.serviceDiscovery 0) s fun t =>
      decide (tells t 0 (.services false))) = true := by decide +kernel

theorem witness_bidirectional :
    (let s : State := withN (outletAt 0 4) [(Reg.PROTOCOL 0, 3), (Reg.PROTO_EN 0, 15)];
      decide (hears s 0 ∧ s.bptOffered 0) &&
      after (.serviceSelection 0 true) s fun t =>
      decide (tells t 0 .ok ∧ t.nat (Reg.PROTOCOL 0) = 4)) = true := by decide +kernel

theorem witness_unidirectional :
    (let s : State := outletAt 0 4;
      after (.serviceSelection 0 false) s fun t =>
      decide (tells t 0 .ok ∧ t.objs = s.objs)) = true := by decide +kernel

theorem witness_authorization :
    (let s : State := (withN (outletAt 0 4) [(Reg.SESSION_ID 0, 4294967295), (Reg.PROTOCOL 0, 2)]).put (Reg.MO_ROOT 0 8) (.bytes [3]);
     
      decide (hears s 0 ∧ s.chainHolds (Reg.MO_ROOT 0) ([3], 4) ∧ s.outs[(0 : Fin 4)].identified = false ∧ s.outs[(0 : Fin 4)].authorised = false)
) = true := by decide +kernel

theorem witness_auth_write :
    (let s : State := withOut (outletAt 0 4) 0 fun x => { x with identified := true };
      decide (hears s 0 ∧ accepts s svc (Reg.AUTH 0) 1) &&
      after (.authWrite svc 0 1) s fun t =>
      decide (t.nat (Reg.AUTH 0) = 1 ∧ t.outs[(0 : Fin 4)].authorised)) = true := by decide +kernel

theorem witness_auth_timeout :
    (let s : State := withOut (outletAt 0 4) 0 fun x => { x with identified := true };
      decide (hears s 0 ∧ s.outs[(0 : Fin 4)].authorised = false) &&
      after (.authTimeout 0) s fun t =>
      decide (t.nat (Reg.REFUSE_REASON 0) = 7)) = true := by decide +kernel

theorem witness_parameters :
    (let s : State := outletAt 0 4;
      decide (hears s 0) &&
      after (.chargeParameterDiscovery 0 500000) s fun t =>
      decide (t.outs[(0 : Fin 4)].maxV = 500000)) = true := by decide +kernel

theorem witness_schedule :
    (let s : State := outletAt 0 4;
      decide (hears s 0) &&
      after (.scheduleExchange 0) s fun t =>
      decide (tells t 0 (.schedule 86400 (s.int (Reg.OUT_P_MAX 0))))) = true := by decide +kernel

theorem witness_schedule_of_another_protocol :
    (let s : State := withN (outletAt 0 4) [(Reg.PROTOCOL 0, 2)];
      decide (hears s 0 ∧ s.nat (Reg.PROTOCOL 0) = 2) &&
      after (.scheduleExchange 0) s fun t =>
      decide (Emit.vehicle 0 .failed ∈ t.sent ∧ t.inSession 0 = false)) = true := by decide +kernel

theorem witness_authorization_without_a_contract :
    (let s : State := withOut (outletAt 0 4) 0 fun x => { x with evcc := [66] };
      decide (hears s 0 ∧ s.outs[(0 : Fin 4)].identified = false ∧ s.outs[(0 : Fin 4)].authorised = false)
) = true := by decide +kernel

theorem witness_certificate_request :
    (let s : State := outletAt 0 4;
      decide (hears s 0) &&
      after (.certificateRequest 0 [1, 2, 3]) s fun t =>
      decide (t.blob (Reg.CERT_REQ 0) = [1, 2, 3] ∧ t.ctr 0 4)) = true := by decide +kernel

theorem witness_certificate_response :
    (let s : State := (outletAt 0 4).putBit (Reg.CTR_STATE 0) 4 true;
      decide (acceptsBlob s svc (Reg.CERT_RES 0) [7]) &&
      after (.certResWrite svc 0 [7]) s fun t =>
      decide (t.ctr 0 4 = false ∧ tells t 0 (.certificate [7]))) = true := by decide +kernel

theorem witness_certificate_timeout :
    (let s : State := (outletAt 0 4).putBit (Reg.CTR_STATE 0) 4 true;
      decide (serves s 0 ∧ s.ctr 0 4) &&
      after (.certResTimeout 0) s fun t =>
      decide (t.ctr 0 4 = false ∧ tells t 0 .failed)) = true := by decide +kernel

theorem witness_receipt :
    (let s : State := withN (outletAt 0 7) [(Reg.E_IMPORT 0, 5)];
      decide (hears s 0 ∧ s.outState 0 = 7) &&
      after (.meteringReceipt 0 [1]) s fun t =>
      decide (Emit.vehicle 0 (.meter 5 0) ∈ t.sent)) = true := by decide +kernel

theorem witness_unknown_message :
    (let s : State := outletAt 0 2;
      decide (hears s 0 ∧ s.inSession 0 = false) &&
      after (.unknownMessage 0) s fun t =>
      decide (tells t 0 .failed ∧ t.objs = s.objs)) = true := by decide +kernel

theorem witness_cable_check :
    (let s : State := withOut (outletAt 0 4) 0 fun x => { x with authorised := true, maxV := 500000 };
      decide (hears s 0 ∧ s.outState 0 = 4 ∧ s.nat Reg.LOG_STATE = 0 ∧ s.cools[(0 : Fin 4)].noEngine = false) &&
      after (.cableCheckRequest 0) s fun t =>
      decide (t.outState 0 = 5 ∧ tells t 0 (.check 0) ∧ t.ctr 0 1 ∧ t.outs[(0 : Fin 4)].ccpEn)) = true := by decide +kernel

theorem witness_check_good :
    (let s : State := outletAt 0 5;
      decide (hears s 0 ∧ s.vNear 0 s.outs[(0 : Fin 4)].testV) &&
      after (.cableCheckJudged 0 true none) s fun t =>
      decide (t.outState 0 = 6 ∧ t.outs[(0 : Fin 4)].checked = 1 ∧ t.nat (Reg.ISO_R 0) = s.isoR 0 none)) = true := by decide +kernel

theorem witness_check_bad :
    (let s : State := outletAt 0 5;
      decide (hears s 0 ∧ s.vNear 0 s.outs[(0 : Fin 4)].testV)
) = true := by decide +kernel

theorem witness_check_times_out :
    (let s : State := outletAt 0 5;
      decide (hears s 0)
) = true := by decide +kernel

theorem witness_precharge :
    (let s : State := outletAt 0 6;
      decide (hears s 0) &&
      after (.preCharge 0 0) s fun t =>
      decide (t.outs[(0 : Fin 4)].reached ∧ tells t 0 (.voltage 0 true))) = true := by decide +kernel

theorem witness_precharge_times_out :
    (let s : State := outletAt 0 6;
      decide (hears s 0 ∧ s.outs[(0 : Fin 4)].reached = false) &&
      after (.pchTimeout 0) s fun t =>
      decide (t.outState 0 = 8)) = true := by decide +kernel

theorem witness_transfer_begins :
    (let s : State := withOut (outletAt 0 6) 0 fun x => { x with reached := true };
      decide (hears s 0) &&
      after (.powerDelivery 0 true) s fun t =>
      decide (t.outState 0 = 7 ∧ tells t 0 .ok ∧ t.nat (Reg.SESSION_CNT 0) = 1)) = true := by decide +kernel

theorem witness_power_delivery_stops :
    (let s : State := outletAt 0 7;
      decide (hears s 0) &&
      after (.powerDelivery 0 false) s fun t =>
      decide (t.outState 0 = 8 ∧ t.outs[(0 : Fin 4)].cause = some 1 ∧ tells t 0 .ok)) = true := by decide +kernel

theorem witness_charge_loop :
    (let s : State := outletAt 0 7;
      decide (hears s 0 ∧ s.discharging 0 = false) &&
      after (.chargeLoopRequest 0 false 100000 400000 none 0 none) s fun t =>
      decide (t.nat (Reg.SESSION_CEIL 0) = s.sessionCeil 0 100000 none ∧ t.outs[(0 : Fin 4)].ccpEn = false)
      && decide (t.site.claims[(0 : Fin 4)] = ⟨t.nat (Reg.SESSION_CEIL 0), t.nat (Reg.SESSION_FLOOR 0), false⟩)) = true := by decide +kernel

theorem witness_charge_loop_emergency :
    (let s : State := outletAt 0 5;
      decide (hears s 0 ∧ s.outs[(0 : Fin 4)].emergency = false) &&
      after (.chargeLoopRequest 0 true 0 0 none 0 none) s fun t =>
      decide (t.outState 0 = 8 ∧ t.outs[(0 : Fin 4)].emergency ∧ t.nat (Reg.ESTOP_CNT 0) = 1)) = true := by decide +kernel

theorem witness_welding_detection :
    (let s : State := withN (outletAt 0 9) [(Reg.V_CABLE 0, 77)];
      decide (hears s 0) &&
      after (.weldingDetection 0) s fun t =>
      decide (tells t 0 (.voltage 77 false))) = true := by decide +kernel

theorem witness_imd_edge_lost :
    (let s : State := outletAt 0 5;
      decide (hears s 0) &&
      after (.imdPwmEdgeLost 0) s fun t =>
      decide (t.nat (Reg.ISO_R 0) = 0xFFFFFFFF)) = true := by decide +kernel

theorem witness_session_stop_request :
    (let s : State := outletAt 0 5;
      decide (hears s 0) &&
      after (.sessionStopReq 0) s fun t =>
      decide (t.outState 0 = 8 ∧ t.outs[(0 : Fin 4)].cause = some 1 ∧ Emit.vehicle 0 .ok ∈ t.sent)) = true := by decide +kernel

theorem witness_unknown_message_stops :
    (let s : State := outletAt 0 7;
      decide (hears s 0) &&
      after (.unknownMessage 0) s fun t =>
      decide (t.outState 0 = 8 ∧ Emit.vehicle 0 .failed ∈ t.sent)) = true := by decide +kernel

theorem witness_insulation_fault :
    (let s : State := outletAt 0 6;
      decide (hears s 0 ∧ s.outs[(0 : Fin 4)].emergency = false) &&
      after (.imdFault 0) s fun t =>
      decide (t.outState 0 = 8 ∧ t.outs[(0 : Fin 4)].emergency ∧ t.nat (Reg.ESTOP_CNT 0) = 1)) = true := by decide +kernel

theorem witness_session_stop_refused :
    (let s : State := outletAt 0 1;
      decide (accepts s svc (cmdBase .sessionStop + 1) 0 ∧ s.isStandby = false ∧ s.inSession 0 = false) &&
      after (.sessionStop svc 0) s fun t =>
      decide ((t.res .sessionStop).status = .refused ∧ (t.res .sessionStop).detail = 0x100)) = true := by decide +kernel

theorem witness_session_stop_on_a_standby :
    (let s : State := withN (outletAt 0 7) [(Reg.MODE_IN_FORCE, 8)];
      decide (accepts s svc (cmdBase .sessionStop + 1) 0 ∧ s.isStandby) &&
      after (.sessionStop svc 0) s fun t =>
      decide ((t.res .sessionStop).detail = 3)) = true := by decide +kernel

theorem witness_session_stop :
    (let s : State := outletAt 3 7;
      decide (accepts s svc (cmdBase .sessionStop + 1) 3 ∧ s.isStandby = false) &&
      after (.sessionStop svc 3) s fun t =>
      decide (t.outState 3 = 8 ∧ t.outs[(3 : Fin 4)].cause = some 2 ∧ (t.res .sessionStop).status = .pending)) = true := by decide +kernel

theorem witness_feeding_groups_parked :
    (let s : State := withN (outletAt 0 8) [(Reg.CTR_STATE 0, 15)];
      decide (serves s 0 ∧ s.ctr 0 2 ∧ s.int (Reg.OUT_GRANT 0) = 0) &&
      after (.feedingGroupsParked 0) s fun t =>
      decide (t.outState 0 = 9 ∧ t.ctr 0 0 = false)) = true := by decide +kernel

theorem witness_estop_opens_under_load :
    (let s : State := withOut (withN (outletAt 0 8) [(Reg.CTR_STATE 0, 15), (Reg.I_OUTLET 0, 100000)]) 0 fun x => { x with emergency := true };
      decide (serves s 0 ∧ s.ctr 0 2 ∧ s.nat (Reg.OPEN_I 0) < 100000) &&
      after (.estopOpenExpiry 0) s fun t =>
      decide (t.outState 0 = 9 ∧ t.nat (Reg.LOAD_OPEN_CNT 0) = 1)) = true := by decide +kernel

theorem witness_contactor_closes_uncommanded :
    (let s : State := outletAt 0 1;
      decide (s.powered ∧ s.part.variant = .l ∧ s.ctr 0 1 = false ∧ s.ctr 0 3 = false) &&
      after (.contactorFeedback 0 true (!bit (s.nat (Reg.CFB_POL 0)) 1)) s fun t =>
      decide (t.ctr 0 3 ∧ t.outState 0 = 11 ∧ t.nat (Reg.WELD_CNT 0) = 1)) = true := by decide +kernel

theorem witness_contactor_does_not_close :
    (let s : State := withN (outletAt 0 5) [(Reg.CTR_STATE 0, 1)];
      decide (serves s 0 ∧ s.ctr 0 0 ∧ s.ctr 0 2 = false) &&
      after (.ctrTimeout 0 false) s fun t =>
      decide (t.outState 0 = 11 ∧ t.ctr 0 0 = false ∧ t.ctr 0 1 = false)) = true := by decide +kernel

theorem witness_contactor_stays_closed :
    (let s : State := withN (outletAt 0 9) [(Reg.CTR_STATE 0, 4)];
      decide (serves s 0 ∧ s.ctr 0 0 = false ∧ s.ctr 0 2) &&
      after (.ctrTimeout 0 false) s fun t =>
      decide (t.outState 0 = 11 ∧ t.nat (Reg.WELD_CNT 0) = 1)) = true := by decide +kernel

theorem witness_outlet_fault_cleared :
    (let s : State := outletAt 0 11;
      decide (accepts s svc (Reg.OUT_FAULT_CLEAR 0) 1 ∧ s.ctr 0 2 = false ∧ s.ctr 0 3 = false) &&
      after (.outletFaultClear svc 0 1) s fun t =>
      decide (t.outState 0 ≠ 11)) = true := by decide +kernel

theorem witness_outlet_fault_stays :
    (let s : State := withN (outletAt 0 11) [(Reg.CTR_STATE 0, 8)];
      decide (accepts s svc (Reg.OUT_FAULT_CLEAR 0) 1) &&
      after (.outletFaultClear svc 0 1) s fun t =>
      decide (t.outState 0 = 11)) = true := by decide +kernel

theorem witness_cooling_step :
    (let s : State := withN (outletAt 0 1) [(Reg.BIND_ACTIVE 32, 64)];
      decide (cools s 0 ∧ s.blackLoop = false ∧ s.coolEngine 0 = some 32) &&
      after (.coolingStep 0 [1000000, 1000000, 1000000, 1000000, 1000000, 1000000] 10 500000 1) s fun t =>
     
      decide (t.nat (Reg.MODEL_STEPS 32) = 1 ∧ t.nat (Reg.FLOW_MEAS 0) = min (10 * 1000000 * 60000 / (500000 * s.nat (Reg.FLOW_K 0))) 4294967295)) = true := by decide +kernel

theorem witness_flow_lost :
    (let s : State := withN (outletAt 0 1) [(Reg.PUMP_DUTY 0, 60000), (Reg.SENSOR_ASSIGN 0 7, 1)];
      decide (cools s 0 ∧ s.assign 0 6 = 1 ∧ s.nat (Reg.PUMP_MIN 0) ≤ s.nat (Reg.PUMP_DUTY 0) ∧ s.nat (Reg.PUMP_DUTY 0) ≠ 0)
) = true := by decide +kernel

theorem witness_input_returns :
    (let s : State := withN (outletAt 0 1) [(Reg.SENSOR_ASSIGN 0 7, 1)];
      decide (cools s 0 ∧ s.assign 0 6 = 1) &&
      after (.inputValidReturn 0 6) s fun t =>
      decide (t.cools[(0 : Fin 4)].failed[(6 : Fin 7)] = false)) = true := by decide +kernel

theorem witness_cool_loop_silent :
    (let s : State := outletAt 0 1;
      decide (cools s 0 ∧ s.beh 6 ≠ .idle ∧ s.beh 6 ≠ .off ∧ s.role 4)
) = true := by decide +kernel

theorem witness_cool_loop_silent_without_a_role :
    (let s : State := withN (outletAt 0 1) [(Reg.ROLE_ACTIVE, 0)];
      decide (cools s 0 ∧ s.beh 6 ≠ .idle ∧ s.beh 6 ≠ .off ∧ s.role 4 = false)
) = true := by decide +kernel

/-! ## Chapter 11 -/

/-- A state with a load-switch channel changed and some elements set. -/
def chanAt (n : Fin 16) (l : List (Nat × Nat)) (f : Chan → Chan) : State :=
  let s := at_ l
  s.setChan n (f s.ls.chans[n])

theorem witness_short_trip_at_the_edge :
    (let s : State := at_ [(Reg.LS_STATE 7, 2)];
      decide (s.curtailed 7 = false ∧ s.shortCounts 7)
) = true := by decide +kernel

theorem witness_overload_retries :
    (let s : State := at_ [(Reg.LS_STATE 0, 2), (Reg.RETRIES_LEFT 0, 1)];
      decide (s.curtailed 0 = false ∧ s.chanOn 0 ∧ s.ls.chans[(0 : Fin 16)].window = false)
) = true := by decide +kernel

theorem witness_thermal_latches :
    (let s : State := at_ [(Reg.LS_STATE 15, 3), (Reg.RETRIES_LEFT 15, 0)];
      decide (s.curtailed 15 = false ∧ s.chanOn 15)
) = true := by decide +kernel

theorem witness_window_ends_in_a_short :
    (let s : State := chanAt 3 [(Reg.LS_STATE 3, 1)] fun c => { c with window := true, prof := { c.prof with loadType := 5 } };
      decide (s.curtailed 3 = false ∧ s.chanOn 3 ∧ s.ls.chans[(3 : Fin 16)].window)
) = true := by decide +kernel

theorem witness_window_ends :
    (let s : State := chanAt 3 [(Reg.LS_STATE 3, 1)] fun c => { c with window := true };
      decide (s.curtailed 3 = false ∧ s.chanOn 3 ∧ s.ls.chans[(3 : Fin 16)].window) &&
      after (.inrushWindowEnd 3 false) s fun t =>
      decide (t.nat (Reg.LS_STATE 3) = 2)) = true := by decide +kernel

theorem witness_retry_uses_one :
    (let s : State := at_ [(Reg.LS_STATE 4, 4), (Reg.RETRIES_LEFT 4, 3)];
      decide (s.curtailed 4 = false ∧ s.nat (Reg.LS_STATE 4) = 4 ∧ s.vsBad = false) &&
      after (.lsRetry 4) s fun t =>
      decide (t.chanOn 4 ∧ t.nat (Reg.RETRIES_LEFT 4) = 2 ∧ t.nat (Reg.RETRY_CNT 4) = 1)) = true := by decide +kernel

theorem witness_retry_after_curtailed_is_free :
    (let s : State := chanAt 4 [(Reg.LS_STATE 4, 4), (Reg.RETRIES_LEFT 4, 3)] fun c => { c with freeRetry := true };
      decide (s.curtailed 4 = false ∧ s.nat (Reg.LS_STATE 4) = 4 ∧ s.vsBad = false) &&
      after (.lsRetry 4) s fun t =>
      decide (t.nat (Reg.RETRIES_LEFT 4) = 3)) = true := by decide +kernel

theorem witness_curtail_ends :
    (let s : State := at_ [(Reg.LS_FLAGS 2, 4)];
      decide (s.curtailed 2) &&
      after (.curtailEnd 2) s fun t =>
      decide (t.curtailed 2 = false)) = true := by decide +kernel

theorem witness_retries_reload :
    (let s : State := chanAt 2 [(Reg.LS_STATE 2, 2)] fun c => { c with prof := { c.prof with retryMax := 9 } };
      decide (s.chanOn 2) &&
      after (.retriesReload 2) s fun t =>
      decide (t.nat (Reg.RETRIES_LEFT 2) = 9)) = true := by decide +kernel

theorem witness_open_load :
    (let s : State := at_ [(Reg.LS_STATE 2, 2)];
      decide (s.chanOn 2) &&
      after (.openLoad 2 true) s fun t =>
      decide (bit (t.nat (Reg.LS_FLAGS 2)) 1)) = true := by decide +kernel

theorem witness_ls_on :
    (let s : State := chanAt 15 [] fun c => { c with devCmd := false };
      decide (accepts s svc (Reg.LS_ON 15) 1 ∧ s.lsSource 15 = 0 ∧ s.vsBad = false ∧ s.nat (Reg.LS_STATE 15) = 0) &&
      after (.lsOnWrite svc 15 1) s fun t =>
      decide (t.chanOn 15 ∧ answered t svc .ok)) = true := by decide +kernel

theorem witness_ls_off :
    (let s : State := at_ [(Reg.LS_STATE 15, 2)];
      decide (accepts s svc (Reg.LS_ON 15) 0 ∧ s.lsSource 15 = 0)
) = true := by decide +kernel

theorem witness_ls_clear :
    (let s : State := at_ [(Reg.LS_STATE 0, 5)];
      decide (accepts s svc (Reg.LS_CLEAR 0) 1 ∧ s.nat (Reg.LS_STATE 0) = 5) &&
      after (.lsClear svc 0 1) s fun t =>
      decide (t.nat (Reg.LS_STATE 0) = 0)) = true := by decide +kernel

theorem witness_limp_in :
    (let s : State := { at_ [(Reg.LIMP_MAP 4, 7)] with modes := { State.reset.modes with limpReached := true } };
     
      decide (({ s with objs := (s.putBit Reg.LIMP_PINS 7 true).objs } : State).lsSource 3 = 2 ∧ s.lsSource 3 = 2 ∧ s.limpPin 3 = some 7 ∧ s.vsBad = false) &&
      after (.limpInChange 7 true false) s fun t =>
      decide (t.chanOn 3 ∧ bit (t.nat Reg.LIMP_PINS) 7)) = true := by decide +kernel

theorem witness_vs_ls_restored :
    (let s : State := at_ [(Reg.LS_STATUS, 1), (Reg.LS_ON 9, 1)];
      decide (s.nat (Reg.LS_STATE 9) = 0 ∧ s.lsCommand 9) &&
      after (.vsLsRestored) s fun t =>
      decide (t.chanOn 9 ∧ t.vsBad = false)) = true := by decide +kernel

theorem witness_link_silent :
    (let s : State := State.reset;
      decide (s.lsSource 5 = 0) &&
      after (.failsafeTrigger true) s fun t =>
      decide (t.nat (Reg.LS_SOURCE 5) = 3)) = true := by decide +kernel

theorem witness_fs_wait_ends :
    (let s : State := at_ [(Reg.LS_FLAGS 5, 16), (Reg.LS_STATE 5, 2)];
      decide (bit (s.nat (Reg.LS_FLAGS 5)) 4 ∧ s.gatesLow ∧ s.nat (Reg.LS_STATE 5) ≠ 5)
) = true := by decide +kernel

theorem witness_package_over :
    (let s : State := { State.reset with ls := { State.reset.ls with sums := List.replicate 999 16000 } };
      decide (s.powered)
) = true := by decide +kernel

theorem witness_package_at_the_limit :
    (let s : State := { State.reset with ls := { State.reset.ls with sums := List.replicate 999 16000 } };
      decide (s.powered) &&
      after (.pkgCurrentCheck 12000 [16000]) s fun t =>
      decide (bit (t.nat Reg.LS_STATUS) 2 = false)) = true := by decide +kernel

theorem witness_good_word :
    (let s : State := { at_ [(Reg.WD_STATE, 2), (Reg.HB_SEQ_LAST, 255), (Reg.HB_MIN, 5)] with ls := { State.reset.ls with anySeq := false, seen := true } };
      decide (s.nat Reg.WD_STATE ≠ 0 ∧ s.anaUp ∧ s.lsTab Reg.HB_MIN ≤ 5 ∧ s.ls.anySeq = false) &&
      after (.heartbeatWord true 0 0xA5 5) s fun t =>
      decide (t.nat Reg.HB_SEQ_LAST = 0 ∧ t.ls.validRun = s.ls.validRun + 1 ∧ t.nat Reg.WD_STATE = 2)) = true := by decide +kernel

theorem witness_word_too_early :
    (let s : State := { at_ [(Reg.WD_STATE, 4), (Reg.HB_SEQ_LAST, 255), (Reg.HB_MIN, 5)] with ls := { State.reset.ls with anySeq := false, seen := true } };
      decide (s.nat Reg.WD_STATE ≠ 0 ∧ s.anaUp) &&
      after (.heartbeatWord true 0 0xA5 4) s fun t =>
      decide (t.nat Reg.HB_SEQ_LAST = 255 ∧ t.nat Reg.HB_FAULT_CNT = 1 ∧ t.nat Reg.WD_STATE = 3)) = true := by decide +kernel

theorem witness_hb_max :
    (let s : State := at_ [(Reg.WD_STATE, 2)];
      decide (s.nat Reg.WD_STATE ≠ 0 ∧ s.anaUp)
) = true := by decide +kernel

theorem witness_wd_release :
    (let s : State := at_ [(Reg.WD_STATE, 4)];
      decide (accepts s svc Reg.WD_RELEASE 1) &&
      after (.wdRelease svc 1) s fun t =>
      decide (t.nat Reg.WD_STATE = 2)) = true := by decide +kernel

theorem witness_wd_release_when_expired :
    (let s : State := at_ [(Reg.WD_STATE, 3)];
      decide (accepts s svc Reg.WD_RELEASE 1) &&
      after (.wdRelease svc 1) s fun t =>
      decide (t.nat Reg.WD_STATE = 3)) = true := by decide +kernel

theorem witness_limp_in_low :
    (let s : State := { at_ [(Reg.LIMP_MAP 4, 7), (Reg.LS_STATE 3, 2), (Reg.LIMP_PINS, 0x80)] with modes := { State.reset.modes with limpReached := true } };
      decide (s.lsSource 3 = 2 ∧ s.limpPin 3 = some 7 ∧ s.nat (Reg.LS_STATE 3) ≠ 5)
) = true := by decide +kernel

theorem witness_ls_clear_of_a_channel_that_is_on :
    (let s : State := at_ [(Reg.LS_STATE 0, 2)];
      decide (accepts s svc (Reg.LS_CLEAR 0) 1) &&
      after (.lsClear svc 0 1) s fun t =>
      decide (t.nat (Reg.LS_STATE 0) = 2)) = true := by decide +kernel

theorem witness_vs_ls_out :
    (let s : State := at_ [(Reg.LS_STATE 3, 2)];
      decide (s.chanOn 3)
) = true := by decide +kernel

theorem witness_package_under :
    (let s : State := { at_ [(Reg.LS_STATUS, 4)] with ls := { State.reset.ls with sums := List.replicate 999 15000 } };
      decide (s.powered) &&
      after (.pkgCurrentCheck 12000 [14999]) s fun t =>
      decide (bit (t.nat Reg.LS_STATUS) 2 = false)) = true := by decide +kernel

theorem witness_hb_max_when_resynced :
    (let s : State := at_ [(Reg.WD_STATE, 4)];
      decide (s.anaUp) &&
      after (.hbMaxExpiry) s fun t =>
      decide (t.nat Reg.WD_STATE = 3 ∧ t.ls.validRun = 0 ∧ t.ls.anySeq)) = true := by decide +kernel

/-! ## Chapter 12 -/

/-- A state that meters and keeps billing, with some elements set. -/
def meterAt (l : List (Nat × Nat)) : State :=
  let s := withBeh (at_ l) [(4, .meter), (5, .keep)]
  { s with bill := { s.bill with clock := #v[true, true] } }

theorem witness_sample_below_one_mwh :
    (let s : State := meterAt [(Reg.LOG_STATE, 0)];
      decide (s.powered ∧ s.metering ∧ s.modes.meterStopped = false ∧ s.integrating 3) &&
      after (.metrologySample 3 0 0) s fun t =>
      decide (t.nat (Reg.E_IMPORT 3) = 0 ∧ (t.meter 3).sumN = 1 ∧ (t.meter 3).ris.length = (s.meter 3).ris.length + 1)) = true := by decide +kernel

theorem witness_sample_passes_a_mwh :
    (let s : State := (let s := meterAt [(Reg.E_IMPORT 0, 18446744073709551615)]; s.setMeter 0 { s.meter 0 with resImp := 10 * unitsPerMwh });
      decide (s.powered ∧ s.metering ∧ s.modes.meterStopped = false ∧ s.integrating 0) &&
      after (.metrologySample 0 0 0) s fun t =>
      decide (t.nat (Reg.E_IMPORT 0) = 9)) = true := by decide +kernel

theorem witness_publication :
    (let s : State := (let s := meterAt []; s.setMeter 1 { s.meter 1 with sumN := 2, sumV := -1601999, sumI := 10000000 });
      decide (s.powered ∧ s.metering) &&
      after (.metrologyPublish) s fun t =>
     
      decide (t.int (Reg.V_INST 1) = -800 ∧ t.int (Reg.I_INST 1) = 5000 ∧ t.int (Reg.P_INST 1) = -4 ∧ t.int (Reg.V_CABLE 1) = -800)) = true := by decide +kernel

theorem witness_clock_lost :
    (let s : State := meterAt [];
      decide (s.powered ∧ s.metering ∧ s.bill.clock[(1 : Fin 2)]) &&
      after (.mscrClockLost 1) s fun t =>
     
      decide (t.integrating 2 = false ∧ t.integrating 3 = false ∧ t.integrating 0 ∧ (t.meter 2).missing ∧ (t.meter 3).gapAt = some s.now)) = true := by decide +kernel

theorem witness_clock_returns :
    (let s : State := (let s := meterAt []; { s with bill := { s.bill with clock := s.bill.clock.set 1 false } });
      decide (s.powered ∧ s.metering) &&
      after (.mscrClockReturn 1) s fun t =>
      decide (bit (t.nat (Reg.MC_STATUS 2)) 0 ∧ bit (t.nat (Reg.MC_STATUS 3)) 0)) = true := by decide +kernel

theorem witness_stream_stuck :
    (let s : State := (let s := meterAt []; s.setMeter 0 { s.meter 0 with capture := some (0, 0, 5) });
      decide (s.powered ∧ s.metering ∧ (s.meter 0).iStuck = false) &&
      after (.streamStuck 0 true) s fun t =>
      decide (t.integrating 0 = false ∧ (t.meter 0).capture = none ∧ bit (t.nat (Reg.MC_STATUS 0)) 2 = false)) = true := by decide +kernel

theorem witness_engine_fenced :
    (let s : State := meterAt [];
      decide (s.powered ∧ s.part.variant = .l ∧ s.fab.fenced (meterCell 0) = false ∧ s.bill.engFenced[(0 : Fin 2)] = false)
) = true := by decide +kernel

theorem witness_capture_refused :
    (let s : State := withBeh State.reset [(4, .idle)];
      decide (accepts s svc (cmdBase .calCapture + 1) 0x0103 ∧ s.metering = false) &&
      after (.calCapture svc 0x0103) s fun t =>
      decide ((t.res .calCapture).status = .refused ∧ (t.res .calCapture).detail = 1)) = true := by decide +kernel

theorem witness_capture_begins :
    (let s : State := meterAt [];
      decide (accepts s svc (cmdBase .calCapture + 1) 0xFF03 ∧ s.metering ∧ s.channelGood 3) &&
      after (.calCapture svc 0xFF03) s fun t =>
      decide ((t.res .calCapture).status = .pending ∧ (t.meter 3).capture = some (0, 0, 0))) = true := by decide +kernel

theorem witness_capture_bad_channel :
    (let s : State := (let s := meterAt []; s.setMeter 3 { s.meter 3 with vStuck := true });
      decide (accepts s svc (cmdBase .calCapture + 1) 0x0103 ∧ s.metering ∧ s.channelGood 3 = false) &&
      after (.calCapture svc 0x0103) s fun t =>
      decide ((t.res .calCapture).status = .failed ∧ (t.res .calCapture).detail = 0x100)) = true := by decide +kernel

theorem witness_capture_done :
    (let s : State := (let base := (match exec (.calCapture svc 0x0103) (meterAt []) with | .next u => u | _ => State.reset); base.setMeter 3 { base.meter 3 with capture := some (-12801, 25600, 12800) });
      decide (s.powered ∧ s.isPending .calCapture ∧ 12800 * field (s.res .calCapture).arg 15 8 ≤ 12800) &&
      after (.calCaptureDone) s fun t =>
      decide ((t.res .calCapture).status = .completed ∧ (t.res .calCapture).value = 0xFFFFFFFF + 4294967296 * 2)) = true := by decide +kernel

theorem witness_loop_opens :
    (let s : State := (let s := at_ [(Reg.TAMP_EN, 15)]; s.setLoop 2 { s.loop 2 with last := true, run := 2 });
      decide (bit (s.nat Reg.TAMP_EN) 2 ∧ s.power.mains ∧ bit (s.nat Reg.TAMP_STATE) 2 = false ∧ s.powered) &&
      after (.sealLoopSample 10001) s fun t =>
     
      decide (bit (t.nat Reg.TAMP_STATE) 2 ∧ t.nat (Reg.TAMP_OPEN_CNT 3) = 1 ∧ t.nat Reg.SEAL_STATE = 1 ∧ t.nat Reg.SEAL_OPEN_CNT = 1)) = true := by decide +kernel

theorem witness_loop_between :
    (let s : State := (let s := at_ [(Reg.TAMP_EN, 15)]; s.setLoop 3 { s.loop 3 with last := true, run := 2 });
      decide (bit (s.nat Reg.TAMP_EN) 3) &&
      after (.tamperLoopSample 3 10000) s fun t =>
      decide (bit (t.nat Reg.TAMP_STATE) 3 = false ∧ (t.loop 3).run = 0)) = true := by decide +kernel

theorem witness_loop_first_of_three :
    (let s : State := (let s := at_ [(Reg.TAMP_EN, 15)]; s.setLoop 0 { s.loop 0 with last := true, run := 1 });
      decide (bit (s.nat Reg.TAMP_EN) 0) &&
      after (.tamperLoopSample 0 10001) s fun t =>
      decide (bit (t.nat Reg.TAMP_STATE) 0 = false ∧ t.nat (Reg.TAMP_OPEN_CNT 1) = 0)) = true := by decide +kernel

theorem witness_seal_closes :
    (let s : State := (let s := at_ [(Reg.TAMP_EN, 15), (Reg.TAMP_STATE, 4), (Reg.SEAL_STATE, 1)]; s.setLoop 2 { s.loop 2 with last := false, run := 2 });
      decide (bit (s.nat Reg.TAMP_EN) 2 ∧ bit (s.nat Reg.TAMP_STATE) 2 ∧ s.powered) &&
      after (.tamperLoopSample 2 999) s fun t =>
      decide (t.nat Reg.SEAL_STATE = 0 ∧ t.dict.staging = [])) = true := by decide +kernel

theorem witness_vev_ack :
    (let s : State := at_ [(Reg.VEV_LAST, 9)];
      decide (accepts s svc Reg.VEV_ACK 9) &&
      after (.vevAckWrite svc 9) s fun t =>
      decide (t.nat Reg.VEV_ACK = 9)) = true := by decide +kernel

theorem witness_seal_closes_on_an_n_part :
    (let s : State := (let s := at_ [(Reg.TAMP_EN, 15), (Reg.TAMP_STATE, 4)]; { s.setLoop 2 { s.loop 2 with last := false, run := 2 } with part := { s.part with variant := .n }, dict := { s.dict with staging := [(Reg.RTC_TRIM, .num 1)] } });
      decide (bit (s.nat Reg.TAMP_EN) 2 ∧ bit (s.nat Reg.TAMP_STATE) 2 ∧ s.powered ∧ isRwl Reg.RTC_TRIM) &&
      after (.sealLoopSample 999) s fun t =>
      decide (t.dict.staging = [])) = true := by decide +kernel

theorem witness_vev_ack_frees :
    (let s : State := { at_ [(Reg.VEV_LAST, 9)] with power := { State.reset.power with events := [⟨5, 4, 0, 0, true, true⟩, ⟨6, 4, 0, 0, true, false⟩] } };
      decide (accepts s svc Reg.VEV_ACK 9) &&
      after (.vevAckWrite svc 9) s fun t =>
      decide (t.power.events.length = 1)) = true := by decide +kernel

/-! ## Chapter 13 -/

theorem witness_billing_boundary :
    (let s : State := (let s := meterAt [(Reg.INT_IMPORT 0, 5), (Reg.INT_START 0, 7)]; { s with now := 2000000000, dict := { s.dict with billHold := [(Reg.FRIENDLY_WEEK 1, .num 1)] } });
     
      decide (s.powered ∧ s.part.variant = .l ∧ heldAll s.dict.billHold ∧ (s.advance 2000003600000).boundaryDue ∧ (s.advance 2000003600000).keeping) &&
      after (.billingBoundary 2000003600000) s fun t =>
      decide (t.nat (Reg.INT_IMPORT 0) = 0 ∧ t.nat Reg.LAST_BOUNDARY = ltimeOf t.bill.ect)) = true := by decide +kernel

theorem witness_record_written :
    (let s : State := (let s := meterAt []; { s with bill := { s.bill with requests := [⟨1, some 3, 0, 5000, 0, [], 0⟩] } });
      decide (s.powered ∧ s.canRecord ∧ (firstAdmitted (fun r => s.admits r.typ) s.bill.requests).isSome)
) = true := by decide +kernel

theorem witness_log_ack :
    (let s : State := at_ [(Reg.LOG_LAST_SEQ, 9)];
      decide (accepts s svc Reg.LOG_ACK_SEQ 9) &&
      after (.logAckSeqWrite svc 9) s fun t =>
      decide (t.nat Reg.LOG_ACK_SEQ = 9 ∧ answered t svc .ok)) = true := by decide +kernel

theorem witness_register_commit :
    (let s : State := { at_ [(Reg.E_IMPORT 0, 77)] with now := 5000 };
      decide (s.powered ∧ s.power.pfw = false ∧ s.part.variant = .l) &&
      after (.registerCommit) s fun t =>
      decide (t.nat Reg.REG_COMMIT_SEQ = 1 ∧ (Reg.E_IMPORT 0, Val.num 77) ∈ t.bill.copy.objs)) = true := by decide +kernel

theorem witness_demand_reset_asked :
    (let s : State := State.reset;
      decide (accepts s svc Reg.DMD_RESET 1) &&
      after (.dmdReset svc 1) s fun t =>
      decide (t.bill.dmdReset)) = true := by decide +kernel

theorem witness_demand_reset_of_another_value :
    (let s : State := State.reset;
      decide (accepts s svc Reg.DMD_RESET 0) &&
      after (.dmdReset svc 0) s fun t =>
      decide (t.bill.dmdReset = false)) = true := by decide +kernel

theorem witness_friendly_grant :
    (let s : State := (let s := meterAt []; s.setAcct 63 { Acct.empty with id := 4, ecAmount := 500 });
      decide (s.powered ∧ s.part.variant = .l ∧ s.keeping ∧ (s.acct 63).id ≠ 0 ∧ (s.acct 63).granted = false)
) = true := by decide +kernel

theorem witness_acct_id :
    (let s : State := (let s := at_ [(Reg.ACCT_SEL, 63), (Reg.ACCOUNT_SLOT 0, 2)]; s.setAcct 63 { Acct.empty with id := 4, credit := 900 });
      decide (accepts s svc Reg.ACCT_ID 5 ∧ s.acctInUse 63 = false) &&
      after (.acctIdWrite svc 5) s fun t =>
      decide ((t.acct 63).id = 5 ∧ (t.acct 63).credit = 0)) = true := by decide +kernel

theorem witness_acct_id_waits :
    (let s : State := (let s := at_ [(Reg.ACCT_SEL, 63), (Reg.ACCOUNT_SLOT 0, 63), (Reg.OUT_STATE 0, 7)]; s.setAcct 63 { Acct.empty with id := 4, credit := 900 });
      decide (accepts s svc Reg.ACCT_ID 5 ∧ s.acctInUse 63) &&
      after (.acctIdWrite svc 5) s fun t =>
      decide ((t.acct 63).id = 4 ∧ (t.acct 63).newId = some 5 ∧ (t.acct 63).credit = 900)) = true := by decide +kernel

theorem witness_topup :
    (let s : State := (let s := withI State.reset [(Reg.TOPUP_AMOUNT, 300)]; s.setAcct 5 { Acct.empty with id := 4, credit := -100 });
      decide (accepts s svc (cmdBase .accountTopup + 1) 0x00070005 ∧ s.isStandby = false) &&
      after (.accountTopup svc 0x00070005) s fun t =>
      decide ((t.acct 5).credit = 200 ∧ (t.acct 5).lastRef = 7 ∧ (t.res .accountTopup).value = 200)) = true := by decide +kernel

theorem witness_topup_repeated :
    (let s : State := (let s := withI State.reset [(Reg.TOPUP_AMOUNT, 300)]; s.setAcct 5 { Acct.empty with id := 4, lastRef := 7 });
      decide (accepts s svc (cmdBase .accountTopup + 1) 0x00070005 ∧ s.isStandby = false) &&
      after (.accountTopup svc 0x00070005) s fun t =>
      decide ((t.acct 5).credit = 0 ∧ (t.res .accountTopup).detail = 0x101)) = true := by decide +kernel

theorem witness_topup_of_nothing :
    (let s : State := State.reset.setAcct 5 { Acct.empty with id := 4 };
      decide (accepts s svc (cmdBase .accountTopup + 1) 0x00070005 ∧ s.int Reg.TOPUP_AMOUNT = 0) &&
      after (.accountTopup svc 0x00070005) s fun t =>
      decide ((t.res .accountTopup).detail = 0x102)) = true := by decide +kernel

theorem witness_topup_of_an_unused_slot :
    (let s : State := State.reset;
      decide (accepts s svc (cmdBase .accountTopup + 1) 0x00070005 ∧ (s.acct 5).id = 0) &&
      after (.accountTopup svc 0x00070005) s fun t =>
      decide ((t.res .accountTopup).detail = 0x100)) = true := by decide +kernel

theorem witness_topup_on_a_standby :
    (let s : State := at_ [(Reg.MODE_IN_FORCE, 8)];
      decide (accepts s svc (cmdBase .accountTopup + 1) 0x00070005 ∧ s.isStandby) &&
      after (.accountTopup svc 0x00070005) s fun t =>
      decide ((t.res .accountTopup).detail = 3)) = true := by decide +kernel

theorem witness_civil_time_below_zero :
    (let s : State := { withI State.reset [(Reg.CIVIL_SHIFT, -1000)] with now := 999 };
      decide (accepts s svc (cmdBase .civilTimeSet + 1) 0 ∧ s.isStandby = false ∧ s.nat Reg.LOG_STATE < 2) &&
      after (.civilTimeSet svc 0) s fun t =>
      decide ((t.res .civilTimeSet).detail = 0x101)) = true := by decide +kernel

theorem witness_civil_time_set :
    (let s : State := { withI State.reset [(Reg.CIVIL_SHIFT, -1000)] with now := 1000 };
      decide (accepts s svc (cmdBase .civilTimeSet + 1) 0 ∧ s.isStandby = false ∧ s.nat Reg.LOG_STATE < 2) &&
      after (.civilTimeSet svc 0) s fun t =>
      decide (t.int Reg.CIVIL_OFFSET = -1000 ∧ t.nat Reg.LAST_TIME_SET = s.ltime)) = true := by decide +kernel

theorem witness_civil_time_on_a_standby :
    (let s : State := at_ [(Reg.MODE_IN_FORCE, 8)];
      decide (accepts s svc (cmdBase .civilTimeSet + 1) 0 ∧ s.isStandby) &&
      after (.civilTimeSet svc 0) s fun t =>
      decide ((t.res .civilTimeSet).detail = 3)) = true := by decide +kernel

theorem witness_civil_time_with_a_filled_log :
    (let s : State := at_ [(Reg.LOG_STATE, 2)];
      decide (accepts s svc (cmdBase .civilTimeSet + 1) 0 ∧ s.isStandby = false) &&
      after (.civilTimeSet svc 0) s fun t =>
      decide ((t.res .civilTimeSet).detail = 0x100 ∧ t.int Reg.CIVIL_OFFSET = 0)) = true := by decide +kernel

theorem witness_civil_time_beyond_the_allowance :
    (let s : State := { withI (at_ [(Reg.TAMP_EN, 4)]) [(Reg.CIVIL_SHIFT, 86400000)] with now := 1000 };
     
      decide (accepts s svc (cmdBase .civilTimeSet + 1) 0 ∧ s.isStandby = false ∧ s.nat Reg.LOG_STATE < 2 ∧ s.sealOpen = false ∧ s.allowNow < 86400000) &&
      after (.civilTimeSet svc 0) s fun t =>
      decide (t.int Reg.CIVIL_OFFSET = 86400000 ∧ (t.res .civilTimeSet).value / 4294967296 = 1)) = true := by decide +kernel

/-! ## Chapter 14 -/

/-- A state with some key slots. -/
def keysAt (l : List (Nat × Nat)) : State := l.foldl (fun s x => s.setSlot x.1 ⟨x.2, 1, 77⟩) State.reset

theorem witness_key_generated :
    (let s : State := State.reset;
      decide (acceptsBlob s svc Reg.KEY_CREATE (defHead 255 1 0 0x01000001) ∧ s.createErr 255 1 0 0x01000001 12 = 0) &&
      after (.keyGenerate svc 255 0 0x01000001) s fun t =>
      decide (answered t svc .ok ∧ kState (t.slotOf 255).word = 1 ∧ kLevel (t.slotOf 255).word = 1 ∧ (t.slotOf 255).gen = 1)) = true := by decide +kernel

theorem witness_key_derived :
    (let s : State := keysAt [(200, 0x13000061)];
     
      decide (acceptsBlob s svc Reg.KEY_CREATE (defHead 9 2 0 0x00C80001 ++ List.replicate 32 1) ∧ s.createErr 9 2 0 0x00C80001 44 = 0) &&
      after (.keyDerive svc 9 0 0x00C80001 (List.replicate 32 1)) s fun t =>
      decide (answered t svc .ok ∧ kLevel (t.slotOf 9).word = 2 ∧ kParent (t.slotOf 9).word = 200)) = true := by decide +kernel

theorem witness_key_imported :
    (let s : State := State.reset;
     
      decide (acceptsBlob s svc Reg.KEY_CREATE (defHead 8 3 0 0x01000001 ++ List.replicate 125 1) ∧ s.createErr 8 3 0 0x01000001 137 = 0)
) = true := by decide +kernel

theorem witness_key_slot_below_eight :
    (let s : State := State.reset;
      decide (acceptsBlob s svc Reg.KEY_CREATE (defHead 7 1 0 0x01000001) ∧ s.createErr 7 1 0 0x01000001 12 ≠ 0) &&
      after (.keyGenerate svc 7 0 0x01000001) s fun t =>
      decide (answered t svc .rangeError ∧ t.nat Reg.KEY_CREATE_ERR ≠ 0)) = true := by decide +kernel

theorem witness_csr_signed :
    (let s : State := keysAt [(200, 0x1300040B)];
     
      decide (acceptsBlob s svc Reg.CSR_SUBJECT [200, 48, 0] ∧ s.slotValid 200 ∧ kType (s.slotOf 200).word = 3 ∧ bit (s.slotOf 200).word 3 ∧ bit (s.slotOf 200).word 10)
) = true := by decide +kernel

theorem witness_csr_of_an_empty_slot :
    (let s : State := State.reset;
      decide (acceptsBlob s svc Reg.CSR_SUBJECT [200, 48, 0] ∧ s.slotValid 200 = false) &&
      after (.csrSubjectWrite svc [200, 48, 0]) s fun t =>
      decide (answered t svc .rangeError ∧ t.blob Reg.CSR_OUT = [])) = true := by decide +kernel

theorem witness_key_used :
    (let s : State := keysAt [(200, 0x13001111)];
      decide (s.powered ∧ s.slotValid 200 ∧ bit (s.slotOf 200).word 8 ∧ bit (s.slotOf 200).word 4) &&
      after (.keyRequest 200 8 4) s fun t =>
      decide (t.trust.copies.any (fun c => c.slot == some 200) ∧ t.nat Reg.KEY_MISUSE_CNT = 0)) = true := by decide +kernel

theorem witness_key_misused :
    (let s : State := keysAt [(200, 0x13001111)];
      decide (s.powered ∧ bit (s.slotOf 200).word 3 = false)
) = true := by decide +kernel

theorem witness_remask_under_entropy_fail :
    (let s : State := at_ [(Reg.TRUST_STATE, 2)];
      decide (s.powered ∧ s.testing 4 = false) &&
      after (.remaskPass false) s fun t =>
      decide (t.nat Reg.REMASK_LATE_CNT = 1 ∧ t.trust.copies = s.trust.copies)) = true := by decide +kernel

theorem witness_entropy_fails :
    (let s : State := State.reset;
      decide (s.powered ∧ s.nat Reg.TRUST_STATE ≠ 1)
) = true := by decide +kernel

theorem witness_entropy_recovers :
    (let s : State := at_ [(Reg.TRUST_STATE, 2)];
      decide (s.powered ∧ s.nat Reg.TRUST_STATE = 2) &&
      after (.entropyRecover) s fun t =>
      decide (t.nat Reg.TRUST_STATE = s.trustBase)) = true := by decide +kernel

theorem witness_key_destroyed :
    (let s : State := keysAt [(200, 0x13000061), (9, 0x14C80001)];
      decide (accepts s svc (cmdBase .keyDestroy + 1) 0xd5700c8 ∧ s.slotValid 200 ∧ s.subtree 200 = [200, 9]) &&
      after (.keyDestroy svc 0xd5700c8) s fun t =>
     
      decide ((t.res .keyDestroy).status = .completed ∧ (t.res .keyDestroy).value = 2 ∧ kState (t.slotOf 9).word = 3 ∧ t.nat Reg.ERASE_PENDING = 2)) = true := by decide +kernel

theorem witness_key_not_destroyed :
    (let s : State := State.reset;
      decide (accepts s svc (cmdBase .keyDestroy + 1) 0xd5700c8 ∧ s.slotValid 200 = false) &&
      after (.keyDestroy svc 0xd5700c8) s fun t =>
      decide ((t.res .keyDestroy).status = .refused ∧ (t.res .keyDestroy).detail = 0x101)) = true := by decide +kernel

theorem witness_factory_key_not_destroyed :
    (let s : State := State.reset;
      decide (accepts s svc (cmdBase .keyDestroy + 1) 0xd570007) &&
      after (.keyDestroy svc 0xd570007) s fun t =>
      decide ((t.res .keyDestroy).detail = 0x100)) = true := by decide +kernel

theorem witness_ring_key_not_destroyed :
    (let s : State := (keysAt [(200, 0x13000061)]).putN Reg.RING_KEY_SLOT 200;
      decide (accepts s svc (cmdBase .keyDestroy + 1) 0xd5700c8 ∧ s.slotValid 200) &&
      after (.keyDestroy svc 0xd5700c8) s fun t =>
      decide ((t.res .keyDestroy).detail = 0x102)) = true := by decide +kernel

theorem witness_slot_erased :
    (let s : State := (keysAt [(200, 0x33000061)]).putN Reg.ERASE_PENDING 1;
      decide (s.powered ∧ kState (s.slotOf 200).word = 3) &&
      after (.keySlotErased 200) s fun t =>
      decide (kState (t.slotOf 200).word = 0 ∧ t.nat Reg.ERASE_PENDING = 0)) = true := by decide +kernel

/-! ## Chapter 15 -/

/-- A state with its event queue changed. -/
def evAt (l : List (Nat × Nat)) (f : EvState → EvState) : State :=
  let s := at_ l
  { s with ev := f s.ev }

/-- A packet of four words. -/
def pkt : Packet := ⟨[1, 2, 3, 4], 3⟩

theorem witness_pop_by_another :
    (let s : State := at_ [(Reg.EQ_CONSUMER, 5)];
      decide (s.answersTo .service ∧ s.nat Reg.BOOT_STATE ≠ 3 ∧ s.isConsumer .service = false) &&
      after (.eqWordRead svc) s fun t =>
      decide (t.ev = s.ev)) = true := by decide +kernel

theorem witness_pop_of_an_empty_queue :
    (let s : State := evAt [(Reg.EQ_CONSUMER, 0xFFFF)] fun e => { e with lastWord := 9 };
      decide (s.answersTo .service ∧ s.nat Reg.BOOT_STATE ≠ 3 ∧ s.isConsumer .service ∧ s.ev.level = 0) &&
      after (.eqWordRead svc) s fun t =>
      decide (readBack t svc (leBytes 8 9) ∧ t.ev.underrun ∧ t.nat Reg.EQ_UNDERRUN_CNT = 1)) = true := by decide +kernel

theorem witness_pop_of_the_last_word :
    (let s : State := evAt [(Reg.EQ_CONSUMER, 0xFFFF)] fun e => { e with cur := some (pkt, 3) };
      decide (s.answersTo .service ∧ s.nat Reg.BOOT_STATE ≠ 3 ∧ s.isConsumer .service ∧ s.ev.wordsLeft = 1) &&
      after (.eqWordRead svc) s fun t =>
      decide (readBack t svc (leBytes 8 4) ∧ t.ev.lastWord = 4)) = true := by decide +kernel

theorem witness_pop_of_a_packet :
    (let s : State := evAt [(Reg.EQ_CONSUMER, 0xFFFE)] fun e => { e with cur := some (pkt, 2) };
      decide (s.answersTo .service ∧ s.nat Reg.BOOT_STATE ≠ 3 ∧ s.isConsumer .service ∧ s.ev.wordsLeft = 2) &&
      after (.eqPacketRead svc) s fun t =>
      decide (readBack t svc (leBytes 2 16 ++ leBytes 8 3 ++ leBytes 8 4))) = true := by decide +kernel

theorem witness_eq_clear :
    (let s : State := evAt [] fun e => { e with underrun := true, irq := true };
      decide (accepts s svc Reg.EQ_CLEAR 4) &&
      after (.eqClear svc 4) s fun t =>
      decide (t.ev.underrun = false ∧ t.ev.irq)) = true := by decide +kernel

theorem witness_drop_rest :
    (let s : State := evAt [(Reg.EQ_CONSUMER, 0xFFFF), (Reg.EQ_CAPACITY, 512)] fun e => { e with cur := some (pkt, 3) };
      decide (accepts s svc (cmdBase .queueFlush + 1) 1 ∧ s.isConsumer .service ∧ s.flushCap ≤ 512) &&
      after (.dropRest svc 1) s fun t =>
      decide ((t.res .queueFlush).status = .completed ∧ (t.res .queueFlush).value = flushValue 1 1)) = true := by decide +kernel

theorem witness_drop_rest_refused :
    (let s : State := evAt [(Reg.EQ_CONSUMER, 0xFFFF), (Reg.EQ_CAPACITY, 513)] fun e => { e with cur := some (pkt, 3) };
      decide (accepts s svc (cmdBase .queueFlush + 1) 1 ∧ s.isConsumer .service ∧ 512 < s.flushCap) &&
      after (.dropRest svc 1) s fun t =>
      decide ((t.res .queueFlush).status = .refused ∧ t.ev = s.ev)) = true := by decide +kernel

theorem witness_flush_by_another :
    (let s : State := evAt [(Reg.EQ_CONSUMER, 5)] fun e => { e with cur := some (pkt, 3) };
      decide (accepts s svc (cmdBase .queueFlush + 1) 2 ∧ s.isConsumer .service = false) &&
      after (.flush svc 2) s fun t =>
      decide ((t.res .queueFlush).status = .refused ∧ (t.res .queueFlush).detail = 0x100)) = true := by decide +kernel

theorem witness_flush :
    (let s : State := evAt [(Reg.EQ_CONSUMER, 0xFFFF), (Reg.EQ_CAPACITY, 512)] fun e => { e with cur := some (pkt, 1), waiting := [pkt] };
      decide (accepts s svc (cmdBase .queueFlush + 1) 2 ∧ s.isConsumer .service ∧ s.flushCap ≤ 512) &&
      after (.flush svc 2) s fun t =>
      decide ((t.res .queueFlush).status = .completed ∧ (t.res .queueFlush).value = flushValue 7 2)) = true := by decide +kernel

theorem witness_flush_waits :
    (let s : State := evAt [(Reg.EQ_CONSUMER, 0xFFFF), (Reg.EQ_CAPACITY, 513)] fun e => { e with cur := some (pkt, 1) };
      decide (accepts s svc (cmdBase .queueFlush + 1) 2 ∧ s.isConsumer .service ∧ 512 < s.flushCap) &&
      after (.flush svc 2) s fun t =>
      decide ((t.res .queueFlush).status = .pending ∧ t.ev.flushPending)) = true := by decide +kernel

theorem witness_flush_at_the_boundary :
    (let s : State := evAt [] fun e => { e with flushPending := true, cur := some (pkt, 0) };
      decide (s.powered ∧ s.ev.flushPending ∧ s.ev.midPacket = false) &&
      after (.flushAtBoundary) s fun t =>
      decide ((t.res .queueFlush).status = .completed ∧ t.nat Reg.EQ_FLUSH_WORDS = 4)) = true := by decide +kernel

theorem witness_pennant_local :
    (let s : State := State.reset;
      decide (s.powered ∧ (s.routeOf 65535 4095 3).toLocal) &&
      after (.pennantRaise 65535 4095 3 0 0 0) s fun t =>
      decide (t.nat Reg.PEN_SEQ_LAST = 1 ∧ t.ev.lane.length = 1)) = true := by decide +kernel

theorem witness_pennant_folded :
    (let s : State := evAt [] fun e => { e with coal := [⟨0x100, 1, 3, true, false, false, 0, 0, 0, 0, 0⟩] };
      decide (s.powered ∧ (s.routeOf 0x100 1 3).toLocal ∧ (s.routeOf 0x100 1 3).coal) &&
      after (.pennantRaise 0x100 1 3 0 0 0) s fun t =>
      decide (t.ev.lane = [] ∧ t.nat Reg.PEN_COALESCED_CNT = 1)) = true := by decide +kernel

theorem witness_trace_to_the_lane :
    (let s : State := evAt [(Reg.TRACE_EN, 2), (Reg.TRACE_DEST, 0)] fun e => { e with samples := (List.range 13).map fun i => ⟨2, 0, 5, i⟩ };
      decide (s.powered ∧ s.traceOn 2 0 ∧ 12 ≤ (s.ev.samplesOf 2 0).length) &&
      after (.traceRaise 2 0 0 0) s fun t =>
     
      decide (t.nat Reg.STR_SEQ_LAST = 1 ∧ t.ev.lane = [s.tracePacket 2 0 5 1 (List.range 12)] ∧ t.ev.samplesOf 2 0 = [⟨2, 0, 5, 12⟩])) = true := by decide +kernel

theorem witness_trace_waits :
    (let s : State := evAt [(Reg.TRACE_EN, 2), (Reg.TRACE_DEST, 0)] fun e => { e with samples := (List.range 11).map fun i => ⟨2, 0, 5, i⟩ };
      decide (s.powered ∧ s.traceOn 2 0 ∧ (s.ev.samplesOf 2 0).length < 12) &&
      after (.traceRaise 2 0 0 0) s fun t =>
      decide (t = s)) = true := by decide +kernel

theorem witness_trace_of_a_message :
    (let s : State := withN State.reset [(Reg.TRACE_EN, 4), (Reg.TRACE_DEST, 1), (Reg.TRACE_NODE, 4), (Reg.SESSION_ID 0, 7)];
      decide (s.powered ∧ s.traceOn 3 0) &&
      after (.traceRaise 3 0 0x10005 48) s fun t =>
      decide (t.ev.traceBox = [s.tracePacket 3 0 7 1 [s.sessionSample 0 0x10005 48]] ∧ t.nat Reg.STR_SEQ_LAST = 1)) = true := by decide +kernel

theorem witness_trace_outbox_full :
    (let s : State := withN (evAt [] fun e => { e with traceBox := [⟨List.replicate 32765 0, 3⟩] }) [(Reg.TRACE_EN, 4), (Reg.TRACE_DEST, 1), (Reg.TRACE_NODE, 4)];
     
      decide (s.powered ∧ s.traceOn 3 0 ∧ 262144 < s.ev.traceBytes + 8 * (s.tracePacket 3 0 0 1 [s.sessionSample 0 0 0]).size) &&
      after (.traceRaise 3 0 0 0) s fun t =>
      decide (t.ev.traceBox.length = 1 ∧ t.nat Reg.STR_LOST_CNT = 1)) = true := by decide +kernel

theorem witness_trace_off :
    (let s : State := State.reset;
      decide (s.powered ∧ s.traceOn 2 1 = false) &&
      after (.traceRaise 2 1 0 0) s fun t =>
      decide (t = s)) = true := by decide +kernel

theorem witness_packet_queued :
    (let s : State := evAt [(Reg.EQ_CAPACITY, 4)] fun e => { e with lane := [pkt] };
      decide (s.powered ∧ pkt.kind ≠ 3 ∧ s.penFits 4) &&
      after (.queuePacketWhole) s fun t =>
      decide (t.ev.lane = [] ∧ t.ev.cur = some (pkt, 0))) = true := by decide +kernel

theorem witness_packet_deferred :
    (let s : State := evAt [(Reg.EQ_CAPACITY, 3)] fun e => { e with lane := [pkt] };
      decide (s.powered ∧ pkt.kind ≠ 3 ∧ s.penFits 4 = false) &&
      after (.queuePacketWhole) s fun t =>
      decide (t.nat Reg.PEN_DEFERRED_CNT = 1 ∧ t.ev.defers.length = 1)) = true := by decide +kernel

theorem witness_window_closes :
    (let s : State := evAt [] fun e => { e with coal := [⟨0x100, 1, 3, true, false, false, 0, 0, 0, 0, 0⟩] };
      decide (s.powered ∧ (s.ev.coal.find? fun c => c.source == 0x100 && c.event == 1).isSome) &&
      after (.coalWindowEnd 0x100 1) s fun t =>
      decide (t.ev.coal = [])) = true := by decide +kernel

theorem witness_window_summarised :
    (let s : State := evAt [] fun e => { e with coal := [⟨0x100, 1, 3, true, false, false, 2, 4, 0, 5, 0⟩] };
      decide (s.powered ∧ (s.ev.coal.find? fun c => c.source == 0x100 && c.event == 1).isSome) &&
      after (.coalWindowEnd 0x100 1) s fun t =>
      decide (t.ev.coal.length = 1 ∧ t.ev.lane.length = 1)) = true := by decide +kernel

theorem witness_gap_queued :
    (let s : State := evAt [(Reg.EQ_CAPACITY, 4)] fun e => { e with gap := some ⟨1, 0, 4, 1, true⟩ };
      decide (s.powered ∧ s.ev.gap ≠ none ∧ s.penFits 4) &&
      after (.gapDue) s fun t =>
      decide (t.ev.gap = none ∧ t.nat Reg.GAP_CNT = 1)) = true := by decide +kernel

theorem witness_token_at_the_burst :
    (let s : State := at_ [(Reg.RING_TOKENS, 9), (Reg.RING_PEN_BURST, 9)];
      decide (s.powered) &&
      after (.ringTokenGain) s fun t =>
      decide (t.nat Reg.RING_TOKENS = 9)) = true := by decide +kernel

theorem witness_token_gained :
    (let s : State := at_ [(Reg.RING_TOKENS, 8), (Reg.RING_PEN_BURST, 9)];
      decide (s.powered) &&
      after (.ringTokenGain) s fun t =>
      decide (t.nat Reg.RING_TOKENS = 9)) = true := by decide +kernel

theorem witness_outbox_sent :
    (let s : State := (evAt [(Reg.RING_TOKENS, 4), (Reg.ALARM_NODE, 9), (Reg.ROLE_ACTIVE, 4096), (Reg.RING_STATUS, 1), (Reg.RING_ADDR, 3), (Reg.RING_KEY_SLOT, 200)] fun e => { e with outbox := [pkt] }).setSlot 200 ⟨0x13000819, 1, 77⟩;
     
      decide (s.powered ∧ s.ev.outbox ≠ [] ∧ s.nat Reg.RING_TOKENS ≠ 0 ∧ s.nat Reg.RING_PEN_GATHER ≤ 65535 ∧ s.canSendFrame 3)
      && decide (s.unicastOut = some 0 ∧ s.nat Reg.ALARM_NODE ≠ 0xFFFF)
) = true := by decide +kernel

theorem witness_trace_sent :
    (let s : State := (evAt [(Reg.TRACE_NODE, 4), (Reg.ROLE_ACTIVE, 4096), (Reg.RING_STATUS, 1), (Reg.RING_ADDR, 3), (Reg.RING_KEY_SLOT, 200)] fun e => { e with traceBox := [pkt] }).setSlot 200 ⟨0x13000819, 1, 77⟩;
      decide (s.powered ∧ s.nat Reg.TRACE_NODE ≠ 0xFFFF ∧ s.ev.traceBox ≠ [] ∧ s.canSendFrame 4)
      && decide (s.unicastOut = some 0)
) = true := by decide +kernel

/-! ## Chapter 16 -/

/-- A unit of a pair at a state of the Burgee. -/
def pairAt (b : Nat) (l : List (Nat × Nat)) : State := at_ ([(Reg.PAIR_EN, 1), (Reg.BURGEE_STATE, b), (Reg.LEASE_PERIOD, 50)] ++ l)

/-- A unit of a pair in the RUN mode. -/
def pairRun (b : Nat) (l : List (Nat × Nat)) : State := pairAt b ((Reg.MODE_IN_FORCE, 0x0A) :: l)

/-- A token. -/
def tok : Token := ⟨0x100, 7, 60, 99, 0x142, 5⟩

theorem witness_renew_sent :
    (let s : State := pairAt 6 [];
      decide (s.powered ∧ s.nat Reg.PAIR_EN = 1 ∧ s.holds) &&
      after (.renewSend) s fun t =>
     
      decide (t.nat Reg.LEASE_LEFT = 50000 ∧ t.sent = [.pairSlot 0 (slotChars (slotHeader 5 (s.nat Reg.RING_ADDR) 0 false false) (tokenBytes ⟨2 + b2n s.eligible, 0, 50, s.serialTag, s.nat Reg.MODE_IN_FORCE, s.epochNo⟩ 1))])) = true := by decide +kernel

theorem witness_standby_sent :
    (let s : State := pairAt 5 [];
      decide (s.powered ∧ s.nat Reg.PAIR_EN = 1) &&
      after (.standbySend) s fun t =>
      decide (t.sent.length = 1)) = true := by decide +kernel

theorem witness_claim_sent :
    (let s : State := pairAt 3 [];
      decide (s.powered ∧ s.nat Reg.PAIR_EN = 1 ∧ s.pair.claimed = false) &&
      after (.claimSend) s fun t =>
      decide (t.pair.claimed ∧ t.nat Reg.LEASE_LEFT = 2000)) = true := by decide +kernel

theorem witness_standby_token :
    (let s : State := pairAt 1 [];
      decide (s.powered ∧ s.nat Reg.PAIR_EN = 1) &&
      after (.standby tok) s fun t =>
      decide (t.nat Reg.PEER_MODE = 0x42 ∧ t.nat Reg.PEER_FLAGS = 0 ∧ t.nat Reg.PEER_SERIAL = 99)) = true := by decide +kernel

theorem witness_renew_token_standby :
    (let s : State := { pairAt 3 [] with pair := { State.reset.pair with claimed := true } };
      decide (s.powered ∧ s.nat Reg.PAIR_EN = 1 ∧ s.holds = false)
) = true := by decide +kernel

theorem witness_renew_token_holder :
    (let s : State := pairAt 1 [(Reg.LEASE_LEFT, 9)];
      decide (s.powered ∧ s.nat Reg.PAIR_EN = 1 ∧ s.holds) &&
      after (.renew tok 5) s fun t =>
      decide (t.nat Reg.LEASE_LEFT = 9 ∧ t.nat Reg.TOKEN_AGE = 0)) = true := by decide +kernel

theorem witness_release_token :
    (let s : State := pairAt 2 [];
      decide (s.powered ∧ s.nat Reg.PAIR_EN = 1 ∧ s.holds = false) &&
      after (.release tok) s fun t =>
      decide (t.nat Reg.LEASE_LEFT = 2000 ∧ t.pair.released)) = true := by decide +kernel

theorem witness_claims_cross_lower_rank :
    (let s : State := { pairAt 3 [] with pair := { State.reset.pair with claimed := true } };
      decide (s.powered ∧ s.nat Reg.PAIR_EN = 1 ∧ s.pair.claimed ∧ s.nat Reg.PAIR_RANK < 1) &&
      after (.claim { tok with flags := 8 }) s fun t =>
      decide (t.pair.claimed)) = true := by decide +kernel

theorem witness_claims_cross_by_tag :
    (let s : State := { pairAt 3 [] with pair := { State.reset.pair with claimed := true } };
      decide (s.powered ∧ s.nat Reg.PAIR_EN = 1 ∧ s.nat Reg.PAIR_RANK = 0)
) = true := by decide +kernel

theorem witness_lease_expired_ineligible :
    (let s : State := pairAt 2 [];
      decide (s.powered ∧ s.nat Reg.PAIR_EN = 1 ∧ s.eligible = false)
) = true := by decide +kernel

theorem witness_split :
    (let s : State := pairAt 2 [(Reg.OE_STATE, 2)];
      decide (s.powered ∧ s.nat Reg.PAIR_EN = 1 ∧ s.holds = false ∧ s.oePeer)
) = true := by decide +kernel

theorem witness_driver_conflict_rank_one :
    (let s : State := pairAt 1 [(Reg.OE_STATE, 3), (Reg.PAIR_RANK, 1), (Reg.MODE_WORD, 2)];
      decide (s.powered ∧ s.nat Reg.PAIR_EN = 1 ∧ s.holds ∧ s.oePeer ∧ bit (s.nat Reg.MODE_WORD) 3 = false) &&
      after (.driverConflict) s fun t =>
      decide (t.nat Reg.BURGEE_STATE = 4 ∧ bit (t.nat Reg.OE_STATE) 0 = false)) = true := by decide +kernel

theorem witness_driver_conflict_rank_zero :
    (let s : State := pairAt 1 [(Reg.OE_STATE, 3)];
      decide (s.powered ∧ s.nat Reg.PAIR_EN = 1 ∧ s.holds ∧ s.oePeer ∧ s.nat Reg.PAIR_RANK ≠ 1) &&
      after (.driverConflict) s fun t =>
      decide (t.nat Reg.BURGEE_STATE = 1 ∧ t.nat Reg.OE_STATE = 3)) = true := by decide +kernel

theorem witness_driver_conflict_equal_ranks :
    (let s : State := pairAt 1 [(Reg.OE_STATE, 3), (Reg.PAIR_RANK, 1), (Reg.PEER_FLAGS, 8), (Reg.PEER_SERIAL, 4294967295), (Reg.MODE_WORD, 2)];
      decide (s.powered ∧ s.nat Reg.PAIR_EN = 1 ∧ s.holds ∧ s.oePeer ∧ s.serialTag < s.nat Reg.PEER_SERIAL) &&
      after (.driverConflict) s fun t =>
      decide (t.nat Reg.BURGEE_STATE = 1 ∧ t.nat Reg.OE_STATE = 3)) = true := by decide +kernel

theorem witness_driver_conflict_equal_ranks_higher_tag :
    (let s : State := pairAt 1 [(Reg.OE_STATE, 3), (Reg.PAIR_RANK, 0), (Reg.PEER_SERIAL, 1), (Reg.MODE_WORD, 0x0A)];
      decide (s.powered ∧ s.nat Reg.PAIR_EN = 1 ∧ s.holds ∧ s.oePeer ∧ s.nat Reg.PEER_SERIAL ≤ s.serialTag) &&
      after (.driverConflict) s fun t =>
      decide (t.nat Reg.BURGEE_STATE = 2 ∧ bit (t.nat Reg.OE_STATE) 0 = false)) = true := by decide +kernel

theorem witness_oe_peer_falls_in_the_guard :
    (let s : State := { pairAt 2 [(Reg.OE_STATE, 2)] with pair := { State.reset.pair with released := true } };
      decide (s.powered ∧ s.nat Reg.PAIR_EN = 1 ∧ s.oePeer ∧ s.holds = false) &&
      after (.oePeerChange false) s fun t =>
      decide (t.oePeer = false ∧ t.nat Reg.LEASE_LEFT = 2000)) = true := by decide +kernel

theorem witness_oe_peer_falls :
    (let s : State := pairAt 5 [(Reg.OE_STATE, 2)];
      decide (s.powered ∧ s.nat Reg.PAIR_EN = 1 ∧ s.oePeer) &&
      after (.oePeerChange false) s fun t =>
      decide (t.oePeer = false ∧ t.nat Reg.LEASE_LEFT = 2000)) = true := by decide +kernel

theorem witness_mirror_grants :
    (let s : State := pairAt 2 [];
      decide (s.powered ∧ s.nat Reg.PAIR_EN = 1 ∧ s.holds = false) &&
      after (.mirrorItem (.grants 5 (List.replicate 8 0) (List.replicate 8 0) 1)) s fun t =>
      decide (t.nat (Reg.MIRROR_AGE 1) = 0 ∧ t.pair.grants.isSome)) = true := by decide +kernel

theorem witness_mirror_route :
    (let s : State := pairAt 2 [];
      decide (s.powered ∧ s.nat Reg.PAIR_EN = 1 ∧ s.holds = false) &&
      after (.mirrorItem (.route 3 2 9)) s fun t =>
      decide (t.pair.routes[(3 : Fin 4)] = some (2, 9))) = true := by decide +kernel

theorem witness_mirror_session :
    (let s : State := pairAt 2 [];
      decide (s.powered ∧ s.nat Reg.PAIR_EN = 1 ∧ s.holds = false) &&
      after (.mirrorItem (.session 3 ⟨7, 9, 1, [], [], 4, 1, 12⟩)) s fun t =>
      decide (t.pair.sessions[(3 : Fin 4)] = ⟨7, 9, 1, [], [], 4, 1, 12⟩)) = true := by decide +kernel

theorem witness_mirror_journal :
    (let s : State := pairAt 2 [];
      decide (s.powered ∧ s.nat Reg.PAIR_EN = 1 ∧ s.holds = false) &&
      after (.mirrorItem (.journal [(Reg.E_IMPORT 0, .num 8)] [])) s fun t =>
      decide (t.pair.journal = [(Reg.E_IMPORT 0, .num 8)])) = true := by decide +kernel

theorem witness_mirror_loop_of_idle_engines :
    (let s : State := withBeh (pairAt 2 []) [(6, .idle)];
      decide (s.powered ∧ s.nat Reg.PAIR_EN = 1 ∧ s.holds = false ∧ s.beh 6 = .idle) &&
      after (.mirrorItem (.loop 37 ⟨1, false, 2, 2, 0, 5, 0, 0, 0, 0, 0, []⟩)) s fun t =>
      decide (t = s)) = true := by decide +kernel

theorem witness_mirror_loop_of_working_engines :
    (let s : State := withBeh (pairAt 2 []) [(6, .track)];
      decide (s.powered ∧ s.nat Reg.PAIR_EN = 1 ∧ s.holds = false ∧ s.beh 6 = .track) &&
      after (.mirrorItem (.loop 37 ⟨1, false, 2, 2, 0, 5, 0, 0, 0, 0, 0, []⟩)) s fun t =>
      decide (t.pair.loops = [(37, ⟨1, false, 2, 2, 0, 5, 0, 0, 0, 0, 0, []⟩, 0)] ∧ t.nat (Reg.MIRROR_AGE 2) = 0)) = true := by decide +kernel

theorem witness_mirror_at_the_holder :
    (let s : State := pairAt 1 [];
      decide (s.powered ∧ s.nat Reg.PAIR_EN = 1 ∧ s.holds) &&
      after (.mirrorItem (.route 3 2 9)) s fun t =>
      decide (t = s)) = true := by decide +kernel

theorem witness_takeover :
    (let s : State := pairRun 2 [(Reg.MODE_WORD, 0x4A)];
      decide (s.powered ∧ s.nat Reg.PAIR_EN = 1 ∧ s.mayTake)
) = true := by decide +kernel

theorem witness_takeover_without_eligibility :
    (let s : State := pairAt 2 [];
      decide (s.powered ∧ s.nat Reg.PAIR_EN = 1 ∧ s.mayTake = false) &&
      after (.takeover 5) s fun t =>
      decide (t = s)) = true := by decide +kernel

theorem witness_rehearsal_refused :
    (let s : State := pairAt 2 [];
      decide (accepts s svc (cmdBase .rehearsal + 1) 65535 ∧ s.holds = false) &&
      after (.rehearsal svc 65535) s fun t =>
      decide ((t.res .rehearsal).status = .refused ∧ (t.res .rehearsal).detail = 3)) = true := by decide +kernel

theorem witness_rehearsal_begins :
    (let s : State := pairAt 1 [];
      decide (accepts s svc (cmdBase .rehearsal + 1) 1 ∧ s.holds) &&
      after (.rehearsal svc 1) s fun t =>
      decide ((t.res .rehearsal).status = .pending ∧ t.pair.phase = 1)) = true := by decide +kernel

theorem witness_rehearsal_swaps :
    (let s : State := { pairRun 1 [(Reg.PAIR_LANE_STATE, 3), (Reg.PEER_FLAGS, 1)] with pair := { State.reset.pair with phase := 1 } };
      decide (s.powered ∧ s.nat Reg.PAIR_EN = 1 ∧ s.quietForSwap ∧ s.holds)
) = true := by decide +kernel

theorem witness_rehearsal_wait_over :
    (let s : State := { pairRun 1 [] with pair := { State.reset.pair with phase := 1 } };
      decide (s.powered ∧ s.nat Reg.PAIR_EN = 1 ∧ (s.res .rehearsal).arg ≤ s.pair.waited) &&
      after (.rehearsalWaitExpired) s fun t =>
      decide ((t.res .rehearsal).status = .refused ∧ t.pair.phase = 0)) = true := by decide +kernel

theorem witness_rehearsal_not_taken :
    (let s : State := { pairRun 2 [(Reg.MODE_WORD, 0x0A)] with pair := { State.reset.pair with phase := 2 } };
      decide (s.powered ∧ s.nat Reg.PAIR_EN = 1 ∧ s.oePeer = false)
) = true := by decide +kernel

theorem witness_rehearsal_half_taken :
    (let s : State := { pairRun 2 [(Reg.OE_STATE, 2)] with pair := { State.reset.pair with phase := 2 } };
      decide (s.powered ∧ s.nat Reg.PAIR_EN = 1 ∧ s.oePeer) &&
      after (.rehearsalTakeTimeout) s fun t =>
      decide ((t.res .rehearsal).detail = 0x102 ∧ (t.res .rehearsal).part)) = true := by decide +kernel

theorem witness_pair_lane_up :
    (let s : State := State.reset;
      decide (s.powered) &&
      after (.pairLaneUp 1) s fun t =>
      decide (t.nat Reg.PAIR_LANE_STATE = 2)) = true := by decide +kernel

theorem witness_pair_lane_down :
    (let s : State := at_ [(Reg.PAIR_LANE_STATE, 3)];
      decide (s.powered)
) = true := by decide +kernel

/-! ## Chapter 17 -/

/-- A Voner line that polls slave 240. -/
def vonAt (l : List (Nat × Nat)) : State := withBeh (at_ ([(Reg.VON_EN, 1), (Reg.VON_SLAVE 240, 0x0101)] ++ l)) [(6, .run)]

theorem witness_slot_off :
    (let s : State := State.reset;
      decide (s.powered ∧ s.blackMain = false ∧ s.fab.fenced vonerCell = false ∧ s.vonStateOf = 0) &&
      after (.vonMasterSlot) s fun t =>
      decide (t.sent = [] ∧ t.von.poll = none)) = true := by decide +kernel

theorem witness_slot_beacon :
    (let s : State := vonAt [];
     
      decide (s.powered ∧ s.blackMain = false ∧ s.fab.fenced vonerCell = false ∧ s.vonStateOf = 1 ∧ (s.von.next % 4294967296) % 100 = 0) &&
      after (.vonMasterSlot) s fun t =>
      decide (t.sent.length = 1 ∧ t.von.poll = none ∧ t.nat Reg.VON_SLOT = s.von.next)) = true := by decide +kernel

theorem witness_slot_poll :
    (let s : State := (let s := vonAt []; { s with von := { s.von with next := 4294967298 } });
      decide (s.powered ∧ s.blackMain = false ∧ s.fab.fenced vonerCell = false ∧ s.vonStateOf = 1) &&
      after (.vonMasterSlot) s fun t =>
      decide (t.nat Reg.VON_SLOT = 2 ∧ t.von.next = 4)) = true := by decide +kernel

theorem witness_slot_poll_of_a_slave :
    (let s : State := (let s := (vonAt []).setSlave 240 { (vonAt []).slave 240 with state := 1 }; { s with von := { s.von with next := 2 } });
      decide (s.powered ∧ s.blackMain = false ∧ s.fab.fenced vonerCell = false ∧ s.vonStateOf = 1) &&
      after (.vonMasterSlot) s fun t =>
      decide (t.von.poll.map (·.1) = some 240)) = true := by decide +kernel

theorem witness_reply_good :
    (let s : State := (let s := (vonAt []).setSlave 240 { (vonAt []).slave 240 with state := 1, misses := 2 }; { s with von := { s.von with next := 4, poll := some (240, 3, 0) } });
      decide (s.powered ∧ (s.vonOutcome 240 (s.vonPaths [⟨true, 5, []⟩]) (some (vonBody 240 2 0x30 [9]))).1 = 0)
) = true := by decide +kernel

theorem witness_reply_missed :
    (let s : State := (let s := (vonAt [(Reg.VON_LOST_N, 1)]).setSlave 240 { (vonAt []).slave 240 with state := 2 }; { s with von := { s.von with poll := some (240, 3, 0) } });
      decide (s.powered ∧ s.von.poll = some (240, 3, 0) ∧ s.nat Reg.VON_LOST_N ≤ 1) &&
      after (.vonReplyJudged [] none) s fun t =>
      decide ((t.slave 240).state = 3 ∧ (t.slave 240).misses = 1 ∧ t.von.poll = none)) = true := by decide +kernel

theorem witness_reply_repolled :
    (let s : State := (let s := (vonAt [(Reg.VON_LOST_N, 3), (Reg.VON_REPOLL_MAX, 1)]).setSlave 240 { (vonAt []).slave 240 with state := 2 }; { s with von := { s.von with poll := some (240, 3, 0) } });
      decide (s.powered ∧ s.von.poll = some (240, 3, 0) ∧ 1 < s.nat Reg.VON_LOST_N ∧ 0 < s.nat Reg.VON_REPOLL_MAX) &&
      after (.vonReplyJudged [] none) s fun t =>
      decide ((t.slave 240).state = 2 ∧ t.von.repoll = some (240, 1))) = true := by decide +kernel

theorem witness_mailbox_filled :
    (let s : State := (vonAt [(Reg.VON_SEL, 240)]).setSlave 240 { (vonAt []).slave 240 with dseq := 15 };
      decide (acceptsBlob s svc Reg.VON_TX_BOX [1, 2, 3]) &&
      after (.vonTxBoxWrite svc [1, 2, 3]) s fun t =>
      decide ((t.slave 240).tx = 1 ∧ (t.slave 240).dseq = 0 ∧ (t.slave 240).data = [1, 2, 3])) = true := by decide +kernel

theorem witness_mailbox_emptied :
    (let s : State := vonAt [(Reg.VON_SEL, 240)];
      decide (acceptsBlob s svc Reg.VON_TX_BOX []) &&
      after (.vonTxBoxWrite svc []) s fun t =>
      decide ((t.slave 240).tx = 0)) = true := by decide +kernel

/-! ## Chapter 18 -/

/-- A state with its firmware slots changed. -/
def updAt (l : List (Nat × Nat)) (f : UpdState → UpdState) : State :=
  let s := at_ l
  { s with upd := f s.upd }

/-- The service port's frame of a request of no data. -/
def svcFrameOf (req : List Byte) : List Byte :=
  let body := leBytes 2 req.length ++ req
  [0x5A] ++ body ++ leBytes 2 (svcCrc body)

theorem witness_open_other_slot :
    (let s : State := at_ [(Reg.UPD_TARGET, 0x10), (Reg.UPD_OFFSET, 9)];
      decide (accepts s svc Reg.UPD_CONTROL 1 ∧ s.upd.loading = none) &&
      after (.updOpen svc) s fun t =>
      decide (t.nat Reg.UPD_STATE = 1 ∧ t.nat Reg.UPD_OFFSET = 0 ∧ t.upd.loading = some (s.updArea, false))) = true := by decide +kernel

theorem witness_open_second_area :
    (let s : State := updAt [(Reg.UPD_TARGET, 0x10)] fun u => { u with loading := some (5, false) };
      decide (accepts s svc Reg.UPD_CONTROL 1 ∧ s.updArea ≠ 5) &&
      after (.updOpen svc) s fun t =>
      decide (t.nat Reg.UPD_STATE = 5 ∧ t.upd.loading = some (5, false))) = true := by decide +kernel

theorem witness_open_running_slot :
    (let s : State := at_ [(Reg.UPD_TARGET, 0)];
     
      decide (accepts s svc Reg.UPD_CONTROL 1 ∧ s.updArea % 2 = s.nat (Reg.RUN_SLOT (s.updArea / 2 + 1)) ∧ s.inRecovery = false) &&
      after (.updOpen svc) s fun t =>
      decide (t.nat Reg.UPD_STATE = 4)) = true := by decide +kernel

theorem witness_chunk_fills_the_area :
    (let s : State := updAt [(Reg.UPD_STATE, 1), (Reg.UPD_OFFSET, classArea 0 - 1)] fun u => { u with loading := some (1, false) };
      decide (acceptsBlob s svc Reg.UPD_CHUNK [7] ∧ s.nat Reg.UPD_OFFSET + 1 ≤ classArea 0) &&
      after (.updChunkWrite svc [7]) s fun t =>
      decide (t.nat Reg.UPD_OFFSET = classArea 0 ∧ answered t svc .ok)) = true := by decide +kernel

theorem witness_chunk_beyond_the_area :
    (let s : State := updAt [(Reg.UPD_STATE, 1), (Reg.UPD_OFFSET, classArea 0)] fun u => { u with loading := some (1, false) };
      decide (acceptsBlob s svc Reg.UPD_CHUNK [7] ∧ classArea 0 < s.nat Reg.UPD_OFFSET + 1) &&
      after (.updChunkWrite svc [7]) s fun t =>
      decide (answered t svc .rangeError ∧ t.upd.mem = [])) = true := by decide +kernel

theorem witness_close :
    (let s : State := updAt [] fun u => { u with loading := some (1, false) };
      decide (accepts s svc Reg.UPD_CONTROL 2) &&
      after (.updClose svc) s fun t =>
      decide (t.upd.loading = some (1, true) ∧ t.nat Reg.UPD_STATE = 2)) = true := by decide +kernel

theorem witness_verify_done :
    (let s : State := updAt [] fun u => { u with loading := some (5, true) };
      decide (s.running ∧ s.upd.loading = some (5, true))
) = true := by decide +kernel

theorem witness_cancel :
    (let s : State := updAt [] fun u => { u with loading := some (1, true) };
      decide (accepts s svc Reg.UPD_CONTROL 3) &&
      after (.updCancel svc) s fun t =>
      decide (t.upd.loading = none ∧ t.nat Reg.UPD_STATE = 0)) = true := by decide +kernel

theorem witness_reboot_ignored :
    (let s : State := State.reset;
      decide (accepts s svc Reg.UPD_CONTROL 4 ∧ s.inRecovery = false) &&
      after (.reboot svc) s fun t =>
      decide (t.power = s.power)) = true := by decide +kernel

theorem witness_reboot_in_recovery :
    (let s : State := at_ [(Reg.BOOT_STATE, 3)];
      decide (accepts s svc Reg.UPD_CONTROL 4 ∧ s.inRecovery ∧ s.power.por = false) &&
      after (.reboot svc) s fun t =>
      decide (t.power.held ∧ t.power.cause = 0x0E)) = true := by decide +kernel

theorem witness_confirm :
    (let s : State := at_ [(Reg.SLOT_TRIAL 1, 1), (Reg.SLOT_TRIAL 3, 1), (Reg.TRIAL_RESETS, 2)];
      decide (accepts s svc Reg.SLOT_CONFIRM 5) &&
      after (.slotConfirm svc 5) s fun t =>
      decide (t.nat (Reg.SLOT_TRIAL 1) = 0 ∧ t.nat (Reg.SLOT_TRIAL 3) = 0 ∧ t.nat Reg.TRIAL_RESETS = 0)) = true := by decide +kernel

theorem witness_confirm_one_of_two :
    (let s : State := at_ [(Reg.SLOT_TRIAL 1, 1), (Reg.SLOT_TRIAL 3, 1), (Reg.TRIAL_RESETS, 2)];
      decide (accepts s svc Reg.SLOT_CONFIRM 1) &&
      after (.slotConfirm svc 1) s fun t =>
      decide (t.nat (Reg.SLOT_TRIAL 3) = 1 ∧ t.nat Reg.TRIAL_RESETS = 2)) = true := by decide +kernel

theorem witness_svn :
    (let s : State := at_ [(Reg.IMG_SVN 2, 3)];
      decide (accepts s svc Reg.SVN_ADVANCE 0x0301) &&
      after (.svnAdvance svc 0x0301) s fun t =>
      decide (t.nat (Reg.SVN_FLOOR 2) = 3)) = true := by decide +kernel

theorem witness_switch_of_nothing_verified :
    (let s : State := State.reset;
      decide (accepts s svc (cmdBase .slotSwitch + 1) 0x00010001 ∧ s.switchRefusal 0x00010001 = 0x0101) &&
      after (.slotSwitch svc 0x00010001) s fun t =>
      decide ((t.res .slotSwitch).status = .refused ∧ (t.res .slotSwitch).detail = 0x0101)) = true := by decide +kernel

theorem witness_switch_at_boot :
    (let s : State := at_ [(Reg.IMG_VERIFY 6, 1), (Reg.TAMP_STATE, 4)];
     
      decide (accepts s svc (cmdBase .slotSwitch + 1) 0x00010004 ∧ s.switchRefusal 0x00010004 = 0 ∧ liveClasses 0x00010004 = 0) &&
      after (.slotSwitch svc 0x00010004) s fun t =>
      decide ((t.res .slotSwitch).status = .completed ∧ t.nat (Reg.BOOT_SLOT 3) = 1)) = true := by decide +kernel

theorem witness_switch_live :
    (let s : State := at_ [(Reg.IMG_VERIFY 2, 1)];
     
      decide (accepts s svc (cmdBase .slotSwitch + 1) 0xFFFF0001 ∧ s.switchRefusal 0xFFFF0001 = 0 ∧ liveClasses 0xFFFF0001 ≠ 0) &&
      after (.slotSwitch svc 0xFFFF0001) s fun t =>
      decide ((t.res .slotSwitch).status = .pending ∧ t.upd.live = 1)) = true := by decide +kernel

theorem witness_switch_quiet :
    (let s : State := (match exec (.slotSwitch svc 0x00010001) (at_ [(Reg.IMG_VERIFY 2, 1)]) with | .next u => u | _ => State.reset);
      decide (s.powered ∧ s.isPending .slotSwitch ∧ s.upd.live ≠ 0 ∧ s.inBlackout = false ∧ s.switchQuiet) &&
      after (.slotSwitchQuietBoundary) s fun t =>
      decide (t.blackMain ∧ t.blackLoop = false ∧ t.nat (Reg.BOOT_SLOT 1) = 1 ∧ t.nat (Reg.RUN_SLOT 1) = 1)) = true := by decide +kernel

theorem witness_switch_wait_over :
    (let s : State := (let s := (match exec (.slotSwitch svc 0x00010001) (at_ [(Reg.IMG_VERIFY 2, 1)]) with | .next u => u | _ => State.reset); { s with upd := { s.upd with waited := 1 } });
     
      decide (s.powered ∧ s.isPending .slotSwitch ∧ s.upd.live ≠ 0 ∧ s.inBlackout = false ∧ field (s.res .slotSwitch).arg 31 16 ≤ s.upd.waited) &&
      after (.slotSwitchWaitExpired) s fun t =>
      decide ((t.res .slotSwitch).status = .refused ∧ t.upd.live = 0)) = true := by decide +kernel

theorem witness_blackout_ends :
    (let s : State := updAt [] fun u => { u with black := u.black.set 1 true, longest := 70 };
      decide (s.powered ∧ s.upd.black[(1 : Fin 2)]) &&
      after (.blackoutEnd 1 69) s fun t =>
      decide (t.nat Reg.SWITCH_BLACKOUT_LAST = 70 ∧ t.blackLoop = false)) = true := by decide +kernel

theorem witness_bist_refused :
    (let s : State := State.reset;
      decide (accepts s svc (cmdBase .bist + 1) 1 ∧ s.bistRefusal (s.nat Reg.BIST_TARGET) 1 = 1) &&
      after (.bist svc 1) s fun t =>
      decide ((t.res .bist).status = .refused ∧ (t.res .bist).detail = 1)) = true := by decide +kernel

theorem witness_bist_done :
    (let s : State := updAt [(Reg.BIST_STATE, 1)] fun u => { u with bistTarget := 6, bistKind := 1 };
      decide (s.powered ∧ s.nat Reg.BIST_STATE = 1)
) = true := by decide +kernel

theorem witness_bist_deferred :
    (let s : State := (at_ [(Reg.BIST_TARGET, 6)]).setBeh 6 .service;
      decide (accepts s svc (cmdBase .bist + 1) 1 ∧ bistAtBoot 6 ∧ s.bistRefusal 6 1 = 0) &&
      after (.bist svc 1) s fun t =>
      decide ((t.res .bist).status = .completed ∧ (t.res .bist).detail = 0x0102 ∧ t.nat Reg.BIST_STATE = 3)) = true := by decide +kernel

theorem witness_bist_wound_down :
    (let s : State := at_ [(Reg.BIST_STATE, 2), (Reg.BIST_SIG, 9)];
      decide (s.powered ∧ s.nat Reg.BIST_STATE = 2) &&
      after (.bistWindDownEnd true) s fun t =>
      decide ((t.res .bist).status = .aborted ∧ (t.res .bist).part ∧ t.nat Reg.BIST_SIG = 9)) = true := by decide +kernel

theorem witness_bist_resets :
    (let s : State := at_ [(Reg.BIST_STATE, 3)];
      decide (s.running ∧ s.nat Reg.BIST_STATE = 3 ∧ s.power.por = false) &&
      after (.bistDeferredReset) s fun t =>
      decide (t.power.held ∧ t.power.cause = 0x0B)) = true := by decide +kernel

theorem witness_extest :
    (let s : State := { State.reset with power := { State.reset.power with tapOn := true } };
      decide (s.power.tapOn ∧ s.power.trstLow = false ∧ s.power.mains ∧ s.modes.vaultStep < 6) &&
      after (.extest) s fun t =>
      decide (bit (t.nat Reg.JTAG_STATE) 1 ∧ t.power.held ∧ t.power.cause = 0x0C)) = true := by decide +kernel

theorem witness_sample_preload :
    (let s : State := { State.reset with power := { State.reset.power with tapOn := true } };
      decide (s.power.tapOn ∧ s.power.trstLow = false ∧ s.power.mains) &&
      after (.samplePreload [true, false] [false, true]) s fun t =>
      decide (t.sent = [.tdo 6 1, .tdo 2 1] ∧ t.power.bscan = [false, true])) = true := by decide +kernel

theorem witness_bypass :
    (let s : State := { State.reset with power := { State.reset.power with tapOn := true } };
      decide (s.power.tapOn ∧ [0, 1, 2, 4, 5].contains (3 % 64) = false) &&
      after (.bypass 3) s fun t =>
      decide (t.power.tapInstr = 0x3F)) = true := by decide +kernel

theorem witness_tap_entered :
    (let s : State := State.reset;
      decide (s.power.tapOn = false ∧ s.power.trstLow = false ∧ s.power.mains ∧ s.modes.vaultStep < 6)
) = true := by decide +kernel

theorem witness_trst :
    (let s : State := { at_ [(Reg.JTAG_STATE, 3)] with power := { State.reset.power with tapOn := true } };
      decide (s.power.tapOn) &&
      after (.trstNAssert true) s fun t =>
      decide (t.power.tapOn = false ∧ t.nat Reg.JTAG_STATE = 0)) = true := by decide +kernel

theorem witness_service_request :
    (let s : State := { State.reset with dict := { State.reset.dict with responses := [] } };
     
      decide (s.running ∧ s.power.pfw = false ∧ leAt (svcFrameOf (zeros 12)) 0 1 = 0x5A ∧ leAt (svcFrameOf (zeros 12)) 1 2 = 12 ∧ leAt (svcFrameOf (zeros 12)) 15 2 = svcCrc (((svcFrameOf (zeros 12)).drop 1).take 14)) &&
      after (.serviceRequestFrame (svcFrameOf (zeros 12))) s fun t =>
      decide (t.dict.queue.length = 1 ∧ t.sent.length = 1)) = true := by decide +kernel

theorem witness_service_response :
    (let s : State := { State.reset with dict := { State.reset.dict with responses := [⟨.service, 1, 7, .ok, []⟩] } };
      decide (s.running ∧ s.power.pfw = false ∧ (takeService s.dict.responses).isSome) &&
      after (.serviceResponseFrame 1100) s fun t =>
      decide (t.dict.responses = [] ∧ t.sent.length = 1)) = true := by decide +kernel

theorem witness_service_response_cut_short :
    (let s : State := { State.reset with dict := { State.reset.dict with responses := [⟨.service, 1, 7, .ok, []⟩] } };
      decide (s.running ∧ s.power.pfw = false ∧ (takeService s.dict.responses).isSome) &&
      after (.serviceResponseFrame 3) s fun t =>
      decide (t.dict.responses.length = 1)) = true := by decide +kernel

theorem witness_service_crc_fault :
    (let s : State := State.reset;
      decide (s.running) &&
      after (.serviceFrameFault 1) s fun t =>
      decide (t.nat Reg.SVC_CRC_ERR_CNT = 1 ∧ t.dict.responses = [svcError])) = true := by decide +kernel

/-! ## Chapter 19 -/

/-- A state with its supplies changed. -/
def powAt (l : List (Nat × Nat)) (f : PowerState → PowerState) : State :=
  let s := at_ l
  { s with power := f s.power }

/-- A state at a step of the VAULT entry. -/
def stepAt (n : Nat) (l : List (Nat × Nat)) : State :=
  let s := at_ l
  { s with modes := { s.modes with vaultStep := n } }

/-- The same an hour on. -/
def timed (n : Nat) (l : List (Nat × Nat)) : State := { stepAt n l with now := 3600000 }

theorem witness_lease_lapses :
    (let s : State := at_ [(Reg.PAIR_EN, 1), (Reg.BURGEE_STATE, 1)];
      decide (s.powered ∧ s.holds ∧ s.power.por = false) &&
      after (.leaseLapse) s fun t =>
      decide (t.power.held ∧ t.power.cause = 7 ∧ t.nat Reg.LAPSE_CNT = 1)) = true := by decide +kernel

theorem witness_reset_n :
    (let s : State := stepAt 5 [];
      decide (s.modes.vaultStep < 6 ∧ s.power.por = false) &&
      after (.resetN true) s fun t =>
      decide (t.power.held ∧ t.power.cause = 5 ∧ t.power.resetLow)) = true := by decide +kernel

theorem witness_lockstep :
    (let s : State := at_ [(Reg.OE_STATE, 1)];
      decide (s.running ∧ s.power.por = false) &&
      after (.lockstep) s fun t =>
      decide (t.power.cause = 9 ∧ t.nat Reg.OE_STATE = 0)) = true := by decide +kernel

theorem witness_watchdog :
    (let s : State := State.reset;
      decide (s.running ∧ s.power.por = false) &&
      after (.watchdog) s fun t =>
      decide (t.power.cause = 0x0A)) = true := by decide +kernel

theorem witness_testmode :
    (let s : State := State.reset;
      decide (s.modes.vaultStep < 6 ∧ s.power.por = false) &&
      after (.testmodeHigh true) s fun t =>
      decide (t.power.held ∧ t.power.cause = 0x0C)) = true := by decide +kernel

theorem witness_por_released :
    (let s : State := powAt [] fun p => { p with por := true };
      decide (s.power.mains) &&
      after (.powerOnResetRelease) s fun t =>
      decide (t = { s with power := { s.power with por := false } })) = true := by decide +kernel

theorem witness_reset_requested :
    (let s : State := State.reset;
      decide (accepts s svc Reg.RESET_REQUEST 0x5E7A) &&
      after (.resetRequest svc 0x5E7A) s fun t =>
      decide (t.power.scheduled = 6)) = true := by decide +kernel

theorem witness_boot_waits :
    (let s : State := powAt [] fun p => { p with held := true, resetLow := true };
      decide (s.power.held ∧ s.power.resetLow) &&
      after (.boot ⟨0, true, [], 0, false, 0, []⟩) s fun t =>
      decide (t = s)) = true := by decide +kernel

theorem witness_boot :
    (let s : State := powAt [] fun p => { p with held := true };
      decide (s.mayBoot)
) = true := by decide +kernel

theorem witness_power_fail :
    (let s : State := at_ [(Reg.OE_STATE, 1)];
      decide (s.modes.vaultStep < 6 ∧ s.power.mains ∧ s.power.pfw = false ∧ s.powered) &&
      after (.pfw ⟨5, 0⟩) s fun t =>
     
      decide (t.power.pfw ∧ t.nat Reg.PFW_CNT = 1 ∧ t.power.pfwDone ∧ t.nat Reg.OE_STATE = 0 ∧ t.nat Reg.SUPPLY_STATUS = 0x60)) = true := by decide +kernel

theorem witness_supplies_below_their_thresholds :
    (let s : State := at_ [(Reg.OE_STATE, 1)];
      decide (s.modes.vaultStep < 6 ∧ s.power.mains ∧ s.power.pfw = false ∧ s.powered) &&
      after (.pfw ⟨2, 9⟩) s fun t =>
      decide (t.power.pfw ∧ t.power.pfwDone = false ∧ t.nat Reg.SUPPLY_STATUS = 9)) = true := by decide +kernel

theorem witness_power_fail_released :
    (let s : State := powAt [(Reg.SUPPLY_STATUS, 0x60)] fun p => { p with pfw := true, pfwDone := true };
      decide (s.power.pfw ∧ s.power.pfwDone ∧ s.power.mains ∧ s.modes.vaultStep < 6 ∧ s.power.por = false) &&
      after (.pfwRelease) s fun t =>
      decide (t.power.held ∧ t.power.cause = 0x0D ∧ t.power.pfw = false)) = true := by decide +kernel

theorem witness_mains_lost_without_warning :
    (let s : State := stepAt 2 [];
      decide (s.power.mains ∧ s.power.pfwDone = false ∧ s.modes.vaultStep < 3) &&
      after (.mainsLost 4 16) s fun t =>
      decide (t.power.cause = 0x403 ∧ t.nat Reg.NOWARN_LOSS_CNT = 1 ∧ t.get Reg.PRE_LOSS_WORD = s.get Reg.MODE_WORD)) = true := by decide +kernel

theorem witness_mains_lost_after_the_warning :
    (let s : State := powAt [] fun p => { p with pfw := true, pfwDone := true };
      decide (s.power.mains ∧ s.power.pfwDone) &&
      after (.mainsLost 0 1) s fun t =>
      decide (t.power.cause = 2 ∧ t.power.por ∧ t.nat Reg.NOWARN_LOSS_CNT = 0)) = true := by decide +kernel

theorem witness_mains_returned :
    (let s : State := powAt [] fun p => { p with mains := false, por := true, held := true };
      decide (s.power.mains = false) &&
      after (.mainsReturned) s fun t =>
      decide (t.power.mains ∧ t.power.por)) = true := by decide +kernel

theorem witness_brown_out :
    (let s : State := powAt [(Reg.TAMP_STATE, 4), (Reg.RTC_STATUS, 2)] fun p => { p with mains := false, anaLost := true };
      decide (s.power.anaLost) &&
      after (.vaultBrownOut) s fun t =>
      decide (t.power.vaultLost ∧ t.now = 0 ∧ t.nat Reg.TAMP_STATE = 0 ∧ t.nat Reg.RTC_STATUS = 1)) = true := by decide +kernel

theorem witness_wake :
    (let s : State := timed 6 [(Reg.VAULT_WAKE_MASK, 63), (Reg.VAULT_WAKE_AT, 1)];
      decide (s.wakeHolds 5 ∧ s.power.mains) &&
      after (.wake 5) s fun t =>
      decide (t.power.held ∧ t.power.cause = 0x2004 ∧ t.nat Reg.WAKE_SOURCE = 32)) = true := by decide +kernel

theorem witness_wake_during_the_entry :
    (let s : State := timed 2 [(Reg.VAULT_WAKE_MASK, 63), (Reg.VAULT_WAKE_AT, 1)];
      decide (s.wakeHolds 5 ∧ s.power.mains) &&
      after (.wake 5) s fun t =>
      decide (t.power.wakePending = some 5 ∧ t.modes.vaultStep = 2)) = true := by decide +kernel

theorem witness_clock_stops :
    (let s : State := at_ [(Reg.RTC_STATUS, 1)];
      decide (bit (s.nat Reg.RTC_STATUS) 0) &&
      after (.rtcStop) s fun t =>
      decide (t.nat Reg.RTC_STATUS = 2)) = true := by decide +kernel

theorem witness_clock_restarts :
    (let s : State := at_ [(Reg.RTC_STATUS, 2)];
      decide (bit (s.nat Reg.RTC_STATUS) 0 = false) &&
      after (.rtcRestart) s fun t =>
      decide (t.nat Reg.RTC_STATUS = 1)) = true := by decide +kernel

end Sys2Proof.Tests
end

section
/-! Proofs of the statements on the dictionary's scope: the billing hold along every step, and what reads answer. -/

namespace Sys2Proof.Machine

/-! ## One step -/

/-- Beside the front command that it takes off the queue, a step keeps what `Keeps` says. -/
theorem step_keeps (s : State) : ∃ t, step s = .next t ∧ Keeps { s with pending := s.pending.tail } t := by
  cases hp : s.pending with
  | nil =>
    refine ⟨s.tick, by simp only [step, hp], ?_⟩
    have hs : { s with pending := ([] : List Instr).tail } = s := by rw [List.tail_nil, ← hp]
    rw [hs]
    exact State.tick_keeps (Keeps.refl s)
  | cons c rest =>
    obtain ⟨t, ht, hk⟩ := exec_keeps c { s with pending := rest }
    exact ⟨t, by simpa only [step, hp] using ht, hk⟩

/-- Settles O5: every step keeps what `Keeps` says, and that the hold has only boundary entries is a part of it. -/
theorem stepKeepsTheHold : Obligations.StepKeepsTheHold := by
  refine ⟨rfl, fun s hs => ?_⟩
  obtain ⟨t, ht, hk⟩ := step_keeps s
  exact ⟨t, ht, hk.hold hs⟩

/-! ## Rows and access of the elements read (R14, R36, R442) -/

/-- Groups that both variants have keep their rows on each (R2, R37). -/
theorem State.rowFor_of_present (s : State) {k : Nat} (hk : absentOnN (keyG k) = false) : s.rowFor k = rowAt k := by
  simp [State.rowFor, hk]

/-- Outside RECOVERY every address is answered. -/
theorem State.recoveryOk_of_booted {s : State} (hb : s.nat Reg.BOOT_STATE ≠ 3) (k : Nat) : s.recoveryOk k = true := by
  simp [State.recoveryOk, hb]

theorem State.rowFor_cmdBase (s : State) (c : CmdId) :
    s.rowFor (cmdBase c + 1) = rowAt (cmdBase c + 1) ∧ s.rowFor (cmdBase c + 2) = rowAt (cmdBase c + 2) := by
  constructor <;> exact s.rowFor_of_present (by cases c <;> decide)

/-- The CMD elements are write-only and have four bytes (R19, R60). -/
theorem rowAt_cmd_writeOnly (c : CmdId) : ∃ r, rowAt (cmdBase c + 1) = some r ∧ writeOnly r = true ∧ r.ty.size = 4 := by
  have h : (rowAt (cmdBase c + 1)).map (fun r => (writeOnly r, r.ty.size)) = some (true, 4) := by cases c <;> decide
  simpa [Option.map_eq_some_iff] using h

/-- The RES elements are readable (R61). -/
theorem rowAt_res_readable (c : CmdId) : ∃ r, rowAt (cmdBase c + 2) = some r ∧ writeOnly r = false := by
  have h : (rowAt (cmdBase c + 2)).map writeOnly = some false := by cases c <;> decide
  simpa [Option.map_eq_some_iff] using h

theorem cmdOfKey_res (c : CmdId) : cmdOfKey (cmdBase c + 2) = some c ∧ keyE (cmdBase c + 2) = 2 ∧ cmdBase c + 2 < 16777216 := by
  cases c <;> decide

/-! ## Results of commands (R58) -/

@[simp] theorem State.res_setRes (s : State) (c : CmdId) (r : Res) : (s.setRes c r).res c = r := by
  simp [State.res, State.setRes]

@[simp] theorem State.res_answer (s : State) (c : CmdId) (src : Src) (op tag : Nat) (st : Status) (data : List Byte) :
    (s.answer src op tag st data).res c = s.res c := by
  simp [State.res]

/-! ## READ (R42, R61) -/

theorem reqKey_readOf {tag k : Nat} (hk : k < 16777216) : reqKey (readOf tag k) = k := by
  simp only [reqKey, readOf, key, keyG, keyO, keyE]; omega

/-- A READ of one address is answered with what `readWhole` gives. -/
theorem State.transact_readOf {s : State} {src : Src} (ha : s.answersTo src = true) (tag : Nat) {k : Nat} (hk : k < 16777216) :
    s.transact src (readOf tag k) =
      (s.readWhole src k).1.answer src 1 tag (s.readWhole src k).2.1 (s.readWhole src k).2.2 := by
  have hc : s.carryOut src (readOf tag k) = s.readWhole src k := by
    rw [State.carryOut, reqKey_readOf hk]; rfl
  rw [State.transact, ha, hc]; rfl

theorem State.readWhole_res {s : State} (hb : s.nat Reg.BOOT_STATE ≠ 3) (src : Src) (c : CmdId) :
    s.readWhole src (cmdBase c + 2) = (s.setRes c (s.res c).readOnce, .ok, (s.res c).readOnce.encode) := by
  obtain ⟨r, hr, hwo⟩ := rowAt_res_readable c
  obtain ⟨hcmd, hel, -⟩ := cmdOfKey_res c
  simp [State.readWhole, (s.rowFor_cmdBase c).2, hr, recoveryOk_of_booted hb, hwo, State.readValue, hcmd, hel]

theorem State.readWhole_cmd {s : State} (hb : s.nat Reg.BOOT_STATE ≠ 3) (src : Src) (c : CmdId) :
    s.readWhole src (cmdBase c + 1) = (s, .writeOnly, zeros 4) := by
  obtain ⟨r, hr, hwo, hsz⟩ := rowAt_cmd_writeOnly c
  simp [State.readWhole, (s.rowFor_cmdBase c).1, hr, recoveryOk_of_booted hb, hwo, hsz]

/-! ## READ_SEG (R499) -/

/-- A framed READ_SEG is answered with what `readPart` gives. -/
theorem State.transact_readSeg {s : State} {src : Src} {rq : Request} (ha : s.answersTo src = true)
    (hf : framingOk { rq with opcode := 3 } = true) :
    s.transact src { rq with opcode := 3 } =
      s.answer src 3 rq.tag (s.readPart (reqKey rq) rq.offset).1 (s.readPart (reqKey rq) rq.offset).2 := by
  have hc : s.carryOut src { rq with opcode := 3 } = (s, s.readPart (reqKey rq) rq.offset) := by
    rw [State.carryOut, hf]; rfl
  simp [State.transact, ha, hc]

/-- The last response after a framed READ_SEG whose `readPart` is known. -/
theorem exec_readSeg_answers {s : State} {src : Src} {rq : Request} (ha : s.answersTo src = true)
    (hf : framingOk { rq with opcode := 3 } = true) {st : Status} {data : List Byte}
    (hp : s.readPart (reqKey rq) rq.offset = (st, data)) :
    ∃ t, exec (.readSeg src rq) s = .next t ∧ t.dict.responses.getLast? = some ⟨src, 3, rq.tag, st, data⟩ := by
  refine ⟨_, rfl, ?_⟩
  rw [State.transact_readSeg ha hf, hp]
  exact State.answer_last _ _ _ _ _ _

theorem State.readPart_no_row {s : State} {k : Nat} (hr : s.rowFor k = none) (off : Nat) :
    s.readPart k off = (.noSuchObject, []) := by
  simp [State.readPart, hr]

section
variable {s : State} {k : Nat} {r : Row} (hb : s.nat Reg.BOOT_STATE ≠ 3) (hr : s.rowFor k = some r) (hwo : writeOnly r = false)
include hb hr hwo

theorem State.readPart_not_blob (ht : r.ty ≠ .blob) (off : Nat) : s.readPart k off = (.typeError, []) := by
  simp [State.readPart, hr, recoveryOk_of_booted hb, hwo, ht]

/-- Of a readable BLOB other than EQ_PACKET: its bytes from the offset on, or RANGE_ERROR beyond its end. -/
theorem State.readPart_blob (ht : r.ty = .blob) (hk : k ≠ Reg.EQ_PACKET) (off : Nat) :
    s.readPart k off = if (encodeVal .blob (s.show k)).length < off then (.rangeError, [])
      else (.ok, ((encodeVal .blob (s.show k)).drop off).take 1024) := by
  simp [State.readPart, hr, recoveryOk_of_booted hb, hwo, ht, hk]

end

/-- Settles O8: the READs through `readWhole`, the READ_SEGs through `readPart`, each by what its row says. -/
theorem readsAnswered : Obligations.ReadsAnswered := by
  intro s h ha hb
  refine ⟨fun c => ?_, fun c => ?_, fun rq hf hr => ?_, fun rq r hf hr hwo =>
    ⟨fun ht hk hoff => ?_, fun ht hk hoff => ?_, fun ht => ?_⟩⟩
  · obtain ⟨-, -, hlt⟩ := cmdOfKey_res c
    refine ⟨_, rfl, ?_⟩
    rw [State.transact_readOf ha h.tag hlt, State.readWhole_res hb]
    exact ⟨State.answer_last _ _ _ _ _ _, by simp⟩
  · obtain ⟨-, -, hlt⟩ := cmdOfKey_cmd c
    refine ⟨_, rfl, ?_⟩
    rw [State.transact_readOf ha h.tag hlt, State.readWhole_cmd hb]
    exact ⟨State.answer_last _ _ _ _ _ _, State.res_answer _ _ _ _ _ _ _⟩
  · exact exec_readSeg_answers ha hf (State.readPart_no_row hr _)
  · exact exec_readSeg_answers ha hf (by rw [State.readPart_blob hb hr hwo ht hk, if_neg (Nat.not_lt.mpr hoff)])
  · exact exec_readSeg_answers ha hf (by rw [State.readPart_blob hb hr hwo ht hk, if_pos hoff])
  · exact exec_readSeg_answers ha hf (State.readPart_not_blob hb hr hwo ht _)

end Sys2Proof.Machine
end

section
/-! Proof of the statement on the switch matrix: what parking and a route step change, and what they leave of other groups. -/

namespace Sys2Proof.Machine

/-! ## Steps and effects -/

/-- What no step of a fold changes, the fold leaves as it was. -/
theorem foldl_keeps {α β : Type} (p : State → β) (f : State → α → State) (hf : ∀ st i, p (f st i) = p st) (l : List α)
    (s : State) : p (l.foldl f s) = p s := by
  induction l generalizing s with
  | nil => rfl
  | cons i l ih => rw [List.foldl_cons, ih, hf]

/-- At a powered control die a live effect takes place. -/
theorem State.live_of_powered {s : State} (hp : s.powered = true) (f : State → State) : s.live f = f s := by
  simp [State.live, hp]

/-- What is mirrored to the partner changes no element. -/
@[simp] theorem State.get_mirror (s : State) (it : MirrorItem) (k : Nat) : (s.mirror it).get k = s.get k := by
  unfold State.mirror
  repeat' split
  all_goals rfl

/-- A Pennant leaves every phase group as it was. -/
@[simp] theorem State.raise1_groups (s : State) (source event prio : Nat) (before : Val) :
    (s.raise1 source event prio before).groups = s.groups :=
  Same.groups (m := (· == 28)) (by simp) rfl

/-! ## Parking (R32, R72, R78) -/

/-- The elements of the phase groups are those of groups 0x10 to 0x13. -/
theorem ne_groupKey {k g o e : Nat} (hk : k < 0x100000 ∨ 0x140000 ≤ k) (hg : g < 4) (ho : o < 256) (he : e < 256) :
    k ≠ key (0x10 + g) o e := by
  unfold key; omega

/-- The counters of transactions lie below the phase groups. -/
theorem tally_of_le {k : Nat} (hk : 0x100000 ≤ k) : tally k = false := by
  simp only [tally, Reg.DICT_RX_COUNT, Reg.DICT_REJECT_COUNT, key, Bool.or_eq_false_iff, beq_eq_false_iff_ne]; omega

theorem tally_groupKey (g o e : Nat) : tally (key (0x10 + g) o e) = false :=
  tally_of_le (by simp only [key]; omega)

/-- Parking a leg changes elements of the phase groups only. -/
theorem State.get_parkLeg (s : State) (n : Fin 32) {k : Nat} (hk : k < 0x100000 ∨ 0x140000 ≤ k) :
    (s.parkLeg n).get k = s.get k := by
  have hg : legG n < 4 := by have := n.isLt; simp only [legG]; omega
  have he : legE n < 256 := by simp only [legE]; omega
  have hon : k ≠ Reg.ON_MEAS (legG n) (legE n) := ne_groupKey hk hg (by decide) he
  have hst : k ≠ Reg.LEG_STATE (legG n) (legE n) := ne_groupKey hk hg (by decide) he
  have hput : ∀ (t : State) (l : Leg), (t.putLeg n l).get k = t.get k := fun t l => by
    rw [State.putLeg, State.get_putN, if_neg hst]; rfl
  rw [State.parkLeg, hput]
  split
  · rw [State.putFt, State.get_putN, if_neg hon]
  · rfl

theorem State.parkLeg_groups (s : State) (n : Fin 32) : (s.parkLeg n).groups = s.groups := by
  unfold State.parkLeg; dsimp only; split <;> rfl

/-- A group's record is no element. -/
@[simp] theorem State.get_setGroup (s : State) (g : Fin 4) (x : Group) (k : Nat) : (s.setGroup g x).get k = s.get k := rfl

/-- Parking a group changes elements of the phase groups only. -/
theorem State.get_parkGroup (s : State) (g : Fin 4) {k : Nat} (hk : k < 0x100000 ∨ 0x140000 ≤ k) :
    (s.parkGroup g).get k = s.get k := by
  rw [State.parkGroup, State.get_setGroup]
  exact foldl_keeps (·.get k) (fun st i => st.parkLeg (legOf g i)) (fun st _ => st.get_parkLeg _ hk) _ s

@[simp] theorem State.parkGroup_groups (s : State) (g : Fin 4) :
    (s.parkGroup g).groups = s.groups.set g { s.groups[g] with parked := true } := by
  have h : (s.forLegs g fun n st => st.parkLeg n).groups = s.groups :=
    foldl_keeps (·.groups) (fun st i => st.parkLeg (legOf g i)) (fun st _ => st.parkLeg_groups _) _ s
  simp [State.parkGroup, State.setGroup, h]

/-! ## The route last energised and ROUTE_STATE (R31, R32) -/

/-- A change of ROUTE_STATE changes no other element. -/
@[simp] theorem State.get_putRoute (s : State) (g : Fin 4) (n k : Nat) :
    (s.putRoute g n).get k = if k = Reg.ROUTE_STATE g then .num n else s.get k := by
  simp only [State.putRoute]
  split <;> simp

@[simp] theorem State.routeState_putRoute (s : State) (g : Fin 4) (n : Nat) : (s.putRoute g n).routeState g = n := by
  simp [State.routeState, State.nat, State.int, Val.int]

@[simp] theorem State.putRoute_groups (s : State) (g : Fin 4) (n : Nat) : (s.putRoute g n).groups = s.groups :=
  Same.groups (m := (· == 28)) (by simp) rfl

@[simp] theorem State.putRoute_matrixFb (s : State) (g : Fin 4) (n : Nat) : (s.putRoute g n).matrixFb = s.matrixFb :=
  Same.matrixFb (m := (· == 29)) (by simp) rfl

/-- A command to an owner's channel changes no element below the load switches' groups but the counters of transactions. -/
theorem State.get_ownerSwitch (s : State) (ch owner : Nat) (on : Bool) {k : Nat} (h : k < 0x700000) (ht : tally k = false) :
    (s.ownerSwitch ch owner on).get k = s.get k :=
  Same.below5 (m := (· == 5)) (by simp) rfl k (Nat.zero_le k) h ht

@[simp] theorem State.ownerSwitch_groups (s : State) (ch owner : Nat) (on : Bool) :
    (s.ownerSwitch ch owner on).groups = s.groups := Same.groups (m := (· == 28)) (by simp) rfl

@[simp] theorem State.ownerSwitch_matrixFb (s : State) (ch owner : Nat) (on : Bool) :
    (s.ownerSwitch ch owner on).matrixFb = s.matrixFb := Same.matrixFb (m := (· == 29)) (by simp) rfl

/-- The group takes the route and its value. -/
@[simp] theorem State.takeRoute_groups (s : State) (g : Fin 4) (r v : Nat) :
    (s.takeRoute g r v).groups = s.groups.set g { s.groups[g] with routeNow := r, nowVal := v } := by
  rw [State.takeRoute, State.ownerSwitch_groups]; rfl

/-- Leaving PARK changes no element. -/
@[simp] theorem State.get_unparkGroup (s : State) (g : Fin 4) (k : Nat) : (s.unparkGroup g).get k = s.get k := by
  unfold State.unparkGroup
  split
  · exact foldl_keeps (·.get k) (fun st i => st.leavePark (legOf g i)) (fun _ _ => rfl) _ s
  · rfl

/-- A group that may carry leaves PARK; of the groups nothing else changes. -/
theorem State.unparkGroup_groups (s : State) (g : Fin 4) :
    ∃ p, (s.unparkGroup g).groups = s.groups.set g { s.groups[g] with parked := p } := by
  unfold State.unparkGroup
  split
  · have h : (s.forLegs g fun n st => st.leavePark n).groups = s.groups :=
      foldl_keeps (·.groups) (fun st i => st.leavePark (legOf g i)) (fun _ _ => rfl) _ s
    exact ⟨false, by simp only [State.setGroup, h]⟩
  · exact ⟨s.groups[g].parked, (Vector.set_getElem_self _).symm⟩

@[simp] theorem State.unparkGroup_routeNow (s : State) (g : Fin 4) :
    (s.unparkGroup g).groups[g.val].routeNow = s.groups[g.val].routeNow := by
  obtain ⟨p, hp⟩ := s.unparkGroup_groups g
  simp [hp]

@[simp] theorem State.unparkGroup_nowVal (s : State) (g : Fin 4) :
    (s.unparkGroup g).groups[g.val].nowVal = s.groups[g.val].nowVal := by
  obtain ⟨p, hp⟩ := s.unparkGroup_groups g
  simp [hp]

@[simp] theorem State.unparkGroup_matrixFb (s : State) (g : Fin 4) : (s.unparkGroup g).matrixFb = s.matrixFb :=
  Same.matrixFb (m := (· == 29)) (by simp) rfl

@[simp] theorem State.routeState_unparkGroup (s : State) (g h : Fin 4) :
    (s.unparkGroup g).routeState h = s.routeState h := by
  simp [State.routeState, State.nat, State.int]

/-- Whether the route reads closed depends on the feedbacks and on the value it was energised under. -/
theorem State.nowClosed_congr {s t : State} {g : Fin 4} (hm : t.matrixFb = s.matrixFb)
    (hv : t.groups[g].nowVal = s.groups[g].nowVal) : t.nowClosed g = s.nowClosed g := by
  simp only [State.nowClosed, hm, hv]

/-- A Pennant leaves ROUTE_STATE as it was. -/
theorem State.routeState_raise1 (s : State) (source event prio : Nat) (before : Val) (g : Fin 4) :
    (s.raise1 source event prio before).routeState g = s.routeState g := by
  have hget : (s.raise1 source event prio before).get (Reg.ROUTE_STATE g) = s.get (Reg.ROUTE_STATE g) :=
    Same.below8 (m := (· == 8)) (by simp) rfl _ (Nat.zero_le _) (by simp only [Reg.ROUTE_STATE, key]; omega)
      (tally_groupKey _ _ _)
  simp only [State.routeState, State.nat, State.int, hget]

/-! ## One step of a route (R32) -/

section
variable {s : State} {g : Fin 4} (hrun : s.phasesRun = true)
include hrun

/-- Step 4: the new route reads closed. -/
theorem State.routeStep_of_closed (hst : s.routeState g = 3) (hc : s.nowClosed g = true) :
    s.routeStep g = (s.putRoute g 4).unparkGroup g := by
  simp [State.routeStep, hrun, hst, hc]

/-- Step 3 with no new route selected. -/
theorem State.routeStep_of_open_none (hst : s.routeState g = 2) (hc : s.nowClosed g = false)
    (hv : s.routeVal g s.groups[g].routeNext = none) :
    s.routeStep g = (s.setGroup g { s.groups[g] with routeNow := 0, routeNext := 0, nowVal := 0 }).putRoute g 0 := by
  simp only [State.routeStep, hrun, hst, hc, hv]
  rfl

/-- Step 3 with a new route, which is energised. -/
theorem State.routeStep_of_open_some {v : Nat} (hst : s.routeState g = 2) (hc : s.nowClosed g = false)
    (hv : s.routeVal g s.groups[g].routeNext = some v) :
    s.routeStep g = if (s.takeRoute g s.groups[g].routeNext v).nowClosed g
      then ((s.takeRoute g s.groups[g].routeNext v).putRoute g 4).unparkGroup g
      else (s.takeRoute g s.groups[g].routeNext v).putRoute g 3 := by
  simp only [State.routeStep, hrun, hst, hc, hv]
  rfl

end

/-! ## What the step of one group leaves of another -/

/-- What a route step of another group leaves of a group: the feedbacks, the classes, its record and its elements. -/
structure Apart (g : Fin 4) (s t : State) : Prop where
  matrixFb : t.matrixFb = s.matrixFb
  modes : t.modes = s.modes
  group : t.groups[g] = s.groups[g]
  get : ∀ o e, o < 256 → e < 256 → t.get (key (0x10 + g) o e) = s.get (key (0x10 + g) o e)

theorem Apart.refl (g : Fin 4) (s : State) : Apart g s s := ⟨rfl, rfl, rfl, fun _ _ _ _ => rfl⟩

theorem Apart.trans {g : Fin 4} {a b c : State} (h : Apart g a b) (h' : Apart g b c) : Apart g a c :=
  ⟨h'.matrixFb.trans h.matrixFb, h'.modes.trans h.modes, h'.group.trans h.group,
    fun o e ho he => (h'.get o e ho he).trans (h.get o e ho he)⟩

section
variable {g : Fin 4} {s t : State} (h : Apart g s t)
include h

theorem Apart.routeState : t.routeState g = s.routeState g := by
  simp only [State.routeState, State.nat, State.int, h.get 0x32 0 (by decide) (by decide)]

theorem Apart.routeVal (r : Nat) : t.routeVal g r = s.routeVal g r := by
  unfold State.routeVal
  by_cases hr : r ≤ 8
  · have hget : t.nat (Reg.ROUTE g r) = s.nat (Reg.ROUTE g r) := by
      simp only [State.nat, State.int, h.get 0x30 r (by decide) (by omega)]
    rw [hget]
  · simp [hr]

theorem Apart.nowClosed : t.nowClosed g = s.nowClosed g := State.nowClosed_congr h.matrixFb (by rw [h.group])

theorem Apart.phasesRun : t.phasesRun = s.phasesRun := by simp only [State.phasesRun, h.modes]

end

section
variable {g g' : Fin 4} (hg : g' ≠ g)
include hg

theorem State.setGroup_apart (s : State) (x : Group) : Apart g s (s.setGroup g' x) := by
  have hv : g'.val ≠ g.val := fun h => hg (Fin.ext h)
  exact ⟨rfl, rfl, by simp [State.setGroup, hv], fun _ _ _ _ => rfl⟩

theorem State.putRoute_apart (s : State) (n : Nat) : Apart g s (s.putRoute g' n) := by
  have hv : g'.val ≠ g.val := fun h => hg (Fin.ext h)
  refine ⟨by simp, Same.modes (m := (· == 22)) (by simp) rfl, by simp, fun o e ho he => ?_⟩
  rw [State.get_putRoute, if_neg (by simp only [Reg.ROUTE_STATE, key]; omega)]

omit hg in
theorem State.ownerSwitch_apart (s : State) (ch owner : Nat) (on : Bool) : Apart g s (s.ownerSwitch ch owner on) := by
  refine ⟨by simp, Same.modes (m := (· == 22)) (by simp) rfl, by simp, fun o e ho he => ?_⟩
  exact State.get_ownerSwitch _ _ _ _ (by simp only [key]; omega) (tally_groupKey _ _ _)

theorem State.takeRoute_apart (s : State) (r v : Nat) : Apart g s (s.takeRoute g' r v) :=
  (s.setGroup_apart hg _).trans (State.ownerSwitch_apart _ _ _ _)

theorem State.unparkGroup_apart (s : State) : Apart g s (s.unparkGroup g') := by
  have hv : g'.val ≠ g.val := fun h => hg (Fin.ext h)
  obtain ⟨p, hp⟩ := s.unparkGroup_groups g'
  exact ⟨by simp, Same.modes (m := (· == 22)) (by simp) rfl, by simp [hp, hv], fun _ _ _ _ => by simp⟩

theorem State.routeStep_apart (s : State) : Apart g s (s.routeStep g') := by
  unfold State.routeStep
  dsimp only
  split
  · exact Apart.refl g s
  split
  · split
    · exact (s.setGroup_apart hg _).trans (State.putRoute_apart hg _ _)
    · have ht := s.takeRoute_apart hg s.groups[g'].routeNext ‹Nat›
      split
      · exact (ht.trans (State.putRoute_apart hg _ _)).trans (State.unparkGroup_apart hg _)
      · exact ht.trans (State.putRoute_apart hg _ _)
  split
  · exact (s.putRoute_apart hg _).trans (State.unparkGroup_apart hg _)
  · exact Apart.refl g s

end

/-- The steps of all groups are, for one of them, its own step between steps that leave it alone. -/
theorem State.routeSteps_at (s : State) (g : Fin 4) :
    ∃ a, Apart g s a ∧ Apart g (a.routeStep g) ((List.finRange 4).foldl (fun st i => st.routeStep i) s) := by
  have others : ∀ (l : List (Fin 4)) (st : State), g ∉ l → Apart g st (l.foldl (fun st i => st.routeStep i) st) := by
    intro l
    induction l with
    | nil => exact fun st _ => Apart.refl g st
    | cons i l ih =>
      intro st hl
      rw [List.mem_cons, not_or] at hl
      exact (st.routeStep_apart (Ne.symm hl.1)).trans (ih _ hl.2)
  obtain ⟨l, r, hlr⟩ := List.append_of_mem (List.mem_finRange g)
  have hnd : (l ++ g :: r).Nodup := hlr ▸ List.nodup_finRange 4
  obtain ⟨-, hcons, hapart⟩ := List.nodup_append.mp hnd
  have hl : g ∉ l := fun h => hapart g h g List.mem_cons_self rfl
  have hr : g ∉ r := (List.nodup_cons.mp hcons).1
  refine ⟨l.foldl (fun st i => st.routeStep i) s, others l s hl, ?_⟩
  rw [hlr, List.foldl_append, List.foldl_cons]
  exact others r _ hr

/-! ## The statement -/

/-- A failed step leaves FAULT and a parked group. -/
theorem State.routeFault_faults (s : State) (g : Fin 4) :
    (s.routeFault g).routeState g = 5 ∧ (s.routeFault g).groups[g].parked = true := by
  constructor
  · rw [State.routeFault, State.routeState_raise1, State.routeState_putRoute]
  · simp [State.routeFault]

/-- A feedback change is the new level and then one step of every group. -/
theorem exec_mtxFbChange {s : State} (hp : s.powered = true) (fb : Fin 8) (lv : Bool) :
    exec (.mtxFbChange fb lv) s =
      .next ((List.finRange 4).foldl (fun st g => st.routeStep g) { s with matrixFb := s.matrixFb.set fb lv }) :=
  congrArg Host.Outcome.next (State.live_of_powered hp _)

/-- In RAMP_DOWN, OPENING and CLOSING the timeout is a failed step while the phases run. -/
theorem exec_routeFbTimeout {s : State} {g : Fin 4} (hp : s.powered = true) (hrun : s.phasesRun = true)
    (hst : s.routeState g = 1 ∨ s.routeState g = 2 ∨ s.routeState g = 3) :
    exec (.routeFbTimeout g) s = .next (s.routeFault g) := by
  refine congrArg Host.Outcome.next ((State.live_of_powered hp _).trans ?_)
  rcases hst with h | h | h <;> simp [hrun, h]

/-- Settles O27: the feedback moves each group by its own step, which the steps of the others leave alone; the timeout is a failed
step. -/
theorem routesSwitch : Obligations.RoutesSwitch := by
  refine ⟨fun s g fb lv hp hrun => ?_, fun s g hp hrun hst => ?_⟩
  · obtain ⟨a, ha, hb⟩ := State.routeSteps_at { s with matrixFb := s.matrixFb.set fb lv } g
    have hra : a.phasesRun = true := ha.phasesRun.trans hrun
    refine ⟨_, exec_mtxFbChange hp fb lv, ?_, fun h3 hc => ?_, fun h2 hc hv => ?_, fun v h2 hc hv => ?_⟩
    · exact Same.matrixFb (m := (· == 29)) (by simp) rfl
    · rw [hb.routeState, State.routeStep_of_closed hra (ha.routeState.trans h3) (ha.nowClosed.trans hc)]
      simp
    · have hn : a.routeVal g a.groups[g].routeNext = none := by rw [ha.group, ha.routeVal]; exact hv
      have hs := State.routeStep_of_open_none hra (ha.routeState.trans h2) (ha.nowClosed.trans hc) hn
      rw [hb.routeState, hb.group, hs]
      simp [State.setGroup]
    · have hn : a.routeVal g a.groups[g].routeNext = some v := by rw [ha.group, ha.routeVal]; exact hv
      have hs := State.routeStep_of_open_some hra (ha.routeState.trans h2) (ha.nowClosed.trans hc) hn
      have hnow : (a.routeStep g).nowClosed g = (a.takeRoute g a.groups[g].routeNext v).nowClosed g := by
        rw [hs]; split <;> exact State.nowClosed_congr (by simp) (by simp)
      rw [hb.nowClosed, hb.routeState, hb.group, hnow, hs, ← ha.group]
      split <;> simp [*]
  · exact ⟨_, exec_routeFbTimeout hp hrun hst, s.routeFault_faults g⟩

end Sys2Proof.Machine
end

section
/-! What the operations on the resource classes keep: the modes' objects, the classes reached and their targets; what an arrival does,
and that stopping phases arrive parked. -/

namespace Sys2Proof.Machine

/-! ## What leaves the modes' objects alone (group 0x01) -/

/-- The modes' objects are the same where each of them reads the same. -/
theorem same_modeObjs_of_get {s t : State} (h : ∀ k, 0x10000 ≤ k → k < 0x20000 → t.get k = s.get k) :
    Same (· == 9) s t := by
  constructor
  case below9 => exact fun _ k hl hk _ => h k hl hk
  all_goals exact fun e => absurd e (by decide)

@[simp] theorem State.parkGroup_modeObjs {t₀ s : State} (g : Fin 4) (hs : Same (· == 9) t₀ s) :
    Same (· == 9) t₀ (s.parkGroup g) :=
  hs.trans (same_modeObjs_of_get fun _ _ hk => s.get_parkGroup g (.inl (by omega)))

@[simp] theorem State.groupLeave_modeObjs {t₀ s : State} (g : Fin 4) (hs : Same (· == 9) t₀ s) :
    Same (· == 9) t₀ (s.groupLeave g) := by
  simp (maxDischargeDepth := 60) [State.groupLeave, hs]

@[simp] theorem State.roleClear_modeObjs {t₀ s : State} (i : Nat) (hs : Same (· == 9) t₀ s) :
    Same (· == 9) t₀ (s.roleClear i) := by
  unfold State.roleClear
  dsimp only
  repeat' split
  all_goals simp (maxDischargeDepth := 60) (decide := true) [hs]

@[simp] theorem State.sessionOver_modeObjs {t₀ s : State} (o : Fin 4) (hs : Same (· == 9) t₀ s) :
    Same (· == 9) t₀ (s.sessionOver o) := by
  simp (maxDischargeDepth := 60) [State.sessionOver, State.roleSessionEnd, hs]

@[simp] theorem State.normalStop_modeObjs {t₀ s : State} (o : Fin 4) (cause : Option Nat) (hs : Same (· == 9) t₀ s) :
    Same (· == 9) t₀ (s.normalStop o cause) := by
  simp (maxDischargeDepth := 60) [State.normalStop, State.endQuiet, hs]

@[simp] theorem State.outletsStop_modeObjs {t₀ s : State} (hs : Same (· == 9) t₀ s) :
    Same (· == 9) t₀ s.outletsStop := by
  simp (maxDischargeDepth := 60) [State.outletsStop, hs]

@[simp] theorem State.outletsArrived_modeObjs {t₀ s : State} (hs : Same (· == 9) t₀ s) :
    Same (· == 9) t₀ s.outletsArrived := by
  simp (maxDischargeDepth := 60) [State.outletsArrived, State.openOutlet, hs]

@[simp] theorem State.phasesArrived_modeObjs {t₀ s : State} (hs : Same (· == 9) t₀ s) :
    Same (· == 9) t₀ s.phasesArrived := by
  simp (maxDischargeDepth := 60) [State.phasesArrived, hs]

/-! ## Arriving (R72, R77) -/

@[simp] theorem State.refreshTransit_modes (s : State) : s.refreshTransit.modes = s.modes := by
  unfold State.refreshTransit; dsimp only; split <;> rfl

@[simp] theorem State.refreshTransit_groups (s : State) : s.refreshTransit.groups = s.groups := by
  unfold State.refreshTransit; dsimp only; split <;> rfl

/-- Of the elements only MODE_TRANSIT and MODE_IN_FORCE follow the classes. -/
theorem State.nat_refreshTransit (s : State) {k : Nat} (ht : k ≠ Reg.MODE_TRANSIT) (hf : k ≠ Reg.MODE_IN_FORCE) :
    s.refreshTransit.nat k = s.nat k := by
  unfold State.refreshTransit; dsimp only; split <;> simp [ht, hf]

/-- What an arrival changes of the modes: the class's behaviour, and for the load switches the LIMP bit reached. -/
theorem State.arrive_modes (s : State) (c : Fin 8) :
    ∃ l, (s.arrive c).modes = { s.modes with beh := s.modes.beh.set c (s.reach c), limpReached := l } := by
  unfold State.arrive
  dsimp only
  rw [State.refreshTransit_modes]
  split
  · exact ⟨_, rfl⟩
  · exact ⟨s.modes.limpReached, rfl⟩

/-- Of the elements an arrival itself changes only the two that follow the classes. -/
theorem State.nat_arrive (s : State) (c : Fin 8) {k : Nat} (ht : k ≠ Reg.MODE_TRANSIT) (hf : k ≠ Reg.MODE_IN_FORCE) :
    (s.arrive c).nat k = s.nat k := by
  unfold State.arrive
  dsimp only
  rw [State.nat_refreshTransit _ ht hf]
  split <;> rfl

/-- What a class does at its arrival moves no class. -/
theorem State.classArrived_modes (s : State) (c : Fin 8) : (s.classArrived c).modes = (s.arrive c).modes := by
  have h : Same (· == 22) (s.arrive c) (s.classArrived c) := by
    unfold State.classArrived
    dsimp only
    repeat' split
    all_goals simp (maxDischargeDepth := 60)
  exact h.modes rfl

theorem State.classArrived_beh (s : State) (c : Fin 8) : (s.classArrived c).beh c = s.reach c := by
  obtain ⟨l, hl⟩ := s.arrive_modes c
  simp [State.beh, State.classArrived_modes, hl]

theorem State.classArrived_beh_other (s : State) {c d : Fin 8} (h : d ≠ c) : (s.classArrived c).beh d = s.beh d := by
  have hv : c.val ≠ d.val := fun e => h (Fin.ext e.symm)
  obtain ⟨l, hl⟩ := s.arrive_modes c
  simp [State.beh, State.classArrived_modes, hl, hv]

@[simp] theorem State.classArrived_restoring (s : State) (c : Fin 8) :
    (s.classArrived c).modes.restoring = s.modes.restoring := by
  obtain ⟨l, hl⟩ := s.arrive_modes c
  simp [State.classArrived_modes, hl]

/-! ## The phases stop (R72, R78, R79) -/

/-- Parking a group leaves every other group as it stands. -/
theorem State.parked_parkGroup (s : State) (g h : Fin 4) :
    (s.parkGroup g).groups[h].parked = true ↔ h = g ∨ s.groups[h].parked = true := by
  by_cases hg : h = g
  · subst hg; simp
  · have hv : g.val ≠ h.val := fun e => hg (Fin.ext e.symm)
    simp [hg, hv]

/-- Every group is parked, one after the other. -/
def State.parkAll (s : State) : State := (List.finRange 4).foldl (fun (st : State) (g : Fin 4) => st.parkGroup g) s

theorem State.parkAll_parked (s : State) (h : Fin 4) : s.parkAll.groups[h].parked = true := by
  have parks : ∀ (l : List (Fin 4)) (st : State),
      (l.foldl (fun (st : State) (g : Fin 4) => st.parkGroup g) st).groups[h].parked = true ↔
        h ∈ l ∨ st.groups[h].parked = true := by
    intro l
    induction l with
    | nil => simp
    | cons g l ih => intro st; rw [List.foldl_cons, ih, State.parked_parkGroup, List.mem_cons, or_left_comm, or_assoc]
  exact (parks _ s).mpr (.inl (List.mem_finRange h))

/-- Parking changes elements of the phase groups only. -/
theorem State.nat_parkAll (s : State) {k : Nat} (hk : k < 0x100000 ∨ 0x140000 ≤ k) : s.parkAll.nat k = s.nat k :=
  foldl_keeps (·.nat k) _ (fun st g => by simp only [State.nat, State.int, st.get_parkGroup g hk]) _ s

/-- The arrival of the phases in one line. -/
theorem State.classArrived_phases (s : State) :
    s.classArrived 0 = (s.arrive 0).phasesArrived.burgeeFollows.refreshTransit := rfl

/-- Phases that do not go to a running behaviour arrive parked. -/
theorem State.classArrived_of_park {s : State} (h : runsPhases (s.targetBeh 0) = false) :
    s.classArrived 0 = (s.arrive 0).parkAll.burgeeFollows.refreshTransit := by
  have hb : runsPhases (s.reach 0) = false := by
    unfold State.reach
    split <;> simp_all [runsPhases]
  have hrun : (s.arrive 0).phasesRun = false := by
    obtain ⟨l, hl⟩ := s.arrive_modes 0
    rw [State.phasesRun, hl]
    simpa [runsPhases] using hb
  have hp : (s.arrive 0).phasesArrived = (s.arrive 0).parkAll := by
    simp [State.phasesArrived, State.parkAll, hrun]
  rw [State.classArrived_phases, hp]

theorem State.classArrived_parked {s : State} (h : runsPhases (s.targetBeh 0) = false) (g : Fin 4) :
    (s.classArrived 0).groups[g].parked = true := by
  have hg : (s.classArrived 0).groups = (s.arrive 0).parkAll.groups := by
    rw [State.classArrived_of_park h, State.refreshTransit_groups]
    exact Same.groups (m := (· == 28)) (by simp) rfl
  rw [hg]
  exact State.parkAll_parked _ g

/-- A number of the modes' objects reads the same where these objects do. -/
theorem Same.natModes {s t : State} (h : Same (· == 9) s t) {k : Nat} (hl : 0x10000 ≤ k) (hk : k < 0x20000) :
    t.nat k = s.nat k := by
  have ht : tally k = false := by
    simp only [tally, Reg.DICT_RX_COUNT, Reg.DICT_REJECT_COUNT, key, Bool.or_eq_false_iff, beq_eq_false_iff_ne]; omega
  simp only [State.nat, State.int, h.below9 rfl k hl hk ht]

/-- The arrival of the phases changes, of the modes' objects, only MODE_TRANSIT and MODE_IN_FORCE. -/
theorem State.nat_classArrived_phases (s : State) {k : Nat} (hl : 0x10000 ≤ k) (hk : k < 0x20000)
    (ht : k ≠ Reg.MODE_TRANSIT) (hf : k ≠ Reg.MODE_IN_FORCE) : (s.classArrived 0).nat k = s.nat k := by
  have h : Same (· == 9) (s.arrive 0) (s.arrive 0).phasesArrived.burgeeFollows := by simp
  rw [State.classArrived_phases, State.nat_refreshTransit _ ht hf, h.natModes hl hk, State.nat_arrive _ _ ht hf]

/-- The behaviour a class moves toward follows from the word, the pin and the Burgee. -/
theorem State.targetBeh_congr {s t : State} (hw : t.nat Reg.MODE_WORD = s.nat Reg.MODE_WORD)
    (hp : t.nat Reg.PAIR_EN = s.nat Reg.PAIR_EN) (hb : t.nat Reg.BURGEE_STATE = s.nat Reg.BURGEE_STATE)
    (hl : t.modes.limpEn = s.modes.limpEn) (c : Fin 8) : t.targetBeh c = s.targetBeh c := by
  have hword : t.targetWord = s.targetWord := by simp only [State.targetWord, hw, hl]
  have hwait : t.waitsBurgee = s.waitsBurgee := by simp only [State.waitsBurgee, hp, hb]
  rw [State.targetBeh, hword, hwait, State.targetBeh]

theorem State.noteParked_objs (s : State) : s.noteParked.objs = s.objs := by
  unfold State.noteParked; dsimp only; split <;> rfl
theorem State.noteParked_groups (s : State) : s.noteParked.groups = s.groups := by
  unfold State.noteParked; dsimp only; split <;> rfl
theorem State.noteParked_limpEn (s : State) : s.noteParked.modes.limpEn = s.modes.limpEn := by
  unfold State.noteParked; dsimp only; split <;> rfl

/-- Parking a group moves no class's target. -/
theorem State.targetBeh_parked (s : State) (g : Fin 4) (c : Fin 8) :
    (s.parkGroup g).noteParked.targetBeh c = s.targetBeh c := by
  have hk : ∀ k, k < 0x100000 ∨ 0x140000 ≤ k → (s.parkGroup g).noteParked.nat k = s.nat k := fun k hk => by
    simp only [State.nat, State.int, State.get, State.noteParked_objs]
    exact congrArg (fun v : Val => v.int.toNat) (s.get_parkGroup g hk)
  refine State.targetBeh_congr (hk _ (by decide)) (hk _ (by decide)) (hk _ (by decide)) ?_ c
  rw [State.noteParked_limpEn]
  exact congrArg ModeState.limpEn (Same.modes (m := (· == 22)) (by simp) rfl)

end Sys2Proof.Machine
end

section
/-! Proof of the statement on the resource classes: the arrivals, the stops, the VAULT entry and LIMP_EN. -/

namespace Sys2Proof.Machine

/-! ## What leaves the classes alone -/

@[simp] theorem State.driveAll_modes (s : State) : s.driveAll.modes = s.modes := Same.modes (m := (· == 22)) (by simp) rfl
@[simp] theorem State.driveAll_power (s : State) : s.driveAll.power = s.power := Same.power (m := (· == 42)) (by simp) rfl
@[simp] theorem State.anaReset_modes (s : State) : s.anaReset.modes = s.modes := Same.modes (m := (· == 22)) (by simp) rfl
@[simp] theorem State.anaReset_power (s : State) : s.anaReset.power = s.power := Same.power (m := (· == 42)) (by simp) rfl
@[simp] theorem State.driversLow_power (s : State) : s.driversLow.power = s.power :=
  Same.power (m := (· == 42)) (by simp) rfl
@[simp] theorem State.openContactors_modes (s : State) (o : Fin 4) : (s.openContactors o).modes = s.modes :=
  Same.modes (m := (· == 22)) (by simp) rfl
@[simp] theorem State.powerFailRecords_modes (s : State) : s.powerFailRecords.modes = s.modes :=
  Same.modes (m := (· == 22)) (by simp) rfl
@[simp] theorem State.preLoss_modes (s : State) : s.preLoss.modes = s.modes := rfl
@[simp] theorem State.commitRegs_modes (s : State) : s.commitRegs.modes = s.modes :=
  Same.modes (m := (· == 22)) (by simp) rfl
@[simp] theorem State.copyLoops_modes (s : State) : s.copyLoops.modes = s.modes :=
  Same.modes (m := (· == 22)) (by simp) rfl
@[simp] theorem State.refreshMcs_modes (s : State) : s.refreshMcs.modes = s.modes :=
  Same.modes (m := (· == 22)) (by simp) rfl
@[simp] theorem State.orderlyRelease_modes (s : State) (rehearsal : Bool) : (s.orderlyRelease rehearsal).modes = s.modes :=
  Same.modes (m := (· == 22)) (by simp) rfl
@[simp] theorem State.ringKeyPersist_modes (s : State) : s.ringKeyPersist.modes = s.modes :=
  Same.modes (m := (· == 22)) (by simp) rfl
@[simp] theorem State.driveByp_modes (s : State) (on : Bool) : (s.driveByp on).modes = s.modes := rfl
@[simp] theorem State.outletsStop_modes (s : State) : s.outletsStop.modes = s.modes :=
  Same.modes (m := (· == 22)) (by simp) rfl
@[simp] theorem State.outletsArrived_modes (s : State) : s.outletsArrived.modes = s.modes :=
  Same.modes (m := (· == 22)) (by simp) rfl
@[simp] theorem State.phasesArrived_modes (s : State) : s.phasesArrived.modes = s.modes :=
  Same.modes (m := (· == 22)) (by simp) rfl
@[simp] theorem State.burgeeFollows_modes (s : State) : s.burgeeFollows.modes = s.modes :=
  Same.modes (m := (· == 22)) (by simp) rfl

/-! ## Arrivals (R77, R80) -/

/-- A class on its way that need not wait arrives. -/
theorem exec_classArrive {s : State} {c : Fin 8} (hp : s.powered = true) (hw : s.onTheWay c = true)
    (hm : s.mayArrive c = true) : exec (.classArrive c) s = .next (s.classArrived c) :=
  congrArg Host.Outcome.next ((State.live_of_powered hp _).trans (if_pos (by rw [hw, hm]; rfl)))

/-- Engines whose target is RUN reach it. -/
theorem State.reach_engines {s : State} (h : s.targetBeh 6 = .run) : s.reach 6 = .run := by
  simp [State.reach, h]

/-- The engines of a class are restored. -/
def State.restored (s : State) (c : Fin 8) : State :=
  { s with modes := { s.modes with restoring := s.modes.restoring.set c false } }

/-- The engines come to RUN where they are not there yet. -/
def State.enginesToRun (s : State) : State := if s.beh 6 == .run then s else s.classArrived 6

/-- The phases follow the engines where they were the class restored. -/
def State.phasesFollow (s : State) (c : Fin 8) : State :=
  if c.val == 0 && s.onTheWay 0 && s.mayArrive 0 then s.classArrived 0 else s

theorem State.restored_targetBeh (s : State) (c d : Fin 8) : (s.restored c).targetBeh d = s.targetBeh d :=
  State.targetBeh_congr rfl rfl rfl rfl d

theorem State.restored_restoring (s : State) (c : Fin 8) : (s.restored c).modes.restoring[c] = false := by
  simp [State.restored]

theorem State.enginesToRun_restoring (s : State) : s.enginesToRun.modes.restoring = s.modes.restoring := by
  unfold State.enginesToRun; split <;> simp

theorem State.enginesToRun_beh {s : State} (h : s.targetBeh 6 = .run) : s.enginesToRun.beh 6 = .run := by
  unfold State.enginesToRun
  split
  · simpa using ‹(s.beh 6 == .run) = true›
  · rw [State.classArrived_beh, State.reach_engines h]

theorem State.phasesFollow_restoring (s : State) (c : Fin 8) : (s.phasesFollow c).modes.restoring = s.modes.restoring := by
  unfold State.phasesFollow; split <;> simp

theorem State.phasesFollow_engines (s : State) (c : Fin 8) : (s.phasesFollow c).beh 6 = s.beh 6 := by
  unfold State.phasesFollow
  split
  · exact s.classArrived_beh_other (by decide)
  · rfl

/-- A restoring that ends at the target RUN. -/
theorem exec_engineRestoreDone {s : State} {c : Fin 8} (hp : s.powered = true) (hr : s.modes.restoring[c] = true)
    (h6 : s.targetBeh 6 = .run) :
    exec (.engineRestoreDone c) s = .next ((s.restored c).enginesToRun.phasesFollow c) :=
  congrArg Host.Outcome.next ((State.live_of_powered hp _).trans (if_neg (by simp [hr, h6])))

/-- The end of a restoring: the engines run, and the class leaves the set that waits. -/
theorem engineRestoreDone_ends {s : State} {c : Fin 8} (hp : s.powered = true) (hr : s.modes.restoring[c] = true)
    (h6 : s.targetBeh 6 = .run) :
    ∃ t, exec (.engineRestoreDone c) s = .next t ∧ t.modes.restoring[c] = false ∧ t.beh 6 = .run := by
  refine ⟨_, exec_engineRestoreDone hp hr h6, ?_, ?_⟩
  · rw [State.phasesFollow_restoring, State.enginesToRun_restoring, State.restored_restoring]
  · rw [State.phasesFollow_engines, State.enginesToRun_beh ((s.restored_targetBeh c 6).trans h6)]

/-! ## Parking and the forced stop (R78, R79) -/

/-- Phases that leave a running behaviour go to one that does not run. -/
theorem State.target_of_leave {s : State} (h : s.phasesLeave = true) : runsPhases (s.targetBeh 0) = false := by
  simpa using (Bool.and_eq_true_iff.mp h).2

/-- The phases arrive once every group is parked. -/
def State.phasesIfParked (s : State) : State := if s.allParked && s.onTheWay 0 then s.classArrived 0 else s

/-- The arrival of stopping phases unparks no group. -/
theorem State.phasesIfParked_parked {s : State} {g : Fin 4} (h : runsPhases (s.targetBeh 0) = false)
    (hg : s.groups[g].parked = true) : s.phasesIfParked.groups[g].parked = true := by
  unfold State.phasesIfParked
  split
  · exact State.classArrived_parked h g
  · exact hg

/-- A stopping group that is down to ROUTE_ZERO_I. -/
theorem exec_groupPark {s : State} {g : Fin 4} (hp : s.powered = true) (hz : s.groupZero g = true)
    (hr : s.phasesRun = true) (hl : s.phasesLeave = true) :
    exec (.groupPark g) s = .next (s.parkGroup g).noteParked.phasesIfParked :=
  congrArg Host.Outcome.next
    ((State.live_of_powered hp _).trans ((if_neg (by simp [hz, hr])).trans (if_pos hl)))

/-- The group parks, and the phases with the last. -/
theorem groupPark_parks {s : State} {g : Fin 4} (hp : s.powered = true) (hz : s.groupZero g = true)
    (hr : s.phasesRun = true) (hl : s.phasesLeave = true) :
    ∃ t, exec (.groupPark g) s = .next t ∧ t.groups[g].parked = true := by
  refine ⟨_, exec_groupPark hp hz hr hl, State.phasesIfParked_parked ?_ ?_⟩
  · rw [State.targetBeh_parked, State.target_of_leave hl]
  · rw [State.noteParked_groups]
    exact (s.parked_parkGroup g g).mpr (.inl rfl)

/-- A Pennant leaves every phase group as it was. -/
@[simp] theorem State.raise_groups (s : State) (source event prio detailKind before extra : Nat) :
    (s.raise source event prio detailKind before extra).groups = s.groups :=
  Same.groups (m := (· == 28)) (by simp) rfl

/-- Every group is parked, and the contactors that are still closed follow after their delay. -/
def State.forceParked (s : State) : State :=
  { s.parkAll with modes := { s.parkAll.modes with
      ctrDelay := Vector.ofFn fun o => s.parkAll.outState o == 8 && (s.parkAll.ctr o 2 || s.parkAll.ctr o 3) } }

theorem State.nat_forceParked (s : State) (k : Nat) : s.forceParked.nat k = s.parkAll.nat k := by
  simp only [State.nat, State.int, State.get, State.forceParked]

/-- A forced stop is counted, with a Pennant that tells when the stop began. -/
def State.tellForced (s : State) (at_ : Nat) : State :=
  (s.count Reg.FORCED_STOPS).raise 0x0100 0x008 1 2 (val64 (s.get Reg.FORCED_STOPS)) (ltimeOf at_)

/-- The phases arrive where they were leaving. -/
def State.phasesIfLeaving (s : State) : State := if s.phasesLeave && s.onTheWay 0 then s.classArrived 0 else s

theorem State.tellForced_groups (s : State) (at_ : Nat) : (s.tellForced at_).groups = s.groups :=
  State.raise_groups _ _ _ _ _ _ _

theorem State.tellForced_counts (s : State) (at_ : Nat) :
    (s.tellForced at_).nat Reg.FORCED_STOPS = (s.nat Reg.FORCED_STOPS + 1) % 4294967296 := by
  have h : Same (· == 9) (s.count Reg.FORCED_STOPS) (s.tellForced at_) := by simp [State.tellForced]
  rw [h.natModes (by decide) (by decide), State.nat_count, if_pos rfl]

theorem State.phasesIfLeaving_parked {s : State} {g : Fin 4} (hg : s.groups[g].parked = true) :
    s.phasesIfLeaving.groups[g].parked = true := by
  unfold State.phasesIfLeaving
  split
  · rename_i h
    exact State.classArrived_parked (State.target_of_leave (Bool.and_eq_true_iff.mp h).1) g
  · exact hg

theorem State.phasesIfLeaving_counts (s : State) : s.phasesIfLeaving.nat Reg.FORCED_STOPS = s.nat Reg.FORCED_STOPS := by
  unfold State.phasesIfLeaving
  split
  · exact s.nat_classArrived_phases (by decide) (by decide) (by decide) (by decide)
  · rfl

/-- A stop that has lasted too long, with a group or a contactor left. -/
theorem exec_forcedStop {s : State} (hp : s.powered = true) (hs : s.modes.stopping = true)
    (hc : s.allParked = false ∨ s.someCtrClosed = true) :
    exec .forcedStop s = .next (s.forceParked.tellForced s.modes.stopAt).phasesIfLeaving :=
  congrArg Host.Outcome.next
    ((State.live_of_powered hp _).trans (if_neg (by rcases hc with h | h <;> simp [hs, h])))

/-- The forced stop parks every group and is counted once. -/
theorem forcedStop_stops {s : State} (hp : s.powered = true) (hs : s.modes.stopping = true)
    (hc : s.allParked = false ∨ s.someCtrClosed = true) :
    ∃ t, exec .forcedStop s = .next t ∧ t.nat Reg.FORCED_STOPS = (s.nat Reg.FORCED_STOPS + 1) % 4294967296 ∧
      ∀ g : Fin 4, t.groups[g].parked = true := by
  refine ⟨_, exec_forcedStop hp hs hc, ?_, fun g => State.phasesIfLeaving_parked ?_⟩
  · have hk : Reg.FORCED_STOPS < 0x100000 := by decide
    rw [State.phasesIfLeaving_counts, State.tellForced_counts, State.nat_forceParked, s.nat_parkAll (.inl hk)]
  · rw [State.tellForced_groups]
    exact s.parkAll_parked g

/-! ## The contactors of an outlet that stops (R78, R231) -/

@[simp] theorem State.nat_toState (s : State) (o : Fin 4) (n k : Nat) :
    (s.toState o n).nat k = if k = Reg.OUT_STATE o.val then n else s.nat k := by
  have hm : ∀ (t : State) (it : MirrorItem), (t.mirror it).nat k = t.nat k := fun t it => by
    simp only [State.nat, State.int, State.get_mirror]
  simp only [State.toState]
  split <;> simp only [hm, State.nat_putN]

/-- Of an outlet's elements a contactor drive changes CTR_STATE alone. -/
theorem State.nat_driveCtr (s : State) (o : Fin 4) (neg on : Bool) {k : Nat} (hl : 0x600000 ≤ k) (hk : k < 0x700000) :
    (s.driveCtr o neg on).nat k =
      if k = Reg.CTR_STATE o.val then setBit (s.nat (Reg.CTR_STATE o.val)) (b2n neg) on else s.nat k := by
  rw [State.driveCtr, ← State.nat_putBit]
  simp only [State.nat, State.int, State.get_ownerSwitch _ _ _ _ hk (tally_of_le (Nat.le_trans (by decide) hl))]

theorem outletKey_bounds (o : Fin 4) {c : Nat} (hc : c < 256) : 0x600000 ≤ key (0x60 + o) c 0 ∧ key (0x60 + o) c 0 < 0x700000 := by
  simp only [key]; omega

theorem outState_ne_ctrState (o : Fin 4) : Reg.OUT_STATE o.val ≠ Reg.CTR_STATE o.val := by
  simp only [Reg.CTR_STATE, Reg.OUT_STATE, key]; omega

theorem State.outState_driveCtr (s : State) (o : Fin 4) (neg on : Bool) : (s.driveCtr o neg on).outState o = s.outState o := by
  obtain ⟨hl, hk⟩ := outletKey_bounds o (c := 0x40) (by decide)
  rw [State.outState, State.nat_driveCtr _ _ _ _ hl hk, if_neg (outState_ne_ctrState o), State.outState]

/-- A drive of DC+ sets its own bit of CTR_STATE and no other. -/
theorem State.ctr_driveCtr_pos (s : State) (o : Fin 4) (on : Bool) (i : Nat) :
    (s.driveCtr o false on).ctr o i = if i = 0 then on else s.ctr o i := by
  obtain ⟨hl, hk⟩ := outletKey_bounds o (c := 0x52) (by decide)
  rw [State.ctr, State.nat_driveCtr _ _ _ _ hl hk, if_pos rfl, bit_setBit]
  rfl

@[simp] theorem State.outState_toState (s : State) (o : Fin 4) (n : Nat) : (s.toState o n).outState o = n := by
  rw [State.outState, State.nat_toState, if_pos rfl]

@[simp] theorem State.ctr_toState (s : State) (o : Fin 4) (n i : Nat) : (s.toState o n).ctr o i = s.ctr o i := by
  rw [State.ctr, State.nat_toState, if_neg (outState_ne_ctrState o).symm, State.ctr]

/-- DC+ is no longer driven. -/
def State.dropPos (s : State) (o : Fin 4) : State := if s.ctr o 0 then s.driveCtr o false false else s

theorem State.dropPos_outState (s : State) (o : Fin 4) : (s.dropPos o).outState o = s.outState o := by
  unfold State.dropPos
  split
  · exact s.outState_driveCtr o false false
  · rfl

theorem State.dropPos_ctr (s : State) (o : Fin 4) (i : Nat) : (s.dropPos o).ctr o i = if i = 0 then false else s.ctr o i := by
  unfold State.dropPos
  split
  · exact s.ctr_driveCtr_pos o false i
  · by_cases hi : i = 0 <;> simp_all

/-- In OPENING with DC+ still reading closed nothing follows yet. -/
theorem State.ctrStep_of_closed {s : State} {o : Fin 4} (h9 : s.outState o = 9) (h2 : s.ctr o 2 = true) :
    s.ctrStep o = s := by
  simp [State.ctrStep, h9, h2]

/-- The opening sequence starts with DC+. -/
theorem State.openContactors_of_closed {s : State} {o : Fin 4} (h2 : s.ctr o 2 = true) :
    (s.openContactors o).outState o = 9 ∧ (s.openContactors o).ctr o 0 = false := by
  have h9 : ((s.toState o 9).dropPos o).outState o = 9 := by rw [State.dropPos_outState, State.outState_toState]
  have hc : ((s.toState o 9).dropPos o).ctr o 2 = true := by simp [State.dropPos_ctr, h2]
  have hs : s.openContactors o = (s.toState o 9).dropPos o := State.ctrStep_of_closed h9 hc
  rw [hs]
  exact ⟨h9, by simp [State.dropPos_ctr]⟩

/-- The contactor delay of a stopping outlet ends. -/
theorem exec_outletContactorDelayEnd {s : State} {o : Fin 4} (hp : s.powered = true) (hd : s.modes.ctrDelay[o] = true)
    (h8 : s.outState o = 8) :
    exec (.outletContactorDelayEnd o) s =
      .next (({ s with modes := { s.modes with ctrDelay := s.modes.ctrDelay.set o false } } : State).openContactors o) :=
  congrArg Host.Outcome.next ((State.live_of_powered hp _).trans (if_pos (by simp [hd, h8])))

/-- The opening sequence begins, with DC+ where it still reads closed. -/
theorem outletContactorDelayEnd_opens {s : State} {o : Fin 4} (hp : s.powered = true) (hd : s.modes.ctrDelay[o] = true)
    (h8 : s.outState o = 8) :
    ∃ t, exec (.outletContactorDelayEnd o) s = .next t ∧ t.modes.ctrDelay[o] = false ∧
      (s.ctr o 2 = true → t.outState o = 9 ∧ t.ctr o 0 = false) := by
  refine ⟨_, exec_outletContactorDelayEnd hp hd h8, ?_, fun h2 => State.openContactors_of_closed h2⟩
  rw [State.openContactors_modes]
  simp

/-! ## The VAULT entry (R85) -/

/-- The next step of a VAULT entry is made. -/
theorem exec_vaultEntry {s : State} (hp : s.powered = true) (hw : s.nat Reg.MODE_WORD = 0x80) (hf : s.power.pfw = false)
    {step : Nat} (hs : step = if s.modes.vaultStep = 0 then 2 else s.modes.vaultStep + 1) :
    exec (.vaultEntry step) s = .next (s.vaultStepMade step) := by
  refine congrArg Host.Outcome.next ((State.live_of_powered hp _).trans (if_pos ?_))
  simp [hw, hf, hs]

/-- Step 2: the load switches are off. -/
theorem State.vaultStepMade_switchesOff {s : State} (h : s.vaultStopped = true) :
    (s.vaultStepMade 2).modes.vaultStep = 2 ∧ (s.vaultStepMade 2).beh 2 = .off := by
  simp [State.vaultStepMade, h, State.setBeh, State.beh]

/-- Step 3: integration stands. -/
theorem State.vaultStepMade_stopsMeter (s : State) :
    (s.vaultStepMade 3).modes.vaultStep = 3 ∧ (s.vaultStepMade 3).modes.meterStopped = true := by
  simp [State.vaultStepMade]

/-- Step 4: no journal is being written. -/
theorem State.vaultStepMade_journalled {s : State} (hc : s.nat Reg.COMMIT_STATE ≠ 1) (he : s.dict.erasing = false) :
    (s.vaultStepMade 4).modes.vaultStep = 4 := by
  simp [State.vaultStepMade, hc, he]

/-- Step 5: a node outside the ring bypasses it. -/
theorem State.vaultStepMade_leavesRing {s : State} (h : s.isMember = false ∨ s.byMarks = false) :
    (s.vaultStepMade 5).modes.vaultStep = 5 ∧ (s.vaultStepMade 5).beh 3 = .bypassed := by
  have hc : (s.isMember && s.byMarks) = false := by rcases h with h | h <;> simp [h]
  simp [State.vaultStepMade, hc, State.beh, State.setBeh]

/-- Power is off in all but the vault domain, whether or not a wake source waits. -/
def State.powerOff (s : State) : State :=
  let u : State := { s.driversLow with
    modes := { s.driversLow.modes with
      beh := ⟨#[.off, .off, .off, .bypassed, .off, .stopped, .off, .vault], rfl⟩, vaultStep := 6, stopping := false }
    power := { s.driversLow.power with inVault := true, tapOn := false, tapInstr := 2 } }
  ((u.putN Reg.MODE_TRANSIT 0).putN Reg.MODE_IN_FORCE 0x80).anaReset.driveAll

theorem State.powerOff_vaultStep (s : State) : s.powerOff.modes.vaultStep = 6 := by
  simp only [State.powerOff, State.driveAll_modes, State.anaReset_modes, State.putN_modes]

theorem State.powerOff_power (s : State) : s.powerOff.power = { s.power with inVault := true, tapOn := false, tapInstr := 2 } := by
  simp only [State.powerOff, State.driveAll_power, State.anaReset_power, State.putN_power, State.driversLow_power]

/-- Without a wake source that waits the device rests in VAULT. -/
theorem State.powerRemoved_of_no_wake {s : State} (h : s.power.wakePending = none) : s.powerRemoved = s.powerOff := by
  unfold State.powerRemoved
  dsimp only
  split
  · rename_i src hsrc
    simp [h] at hsrc
  · rfl

/-- Step 6: power is removed. -/
theorem State.vaultStepMade_removesPower {s : State} (h : s.power.wakePending = none) :
    (s.vaultStepMade 6).modes.vaultStep = 6 ∧ (s.vaultStepMade 6).power.inVault = true := by
  let u : State := { s with modes := { s.modes with vaultStep := 6 } }
  have hs : s.vaultStepMade 6 = u.powerOff := State.powerRemoved_of_no_wake (s := u) h
  rw [hs, State.powerOff_vaultStep, State.powerOff_power]
  exact ⟨rfl, rfl⟩

theorem State.not_powered_of_vault {s : State} (h : s.modes.vaultStep = 6) : s.powered = false := by
  simp [State.powered, State.running, h]

/-! ## LIMP_EN (R69, R77) -/

theorem State.powered_congr {s t : State} (hv : t.modes.vaultStep = s.modes.vaultStep) (hh : t.power.held = s.power.held)
    (hb : t.nat Reg.BOOT_STATE = s.nat Reg.BOOT_STATE) : t.powered = s.powered := by
  simp only [State.powered, State.running, State.inRecovery, hv, hh, hb]

/-- A turn of the classes leaves LIMP_EN as it is. -/
theorem State.classesTurn_limpEn (s : State) : s.classesTurn.modes.limpEn = s.modes.limpEn := by
  unfold State.classesTurn
  dsimp only
  rw [State.refreshTransit_modes, State.burgeeFollows_modes]
  repeat' split
  all_goals simp

/-- A turn of the classes changes, of the modes' objects, only MODE_TRANSIT and MODE_IN_FORCE. -/
theorem State.nat_classesTurn (s : State) {k : Nat} (hl : 0x10000 ≤ k) (hk : k < 0x20000) (ht : k ≠ Reg.MODE_TRANSIT)
    (hf : k ≠ Reg.MODE_IN_FORCE) : s.classesTurn.nat k = s.nat k := by
  unfold State.classesTurn
  dsimp only
  rw [State.nat_refreshTransit _ ht hf]
  refine Same.natModes ?_ hl hk
  repeat' split
  all_goals simp (maxDischargeDepth := 60)

/-- The pin takes its level. -/
def State.limpSet (s : State) (b : Bool) : State :=
  { s.putBit Reg.LIMP_PINS 8 b with modes := { s.modes with limpEn := b } }

/-- A test of the power-analog die ends where the pin is asserted during it. -/
def State.limpTest (s : State) (b : Bool) : State :=
  if s.testing 7 && b && s.nat Reg.BIST_STATE == 1 && s.isPending .bist then s.bistLimp else s

theorem exec_limpEnChange_of_ne {s : State} {b : Bool} (h : b ≠ s.modes.limpEn) :
    exec (.limpEnChange b) s =
      .next (((s.limpSet b).limpTest b).live fun s => (s.count Reg.MODE_CHANGES).classesTurn).driveAll :=
  congrArg Host.Outcome.next (if_neg (by simpa using Ne.symm h))

theorem exec_limpEnChange_of_eq (s : State) : exec (.limpEnChange s.modes.limpEn) s = .next s :=
  congrArg Host.Outcome.next (if_pos (by simp))

theorem State.limpTest_modes (s : State) (b : Bool) : (s.limpTest b).modes = s.modes := by
  unfold State.limpTest; split <;> rfl

theorem State.limpTest_power (s : State) (b : Bool) : (s.limpTest b).power = s.power := by
  unfold State.limpTest; split <;> rfl

@[simp] theorem State.nat_setRes (s : State) (c : CmdId) (r : Res) (k : Nat) : (s.setRes c r).nat k = s.nat k := rfl

/-- The test's end changes BIST_STATE alone. -/
theorem State.nat_limpTest (s : State) (b : Bool) {k : Nat} (hk : k ≠ Reg.BIST_STATE) : (s.limpTest b).nat k = s.nat k := by
  unfold State.limpTest
  split
  · rw [State.bistLimp, State.nat_setRes, State.nat_putN, if_neg hk]
    rfl
  · rfl

theorem State.nat_limpSet (s : State) (b : Bool) {k : Nat} (hk : k ≠ Reg.LIMP_PINS) : (s.limpSet b).nat k = s.nat k := by
  have h : (s.limpSet b).nat k = (s.putBit Reg.LIMP_PINS 8 b).nat k := by
    simp only [State.nat, State.int, State.get, State.limpSet]
  rw [h, State.nat_putBit, if_neg hk]

section
variable (s : State) (b : Bool)

theorem State.limpSet_limpTest_limpEn : ((s.limpSet b).limpTest b).modes.limpEn = b := by
  rw [State.limpTest_modes]; rfl

theorem State.nat_limpSet_limpTest {k : Nat} (hb : k ≠ Reg.BIST_STATE) (hl : k ≠ Reg.LIMP_PINS) :
    ((s.limpSet b).limpTest b).nat k = s.nat k := by
  rw [State.nat_limpTest _ _ hb, State.nat_limpSet _ _ hl]

theorem State.limpSet_limpTest_powered : ((s.limpSet b).limpTest b).powered = s.powered := by
  refine State.powered_congr ?_ ?_ (s.nat_limpSet_limpTest b (by decide) (by decide))
  · rw [State.limpTest_modes]; rfl
  · rw [State.limpTest_power]; rfl

end

theorem State.nat_driveAll (s : State) {k : Nat} (hl : 0x10000 ≤ k) (hk : k < 0x20000) : s.driveAll.nat k = s.nat k :=
  Same.natModes (by simp) hl hk

/-- A change of the pin is a change of the word. -/
theorem limpEnChange_changes (s : State) (b : Bool) :
    ∃ t, exec (.limpEnChange b) s = .next t ∧ t.modes.limpEn = b ∧
      (s.powered = true → b ≠ s.modes.limpEn → t.nat Reg.MODE_CHANGES = (s.nat Reg.MODE_CHANGES + 1) % 4294967296) := by
  by_cases hb : b = s.modes.limpEn
  · subst hb
    exact ⟨s, exec_limpEnChange_of_eq s, rfl, fun _ h => absurd rfl h⟩
  refine ⟨_, exec_limpEnChange_of_ne hb, ?_, fun hp _ => ?_⟩
  · rw [State.driveAll_modes, State.live]
    split
    · rw [State.classesTurn_limpEn, State.count_modes, State.limpSet_limpTest_limpEn]
    · exact s.limpSet_limpTest_limpEn b
  · rw [State.nat_driveAll _ (by decide) (by decide), State.live_of_powered ((s.limpSet_limpTest_powered b).trans hp),
      State.nat_classesTurn _ (by decide) (by decide) (by decide) (by decide), State.nat_count, if_pos rfl,
      State.nat_limpSet_limpTest _ _ (by decide) (by decide)]

/-! ## The statement -/

/-- Settles O15: each clause is what its command does, by the lemma of the class, the stop, the step or the pin it moves. -/
theorem classesArriveAndStop : Obligations.ClassesArriveAndStop := by
  refine ⟨fun s c hp hw hm => ⟨_, exec_classArrive hp hw hm, s.classArrived_beh c⟩,
    fun s c hp hr h6 => engineRestoreDone_ends hp hr h6,
    fun s g hp hz hr hl _ => groupPark_parks hp hz hr hl,
    fun s o hp hd h8 => outletContactorDelayEnd_opens hp hd h8,
    fun s hp hs hc => forcedStop_stops hp hs hc,
    fun s hp hw hf hv h => ⟨_, exec_vaultEntry hp hw hf (by simp [hv]), State.vaultStepMade_switchesOff h⟩,
    fun s hp hw hf hv => ⟨_, exec_vaultEntry hp hw hf (by simp [hv]), s.vaultStepMade_stopsMeter⟩,
    fun s hp hw hf hv hc he => ⟨_, exec_vaultEntry hp hw hf (by simp [hv]), State.vaultStepMade_journalled hc he⟩,
    fun s hp hw hf hv h => ⟨_, exec_vaultEntry hp hw hf (by simp [hv]), State.vaultStepMade_leavesRing h⟩,
    fun s hp hw hf hv h => ?_,
    limpEnChange_changes⟩
  obtain ⟨hstep, hvault⟩ := State.vaultStepMade_removesPower h
  exact ⟨_, exec_vaultEntry hp hw hf (by simp [hv]), hstep, hvault, State.not_powered_of_vault hstep⟩

end Sys2Proof.Machine
end

section
/-! Proofs of the statements on every step and every command: the canonical forms, the queue, and the footprints. -/

namespace Sys2Proof.Machine

/-! ## Steps -/

/-- Settles O1: the front command is what a step matches on. -/
theorem stepRunsFrontCommand : Obligations.StepRunsFrontCommand := by
  intro c rest s hp
  simp only [step, hp]

/-- Settles O2: the reset state is concrete; its stores are empty and its results are all as R63 leaves them. -/
theorem resetIsCanonical : Obligations.ResetIsCanonical := by
  refine ⟨⟨rfl, rfl, rfl⟩, rfl, rfl, rfl, rfl, fun c => ?_⟩
  cases c <;> rfl

/-- Settles O3: the canonical forms are part of what `Keeps` says. -/
theorem stepKeepsCanonical : Obligations.StepKeepsCanonical := by
  intro s ⟨hobjs, hstore, hmem⟩
  obtain ⟨t, ht, hk⟩ := step_keeps s
  exact ⟨t, ht, hk.objs hobjs, hk.store hstore, hk.mem hmem⟩

/-- Settles O6: the queue, the part and what was sent are all in what `Keeps` says. -/
theorem stepTakesOneCommand : Obligations.StepTakesOneCommand := by
  intro s
  obtain ⟨t, ht, hk⟩ := step_keeps s
  exact ⟨t, ht, hk.pending, hk.part, hk.sent⟩

/-! ## Footprints as parts of the state -/

/-- The ranges of groups that `Same` names as parts 0 to 11. -/
def partSpans : List (Nat × Nat) :=
  [(0x00, 0x05), (0x00, 0x10), (0x00, 0x50), (0x00, 0x58), (0x00, 0x60), (0x00, 0x70), (0x00, 0x88), (0x00, 0xA0), (0x00, 0xB0),
   (0x01, 0x02), (0x02, 0x05), (0x05, 0x06)]

/-- The number of a field among the parts that `Same` names. -/
def fieldPart : Field → Nat
  | .now => 20 | .dict => 21 | .modes => 22 | .fab => 23 | .ev => 24 | .pwmNow => 25 | .legs => 26 | .engines => 27
  | .groups => 28 | .matrixFb => 29 | .rebinds => 30 | .bindHeld => 31 | .site => 32 | .ring => 33 | .outs => 34
  | .cools => 35 | .ls => 36 | .pair => 37 | .von => 38 | .bill => 39 | .trust => 40 | .upd => 41 | .power => 42 | .sent => 43

/-- The fields, in the order of their parts. -/
def partFields : List Field :=
  [.now, .dict, .modes, .fab, .ev, .pwmNow, .legs, .engines, .groups, .matrixFb, .rebinds, .bindHeld, .site, .ring, .outs,
   .cools, .ls, .pair, .von, .bill, .trust, .upd, .power, .sent]

/-- The parts a footprint leaves alone: the ranges it keeps, and the fields it does not list. -/
def leavesPart (f : Footprint) (i : Nat) : Bool :=
  match partSpans[i]? with
  | some r => f.kept.contains r
  | none => (partFields[i - 20]?).any fun x => !f.changes.contains x

theorem leavesPart_field {f : Footprint} {x : Field} (hx : x ∉ f.changes) : leavesPart f (fieldPart x) = true := by
  have hspan : partSpans[fieldPart x]? = none := by cases x <;> rfl
  have hfield : partFields[fieldPart x - 20]? = some x := by cases x <;> rfl
  simp [leavesPart, hspan, hfield, hx]

theorem leavesPart_span {f : Footprint} {r : Nat × Nat} (hr : r ∈ f.kept) {i : Nat} (hi : partSpans[i]? = some r) :
    leavesPart f i = true := by
  simp [leavesPart, hi, hr]

/-- A field that `Same` names is the same. -/
theorem Same.field {m : Nat → Bool} {s t : State} (h : Same m s t) {x : Field} (hx : m (fieldPart x) = true) : x.same s t := by
  cases x with
  | now => exact h.now hx
  | dict => exact h.dict hx
  | modes => exact h.modes hx
  | fab => exact h.fab hx
  | ev => exact h.ev hx
  | pwmNow => exact h.pwmNow hx
  | legs => exact h.legs hx
  | engines => exact h.engines hx
  | groups => exact h.groups hx
  | matrixFb => exact h.matrixFb hx
  | rebinds => exact h.rebinds hx
  | bindHeld => exact h.bindHeld hx
  | site => exact h.site hx
  | ring => exact h.ring hx
  | outs => exact h.outs hx
  | cools => exact h.cools hx
  | ls => exact h.ls hx
  | pair => exact h.pair hx
  | von => exact h.von hx
  | bill => exact h.bill hx
  | trust => exact h.trust hx
  | upd => exact h.upd hx
  | power => exact h.power hx
  | sent => exact h.sent hx

/-- An element in a range that `Same` names is the same, unless it counts transactions. -/
theorem Same.span {m : Nat → Bool} {s t : State} (h : Same m s t) {r : Nat × Nat} (hr : r ∈ partSpans)
    (hm : ∀ i, partSpans[i]? = some r → m i = true) {k : Nat} (hl : r.1 * 65536 ≤ k) (hu : k < r.2 * 65536) (hk : tally k = false) :
    t.get k = s.get k := by
  simp only [partSpans, List.mem_cons, List.not_mem_nil, or_false] at hr
  rcases hr with rfl | rfl | rfl | rfl | rfl | rfl | rfl | rfl | rfl | rfl | rfl | rfl
  · exact h.below0 (hm 0 rfl) k hl hu hk
  · exact h.below1 (hm 1 rfl) k hl hu hk
  · exact h.below2 (hm 2 rfl) k hl hu hk
  · exact h.below3 (hm 3 rfl) k hl hu hk
  · exact h.below4 (hm 4 rfl) k hl hu hk
  · exact h.below5 (hm 5 rfl) k hl hu hk
  · exact h.below6 (hm 6 rfl) k hl hu hk
  · exact h.below7 (hm 7 rfl) k hl hu hk
  · exact h.below8 (hm 8 rfl) k hl hu hk
  · exact h.below9 (hm 9 rfl) k hl hu hk
  · exact h.below10 (hm 10 rfl) k hl hu hk
  · exact h.below11 (hm 11 rfl) k hl hu hk

theorem footprint_kept_partSpans (c : Instr) : ∀ r ∈ (footprint c).kept, r ∈ partSpans := by
  have h : ((footprint c).kept.all partSpans.contains) = true := by cases c <;> rfl
  simpa using h

/-- A command leaves its footprint's parts alone where the law of its meaning asks for no others. -/
theorem exec_same_of_law {c : Instr} {s : State} {P : State → Prop}
    (law : ∃ t, exec c s = .next t ∧ Keeps s t ∧ P t)
    (hP : ∀ t, P t → Same (leavesPart (footprint c)) s t := by intro _ same; apply same <;> rfl) :
    ∃ t, exec c s = .next t ∧ Same (leavesPart (footprint c)) s t := by
  obtain ⟨t, ht, -, h⟩ := law
  exact ⟨t, ht, hP t h⟩

/-- Every command leaves alone the parts outside its footprint, each by the law of its own meaning. -/
theorem exec_same (c : Instr) (s : State) : ∃ t, exec c s = .next t ∧ Same (leavesPart (footprint c)) s t := by
  cases c with
  | write src rq => exact exec_same_of_law (execWrite_law src rq s)
  | writeSeg src rq => exact exec_same_of_law (execWriteSeg_law src rq s)
  | readSeg src rq => exact exec_same_of_law (execReadSeg_law src rq s)
  | resRead h cmd => exact exec_same_of_law (execResRead_law h cmd s)
  | cmdRead h cmd => exact exec_same_of_law (execCmdRead_law h cmd s)
  | abort h cmd => exact exec_same_of_law (execAbort_law h cmd s)
  | ack h cmd => exact exec_same_of_law (execAck_law h cmd s)
  | commit h arg => exact exec_same_of_law (execCommit_law h arg s)
  | commitStored => exact exec_same_of_law (execCommitStored_law s)
  | commitApply => exact exec_same_of_law (execCommitApply_law s)
  | stageDiscard h arg => exact exec_same_of_law (execStageDiscard_law h arg s)
  | configErase h arg => exact exec_same_of_law (execConfigErase_law h arg s)
  | configEraseStored => exact exec_same_of_law (execConfigEraseStored_law s)
  | sessionStop h arg => exact exec_same_of_law (execSessionStop_law h arg s)
  | slotSwitch h arg => exact exec_same_of_law (execSlotSwitch_law h arg s)
  | slotSwitchQuietBoundary => exact exec_same_of_law (execSlotSwitchQuietBoundary_law s)
  | slotSwitchWaitExpired => exact exec_same_of_law (execSlotSwitchWaitExpired_law s)
  | blackoutEnd c us => exact exec_same_of_law (execBlackoutEnd_law c us s)
  | bist h arg => exact exec_same_of_law (execBist_law h arg s)
  | bistDone misr children => exact exec_same_of_law (execBistDone_law misr children s)
  | bistDeferredReset => exact exec_same_of_law (execBistDeferredReset_law s)
  | bistWindDownEnd begun => exact exec_same_of_law (execBistWindDownEnd_law begun s)
  | calCapture h arg => exact exec_same_of_law (execCalCapture_law h arg s)
  | calCaptureDone => exact exec_same_of_law (execCalCaptureDone_law s)
  | rehearsal h arg => exact exec_same_of_law (execRehearsal_law h arg s)
  | rehearsalSwap => exact exec_same_of_law (execRehearsalSwap_law s)
  | rehearsalWaitExpired => exact exec_same_of_law (execRehearsalWaitExpired_law s)
  | rehearsalTakeTimeout => exact exec_same_of_law (execRehearsalTakeTimeout_law s)
  | engineRebind h arg => exact exec_same_of_law (execEngineRebind_law h arg s)
  | rebindSwitch newE => exact exec_same_of_law (execRebindSwitch_law newE s)
  | rebindRecorded newE => exact exec_same_of_law (execRebindRecorded_law newE s)
  | keyGenerate h slot rsv word => exact exec_same_of_law (execKeyGenerate_law h slot rsv word s)
  | keyDerive h slot rsv word rest => exact exec_same_of_law (execKeyDerive_law h slot rsv word rest s)
  | keyImport h slot rsv word rest => exact exec_same_of_law (execKeyImport_law h slot rsv word rest s)
  | keyDestroy h arg => exact exec_same_of_law (execKeyDestroy_law h arg s)
  | keySlotErased slot => exact exec_same_of_law (execKeySlotErased_law slot s)
  | csrSubjectWrite h data => exact exec_same_of_law (execCsrSubjectWrite_law h data s)
  | remaskPass late => exact exec_same_of_law (execRemaskPass_law late s)
  | entropyFail => exact exec_same_of_law (execEntropyFail_law s)
  | entropyRecover => exact exec_same_of_law (execEntropyRecover_law s)
  | keyRequest slot engine use => exact exec_same_of_law (execKeyRequest_law slot engine use s)
  | svnAdvance h v => exact exec_same_of_law (execSvnAdvance_law h v s)
  | accountTopup h arg => exact exec_same_of_law (execAccountTopup_law h arg s)
  | civilTimeSet h arg => exact exec_same_of_law (execCivilTimeSet_law h arg s)
  | dropRest h arg => exact exec_same_of_law (execDropRest_law h arg s)
  | flush h arg => exact exec_same_of_law (execFlush_law h arg s)
  | flushAtBoundary => exact exec_same_of_law (execFlushAtBoundary_law s)
  | modeWordWrite h v => exact exec_same_of_law (execModeWordWrite_law h v s)
  | vaultEntry step => exact exec_same_of_law (execVaultEntry_law step s)
  | groupPark g => exact exec_same_of_law (execGroupPark_law g s)
  | outletContactorDelayEnd o => exact exec_same_of_law (execOutletContactorDelayEnd_law o s)
  | classArrive c => exact exec_same_of_law (execClassArrive_law c s)
  | forcedStop => exact exec_same_of_law (execForcedStop_law s)
  | engineRestoreDone c => exact exec_same_of_law (execEngineRestoreDone_law c s)
  | limpEnChange asserted => exact exec_same_of_law (execLimpEnChange_law asserted s)
  | paceMeasure chains => exact exec_same_of_law (execPaceMeasure_law chains s)
  | ensignLatClear h v => exact exec_same_of_law (execEnsignLatClear_law h v s)
  | refclkLost => exact exec_same_of_law (execRefclkLost_law s)
  | pllUnlock => exact exec_same_of_law (execPllUnlock_law s)
  | pllRelock => exact exec_same_of_law (execPllRelock_law s)
  | laneClockLost island => exact exec_same_of_law (execLaneClockLost_law island s)
  | parityError region level block cell second => exact exec_same_of_law (execParityError_law region level block cell second s)
  | ensignSingleBitError region level block cell => exact exec_same_of_law (execEnsignSingleBitError_law region level block cell s)
  | ensignUncorrectable region block cell => exact exec_same_of_law (execEnsignUncorrectable_law region block cell s)
  | missingEndMark region block cell => exact exec_same_of_law (execMissingEndMark_law region block cell s)
  | cellStallTimeout region block cell => exact exec_same_of_law (execCellStallTimeout_law region block cell s)
  | blockStallTimeout region block => exact exec_same_of_law (execBlockStallTimeout_law region block s)
  | regionStallTimeout region => exact exec_same_of_law (execRegionStallTimeout_law region s)
  | chipStallTimeout => exact exec_same_of_law (execChipStallTimeout_law s)
  | periodBoundary leg => exact exec_same_of_law (execPeriodBoundary_law leg s)
  | virtualBoundary leg => exact exec_same_of_law (execVirtualBoundary_law leg s)
  | timeActiveEnd leg => exact exec_same_of_law (execTimeActiveEnd_law leg s)
  | endOff leg t => exact exec_same_of_law (execEndOff_law leg t s)
  | endOn leg t => exact exec_same_of_law (execEndOn_law leg t s)
  | onMaxHit leg => exact exec_same_of_law (execOnMaxHit_law leg s)
  | swnRegistered leg level t => exact exec_same_of_law (execSwnRegistered_law leg level t s)
  | dtMaxExpiry leg => exact exec_same_of_law (execDtMaxExpiry_law leg s)
  | syncSlot leg => exact exec_same_of_law (execSyncSlot_law leg s)
  | syncInPulse g t widthNs => exact exec_same_of_law (execSyncInPulse_law g t widthNs s)
  | syncLost g => exact exec_same_of_law (execSyncLost_law g s)
  | overrideWrite h leg v t => exact exec_same_of_law (execOverrideWrite_law h leg v t s)
  | armHoldWrite h g mask t => exact exec_same_of_law (execArmHoldWrite_law h g mask t s)
  | armRelease h g mask t => exact exec_same_of_law (execArmRelease_law h g mask t s)
  | fltNAssert leg low widthNs => exact exec_same_of_law (execFltNAssert_law leg low widthNs s)
  | faultClear h g mask => exact exec_same_of_law (execFaultClear_law h g mask s)
  | countClear h g mask => exact exec_same_of_law (execCountClear_law h g mask s)
  | cmdSilenceTimeout leg => exact exec_same_of_law (execCmdSilenceTimeout_law leg s)
  | loopSample e t vin vout pin => exact exec_same_of_law (execLoopSample_law e t vin vout pin s)
  | edgeSample leg t count => exact exec_same_of_law (execEdgeSample_law leg t count s)
  | setpointDelivery g t => exact exec_same_of_law (execSetpointDelivery_law g t s)
  | setpFault g => exact exec_same_of_law (execSetpFault_law g s)
  | setpFaultClear g => exact exec_same_of_law (execSetpFaultClear_law g s)
  | ntcSample leg ohms => exact exec_same_of_law (execNtcSample_law leg ohms s)
  | sensorValidReturn leg => exact exec_same_of_law (execSensorValidReturn_law leg s)
  | shedDecision g => exact exec_same_of_law (execShedDecision_law g s)
  | shedWindowClose g => exact exec_same_of_law (execShedWindowClose_law g s)
  | claimUpdate o => exact exec_same_of_law (execClaimUpdate_law o s)
  | epochMark ring m => exact exec_same_of_law (execEpochMark_law ring m s)
  | epochBoundary => exact exec_same_of_law (execEpochBoundary_law s)
  | localEpochBoundary => exact exec_same_of_law (execLocalEpochBoundary_law s)
  | claimBlockInsert => exact exec_same_of_law (execClaimBlockInsert_law s)
  | waveBlockReceive src payload => exact exec_same_of_law (execWaveBlockReceive_law src payload s)
  | closeMark ring hops epoch ns => exact exec_same_of_law (execCloseMark_law ring hops epoch ns s)
  | waveFreeze => exact exec_same_of_law (execWaveFreeze_law s)
  | allocCalcDone ns => exact exec_same_of_law (execAllocCalcDone_law ns s)
  | ringIsolated => exact exec_same_of_law (execRingIsolated_law s)
  | markLaunch cold => exact exec_same_of_law (execMarkLaunch_law cold s)
  | hoistSuccession => exact exec_same_of_law (execHoistSuccession_law s)
  | slotReceive ring delim chars ns => exact exec_same_of_law (execSlotReceive_law ring delim chars ns s)
  | ownEnsignRelease ring => exact exec_same_of_law (execOwnEnsignRelease_law ring s)
  | portStop src port epoch => exact exec_same_of_law (execPortStop_law src port epoch s)
  | groupLoss src port lost => exact exec_same_of_law (execGroupLoss_law src port lost s)
  | groupLossSend g legs => exact exec_same_of_law (execGroupLossSend_law g legs s)
  | dictRequestFrame f => exact exec_same_of_law (execDictRequestFrame_law f s)
  | dictResponseFrame node => exact exec_same_of_law (execDictResponseFrame_law node s)
  | pennantRecordsFrame f => exact exec_same_of_law (execPennantRecordsFrame_law f s)
  | streamerRecordsFrame f => exact exec_same_of_law (execStreamerRecordsFrame_law f s)
  | firmwareDataFrame f => exact exec_same_of_law (execFirmwareDataFrame_law f s)
  | join f => exact exec_same_of_law (execJoin_law f s)
  | joinSend => exact exec_same_of_law (execJoinSend_law s)
  | joinRetry => exact exec_same_of_law (execJoinRetry_law s)
  | leave f => exact exec_same_of_law (execLeave_law f s)
  | leaveSend => exact exec_same_of_law (execLeaveSend_law s)
  | roster f => exact exec_same_of_law (execRoster_law f s)
  | neighbourChange f => exact exec_same_of_law (execNeighbourChange_law f s)
  | evict f => exact exec_same_of_law (execEvict_law f s)
  | rosterEvict h v => exact exec_same_of_law (execRosterEvict_law h v s)
  | wrap ring => exact exec_same_of_law (execWrap_law ring s)
  | unwrap ring => exact exec_same_of_law (execUnwrap_law ring s)
  | bypForceRelease h => exact exec_same_of_law (execBypForceRelease_law h s)
  | bypForceHold h => exact exec_same_of_law (execBypForceHold_law h s)
  | bypHoldDrive => exact exec_same_of_law (execBypHoldDrive_law s)
  | pairLaneUp lane => exact exec_same_of_law (execPairLaneUp_law lane s)
  | pairLaneDown lane => exact exec_same_of_law (execPairLaneDown_law lane s)
  | pilotStateChange o level => exact exec_same_of_law (execPilotStateChange_law o level s)
  | ppChange o mv => exact exec_same_of_law (execPpChange_law o mv s)
  | slacMatch o atten => exact exec_same_of_law (execSlacMatch_law o atten s)
  | slacFail o => exact exec_same_of_law (execSlacFail_law o s)
  | sdpRequest o => exact exec_same_of_law (execSdpRequest_law o s)
  | tlsHandshake o hello => exact exec_same_of_law (execTlsHandshake_law o hello s)
  | appProtocolHandshake o entries => exact exec_same_of_law (execAppProtocolHandshake_law o entries s)
  | sessionSetup o evcc => exact exec_same_of_law (execSessionSetup_law o evcc s)
  | serviceDiscovery o => exact exec_same_of_law (execServiceDiscovery_law o s)
  | serviceSelection o bpt => exact exec_same_of_law (execServiceSelection_law o bpt s)
  | authorization o emaid chain => exact exec_same_of_law (execAuthorization_law o emaid chain s)
  | authWrite h o v => exact exec_same_of_law (execAuthWrite_law h o v s)
  | authTimeout o => exact exec_same_of_law (execAuthTimeout_law o s)
  | chargeParameterDiscovery o maxV => exact exec_same_of_law (execChargeParameterDiscovery_law o maxV s)
  | scheduleExchange o => exact exec_same_of_law (execScheduleExchange_law o s)
  | cableCheckRequest o => exact exec_same_of_law (execCableCheckRequest_law o s)
  | cableCheckJudged o imdOk duty => exact exec_same_of_law (execCableCheckJudged_law o imdOk duty s)
  | chkTimeout o => exact exec_same_of_law (execChkTimeout_law o s)
  | preCharge o target => exact exec_same_of_law (execPreCharge_law o target s)
  | pchTimeout o => exact exec_same_of_law (execPchTimeout_law o s)
  | powerDelivery o start => exact exec_same_of_law (execPowerDelivery_law o start s)
  | chargeLoopRequest o error cur v p di dp => exact exec_same_of_law (execChargeLoopRequest_law o error cur v p di dp s)
  | weldingDetection o => exact exec_same_of_law (execWeldingDetection_law o s)
  | sessionStopReq o => exact exec_same_of_law (execSessionStopReq_law o s)
  | meteringReceipt o body => exact exec_same_of_law (execMeteringReceipt_law o body s)
  | certificateRequest o body => exact exec_same_of_law (execCertificateRequest_law o body s)
  | certResWrite h o data => exact exec_same_of_law (execCertResWrite_law h o data s)
  | certResTimeout o => exact exec_same_of_law (execCertResTimeout_law o s)
  | unknownMessage o => exact exec_same_of_law (execUnknownMessage_law o s)
  | feedingGroupsParked o => exact exec_same_of_law (execFeedingGroupsParked_law o s)
  | estopOpenExpiry o => exact exec_same_of_law (execEstopOpenExpiry_law o s)
  | contactorFeedback o neg high => exact exec_same_of_law (execContactorFeedback_law o neg high s)
  | ctrTimeout o neg => exact exec_same_of_law (execCtrTimeout_law o neg s)
  | imdFault o => exact exec_same_of_law (execImdFault_law o s)
  | outletFaultClear h o v => exact exec_same_of_law (execOutletFaultClear_law h o v s)
  | coolingStep o ohms pulses us ns => exact exec_same_of_law (execCoolingStep_law o ohms pulses us ns s)
  | flowLost o => exact exec_same_of_law (execFlowLost_law o s)
  | inputValidReturn o input => exact exec_same_of_law (execInputValidReturn_law o input s)
  | coolLoopSilent o => exact exec_same_of_law (execCoolLoopSilent_law o s)
  | lsOnWrite h ch v => exact exec_same_of_law (execLsOnWrite_law h ch v s)
  | lsClear h ch v => exact exec_same_of_law (execLsClear_law h ch v s)
  | shortTrip ch => exact exec_same_of_law (execShortTrip_law ch s)
  | overloadTrip ch => exact exec_same_of_law (execOverloadTrip_law ch s)
  | thermalTrip ch => exact exec_same_of_law (execThermalTrip_law ch s)
  | inrushWindowEnd ch short => exact exec_same_of_law (execInrushWindowEnd_law ch short s)
  | lsRetry ch => exact exec_same_of_law (execLsRetry_law ch s)
  | curtailEnd ch => exact exec_same_of_law (execCurtailEnd_law ch s)
  | retriesReload ch => exact exec_same_of_law (execRetriesReload_law ch s)
  | vsLsOutOfRange high => exact exec_same_of_law (execVsLsOutOfRange_law high s)
  | vsLsRestored => exact exec_same_of_law (execVsLsRestored_law s)
  | pkgCurrentCheck vsLs currents => exact exec_same_of_law (execPkgCurrentCheck_law vsLs currents s)
  | openLoad ch below => exact exec_same_of_law (execOpenLoad_law ch below s)
  | channelThermalWarning ch rising t => exact exec_same_of_law (execChannelThermalWarning_law ch rising t s)
  | failsafeTrigger silent => exact exec_same_of_law (execFailsafeTrigger_law silent s)
  | fsWaitEnd ch => exact exec_same_of_law (execFsWaitEnd_law ch s)
  | heartbeatWord framed seq chk sinceMs => exact exec_same_of_law (execHeartbeatWord_law framed seq chk sinceMs s)
  | hbMaxExpiry => exact exec_same_of_law (execHbMaxExpiry_law s)
  | wdRelease h v => exact exec_same_of_law (execWdRelease_law h v s)
  | limpInChange pin level held10ms => exact exec_same_of_law (execLimpInChange_law pin level held10ms s)
  | metrologySample c v cur => exact exec_same_of_law (execMetrologySample_law c v cur s)
  | metrologyPublish => exact exec_same_of_law (execMetrologyPublish_law s)
  | mscrClockLost e => exact exec_same_of_law (execMscrClockLost_law e s)
  | mscrClockReturn e => exact exec_same_of_law (execMscrClockReturn_law e s)
  | streamStuck c cur => exact exec_same_of_law (execStreamStuck_law c cur s)
  | demandBudgetDelivery e => exact exec_same_of_law (execDemandBudgetDelivery_law e s)
  | sealLoopSample ohms => exact exec_same_of_law (execSealLoopSample_law ohms s)
  | legalRecordWritten => exact exec_same_of_law (execLegalRecordWritten_law s)
  | meterEngineFenced e => exact exec_same_of_law (execMeterEngineFenced_law e s)
  | billingBoundary t => exact exec_same_of_law (execBillingBoundary_law t s)
  | registerCommit => exact exec_same_of_law (execRegisterCommit_law s)
  | friendlyHoursChange => exact exec_same_of_law (execFriendlyHoursChange_law s)
  | acctIdWrite h v => exact exec_same_of_law (execAcctIdWrite_law h v s)
  | dmdReset h v => exact exec_same_of_law (execDmdReset_law h v s)
  | logAckSeqWrite h v => exact exec_same_of_law (execLogAckSeqWrite_law h v s)
  | pennantRaise source event prio detailKind before extra => exact exec_same_of_law (execPennantRaise_law source event prio detailKind before extra s)
  | traceRaise kind inst message length => exact exec_same_of_law (execTraceRaise_law kind inst message length s)
  | eqWordRead h => exact exec_same_of_law (execEqWordRead_law h s)
  | eqPacketRead h => exact exec_same_of_law (execEqPacketRead_law h s)
  | eqClear h v => exact exec_same_of_law (execEqClear_law h v s)
  | queuePacketWhole => exact exec_same_of_law (execQueuePacketWhole_law s)
  | coalWindowEnd source event => exact exec_same_of_law (execCoalWindowEnd_law source event s)
  | gapDue => exact exec_same_of_law (execGapDue_law s)
  | ringTokenGain => exact exec_same_of_law (execRingTokenGain_law s)
  | ringOutboxSend waitedMs => exact exec_same_of_law (execRingOutboxSend_law waitedMs s)
  | traceOutboxSend => exact exec_same_of_law (execTraceOutboxSend_law s)
  | renewSend => exact exec_same_of_law (execRenewSend_law s)
  | standbySend => exact exec_same_of_law (execStandbySend_law s)
  | leaseLapse => exact exec_same_of_law (execLeaseLapse_law s)
  | renew t us => exact exec_same_of_law (execRenew_law t us s)
  | release t => exact exec_same_of_law (execRelease_law t s)
  | claim t => exact exec_same_of_law (execClaim_law t s)
  | standby t => exact exec_same_of_law (execStandby_law t s)
  | takeover gap => exact exec_same_of_law (execTakeover_law gap s)
  | claimSend => exact exec_same_of_law (execClaimSend_law s)
  | driverConflict => exact exec_same_of_law (execDriverConflict_law s)
  | splitDetect => exact exec_same_of_law (execSplitDetect_law s)
  | mirrorItem item => exact exec_same_of_law (execMirrorItem_law item s)
  | vonMasterSlot => exact exec_same_of_law (execVonMasterSlot_law s)
  | vonReplyJudged paths word => exact exec_same_of_law (execVonReplyJudged_law paths word s)
  | vonTxBoxWrite h data => exact exec_same_of_law (execVonTxBoxWrite_law h data s)
  | updOpen h => exact exec_same_of_law (execUpdOpen_law h s)
  | updChunkWrite h data => exact exec_same_of_law (execUpdChunkWrite_law h data s)
  | updClose h => exact exec_same_of_law (execUpdClose_law h s)
  | updVerifyDone => exact exec_same_of_law (execUpdVerifyDone_law s)
  | updCancel h => exact exec_same_of_law (execUpdCancel_law h s)
  | reboot h => exact exec_same_of_law (execReboot_law h s)
  | slotConfirm h mask => exact exec_same_of_law (execSlotConfirm_law h mask s)
  | serviceRequestFrame mosi => exact exec_same_of_law (execServiceRequestFrame_law mosi s)
  | serviceResponseFrame clocked => exact exec_same_of_law (execServiceResponseFrame_law clocked s)
  | serviceFrameFault kind => exact exec_same_of_law (execServiceFrameFault_law kind s)
  | extest => exact exec_same_of_law (execExtest_law s)
  | samplePreload pins preload => exact exec_same_of_law (execSamplePreload_law pins preload s)
  | idcode => exact exec_same_of_law (execIdcode_law s)
  | clamp => exact exec_same_of_law (execClamp_law s)
  | highz => exact exec_same_of_law (execHighz_law s)
  | bypass code => exact exec_same_of_law (execBypass_law code s)
  | tapLeaveReset => exact exec_same_of_law (execTapLeaveReset_law s)
  | trstNAssert low => exact exec_same_of_law (execTrstNAssert_law low s)
  | powerOnResetRelease => exact exec_same_of_law (execPowerOnResetRelease_law s)
  | boot b => exact exec_same_of_law (execBoot_law b s)
  | resetN low => exact exec_same_of_law (execResetN_law low s)
  | resetRequest h v => exact exec_same_of_law (execResetRequest_law h v s)
  | lockstep => exact exec_same_of_law (execLockstep_law s)
  | watchdog => exact exec_same_of_law (execWatchdog_law s)
  | testmodeHigh high => exact exec_same_of_law (execTestmodeHigh_law high s)
  | pfw work => exact exec_same_of_law (execPfw_law work s)
  | pfwRelease => exact exec_same_of_law (execPfwRelease_law s)
  | mainsLost first out => exact exec_same_of_law (execMainsLost_law first out s)
  | mainsReturned => exact exec_same_of_law (execMainsReturned_law s)
  | vbatLow => exact exec_same_of_law (execVbatLow_law s)
  | vaultBrownOut => exact exec_same_of_law (execVaultBrownOut_law s)
  | tamperLoopSample loop ohms => exact exec_same_of_law (execTamperLoopSample_law loop ohms s)
  | vevAckWrite h v => exact exec_same_of_law (execVevAckWrite_law h v s)
  | wake source => exact exec_same_of_law (execWake_law source s)
  | rtcStop => exact exec_same_of_law (execRtcStop_law s)
  | rtcRestart => exact exec_same_of_law (execRtcRestart_law s)
  | mtxFbChange fb level => exact exec_same_of_law (execMtxFbChange_law fb level s)
  | routeFbTimeout g => exact exec_same_of_law (execRouteFbTimeout_law g s)
  | dtMinExpiry leg => exact exec_same_of_law (execDtMinExpiry_law leg s)
  | periodMinExpiry leg => exact exec_same_of_law (execPeriodMinExpiry_law leg s)
  | acceptanceMinimumEnd leg => exact exec_same_of_law (execAcceptanceMinimumEnd_law leg s)
  | oePeerChange high => exact exec_same_of_law (execOePeerChange_law high s)
  | imdPwmEdgeLost o => exact exec_same_of_law (execImdPwmEdgeLost_law o s)
  | partnerLeaseExpired => exact exec_same_of_law (execPartnerLeaseExpired_law s)
/-- Settles O4: what `Same` says of the footprint's parts, field by field and range by range. -/
theorem commandsKeepTheirFootprint : Obligations.CommandsKeepTheirFootprint := by
  intro c s t ht
  obtain ⟨t', ht', hs⟩ := exec_same c s
  obtain rfl : t' = t := by rw [ht'] at ht; exact Host.Outcome.next.inj ht
  refine ⟨fun x hx => hs.field (leavesPart_field hx), fun r hr k hl hu hrx hrj => ?_⟩
  exact hs.span (footprint_kept_partSpans c r hr) (fun _ => leavesPart_span hr) hl hu (by simp [tally, hrx, hrj])

end Sys2Proof.Machine
end

section
/-! Proofs of the statements on transactions: framing, the checks of a write, staging and segments. -/

namespace Sys2Proof.Machine

/-! ## Framing (R42) -/

theorem framingOk_eq_false_iff (rq : Request) : framingOk rq = false ↔
    (rq.opcode = 0 ∨ 4 < rq.opcode ∨ 1024 < rq.length ∨ rq.length ≠ rq.data.length ∨
     ((rq.opcode = 1 ∨ rq.opcode = 3) ∧ rq.length ≠ 0) ∨ ((rq.opcode = 1 ∨ rq.opcode = 2) ∧ rq.offset ≠ 0)) := by
  rw [← Bool.not_eq_true]
  simp only [framingOk, Bool.and_eq_true, Bool.not_eq_true', Bool.and_eq_false_iff, Bool.or_eq_false_iff, decide_eq_true_eq,
    beq_iff_eq, beq_eq_false_iff_ne, bne_eq_false_iff_eq]
  omega

/-- A request that fails the framing checks is answered TYPE_ERROR, and nothing else happens. -/
theorem State.transact_of_misframed {s : State} {src : Src} {rq : Request} (ha : s.answersTo src = true)
    (hf : framingOk rq = false) : s.transact src rq = s.answer src rq.opcode rq.tag .typeError [] := by
  have hc : s.carryOut src rq = (s, .typeError, []) := by simp [State.carryOut, hf]
  simp [State.transact, ha, hc]

/-- Settles O7: the checks by their terms, and the answer by what it leaves alone. -/
theorem framingRejected : Obligations.FramingRejected := by
  refine ⟨framingOk_eq_false_iff, fun s src rq ha hf => ⟨_, rfl, ?_⟩⟩
  rw [State.transact_of_misframed ha hf]
  exact ⟨State.answer_last _ _ _ _ _ _, fun k hrx hrj => State.get_answer _ _ _ _ _ _ hrx hrj, by simp⟩

/-! ## WRITE (R42) -/

/-- A WRITE of one address is answered with what `writeWhole` gives. -/
theorem State.transact_writeOf {s : State} {h : Hdr} (ha : s.answersTo h.src = true) {k : Nat} (hk : k < 16777216)
    {data : List Byte} (hl : data.length ≤ 1024) :
    s.transact h.src (writeOf h.tag k data) = (s.writeWhole h.src k data).1.answerW h (s.writeWhole h.src k data).2 := by
  have hf : framingOk (writeOf h.tag k data) = true := by simp [framingOk, writeOf, hl]
  have hc : s.carryOut h.src (writeOf h.tag k data) =
      ((s.writeWhole h.src k data).1, (s.writeWhole h.src k data).2, []) := by
    rw [State.carryOut, hf, reqKey_writeOf data hk]; rfl
  rw [State.transact, ha, hc]; rfl

section
variable {s : State} {src : Src} {k : Nat} {data : List Byte} {r : Row}

theorem State.writeWhole_of_error {e : Status} (hc : s.writeCheck src k data = .error e) :
    s.writeWhole src k data = (s, e) := by
  unfold State.writeWhole
  rw [hc]
  cases s.rowFor k <;> rfl

theorem State.writeWhole_of_ok {v : Val} (hr : s.rowFor k = some r) (hc : s.writeCheck src k data = .ok v) :
    s.writeWhole src k data = s.writeEffect src r k v := by
  unfold State.writeWhole
  rw [hr, hc]

theorem State.writeCheck_of_gate_error {e : Status} (hg : s.writeGate src k = .error e) :
    s.writeCheck src k data = .error e := by
  unfold State.writeCheck
  rw [hg]

theorem State.writeGate_of_not_mayWrite (hr : s.rowFor k = some r) (hm : s.mayWrite src = false) :
    s.writeGate src k = .error .notAuthorised := by
  simp [State.writeGate, hr, hm]

theorem State.writeGate_of_readOnly (hr : s.rowFor k = some r) (hm : s.mayWrite src = true) (hro : r.acc = .ro) :
    s.writeGate src k = .error .accessError := by
  simp [State.writeGate, hr, hm, State.accessOk, hro]

/-- The gate gives the row of the element. -/
theorem State.rowFor_of_gate (hg : s.writeGate src k = .ok r) : s.rowFor k = some r := by
  unfold State.writeGate at hg
  split at hg
  · cases hg
  · rename_i r' hr
    split at hg
    · cases hg
    · split at hg
      · cases hg
      · rw [hr, Except.ok.inj hg]

/-- A write that passes the checks passed the gate, and its value is what the data carries. -/
theorem State.writeCheck_ok {v : Val} (hr : s.rowFor k = some r) (hc : s.writeCheck src k data = .ok v) :
    s.writeGate src k = .ok r ∧ v = decodeVal r.ty data := by
  unfold State.writeCheck at hc
  cases hg : s.writeGate src k with
  | error e => rw [hg] at hc; cases hc
  | ok r' =>
    obtain rfl : r = r' := Option.some.inj (hr.symm.trans (State.rowFor_of_gate hg))
    rw [hg] at hc
    refine ⟨rfl, ?_⟩
    dsimp only at hc
    repeat' split at hc
    all_goals cases hc <;> rfl

end

/-- A WRITE that fails a check is answered with its status, and nothing else happens. -/
theorem exec_write_of_error {s : State} {h : Hdr} (ha : s.answersTo h.src = true) {k : Nat} (hk : k < 16777216)
    {data : List Byte} (hl : data.length ≤ 1024) {e : Status} (hc : s.writeCheck h.src k data = .error e) :
    exec (.write h.src (writeOf h.tag k data)) s = .next (s.answerW h e) := by
  change Host.Outcome.next _ = _
  rw [State.transact_writeOf ha hk hl, State.writeWhole_of_error hc]

/-- Settles O13: the gate tries authority before access, and a write it stops is answered without effect. -/
theorem writesGated : Obligations.WritesGated := by
  intro s h k data r ha hk hl hr hrx hrj
  have stopped {e : Status} (hg : s.writeGate h.src k = .error e) :
      ∃ t, exec (.write h.src (writeOf h.tag k data)) s = .next t ∧ Answered t h e ∧ t.get k = s.get k :=
    ⟨_, exec_write_of_error ha hk hl (State.writeCheck_of_gate_error hg), answered_answerW _ _ _, State.get_answerW _ _ _ hrx hrj⟩
  exact ⟨fun hm => stopped (State.writeGate_of_not_mayWrite hr hm),
    fun hm hro => stopped (State.writeGate_of_readOnly hr hm hro)⟩

/-! ## Staging (R49, R50) -/

/-- An entry that was put in is there, replaced or added. -/
theorem mem_stagePut (l : List (Nat × Val)) (k : Nat) (v : Val) : (k, v) ∈ stagePut l k v := by
  unfold stagePut
  split
  · rename_i hany
    obtain ⟨e, he, hek⟩ := List.any_eq_true.mp hany
    exact List.mem_map.mpr ⟨e, he, by simp [hek]⟩
  · simp

@[simp] theorem State.setStaging_staging (s : State) (l : List (Nat × Val)) : (s.setStaging l).dict.staging = l := rfl

/-- Setting the staging area moves no element but its two readbacks. -/
theorem State.get_setStaging (s : State) (l : List (Nat × Val)) {k : Nat} (hc : k ≠ Reg.STAGE_COUNT) (hb : k ≠ Reg.STAGE_BYTES) :
    (s.setStaging l).get k = s.get k := by
  simp only [State.setStaging, State.get_putN, if_neg hc, if_neg hb]
  rfl

theorem State.nat_setStaging_count (s : State) (l : List (Nat × Val)) : (s.setStaging l).nat Reg.STAGE_COUNT = l.length := by
  rw [State.setStaging, State.nat_putN, if_neg (by decide), State.nat_putN, if_pos rfl]

/-- A WRITE of an object whose effect is at commit is answered with what staging its value gives. -/
theorem exec_write_staged {s : State} {h : Hdr} (ha : s.answersTo h.src = true) {k : Nat} (hk : k < 16777216)
    {data : List Byte} (hl : data.length ≤ 1024) {r : Row} {v : Val} (hn : cmdOfKey k = none) (hr : s.rowFor k = some r)
    (he : r.eff = .commit) (hc : s.writeCheck h.src k data = .ok v) :
    exec (.write h.src (writeOf h.tag k data)) s = .next ((s.stageWrite k v).1.answerW h (s.stageWrite k v).2) := by
  have hw : s.writeEffect h.src r k v = s.stageWrite k v := by simp [State.writeEffect, hn, he]
  change Host.Outcome.next _ = _
  rw [State.transact_writeOf ha hk hl, State.writeWhole_of_ok hr hc, hw]

/-! ## Segments (R499) -/

/-- A framed WRITE_SEG is answered with what `writePart` gives. -/
theorem State.transact_writeSeg {s : State} {src : Src} {rq : Request} (ha : s.answersTo src = true)
    (hf : framingOk { rq with opcode := 4 } = true) :
    s.transact src { rq with opcode := 4 } = (s.writePart src (reqKey rq) rq.offset rq.data).1.answer src 4 rq.tag
      (s.writePart src (reqKey rq) rq.offset rq.data).2 [] := by
  have hc : s.carryOut src { rq with opcode := 4 } = ((s.writePart src (reqKey rq) rq.offset rq.data).1,
      (s.writePart src (reqKey rq) rq.offset rq.data).2, []) := by
    rw [State.carryOut, hf]; rfl
  simp [State.transact, ha, hc]

/-- The gate does not look at the segment buffer. -/
theorem State.writeGate_segDrop (s : State) (src : Src) (k off : Nat) :
    (s.segDrop k off).writeGate src k = s.writeGate src k := by
  unfold State.segDrop
  split
  · split <;> rfl
  · rfl

/-- A segment at OFFSET 0 of a BLOB that passes the gate begins the object anew. -/
theorem State.writePart_first {s : State} {src : Src} {k : Nat} {r : Row} (hg : s.writeGate src k = .ok r)
    (ht : r.ty = .blob) (data : List Byte) :
    s.writePart src k 0 data = (s.segDrop k 0).segFirst src r k data := by
  simp [State.writePart, State.writeGate_segDrop, hg, ht]

section
variable {s : State} {src : Src} {r : Row} {k : Nat} {data : List Byte}

theorem State.segFirst_gathers (h2 : 2 ≤ data.length) (hmax : leAt data 0 2 ≤ blobMax r)
    (hpart : data.length < 2 + leAt data 0 2) :
    s.segFirst src r k data = (s.setSeg (some ⟨k, 2 + leAt data 0 2, data⟩), .ok) := by
  have hfits : ¬(data.length < 2 || blobMax r < leAt data 0 2) = true := by
    simp only [Bool.or_eq_true, decide_eq_true_eq]
    omega
  rw [State.segFirst, if_neg hfits, State.segAdd, if_neg (Nat.not_lt.mpr (Nat.le_of_lt hpart)), if_pos hpart]

theorem State.segFirst_too_long (hmax : blobMax r < leAt data 0 2) :
    s.segFirst src r k data = (s.setSeg none, .rangeError) := by
  simp [State.segFirst, hmax]

end

/-- Settles O9: the WRITEs through `stageWrite`, the WRITE_SEGs through the first segment. -/
theorem writesStagedAndSegmented : Obligations.WritesStagedAndSegmented := by
  refine ⟨fun s h k data r v ha hk hl hn hr he hsc hsb hrx hrj hc => ⟨fun hfits => ?_, fun hfits => ?_⟩,
    fun s src rq r ha hf h0 hg ht h2 => ⟨fun hmax hpart => ?_, fun hmax => ?_⟩⟩
  · refine ⟨_, exec_write_staged ha hk hl hn hr he hc, ?_⟩
    have hw : s.stageWrite k v = (s.setStaging (stagePut s.dict.staging k v), .ok) := by simp [State.stageWrite, hfits]
    rw [hw]
    refine ⟨answered_answerW _ _ _, by simp, by simpa using mem_stagePut _ k v, ?_, ?_⟩
    · rw [State.nat_answerW _ _ _ (by decide) (by decide), State.nat_setStaging_count]
      simp
    · rw [State.get_answerW _ _ _ hrx hrj, State.get_setStaging _ _ hsc hsb]
  · refine ⟨_, exec_write_staged ha hk hl hn hr he hc, ?_⟩
    have hw : s.stageWrite k v = (s, .stageFull) := by simp [State.stageWrite, hfits]
    rw [hw]
    exact ⟨answered_answerW _ _ _, by simp, State.get_answerW _ _ _ hrx hrj⟩
  · refine ⟨_, rfl, ?_⟩
    rw [State.transact_writeSeg ha hf, h0, State.writePart_first hg ht, State.segFirst_gathers h2 hmax hpart]
    exact ⟨State.answer_last _ _ _ _ _ _, by rw [State.answer_dict_seg]; rfl⟩
  · refine ⟨_, rfl, ?_⟩
    rw [State.transact_writeSeg ha hf, h0, State.writePart_first hg ht, State.segFirst_too_long hmax]
    exact State.answer_last _ _ _ _ _ _

end Sys2Proof.Machine
end

section
/-! Proofs of the statements on the dictionary's own commands: ABORT, ACK, STAGE_DISCARD, COMMIT and CONFIG_ERASE. -/

namespace Sys2Proof.Machine

/-! ## The elements of a command (R58, R64) -/

theorem rowFor_ctrl {s : State} {c : CmdId} {r : Row} (h : s.rowFor (cmdBase c + 3) = some r) : r.ty = .u8 := by
  have hrow : s.rowFor (cmdBase c + 3) = rowAt (cmdBase c + 3) := s.rowFor_of_present (by cases c <;> decide)
  have hty : (rowAt (cmdBase c + 3)).map (·.ty) = some .u8 := by cases c <;> decide
  rw [← hrow, h] at hty
  exact Option.some.inj hty

theorem cmdOfKey_ctrl (c : CmdId) :
    cmdOfKey (cmdBase c + 3) = some c ∧ keyE (cmdBase c + 3) = 3 ∧ cmdBase c + 3 < 16777216 := by
  cases c <;> decide

/-- The range of a CMD element is the argument layout of its command. -/
theorem rowFor_cmd_special {s : State} {c : CmdId} {r : Row} (h : s.rowFor (cmdBase c + 1) = some r) : r.rng = .special := by
  have hrng : (rowAt (cmdBase c + 1)).map (·.rng) = some .special := by cases c <;> decide
  rw [← (s.rowFor_cmdBase c).1, h] at hrng
  exact Option.some.inj hrng

@[simp] theorem State.res_answerW (s : State) (c : CmdId) (h : Hdr) (st : Status) : (s.answerW h st).res c = s.res c :=
  State.res_answer _ _ _ _ _ _ _

@[simp] theorem State.get_setRes (s : State) (c : CmdId) (x : Res) (k : Nat) : (s.setRes c x).get k = s.get k := rfl

/-! ## ABORT and ACK (R61, R62) -/

/-- An accepted write of CTRL aborts with 1 and acknowledges with any other value. -/
theorem State.writeWhole_ctrl {s : State} {h : Hdr} {c : CmdId} {n : Nat} (ha : Accepts s h (cmdBase c + 3) n) (hn : n < 256) :
    s.writeWhole h.src (cmdBase c + 3) (leBytes 1 n) = if n = 1 then s.abortCmd c else s.ackCmd c := by
  obtain ⟨-, r, v, hr, hc⟩ := ha
  obtain ⟨hcmd, hel, -⟩ := cmdOfKey_ctrl c
  have hd : dataOf r.ty.size n = leBytes 1 n := by
    rw [rowFor_ctrl hr]
    exact if_pos hn
  rw [hd] at hc
  have hv : v.int.toNat = n := by
    rw [(State.writeCheck_ok hr hc).2, rowFor_ctrl hr]
    exact leNat_leBytes 1 n hn
  rw [State.writeWhole_of_ok hr hc]
  simp [State.writeEffect, hcmd, State.writeCommand, hel, hv]

theorem exec_abort_accepted {s : State} {h : Hdr} {c : CmdId} (ha : Accepts s h (cmdBase c + 3) 1) :
    exec (.abort h c) s = .next ((s.abortCmd c).1.answerW h (s.abortCmd c).2) := by
  have hw := State.writeWhole_ctrl ha (by decide)
  change Host.Outcome.next (s.transact h.src (writeOf h.tag (cmdBase c + 3) (leBytes 1 1))) = _
  rw [State.transact_writeOf ha.1 (cmdOfKey_ctrl c).2.2 (by decide), hw, if_pos rfl]

theorem exec_ack_accepted {s : State} {h : Hdr} {c : CmdId} (ha : Accepts s h (cmdBase c + 3) 2) :
    exec (.ack h c) s = .next ((s.ackCmd c).1.answerW h (s.ackCmd c).2) := by
  have hw := State.writeWhole_ctrl ha (by decide)
  change Host.Outcome.next (s.transact h.src (writeOf h.tag (cmdBase c + 3) (leBytes 1 2))) = _
  rw [State.transact_writeOf ha.1 (cmdOfKey_ctrl c).2.2 (by decide), hw, if_neg (by decide)]

section
variable {s : State} {c : CmdId}

theorem State.abortCmd_of_completed (hs : (s.res c).status = .completed) :
    s.abortCmd c = (s.setRes c { s.res c with abortLate := true }, .ok) := by
  simp [State.abortCmd, hs]

theorem State.abortCmd_of_ended (hc : (s.res c).status ≠ .completed) (hp : (s.res c).status ≠ .pending) :
    s.abortCmd c = (s, .ok) := by
  unfold State.abortCmd
  split
  · exact absurd ‹_› hp
  · exact absurd ‹_› hc
  · rfl

/-- Only the four commands of R62 can be aborted while PENDING. -/
theorem State.abortCmd_of_pending (hs : (s.res c).status = .pending) (hsw : c ≠ .slotSwitch) (hb : c ≠ .bist)
    (hcal : c ≠ .calCapture) (hre : c ≠ .rehearsal) : s.abortCmd c = (s, .accessError) := by
  simp only [State.abortCmd, hs]
  unfold State.abortPending
  split
  · exact absurd rfl hsw
  · exact absurd rfl hb
  · exact absurd rfl hcal
  · exact absurd rfl hre
  · rfl

theorem State.ackCmd_of_pending (hs : (s.res c).status = .pending) : s.ackCmd c = (s, .busy) := by
  simp [State.ackCmd, hs]

theorem State.ackCmd_of_idle (hs : (s.res c).status = .idle) : s.ackCmd c = (s, .ok) := by
  simp [State.ackCmd, hs]

theorem State.ackCmd_of_final (hp : (s.res c).status ≠ .pending) (hi : (s.res c).status ≠ .idle) :
    s.ackCmd c = (s.setRes c { Res.reset with seq := (s.res c).seq }, .ok) := by
  unfold State.ackCmd
  split
  · exact absurd ‹_› hp
  · exact absurd ‹_› hi
  · rfl

end

/-- Settles O11: the two writes of CTRL by the state of the result. -/
theorem abortAndAckByResult : Obligations.AbortAndAckByResult := by
  refine ⟨fun s h c ha => ⟨_, exec_abort_accepted ha, fun hs => ?_, fun hc hp => ?_, fun hs hsw hb hcal hre => ?_⟩,
    fun s h c ha => ⟨_, exec_ack_accepted ha, fun hs => ?_, fun hs => ?_, fun hp hi => ?_⟩⟩
  · rw [State.abortCmd_of_completed hs]
    exact ⟨answered_answerW _ _ _, by simp⟩
  · rw [State.abortCmd_of_ended hc hp]
    exact ⟨answered_answerW _ _ _, State.res_answerW _ _ _ _⟩
  · rw [State.abortCmd_of_pending hs hsw hb hcal hre]
    exact ⟨answered_answerW _ _ _, State.res_answerW _ _ _ _⟩
  · rw [State.ackCmd_of_pending hs]
    exact ⟨answered_answerW _ _ _, State.res_answerW _ _ _ _⟩
  · rw [State.ackCmd_of_idle hs]
    exact ⟨answered_answerW _ _ _, State.res_answerW _ _ _ _⟩
  · rw [State.ackCmd_of_final hp hi]
    refine ⟨answered_answerW _ _ _, ?_⟩
    rw [State.res_answerW, State.res_setRes]
    rfl

/-! ## STAGE_DISCARD (R66) -/

theorem exec_stageDiscard_accepted {s : State} {h : Hdr} {arg : Nat} (ha : Accepts s h (cmdBase .stageDiscard + 1) arg) :
    exec (.stageDiscard h arg) s = .next ((s.startCmd .stageDiscard arg).stageDiscard.answerW h .ok) :=
  congrArg Host.Outcome.next (State.transact_cmd ha)

/-- Discarding moves no element but the staging area's readbacks. -/
theorem State.nat_stageDiscard (s : State) {k : Nat} (hc : k ≠ Reg.STAGE_COUNT) (hb : k ≠ Reg.STAGE_BYTES) :
    s.stageDiscard.nat k = s.nat k :=
  congrArg (fun v : Val => v.int.toNat) (s.get_setStaging [] hc hb)

theorem State.stageDiscard_res (s : State) : (s.stageDiscard.res .stageDiscard).status = .completed ∧
    (s.stageDiscard.res .stageDiscard).value = s.dict.staging.length := by
  simp [State.stageDiscard, State.completed, State.endCmd]

/-- Where a CMD write passes the gate and is not BUSY, a 32-bit argument outside the command's layout is answered RANGE_ERROR. -/
theorem State.writeCheck_of_bad_arg {s : State} {src : Src} {c : CmdId} {arg : Nat} {r : Row}
    (hg : s.writeGate src (cmdBase c + 1) = .ok r) (hp : s.isPending c = false) (hc : c ≠ .commit) (hlt : arg < 4294967296)
    (hbad : cmdArgOk c arg = false) : s.writeCheck src (cmdBase c + 1) (dataOf 4 arg) = .error .rangeError := by
  have hr := State.rowFor_of_gate hg
  obtain ⟨hcmd, hel, -⟩ := cmdOfKey_cmd c
  have hlen : (dataOf 4 arg).length = 4 := (dataOf_length 4 arg).mpr hlt
  have hty : typeOk r.ty (dataOf 4 arg) = true := by simp [rowFor_cmd hr, typeOk, Ty.size, hlen]
  have hval : decodeVal r.ty (dataOf 4 arg) = .num arg := by
    rw [rowFor_cmd hr, show dataOf 4 arg = leBytes 4 arg from if_pos hlt]
    exact congrArg (fun n : Nat => Val.num n) (leNat_leBytes 4 arg hlt)
  have hrange : s.rangeOk r (cmdBase c + 1) (.num arg) = false := by
    simp [State.rangeOk, rowFor_cmd_special hr, State.rangeSpecial, hcmd, Val.int, hbad]
  simp [State.writeCheck, hg, hcmd, hp, hc, hty, hval, hrange]

/-- Settles O12: the operation of an accepted command, and the argument check of one that is not. -/
theorem stageDiscardRule : Obligations.StageDiscardRule := by
  refine ⟨fun s h ha => ⟨_, exec_stageDiscard_accepted ha, ?_⟩, fun s h arg r ha hg hp h0 hlt => ?_⟩
  · obtain ⟨hst, hval⟩ := (s.startCmd .stageDiscard 0).stageDiscard_res
    have hkept {k : Nat} (hc : k ≠ Reg.STAGE_COUNT) (hb : k ≠ Reg.STAGE_BYTES) (hrx : k ≠ Reg.DICT_RX_COUNT)
        (hrj : k ≠ Reg.DICT_REJECT_COUNT) :
        ((s.startCmd .stageDiscard 0).stageDiscard.answerW h .ok).nat k = s.nat k := by
      rw [State.nat_answerW _ _ _ hrx hrj, State.nat_stageDiscard _ hc hb]
      rfl
    refine ⟨answered_answerW _ _ _, ?_, ?_, ?_, ?_, ?_, ?_, ?_, ?_, ?_, ?_, ?_, ?_⟩
    · rw [State.answerW_dict_staging]; rfl
    · rw [State.answerW_dict_seg]; rfl
    · rw [State.res_answerW]; exact hst
    · rw [State.res_answerW]; exact hval
    · rw [State.nat_answerW _ _ _ (by decide) (by decide)]; exact State.nat_setStaging_count _ []
    · rw [State.answerW_dict_commitSet]; rfl
    · rw [State.answerW_dict_journal]; rfl
    · rw [State.answerW_dict_journalled]; rfl
    · exact hkept (by decide) (by decide) (by decide) (by decide)
    · rw [State.answerW_dict_billHold]; rfl
    · exact hkept (by decide) (by decide) (by decide) (by decide)
    · exact hkept (by decide) (by decide) (by decide) (by decide)
  · have hc := State.writeCheck_of_bad_arg hg hp (by decide) hlt (by simpa [cmdArgOk] using h0)
    have hlen : (dataOf 4 arg).length = 4 := (dataOf_length 4 arg).mpr hlt
    refine ⟨s.answerW h .rangeError, ?_, answered_answerW _ _ _, by simp, by simp, by simp⟩
    exact exec_write_of_error ha (cmdOfKey_cmd .stageDiscard).2.2 (by omega) hc

end Sys2Proof.Machine
end

section
/-! Proof of the statement on COMMIT and CONFIG_ERASE: what starting, storing and applying a set do, and that nothing a commit sets
going marks the store blank. -/

namespace Sys2Proof.Machine

/-! ## What leaves the blank mark alone (R65) -/

/-- What leaves the dictionary's own state alone leaves the mark alone. -/
theorem Same.blank {s t : State} (h : Same (· == 21) s t) : t.dict.blank = s.dict.blank := by rw [h.dict rfl]

/-- A session that ends may complete SESSION_STOP, and touches nothing else of the dictionary's own state. -/
theorem State.endQuiet_blank (s : State) (o : Fin 4) : (s.endQuiet o).dict.blank = s.dict.blank := by
  have hstop : (s.stopDone o 0).dict.blank = s.dict.blank := by
    unfold State.stopDone
    split <;> rfl
  have hover : Same (· == 21) (s.stopDone o 0) (s.endQuiet o) := by simp [State.endQuiet]
  rw [hover.blank, hstop]

theorem State.normalStop_blank (s : State) (o : Fin 4) (cause : Option Nat) :
    (s.normalStop o cause).dict.blank = s.dict.blank := by
  unfold State.normalStop
  dsimp only
  split
  · exact s.endQuiet_blank o
  · split
    · exact Same.blank (by simp)
    · rfl

theorem State.outletsStop_blank (s : State) : s.outletsStop.dict.blank = s.dict.blank :=
  foldl_keeps (·.dict.blank) _ (fun st o => st.normalStop_blank o (some 5)) _ s

theorem State.outletsArrived_dict (s : State) : s.outletsArrived.dict = s.dict := by
  refine Same.dict (m := (· == 21)) ?_ rfl
  simp (maxDischargeDepth := 60) [State.outletsArrived, State.openOutlet]

theorem State.phasesArrived_dict (s : State) : s.phasesArrived.dict = s.dict := Same.dict (m := (· == 21)) (by simp) rfl
theorem State.burgeeFollows_dict (s : State) : s.burgeeFollows.dict = s.dict := Same.dict (m := (· == 21)) (by simp) rfl
theorem State.refreshTransit_dict (s : State) : s.refreshTransit.dict = s.dict := Same.dict (m := (· == 21)) (by simp) rfl

/-- A change of the word reaches the dictionary's own state only through the sessions it stops. -/
theorem State.classesTurn_blank (s : State) : s.classesTurn.dict.blank = s.dict.blank := by
  unfold State.classesTurn
  dsimp only
  rw [State.refreshTransit_dict, State.burgeeFollows_dict]
  repeat' split
  all_goals simp [State.phasesArrived_dict, State.outletsStop_blank, State.outletsArrived_dict]

theorem State.pairCommitted_blank (s : State) (old : Nat) : (s.pairCommitted old).dict.blank = s.dict.blank := by
  unfold State.pairCommitted
  dsimp only
  split
  · rfl
  · split
    · exact State.classesTurn_blank _
    · exact State.classesTurn_blank _

theorem State.ringKeyCommitted_blank (s : State) (oldSlot : Nat) : (s.ringKeyCommitted oldSlot).dict.blank = s.dict.blank := by
  unfold State.ringKeyCommitted
  dsimp only
  repeat' split
  all_goals rfl

/-- What a commit sets going before the events and the ring key follow it. -/
def State.committedFirst (s : State) (set : List (Nat × Val)) (oldSrc : List Nat) : State :=
  let s := s.legsCommitted set
  let s := (List.finRange 4).foldl (fun (st : State) (g : Fin 4) => st.syncSrcChanged g (oldSrc.getD g 0)) s
  let s := if s.rebinds.isEmpty && (set.any fun e => isBind e.1) then s.applyBinds else s.refreshEngines
  let s := s.refreshCoolEngines.applyOwners.conflictPennant.wdApply.rolesCommitted
  (List.finRange 4).foldl (fun (st : State) (o : Fin 4) => ((st.refreshSensors o).refreshCool o).isoUnused o) s

/-- What it sets going once the pair has followed it. -/
def State.committedLast (s : State) (set : List (Nat × Val)) : State :=
  let s := if (set.any fun e => keyG e.1 == 0xC0) then s.vonCommitted else s
  let s := if s.part.variant = .l then s.refreshLog.drainWaiting else s
  if s.role 12 then s.refreshAlloc else s.endIsolation

theorem State.committed_eq (s : State) (set : List (Nat × Val)) (oldMode oldSlot oldPair : Nat) (oldSrc : List Nat) :
    s.committed set oldMode oldSlot oldPair oldSrc =
      ((((s.committedFirst set oldSrc).eventsCommitted oldMode).ringKeyCommitted oldSlot).pairCommitted oldPair).committedLast
        set := rfl

theorem State.committedFirst_same (s : State) (set : List (Nat × Val)) (oldSrc : List Nat) :
    Same (· == 21) s (s.committedFirst set oldSrc) := by
  unfold State.committedFirst
  dsimp only
  split
  all_goals simp (maxDischargeDepth := 60)

theorem State.committedLast_same (s : State) (set : List (Nat × Val)) : Same (· == 21) s (s.committedLast set) := by
  unfold State.committedLast
  dsimp only
  repeat' split
  all_goals simp (maxDischargeDepth := 60)

/-- Of what the other chapters do with a commit, the ring key and the pair alone reach the dictionary's own state. -/
theorem State.committed_blank (s : State) (set : List (Nat × Val)) (oldMode oldSlot oldPair : Nat) (oldSrc : List Nat) :
    (s.committed set oldMode oldSlot oldPair oldSrc).dict.blank = s.dict.blank := by
  have hev : Same (· == 21) s ((s.committedFirst set oldSrc).eventsCommitted oldMode) :=
    (s.committedFirst_same set oldSrc).trans (by simp)
  rw [State.committed_eq, (State.committedLast_same _ set).blank, State.pairCommitted_blank, State.ringKeyCommitted_blank,
    hev.blank]

theorem State.commitEntry_blank (s : State) (e : Nat × Val) : (s.commitEntry e).dict.blank = s.dict.blank := by
  unfold State.commitEntry
  dsimp only
  repeat' split
  all_goals rfl

theorem State.treeBoundary_dict (s : State) : s.treeBoundary.dict = s.dict := Same.dict (m := (· == 21)) (by simp) rfl
theorem State.treeCommitted_dict (s : State) (touched : Bool) (before : List (Nat × Val)) :
    (s.treeCommitted touched before).dict = s.dict := Same.dict (m := (· == 21)) (by simp) rfl

/-! ## A command that ends COMPLETED (R60) -/

section
variable (s : State) (c : CmdId) (detail value k : Nat)

@[simp] theorem State.get_completed : (s.completed c detail value).get k = s.get k := rfl
@[simp] theorem State.nat_completed : (s.completed c detail value).nat k = s.nat k := rfl
@[simp] theorem State.commitValue_completed : (s.completed c detail value).commitValue = s.commitValue := rfl

theorem State.completed_res : ((s.completed c detail value).res c).status = .completed ∧
    ((s.completed c detail value).res c).value = value ∧ ((s.completed c detail value).res c).detail = detail := by
  simp [State.completed, State.endCmd]

end

/-! ## Applying a set (R51, step 4) -/

/-- The entries of the commit set in effect or in the billing hold, and the journal cleared. -/
def State.commitEntered (s : State) : State :=
  let s := s.treeBoundary
  let now := s.dict.commitSet.filter fun e => !isHeld e.1
  let tree := s.treeNow
  let s := (now.foldl (fun (st : State) e => st.commitEntry e) s).holdEntries (s.dict.commitSet.filter fun e => isHeld e.1)
  let s := s.treeCommitted (now.any fun e => treeKeys.contains e.1) tree
  { s with dict := { s.dict with commitSet := [], journal := [], journalled := false, commitErased := false } }

/-- The entries of the commit set entered, and what the other chapters do with them. -/
def State.commitTaken (s : State) : State :=
  s.commitEntered.committed (s.treeBoundary.dict.commitSet.filter fun e => !isHeld e.1) (s.treeBoundary.nat Reg.EQ_MODE)
    (s.treeBoundary.nat Reg.RING_KEY_SLOT) (s.treeBoundary.nat Reg.PAIR_EN)
    ((List.range 4).map fun (g : Nat) => s.treeBoundary.nat (Reg.SYNC_SRC g))

/-- A set taken counts in COMMIT_SEQ and leaves COMMIT_STATE APPLIED. -/
def State.commitCounted (s : State) : State := (s.commitTaken.count Reg.COMMIT_SEQ).putN Reg.COMMIT_STATE 3

theorem State.applyCommit_eq (s : State) : s.applyCommit = s.commitCounted.completed .commit
    (s.dict.commitSet.filter fun e => isHeld e.1).length s.commitCounted.commitValue := by
  rw [← s.treeBoundary_dict]
  rfl

theorem State.commitEntered_blank (s : State) : s.commitEntered.dict.blank = s.dict.blank := by
  unfold State.commitEntered
  dsimp only
  rw [State.treeCommitted_dict]
  calc _ = s.treeBoundary.dict.blank := foldl_keeps (·.dict.blank) _ (fun st e => st.commitEntry_blank e) _ _
    _ = s.dict.blank := by rw [State.treeBoundary_dict]

theorem State.applyCommit_blank (s : State) : s.applyCommit.dict.blank = s.dict.blank := by
  rw [State.applyCommit_eq]
  exact (s.commitEntered.committed_blank _ _ _ _ _).trans s.commitEntered_blank

/-- A set applied leaves COMMIT_STATE APPLIED, and its result names COMMIT_SEQ and the epoch, with the entries held as DETAIL. -/
theorem State.applyCommit_ends (s : State) : s.applyCommit.nat Reg.COMMIT_STATE = 3 ∧
    (s.applyCommit.res .commit).status = .completed ∧ (s.applyCommit.res .commit).value = s.applyCommit.commitValue ∧
    (s.applyCommit.res .commit).detail = (s.dict.commitSet.filter fun e => isHeld e.1).length := by
  obtain ⟨hst, hval, hdet⟩ := s.commitCounted.completed_res .commit
    (s.dict.commitSet.filter fun e => isHeld e.1).length s.commitCounted.commitValue
  rw [State.applyCommit_eq, State.nat_completed, State.commitValue_completed]
  exact ⟨by rw [State.commitCounted, State.nat_putN, if_pos rfl], hst, hval, hdet⟩

/-! ## Storing a set (R51, step 2) -/

/-- The journal holds the commit set, and the store is no longer blank. -/
def State.journalSet (s : State) : State :=
  { s with dict := { s.dict with journal := s.dict.commitSet, journalled := true, blank := false } }

theorem State.commitStored_of_storing {s : State} (h1 : s.nat Reg.COMMIT_STATE = 1) (he : s.dict.erasing = false) :
    s.commitStored = if s.waitsEpoch then s.journalSet.putN Reg.COMMIT_STATE 2 else s.journalSet.applyCommit := by
  rw [State.commitStored, if_neg (by simp [h1, he])]
  rfl

/-! ## Starting COMMIT and CONFIG_ERASE (R51, R65) -/

theorem exec_commit_accepted {s : State} {h : Hdr} {arg : Nat} (ha : Accepts s h (cmdBase .commit + 1) arg) :
    exec (.commit h arg) s = .next ((s.startCmd .commit arg).commitStart.answerW h .ok) :=
  congrArg Host.Outcome.next (State.transact_cmd ha)

theorem exec_configErase_accepted {s : State} {h : Hdr} {arg : Nat} (ha : Accepts s h (cmdBase .configErase + 1) arg) :
    exec (.configErase h arg) s = .next ((s.startCmd .configErase arg).configErase.answerW h .ok) :=
  congrArg Host.Outcome.next (State.transact_cmd ha)

theorem State.startCmd_pending (s : State) (c : CmdId) (arg : Nat) : ((s.startCmd c arg).res c).status = .pending := by
  rw [State.startCmd, State.res_setRes]

/-- With entries staged they become the commit set, to be stored. -/
theorem State.commitStart_of_staged {s : State} (hs : s.dict.staging ≠ []) :
    s.commitStart = ({ s.setStaging [] with dict := { (s.setStaging []).dict with
      commitSet := s.dict.staging, commitErased := false } }).putN Reg.COMMIT_STATE 1 := by
  simp [State.commitStart, hs]

theorem State.commitStart_of_empty {s : State} (hs : s.dict.staging = []) :
    s.commitStart = (s.putN Reg.COMMIT_STATE 3).completed .commit 0 s.commitValue := by
  simp [State.commitStart, hs]

theorem State.configErase_of_running {s : State} (hm : bit (s.nat Reg.MODE_WORD) 0 = false) :
    s.configErase = s.refusedWith .configErase 1 := by
  simp [State.configErase, hm]

theorem State.configErase_of_assemble {s : State} (hm : bit (s.nat Reg.MODE_WORD) 0 = true) :
    s.configErase = { s with dict := { s.dict with erasing := true, commitErased := s.committing } } := by
  simp [State.configErase, hm]

/-! ## The statement, a clause at a time -/

/-- What an accepted COMMIT does, as its operation finds the staging area. -/
theorem commit_accepted {s : State} {h : Hdr} (ha : Accepts s h (cmdBase .commit + 1) 0) :
    ∃ t, exec (.commit h 0) s = .next t ∧ Answered t h .ok ∧
      (s.dict.staging ≠ [] → t.dict.commitSet = s.dict.staging ∧ t.dict.staging = [] ∧ t.nat Reg.COMMIT_STATE = 1 ∧
        (t.res .commit).status = .pending) ∧
      (s.dict.staging = [] → t.nat Reg.COMMIT_STATE = 3 ∧ t.nat Reg.COMMIT_SEQ = s.nat Reg.COMMIT_SEQ ∧
        (t.res .commit).status = .completed ∧ (t.res .commit).detail = 0 ∧ (t.res .commit).value = s.commitValue) := by
  refine ⟨_, exec_commit_accepted ha, answered_answerW _ _ _, fun hs => ?_, fun hs => ?_⟩
  · rw [State.commitStart_of_staged (s := s.startCmd .commit 0) hs, State.answerW_dict_commitSet, State.answerW_dict_staging,
      State.nat_answerW _ _ _ (by decide) (by decide), State.nat_putN, if_pos rfl, State.res_answerW]
    exact ⟨rfl, rfl, rfl, s.startCmd_pending .commit 0⟩
  · obtain ⟨hst, hval, hdet⟩ := ((s.startCmd .commit 0).putN Reg.COMMIT_STATE 3).completed_res .commit 0 s.commitValue
    rw [State.commitStart_of_empty (s := s.startCmd .commit 0) hs, State.nat_answerW _ _ _ (by decide) (by decide),
      State.nat_answerW _ _ _ (by decide) (by decide), State.res_answerW, State.nat_completed, State.nat_completed,
      State.nat_putN, State.nat_putN, if_pos rfl, if_neg (by decide)]
    exact ⟨rfl, rfl, hst, hdet, hval⟩

theorem commitStored_stores {s : State} (hp : s.powered = true) (h1 : s.nat Reg.COMMIT_STATE = 1)
    (he : s.dict.erasing = false) :
    ∃ t, exec .commitStored s = .next t ∧ t.dict.blank = false ∧
      (s.waitsEpoch = true → t.nat Reg.COMMIT_STATE = 2 ∧ t.dict.journalled = true ∧ t.dict.journal = s.dict.commitSet) ∧
      (s.waitsEpoch = false → t.nat Reg.COMMIT_STATE = 3 ∧ (t.res .commit).status = .completed ∧
        (t.res .commit).value = t.commitValue) := by
  refine ⟨s.commitStored, congrArg Host.Outcome.next (State.live_of_powered hp _), ?_⟩
  rw [State.commitStored_of_storing h1 he]
  cases hw : s.waitsEpoch with
  | true =>
    refine ⟨rfl, fun _ => ⟨?_, rfl, rfl⟩, nofun⟩
    rw [if_pos rfl, State.nat_putN, if_pos rfl]
  | false =>
    obtain ⟨hn, hst, hval, -⟩ := s.journalSet.applyCommit_ends
    exact ⟨s.journalSet.applyCommit_blank, nofun, fun _ => ⟨hn, hst, hval⟩⟩

theorem commitApply_applies {s : State} (hp : s.powered = true) (h2 : s.nat Reg.COMMIT_STATE = 2) (hd : s.ring.due = true) :
    exec .commitApply s = .next s.applyCommit := by
  change Host.Outcome.next (s.live _) = _
  rw [State.live_of_powered hp, if_pos (by simp [h2, hd])]

/-- What an accepted CONFIG_ERASE does: refused while the device runs, ordered under ASSEMBLE. -/
theorem configErase_accepted {s : State} {h : Hdr} (ha : Accepts s h (cmdBase .configErase + 1) 0xE4A5) :
    ∃ t, exec (.configErase h 0xE4A5) s = .next t ∧ Answered t h .ok ∧
      (bit (s.nat Reg.MODE_WORD) 0 = false →
        (t.res .configErase).status = .refused ∧ (t.res .configErase).detail = 1 ∧ t.dict.store = s.dict.store) ∧
      (bit (s.nat Reg.MODE_WORD) 0 = true →
        (t.res .configErase).status = .pending ∧ t.dict.erasing = true ∧ t.dict.blank = s.dict.blank ∧
        t.dict.store = s.dict.store ∧ t.dict.billHold = s.dict.billHold ∧
        ∀ k, k ≠ Reg.DICT_RX_COUNT → k ≠ Reg.DICT_REJECT_COUNT → t.get k = s.get k) := by
  refine ⟨_, exec_configErase_accepted ha, answered_answerW _ _ _, fun hm => ?_, fun hm => ?_⟩
  · rw [State.configErase_of_running (s := s.startCmd .configErase 0xE4A5) hm, State.res_answerW, State.answerW_dict_store]
    rw [State.refusedWith, State.endCmd, State.res_setRes]
    exact ⟨rfl, rfl, rfl⟩
  · rw [State.configErase_of_assemble (s := s.startCmd .configErase 0xE4A5) hm, State.res_answerW,
      State.answerW_dict_erasing, State.answerW_dict_blank, State.answerW_dict_store, State.answerW_dict_billHold]
    refine ⟨s.startCmd_pending .configErase 0xE4A5, rfl, rfl, rfl, rfl, fun k hrx hrj => ?_⟩
    rw [State.get_answerW _ _ _ hrx hrj]
    rfl

theorem configEraseStored_erases {s : State} (hp : s.powered = true) (he : s.dict.erasing = true)
    (hc : s.nat Reg.COMMIT_STATE ≠ 1 ∨ s.dict.commitErased = false) :
    ∃ t, exec .configEraseStored s = .next t ∧ t.dict.erasing = false ∧ t.dict.blank = true ∧
      t.dict.store = s.dict.store.filter (fun e => isRwl e.1) ∧ t.dict.billHold = s.dict.billHold ∧
      (t.res .configErase).status = .completed ∧ ∀ k, t.get k = s.get k := by
  have hfree : ¬(!s.dict.erasing || (s.nat Reg.COMMIT_STATE == 1 && s.dict.commitErased)) = true := by
    rcases hc with hc | hc <;> simp [he, hc]
  refine ⟨s.configEraseStored, congrArg Host.Outcome.next (State.live_of_powered hp _), ?_⟩
  rw [State.configEraseStored, if_neg hfree]
  exact ⟨rfl, rfl, rfl, rfl, (State.completed_res _ _ _ _).1, fun k => rfl⟩

/-- Settles O10: a clause for each of the five commands. -/
theorem commitsAndErases : Obligations.CommitsAndErases :=
  ⟨fun _ _ ha => commit_accepted ha, fun _ hp h1 he _ => commitStored_stores hp h1 he,
    fun s hp h2 hd => ⟨_, commitApply_applies hp h2 hd, s.applyCommit_ends⟩,
    fun _ _ ha => configErase_accepted ha, fun _ hp he hc => configEraseStored_erases hp he hc⟩

end Sys2Proof.Machine
end

section
/-! Proof of the statement on a write of MODE_WORD: after a turn of the classes MODE_TRANSIT shows the classes on their way, and what
the write does beside the turn moves, of the modes' objects, the word and its count alone. -/

namespace Sys2Proof.Machine

/-! ## MODE_TRANSIT shows the classes (R68, R77) -/

/-- Which classes are on their way follows from the word, the Burgee, and what each class has reached. -/
theorem State.transit_congr {s t : State} (hw : t.nat Reg.MODE_WORD = s.nat Reg.MODE_WORD)
    (hp : t.nat Reg.PAIR_EN = s.nat Reg.PAIR_EN) (hb : t.nat Reg.BURGEE_STATE = s.nat Reg.BURGEE_STATE)
    (hm : t.modes = s.modes) : t.transit = s.transit := by
  have hword : t.targetWord = s.targetWord := by simp only [State.targetWord, hw, hm]
  have hway (c : Fin 8) : t.onTheWay c = s.onTheWay c := by
    have htarget : t.targetBeh c = s.targetBeh c := State.targetBeh_congr hw hp hb (congrArg ModeState.limpEn hm) c
    simp only [State.onTheWay, State.beh, htarget, hword, hm]
  simp only [State.transit, hway]

/-- What follows the classes moves none of them. -/
theorem State.refreshTransit_transit (s : State) : s.refreshTransit.transit = s.transit :=
  State.transit_congr (s.nat_refreshTransit (by decide) (by decide)) (s.nat_refreshTransit (by decide) (by decide))
    (s.nat_refreshTransit (by decide) (by decide)) s.refreshTransit_modes

theorem State.nat_modeTransit_refreshTransit (s : State) :
    s.refreshTransit.nat Reg.MODE_TRANSIT = s.refreshTransit.transit := by
  have hput : (s.putN Reg.MODE_TRANSIT s.transit).transit = s.transit := by
    refine State.transit_congr ?_ ?_ ?_ (s.putN_modes _ _) <;> rw [State.nat_putN, if_neg (by decide)]
  rw [State.refreshTransit_transit, State.refreshTransit, hput]
  split <;> simp

/-- A turn of the classes ends with MODE_TRANSIT following them. -/
theorem State.nat_modeTransit_classesTurn (s : State) : s.classesTurn.nat Reg.MODE_TRANSIT = s.classesTurn.transit := by
  unfold State.classesTurn
  dsimp only
  rw [State.nat_modeTransit_refreshTransit]

theorem State.transit_answerW (s : State) (h : Hdr) (st : Status) : (s.answerW h st).transit = s.transit :=
  State.transit_congr (s.nat_answerW h st (by decide) (by decide)) (s.nat_answerW h st (by decide) (by decide))
    (s.nat_answerW h st (by decide) (by decide)) (s.answerW_modes h st)

/-! ## The write (R77, R85) -/

/-- Integration that resumes is shown in the metrology's objects, not in those of the modes. -/
theorem State.nat_resumeMeter_refreshMcs (s : State) {k : Nat} (hl : 0x10000 ≤ k) (hk : k < 0x20000) :
    s.resumeMeter.refreshMcs.nat k = s.nat k :=
  Same.natModes (by simp) hl hk

/-- Ending a VAULT entry and turning the classes change no object of the modes but MODE_TRANSIT and MODE_IN_FORCE. -/
theorem State.nat_modeWordEffect (s : State) (v : Nat) {k : Nat} (hl : 0x10000 ≤ k) (hk : k < 0x20000)
    (ht : k ≠ Reg.MODE_TRANSIT) (hf : k ≠ Reg.MODE_IN_FORCE) :
    (s.modeWordEffect v).nat k =
      ((s.putN Reg.MODE_WORD (if bit v 7 then 0x80 else v)).count Reg.MODE_CHANGES).nat k := by
  unfold State.modeWordEffect
  dsimp only
  rw [State.nat_classesTurn _ hl hk ht hf]
  split
  · rw [State.nat_resumeMeter_refreshMcs _ hl hk]
    simp only [State.nat, State.int, State.get]
  · rfl

theorem State.modeWordEffect_word (s : State) (v : Nat) :
    (s.modeWordEffect v).nat Reg.MODE_WORD = if bit v 7 then 0x80 else v := by
  rw [State.nat_modeWordEffect _ _ (by decide) (by decide) (by decide) (by decide), State.nat_count, if_neg (by decide),
    State.nat_putN, if_pos rfl]

theorem State.modeWordEffect_changes (s : State) (v : Nat) :
    (s.modeWordEffect v).nat Reg.MODE_CHANGES = (s.nat Reg.MODE_CHANGES + 1) % 4294967296 := by
  rw [State.nat_modeWordEffect _ _ (by decide) (by decide) (by decide) (by decide), State.nat_count, if_pos rfl,
    State.nat_putN, if_neg (by decide)]

theorem State.modeWordEffect_transit (s : State) (v : Nat) :
    (s.modeWordEffect v).nat Reg.MODE_TRANSIT = (s.modeWordEffect v).transit := by
  unfold State.modeWordEffect
  dsimp only
  rw [State.nat_modeTransit_classesTurn]

/-- A write of MODE_WORD that passes the checks takes effect and is answered OK. -/
theorem exec_modeWordWrite_accepted {s : State} {h : Hdr} {v : Nat} (ha : Accepts s h Reg.MODE_WORD v) :
    exec (.modeWordWrite h v) s = .next ((s.modeWordEffect v).answerW h .ok) :=
  congrArg Host.Outcome.next (State.hostWrite_accepts ha _)

/-- Settles O14: the word and its count are what the write puts, the rest is the turn of the classes, and the answer moves neither. -/
theorem modeWordWriteMoves : Obligations.ModeWordWriteMoves := by
  intro s h v ha
  refine ⟨_, exec_modeWordWrite_accepted ha, answered_answerW _ _ _, ?word, ?changes, ?transit⟩
  case word => rw [State.nat_answerW _ _ _ (by decide) (by decide), State.modeWordEffect_word]
  case changes => rw [State.nat_answerW _ _ _ (by decide) (by decide), State.modeWordEffect_changes]
  case transit =>
    rw [State.nat_answerW _ _ _ (by decide) (by decide), State.modeWordEffect_transit, State.transit_answerW]

end Sys2Proof.Machine
end

section
/-! Proof of the statement on pace and the clocks: what each change of FABRIC_STATUS leaves of its bits, and what a lost clock
does to the legs and the claims. -/

namespace Sys2Proof.Machine

/-! ## The fabric's objects (group 0x05) -/

/-- A number of the fabric's objects reads the same where these objects do. -/
theorem Same.natFabric {m : Nat → Bool} {s t : State} (h : Same m s t) (hm : m 11 = true) {k : Nat} (hl : 0x50000 ≤ k)
    (hk : k < 0x60000) : t.nat k = s.nat k := by
  have ht : tally k = false := by
    simp only [tally, Reg.DICT_RX_COUNT, Reg.DICT_REJECT_COUNT, key, Bool.or_eq_false_iff, beq_eq_false_iff_ne]; omega
  simp only [State.nat, State.int, h.below11 hm k hl hk ht]

/-- The fabric's record holds no element. -/
@[simp] theorem State.nat_withFab (s : State) (f : FabState) (k : Nat) : State.nat { s with fab := f } k = s.nat k := rfl

theorem State.nat_refreshBounds (s : State) {k : Nat} (hk : k ≠ Reg.FABRIC_STATUS) : s.refreshBounds.nat k = s.nat k := by
  rw [State.refreshBounds, State.nat_putBit, if_neg hk]

/-- BOUNDS_SUSPENDED follows the other bits of FABRIC_STATUS and moves none of them. -/
theorem State.bit_refreshBounds (s : State) {i : Nat} (hi : i ≠ 4) :
    bit (s.refreshBounds.nat Reg.FABRIC_STATUS) i = bit (s.nat Reg.FABRIC_STATUS) i := by
  rw [State.refreshBounds, State.nat_putBit, if_pos rfl, bit_setBit, if_neg hi]

theorem State.bit_putBit (s : State) (k i j : Nat) (b : Bool) :
    bit ((s.putBit k i b).nat k) j = if j = i then b else bit (s.nat k) j := by
  rw [State.nat_putBit, if_pos rfl, bit_setBit]

/-! ## Pace (R90, R92) -/

/-- PACE_REGION_n of every region, each with its own value. -/
def State.putRegions (s : State) (v : Nat → Nat) : State :=
  (List.range 7).foldl (fun (st : State) (r : Nat) => st.putN (Reg.PACE_REGION (r + 1)) (v r)) s

theorem State.nat_putRegions (s : State) (v : Nat → Nat) {k : Nat} (hk : k < 0x50200 ∨ 0x50300 ≤ k) :
    (s.putRegions v).nat k = s.nat k := by
  refine List.foldlRecOn (motive := fun st : State => st.nat k = s.nat k) _ _ rfl fun st hst r hr => ?_
  have hr7 : r < 7 := List.mem_range.mp hr
  have hne : k ≠ Reg.PACE_REGION (r + 1) := by simp only [Reg.PACE_REGION, key]; omega
  rw [State.nat_putN, if_neg hne, hst]

/-- The pace registers after a measurement, before it is judged. -/
def State.paceShown (s : State) (chains : List Nat) : State :=
  let pace := leastOf ((List.range 7).map (regionPace chains))
  let u := (s.putRegions fun r => min (regionPace chains r) 4000).putN Reg.PACE (min pace 4000)
  if pace != 0 && min pace 4000 < u.nat Reg.PACE_MIN_SEEN then u.putN Reg.PACE_MIN_SEEN (min pace 4000) else u

theorem State.nat_paceShown (s : State) (chains : List Nat) :
    (s.paceShown chains).nat Reg.PACE = min (leastOf ((List.range 7).map (regionPace chains))) 4000 ∧
      (s.paceShown chains).nat Reg.PACE_FLOOR = s.nat Reg.PACE_FLOOR := by
  unfold State.paceShown
  dsimp only
  split <;> simp [State.nat_putRegions]

/-- A measurement that REFCLK times is shown and then judged. -/
theorem State.measurePace_of_refclk {s : State} (h1 : bit (s.nat Reg.FABRIC_STATUS) 1 = false) (chains : List Nat) :
    s.measurePace chains = (s.paceShown chains).judgePace (leastOf ((List.range 7).map (regionPace chains))) := by
  rw [State.measurePace, if_neg (by simp [h1])]
  rfl

/-- A pace below PACE_FLOOR is noted in FABRIC_STATUS, and the run of good measurements starts anew. -/
def State.paceFailed (s : State) : State :=
  (({ s with fab := { s.fab with paceRun := 0 } } : State).putBit Reg.FABRIC_STATUS 0 true).refreshBounds

/-- Beside what `paceFailed` says, a pace below PACE_FLOOR raises a Pennant. -/
theorem State.judgePace_of_low {s : State} {pace : Nat} (h : pace < s.nat Reg.PACE_FLOOR) :
    Same (· == 11) s.paceFailed (s.judgePace pace) := by
  unfold State.judgePace
  dsimp only
  rw [if_pos h]
  split
  · exact Same.refl _ _
  · exact State.raiseCat_same _ _ _ _ (Same.refl _ _) rfl

theorem State.judgePace_sets_low {s : State} {pace : Nat} (h : pace < s.nat Reg.PACE_FLOOR) :
    bit ((s.judgePace pace).nat Reg.FABRIC_STATUS) 0 = true := by
  rw [(State.judgePace_of_low h).natFabric rfl (by decide) (by decide), State.paceFailed, State.bit_refreshBounds _ (by decide),
    State.bit_putBit, if_pos rfl]

/-- Of the fabric's objects judging a pace changes FABRIC_STATUS alone. -/
theorem State.nat_judgePace (s : State) (pace : Nat) {k : Nat} (hl : 0x50000 ≤ k) (hk : k < 0x60000)
    (hs : k ≠ Reg.FABRIC_STATUS) : (s.judgePace pace).nat k = s.nat k := by
  by_cases h : pace < s.nat Reg.PACE_FLOOR
  · rw [(State.judgePace_of_low h).natFabric rfl hl hk, State.paceFailed, State.nat_refreshBounds _ hs, State.nat_putBit,
      if_neg hs, State.nat_withFab]
  · unfold State.judgePace
    dsimp only
    rw [if_neg h]
    split
    · rw [State.nat_refreshBounds _ hs, State.nat_putBit, if_neg hs, State.nat_withFab]
    · rfl

/-- A running device carries out a measurement. -/
theorem exec_paceMeasure {s : State} (hp : s.powered = true) (chains : List Nat) :
    exec (.paceMeasure chains) s = .next (s.measurePace chains) :=
  congrArg Host.Outcome.next (State.live_of_powered hp _)

theorem paceMeasure_measures {s : State} (hp : s.powered = true) (h1 : bit (s.nat Reg.FABRIC_STATUS) 1 = false)
    (chains : List Nat) :
    ∃ t, exec (.paceMeasure chains) s = .next t ∧
      t.nat Reg.PACE = min (leastOf ((List.range 7).map (regionPace chains))) 4000 ∧
      (leastOf ((List.range 7).map (regionPace chains)) < s.nat Reg.PACE_FLOOR → bit (t.nat Reg.FABRIC_STATUS) 0 = true) := by
  obtain ⟨hpace, hfloor⟩ := s.nat_paceShown chains
  refine ⟨_, exec_paceMeasure hp chains, ?_, fun hlow => ?_⟩
  · rw [State.measurePace_of_refclk h1, State.nat_judgePace _ _ (by decide) (by decide) (by decide), hpace]
  · rw [State.measurePace_of_refclk h1, State.judgePace_sets_low (Nat.lt_of_lt_of_eq hlow hfloor.symm)]

/-! ## Clock loss (R96) -/

/-- A leg is off while REFCLK or the PLL is lost. -/
theorem State.hardOff_of_clockLost {s : State} (h : s.clockLost = true) (n : Fin 32) : s.hardOff n = true := by
  simp [State.hardOff, h]

/-- A group places no claim. -/
def State.dropClaims (s : State) (g : Fin 4) : State := s.setGroup g { s.groups[g] with claims := false }

/-- Every leg parks, and then every group drops its claims. -/
theorem State.legsFaulted_eq (s : State) : s.legsFaulted =
    (List.finRange 4).foldl State.dropClaims ((List.finRange 32).foldl (fun (st : State) (n : Fin 32) => st.parkLeg n) s) := rfl

/-- Of the elements the faulted legs change only those of the phase groups. -/
theorem State.nat_legsFaulted (s : State) {k : Nat} (hk : k < 0x100000 ∨ 0x140000 ≤ k) : s.legsFaulted.nat k = s.nat k := by
  have hget : s.legsFaulted.get k = s.get k := by
    rw [State.legsFaulted_eq, foldl_keeps (·.get k) State.dropClaims fun _ _ => State.get_setGroup _ _ _ _]
    exact foldl_keeps (·.get k) _ (fun st n => st.get_parkLeg n hk) _ s
  simp only [State.nat, State.int, hget]

theorem State.dropClaims_claims (s : State) (g h : Fin 4) :
    (s.dropClaims g).groups[h].claims = false ↔ h = g ∨ s.groups[h].claims = false := by
  by_cases hg : h = g
  · subst hg; simp [State.dropClaims, State.setGroup]
  · have hv : g.val ≠ h.val := fun e => hg (Fin.ext e.symm)
    simp [State.dropClaims, State.setGroup, hg, hv]

theorem State.legsFaulted_claims (s : State) (h : Fin 4) : s.legsFaulted.groups[h].claims = false := by
  have drops : ∀ (l : List (Fin 4)) (st : State),
      (l.foldl State.dropClaims st).groups[h].claims = false ↔ h ∈ l ∨ st.groups[h].claims = false := by
    intro l
    induction l with
    | nil => simp
    | cons g l ih => intro st; rw [List.foldl_cons, ih, State.dropClaims_claims, List.mem_cons, or_left_comm, or_assoc]
  rw [State.legsFaulted_eq]
  exact (drops _ _).mpr (.inl (List.mem_finRange h))

@[simp] theorem State.legsFaulted_fab (s : State) : s.legsFaulted.fab = s.fab := Same.fab (m := (· == 23)) (by simp) rfl

/-- Of the elements the islands change only ISLAND_STATE. -/
theorem State.nat_putIslands (s : State) (st : Nat) {k : Nat} (hk : k < 0x50600) : (s.putIslands st).nat k = s.nat k := by
  refine foldl_keeps (·.nat k) _ (fun u i => ?_) _ s
  have hne : k ≠ Reg.ISLAND_STATE i := by simp only [Reg.ISLAND_STATE, key]; omega
  rw [State.nat_putN, if_neg hne]

@[simp] theorem State.putIslands_groups (s : State) (st : Nat) : (s.putIslands st).groups = s.groups :=
  Same.groups (m := (· == 28)) (by simp) rfl

@[simp] theorem State.refreshBounds_groups (s : State) : s.refreshBounds.groups = s.groups := rfl

/-- What a lost clock does to the fabric: the legs as faulted, its bit of FABRIC_STATUS, and the islands' states. -/
def State.clockDown (s : State) (b island : Nat) : State :=
  (s.legsFaulted.putBit Reg.FABRIC_STATUS b true).refreshBounds.putIslands island

theorem State.clockDown_status (s : State) {b : Nat} (hb : b ≠ 4) (island : Nat) :
    bit ((s.clockDown b island).nat Reg.FABRIC_STATUS) b = true := by
  rw [State.clockDown, State.nat_putIslands _ _ (by decide), State.bit_refreshBounds _ hb, State.bit_putBit, if_pos rfl]

theorem State.clockDown_claims (s : State) (b island : Nat) (g : Fin 4) :
    (s.clockDown b island).groups[g].claims = false := by
  rw [State.clockDown, State.putIslands_groups, State.refreshBounds_groups, State.putBit_groups]
  exact s.legsFaulted_claims g

/-- Releasing the Burgee and the hoist, and the Pennant, change neither the fabric's objects nor the phase groups. -/
theorem State.loseClock_same_clockDown {s : State} {b : Nat} (h : bit (s.nat Reg.FABRIC_STATUS) b = false)
    (island event : Nat) : Same (fun i => i == 11 || i == 28) (s.clockDown b island) (s.loseClock b island event) := by
  unfold State.loseClock
  rw [if_neg (by simp [h])]
  refine State.raise1_same _ _ _ _ ?_ rfl
  have hrel : Same (fun i => i == 11 || i == 28) (s.clockDown b island) ((s.clockDown b island).orderlyRelease false) := by simp
  split
  · exact State.refreshAlloc_same (State.stopLaunching_same hrel rfl rfl rfl rfl rfl rfl) rfl rfl rfl rfl rfl rfl
  · exact hrel

section
variable {s : State} {b : Nat} (h : bit (s.nat Reg.FABRIC_STATUS) b = false) (island event : Nat)
include h

theorem State.loseClock_status (hb : b ≠ 4) : bit ((s.loseClock b island event).nat Reg.FABRIC_STATUS) b = true := by
  rw [(State.loseClock_same_clockDown h island event).natFabric rfl (by decide) (by decide), State.clockDown_status _ hb]

theorem State.loseClock_claims (g : Fin 4) : (s.loseClock b island event).groups[g].claims = false := by
  rw [(State.loseClock_same_clockDown h island event).groups rfl, State.clockDown_claims]

end

/-- PACE and every PACE_REGION read 0. -/
def State.paceZeroed (s : State) : State := (s.putN Reg.PACE 0).putRegions fun _ => 0

theorem State.nat_paceZeroed (s : State) :
    s.paceZeroed.nat Reg.PACE = 0 ∧ s.paceZeroed.nat Reg.FABRIC_STATUS = s.nat Reg.FABRIC_STATUS := by
  constructor <;> simp [State.paceZeroed, State.nat_putRegions]

theorem State.paceZeroed_groups (s : State) : s.paceZeroed.groups = s.groups :=
  foldl_keeps (·.groups) (fun st r => st.putN (Reg.PACE_REGION (r + 1)) 0) (fun _ _ => rfl) _ _

/-- REFCLK is lost at a running device. -/
theorem exec_refclkLost {s : State} (hp : s.powered = true) :
    exec .refclkLost s = .next (s.loseClock 1 3 0x105).paceZeroed :=
  congrArg Host.Outcome.next (State.live_of_powered hp _)

/-- The PLL unlocks at a running device that has REFCLK. -/
theorem exec_pllUnlock {s : State} (hp : s.powered = true) (h1 : bit (s.nat Reg.FABRIC_STATUS) 1 = false) :
    exec .pllUnlock s = .next (s.loseClock 2 2 0x205) :=
  congrArg Host.Outcome.next ((State.live_of_powered hp _).trans (if_neg (by simp [h1])))

theorem refclkLost_stops {s : State} (hp : s.powered = true) (h1 : bit (s.nat Reg.FABRIC_STATUS) 1 = false) :
    ∃ t, exec .refclkLost s = .next t ∧ bit (t.nat Reg.FABRIC_STATUS) 1 = true ∧ t.nat Reg.PACE = 0 ∧
      (∀ n : Fin 32, t.hardOff n = true) ∧ ∀ g : Fin 4, t.groups[g].claims = false := by
  obtain ⟨hpace, hfs⟩ := (s.loseClock 1 3 0x105).nat_paceZeroed
  have hbit : bit ((s.loseClock 1 3 0x105).paceZeroed.nat Reg.FABRIC_STATUS) 1 = true := by
    rw [hfs, State.loseClock_status h1 _ _ (by decide)]
  refine ⟨_, exec_refclkLost hp, hbit, hpace, State.hardOff_of_clockLost (by simp [State.clockLost, hbit]), fun g => ?_⟩
  rw [State.paceZeroed_groups, State.loseClock_claims h1]

theorem pllUnlock_stops {s : State} (hp : s.powered = true) (h1 : bit (s.nat Reg.FABRIC_STATUS) 1 = false)
    (h2 : bit (s.nat Reg.FABRIC_STATUS) 2 = false) :
    ∃ t, exec .pllUnlock s = .next t ∧ bit (t.nat Reg.FABRIC_STATUS) 2 = true ∧ (∀ n : Fin 32, t.hardOff n = true) ∧
      ∀ g : Fin 4, t.groups[g].claims = false := by
  have hbit := State.loseClock_status h2 2 0x205 (by decide)
  exact ⟨_, exec_pllUnlock hp h1, hbit, State.hardOff_of_clockLost (by simp [State.clockLost, hbit]),
    State.loseClock_claims h2 2 0x205⟩

/-! ## Relock and the lanes' clocks (R96) -/

/-- Both clocks are there again, and their islands run. -/
def State.clockUp (s : State) : State :=
  (((s.putBit Reg.FABRIC_STATUS 1 false).putBit Reg.FABRIC_STATUS 2 false).refreshBounds).putIslands 1

theorem State.clockUp_status (s : State) :
    bit (s.clockUp.nat Reg.FABRIC_STATUS) 1 = false ∧ bit (s.clockUp.nat Reg.FABRIC_STATUS) 2 = false := by
  rw [State.clockUp, State.nat_putIslands _ _ (by decide), State.bit_refreshBounds _ (by decide),
    State.bit_refreshBounds _ (by decide), State.bit_putBit, State.bit_putBit, if_neg (by decide), if_pos rfl]
  exact ⟨rfl, by rw [State.bit_putBit, if_pos rfl]⟩

/-- The legs wait for an epoch boundary. -/
def State.holdLegs (s : State) : State := ({ s with fab := { s.fab with clockHold := true } } : State).legsFaulted

theorem State.holdLegs_clockHold (s : State) : s.holdLegs.fab.clockHold = true := by
  have h : s.holdLegs.fab = { s.fab with clockHold := true } := State.legsFaulted_fab _
  rw [h]

theorem State.nat_holdLegs (s : State) {k : Nat} (hk : k < 0x100000) : s.holdLegs.nat k = s.nat k := by
  rw [State.holdLegs, State.nat_legsFaulted _ (.inl hk), State.nat_withFab]

/-- A relock after a lost clock; the Pennant changes neither the fabric's objects nor its record. -/
theorem State.relock_same_holdLegs {s : State} (h : s.clockLost = true) :
    Same (fun i => i == 11 || i == 23) s.clockUp.holdLegs s.relock := by
  unfold State.relock
  rw [if_neg (by simp [h])]
  exact State.raise1_same _ _ _ _ (Same.refl _ _) rfl

/-- A PLL that locks again at a running device. -/
theorem exec_pllRelock {s : State} (hp : s.powered = true) : exec .pllRelock s = .next s.relock :=
  congrArg Host.Outcome.next (State.live_of_powered hp _)

theorem pllRelock_holds {s : State} (hp : s.powered = true) (h : s.clockLost = true) :
    ∃ t, exec .pllRelock s = .next t ∧ bit (t.nat Reg.FABRIC_STATUS) 1 = false ∧
      bit (t.nat Reg.FABRIC_STATUS) 2 = false ∧ t.fab.clockHold = true := by
  have hs := State.relock_same_holdLegs h
  have hfs : s.relock.nat Reg.FABRIC_STATUS = s.clockUp.nat Reg.FABRIC_STATUS := by
    rw [hs.natFabric rfl (by decide) (by decide), State.nat_holdLegs _ (by decide)]
  obtain ⟨h1, h2⟩ := s.clockUp_status
  exact ⟨_, exec_pllRelock hp, hfs ▸ h1, hfs ▸ h2, by rw [hs.fab rfl, State.holdLegs_clockHold]⟩

/-- A lost lane clock stops the island of that lane. -/
theorem exec_laneClockLost {s : State} (hp : s.powered = true) {i : Nat} (h4 : 4 ≤ i) (h6 : i ≤ 6) :
    exec (.laneClockLost i) s = .next (s.putN (Reg.ISLAND_STATE i) 3) :=
  congrArg Host.Outcome.next ((State.live_of_powered hp _).trans (if_pos (by simp [h4, h6])))

/-! ## The latencies (R93) -/

/-- An accepted write of ENSIGN_LAT_CLEAR takes effect and is answered. -/
theorem exec_ensignLatClear {s : State} {h : Hdr} (ha : Accepts s h Reg.ENSIGN_LAT_CLEAR 1) :
    exec (.ensignLatClear h 1) s = .next ((s.latClearEffect 1).answerW h .ok) :=
  congrArg Host.Outcome.next (State.hostWrite_accepts ha _)

theorem State.latClearEffect_clears (s : State) :
    (s.latClearEffect 1).nat Reg.LAT_EVENT_TO_RING = 0 ∧ (s.latClearEffect 1).nat Reg.LAT_EPOCH_TO_LOOP = 0 ∧
      (s.latClearEffect 1).nat Reg.LAT_SAMPLE_TO_PWM = 0 := by
  simp [State.latClearEffect]

/-! ## The statement -/

/-- Settles O16: the measurement is shown and judged, the two clock losses are one operation on two bits, and the rest are the
writes their commands make. -/
theorem fabricPaceAndClock : Obligations.FabricPaceAndClock := by
  refine ⟨fun s chains hp h1 => paceMeasure_measures hp h1 chains,
    fun s hp h1 => refclkLost_stops hp h1,
    fun s hp h1 h2 => pllUnlock_stops hp h1 h2,
    fun s hp h => pllRelock_holds hp h,
    fun s i hp h4 h6 => ⟨_, exec_laneClockLost hp h4 h6, ?_, fun k hk => ?_⟩,
    fun s h ha => ⟨_, exec_ensignLatClear ha, answered_answerW _ _ _, ?_⟩⟩
  · rw [State.nat_putN, if_pos rfl]
  · rw [State.get_putN, if_neg hk]
  · rw [State.nat_answerW _ _ _ (by decide) (by decide), State.nat_answerW _ _ _ (by decide) (by decide),
      State.nat_answerW _ _ _ (by decide) (by decide)]
    exact s.latClearEffect_clears

end Sys2Proof.Machine
end

section
/-! Proof of the statement on the fabric's errors: what an error counts and notes, and what a fence at each level takes. -/

namespace Sys2Proof.Machine

/-! ## Errors that are counted (R101, R102) -/

/-- An error counts in its region. -/
theorem State.fabError_counts (s : State) (kind level region block cell : Nat) (hr : region < 7) :
    (s.fabError kind level region block cell).nat (Reg.FAB_ERR_COUNT (region + 1)) =
      (s.nat (Reg.FAB_ERR_COUNT (region + 1)) + 1) % 4294967296 := by
  have hne : Reg.FAB_ERR_COUNT (region + 1) ≠ Reg.LAST_FAB_ERR := by
    simp only [Reg.FAB_ERR_COUNT, Reg.LAST_FAB_ERR, key]; omega
  rw [State.fabError, State.nat_putN, if_neg hne, State.nat_count, if_pos rfl]

/-- LAST_FAB_ERR shows the kind of an error in its lowest byte. -/
theorem State.fabError_kind (s : State) {kind : Nat} (level region block cell : Nat) (hk : kind < 256) :
    field ((s.fabError kind level region block cell).nat Reg.LAST_FAB_ERR) 7 0 = kind := by
  rw [State.fabError, State.nat_putN, if_pos rfl]
  simp only [field]
  omega

@[simp] theorem State.fabError_fab (s : State) (kind level region block cell : Nat) :
    (s.fabError kind level region block cell).fab = s.fab := by
  rw [State.fabError, State.putN_fab, State.count_fab]

/-- A discarded packet changes neither the fabric's objects nor its record. -/
theorem State.packetLost_sameFabric (s : State) : Same (fun i => i == 11 || i == 23) s s.packetLost :=
  State.packetLost_same (Same.refl _ _) rfl rfl

/-- What an error in region r of a kind leaves, whatever else it changes. -/
def ErrorNoted (r : Fin 7) (kind : Nat) (s t : State) : Prop :=
  t.fab = s.fab ∧ t.nat (Reg.FAB_ERR_COUNT (r.val + 1)) = (s.nat (Reg.FAB_ERR_COUNT (r.val + 1)) + 1) % 4294967296 ∧
    field (t.nat Reg.LAST_FAB_ERR) 7 0 = kind

theorem State.fabError_noted (s : State) {kind : Nat} (hk : kind < 256) (level block cell : Nat) (r : Fin 7) :
    ErrorNoted r kind s (s.fabError kind level r.val block cell) :=
  ⟨s.fabError_fab _ _ _ _ _, s.fabError_counts kind level r.val block cell r.isLt, s.fabError_kind level r.val block cell hk⟩

/-- An error stays noted through what changes neither the fabric's objects nor its record. -/
theorem ErrorNoted.trans {r : Fin 7} {kind : Nat} {s t u : State} (h : ErrorNoted r kind s t)
    (hs : Same (fun i => i == 11 || i == 23) t u) : ErrorNoted r kind s u := by
  obtain ⟨hfab, hcount, hkind⟩ := h
  have hlo : 0x50000 ≤ Reg.FAB_ERR_COUNT (r.val + 1) := by simp only [Reg.FAB_ERR_COUNT, key]; omega
  have hhi : Reg.FAB_ERR_COUNT (r.val + 1) < 0x60000 := by simp only [Reg.FAB_ERR_COUNT, key]; omega
  exact ⟨(hs.fab rfl).trans hfab, (hs.natFabric rfl hlo hhi).trans hcount, by
    rw [hs.natFabric rfl (by decide) (by decide), hkind]⟩

/-- The first parity error of a packet is noted, and on the second the packet is lost as well. -/
theorem exec_parityError {s : State} (hp : s.powered = true) (r : Fin 7) (l b c : Nat) :
    exec (.parityError r l b c false) s = .next (s.fabError 1 (l % 4) r.val b c) ∧
      exec (.parityError r l b c true) s = .next (s.fabError 6 (l % 4) r.val b c).packetLost :=
  ⟨congrArg Host.Outcome.next (State.live_of_powered hp _), congrArg Host.Outcome.next (State.live_of_powered hp _)⟩

theorem parityError_noted {s : State} (hp : s.powered = true) (r : Fin 7) (l b c : Nat) (second : Bool) :
    ∃ t, exec (.parityError r l b c second) s = .next t ∧ ErrorNoted r (if second then 6 else 1) s t := by
  obtain ⟨hfirst, hsecond⟩ := exec_parityError hp r l b c
  cases second with
  | false => exact ⟨_, hfirst, s.fabError_noted (by decide) _ _ _ _⟩
  | true => exact ⟨_, hsecond, (s.fabError_noted (by decide) _ _ _ _).trans (State.packetLost_sameFabric _)⟩

/-- A single-bit error is noted and corrected. -/
theorem exec_ensignSingleBitError {s : State} (hp : s.powered = true) (r : Fin 7) (l b c : Nat) :
    exec (.ensignSingleBitError r l b c) s = .next (s.fabError 2 (l % 4) r.val b c) :=
  congrArg Host.Outcome.next (State.live_of_powered hp _)

/-! ## Fences (R101, R103) -/

/-- What a new fence shows and does leaves the fences as they are. -/
@[simp] theorem State.fenceShown_fab (s : State) (r : Nat) : (s.fenceShown r).fab = s.fab :=
  Same.fab (m := (· == 23)) (by simp) rfl

@[simp] theorem State.fenceMeters_fab (s : State) : s.fenceMeters.fab = s.fab := Same.fab (m := (· == 23)) (by simp) rfl

@[simp] theorem State.enterReset_fab (s : State) (cause : Nat) : (s.enterReset cause).fab = s.fab :=
  Same.fab (m := (· == 23)) (by simp) rfl

theorem FabState.fenced_iff (f : FabState) (r b c : Nat) :
    f.fenced (r, b, c) = true ↔ r ∈ f.regions ∨ (r, b) ∈ f.blocks ∨ (r, b, c) ∈ f.cells := by
  simp [FabState.fenced, or_assoc]

/-- A fenced region is one of the fenced regions. -/
theorem State.fenceRegion_regions (s : State) (r : Nat) : r ∈ (s.fenceRegion r).fab.regions := by
  unfold State.fenceRegion
  split
  · simpa using ‹s.fab.regions.contains r = true›
  · dsimp only
    split <;> simp

/-- A fenced block lies in a fenced region or is one of the fenced blocks. -/
theorem State.fenceBlock_blocks (s : State) (r b : Nat) :
    r ∈ (s.fenceBlock r b).fab.regions ∨ (r, b) ∈ (s.fenceBlock r b).fab.blocks := by
  unfold State.fenceBlock
  split
  · simpa using ‹(s.fab.regions.contains r || s.fab.blocks.contains (r, b)) = true›
  · simp

/-- A fenced block has every cell of it fenced. -/
theorem State.fenceBlock_fenced (s : State) (r b c : Nat) : (s.fenceBlock r b).fab.fenced (r, b, c) = true :=
  (FabState.fenced_iff _ r b c).mpr ((s.fenceBlock_blocks r b).imp_right .inl)

/-- A fenced cell is fenced, by itself or with its block. -/
theorem State.fenceCell_fenced (s : State) (r b c : Nat) : (s.fenceCell r b c).fab.fenced (r, b, c) = true := by
  unfold State.fenceCell
  split
  · assumption
  · dsimp only
    split
    · exact State.fenceBlock_fenced _ r b c
    · simp [FabState.fenced_iff]

/-- The router counts a packet without its end mark where the packet was for it. -/
def State.endMarkMissed (s : State) : State :=
  if s.drawn.freeAt 11 % 2 == 1 then s.drawn.count Reg.EQ_MALFORMED_CNT else s.drawn

section
variable {s : State} (hp : s.powered = true) (r : Fin 7) (b c : Nat)
include hp

theorem exec_ensignUncorrectable :
    exec (.ensignUncorrectable r b c) s = .next ((s.fabError 3 0 r.val b c).itemLost.fenceCell r.val b c) :=
  congrArg Host.Outcome.next (State.live_of_powered hp _)

theorem exec_missingEndMark :
    exec (.missingEndMark r b c) s = .next ((s.fabError 5 0 r.val b c).endMarkMissed.fenceCell r.val b c) :=
  congrArg Host.Outcome.next (State.live_of_powered hp _)

theorem exec_cellStallTimeout :
    exec (.cellStallTimeout r b c) s = .next ((s.fabError 4 0 r.val b c).fenceCell r.val b c) :=
  congrArg Host.Outcome.next (State.live_of_powered hp _)

theorem exec_blockStallTimeout :
    exec (.blockStallTimeout r b) s = .next ((s.fabError 4 1 r.val b 0).fenceBlock r.val b) :=
  congrArg Host.Outcome.next (State.live_of_powered hp _)

theorem exec_regionStallTimeout :
    exec (.regionStallTimeout r) s = .next ((s.fabError 4 2 r.val 0 0).fenceRegion r.val) :=
  congrArg Host.Outcome.next (State.live_of_powered hp _)

end

/-! ## The chip's own stall (R101, R451) -/

theorem exec_chipStallTimeout {s : State} (hp : s.powered = true) :
    exec .chipStallTimeout s = .next (s.enterReset 0xFF08) :=
  congrArg Host.Outcome.next (State.live_of_powered hp _)

/-- A device that has left POR and is not in VAULT is held, with the cause of the reset. -/
theorem State.enterReset_holds {s : State} (hv : s.modes.vaultStep < 6) (hpor : s.power.por = false) (cause : Nat) :
    (s.enterReset cause).power.held = true ∧ (s.enterReset cause).power.cause = cause := by
  unfold State.enterReset
  rw [if_neg (by simp [hpor]; omega)]
  dsimp only
  rw [State.driveAll_power]
  exact ⟨rfl, rfl⟩

theorem State.vaultStep_lt_of_powered {s : State} (hp : s.powered = true) : s.modes.vaultStep < 6 := by
  simp only [State.powered, State.running, Bool.and_eq_true, decide_eq_true_eq] at hp
  exact hp.1.1

/-! ## The statement -/

/-- Settles O17: an error is noted and stays noted, each fence takes its part whatever error led to it, and the chip's stall is a
reset. -/
theorem fabricErrorsFence : Obligations.FabricErrorsFence := by
  refine ⟨fun s r l b c second hp => parityError_noted hp r l b c second,
    fun s r l b c hp => ⟨_, exec_ensignSingleBitError hp r l b c, s.fabError_noted (by decide) _ _ _ _⟩,
    fun s r b c hp => ⟨⟨_, exec_ensignUncorrectable hp r b c, State.fenceCell_fenced _ _ _ _⟩,
      ⟨_, exec_missingEndMark hp r b c, State.fenceCell_fenced _ _ _ _⟩,
      ⟨_, exec_cellStallTimeout hp r b c, State.fenceCell_fenced _ _ _ _⟩⟩,
    fun s r b hp => ⟨_, exec_blockStallTimeout hp r b, State.fenceBlock_fenced _ r.val b⟩,
    fun s r hp => ⟨_, exec_regionStallTimeout hp r, by simpa using State.fenceRegion_regions _ r.val⟩,
    fun s hp hpor => ⟨_, exec_chipStallTimeout hp, State.enterReset_holds (State.vaultStep_lt_of_powered hp) hpor _⟩⟩

end Sys2Proof.Machine
end

section
/-! What the operations on the phase groups and their engines write: the addresses of their elements, Pennants and deliveries, shedding,
and the bindings' readbacks. -/

namespace Sys2Proof.Machine

/-! ## Addresses (R13) -/

/-- Elements of different objects are different, in whatever groups they are. -/
theorem key_ne_of_object {g o e g' o' e' : Nat} (h : o ≠ o' := by decide) (he : e < 256 := by decide)
    (he' : e' < 256 := by decide) (ho : o < 256 := by decide) (ho' : o' < 256 := by decide) : key g o e ≠ key g' o' e' := by
  simp only [key]; omega

/-- The element of an object outside a list is no element of an object in it. -/
theorem ne_key_of_object {k g o e : Nat} {l : List Nat} (hk : keyO k ∉ l) (ho : o ∈ l := by decide)
    (ho' : o < 256 := by decide) (he : e < 256 := by decide) : k ≠ key g o e := by
  rintro rfl
  refine hk ?_
  have hobj : keyO (key g o e) = o := by simp only [keyO, key]; omega
  rwa [hobj]

/-- An element's object is the one its address names. -/
theorem keyO_notMem {g o e : Nat} {l : List Nat} (ho : o ∉ l := by decide) (ho' : o < 256 := by decide)
    (he : e < 256 := by decide) : keyO (key g o e) ∉ l := by
  have hobj : keyO (key g o e) = o := by simp only [keyO, key]; omega
  rwa [hobj]

theorem legE_lt (n : Fin 32) : legE n < 256 := by simp only [legE]; omega

/-- The elements of a phase group lie in 0x10:00 to 0x13:FF. -/
theorem phaseKey_bounds (n : Fin 32) {o e : Nat} (ho : o < 256) (he : e < 256) :
    0x100000 ≤ key (0x10 + legG n) o e ∧ key (0x10 + legG n) o e < 0x140000 := by
  simp only [key, legG]; omega

theorem State.int_of_get {s t : State} {k : Nat} (h : t.get k = s.get k) : t.int k = s.int k := congrArg Val.int h
theorem State.nat_of_get {s t : State} {k : Nat} (h : t.get k = s.get k) : t.nat k = s.nat k :=
  congrArg (fun v : Val => v.int.toNat) h

/-! ## Records of legs and groups -/

@[simp] theorem State.get_setLeg (s : State) (n : Fin 32) (l : Leg) (k : Nat) : (s.setLeg n l).get k = s.get k := rfl
@[simp] theorem State.setLeg_groups (s : State) (n : Fin 32) (l : Leg) : (s.setLeg n l).groups = s.groups := rfl
@[simp] theorem State.setLeg_legs (s : State) (n : Fin 32) (l : Leg) : (s.setLeg n l).legs = s.legs.set n l := rfl
@[simp] theorem State.setGroup_groups (s : State) (g : Fin 4) (x : Group) : (s.setGroup g x).groups = s.groups.set g x := rfl
@[simp] theorem State.setGroup_legs (s : State) (g : Fin 4) (x : Group) : (s.setGroup g x).legs = s.legs := rfl

/-- What holds of a leg's new record and of the old ones holds of every leg. -/
theorem State.setLeg_leg {β : Type} (s : State) (p : Leg → β) {n : Fin 32} {l : Leg} (hl : p l = p s.legs[n])
    (m : Fin 32) : p (s.setLeg n l).legs[m] = p s.legs[m] := by
  by_cases h : n = m
  · subst h; simpa using hl
  · have hv : n.val ≠ m.val := fun e => h (Fin.ext e)
    simp [hv]

/-- What no leg's step changes, the steps of a group's legs leave as it was. -/
theorem State.forLegs_leaves {β : Type} (p : State → β) {f : Fin 32 → State → State} (hf : ∀ n st, p (f n st) = p st)
    (s : State) (g : Fin 4) : p (s.forLegs g f) = p s :=
  foldl_keeps p (fun st i => f (legOf g i) st) (fun st i => hf (legOf g i) st) _ s

/-! ## Pennants (R365, R379) -/

/-- The events' record holds no element. -/
theorem State.get_withEv (s : State) (x : EvState) (k : Nat) : State.get { s with ev := x } k = s.get k := rfl

section
variable {k : Nat} (hk : k < 0xB00000 ∨ 0xB20000 ≤ k)
include hk

theorem State.get_archiveWrite (s : State) (p : Packet) (origin : Nat) : (s.archiveWrite p origin).get k = s.get k := by
  have hskip : k ≠ Reg.ARCH_SKIP_CNT := by simp only [Reg.ARCH_SKIP_CNT, key]; omega
  have hlast : k ≠ Reg.ARCH_LAST := by simp only [Reg.ARCH_LAST, key]; omega
  unfold State.archiveWrite
  dsimp only
  split
  · rw [State.get_count, if_neg hskip]
  · rw [State.get_withEv, State.get_putN, if_neg hlast]

theorem State.get_toOutbox (s : State) (p : Packet) : (s.toOutbox p).get k = s.get k := by
  have hdest : k ≠ Reg.PEN_NO_DEST_CNT := by simp only [Reg.PEN_NO_DEST_CNT, key]; omega
  have hdefer : k ≠ Reg.PEN_DEFERRED_CNT := by simp only [Reg.PEN_DEFERRED_CNT, key]; omega
  unfold State.toOutbox
  repeat' split
  · rw [State.get_count, if_neg hdest]
  · rfl
  · rfl
  · rw [State.deferPacket, State.get_withEv, State.get_count, if_neg hdefer]

theorem State.get_dispatch (s : State) (r : Route) (p : Packet) : (s.dispatch r p).get k = s.get k := by
  have harch : (if r.toArchive then s.archiveWrite p 0 else s).get k = s.get k := by
    split
    · exact State.get_archiveWrite hk _ _ _
    · rfl
  have hring (u : State) (c : Bool) : (if c then u.toOutbox p else u).get k = u.get k := by
    split
    · exact State.get_toOutbox hk _ _
    · rfl
  have hlane (u : State) : (if r.toLocal then u.toLane p else u).get k = u.get k := by split <;> rfl
  rw [State.dispatch, hring, hlane, harch]

theorem State.get_routePennant (s : State) (r : Route) (p : Packet) : (s.routePennant r p).get k = s.get k := by
  have hsupp : k ≠ Reg.PEN_SUPPRESSED_CNT := by simp only [Reg.PEN_SUPPRESSED_CNT, key]; omega
  have hcoal : k ≠ Reg.PEN_COALESCED_CNT := by simp only [Reg.PEN_COALESCED_CNT, key]; omega
  unfold State.routePennant
  dsimp only
  split
  · rw [State.get_count, if_neg hsupp]
  · split
    · rw [State.get_withEv, State.get_count, if_neg hcoal]
    · rw [State.get_dispatch hk]
      split <;> rfl

/-- A Pennant writes elements of the event groups 0xB0 and 0xB1 only. -/
theorem State.get_raise (s : State) (source event prio detailKind before extra : Nat) :
    (s.raise source event prio detailKind before extra).get k = s.get k := by
  have hseq : k ≠ Reg.PEN_SEQ_LAST := by simp only [Reg.PEN_SEQ_LAST, key]; omega
  unfold State.raise State.raiseVal
  split
  · rfl
  · rw [State.get_routePennant hk, State.get_putN, if_neg hseq]

theorem State.get_raise1 (s : State) (source event prio : Nat) (before : Val) :
    (s.raise1 source event prio before).get k = s.get k := State.get_raise hk _ _ _ _ _ _ _

theorem State.get_raiseCat (s : State) (source object condition : Nat) (before : Val) :
    (s.raiseCat source object condition before).get k = s.get k := State.get_raise hk _ _ _ _ _ _ _

end

/-! ## Deliveries (R111, R150) -/

/-- A delivered command word is no element. -/
@[simp] theorem State.get_deliverCmd (s : State) (n : Fin 32) (t w : Nat) (a b : Bool) (engine k : Nat) :
    (s.deliverCmd n t w a b engine).get k = s.get k := rfl

/-- The leg has seen a command, and its word is the newest update of the shadow. -/
theorem State.deliverCmd_eq (s : State) (n : Fin 32) (t w : Nat) (a b : Bool) (engine : Nat) :
    s.deliverCmd n t w a b engine = s.setLeg n { s.legs[n] with
      cmdSeen := true, shadow := s.legs[n].shadow ++ [⟨t, .cmd w a b engine, false, false, false⟩] } := by
  simp [State.deliverCmd, State.toShadow, State.setLeg, Upd.isCmd]

theorem State.deliverCmd_otOut (s : State) (n m : Fin 32) (t w : Nat) (a b : Bool) (engine : Nat) :
    (s.deliverCmd n t w a b engine).legs[m].otOut = s.legs[m].otOut := by
  rw [State.deliverCmd_eq]
  exact s.setLeg_leg (·.otOut) (by rfl) m

/-- CMD 0 for a leg is delivered by the engine that drives it, in RUN. -/
theorem State.deliverZero_of_driven {s : State} {n : Fin 32} {e : Fin 38} (he : s.engineOf n = some e)
    (hd : s.isDriven n = true) (hb : s.beh 6 = .run) (hr : s.enginesRun = true) :
    s.deliverZero n = s.deliverCmd n s.pwmNow 0 false false e := by
  have hbeh : s.modes.beh[(6 : Fin 8)] = .run := hb
  unfold State.deliverZero
  rw [he]
  simp [hd, hbeh, hr]

/-- CMD 0 is delivered as any command is, or nothing happens. -/
theorem State.deliverZero_leaves {β : Type} (p : State → β) (hp : ∀ st m t w a b e, p (st.deliverCmd m t w a b e) = p st)
    (s : State) (n : Fin 32) : p (s.deliverZero n) = p s := by
  unfold State.deliverZero
  split
  · split
    · exact hp _ _ _ _ _ _ _
    · rfl
  · rfl

@[simp] theorem State.get_deliverZero (s : State) (n : Fin 32) (k : Nat) : (s.deliverZero n).get k = s.get k :=
  State.deliverZero_leaves (·.get k) (fun _ _ _ _ _ _ _ => rfl) s n
@[simp] theorem State.deliverZero_groups (s : State) (n : Fin 32) : (s.deliverZero n).groups = s.groups :=
  State.deliverZero_leaves (·.groups) (fun _ _ _ _ _ _ _ => rfl) s n
@[simp] theorem State.deliverZero_otOut (s : State) (n m : Fin 32) : (s.deliverZero n).legs[m].otOut = s.legs[m].otOut :=
  State.deliverZero_leaves (·.legs[m].otOut) (fun st n' t w a b e => st.deliverCmd_otOut n' m t w a b e) s n

/-! ## Shedding (R149 to R151) -/

/-- Letting n legs carry changes, of a leg's record, what shedding and the delivery write. -/
theorem State.applyN_parts {β : Type} (p : State → β) (hz : ∀ st m, p (st.deliverZero m) = p st)
    (hl : ∀ (st : State) (m : Fin 32) (b : Bool) (e : Nat), p (st.setLeg m { st.legs[m] with shed := b, entry := e }) = p st)
    (s : State) (g : Fin 4) (n : Nat) :
    ∃ u : State, p u = p s ∧ s.applyN g n =
      (u.setGroup g { u.groups[g] with nTarget := n }).putN (Reg.N_ACTIVE g)
        ((u.setGroup g { u.groups[g] with nTarget := n }).carrying g).length := by
  refine ⟨_, State.forLegs_leaves p (fun m st => ?_) s g, rfl⟩
  dsimp only
  repeat' split
  · exact hl _ _ _ _
  · exact hl _ _ _ _
  · rfl
  · rw [hz, hl]
  · rfl

theorem State.get_applyN (s : State) (g : Fin 4) (n : Nat) {k : Nat} (hk : k ≠ Reg.N_ACTIVE g) :
    (s.applyN g n).get k = s.get k := by
  obtain ⟨u, hu, h⟩ := s.applyN_parts (·.get k) (fun st m => st.get_deliverZero m k) (fun _ _ _ _ => rfl) g n
  rw [h, State.get_putN, if_neg hk, State.get_setGroup, hu]

@[simp] theorem State.applyN_groups (s : State) (g : Fin 4) (n : Nat) :
    (s.applyN g n).groups = s.groups.set g { s.groups[g] with nTarget := n } := by
  obtain ⟨u, hu, h⟩ := s.applyN_parts (·.groups) State.deliverZero_groups (fun _ _ _ _ => rfl) g n
  rw [h, State.putN_groups, State.setGroup_groups, hu]

@[simp] theorem State.applyN_otOut (s : State) (g : Fin 4) (n : Nat) (m : Fin 32) :
    (s.applyN g n).legs[m].otOut = s.legs[m].otOut := by
  obtain ⟨u, hu, h⟩ := s.applyN_parts (·.legs[m].otOut) (fun st m' => st.deliverZero_otOut m' m)
    (fun st _ _ _ => st.setLeg_leg (·.otOut) (by rfl) m) g n
  rw [h, State.putN_legs, State.setGroup_legs, hu]

theorem State.get_refreshShed (s : State) (g : Fin 4) {k : Nat} (hk : k ≠ Reg.SHED_STATE g) :
    (s.refreshShed g).get k = s.get k := by
  rw [State.refreshShed, State.get_putN, if_neg hk]

theorem State.refreshShed_state (s : State) (g : Fin 4) : (s.refreshShed g).nat (Reg.SHED_STATE g) =
    if s.groups[g].windowOpen then 1 else if s.entering g then 3 else if s.groups[g].nTarget < 8 then 2 else 0 := by
  rw [State.refreshShed, State.nat_putN, if_pos rfl]

@[simp] theorem State.refreshShed_groups (s : State) (g : Fin 4) : (s.refreshShed g).groups = s.groups := rfl
@[simp] theorem State.refreshShed_legs (s : State) (g : Fin 4) : (s.refreshShed g).legs = s.legs := rfl

theorem State.get_reshed (s : State) (g : Fin 4) {k : Nat} (hn : k ≠ Reg.N_ACTIVE g) (hs : k ≠ Reg.SHED_STATE g) :
    (s.reshed g).get k = s.get k := by
  rw [State.reshed, State.get_refreshShed _ _ hs, State.get_applyN _ _ _ hn]

@[simp] theorem State.reshed_otOut (s : State) (g : Fin 4) (m : Fin 32) : (s.reshed g).legs[m].otOut = s.legs[m].otOut := by
  rw [State.reshed, State.refreshShed_legs, State.applyN_otOut]

/-! ## Bindings' readbacks (R132) -/

theorem State.get_refreshEngines (s : State) {k : Nat} (hk : ∀ e : Fin 38, k ≠ Reg.ENGINE_STATE e) :
    s.refreshEngines.get k = s.get k :=
  foldl_keeps (·.get k) _ (fun st e => by rw [State.get_putN, if_neg (hk e)]) _ s

theorem State.get_refreshCoolEngines (s : State) {k : Nat} (hk : ∀ i : Fin 4, k ≠ Reg.COOL_ENGINE i.val) :
    s.refreshCoolEngines.get k = s.get k := by
  refine foldl_keeps (·.get k) _ (fun st i => ?_) _ s
  dsimp only
  rw [State.get_putN, if_neg (hk i)]
  exact (apply_ite (fun u : State => u.get k) _ _ _).trans (ite_self _)

@[simp] theorem State.refreshEngines_rebinds (s : State) : s.refreshEngines.rebinds = s.rebinds :=
  Same.rebinds (m := (· == 30)) (by simp) rfl
@[simp] theorem State.refreshEngines_dict (s : State) : s.refreshEngines.dict = s.dict :=
  Same.dict (m := (· == 21)) (by simp) rfl

end Sys2Proof.Machine
end

section
/-! Proof of the statement on samples: what an edge sample leaves after a route fault it may bring, and what a regulation sample shows
of the voltages before its group and its engine take it. -/

namespace Sys2Proof.Machine

/-! ## The edge path (R139, R141) -/

theorem State.averageSample_edges (s : State) (n : Fin 32) (t : Nat) (i : Int) :
    (s.averageSample n t i).legs[n].edges = s.legs[n].edges := by
  unfold State.averageSample
  dsimp only
  split <;> exact s.setLeg_leg (·.edges) (by rfl) n

/-- A sample that covers the last of the completed period closes its average. -/
theorem State.averageSample_shows {s : State} {n : Fin 32} {t : Nat} (ho : s.legs[n].perOpen = true)
    (he : s.legs[n].perEnd ≤ t - 960) (hs : s.legs[n].perStart < s.legs[n].perEnd) (i : Int) :
    (s.averageSample n t i).int (Reg.I_MEAS (legG n) (legE n)) =
      Int.tdiv (s.legs[n].accPrev + i * overlap (t - 2240) (t - 960) s.legs[n].perStart s.legs[n].perEnd)
        ((s.legs[n].perEnd - s.legs[n].perStart : Nat) : Int) := by
  have hcover : (s.legs[n].perOpen && decide (s.legs[n].perEnd ≤ t - 960) &&
      decide (s.legs[n].perStart < s.legs[n].perEnd)) = true := by
    rw [ho, decide_eq_true he, decide_eq_true hs]; rfl
  unfold State.averageSample
  dsimp only
  rw [if_pos hcover, State.int_putI, if_pos rfl, if_pos ho]

/-- An edge sample joins the last three; of the elements it writes what the averages write. -/
theorem State.edgeSample_edges (s : State) (n : Fin 32) (t : Nat) (count : Int) :
    (s.edgeSample n t count).legs[n].edges =
      (s.legs[n].edges ++ [(t - 960, s.edgeCurrent n count)]).drop ((s.legs[n].edges.length + 1) - 3) := by
  rw [← s.averageSample_edges n t (s.edgeCurrent n count)]
  exact congrArg Leg.edges (Vector.getElem_set_self _)

theorem State.get_edgeSample (s : State) (n : Fin 32) (t : Nat) (count : Int) (k : Nat) :
    (s.edgeSample n t count).get k = (s.averageSample n t (s.edgeCurrent n count)).get k := rfl

/-! ## A route fault (R32, R33) -/

/-- Parking a leg leaves the edge samples of every leg. -/
theorem State.parkLeg_edges (s : State) (n m : Fin 32) : (s.parkLeg n).legs[m].edges = s.legs[m].edges := by
  unfold State.parkLeg State.putLeg
  dsimp only
  split <;> exact State.setLeg_leg _ (·.edges) (by rfl) m

/-- Of a group's elements parking a leg writes ON_MEAS and LEG_STATE. -/
theorem State.get_parkLeg_of_ne (s : State) (n : Fin 32) {k : Nat} (hon : k ≠ Reg.ON_MEAS (legG n) (legE n))
    (hst : k ≠ Reg.LEG_STATE (legG n) (legE n)) : (s.parkLeg n).get k = s.get k := by
  unfold State.parkLeg State.putLeg
  dsimp only
  rw [State.get_putN, if_neg hst, State.get_setLeg]
  split
  · rw [State.putFt, State.get_putN, if_neg hon]
  · rfl

/-- What parking a leg leaves, parking a group leaves. -/
theorem State.parkGroup_leaves {β : Type} (p : State → β) (hp : ∀ st n, p (State.parkLeg st n) = p st)
    (hg : ∀ st g x, p (State.setGroup st g x) = p st) (s : State) (g : Fin 4) : p (s.parkGroup g) = p s := by
  rw [State.parkGroup, hg, State.forLegs_leaves p fun n st => hp st n]

theorem State.routeFault_edges (s : State) (g : Fin 4) (m : Fin 32) :
    (s.routeFault g).legs[m].edges = s.legs[m].edges := by
  have hpost : (s.routeFault g).legs = ((s.dropRoute g).parkGroup g).legs := by
    unfold State.routeFault
    exact Same.legs (m := (· == 26)) (by simp) rfl
  have hpre : (s.dropRoute g).legs = s.legs := Same.legs (m := (· == 26)) (by simp) rfl
  rw [hpost, State.parkGroup_leaves (·.legs[m].edges) (fun st n => st.parkLeg_edges n m) (fun _ _ _ => rfl), hpre]

theorem State.get_routeFault_iMeas (s : State) (g : Fin 4) (n : Fin 32) :
    (s.routeFault g).get (Reg.I_MEAS (legG n) (legE n)) = s.get (Reg.I_MEAS (legG n) (legE n)) := by
  have hk : 0x100000 ≤ Reg.I_MEAS (legG n) (legE n) ∧ Reg.I_MEAS (legG n) (legE n) < 0x140000 :=
    phaseKey_bounds n (by decide) (legE_lt n)
  have hdrop : (s.dropRoute g).get (Reg.I_MEAS (legG n) (legE n)) = s.get (Reg.I_MEAS (legG n) (legE n)) :=
    Same.below5 (m := (· == 5)) (by simp) rfl _ (Nat.zero_le _) (by omega) (tally_of_le hk.1)
  have hpark (st : State) (m : Fin 32) :
      (st.parkLeg m).get (Reg.I_MEAS (legG n) (legE n)) = st.get (Reg.I_MEAS (legG n) (legE n)) :=
    st.get_parkLeg_of_ne m (key_ne_of_object (he := legE_lt n) (he' := legE_lt m))
      (key_ne_of_object (he := legE_lt n) (he' := legE_lt m))
  rw [State.routeFault, State.get_raise1 (.inl (by omega)), State.get_putRoute, if_neg (key_ne_of_object (he := legE_lt n)),
    State.parkGroup_leaves (·.get _) hpark (fun _ _ _ => rfl), hdrop]

/-- A current that is a route fault leaves the leg's samples and its average. -/
theorem State.routeCurrent_edges (s : State) (g : Fin 4) (m : Fin 32) :
    (s.routeCurrent g).legs[m].edges = s.legs[m].edges := by
  unfold State.routeCurrent
  split
  · exact s.routeFault_edges g m
  · rfl

theorem State.int_routeCurrent_iMeas (s : State) (g : Fin 4) (n : Fin 32) :
    (s.routeCurrent g).int (Reg.I_MEAS (legG n) (legE n)) = s.int (Reg.I_MEAS (legG n) (legE n)) := by
  unfold State.routeCurrent
  split
  · exact State.int_of_get (s.get_routeFault_iMeas g n)
  · rfl

theorem exec_edgeSample {s : State} (hp : s.powered = true) (n : Fin 32) (t : Nat) (count : Int) :
    exec (.edgeSample n t count) s = .next ((s.edgeSample n t count).routeCurrent (legGroup n)) :=
  congrArg Host.Outcome.next (State.live_of_powered hp _)

/-! ## The regulation path (R138, R140) -/

/-- The group's voltages of a sample, scaled and shown. -/
def State.showVolts (s : State) (g : Fin 4) (vin vout : Int) (ratio : Nat) : State :=
  let u := s.setGroup g { s.groups[g] with
    vin := voltOf vin (s.int (Reg.VB_FS g)) ratio, vout := voltOf vout (s.int (Reg.VO_FS g)) ratio }
  (u.putI (Reg.V_IN_MEAS g) u.groups[g].vin).putI (Reg.V_OUT_MEAS g) u.groups[g].vout

/-- What a sample of its reference leg does for a group. -/
def State.stepGroup (s : State) (g : Fin 4) (n : Fin 32) (t ts pin : Nat) : State :=
  if s.isReference n then ((s.commandSample g t ts pin).shedSample g t).stepLimit g else s

/-- The computation and its LOOP trace. -/
def State.computeTraced (s : State) (e : Fin 38) (n : Fin 32) : State :=
  let u := s.compute e n
  u.traceLoop n (u.nat (Reg.BOUNDARY_COUNT (legG n) (legE n))) (s.loopIn n e).iavg u.engines[e].lastI

/-- The command just computed goes into the leg's shadow in RUN. -/
def State.computeDelivered (s : State) (e : Fin 38) (n : Fin 32) (t : Nat) : State :=
  let x := (s.compute e n).engines[e]
  let u := s.computeTraced e n
  if u.modes.beh[(6 : Fin 8)] == .run then
    (u.deliverCmd n t x.lastCmd x.lastA x.lastB e.val).measureLat Reg.LAT_SAMPLE_TO_PWM 14 180 true
  else u

/-- The engine's running state is mirrored once a millisecond. -/
def State.mirrorLoop (s : State) (e : Fin 38) (n : Fin 32) (t ts : Nat) : State :=
  if t / 640000 != (t - 6400 * ts) / 640000 then s.mirror (.loop e (s.loopImage e n)) else s

/-- A sample up to its delivery. -/
def State.sampled (s : State) (e : Fin 38) (n : Fin 32) (t : Nat) (vin vout : Int) (pin : Nat) : State :=
  let u := ({ s with pwmNow := max s.pwmNow t } : State).unsilence e n
  let v := u.showVolts (legGroup n) vin vout (decimation (s.nat (Reg.LOOP_RATE e)))
  (v.stepGroup (legGroup n) n t (sampleUs (s.nat (Reg.LOOP_RATE e))) pin).computeDelivered e n t

/-- Outside a rebind a sample of a running engine that drives a leg takes each of its steps, with a command delivered in RUN. -/
theorem State.loopSample_of_driving {s : State} {e : Fin 38} {n : Fin 32} (hreb : s.rebinds = [])
    (hf : s.engineFenced e = false) (hrun : s.enginesRun = true) (hb : s.nat (Reg.BIND_ACTIVE e) = n)
    (he : s.engineOf n = some e) (t : Nat) (vin vout : Int) (pin : Nat) :
    s.loopSample e t vin vout pin = ((s.sampled e n t vin vout pin).mirrorLoop e n t (sampleUs (s.nat (Reg.LOOP_RATE e)))).rebindCopy e := by
  have hguard : ¬(s.engineFenced e || !s.enginesRun) = true := by rw [hf, hrun]; decide
  have hbound : ¬(decide (32 ≤ s.nat (Reg.BIND_ACTIVE e)) || decide (s.engineOf (s.nat (Reg.BIND_ACTIVE e)) ≠ some e)) = true := by
    rw [hb, he]; simp
  obtain rfl : legIx (s.nat (Reg.BIND_ACTIVE e)) = n := by rw [hb]; exact Fin.ext (Nat.mod_eq_of_lt n.isLt)
  unfold State.loopSample
  refine (if_neg hguard).trans ?_
  split
  · rename_i r hr
    rw [hreb] at hr
    cases hr
  · exact if_neg hbound

/-! ## What a sample leaves of the voltages -/

theorem State.get_noteShut (s : State) (g : Fin 4) (k : Nat) : (s.noteShut g).get k = s.get k :=
  State.forLegs_leaves (·.get k) (fun _ st => by dsimp only; split <;> rfl) s g

theorem State.get_shedCancel (s : State) (g : Fin 4) {k : Nat} (hk : keyO k ∉ [0x5A, 0x5B, 0x61]) :
    (s.shedCancel g).get k = s.get k := by
  unfold State.shedCancel
  rw [State.get_refreshShed _ _ (ne_key_of_object hk), State.get_count, if_neg (ne_key_of_object hk),
    State.get_applyN _ _ _ (ne_key_of_object hk), State.get_setGroup]

theorem State.get_closeWindow (s : State) (g : Fin 4) {k : Nat} (hk : k ≠ Reg.SHED_STATE g) :
    (s.closeWindow g).get k = s.get k := by
  rw [State.closeWindow, State.get_refreshShed _ _ hk, State.get_setGroup]

/-- Shedding at a sample writes N_ACTIVE, SHED_STATE and SHED_CANCEL_CNT. -/
theorem State.get_shedSample (s : State) (g : Fin 4) (t : Nat) {k : Nat} (hk : keyO k ∉ [0x5A, 0x5B, 0x61]) :
    (s.shedSample g t).get k = s.get k := by
  have hn : k ≠ Reg.N_ACTIVE g := ne_key_of_object hk
  have hst : k ≠ Reg.SHED_STATE g := ne_key_of_object hk
  have hlet (u : State) (n : Nat) : ((u.applyN g n).refreshShed g).get k = u.get k := by
    rw [State.get_refreshShed _ _ hst, State.get_applyN _ _ _ hn]
  unfold State.shedSample
  extract_lets u v x sum c
  have hv : v.get k = s.get k := by
    have hu : u.get k = s.get k := (State.get_reshed _ _ hn hst).trans (s.get_noteShut g k)
    rw [← hu]
    dsimp only [v]
    split
    · exact u.get_closeWindow g hst
    · rfl
  rw [← hv]
  split
  · split
    · rfl
    · rw [hlet, State.get_setGroup]
  · split
    · rw [State.get_shedCancel _ _ hk]
    · split
      · rw [hlet]
      · rw [State.get_setGroup]

section
variable {k : Nat} (hb : k < 0xB00000)
include hb

theorem State.get_setpFaultOn (s : State) (g : Fin 4) (hk : k ≠ Reg.SETP_FAULT g) : (s.setpFaultOn g).get k = s.get k := by
  unfold State.setpFaultOn
  split
  · rfl
  · rw [State.get_raiseCat (.inl hb), State.get_setGroup, State.putBit, State.get_putN, if_neg hk]

/-- The group command at a sample writes I_GROUP_CMD, and SETP_FAULT where the pin is out of range. -/
theorem State.get_commandSample (s : State) (g : Fin 4) (t ts pin : Nat) (hk : keyO k ∉ [0x59, 0x64]) :
    (s.commandSample g t ts pin).get k = s.get k := by
  unfold State.commandSample
  extract_lets x u y target step moved c z v
  have hu : u.get k = s.get k := by
    dsimp only [u]
    split
    · rfl
    · exact State.get_setpFaultOn hb s g (ne_key_of_object hk)
  have hv : v.get k = s.get k := by
    dsimp only [v]
    split
    · rfl
    · split
      · rfl
      · rw [State.get_setGroup, hu]
  rw [State.get_putI, if_neg (ne_key_of_object hk), hv]

theorem State.get_stepGroup (s : State) (g : Fin 4) (n : Fin 32) (t ts pin : Nat)
    (hk : keyO k ∉ [0x59, 0x5A, 0x5B, 0x61, 0x62, 0x64]) : (s.stepGroup g n t ts pin).get k = s.get k := by
  unfold State.stepGroup
  split
  · unfold State.stepLimit
    dsimp only
    have hk' : keyO k ∉ [0x5A, 0x5B, 0x61] ∧ keyO k ∉ [0x59, 0x64] := by simp at hk ⊢; omega
    split
    · rw [State.get_count, if_neg (ne_key_of_object hk), State.get_shedSample _ _ _ hk'.1,
        State.get_commandSample hb _ _ _ _ _ hk'.2]
    · rw [State.get_shedSample _ _ _ hk'.1, State.get_commandSample hb _ _ _ _ _ hk'.2]
  · rfl

end

@[simp] theorem State.get_setEngine (s : State) (e : Fin 38) (x : Engine) (k : Nat) : (s.setEngine e x).get k = s.get k := rfl

section
variable {k : Nat} (hk : k < 0x200000)
include hk

theorem ne_engineKey {e o x : Nat} : k ≠ key (0x20 + e) o x := by simp only [key]; omega

theorem State.get_regionSample (s : State) (e : Fin 38) (i : LoopIn) : (s.regionSample e i).1.get k = s.get k := by
  have hcount (c : Prop) [Decidable c] (u : State) (o : Nat) :
      (if c then u.count (key (0x20 + e) o 0) else u).get k = u.get k := by
    split
    · rw [State.get_count, if_neg (ne_engineKey hk)]
    · rfl
  unfold State.regionSample
  extract_lets x err r s1 bs r' z u v w
  split
  · rw [hcount, hcount, State.get_putN, if_neg (ne_engineKey hk), State.get_setEngine]
  · rw [State.get_setEngine]

/-- The computation writes the readbacks of its engine. -/
theorem State.get_compute (s : State) (e : Fin 38) (n : Fin 32) : (s.compute e n).get k = s.get k := by
  unfold State.compute
  extract_lets i q u x r o cmd v
  rw [State.get_putI, if_neg (ne_engineKey hk), State.get_putI, if_neg (ne_engineKey hk), State.get_setEngine,
    State.get_regionSample hk]

end

theorem State.get_measureLat (s : State) {k j : Nat} (hj : j ≠ k) (place boundTicks : Nat) (bounded : Bool) :
    (s.measureLat k place boundTicks bounded).get j = s.get j := by
  have hmax (m : Nat) : (s.putMax k m).drawn.get j = s.get j := by
    unfold State.putMax
    split
    · exact (s.get_putN k j m).trans (if_neg hj)
    · rfl
  unfold State.measureLat
  split
  · rfl
  · exact hmax _

theorem State.get_computeDelivered (s : State) (e : Fin 38) (n : Fin 32) (t : Nat) {k : Nat} (hl : 0x100000 ≤ k)
    (hk : k < 0x200000) : (s.computeDelivered e n t).get k = s.get k := by
  have hlat : k ≠ Reg.LAT_SAMPLE_TO_PWM := by simp only [Reg.LAT_SAMPLE_TO_PWM, key]; omega
  have htrace : (s.computeTraced e n).get k = (s.compute e n).get k :=
    Same.below8 (m := (· == 8)) (State.traceLoop_same _ _ _ _ (Same.refl _ _) rfl) rfl k (Nat.zero_le _) (by omega)
      (tally_of_le hl)
  unfold State.computeDelivered
  dsimp only
  split
  · rw [State.get_measureLat _ hlat, State.get_deliverCmd, htrace, State.get_compute hk]
  · rw [htrace, State.get_compute hk]

theorem State.get_mirrorLoop (s : State) (e : Fin 38) (n : Fin 32) (t ts k : Nat) :
    (s.mirrorLoop e n t ts).get k = s.get k := by
  unfold State.mirrorLoop
  split
  · rw [State.get_mirror]
  · rfl

/-- Returning from silence writes ENGINE_STATE and what shedding writes. -/
theorem State.get_unsilence (s : State) (e : Fin 38) (n : Fin 32) {k : Nat} (hk : keyO k ∉ [0x05, 0x5A, 0x5B]) :
    (s.unsilence e n).get k = s.get k := by
  unfold State.unsilence
  split
  · rw [State.get_reshed _ _ (ne_key_of_object hk) (ne_key_of_object hk), State.get_putN, if_neg (ne_key_of_object hk),
      State.get_setLeg]
  · rfl

theorem State.showVolts_shows (s : State) (g : Fin 4) (vin vout : Int) (ratio : Nat) :
    (s.showVolts g vin vout ratio).int (Reg.V_IN_MEAS g) = voltOf vin (s.int (Reg.VB_FS g)) ratio ∧
      (s.showVolts g vin vout ratio).int (Reg.V_OUT_MEAS g) = voltOf vout (s.int (Reg.VO_FS g)) ratio := by
  unfold State.showVolts
  constructor
  · rw [State.int_putI, if_neg key_ne_of_object, State.int_putI, if_pos rfl]
    simp
  · rw [State.int_putI, if_pos rfl]
    simp

section
variable (s : State) (e : Fin 38) (n : Fin 32) (t : Nat) (vin vout : Int) (pin ts : Nat)

/-- The voltages of a sample are shown as scaled by the full scales committed, whatever the rest of it writes. -/
theorem State.sampled_shows :
    ((s.sampled e n t vin vout pin).mirrorLoop e n t ts).int (Reg.V_IN_MEAS (legG n)) =
        voltOf vin (s.int (Reg.VB_FS (legG n))) (decimation (s.nat (Reg.LOOP_RATE e))) ∧
      ((s.sampled e n t vin vout pin).mirrorLoop e n t ts).int (Reg.V_OUT_MEAS (legG n)) =
        voltOf vout (s.int (Reg.VO_FS (legG n))) (decimation (s.nat (Reg.LOOP_RATE e))) := by
  let u := ({ s with pwmNow := max s.pwmNow t } : State).unsilence e n
  obtain ⟨hin, hout⟩ := u.showVolts_shows (legGroup n) vin vout (decimation (s.nat (Reg.LOOP_RATE e)))
  have hvb : u.int (Reg.VB_FS (legG n)) = s.int (Reg.VB_FS (legG n)) := State.int_of_get (State.get_unsilence _ _ _ keyO_notMem)
  have hvo : u.int (Reg.VO_FS (legG n)) = s.int (Reg.VO_FS (legG n)) := State.int_of_get (State.get_unsilence _ _ _ keyO_notMem)
  have hkept {o : Nat} (ho : o < 256) (hno : o ∉ [0x59, 0x5A, 0x5B, 0x61, 0x62, 0x64]) :
      ((s.sampled e n t vin vout pin).mirrorLoop e n t ts).get (key (0x10 + legG n) o 0) =
        (u.showVolts (legGroup n) vin vout (decimation (s.nat (Reg.LOOP_RATE e)))).get (key (0x10 + legG n) o 0) := by
    obtain ⟨hlo, hhi⟩ := phaseKey_bounds n ho (e := 0) (by decide)
    rw [State.get_mirrorLoop]
    unfold State.sampled
    dsimp only
    rw [State.get_computeDelivered _ _ _ _ hlo (by omega), State.get_stepGroup (by omega) _ _ _ _ _ _ (keyO_notMem hno ho)]
  exact ⟨by rw [← hvb]; exact (State.int_of_get (hkept (o := 0x5E) (by decide) (by decide))).trans hin,
    by rw [← hvo]; exact (State.int_of_get (hkept (o := 0x5F) (by decide) (by decide))).trans hout⟩

end

/-! ## The delivery -/

/-- The delivered command is the newest update of the leg's shadow, and what the engine shows as its last. -/
def Delivered (e : Fin 38) (n : Fin 32) (t : Nat) (s : State) : Prop :=
  s.legs[n].cmdSeen = true ∧ s.legs[n].shadow.getLast? =
    some ⟨t, .cmd s.engines[e].lastCmd s.engines[e].lastA s.engines[e].lastB e, false, false, false⟩

theorem State.computeDelivered_delivers {s : State} (hrun : s.beh 6 = .run) (e : Fin 38) (n : Fin 32) (t : Nat) :
    Delivered e n t (s.computeDelivered e n t) := by
  have htraced : Same (fun i => i == 22 || i == 27) (s.compute e n) (s.computeTraced e n) :=
    State.traceLoop_same _ _ _ _ (Same.refl _ _) rfl
  have hbeh : ((s.computeTraced e n).modes.beh[(6 : Fin 8)] == .run) = true := by
    have hm : (s.compute e n).modes = s.modes := Same.modes (m := (· == 22)) (by simp) rfl
    rw [htraced.modes rfl, hm]
    exact beq_iff_eq.mpr hrun
  unfold State.computeDelivered
  extract_lets x u
  rw [if_pos hbeh]
  have hx : (u.deliverCmd n t x.lastCmd x.lastA x.lastB e.val).engines[e] = x := congrArg (·[e]) (htraced.engines rfl)
  have hlat : Same (fun i => i == 26 || i == 27) (u.deliverCmd n t x.lastCmd x.lastA x.lastB e.val)
    ((u.deliverCmd n t x.lastCmd x.lastA x.lastB e.val).measureLat Reg.LAT_SAMPLE_TO_PWM 14 180 true) := by simp
  unfold Delivered
  rw [hlat.legs rfl, hlat.engines rfl, hx, State.deliverCmd_eq]
  simp

theorem State.computeDelivered_rebinds (s : State) (e : Fin 38) (n : Fin 32) (t : Nat) :
    (s.computeDelivered e n t).rebinds = s.rebinds := by
  have htraced : (s.computeTraced e n).rebinds = s.rebinds :=
    Same.rebinds (m := (· == 30)) (State.traceLoop_same _ _ _ _ (by simp) rfl) rfl
  unfold State.computeDelivered
  extract_lets x u
  rw [← htraced]
  split
  · exact Same.rebinds (m := (· == 30)) (s := u) (by simp) rfl
  · rfl

theorem State.rebindCopy_of_none {s : State} (h : s.rebinds = []) (e : Fin 38) : s.rebindCopy e = s := by
  simp [State.rebindCopy, h]

/-- Mirroring the running state sends it and changes nothing else. -/
theorem State.mirrorLoop_same (s : State) (e : Fin 38) (n : Fin 32) (t ts : Nat) :
    Same (fun i => i == 26 || i == 27 || i == 30) s (s.mirrorLoop e n t ts) := by
  unfold State.mirrorLoop
  split <;> simp

/-- A sample moves no class and begins no rebind before its computation. -/
theorem State.stepGroup_same {t₀ s : State} (h : Same (fun i => i == 22 || i == 30) t₀ s) (g : Fin 4) (n : Fin 32)
    (t ts pin : Nat) : Same (fun i => i == 22 || i == 30) t₀ (s.stepGroup g n t ts pin) := by
  unfold State.stepGroup
  split <;> simp (maxDischargeDepth := 60) [h]

theorem State.showVolts_same {t₀ s : State} (h : Same (fun i => i == 22 || i == 30) t₀ s) (g : Fin 4) (vin vout : Int)
    (ratio : Nat) : Same (fun i => i == 22 || i == 30) t₀ (s.showVolts g vin vout ratio) := by
  simp (maxDischargeDepth := 60) [State.showVolts, h]

/-- A sample up to its delivery begins no rebind and is delivered where the engines class is in RUN. -/
theorem State.sampled_delivers {s : State} (hrun : s.beh 6 = .run) (hreb : s.rebinds = []) (e : Fin 38) (n : Fin 32) (t : Nat)
    (vin vout : Int) (pin : Nat) :
    (s.sampled e n t vin vout pin).rebinds = [] ∧ Delivered e n t (s.sampled e n t vin vout pin) := by
  unfold State.sampled
  extract_lets u v
  have hu : Same (fun i => i == 22 || i == 30) s u := by simp (maxDischargeDepth := 60) [u]
  have hw := State.stepGroup_same (State.showVolts_same hu (legGroup n) vin vout (decimation (s.nat (Reg.LOOP_RATE e))))
    (legGroup n) n t (sampleUs (s.nat (Reg.LOOP_RATE e))) pin
  have hbeh : (v.stepGroup (legGroup n) n t (sampleUs (s.nat (Reg.LOOP_RATE e))) pin).beh 6 = .run :=
    (congrArg (fun m : ModeState => m.beh[(6 : Fin 8)]) (hw.modes rfl)).trans hrun
  exact ⟨by rw [State.computeDelivered_rebinds, hw.rebinds rfl, hreb], State.computeDelivered_delivers hbeh e n t⟩

theorem Delivered.mirrorLoop {e : Fin 38} {n : Fin 32} {t : Nat} {s : State} (h : Delivered e n t s) (ts : Nat) :
    Delivered e n t (s.mirrorLoop e n t ts) := by
  have hs := s.mirrorLoop_same e n t ts
  unfold Delivered
  rw [hs.legs rfl, hs.engines rfl]
  exact h

theorem exec_loopSample {s : State} (hp : s.powered = true) (e : Fin 38) (t : Nat) (vin vout : Int) (pin : Nat) :
    exec (.loopSample e t vin vout pin) s = .next (s.loopSample e t vin vout pin) :=
  congrArg Host.Outcome.next (State.live_of_powered hp _)

/-! ## The statement -/

/-- Settles O25: the voltages are shown before the group and the engine take the sample, neither of which writes them, and the delivery
is the last the sample does for the leg; of an edge sample a route fault takes nothing back. -/
theorem loopAndEdgeSamples : Obligations.LoopAndEdgeSamples := by
  refine ⟨fun s e n x vin vout pin hp hreb hf hbeh hrun hb he => ?_, fun s n x count hp => ?_⟩
  · obtain ⟨hrebinds, hdel⟩ := State.sampled_delivers hbeh hreb e n x vin vout pin
    obtain ⟨hin, hout⟩ := s.sampled_shows e n x vin vout pin (sampleUs (s.nat (Reg.LOOP_RATE e)))
    have hnone := ((State.mirrorLoop_same _ e n x (sampleUs (s.nat (Reg.LOOP_RATE e)))).rebinds rfl).trans hrebinds
    refine ⟨_, exec_loopSample hp e x vin vout pin, ?_⟩
    rw [State.loopSample_of_driving hreb hf hrun hb he, State.rebindCopy_of_none hnone]
    exact ⟨hin, hout, hdel.mirrorLoop _⟩
  · refine ⟨_, exec_edgeSample hp n x count, ?_, fun ho hend hlt => ?_⟩
    · rw [State.routeCurrent_edges, State.edgeSample_edges]
    · rw [State.int_routeCurrent_iMeas, State.int_of_get (State.get_edgeSample _ _ _ _ _),
        State.averageSample_shows ho hend hlt]

end Sys2Proof.Machine
end

section
/-! Proof of the statement on setpoints, stage temperature and shed decisions, and on engine rebinds: what each command writes, and what
the Pennants, deliveries and readbacks beside it leave alone. -/

namespace Sys2Proof.Machine

/-! ## Setpoint deliveries (R145, R146) -/

/-- A group that is given a target while its command stands at a value: it takes the target at once, or begins a ramp to it. -/
def Group.given (x : Group) (target now : Int) (at_ ns : Nat) : Group :=
  if nearer target now && target != now then
    { x with grantTarget := target, target := target, cmd := target, rampNs := 0, rateNum := 0, rateDen := 1 }
  else
    { x with grantTarget := target, target := target, cmd := now, rampFrom := now, rampAt := at_, rampNs := ns,
             rateNum := target - now, rateDen := ns }

section
variable (x : Group) (target now : Int) (at_ ns : Nat)

theorem Group.given_target : (x.given target now at_ ns).target = target := by
  unfold Group.given
  split <;> rfl

theorem Group.given_of_nearer (h : nearer target now = true) (hne : target ≠ now) :
    (x.given target now at_ ns).cmd = target ∧ (x.given target now at_ ns).rampNs = 0 := by
  rw [Group.given, if_pos (by simp [h, hne])]
  exact ⟨rfl, rfl⟩

theorem Group.given_of_ramp (h : nearer target now = false) : (x.given target now at_ ns).cmd = now ∧
    (x.given target now at_ ns).rampFrom = now ∧ (x.given target now at_ ns).rampAt = at_ ∧
    (x.given target now at_ ns).rampNs = ns := by
  rw [Group.given, if_neg (by simp [h])]
  exact ⟨rfl, rfl, rfl, rfl⟩

end

/-- A group's record is set and its command shown. -/
def State.setGroupShown (s : State) (g : Fin 4) (x : Group) : State :=
  (s.setGroup g x).putI (Reg.I_GROUP_CMD g) (s.setGroup g x).groups[g].cmd

theorem State.setGroupShown_group (s : State) (g : Fin 4) (x : Group) : (s.setGroupShown g x).groups[g] = x :=
  Vector.getElem_set_self _

theorem State.setGroupShown_cmd (s : State) (g : Fin 4) (x : Group) :
    (s.setGroupShown g x).int (Reg.I_GROUP_CMD g) = x.cmd := by
  rw [State.setGroupShown, State.int_putI, if_pos rfl]
  exact congrArg Group.cmd (Vector.getElem_set_self _)

section
variable {s : State} {g : Fin 4} (hsrc : s.nat (Reg.SETP_SRC g) = 0) (hstop : s.groups[g].portStopped = false)
  (hne : s.grantTarget g (s.int (Reg.PG_GRANT (g.val + 1))) ≠ s.groups[g].target)
include hsrc hstop hne

/-- A GRANT delivery without a PORT_STOP that differs from the target gives it to the group. -/
theorem State.deliverSetpoint_of_grant (t : Nat) :
    s.deliverSetpoint g t = State.setGroupShown { s with pwmNow := max s.pwmNow t } g
      (s.groups[g].given (s.grantTarget g (s.int (Reg.PG_GRANT (g.val + 1)))) (s.groups[g].rampValue t) t (s.rampTime g)) := by
  have hpin : ¬(s.nat (Reg.SETP_SRC g) != 0) = true := by simp [hsrc]
  have hstop' : ¬s.groups[g].portStopped = true := by rw [hstop]; decide
  unfold State.deliverSetpoint
  rw [if_neg hstop']
  refine (if_neg hpin).trans ((if_neg (mt beq_iff_eq.mp hne)).trans ?_)
  extract_lets y now v
  have hnow : now = s.groups[g].rampValue t := if_neg hstop'
  have hv : v = State.setGroup { s with pwmNow := max s.pwmNow t } g
      (s.groups[g].given (s.grantTarget g (s.int (Reg.PG_GRANT (g.val + 1)))) now t (s.rampTime g)) := by
    unfold Group.given
    exact (apply_ite _ _ _ _).symm
  rw [hv, hnow]
  rfl

theorem setpointDelivery_delivers (hp : s.powered = true) (t : Nat) :
    ∃ u, exec (.setpointDelivery g t) s = .next u ∧
      u.groups[g].target = s.grantTarget g (s.int (Reg.PG_GRANT (g.val + 1))) ∧ u.int (Reg.I_GROUP_CMD g) = u.groups[g].cmd ∧
      (nearer u.groups[g].target (s.groups[g].rampValue t) = true → u.groups[g].target ≠ s.groups[g].rampValue t →
        u.groups[g].cmd = u.groups[g].target ∧ u.groups[g].rampNs = 0) ∧
      (nearer u.groups[g].target (s.groups[g].rampValue t) = false → u.groups[g].cmd = s.groups[g].rampValue t ∧
        u.groups[g].rampFrom = s.groups[g].rampValue t ∧ u.groups[g].rampAt = t ∧ u.groups[g].rampNs = s.rampTime g) := by
  refine ⟨_, congrArg Host.Outcome.next (State.live_of_powered hp _), ?_⟩
  rw [State.deliverSetpoint_of_grant hsrc hstop hne, State.setGroupShown_cmd, State.setGroupShown_group, Group.given_target]
  exact ⟨rfl, rfl, fun h hne => Group.given_of_nearer _ _ _ _ _ h hne, fun h => Group.given_of_ramp _ _ _ _ _ h⟩

end

/-! ## Pin faults (R145) -/

theorem State.raiseCat_groups (s : State) (source object condition : Nat) (before : Val) :
    (s.raiseCat source object condition before).groups = s.groups := State.raise_groups _ _ _ _ _ _ _

/-- The bit is set and the target goes to zero. -/
def State.pinFaulted (s : State) (g : Fin 4) : State :=
  let u := s.putBit (Reg.SETP_FAULT g) 0 true
  u.setGroup g { u.groups[g] with target := 0 }

/-- Where the bit is not set yet, it is set with a Pennant. -/
theorem State.setpFaultOn_of_clear {s : State} {g : Fin 4} (h : bit (s.nat (Reg.SETP_FAULT g)) 0 = false) :
    s.setpFaultOn g = (s.pinFaulted g).raiseCat ((0x10 + g.val) * 256) 0x64 2 (s.get (Reg.SETP_FAULT g)) :=
  if_neg (by rw [h]; decide)

theorem State.setpFaultOn_faults (s : State) (g : Fin 4) : bit ((s.setpFaultOn g).nat (Reg.SETP_FAULT g)) 0 = true ∧
    (bit (s.nat (Reg.SETP_FAULT g)) 0 = false → (s.setpFaultOn g).groups[g].target = 0) := by
  cases h : bit (s.nat (Reg.SETP_FAULT g)) 0 with
  | true =>
    have hs : s.setpFaultOn g = s := if_pos h
    rw [hs]
    exact ⟨h, nofun⟩
  | false =>
    have hk : Reg.SETP_FAULT g < 0xB00000 := by simp only [Reg.SETP_FAULT, key]; omega
    have hbit : bit ((s.pinFaulted g).nat (Reg.SETP_FAULT g)) 0 = true := (s.bit_putBit _ 0 0 true).trans (if_pos rfl)
    have htarget : (s.pinFaulted g).groups[g].target = 0 := congrArg Group.target (Vector.getElem_set_self _)
    simp only [State.setpFaultOn_of_clear h, State.raiseCat_groups, State.nat_of_get (State.get_raiseCat (.inl hk) _ _ _ _ _)]
    exact ⟨hbit, fun _ => htarget⟩

theorem exec_setpFault {s : State} {g : Fin 4} (hp : s.powered = true) (hsrc : s.nat (Reg.SETP_SRC g) ≠ 0) :
    exec (.setpFault g) s = .next (s.setpFaultOn g) :=
  congrArg Host.Outcome.next ((State.live_of_powered hp _).trans (if_neg (by simpa using hsrc)))

theorem exec_setpFaultClear {s : State} (hp : s.powered = true) (g : Fin 4) :
    exec (.setpFaultClear g) s = .next (s.putBit (Reg.SETP_FAULT g) 0 false) :=
  congrArg Host.Outcome.next (State.live_of_powered hp _)

/-! ## Stage temperature (R148) -/

theorem State.engineOf_congr {s t : State} (h : ∀ e : Fin 38, t.nat (Reg.BIND_ACTIVE e) = s.nat (Reg.BIND_ACTIVE e))
    (target : Nat) : t.engineOf target = s.engineOf target := by
  simp only [State.engineOf, h]

/-- What decides whether and where a CMD 0 is delivered to a leg is the same in two states. -/
structure DrivesAlike (s t : State) : Prop where
  legs : t.legs = s.legs
  pwmNow : t.pwmNow = s.pwmNow
  modes : t.modes = s.modes
  fab : t.fab = s.fab
  upd : t.upd = s.upd
  bist : t.get Reg.BIST_STATE = s.get Reg.BIST_STATE
  bind : ∀ e : Fin 38, t.get (Reg.BIND_ACTIVE e) = s.get (Reg.BIND_ACTIVE e)

theorem DrivesAlike.trans {a b c : State} (h : DrivesAlike a b) (h' : DrivesAlike b c) : DrivesAlike a c :=
  ⟨h'.legs.trans h.legs, h'.pwmNow.trans h.pwmNow, h'.modes.trans h.modes, h'.fab.trans h.fab, h'.upd.trans h.upd,
    h'.bist.trans h.bist, fun e => (h'.bind e).trans (h.bind e)⟩

/-- Writing an element of a phase group changes nothing of it. -/
theorem State.put_drivesAlike (s : State) {k : Nat} (hl : 0x100000 ≤ k) (hk : k < 0x200000) (v : Val) : DrivesAlike s (s.put k v) := by
  refine ⟨rfl, rfl, rfl, rfl, rfl, ?_, fun e => ?_⟩
  · rw [State.get_put, if_neg (by simp only [Reg.BIST_STATE, key]; omega)]
  · rw [State.get_put, if_neg (by simp only [Reg.BIND_ACTIVE, key]; omega)]

theorem State.raise1_drivesAlike (s : State) (source event prio : Nat) (before : Val) :
    DrivesAlike s (s.raise1 source event prio before) := by
  have h : Same (fun i => i == 22 || i == 23 || i == 25 || i == 26 || i == 41) s (s.raise1 source event prio before) := by simp
  exact ⟨h.legs rfl, h.pwmNow rfl, h.modes rfl, h.fab rfl, h.upd rfl, State.get_raise1 (.inr (by decide)) _ _ _ _ _,
    fun e => State.get_raise1 (.inl (by simp only [Reg.BIND_ACTIVE, key]; omega)) _ _ _ _ _⟩

section
variable {s t : State} (h : DrivesAlike s t)
include h

theorem DrivesAlike.engineOf (target : Nat) : t.engineOf target = s.engineOf target :=
  State.engineOf_congr (fun e => State.nat_of_get (h.bind e)) target

theorem DrivesAlike.isDriven (n : Fin 32) : t.isDriven n = s.isDriven n := by
  simp only [State.isDriven, h.engineOf, State.engineFenced, State.groupFenced, h.fab, h.legs]

theorem DrivesAlike.enginesRun : t.enginesRun = s.enginesRun := by
  simp only [State.enginesRun, State.blackLoop, State.testing, State.bistFenced, State.nat_of_get h.bist, h.modes, h.upd, h.fab]

end

/-- A leg has shut down since s: the bit, the count, and CMD 0 from the engine that drives it in RUN. -/
def ShutSince (s : State) (n : Fin 32) (t : State) : Prop :=
  t.legShut n = true ∧
    t.nat (Reg.OT_SHUT_CNT (legG n) (legE n)) = (s.nat (Reg.OT_SHUT_CNT (legG n) (legE n)) + 1) % 4294967296 ∧
    ∀ e, s.engineOf n = some e → s.isDriven n = true → s.beh 6 = .run → s.enginesRun = true →
      t.legs[n].shadow = s.legs[n].shadow ++ [⟨s.pwmNow, .cmd 0 false false e, false, false, false⟩]

/-- The elements of a leg's group are none of the events'. -/
theorem phaseKey_notEvents (n : Fin 32) {o e : Nat} (ho : o < 256) (he : e < 256) :
    key (0x10 + legG n) o e < 0xB00000 ∨ 0xB20000 ≤ key (0x10 + legG n) o e :=
  .inl (Nat.lt_trans (phaseKey_bounds n ho he).2 (by decide))

/-- A shutdown's Pennant takes nothing of it back. -/
theorem ShutSince.raise1 {s t : State} {n : Fin 32} (h : ShutSince s n t) (source event prio : Nat) (before : Val) :
    ShutSince s n (t.raise1 source event prio before) := by
  obtain ⟨hbit, hcnt, hcmd⟩ := h
  refine ⟨?_, ?_, fun e he hd hb hr => ?_⟩
  · unfold State.legShut
    rw [State.nat_of_get (State.get_raise1 (phaseKey_notEvents n (by decide) (by decide)) _ _ _ _ _)]
    exact hbit
  · rw [State.nat_of_get (State.get_raise1 (phaseKey_notEvents n (by decide) (legE_lt n)) _ _ _ _ _), hcnt]
  · rw [(t.raise1_drivesAlike source event prio before).legs, hcmd e he hd hb hr]

@[simp] theorem State.nat_deliverZero (s : State) (n : Fin 32) (k : Nat) : (s.deliverZero n).nat k = s.nat k :=
  State.nat_of_get (s.get_deliverZero n k)

/-- Of the elements a shutdown itself writes its count. -/
theorem State.get_otShut (s : State) (n : Fin 32) {k : Nat} (hk : k ≠ Reg.OT_SHUT_CNT (legG n) (legE n)) :
    (s.otShut n).get k = s.get k := by
  rw [State.otShut, State.get_deliverZero, State.get_count, if_neg hk]

/-- A leg whose bit is set shuts down, from whatever state drives it as s does and has counted as s has. -/
theorem State.otShut_shutSince {s u : State} {n : Fin 32} (hd : DrivesAlike s u) (hbit : u.legShut n = true)
    (hcnt : u.get (Reg.OT_SHUT_CNT (legG n) (legE n)) = s.get (Reg.OT_SHUT_CNT (legG n) (legE n))) :
    ShutSince s n (u.otShut n) := by
  obtain ⟨hlo, hhi⟩ := phaseKey_bounds n (o := 0x63) (by decide) (legE_lt n)
  have hc : DrivesAlike s (u.count (Reg.OT_SHUT_CNT (legG n) (legE n))) :=
    hd.trans (u.put_drivesAlike hlo (Nat.lt_trans hhi (by decide)) _)
  refine ⟨?_, ?_, fun e he hdr hb hr => ?_⟩
  · unfold State.legShut
    rw [State.nat_of_get (u.get_otShut n (key_ne_of_object (he' := legE_lt n)))]
    exact hbit
  · rw [State.otShut, State.nat_deliverZero, State.nat_count, if_pos rfl, State.nat_of_get hcnt]
  · rw [State.otShut, State.deliverZero_of_driven ((hc.engineOf n).trans he) ((hc.isDriven n).trans hdr)
      ((congrArg (fun m : ModeState => m.beh[(6 : Fin 8)]) hc.modes).trans hb) (hc.enginesRun.trans hr), State.deliverCmd_eq,
      hc.legs, hc.pwmNow]
    simp

/-- Setting a bit writes its own element only. -/
theorem State.get_putBit_of_ne (s : State) {k j : Nat} (h : j ≠ k) (i : Nat) (b : Bool) : (s.putBit k i b).get j = s.get j :=
  (s.get_putN k j _).trans (if_neg h)

/-- The bits of a leg's shutdown on its sensor. -/
def State.sensorFaulted (s : State) (n : Fin 32) : State :=
  (s.putBit (Reg.OT_STATUS (legG n)) (8 + n.val % 8) true).putBit (Reg.OT_STATUS (legG n)) (16 + n.val % 8) true

theorem State.sensorFaulted_drivesAlike (s : State) (n : Fin 32) : DrivesAlike s (s.sensorFaulted n) := by
  obtain ⟨hlo, hhi⟩ := phaseKey_bounds n (o := 0x5D) (e := 0) (by decide) (by decide)
  have hhi' := Nat.lt_trans hhi (by decide : 0x140000 < 0x200000)
  exact (s.put_drivesAlike hlo hhi' _).trans (State.put_drivesAlike _ hlo hhi' _)

/-- A reading outside the range, where the sensor's bit is clear. -/
theorem State.ntcSample_of_outside {s : State} {n : Fin 32} {ohms : Nat} {c : Int}
    (hc : ntcTemp ohms (s.nat (Reg.NTC_RNOM (legG n) (legE n))) (s.nat (Reg.NTC_BETA (legG n) (legE n))) = c)
    (hout : c < -4500 ∨ 20000 < c) (hbit : bit (s.nat (Reg.OT_STATUS (legG n))) (16 + n.val % 8) = false) :
    s.ntcSample n ohms = ((s.sensorFaulted n).otShut n).raise1 ((0x10 + legG n) * 256 + legE n) 0x25D 2
      (s.get (Reg.OT_STATUS (legG n))) := by
  unfold State.ntcSample
  dsimp only
  rw [hc, if_pos (by simpa using hout), if_neg (by rw [hbit]; decide)]
  rfl

theorem State.ntcSample_outside_shuts {s : State} {n : Fin 32} {ohms : Nat} {c : Int}
    (hc : ntcTemp ohms (s.nat (Reg.NTC_RNOM (legG n) (legE n))) (s.nat (Reg.NTC_BETA (legG n) (legE n))) = c)
    (hout : c < -4500 ∨ 20000 < c) (hbit : bit (s.nat (Reg.OT_STATUS (legG n))) (16 + n.val % 8) = false) :
    bit ((s.ntcSample n ohms).nat (Reg.OT_STATUS (legG n))) (16 + n.val % 8) = true ∧ ShutSince s n (s.ntcSample n ohms) := by
  rw [State.ntcSample_of_outside hc hout hbit]
  refine ⟨?_, (State.otShut_shutSince (s.sensorFaulted_drivesAlike n) ?_ ?_).raise1 _ _ _ _⟩
  · rw [State.nat_of_get (State.get_raise1 (phaseKey_notEvents n (by decide) (by decide)) _ _ _ _ _),
      State.nat_of_get (State.get_otShut _ n (key_ne_of_object (he' := legE_lt n))), State.sensorFaulted, State.bit_putBit,
      if_pos rfl]
  · rw [State.legShut, State.sensorFaulted, State.bit_putBit, if_neg (by omega), State.bit_putBit, if_pos rfl]
  · rw [State.sensorFaulted, State.get_putBit_of_ne _ (key_ne_of_object (he := legE_lt n)),
      State.get_putBit_of_ne _ (key_ne_of_object (he := legE_lt n))]

/-- A reading inside the range is shown, and sets or clears the leg's warning. -/
def State.ntcWarned (s : State) (n : Fin 32) (c : Int) : State :=
  let u := s.putI (Reg.T_STAGE (legG n) (legE n)) c
  if u.int (Reg.OT_WARN (legG n)) ≤ c || u.int (Reg.OT_SHUT (legG n)) ≤ c then
    if bit (s.nat (Reg.OT_STATUS (legG n))) (n.val % 8) then u
    else (u.putBit (Reg.OT_STATUS (legG n)) (n.val % 8) true).raise1 ((0x10 + legG n) * 256 + legE n) 0x05D 2
      (s.get (Reg.OT_STATUS (legG n)))
  else if c < u.int (Reg.OT_WARN (legG n)) - u.int (Reg.OT_HYST (legG n)) then
    u.putBit (Reg.OT_STATUS (legG n)) (n.val % 8) false
  else u

/-- After its warning, a reading inside the range shuts the leg down or lets it return. -/
theorem State.ntcSample_of_inside {s : State} {n : Fin 32} {ohms : Nat} {c : Int}
    (hc : ntcTemp ohms (s.nat (Reg.NTC_RNOM (legG n) (legE n))) (s.nat (Reg.NTC_BETA (legG n) (legE n))) = c)
    (hlo : -4500 ≤ c) (hhi : c ≤ 20000) :
    s.ntcSample n ohms =
      if (s.ntcWarned n c).int (Reg.OT_SHUT (legG n)) ≤ c then
        if s.legShut n then s.ntcWarned n c
        else (((s.ntcWarned n c).putBit (Reg.OT_STATUS (legG n)) (8 + n.val % 8) true).otShut n).raise1
          ((0x10 + legG n) * 256 + legE n) 0x15D 1 ((s.ntcWarned n c).get (Reg.OT_STATUS (legG n)))
      else if s.legShut n && !bit (s.nat (Reg.OT_STATUS (legG n))) (16 + n.val % 8) &&
          c < (s.ntcWarned n c).int (Reg.OT_SHUT (legG n)) - (s.ntcWarned n c).int (Reg.OT_HYST (legG n))
        then (s.ntcWarned n c).otReturn n
      else s.ntcWarned n c := by
  unfold State.ntcSample
  dsimp only
  rw [hc, if_neg (by simp; omega)]
  rfl

section
variable (s : State) (n : Fin 32) (c : Int)

/-- What holds of the shown reading, and of every warning written after it, holds after the warning. -/
theorem State.ntcWarned_of {p : State → Prop} (hshown : p (s.putI (Reg.T_STAGE (legG n) (legE n)) c))
    (hbit : ∀ b, p ((s.putI (Reg.T_STAGE (legG n) (legE n)) c).putBit (Reg.OT_STATUS (legG n)) (n.val % 8) b))
    (hraise : ∀ u source event prio before, p u → p (u.raise1 source event prio before)) : p (s.ntcWarned n c) := by
  unfold State.ntcWarned
  dsimp only
  split
  · split
    · exact hshown
    · exact hraise _ _ _ _ _ (hbit true)
  · split
    · exact hbit false
    · exact hshown

theorem State.ntcWarned_shows : (s.ntcWarned n c).int (Reg.T_STAGE (legG n) (legE n)) = c := by
  refine s.ntcWarned_of n c (p := fun u => u.int _ = c) ?_ (fun b => ?_) fun u source event prio before h => ?_
  · rw [State.int_putI, if_pos rfl]
  · rw [State.int_of_get (State.get_putBit_of_ne _ (key_ne_of_object (he := legE_lt n)) _ _), State.int_putI,
      if_pos rfl]
  · rw [State.int_of_get (State.get_raise1 (phaseKey_notEvents n (by decide) (legE_lt n)) _ _ _ _ _), h]

/-- Beside the reading and the status bits, the group's elements are left alone. -/
theorem State.get_ntcWarned {o e : Nat} (ho : o < 256) (he : e < 256) (hno : o ∉ [0x5C, 0x5D]) :
    (s.ntcWarned n c).get (key (0x10 + legG n) o e) = s.get (key (0x10 + legG n) o e) := by
  simp only [List.mem_cons, List.not_mem_nil, or_false, not_or] at hno
  have hshown : (s.putI (Reg.T_STAGE (legG n) (legE n)) c).get (key (0x10 + legG n) o e) = s.get (key (0x10 + legG n) o e) := by
    rw [State.get_putI, if_neg (key_ne_of_object hno.1 he (legE_lt n) ho)]
  refine s.ntcWarned_of n c (p := fun u => u.get _ = _) hshown (fun b => ?_) fun u source event prio before h => ?_
  · rw [State.get_putBit_of_ne _ (key_ne_of_object hno.2 he (by decide) ho), hshown]
  · rw [State.get_raise1 (phaseKey_notEvents n ho he), h]

theorem State.ntcWarned_drivesAlike : DrivesAlike s (s.ntcWarned n c) := by
  obtain ⟨htlo, hthi⟩ := phaseKey_bounds n (o := 0x5C) (by decide) (legE_lt n)
  obtain ⟨hlo, hhi⟩ := phaseKey_bounds n (o := 0x5D) (e := 0) (by decide) (by decide)
  have hshown := s.put_drivesAlike htlo (Nat.lt_trans hthi (by decide)) (.num c)
  exact s.ntcWarned_of n c hshown (fun b => hshown.trans (State.put_drivesAlike _ hlo (Nat.lt_trans hhi (by decide)) _))
    fun u source event prio before h => h.trans (u.raise1_drivesAlike source event prio before)

end

theorem State.ntcWarned_otShut (s : State) (n : Fin 32) (c : Int) :
    (s.ntcWarned n c).int (Reg.OT_SHUT (legG n)) = s.int (Reg.OT_SHUT (legG n)) :=
  State.int_of_get (s.get_ntcWarned n c (by decide) (by decide) (by decide))

theorem State.ntcWarned_warns {s : State} {n : Fin 32} {c : Int} (h : s.int (Reg.OT_SHUT (legG n)) ≤ c) :
    bit ((s.ntcWarned n c).nat (Reg.OT_STATUS (legG n))) (n.val % 8) = true := by
  have hshut : (s.putI (Reg.T_STAGE (legG n) (legE n)) c).int (Reg.OT_SHUT (legG n)) = s.int (Reg.OT_SHUT (legG n)) := by
    rw [State.int_putI, if_neg (key_ne_of_object (he' := legE_lt n))]
  unfold State.ntcWarned
  dsimp only
  rw [if_pos (by simp [hshut, h])]
  split
  next hset => rwa [State.nat_of_get ((State.get_putI _ _ _ _).trans (if_neg (key_ne_of_object (he' := legE_lt n))))]
  next =>
    rw [State.nat_of_get (State.get_raise1 (phaseKey_notEvents n (by decide) (by decide)) _ _ _ _ _), State.bit_putBit, if_pos rfl]

/-- A returning leg's bits are clear, and it counts among the available legs again. -/
theorem State.otReturn_returns (s : State) (n : Fin 32) :
    bit ((s.otReturn n).nat (Reg.OT_STATUS (legG n))) (16 + n.val % 8) = false ∧
      bit ((s.otReturn n).nat (Reg.OT_STATUS (legG n))) (8 + n.val % 8) = false ∧ (s.otReturn n).legs[n].otOut = false := by
  unfold State.otReturn
  dsimp only
  rw [State.nat_of_get (State.get_reshed _ _ key_ne_of_object key_ne_of_object), State.reshed_otOut,
    State.nat_of_get (State.get_setLeg _ _ _ _)]
  refine ⟨?_, ?_, ?_⟩
  · rw [State.bit_putBit, if_pos rfl]
  · rw [State.bit_putBit, if_neg (by omega), State.bit_putBit, if_pos rfl]
  · exact congrArg Leg.otOut (Vector.getElem_set_self _)

theorem State.get_otReturn (s : State) (n : Fin 32) {k : Nat} (hk : keyO k ∉ [0x5D, 0x5A, 0x5B]) :
    (s.otReturn n).get k = s.get k := by
  unfold State.otReturn
  dsimp only
  rw [State.get_reshed _ _ (ne_key_of_object hk) (ne_key_of_object hk), State.get_setLeg, State.get_putBit_of_ne _ (ne_key_of_object hk),
    State.get_putBit_of_ne _ (ne_key_of_object hk)]

/-- The shutdown on a reading inside the range, from the state its warning leaves. -/
theorem State.ntcWarned_shuts (s : State) (n : Fin 32) (c : Int) :
    ShutSince s n (((s.ntcWarned n c).putBit (Reg.OT_STATUS (legG n)) (8 + n.val % 8) true).otShut n) := by
  obtain ⟨hlo, hhi⟩ := phaseKey_bounds n (o := 0x5D) (e := 0) (by decide) (by decide)
  refine State.otShut_shutSince ((s.ntcWarned_drivesAlike n c).trans
    (State.put_drivesAlike _ hlo (Nat.lt_trans hhi (by decide)) _)) ?_ ?_
  · rw [State.legShut, State.bit_putBit, if_pos rfl]
  · rw [State.get_putBit_of_ne _ (key_ne_of_object (he := legE_lt n)), s.get_ntcWarned n c (by decide) (legE_lt n) (by decide)]

theorem State.ntcSample_inside {s : State} {n : Fin 32} {ohms : Nat} {c : Int}
    (hc : ntcTemp ohms (s.nat (Reg.NTC_RNOM (legG n) (legE n))) (s.nat (Reg.NTC_BETA (legG n) (legE n))) = c)
    (hlo : -4500 ≤ c) (hhi : c ≤ 20000) :
    (s.ntcSample n ohms).int (Reg.T_STAGE (legG n) (legE n)) = c ∧
      (s.int (Reg.OT_SHUT (legG n)) ≤ c → bit ((s.ntcSample n ohms).nat (Reg.OT_STATUS (legG n))) (n.val % 8) = true ∧
        (s.legShut n = false → ShutSince s n (s.ntcSample n ohms))) := by
  have hshown := s.ntcWarned_shows n c
  rw [State.ntcSample_of_inside hc hlo hhi, s.ntcWarned_otShut n c]
  by_cases hshut : s.int (Reg.OT_SHUT (legG n)) ≤ c
  · rw [if_pos hshut]
    have hwarns := State.ntcWarned_warns hshut
    cases hbit : s.legShut n with
    | true => exact ⟨hshown, fun _ => ⟨hwarns, nofun⟩⟩
    | false =>
      rw [if_neg (by decide)]
      refine ⟨?_, fun _ => ⟨?_, fun _ => (s.ntcWarned_shuts n c).raise1 _ _ _ _⟩⟩
      · rw [State.int_of_get (State.get_raise1 (phaseKey_notEvents n (by decide) (legE_lt n)) _ _ _ _ _),
          State.int_of_get (State.get_otShut _ n (key_ne_of_object (he := legE_lt n) (he' := legE_lt n))),
          State.int_of_get (State.get_putBit_of_ne _ (key_ne_of_object (he := legE_lt n)) _ _), hshown]
      · rw [State.nat_of_get (State.get_raise1 (phaseKey_notEvents n (by decide) (by decide)) _ _ _ _ _),
          State.nat_of_get (State.get_otShut _ n (key_ne_of_object (he' := legE_lt n))), State.bit_putBit, if_neg (by omega), hwarns]
  · rw [if_neg hshut]
    refine ⟨?_, fun h => absurd h hshut⟩
    split
    · rw [State.int_of_get (State.get_otReturn _ _ (keyO_notMem (by decide) (by decide) (legE_lt n))), hshown]
    · exact hshown

theorem exec_ntcSample {s : State} (hp : s.powered = true) (n : Fin 32) (ohms : Nat) :
    exec (.ntcSample n ohms) s = .next (s.ntcSample n ohms) :=
  congrArg Host.Outcome.next (State.live_of_powered hp _)

theorem exec_sensorValidReturn {s : State} {n : Fin 32} (hp : s.powered = true)
    (hbit : bit (s.nat (Reg.OT_STATUS (legG n))) (16 + n.val % 8) = true)
    (hcool : s.int (Reg.T_STAGE (legG n) (legE n)) < s.int (Reg.OT_SHUT (legG n)) - s.int (Reg.OT_HYST (legG n))) :
    exec (.sensorValidReturn n) s = .next (s.otReturn n) :=
  congrArg Host.Outcome.next ((State.live_of_powered hp _).trans (if_pos (by simp [hbit, hcool])))

/-! ## Shed decisions and their window (R149, R151) -/

/-- A shed to n legs: the window opens, the legs leave, the shed counts. -/
def State.shedTo (s : State) (g : Fin 4) (n : Nat) : State :=
  let u := s.setGroup g
    { s.groups[g] with nBefore := s.groups[g].nTarget, windowOpen := true, windowFrom := none, candRun := 0 }
  ((u.applyN g n).count (Reg.SHED_CNT g)).refreshShed g

theorem State.shedTo_group (s : State) (g : Fin 4) (n : Nat) : (s.shedTo g n).groups[g] =
    { s.groups[g] with nTarget := n, nBefore := s.groups[g].nTarget, windowOpen := true, windowFrom := none, candRun := 0 } := by
  simp [State.shedTo]

theorem State.shedTo_state (s : State) (g : Fin 4) (n : Nat) : (s.shedTo g n).nat (Reg.SHED_STATE g) = 1 := by
  have hopen := congrArg Group.windowOpen (s.shedTo_group g n)
  exact (State.refreshShed_state _ g).trans (if_pos hopen)

theorem State.shedTo_counts (s : State) (g : Fin 4) (n : Nat) :
    (s.shedTo g n).nat (Reg.SHED_CNT g) = (s.nat (Reg.SHED_CNT g) + 1) % 4294967296 := by
  unfold State.shedTo
  dsimp only
  rw [State.nat_of_get (State.get_refreshShed _ _ key_ne_of_object), State.nat_count, if_pos rfl,
    State.nat_of_get (State.get_applyN _ _ _ key_ne_of_object), State.nat_of_get (State.get_setGroup _ _ _ _)]

theorem exec_shedDecision {s : State} {g : Fin 4} (hp : s.powered = true) (hen : s.nat (Reg.SHED_EN g) = 1)
    (hfewer : s.groups[g].candN < s.groups[g].nTarget) (hheld : s.nat (Reg.SHED_DWELL g) ≤ s.groups[g].candRun) :
    exec (.shedDecision g) s = .next (s.shedTo g s.groups[g].candN) :=
  congrArg Host.Outcome.next ((State.live_of_powered hp _).trans (if_pos (by simp only [hen, hfewer, hheld]; decide)))

theorem State.closeWindow_closed (s : State) (g : Fin 4) : (s.closeWindow g).groups[g].windowOpen = false := by
  simp [State.closeWindow]

/-- With the window closed SHED_STATE does not say window. -/
theorem State.refreshShed_ne_window {s : State} {g : Fin 4} (h : s.groups[g].windowOpen = false) :
    (s.refreshShed g).nat (Reg.SHED_STATE g) ≠ 1 := by
  rw [State.refreshShed_state, if_neg (ne_true_of_eq_false h)]
  repeat' split
  all_goals decide

theorem State.closeWindow_state (s : State) (g : Fin 4) : (s.closeWindow g).nat (Reg.SHED_STATE g) ≠ 1 :=
  State.refreshShed_ne_window (s.closeWindow_closed g)

theorem exec_shedWindowClose {s : State} {g : Fin 4} (hp : s.powered = true) (hopen : s.groups[g].windowOpen = true) :
    exec (.shedWindowClose g) s = .next (if s.groups[g].windowFrom.isSome then s.closeWindow g else s) := by
  refine congrArg Host.Outcome.next ((State.live_of_powered hp _).trans ?_)
  rw [hopen, Bool.true_and]

/-! ## Accepting a rebind (R136) -/

theorem State.refusedWith_res (s : State) (c : CmdId) (detail : Nat) :
    ((s.refusedWith c detail).res c).status = .refused ∧ ((s.refusedWith c detail).res c).detail = detail := by
  simp [State.refusedWith, State.endCmd]

/-- A rebind begun is under way, whatever a cold one does at once. -/
theorem State.beginRebind_begins (s : State) (target newE : Nat) (auto : Bool) :
    ∃ r ∈ (s.beginRebind target newE auto).rebinds, r.newE = newE ∧ r.target = target := by
  unfold State.beginRebind
  extract_lets old warm oldN r u nE v w x y z l t
  have hu : r ∈ u.rebinds := List.mem_append_right _ (List.mem_singleton_self r)
  refine ⟨r, ?_, rfl, rfl⟩
  split
  · exact hu
  · have hv : v.rebinds = u.rebinds := by
      dsimp only [v]
      clear_value old
      split <;> rfl
    have hx : x.rebinds = v.rebinds := by
      dsimp only [x]
      split <;> rfl
    have hleg : Same (· == 30) x t := by
      dsimp only [t]
      split <;> simp (maxDischargeDepth := 60) [y]
    have ht : Same (· == 30) t t.refreshEngines.refreshCoolEngines := by simp
    rwa [ht.rebinds rfl, hleg.rebinds rfl, hx, hv]

theorem State.beginRebind_res (s : State) (target newE : Nat) (auto : Bool) (c : CmdId) :
    (s.beginRebind target newE auto).res c = s.res c :=
  have h : Same (· == 21) s (s.beginRebind target newE auto) := by simp
  congrArg (fun d : DictState => d.res[cmdIdx c]) (h.dict rfl)

/-- The behaviours of the engines class under which ENGINE_REBIND is refused. -/
def State.enginesOff (s : State) : Prop := s.beh 6 = .service ∨ s.beh 6 = .idle ∨ s.beh 6 = .off

theorem State.rebindBar_of_off {s : State} (h : s.enginesOff) : s.rebindBar = some 0x0001 :=
  if_pos (by simpa [State.enginesOff, State.beh, or_assoc] using h)

theorem State.rebindBar_of_on {s : State} (h : ¬s.enginesOff) : s.rebindBar = if s.isStandby then some 0x0003 else none :=
  if_neg (by simpa [State.enginesOff, State.beh, and_assoc] using h)

theorem exec_engineRebind {s : State} {h : Hdr} {a : Nat} (ha : Accepts s h (cmdBase .engineRebind + 1) a) :
    exec (.engineRebind h a) s = .next (((s.startCmd .engineRebind a).engineRebind a).answerW h .ok) :=
  congrArg Host.Outcome.next (State.hostCmd_accepts ha _)

section
variable {s : State} (a : Nat)

theorem State.engineRebind_of_off (hoff : s.enginesOff) : s.engineRebind a = s.refusedWith .engineRebind 0x0001 :=
  if_pos (by rw [State.rebindBar_of_off hoff]; decide)

variable (hon : ¬s.enginesOff)
include hon

/-- In another behaviour the engine's BIND comes next, then the standby, then the fence. -/
theorem State.engineRebind_of_on : s.engineRebind a =
    if s.nat (Reg.BIND (field a 15 8)) ≠ 0xFF then s.refusedWith .engineRebind 0x0002
    else if s.isStandby then s.refusedWith .engineRebind 0x0003
    else if s.engineFenced (field a 15 8) then s.refusedWith .engineRebind 0x0100
    else s.beginRebind (field a 7 0) (field a 15 8) false := by
  unfold State.engineRebind
  dsimp only
  rw [State.rebindBar_of_on hon]
  cases s.isStandby <;> simp

end

/-! ## The switch (R137, step 3) -/

theorem bindActive_ne {e o : Nat} (h : e ≠ o) : Reg.BIND_ACTIVE e ≠ Reg.BIND_ACTIVE o := by simp only [Reg.BIND_ACTIVE, key]; omega
theorem bind_ne {e o : Nat} (h : e ≠ o) : Reg.BIND e ≠ Reg.BIND o := by simp only [Reg.BIND, key]; omega

/-- The bindings' readbacks are none of the bindings in force. -/
theorem State.nat_bindActive_refreshed (s : State) (e : Nat) :
    s.refreshEngines.refreshCoolEngines.nat (Reg.BIND_ACTIVE e) = s.nat (Reg.BIND_ACTIVE e) :=
  State.nat_of_get ((State.get_refreshCoolEngines _ fun _ => key_ne_of_object).trans
    (State.get_refreshEngines _ fun _ => key_ne_of_object))

/-- The new engine's binding is in force and the old one's is not. -/
def State.switched (s : State) (r : Rebind) (e : Fin 38) : State :=
  let s := { s with rebinds := s.rebinds.map fun x => if x = r then { r with phase := 2 } else x }
  let s := if r.oldE == 0xFF then s else s.putN (Reg.BIND_ACTIVE r.oldE) 0xFF
  let s := if 0x40 <= r.target then
      let o : Fin 4 := Fin.ofNat 4 r.target
      { s with cools := s.cools.set o { s.cools[o] with engine := e.val } }
    else s
  (s.putN (Reg.BIND_ACTIVE e) r.target).refreshEngines.refreshCoolEngines

theorem exec_rebindSwitch {s : State} {r : Rebind} {e : Fin 38} (hp : s.powered = true) (hreb : s.rebinds = [r])
    (hnew : r.newE = e) (hphase : r.phase = 1) (hmatched : 8 ≤ r.matched) :
    exec (.rebindSwitch e) s = .next (s.switched r e) := by
  have hfind : (s.rebinds.find? fun r => r.newE == e.val && r.phase == 1 && 8 <= r.matched) = some r := by
    simp [hreb, hnew, hphase, hmatched]
  refine congrArg Host.Outcome.next ((State.live_of_powered hp _).trans ?_)
  dsimp only
  rw [hfind]
  rfl

theorem State.switched_binds (s : State) {r : Rebind} {e o : Fin 38} (hold : r.oldE = o) (hne : o ≠ e) :
    (s.switched r e).nat (Reg.BIND_ACTIVE e) = r.target ∧ (s.switched r e).nat (Reg.BIND_ACTIVE o) = 0xFF := by
  unfold State.switched
  extract_lets u v c x w
  have hv : v.nat (Reg.BIND_ACTIVE o) = 0xFF := by
    dsimp only [v]
    rw [if_neg (by simp; omega), hold, State.nat_putN, if_pos rfl]
  have hw : w.get (Reg.BIND_ACTIVE o) = v.get (Reg.BIND_ACTIVE o) := by
    dsimp only [w]
    split <;> rfl
  rw [State.nat_bindActive_refreshed, State.nat_bindActive_refreshed, State.nat_putN, if_pos rfl, State.nat_putN,
    if_neg (bindActive_ne (Fin.val_ne_of_ne hne)), State.nat_of_get hw, hv]
  exact ⟨rfl, rfl⟩

/-! ## The record and the completion (R137, step 4) -/

/-- Both bindings stand in effect and in the store. -/
def State.bindsRecorded (s : State) (r : Rebind) (e : Fin 38) : State :=
  let s := s.putBoth (Reg.BIND e) (.num r.target)
  if r.oldE == 0xFF then s else s.putBoth (Reg.BIND r.oldE) (.num 0xFF)

theorem exec_rebindRecorded {s : State} {r : Rebind} {e : Fin 38} (hp : s.powered = true) (hreb : s.rebinds = [r])
    (hnew : r.newE = e) (hphase : r.phase = 2 ∨ r.phase = 3) :
    exec (.rebindRecorded e) s = .next (if r.phase == 3 || 32 <= r.target then (s.bindsRecorded r e).rebindComplete r
      else ({ s.bindsRecorded r e with
        rebinds := (s.bindsRecorded r e).rebinds.map fun x => if x = r then { r with phase := 4 } else x }).refreshEngines) := by
  have hfind : (s.rebinds.find? fun (r : Rebind) => r.newE == e.val && (r.phase == 2 || r.phase == 3)) = some r := by
    simp [hreb, hnew, hphase]
  refine congrArg Host.Outcome.next ((State.live_of_powered hp _).trans ?_)
  dsimp only
  rw [hfind]
  rfl

theorem State.bindsRecorded_same (s : State) (r : Rebind) (e : Fin 38) :
    (s.bindsRecorded r e).rebinds = s.rebinds ∧ (s.bindsRecorded r e).bindHeld = s.bindHeld := by
  unfold State.bindsRecorded
  dsimp only
  split <;> exact ⟨rfl, rfl⟩

theorem State.bindsRecorded_binds (s : State) {r : Rebind} {e o : Fin 38} (hold : r.oldE = o) (hne : o ≠ e) :
    (s.bindsRecorded r e).nat (Reg.BIND e) = r.target ∧ (s.bindsRecorded r e).nat (Reg.BIND o) = 0xFF := by
  have hput (u : State) (k j : Nat) (v : Val) : (u.putBoth k v).nat j = (u.put k v).nat j := rfl
  unfold State.bindsRecorded
  dsimp only
  rw [if_neg (by simp; omega), hold, hput, State.nat_put, if_neg (bind_ne (Fin.val_ne_of_ne hne.symm)), hput, State.nat_put,
    if_pos rfl, hput, State.nat_put, if_pos rfl]
  exact ⟨rfl, rfl⟩

/-- With nothing held back, the only rebind's end leaves none, and refreshes the readbacks. -/
theorem State.rebindOver_of_single {s : State} {r : Rebind} (hreb : s.rebinds = [r]) (hheld : s.bindHeld = []) :
    s.rebindOver r = ({ s with rebinds := [] } : State).refreshEngines := by
  have hnone : (s.rebinds.filter fun x => decide (x ≠ r)) = [] := by simp [hreb]
  unfold State.rebindOver
  dsimp only
  rw [hnone, hheld]
  rfl

theorem State.rebindComplete_completes {s : State} {r : Rebind} (hreb : s.rebinds = [r]) (hheld : s.bindHeld = [])
    (hauto : r.auto = false) :
    (s.rebindComplete r).rebinds = [] ∧ ((s.rebindComplete r).res .engineRebind).status = .completed ∧
      ((s.rebindComplete r).res .engineRebind).value = r.newE + r.oldE * 256 + r.bcount * 4294967296 ∧
      ((s.rebindComplete r).res .engineRebind).detail = (if r.warm then 0 else 0x0102) ∧
      ∀ i, (s.rebindComplete r).nat (Reg.BIND i) = s.nat (Reg.BIND i) := by
  let v := r.newE + r.oldE * 256 + r.bcount * 4294967296
  let d := if r.warm then 0 else 0x0102
  have hc : s.rebindComplete r = ({ s.completed .engineRebind d v with rebinds := [] } : State).refreshEngines := by
    unfold State.rebindComplete
    rw [if_neg (ne_true_of_eq_false hauto)]
    exact State.rebindOver_of_single hreb hheld
  obtain ⟨hstatus, hvalue, hdetail⟩ := State.completed_res s .engineRebind d v
  have hres : (s.rebindComplete r).res .engineRebind = (s.completed .engineRebind d v).res .engineRebind := by
    rw [hc]
    exact congrArg (fun x : DictState => x.res[cmdIdx .engineRebind]) (State.refreshEngines_dict _)
  refine ⟨?_, ?_, ?_, ?_, fun i => ?_⟩
  · rw [hc, State.refreshEngines_rebinds]
  · rw [hres, hstatus]
  · rw [hres, hvalue]
  · rw [hres, hdetail]
  · rw [hc]
    exact State.nat_of_get (State.get_refreshEngines _ fun _ => key_ne_of_object)

/-- Where the first CMD of the new engine has been captured or none is to come, the recorded rebind completes; otherwise it waits. -/
theorem rebindRecorded_records {s : State} {r : Rebind} {e o : Fin 38} (hp : s.powered = true) (hreb : s.rebinds = [r])
    (hheld : s.bindHeld = []) (hnew : r.newE = e) (hold : r.oldE = o) (hne : o ≠ e) (hphase : r.phase = 2 ∨ r.phase = 3)
    (hauto : r.auto = false) :
    ∃ t, exec (.rebindRecorded e) s = .next t ∧ t.nat (Reg.BIND e) = r.target ∧ t.nat (Reg.BIND o) = 0xFF ∧
      (r.phase = 3 ∨ 32 ≤ r.target → t.rebinds = [] ∧ (t.res .engineRebind).status = .completed ∧
        (t.res .engineRebind).value = e + 256 * o + 4294967296 * r.bcount ∧
        (t.res .engineRebind).detail = if r.warm then 0 else 0x0102) ∧
      (r.phase = 2 → r.target < 32 → t.rebinds = [{ r with phase := 4 }]) := by
  obtain ⟨hrebinds, hbindHeld⟩ := s.bindsRecorded_same r e
  obtain ⟨hbindE, hbindO⟩ := s.bindsRecorded_binds hold hne
  refine ⟨_, exec_rebindRecorded hp hreb hnew hphase, ?_⟩
  by_cases hdone : r.phase = 3 ∨ 32 ≤ r.target
  · obtain ⟨hover, hstatus, hvalue, hdetail, hbind⟩ :=
      State.rebindComplete_completes (hrebinds.trans hreb) (hbindHeld.trans hheld) hauto
    rw [if_pos (by simpa using hdone), hbind, hbind]
    refine ⟨hbindE, hbindO, fun _ => ⟨hover, hstatus, ?_, hdetail⟩, fun h2 hleg => by omega⟩
    rw [hvalue, hnew, hold]
    omega
  · rw [if_neg (by simpa using hdone), State.refreshEngines_rebinds, hrebinds, hreb,
      State.nat_of_get (State.get_refreshEngines _ fun _ => key_ne_of_object),
      State.nat_of_get (State.get_refreshEngines _ fun _ => key_ne_of_object)]
    exact ⟨hbindE, hbindO, fun h => absurd h hdone, fun _ _ => by simp⟩

theorem rebindSwitch_switches {s : State} {r : Rebind} {e o : Fin 38} (hp : s.powered = true) (hreb : s.rebinds = [r])
    (hnew : r.newE = e) (hold : r.oldE = o) (hne : o ≠ e) (hphase : r.phase = 1) (hmatched : 8 ≤ r.matched) :
    ∃ t, exec (.rebindSwitch e) s = .next t ∧ t.nat (Reg.BIND_ACTIVE e) = r.target ∧ t.nat (Reg.BIND_ACTIVE o) = 0xFF :=
  ⟨_, exec_rebindSwitch hp hreb hnew hphase hmatched, s.switched_binds hold hne⟩

/-- What an accepted ENGINE_REBIND answers, in the order of its refusals. -/
theorem engineRebind_accepts {s : State} {h : Hdr} {a : Nat} (ha : Accepts s h (cmdBase .engineRebind + 1) a) :
    let e := field a 15 8
    ∃ t, exec (.engineRebind h a) s = .next t ∧ Answered t h .ok ∧
      (s.enginesOff → (t.res .engineRebind).status = .refused ∧ (t.res .engineRebind).detail = 1) ∧
      (¬s.enginesOff → s.nat (Reg.BIND e) ≠ 0xFF → (t.res .engineRebind).status = .refused ∧ (t.res .engineRebind).detail = 2) ∧
      (¬s.enginesOff → s.nat (Reg.BIND e) = 0xFF → s.isStandby = true →
        (t.res .engineRebind).status = .refused ∧ (t.res .engineRebind).detail = 3) ∧
      (¬s.enginesOff → s.nat (Reg.BIND e) = 0xFF → s.isStandby = false → s.engineFenced e = true →
        (t.res .engineRebind).status = .refused ∧ (t.res .engineRebind).detail = 0x100) ∧
      (¬s.enginesOff → s.nat (Reg.BIND e) = 0xFF → s.isStandby = false → s.engineFenced e = false →
        (t.res .engineRebind).status = .pending ∧ ∃ r ∈ t.rebinds, r.newE = e ∧ r.target = field a 7 0) := by
  intro e
  let u := s.startCmd .engineRebind a
  have hon (h : ¬s.enginesOff) := State.engineRebind_of_on (s := u) a h
  have hbind : u.nat (Reg.BIND e) = s.nat (Reg.BIND e) := rfl
  have hstandby : u.isStandby = s.isStandby := rfl
  have hfenced : u.engineFenced e = s.engineFenced e := rfl
  refine ⟨_, exec_engineRebind ha, answered_answerW _ _ _, ?_⟩
  rw [State.res_answerW]
  refine ⟨fun hoff => ?_, fun h hb => ?_, fun h hb hs => ?_, fun h hb hs hf => ?_, fun h hb hs hf => ?_⟩
  · rw [State.engineRebind_of_off (s := u) a hoff]
    exact State.refusedWith_res _ _ _
  · rw [hon h, hbind, if_pos hb]
    exact State.refusedWith_res _ _ _
  · rw [hon h, hbind, if_neg (not_not_intro hb), hstandby, if_pos hs]
    exact State.refusedWith_res _ _ _
  · rw [hon h, hbind, if_neg (not_not_intro hb), hstandby, if_neg (ne_true_of_eq_false hs), hfenced, if_pos hf]
    exact State.refusedWith_res _ _ _
  · rw [hon h, hbind, if_neg (not_not_intro hb), hstandby, if_neg (ne_true_of_eq_false hs), hfenced,
      if_neg (ne_true_of_eq_false hf), State.beginRebind_res]
    exact ⟨State.startCmd_pending _ _ _, u.beginRebind_begins _ _ _⟩

/-! ## The statement on setpoints, temperature, shedding and rebinds -/

/-- Settles O26: each command takes one branch of its rule, and what it raises, delivers and refreshes writes none of the elements the
statement reads. -/
theorem groupsTakeSetpointsAndShed : Obligations.GroupsTakeSetpointsAndShed := by
  refine ⟨fun s g x hp hsrc hstop hne => setpointDelivery_delivers hsrc hstop hne hp x,
    fun s g hp hsrc => ⟨_, exec_setpFault hp hsrc, s.setpFaultOn_faults g⟩,
    fun s g hp => ⟨_, exec_setpFaultClear hp g, (s.bit_putBit _ _ _ _).trans (if_pos rfl)⟩,
    fun s n ohms c hp hc => ⟨_, exec_ntcSample hp n ohms, State.ntcSample_outside_shuts hc, State.ntcSample_inside hc⟩,
    fun s n hp hbit hcool => ⟨_, exec_sensorValidReturn hp hbit hcool, s.otReturn_returns n⟩,
    fun s g hp hen hfewer hheld => ⟨_, exec_shedDecision hp hen hfewer hheld, ?_⟩,
    fun s g hp hopen => ⟨_, exec_shedWindowClose hp hopen, fun hleft => ?_, fun hleft => ?_⟩,
    fun s h a ha => engineRebind_accepts ha,
    fun s r e o hp hreb hnew hold hne hphase hmatched => rebindSwitch_switches hp hreb hnew hold hne hphase hmatched,
    fun s r e o hp hreb hheld hnew hold hne hphase hauto _ =>
      rebindRecorded_records hp hreb hheld hnew hold hne hphase hauto⟩
  · rw [s.shedTo_group g]
    exact ⟨rfl, rfl, rfl, s.shedTo_state g _, s.shedTo_counts g _⟩
  · rw [if_pos hleft]
    exact ⟨s.closeWindow_closed g, s.closeWindow_state g⟩
  · rw [hleft]
    exact hopen

end Sys2Proof.Machine
end

section
/-! Refutation of the statement on the wave. A CLOSE_MARK carries its EPOCH in eight bytes (R196), and CLOSE_MARK acts on its slot as
it is read; the statement counts its pass whatever the epoch of the last mark is, one that eight bytes do not hold too. -/

namespace Sys2Proof.Machine

/-- A node on ring A whose last mark bore the first epoch that eight bytes do not hold. -/
def epochPastField : State :=
  { State.reset.putN Reg.RING_STATUS 1 with ring := { State.reset.ring with markEpoch := 2 ^ 64 } }

/-- The passes of ring A after a command. -/
def passesAfter (c : Instr) (s : State) : Option Nat :=
  match exec c s with
  | .next t => some t.ring.passes[(0 : Fin 2)]
  | _ => none

/-- The slot of that node's CLOSE_MARK bears epoch 0, neither the last mark's nor the one before: it goes on uncounted. -/
theorem epochPastField_uncounted :
    passesAfter (.closeMark 0 0 epochPastField.ring.markEpoch 0) epochPastField = some epochPastField.ring.passes[(0 : Fin 2)] := by
  decide +kernel

/-- Refutes O28: at a running node on ring A whose last mark bore epoch 2^64, a CLOSE_MARK of that epoch counts no pass. -/
theorem not_waveAndFreeze : ¬ Obligations.WaveAndFreeze := by
  rintro ⟨-, -, -, hcounts, -, -⟩
  have hpowered : epochPastField.powered = true := by decide +kernel
  have hup : epochPastField.ringUp (0 : Fin 2) = true := by decide +kernel
  obtain ⟨t, ht, hpass, -⟩ := hcounts epochPastField 0 0 0 hpowered hup
  have hcounted : passesAfter (.closeMark 0 0 epochPastField.ring.markEpoch 0) epochPastField = some t.ring.passes[(0 : Fin 2)] := by
    rw [passesAfter, ht]
  rw [epochPastField_uncounted, hpass, Option.some_inj] at hcounted
  exact Nat.succ_ne_self _ hcounted.symm

end Sys2Proof.Machine
end

section
/-! What the proofs on the site's grants share (chapter 07): what one step of a fold sets, where a node stands on the ring, and what
refreshing ALLOC_STATE and raising a maximum write. -/

namespace Sys2Proof.Machine

/-! ## Folds -/

/-- What one element's step sets and the others' steps keep holds after a fold over a list that has the element; the step may
rely on what every step keeps. -/
theorem foldl_sets {α : Type} {I P : State → Prop} {f : State → α → State} {l : List α} {a : α} (ha : a ∈ l)
    (hI : ∀ st b, I st → I (f st b)) (hset : ∀ st, I st → P (f st a)) (hkeep : ∀ st, ∀ b ∈ l, b ≠ a → P st → P (f st b))
    {s : State} (hs : I s) : P (l.foldl f s) := by
  obtain ⟨before, after, rfl⟩ := List.append_of_mem ha
  rw [List.foldl_append, List.foldl_cons]
  have hbefore : I (before.foldl f s) := List.foldlRecOn before f hs fun st h b _ => hI st b h
  refine (List.foldlRecOn (motive := fun st => I st ∧ P st) after f ⟨hI _ _ hbefore, hset _ hbefore⟩ ?_).2
  rintro st ⟨hi, hp⟩ b hmem
  refine ⟨hI st b hi, ?_⟩
  by_cases hb : b = a
  · exact hb ▸ hset st hi
  · exact hkeep st b (List.mem_append_right _ (List.mem_cons_of_mem _ hmem)) hb hp

/-! ## Addresses of the allocation (R13) -/

/-- Different elements of one group's objects are different. -/
theorem key_ne_of_element {g o e o' e' : Nat} (h : e ≠ e') (he : e < 256) (he' : e' < 256) : key g o e ≠ key g o' e' := by
  simp only [key]; omega

/-- The elements of the group 0x50 lie in 0x50:00 to 0x57:FF. -/
theorem allocKey_bounds {o e : Nat} (ho : o < 256) (he : e < 256) : 0x500000 ≤ key 0x50 o e ∧ key 0x50 o e < 0x580000 := by
  simp only [key]; omega

/-! ## Where the node stands (R29, R164, R210) -/

/-- Two states stand alike on the ring: their elements below group 0x60 but for the allocation's, groups 0x50 to 0x57, are the
same, and so are the launcher that is followed and the roster. -/
structure StandsAlike (s t : State) : Prop where
  get : ∀ k, k < 0x500000 ∨ 0x580000 ≤ k ∧ k < 0x600000 → t.get k = s.get k
  launcher : t.ring.launcher = s.ring.launcher
  roster : t.ring.roster = s.ring.roster

theorem StandsAlike.refl (s : State) : StandsAlike s s := ⟨fun _ _ => rfl, rfl, rfl⟩

theorem StandsAlike.trans {a b c : State} (h : StandsAlike a b) (h' : StandsAlike b c) : StandsAlike a c :=
  ⟨fun k hk => (h'.get k hk).trans (h.get k hk), h'.launcher.trans h.launcher, h'.roster.trans h.roster⟩

/-- A write of an element of the allocation leaves the node where it stands. -/
theorem State.put_standsAlike (s : State) (v : Val) {k : Nat} (hk : 0x500000 ≤ k ∧ k < 0x580000) :
    StandsAlike s (s.put k v) :=
  ⟨fun j hj => (s.get_put k j v).trans (if_neg (by omega)), rfl, rfl⟩

section
variable {s t : State} (h : StandsAlike s t)
include h

theorem StandsAlike.nat (k : Nat) (hk : k < 0x500000 ∨ 0x580000 ≤ k ∧ k < 0x600000 := by decide) : t.nat k = s.nat k :=
  State.nat_of_get (h.get k hk)

theorem StandsAlike.ringUp (r : Nat) : t.ringUp r = s.ringUp r := by simp only [State.ringUp, h.nat Reg.RING_STATUS]

theorem StandsAlike.anyRing : t.anyRing = s.anyRing := by simp only [State.anyRing, h.ringUp]

theorem StandsAlike.byMarks : t.byMarks = s.byMarks := by
  simp only [State.byMarks, State.shares, State.role, h.nat Reg.ROLE_ACTIVE, h.nat Reg.ROSTER_STATE, h.anyRing, h.launcher]

theorem StandsAlike.isMember : t.isMember = s.isMember := by simp only [State.isMember, h.nat Reg.RING_ADDR, h.roster]

end

/-! ## ALLOC_STATE follows (R164, R171) -/

@[simp] theorem State.refreshAlloc_site (s : State) : s.refreshAlloc.site = s.site :=
  Same.site (m := (· == 32)) (by simp) rfl

/-- Of the elements only ALLOC_STATE and, off a ring, EPOCH_MIN and ALLOC_FLAGS follow. -/
theorem State.get_refreshAlloc (s : State) {k : Nat} (hk : keyO k ∉ [0x04, 0x05, 0x07]) : s.refreshAlloc.get k = s.get k := by
  have hstate : k ≠ Reg.ALLOC_STATE := ne_key_of_object hk
  have hmin : k ≠ Reg.EPOCH_MIN := ne_key_of_object hk
  have hflags : k ≠ Reg.ALLOC_FLAGS := ne_key_of_object hk
  unfold State.refreshAlloc
  dsimp only
  split <;> simp [hstate, hmin, hflags]

/-- ALLOC_STATE reads what the state says. -/
theorem State.refreshAlloc_state (s : State) : s.refreshAlloc.nat Reg.ALLOC_STATE = s.allocStateOf := by
  unfold State.refreshAlloc
  dsimp only
  split <;> simp

/-! ## A maximum -/

@[simp] theorem State.putMax_site (s : State) (k n : Nat) : (s.putMax k n).site = s.site :=
  Same.site (m := (· == 32)) (by simp) rfl

@[simp] theorem State.nat_putMax (s : State) (k n j : Nat) :
    (s.putMax k n).nat j = if j = k then max (s.nat k) n else s.nat j := by
  unfold State.putMax
  split
  case isTrue h => rw [State.nat_putN, Nat.max_eq_right (Nat.le_of_lt h)]
  case isFalse h =>
    rw [Nat.max_eq_left (Nat.le_of_not_lt h)]
    split
    · simp only [*]
    · rfl

end Sys2Proof.Machine
end

section
/-! The calculation of the grants and their objects: what the calculation leaves, and that a release shows each port and group its
grant. -/

namespace Sys2Proof.Machine

/-! ## The calculation (R171, R174, R176) -/

/-- What the calculation writes before the claims are judged. -/
def State.calcNoted (s : State) (r : Result) (ns : Nat) : State :=
  let u := { s with site := { s.site with computed := some (r.own s.ownNode, r.crc) } }
  let u := ((u.putN Reg.RESULT_CRC_OWN r.crc).putN Reg.T_CALC_LAST ns).putMax Reg.T_CALC_MAX ns
  u.putN Reg.SITE_ISLAND (b2n (siteIsland u.site.snap))

theorem State.calcNoted_elements (s : State) (r : Result) (ns : Nat) :
    (s.calcNoted r ns).nat Reg.RESULT_CRC_OWN = r.crc ∧ (s.calcNoted r ns).nat Reg.T_CALC_LAST = ns ∧
      (s.calcNoted r ns).nat Reg.T_CALC_MAX = max (s.nat Reg.T_CALC_MAX) ns := by
  refine ⟨?_, ?_, ?_⟩
  · simp [State.calcNoted]
  · simp [State.calcNoted]
  · simp only [State.calcNoted, State.nat_putN, State.nat_putMax]
    rfl

theorem State.calcNoted_computed (s : State) (r : Result) (ns : Nat) :
    (s.calcNoted r ns).site.computed = some (r.own s.ownNode, r.crc) := by
  simp [State.calcNoted]

@[simp] theorem State.raise1_site (s : State) (source event prio : Nat) (before : Val) :
    (s.raise1 source event prio before).site = s.site := Same.site (m := (· == 32)) (by simp) rfl

theorem State.floorCuts_computed (s : State) (cs : List Claim) : (s.floorCuts cs).site.computed = s.site.computed := by
  unfold State.floorCuts
  dsimp only
  split
  · rw [State.raise1_site]
  · rfl

theorem State.get_floorCuts (s : State) (cs : List Claim) {k : Nat} (hk : k < 0xB00000) (hc : k ≠ Reg.FLOOR_CUT_CNT) :
    (s.floorCuts cs).get k = s.get k := by
  have hadd (n : Nat) : (s.addC Reg.FLOOR_CUT_CNT n).get k = s.get k := by rw [State.get_addC, if_neg hc]
  unfold State.floorCuts
  dsimp only
  split
  · rw [State.get_raise1 (.inl hk)]; exact hadd _
  · exact hadd _

/-- A group routed to a port that no node declares is parked, and its change told. -/
def State.notePort (s : State) (g : Fin 4) : State :=
  let lost := s.role g.val && (s.routeState g == 4) && !s.waitsBurgee && !s.portDeclared g
  let u := { s with site := { s.site with noPort := s.site.noPort.set g lost } }
  let u := if lost then u.parkGroup g else u.unparkGroup g
  if s.site.noPort[g] == lost then u else u.raise1 ((0x10 + g.val) * 256) 0x232 2 (u.get (Reg.ROUTE_STATE g))

theorem State.notePorts_eq (s : State) (cs : List Claim) : s.notePorts cs =
    (List.finRange 4).foldl State.notePort { s with site := { s.site with declared := cs.map fun c => (c.node, c.idx) } } := rfl

@[simp] theorem State.parkGroup_site (s : State) (g : Fin 4) : (s.parkGroup g).site = s.site :=
  Same.site (m := (· == 32)) (by simp) rfl
@[simp] theorem State.unparkGroup_site (s : State) (g : Fin 4) : (s.unparkGroup g).site = s.site :=
  Same.site (m := (· == 32)) (by simp) rfl

theorem State.notePort_computed (s : State) (g : Fin 4) : (s.notePort g).site.computed = s.site.computed := by
  unfold State.notePort
  dsimp only
  repeat' split
  all_goals simp

theorem State.get_notePort (s : State) (g : Fin 4) {k : Nat} (hl : 0x140000 ≤ k) (hk : k < 0xB00000) :
    (s.notePort g).get k = s.get k := by
  have hpark (u : State) (lost : Bool) : (if lost then u.parkGroup g else u.unparkGroup g).get k = u.get k := by
    split
    · exact u.get_parkGroup g (.inr hl)
    · exact u.get_unparkGroup g k
  unfold State.notePort
  dsimp only
  split
  · exact hpark _ _
  · rw [State.get_raise1 (.inl hk)]; exact hpark _ _

theorem State.notePorts_computed (s : State) (cs : List Claim) : (s.notePorts cs).site.computed = s.site.computed := by
  rw [State.notePorts_eq, foldl_keeps (·.site.computed) State.notePort State.notePort_computed]

theorem State.get_notePorts (s : State) (cs : List Claim) {k : Nat} (hl : 0x140000 ≤ k) (hk : k < 0xB00000) :
    (s.notePorts cs).get k = s.get k := by
  rw [State.notePorts_eq, foldl_keeps (·.get k) State.notePort fun st g => st.get_notePort g hl hk]
  rfl

theorem State.keepFrozen_computed (s : State) (cs : List Claim) : (s.keepFrozen cs).site.computed = s.site.computed := rfl
theorem State.get_keepFrozen (s : State) (cs : List Claim) (k : Nat) : (s.keepFrozen cs).get k = s.get k := rfl

/-- What follows the calculation: floor cuts, ports that no node declares, and the grants of substituted members. -/
def State.claimsJudged (s : State) (cs : List Claim) : State := ((s.floorCuts cs).notePorts cs).keepFrozen cs

theorem State.claimsJudged_computed (s : State) (cs : List Claim) : (s.claimsJudged cs).site.computed = s.site.computed := by
  rw [State.claimsJudged, State.keepFrozen_computed, State.notePorts_computed, State.floorCuts_computed]

theorem State.get_claimsJudged (s : State) (cs : List Claim) {k : Nat} (hl : 0x140000 ≤ k) (hk : k < 0xB00000)
    (hc : k ≠ Reg.FLOOR_CUT_CNT) : (s.claimsJudged cs).get k = s.get k := by
  rw [State.claimsJudged, State.get_keepFrozen, State.get_notePorts _ _ hl hk, State.get_floorCuts _ _ hk hc]

theorem State.calcDone_of_due {s : State} (hc : s.site.toCompute = true) (hn : s.site.computed = none)
    (hf : s.allocFenced = false) (ns : Nat) : s.calcDone ns =
      (s.calcNoted (s.allocate s.site.snap) ns).claimsJudged (s.allocate s.site.snap).claims := by
  unfold State.calcDone
  rw [if_neg (by simp [hc, hn, hf])]
  rfl

theorem exec_allocCalcDone {s : State} (hp : s.powered = true) (ns : Nat) :
    exec (.allocCalcDone ns) s = .next (s.calcDone ns) :=
  congrArg Host.Outcome.next (State.live_of_powered hp _)

theorem allocCalcDone_notes {s : State} (hp : s.powered = true) (hc : s.site.toCompute = true) (hn : s.site.computed = none)
    (hf : s.allocFenced = false) (ns : Nat) :
    ∃ t, exec (.allocCalcDone ns) s = .next t ∧ t.nat Reg.RESULT_CRC_OWN = (s.allocate s.site.snap).crc ∧
      t.site.computed = some ((s.allocate s.site.snap).own s.ownNode, (s.allocate s.site.snap).crc) ∧
      t.nat Reg.T_CALC_LAST = ns ∧ s.nat Reg.T_CALC_MAX ≤ t.nat Reg.T_CALC_MAX ∧ ns ≤ t.nat Reg.T_CALC_MAX := by
  obtain ⟨hcrc, hlast, hmax⟩ := s.calcNoted_elements (s.allocate s.site.snap) ns
  have helem {k : Nat} (hl : 0x140000 ≤ k) (hk : k < 0xB00000) (h : k ≠ Reg.FLOOR_CUT_CNT) :=
    State.nat_of_get ((s.calcNoted (s.allocate s.site.snap) ns).get_claimsJudged (s.allocate s.site.snap).claims hl hk h)
  refine ⟨_, exec_allocCalcDone hp ns, ?_⟩
  rw [State.calcDone_of_due hc hn hf]
  refine ⟨?_, ?_, ?_, ?_⟩
  · rw [helem (by decide) (by decide) (by decide), hcrc]
  · rw [State.claimsJudged_computed, State.calcNoted_computed]
  · rw [helem (by decide) (by decide) (by decide), hlast]
  · rw [helem (by decide) (by decide) (by decide), hmax]
    exact ⟨Nat.le_max_left _ _, Nat.le_max_right _ _⟩

/-! ## The grant objects (R183, R185) -/

/-- One outlet's, external port's and group's grants are put into their objects. -/
def State.putGrant (g : Grants) (s : State) (i : Nat) : State :=
  ((s.putI (Reg.OUT_GRANT i) (g.port i)).putI (Reg.XP_GRANT (i + 1)) (g.port (4 + i))).putI (Reg.PG_GRANT (i + 1)) (g.group i)

theorem State.putGrants_eq (s : State) (g : Grants) : s.putGrants g = (List.range 4).foldl (State.putGrant g) s := rfl

theorem State.get_putGrant (g : Grants) (s : State) {i k : Nat} (ho : k ≠ Reg.OUT_GRANT i) (hx : k ≠ Reg.XP_GRANT (i + 1))
    (hg : k ≠ Reg.PG_GRANT (i + 1)) : (s.putGrant g i).get k = s.get k := by
  rw [State.putGrant, State.get_putI, if_neg hg, State.get_putI, if_neg hx, State.get_putI, if_neg ho]

/-- The grant objects of an outlet and of a group show grants. -/
def State.ShowsGrants (g : Grants) (i : Fin 4) (s : State) : Prop :=
  s.int (Reg.OUT_GRANT i) = g.port i ∧ s.int (Reg.PG_GRANT (i.val + 1)) = g.group i

section
variable {g : Grants} {i : Fin 4}

theorem State.ShowsGrants.of_get {s t : State} (h : s.ShowsGrants g i) (ho : t.get (Reg.OUT_GRANT i) = s.get (Reg.OUT_GRANT i))
    (hg : t.get (Reg.PG_GRANT (i.val + 1)) = s.get (Reg.PG_GRANT (i.val + 1))) : t.ShowsGrants g i :=
  ⟨(State.int_of_get ho).trans h.1, (State.int_of_get hg).trans h.2⟩

theorem State.putGrant_shows (s : State) : State.ShowsGrants g i (s.putGrant g i) := by
  have hx : Reg.OUT_GRANT i ≠ Reg.XP_GRANT (i.val + 1) := key_ne_of_object (he' := by omega)
  have hg : Reg.OUT_GRANT i ≠ Reg.PG_GRANT (i.val + 1) := key_ne_of_object (he' := by omega)
  constructor
  · rw [State.putGrant, State.int_putI, if_neg hg, State.int_putI, if_neg hx, State.int_putI, if_pos rfl]
  · rw [State.putGrant, State.int_putI, if_pos rfl]

/-- The grants of the others are other elements. -/
theorem State.ShowsGrants.putGrant {s : State} {j : Nat} (hj : j < 4) (hne : j ≠ i.val) (h : s.ShowsGrants g i) :
    State.ShowsGrants g i (s.putGrant g j) := by
  have hout : Reg.OUT_GRANT i ≠ Reg.OUT_GRANT j := by simp only [Reg.OUT_GRANT, key]; omega
  exact h.of_get
    (s.get_putGrant g hout (key_ne_of_object (he' := by omega)) (key_ne_of_object (he' := by omega)))
    (s.get_putGrant g (key_ne_of_object (he := by omega)) (key_ne_of_object (he := by omega) (he' := by omega))
      (key_ne_of_element (by omega) (by omega) (by omega)))

theorem State.putGrants_shows (s : State) : (s.putGrants g).ShowsGrants g i := by
  rw [State.putGrants_eq]
  exact foldl_sets (I := fun _ => True) (List.mem_range.mpr i.isLt) (fun _ _ => id) (fun st _ => st.putGrant_shows)
    (fun _ _ hj hne h => h.putGrant (List.mem_range.mp hj) hne) trivial

end

theorem State.get_putGrants (s : State) (g : Grants) {k : Nat} (hk : keyO k ∉ [0x22, 0x24, 0x48]) :
    (s.putGrants g).get k = s.get k := by
  rw [State.putGrants_eq]
  exact List.foldlRecOn (motive := fun st : State => st.get k = s.get k) _ _ rfl fun st h i hi =>
    (st.get_putGrant g (ne_key_of_object hk) (ne_key_of_object hk (he := by have := List.mem_range.mp hi; omega))
      (ne_key_of_object hk (he := by have := List.mem_range.mp hi; omega))).trans h

end Sys2Proof.Machine
end

section
/-! The epoch boundary in stages: what it releases, and that no stage after the release writes a grant object or EPOCH_NUMBER. -/

namespace Sys2Proof.Machine

/-! ## What a boundary releases (R171, R175, R178, R183) -/

/-- A calculation that is not done in time makes the node hold; a computed and matched one ends holding in the next block. -/
def State.overrunNoted (s : State) : State :=
  if s.site.toCompute && s.site.computed.isNone then (s.count Reg.CALC_OVERRUN_CNT).holdNow
  else if s.site.hold && s.site.computed.isSome && s.site.matched then { s with site := { s.site with clearHold := true } } else s

/-- The grants that a boundary releases. -/
def State.nextGrants (s : State) : Grants :=
  if s.byMarks && !s.isMember then Grants.zero
  else if s.site.hold then s.site.safe
  else match s.site.computed with | some r => r.1 | none => s.site.applied

/-- The next grants are shown and in use. -/
def State.grantsReleased (s : State) : State :=
  { s.applyGrants s.nextGrants with
    site := { s.site with applied := s.nextGrants, crc := s.site.computed.map (·.2) } }

/-- The allocation's record holds no element. -/
theorem State.get_withSite (s : State) (x : SiteState) (k : Nat) : State.get { s with site := x } k = s.get k := rfl

theorem State.get_grantsReleased (s : State) {k : Nat} (hk : keyO k ∉ [0x22, 0x24, 0x48]) : s.grantsReleased.get k = s.get k := by
  rw [State.grantsReleased, State.get_withSite, State.applyGrants, State.get_putGrants _ _ hk, State.get_withSite]

theorem State.grantsReleased_shows (s : State) (i : Fin 4) : s.grantsReleased.ShowsGrants s.nextGrants i := by
  have happly : (s.applyGrants s.nextGrants).ShowsGrants s.nextGrants i := State.putGrants_shows _
  exact happly.of_get (by rw [State.grantsReleased, State.get_withSite]) (by rw [State.grantsReleased, State.get_withSite])

theorem State.get_overrunNoted (s : State) {k : Nat} (hk : k ≠ Reg.CALC_OVERRUN_CNT) : s.overrunNoted.get k = s.get k := by
  unfold State.overrunNoted
  repeat' split
  · exact (s.get_count _ _).trans (if_neg hk)
  · rfl
  · rfl

theorem State.overrunNoted_standsAlike (s : State) : StandsAlike s s.overrunNoted := by
  refine ⟨fun k hk => s.get_overrunNoted (by simp only [Reg.CALC_OVERRUN_CNT, key]; omega), ?_, ?_⟩
  all_goals
    unfold State.overrunNoted
    repeat' split
    all_goals rfl

section
variable {s : State} (hmember : s.byMarks = true → s.isMember = true)
include hmember

theorem State.overrunNoted_inRoster : ¬(s.overrunNoted.byMarks && !s.overrunNoted.isMember) = true := by
  rw [s.overrunNoted_standsAlike.byMarks, s.overrunNoted_standsAlike.isMember]
  intro h
  rw [Bool.and_eq_true, Bool.not_eq_true'] at h
  exact absurd (hmember h.1) (ne_true_of_eq_false h.2)

/-- While the node holds, the last safe grants are released. -/
theorem State.nextGrants_of_hold (hh : s.site.hold = true) : s.overrunNoted.nextGrants = s.site.safe := by
  have hsite : s.overrunNoted.site.hold = true ∧ s.overrunNoted.site.safe = s.site.safe := by
    unfold State.overrunNoted
    repeat' split
    · exact ⟨rfl, rfl⟩
    · exact ⟨hh, rfl⟩
    · exact ⟨hh, rfl⟩
  rw [State.nextGrants, if_neg (State.overrunNoted_inRoster hmember), if_pos hsite.1, hsite.2]

/-- A result that came in time is released. -/
theorem State.nextGrants_of_computed (hh : s.site.hold = false) {x : Grants × Nat} (hx : s.site.computed = some x) :
    s.overrunNoted.nextGrants = x.1 := by
  have hsame : s.overrunNoted = s := by simp [State.overrunNoted, hh, hx]
  rw [State.nextGrants, if_neg (State.overrunNoted_inRoster hmember), hsame, hh, hx]
  rfl

end

/-! ## The stages of a boundary (R169, R183) -/

theorem State.treeBoundary_standsAlike (s : State) : StandsAlike s s.treeBoundary := by
  unfold State.treeBoundary
  split
  · exact ⟨fun k hk => (State.get_putN _ _ _ _).trans (if_neg (by simp only [Reg.TREE_STATE, key]; omega)), rfl, rfl⟩
  · exact StandsAlike.refl s

theorem State.get_treeBoundary (s : State) {k : Nat} (hk : k ≠ Reg.TREE_STATE) : s.treeBoundary.get k = s.get k := by
  unfold State.treeBoundary
  split
  · exact (State.get_putN _ _ _ _).trans (if_neg hk)
  · rfl

theorem State.treeBoundary_site (s : State) : ∃ a b, s.treeBoundary.site = { s.site with treeHeld := a, treeInUse := b } := by
  unfold State.treeBoundary
  split <;> exact ⟨_, _, rfl⟩

/-- What a boundary traces, measures, mirrors and counts besides the grants, and the legs that leave PARK after a lost clock. -/
def State.boundaryTold (fresh : Bool) (s : State) : State :=
  let s := s.traceAlloc
  let s := if fresh then s.measureLat Reg.LAT_EPOCH_TO_LOOP 13 8000 s.anyRing else s
  let s := if s.anyRing then (s.putN Reg.REPEAT_DELAY (s.freeAt 15 % 97)).drawn else s
  let s := s.mirror (.grants s.epochNo s.site.applied.ports.toList s.site.applied.groups.toList (s.site.crc.getD 0))
  let s := if s.pair.phase == 1 then { s with pair := { s.pair with waited := s.pair.waited + 1 } } else s
  let s := if s.upd.live != 0 then { s with upd := { s.upd with waited := s.upd.waited + 1 } } else s
  if s.fab.clockHold then s.forAllLegs fun n st => st.leavePark n else s

/-- The wave of the epoch that begins is open. -/
def State.waveOpened (s : State) : State :=
  { s with
    fab := { s.fab with clockHold := false },
    ring := { s.ring with due := false },
    site := { s.site with got := [], frozen := false, snap := [], waveDone := false, toCompute := false, computed := none,
                          matched := false, offerLoss := Vector.replicate 4 0 } }

/-- The route selections of all groups take effect. -/
def State.routesTaken (s : State) : State := (List.finRange 4).foldl (fun (st : State) (g : Fin 4) => st.routeEpoch g) s

/-- Roles, routes, the ring class and the ring key follow, and ALLOC_STATE after them. -/
def State.boundaryFollowed (s : State) : State :=
  s.rolesBoundary.routesTaken.ringClassMoves.ringKeyBoundary.epochShort.refreshAlloc

/-- The state once the grants are released and told. -/
def State.grantsTold (s : State) : State :=
  s.treeBoundary.overrunNoted.grantsReleased.boundaryTold (s.site.computed.isSome && !s.site.hold)

/-- A boundary is the release and the stages after it. -/
theorem State.boundaryActs_eq (s : State) : s.boundaryActs = s.grantsTold.waveOpened.boundaryFollowed := by
  unfold State.boundaryActs
  rfl

/-! ## What the stages leave of the wave and of the grants -/

theorem State.boundaryTold_site (fresh : Bool) (s : State) : (s.boundaryTold fresh).site = s.site := by
  refine Same.site (m := (· == 32)) ?_ rfl
  unfold State.boundaryTold State.forAllLegs
  dsimp only
  repeat' split
  all_goals simp (maxDischargeDepth := 60)

theorem State.boundaryFollowed_ring (s : State) : s.boundaryFollowed.ring = s.ring :=
  Same.ring (m := (· == 33)) (by simp (maxDischargeDepth := 60) [State.boundaryFollowed, State.routesTaken]) rfl

theorem State.epochShort_site (s : State) : ∃ a b, s.epochShort.site = { s.site with shortRun := a, longRun := b } := by
  unfold State.epochShort
  dsimp only
  by_cases hb : s.byMarks = true
  · rw [if_neg (by simp [hb]), apply_ite State.site, apply_ite State.site]
    simp only [State.raise1_site, State.putN_site, ite_self]
    exact ⟨_, _, rfl⟩
  · rw [if_pos (by simp [hb])]
    exact ⟨_, _, rfl⟩

theorem State.boundaryFollowed_site (s : State) :
    ∃ a b, s.boundaryFollowed.site = { s.site with shortRun := a, longRun := b } := by
  have hsame : s.rolesBoundary.routesTaken.ringClassMoves.ringKeyBoundary.site = s.site :=
    Same.site (m := (· == 32)) (by simp (maxDischargeDepth := 60) [State.routesTaken]) rfl
  obtain ⟨a, b, h⟩ := s.rolesBoundary.routesTaken.ringClassMoves.ringKeyBoundary.epochShort_site
  exact ⟨a, b, (State.refreshAlloc_site _).trans (hsame ▸ h)⟩

/-- A trace's sample is no element. -/
theorem State.get_traceSample (s : State) (kind inst reference word k : Nat) :
    (s.traceSample kind inst reference word).get k = s.get k := by
  unfold State.traceSample
  split <;> rfl

theorem State.get_traceAlloc (s : State) (k : Nat) : s.traceAlloc.get k = s.get k := by
  unfold State.traceAlloc
  dsimp only
  rw [foldl_keeps (·.get k) _ fun st _ => st.get_traceSample _ _ _ _ k]
  exact foldl_keeps (·.get k) _ (fun st _ => st.get_traceSample _ _ _ _ k) _ s

section
variable {k : Nat} (hl : 0x500000 ≤ k)
include hl

theorem State.get_boundaryTold (fresh : Bool) (s : State) (hd : keyO k ∉ [0x0D]) : (s.boundaryTold fresh).get k = s.get k := by
  have hlat : k ≠ Reg.LAT_EPOCH_TO_LOOP := by simp only [Reg.LAT_EPOCH_TO_LOOP, key]; omega
  have hdelay : k ≠ Reg.REPEAT_DELAY := ne_key_of_object hd
  have hmeasured (u : State) (c : Bool) :
      (if c then u.measureLat Reg.LAT_EPOCH_TO_LOOP 13 8000 u.anyRing else u).get k = u.get k := by
    split
    · exact u.get_measureLat hlat _ _ _
    · rfl
  have hrepeat (u : State) : (if u.anyRing then (u.putN Reg.REPEAT_DELAY (u.freeAt 15 % 97)).drawn else u).get k = u.get k := by
    split
    · exact (u.get_putN _ _ _).trans (if_neg hdelay)
    · rfl
  have hpair (u : State) : (if u.pair.phase == 1 then { u with pair := { u.pair with waited := u.pair.waited + 1 } } else u).get k =
      u.get k := by split <;> rfl
  have hupd (u : State) : (if u.upd.live != 0 then { u with upd := { u.upd with waited := u.upd.waited + 1 } } else u).get k =
      u.get k := by split <;> rfl
  have hlegs (u : State) : (if u.fab.clockHold then u.forAllLegs fun n st => st.leavePark n else u).get k = u.get k := by
    split
    · exact foldl_keeps (·.get k) (fun (st : State) n => st.leavePark n) (fun _ _ => rfl) _ u
    · rfl
  unfold State.boundaryTold
  dsimp only
  rw [hlegs, hupd, hpair, State.get_mirror, hrepeat, hmeasured, State.get_traceAlloc]

variable (hk : k < 0x700000)
include hk

theorem State.get_dropRoute (s : State) (g : Fin 4) : (s.dropRoute g).get k = s.get k := by
  unfold State.dropRoute
  dsimp only
  split
  · rfl
  · exact s.get_ownerSwitch _ _ _ hk (tally_of_le (by omega))

theorem State.get_putRoute_of_ge (s : State) (g : Fin 4) (n : Nat) : (s.putRoute g n).get k = s.get k := by
  rw [State.get_putRoute, if_neg (ne_groupKey (.inr (by omega)) g.isLt (by decide) (by decide))]

theorem State.get_takeRoute (s : State) (g : Fin 4) (r v : Nat) : (s.takeRoute g r v).get k = s.get k := by
  rw [State.takeRoute, State.get_ownerSwitch _ _ _ _ hk (tally_of_le (by omega)), State.get_setGroup]

theorem State.get_routeStep (s : State) (g : Fin 4) : (s.routeStep g).get k = s.get k := by
  unfold State.routeStep
  dsimp only
  repeat' split
  all_goals simp only [State.get_unparkGroup, State.get_putRoute_of_ge hl hk, State.get_takeRoute hl hk, State.get_setGroup]

theorem State.get_routeOpen (s : State) (g : Fin 4) : (s.routeOpen g).get k = s.get k := by
  rw [State.routeOpen, State.get_routeStep hl hk, State.get_putRoute_of_ge hl hk, State.get_dropRoute hl hk,
    State.get_parkGroup _ _ (.inr (by omega))]

/-- A route selection that takes effect changes no element of the allocation and of the outlets. -/
theorem State.get_routeEpoch (s : State) (g : Fin 4) : (s.routeEpoch g).get k = s.get k := by
  unfold State.routeEpoch
  dsimp only
  rw [State.get_setGroup]
  repeat' split
  all_goals simp only [State.get_routeOpen hl hk, State.get_putRoute_of_ge hl hk, State.get_setGroup]

theorem State.get_groupLeave (s : State) (g : Fin 4) : (s.groupLeave g).get k = s.get k := by
  rw [State.groupLeave, State.get_putRoute_of_ge hl hk, State.get_setGroup, State.get_dropRoute hl hk,
    State.get_parkGroup _ _ (.inr (by omega))]

/-- The ring class that moves changes objects of the modes only. -/
theorem State.get_ringClassMoves (s : State) : s.ringClassMoves.get k = s.get k := by
  have htransit : k ≠ Reg.MODE_TRANSIT := by simp only [Reg.MODE_TRANSIT, key]; omega
  have hforce : k ≠ Reg.MODE_IN_FORCE := by simp only [Reg.MODE_IN_FORCE, key]; omega
  have hfollow (u : State) : u.refreshTransit.get k = u.get k := by
    unfold State.refreshTransit
    dsimp only
    split <;> simp [htransit, hforce]
  unfold State.ringClassMoves State.arrive
  dsimp only
  split
  · rw [hfollow]
    split <;> rfl
  · rfl

theorem State.get_refreshRingKey (s : State) : s.refreshRingKey.get k = s.get k := by
  have hage : k ≠ Reg.RING_KEY_AGE := by simp only [Reg.RING_KEY_AGE, key]; omega
  have hstate : k ≠ Reg.RING_KEY_STATE := by simp only [Reg.RING_KEY_STATE, key]; omega
  unfold State.refreshRingKey
  dsimp only
  rw [State.get_putN, if_neg hstate, State.get_putN, if_neg hage]

theorem State.get_ringKeySwitch (s : State) : s.ringKeySwitch.get k = s.get k := by
  have hslot : k ≠ Reg.RING_KEY_SLOT := by simp only [Reg.RING_KEY_SLOT, key]; omega
  have hnext : k ≠ Reg.RING_KEY_NEXT := by simp only [Reg.RING_KEY_NEXT, key]; omega
  have hstored (u : State) {j : Nat} (n : Nat) (hj : k ≠ j) : (u.putStored j n).get k = u.get k :=
    (u.get_put j k (.num n)).trans (if_neg hj)
  unfold State.ringKeySwitch
  dsimp only
  rw [State.get_refreshRingKey hl hk]
  exact (hstored (s.putStored Reg.RING_KEY_SLOT (s.nat Reg.RING_KEY_NEXT)) 0xFF hnext).trans (hstored s _ hslot)

/-- What a boundary does for the ring key changes elements of the key groups and the events' only. -/
theorem State.get_ringKeyBoundary (s : State) : s.ringKeyBoundary.get k = s.get k := by
  have hhigh : k ≠ Reg.RING_KEY_HIGH := by simp only [Reg.RING_KEY_HIGH, key]; omega
  have hswitch (u : State) (c : Bool) : (if c then u.ringKeySwitch else u).get k = u.get k := by
    split
    · exact u.get_ringKeySwitch hl hk
    · rfl
  have hpersist (u : State) : (if u.epochNo % 65536 == 0 then u.ringKeyPersist else u).get k = u.get k := by
    split
    · exact (u.get_putN _ _ _).trans (if_neg hhigh)
    · rfl
  have haged (u : State) (before : Val) (c : Bool) :
      (if c then State.raiseCat { u with trust := { u.trust with ageTold := true } } 0xA000 0x24 24 before else u).get k =
        u.get k := by
    split
    · exact State.get_raiseCat (.inl (by omega)) _ _ _ _ _
    · rfl
  unfold State.ringKeyBoundary
  dsimp only
  rw [haged, hpersist, State.get_refreshRingKey hl hk, hswitch]
  split <;> rfl

theorem State.get_roleClear (s : State) (i : Nat) (hd : keyO k ∉ [0x4A]) : (s.roleClear i).get k = s.get k := by
  have hactive : k ≠ Reg.ROLE_ACTIVE := by simp only [Reg.ROLE_ACTIVE, key]; omega
  have hpending : k ≠ Reg.ROLE_PENDING := by simp only [Reg.ROLE_PENDING, key]; omega
  have hduty : k ≠ Reg.PUMP_DUTY (Fin.ofNat 4 i).val := ne_key_of_object hd
  unfold State.roleClear
  dsimp only
  rw [State.rolePublish, State.get_putN, if_neg hpending]
  repeat' split
  · rw [State.get_groupLeave hl hk, State.get_putBit_of_ne _ hactive]
  · rw [State.setPump, State.get_ownerSwitch _ _ _ _ hk (tally_of_le (by omega)), State.get_putN, if_neg hduty,
      State.get_putBit_of_ne _ hactive]
  · rw [State.get_putBit_of_ne _ hactive]

theorem State.get_rolesBoundary (s : State) (hd : keyO k ∉ [0x4A]) : s.rolesBoundary.get k = s.get k := by
  have hclear (st : State) (c : Bool) (i : Nat) : (if c then st.roleClear i else st).get k = st.get k := by
    split
    · exact st.get_roleClear hl hk i hd
    · rfl
  unfold State.rolesBoundary
  dsimp only
  rw [foldl_keeps (·.get k) _ fun st i => hclear st _ _]
  exact foldl_keeps (·.get k) _ (fun st i => hclear st _ _) _ s

theorem State.get_epochShort (s : State) (hd : keyO k ∉ [0x04, 0x07]) : s.epochShort.get k = s.get k := by
  have hmin : k ≠ Reg.EPOCH_MIN := ne_key_of_object hd
  have hflags : k ≠ Reg.ALLOC_FLAGS := ne_key_of_object hd
  have hput (u : State) (n : Nat) : (u.putN Reg.ALLOC_FLAGS n).get k = u.get k := (u.get_putN _ _ _).trans (if_neg hflags)
  unfold State.epochShort
  dsimp only
  by_cases hb : s.byMarks = true
  · rw [if_neg (by simp [hb]), apply_ite (State.get · k), apply_ite (State.get · k), State.get_raise1 (.inl (by omega)), hput, hput]
    simp only [ite_self]
    rfl
  · rw [if_pos (by simp [hb]), State.get_withSite, hput, State.get_putN, if_neg hmin]

/-- What follows the grants at a boundary leaves EPOCH_NUMBER and the grants shown. -/
theorem State.get_boundaryFollowed (s : State) (hd : keyO k ∉ [0x04, 0x05, 0x07, 0x4A]) :
    s.boundaryFollowed.get k = s.get k := by
  have hsub {l : List Nat} (h : l ⊆ [0x04, 0x05, 0x07, 0x4A]) : keyO k ∉ l := fun hm => hd (h hm)
  rw [State.boundaryFollowed, State.get_refreshAlloc _ (hsub (by decide)), State.get_epochShort hl hk _ (hsub (by decide)),
    State.get_ringKeyBoundary hl hk, State.get_ringClassMoves hl hk, State.routesTaken,
    foldl_keeps (·.get k) _ fun st g => st.get_routeEpoch hl hk g]
  exact s.get_rolesBoundary hl hk (hsub (by decide))

end

/-! ## A boundary (R169, R171, R178, R183, R500) -/

/-- What a boundary leaves: the grants g in use and shown, and the wave of the next epoch open. -/
structure Released (g : Grants) (t : State) : Prop where
  applied : t.site.applied = g
  shows : ∀ i : Fin 4, t.ShowsGrants g i
  due : t.ring.due = false
  frozen : t.site.frozen = false
  got : t.site.got = []
  computed : t.site.computed = none

/-- A boundary changes EPOCH_NUMBER and the grant objects by what it releases only. -/
theorem State.get_boundaryActs (s : State) {k : Nat} (hl : 0x500000 ≤ k) (hk : k < 0x700000)
    (hd : keyO k ∉ [0x04, 0x05, 0x07, 0x0D, 0x4A]) :
    s.boundaryActs.get k = s.treeBoundary.overrunNoted.grantsReleased.get k := by
  have hsub {l : List Nat} (h : l ⊆ [0x04, 0x05, 0x07, 0x0D, 0x4A]) : keyO k ∉ l := fun hm => hd (h hm)
  rw [State.boundaryActs_eq, State.get_boundaryFollowed hl hk _ (hsub (by decide))]
  exact State.get_boundaryTold hl _ _ (hsub (by decide))

theorem State.boundaryActs_releases (s : State) : Released s.treeBoundary.overrunNoted.nextGrants s.boundaryActs := by
  have hacts := s.boundaryActs_eq
  obtain ⟨a, b, hsite⟩ := s.grantsTold.waveOpened.boundaryFollowed_site
  have hring := s.grantsTold.waveOpened.boundaryFollowed_ring
  have happlied : s.grantsTold.site.applied = s.treeBoundary.overrunNoted.nextGrants := by
    rw [State.grantsTold, State.boundaryTold_site]
    rfl
  have hout (i : Fin 4) := outletKey_bounds i (c := 0x48) (by decide)
  have hgroup (i : Fin 4) := allocKey_bounds (o := 0x24) (e := i.val + 1) (by decide) (by omega)
  exact
    { applied := by rw [hacts, hsite]; exact happlied
      shows := fun i => (s.treeBoundary.overrunNoted.grantsReleased_shows i).of_get
        (s.get_boundaryActs (Nat.le_trans (by decide) (hout i).1) (hout i).2 keyO_notMem)
        (s.get_boundaryActs (hgroup i).1 (Nat.lt_of_lt_of_le (hgroup i).2 (by decide)) (keyO_notMem (he := by omega)))
      due := by rw [hacts, hring]; rfl
      frozen := by rw [hacts, hsite]; rfl
      got := by rw [hacts, hsite]; rfl
      computed := by rw [hacts, hsite]; rfl }

/-- At a node in the roster, or off the marks, a boundary releases the last safe grants while the node holds, and otherwise a result
that is there. -/
theorem State.boundaryActs_applied {s : State} (hmember : s.byMarks = true → s.isMember = true) :
    (∀ x, s.site.hold = false → s.site.computed = some x → s.boundaryActs.site.applied = x.1) ∧
      (s.site.hold = true → s.boundaryActs.site.applied = s.site.safe) := by
  obtain ⟨a, b, hsite⟩ := s.treeBoundary_site
  have hmember' : s.treeBoundary.byMarks = true → s.treeBoundary.isMember = true := by
    rwa [s.treeBoundary_standsAlike.byMarks, s.treeBoundary_standsAlike.isMember]
  refine ⟨fun x hh hx => ?_, fun hh => ?_⟩
  · rw [s.boundaryActs_releases.applied]
    exact State.nextGrants_of_computed hmember' (by rwa [hsite]) (by rwa [hsite])
  · rw [s.boundaryActs_releases.applied, State.nextGrants_of_hold hmember' (by rwa [hsite]), hsite]

theorem State.epochNo_boundaryActs (s : State) : s.boundaryActs.nat Reg.EPOCH_NUMBER = s.epochNo := by
  refine State.nat_of_get ?_
  rw [s.get_boundaryActs (by decide) (by decide) keyO_notMem, State.get_grantsReleased _ keyO_notMem,
    State.get_overrunNoted _ (by decide), State.get_treeBoundary _ (by decide)]

end Sys2Proof.Machine
end

section
/-! Proof of the statement on the grants: the boundary commands, isolation, budgets, port stops and lost capacity. -/

namespace Sys2Proof.Machine

/-! ## The two boundary commands (R168, R169, R500) -/

/-- A local boundary begins: isolation that waited for it applies, and EPOCH_NUMBER counts on. -/
def State.localEpochBegun (s : State) : State :=
  let u := if s.site.isoSoon then s.isolate else s
  u.putN Reg.EPOCH_NUMBER ((u.epochNo + 1) % 18446744073709551616)

theorem exec_epochBoundary {s : State} (hp : s.powered = true) (hd : s.ring.due = true) :
    exec .epochBoundary s = .next s.boundaryActs :=
  congrArg Host.Outcome.next ((State.live_of_powered hp _).trans (if_pos hd))

theorem exec_localEpochBoundary {s : State} (hp : s.powered = true) (hb : s.byMarks = false) :
    exec .localEpochBoundary s = .next s.localEpochBegun.boundaryActs :=
  congrArg Host.Outcome.next ((State.live_of_powered hp _).trans (if_neg (ne_true_of_eq_false hb)))

theorem State.localEpochBegun_standsAlike (s : State) : StandsAlike s s.localEpochBegun := by
  have hiso : StandsAlike s (if s.site.isoSoon then s.isolate else s) := by
    split
    · exact ⟨fun _ _ => rfl, rfl, rfl⟩
    · exact StandsAlike.refl s
  exact hiso.trans (State.put_standsAlike _ _ (by decide))

theorem State.localEpochBegun_epochNo (s : State) : s.localEpochBegun.epochNo = (s.epochNo + 1) % 18446744073709551616 := by
  have hiso : (if s.site.isoSoon then s.isolate else s).epochNo = s.epochNo := by split <;> rfl
  unfold State.localEpochBegun
  dsimp only
  rw [State.epochNo, State.nat_putN, if_pos rfl, hiso]

theorem State.localEpochBegun_site (s : State) :
    ∃ a b, s.localEpochBegun.site = { s.site with isoCap := a, isoSoon := b } := by
  unfold State.localEpochBegun
  dsimp only
  split <;> exact ⟨_, _, rfl⟩

/-- What a boundary command leaves, where the boundary's acts start from u. -/
theorem boundary_releases {s u : State} {c : Instr} (hc : exec c s = .next u.boundaryActs)
    (hmember : u.byMarks = true → u.isMember = true) (hhold : u.site.hold = s.site.hold)
    (hcomputed : u.site.computed = s.site.computed) (hsafe : u.site.safe = s.site.safe)
    (hepoch : c = .localEpochBoundary → u.epochNo = (s.epochNo + 1) % 18446744073709551616) :
    ∃ t, exec c s = .next t ∧ t.ring.due = false ∧ t.site.frozen = false ∧ t.site.got = [] ∧ t.site.computed = none ∧
      (c = .localEpochBoundary → t.nat Reg.EPOCH_NUMBER = (s.epochNo + 1) % 18446744073709551616) ∧
      (∀ x, s.site.hold = false → s.site.computed = some x → t.site.applied = x.1) ∧
      (s.site.hold = true → t.site.applied = s.site.safe) ∧
      ∀ o : Fin 4, t.int (Reg.OUT_GRANT o) = t.site.applied.port o ∧ t.int (Reg.PG_GRANT (o.val + 1)) = t.site.applied.group o := by
  have hrel := u.boundaryActs_releases
  obtain ⟨hnew, hsafe'⟩ := State.boundaryActs_applied hmember
  refine ⟨_, hc, hrel.due, hrel.frozen, hrel.got, hrel.computed, fun h => ?_, ?_, ?_, fun o => ?_⟩
  · rw [State.epochNo_boundaryActs, hepoch h]
  · rwa [← hhold, ← hcomputed]
  · rwa [← hhold, ← hsafe]
  · rw [hrel.applied]
    exact hrel.shows o

/-! ## Isolation (R164, R184) -/

/-- The launcher is lost: the caps apply now, or from the boundary that is due. -/
def State.isolated (s : State) : State :=
  let u := { s with ring := { s.ring with launcher := none } }
  if s.ring.due then { u with site := { u.site with isoSoon := true } } else u.isolate

theorem exec_ringIsolated {s : State} (hp : s.powered = true) (hrole : s.role 12 = true) (hring : s.anyRing = false)
    (hm : s.isMember = true) (hcap : s.site.isoCap = none) : exec .ringIsolated s = .next s.isolated.refreshAlloc :=
  congrArg Host.Outcome.next ((State.live_of_powered hp _).trans (if_pos (by simp [hrole, hring, hm, hcap])))

theorem State.isolated_caps {s : State} (hd : s.ring.due = false) : s.isolated.refreshAlloc.site.isoCap = some s.site.applied ∧
    s.isolated.refreshAlloc.nat Reg.ALLOC_STATE = if s.site.hold then 2 else 3 := by
  have hsite : s.isolated.site = { s.site with isoCap := some s.site.applied, isoSoon := false } := by
    rw [State.isolated, if_neg (ne_true_of_eq_false hd)]
    rfl
  refine ⟨by rw [State.refreshAlloc_site, hsite], ?_⟩
  rw [State.refreshAlloc_state, State.allocStateOf, hsite]
  rfl

theorem State.isolated_soon {s : State} (hd : s.ring.due = true) : s.isolated.refreshAlloc.site.isoSoon = true := by
  rw [State.refreshAlloc_site, State.isolated, if_pos hd]

/-! ## Budgets (R161) -/

/-- E_rem and the time left of one outlet are handed over. -/
def State.deliverBudget (s : State) (o : Fin 4) : State :=
  { s with site := { s.site with budget := s.site.budget.set o (s.budgetOf o) } }

theorem exec_demandBudgetDelivery {s : State} (hp : s.powered = true) (hv : s.part.variant = .l) (e : Fin 2) :
    exec (.demandBudgetDelivery e) s = .next
      (if e.val == 0 then (s.deliverBudget 0).deliverBudget 1 else (s.deliverBudget 2).deliverBudget 3) :=
  congrArg Host.Outcome.next ((State.live_of_powered hp _).trans (if_neg (by rw [hv]; decide)))

theorem State.deliverBudget_budget (s : State) (o p : Fin 4) :
    (s.deliverBudget o).site.budget[p] = if p = o then s.budgetOf o else s.site.budget[p] := by
  by_cases h : p = o
  · subst h; simp [State.deliverBudget]
  · have hv : o.val ≠ p.val := fun e => h (Fin.ext e.symm)
    simp [State.deliverBudget, h, hv]

/-- A budget that is handed over changes no other. -/
theorem State.budgetOf_deliverBudget (s : State) (o p : Fin 4) : (s.deliverBudget o).budgetOf p = s.budgetOf p := rfl

/-- Of two deliveries each outlet has its own. -/
theorem State.deliverBudget_pair (s : State) {p q o : Fin 4} (ho : o = p ∨ o = q) :
    ((s.deliverBudget p).deliverBudget q).site.budget[o] = s.budgetOf o := by
  rw [State.deliverBudget_budget, State.budgetOf_deliverBudget, State.deliverBudget_budget]
  by_cases hq : o = q
  · rw [if_pos hq, hq]
  · have hp : o = p := ho.resolve_right hq
    rw [if_neg hq, if_pos hp, hp]

/-! ## Port stops (R34, R194) -/

/-- A group that is routed to the port stops. -/
def State.stopRouted (node idx epoch : Nat) (s : State) (g : Fin 4) : State :=
  if s.groupPort g == some (node, idx) then
    (s.stopTarget g).setGroup g { (s.stopTarget g).groups[g] with stopEpoch := epoch }
  else s

theorem State.stopGroups_eq (s : State) (node idx epoch : Nat) :
    s.stopGroups node idx epoch = (List.finRange 4).foldl (State.stopRouted node idx epoch) s := rfl

/-- Whether a group stands at zero by the PORT_STOP of an epoch. -/
def State.Stopped (g : Fin 4) (epoch : Nat) (s : State) : Prop :=
  s.groups[g].portStopped = true ∧ s.groups[g].target = 0 ∧ s.groups[g].stopEpoch = epoch

theorem State.stopRouted_groups (node idx epoch : Nat) (s : State) (g : Fin 4) :
    (s.stopRouted node idx epoch g).groups = if s.groupPort g == some (node, idx) then
      s.groups.set g { s.groups[g] with target := 0, rampNs := 0, portStopped := true, stopEpoch := epoch } else s.groups := by
  unfold State.stopRouted
  split
  · simp [State.stopTarget]
  · rfl

theorem State.stopRouted_stops {node idx : Nat} (epoch : Nat) {s : State} {g : Fin 4} (h : s.groupPort g = some (node, idx)) :
    State.Stopped g epoch (s.stopRouted node idx epoch g) := by
  have hgroups := s.stopRouted_groups node idx epoch g
  rw [if_pos (by rw [h]; exact beq_self_eq_true _)] at hgroups
  simp [State.Stopped, hgroups]

/-- Stopping a group changes no route. -/
theorem State.groupPort_stopRouted (node idx epoch : Nat) (s : State) (g h : Fin 4) :
    (s.stopRouted node idx epoch g).groupPort h = s.groupPort h := by
  have hval (r : Nat) : (s.stopRouted node idx epoch g).routeVal h r = s.routeVal h r := by
    unfold State.stopRouted
    split <;> rfl
  have hroute : (s.stopRouted node idx epoch g).groups[h].routeNow = s.groups[h].routeNow := by
    rw [State.stopRouted_groups]
    split
    · by_cases hh : g.val = h.val <;> simp [hh]
    · rfl
  simp only [State.groupPort, hval, hroute]

theorem State.Stopped.stopRouted {node idx epoch : Nat} {s : State} {g h : Fin 4} (hne : h ≠ g) (hs : s.Stopped g epoch) :
    State.Stopped g epoch (s.stopRouted node idx epoch h) := by
  have hv : h.val ≠ g.val := fun e => hne (Fin.ext e)
  have hgroup : (s.stopRouted node idx epoch h).groups[g] = s.groups[g] := by
    rw [State.stopRouted_groups]
    split
    · simp [hv]
    · rfl
  rw [State.Stopped, hgroup]
  exact hs

theorem State.stopGroups_stops {s : State} {node idx : Nat} (epoch : Nat) {g : Fin 4} (h : s.groupPort g = some (node, idx)) :
    (s.stopGroups node idx epoch).Stopped g epoch := by
  rw [State.stopGroups_eq]
  exact foldl_sets (I := fun st => st.groupPort g = some (node, idx)) (List.mem_finRange g)
    (fun st i hst => (st.groupPort_stopRouted node idx epoch i g).trans hst) (fun _ hst => State.stopRouted_stops epoch hst)
    (fun _ _ _ hne hst => hst.stopRouted hne) h

theorem exec_portStop {s : State} (hp : s.powered = true) {src port i : Nat} (epoch : Nat)
    (hm : (s.ring.roster.any fun m => m.addr == src) = true) (hi : portIndex port = some i) :
    exec (.portStop src port epoch) s = .next (s.stopGroups (field port 11 0) i epoch) := by
  refine congrArg Host.Outcome.next ((State.live_of_powered hp _).trans ?_)
  rw [State.portStopped, hm, hi]
  rfl

/-! ## Lost capacity (R194, R238) -/

theorem field_outletPort {n : Nat} (hn : n < 4096) (o : Fin 4) :
    field (n + 4096 + 16384 * o.val) 11 0 = n ∧ field (n + 4096 + 16384 * o.val) 13 12 = 1 ∧
      field (n + 4096 + 16384 * o.val) 15 14 = o.val := by
  simp only [field]
  omega

/-- What an outlet's feeding groups have lost lowers its offer. -/
def State.offerLowered (s : State) (o : Fin 4) (lost : Nat) : State :=
  State.refreshOffer { s with site := { s.site with offerLoss := s.site.offerLoss.set o (s.site.offerLoss[o] + 1000 * lost) } } o

theorem State.lossReceived_of_outlet {s : State} {src : Nat} (lost : Nat) (o : Fin 4)
    (hm : (s.ring.roster.any fun m => m.addr == src) = true) (hn : s.ownNode < 4096) :
    s.lossReceived src (s.ownNode + 4096 + 16384 * o.val) lost = s.offerLowered o lost := by
  obtain ⟨hnode, hkind, hport⟩ := field_outletPort hn o
  have ho : Fin.ofNat 4 (field (s.ownNode + 4096 + 16384 * o.val) 15 14) = o := by rw [hport]; exact Fin.ofNat_val_eq_self o
  have hown : ¬(field (s.ownNode + 4096 + 16384 * o.val) 11 0 != s.ownNode ||
      field (s.ownNode + 4096 + 16384 * o.val) 13 12 != 1) = true := by simp [hnode, hkind]
  have hlowered := congrArg (s.offerLowered · lost) ho
  unfold State.lossReceived
  rw [hm, if_neg (by decide), if_neg hown]
  exact hlowered

theorem exec_groupLoss {s : State} (hp : s.powered = true) (src port lost : Nat) :
    exec (.groupLoss src port lost) s = .next (s.lossReceived src port lost) :=
  congrArg Host.Outcome.next (State.live_of_powered hp _)

theorem State.offerLowered_offerLoss (s : State) (o : Fin 4) (lost : Nat) :
    (s.offerLowered o lost).site.offerLoss[o] = s.site.offerLoss[o] + 1000 * lost := by
  have hsite (u : State) : (u.refreshOffer o).site = u.site := Same.site (m := (· == 32)) (by simp) rfl
  rw [State.offerLowered, hsite]
  simp

/-! ## The statement -/

/-- Settles O29: both boundaries are one operation, which releases the grants and then, stage by stage, writes none of their
objects; the other clauses are what their commands write. -/
theorem grantsAtBoundaries : Obligations.GrantsAtBoundaries := by
  refine ⟨fun s ns hp hc hn hf => allocCalcDone_notes hp hc hn hf ns,
    fun s c hp hmember hc => ?_,
    fun s hp hrole hring hm hcap => ⟨_, exec_ringIsolated hp hrole hring hm hcap, State.isolated_caps, State.isolated_soon⟩,
    fun s e hp hv => ⟨_, exec_demandBudgetDelivery hp hv e, fun o ho => ?_⟩,
    fun s src port epoch i hp hm hi => ⟨_, exec_portStop hp epoch hm hi, fun g hg => State.stopGroups_stops epoch hg⟩,
    fun s src lost o hp hm hn => ⟨_, exec_groupLoss hp _ _ _, ?_⟩⟩
  · rcases hc with ⟨rfl, hdue⟩ | ⟨rfl, hb⟩
    · exact boundary_releases (exec_epochBoundary hp hdue) hmember rfl rfl rfl nofun
    · obtain ⟨a, b, hsite⟩ := s.localEpochBegun_site
      refine boundary_releases (exec_localEpochBoundary hp hb) (fun h => ?_) (by rw [hsite]) (by rw [hsite]) (by rw [hsite])
        fun _ => s.localEpochBegun_epochNo
      rw [s.localEpochBegun_standsAlike.byMarks, hb] at h
      exact absurd h (by decide)
  · have hport := o.isLt
    split
    case isTrue h =>
      have he : e.val = 0 := by simpa using h
      exact s.deliverBudget_pair (by omega)
    case isFalse h =>
      have he : e.val ≠ 0 := by simpa using h
      exact s.deliverBudget_pair (by omega)
  · rw [State.lossReceived_of_outlet lost o hm hn, State.offerLowered_offerLoss]

end Sys2Proof.Machine
end

section
/-! What the acts on a cooling loop leave (chapter 10): the loop's averages and its mark of no engine, and the elements they do not
name. -/

namespace Sys2Proof.Machine

/-! ## Addresses (R13) -/

/-- Whether an address belongs neither to a session core, groups 0x60 to 0x63, nor to the load switches, the meters or the events
above, and is no counter of transactions. -/
def Aside (k : Nat) : Prop := tally k = false ∧ (k < 0x600000 ∨ 0x640000 ≤ k ∧ k < 0x700000)

theorem aside_coolKey (o : Fin 4) {c e : Nat} (hc : c < 256) (he : e < 256) : Aside (key (0x64 + o.val) c e) := by
  have hl : 0x640000 ≤ key (0x64 + o.val) c e ∧ key (0x64 + o.val) c e < 0x680000 := by simp only [key]; omega
  exact ⟨tally_of_le (Nat.le_trans (by decide) hl.1), .inr ⟨hl.1, Nat.lt_trans hl.2 (by decide)⟩⟩

theorem aside_engineKey (e : Fin 38) {c : Nat} (hc : c < 256) : Aside (key (0x20 + e.val) c 0) := by
  have hl : 0x200000 ≤ key (0x20 + e.val) c 0 ∧ key (0x20 + e.val) c 0 < 0x460000 := by simp only [key]; omega
  exact ⟨tally_of_le (Nat.le_trans (by decide) hl.1), .inl (Nat.lt_trans hl.2 (by decide))⟩

theorem Aside.lt {k : Nat} (h : Aside k) : k < 0x700000 := by
  obtain ⟨-, h⟩ := h; omega

theorem Aside.ne_coreKey {k c : Nat} (h : Aside k) (o : Fin 4) (hc : c < 256) : k ≠ key (0x60 + o.val) c 0 := by
  obtain ⟨-, h⟩ := h
  simp only [key]; omega

/-! ## What acts on a loop leave -/

/-- A loop's averages and its mark of no engine. -/
def Cool.marks (c : Cool) : Nat × Int × Bool := (c.iNum, c.iSum, c.noEngine)

theorem Cool.of_marks {c : Cool} {n : Nat} {i : Int} {b : Bool} (h : c.marks = (n, i, b)) :
    c.iNum = n ∧ c.iSum = i ∧ c.noEngine = b := by
  simpa [Cool.marks] using h

/-- From one state to another, of the elements aside only those of the objects listed may have changed, and the loop's averages and
its mark of no engine have not. -/
structure LoopKept (o : Fin 4) (l : List Nat) (s t : State) : Prop where
  get : ∀ k, Aside k → keyO k ∉ l → t.get k = s.get k
  marks : t.cools[o].marks = s.cools[o].marks

theorem LoopKept.of_cools {o : Fin 4} {l : List Nat} {s t : State} (hc : t.cools = s.cools)
    (hg : ∀ k, Aside k → keyO k ∉ l → t.get k = s.get k) : LoopKept o l s t :=
  ⟨hg, by rw [hc]⟩

theorem LoopKept.refl (o : Fin 4) (l : List Nat) (s : State) : LoopKept o l s s := ⟨fun _ _ _ => rfl, rfl⟩

section
variable {o : Fin 4} {l : List Nat} {s t : State} (h : LoopKept o l s t)
include h

theorem LoopKept.trans {u : State} (h' : LoopKept o l t u) : LoopKept o l s u :=
  ⟨fun k ha hk => (h'.get k ha hk).trans (h.get k ha hk), h'.marks.trans h.marks⟩

theorem LoopKept.mono {l' : List Nat} (hl : l ⊆ l') : LoopKept o l' s t :=
  ⟨fun k ha hk => h.get k ha fun hm => hk (hl hm), h.marks⟩

/-- A write of an element of an object listed. -/
theorem LoopKept.put {g c e : Nat} (v : Val) (hk : c ∈ l ∧ c < 256 ∧ e < 256) : LoopKept o l s (t.put (key g c e) v) :=
  have ⟨hc, hc', he⟩ := hk
  h.trans (.of_cools rfl fun k _ hk => (t.get_put _ k v).trans (if_neg (ne_key_of_object hk hc hc' he)))

/-- A write of a session core's element. -/
theorem LoopKept.putCore {p : Fin 4} {c : Nat} (v : Val) (hc : c < 256) : LoopKept o l s (t.put (key (0x60 + p.val) c 0) v) :=
  h.trans (.of_cools rfl fun k ha _ => (t.get_put _ k v).trans (if_neg (ha.ne_coreKey p hc)))

/-- A change of the loop's record that leaves its averages and its mark. -/
theorem LoopKept.setCool {c : Cool}
    (hc : c.iNum = t.cools[o].iNum ∧ c.iSum = t.cools[o].iSum ∧ c.noEngine = t.cools[o].noEngine) :
    LoopKept o l s (t.setCool o c) := by
  obtain ⟨hnum, hsum, hmark⟩ := hc
  refine h.trans ⟨fun _ _ _ => rfl, ?_⟩
  simp only [State.setCool, Fin.getElem_fin, Vector.getElem_set_self, Cool.marks] at *
  rw [hnum, hsum, hmark]

theorem LoopKept.raise1 (source event prio : Nat) (before : Val) : LoopKept o l s (t.raise1 source event prio before) :=
  h.trans (.of_cools (Same.cools (m := (· == 35)) (by simp) rfl) fun _ ha _ =>
    State.get_raise1 (.inl (Nat.lt_trans ha.lt (by decide))) _ _ _ _ _)

theorem LoopKept.ite (c : Prop) [Decidable c] {u : State} (h' : LoopKept o l s u) : LoopKept o l s (if c then t else u) := by
  split <;> assumption

/-- An element of the loop's own group, of no object listed, reads as before. -/
theorem LoopKept.nat {c e : Nat} (hk : c ∉ l ∧ c < 256 ∧ e < 256) :
    t.nat (key (0x64 + o.val) c e) = s.nat (key (0x64 + o.val) c e) :=
  have ⟨hc, hc', he⟩ := hk
  State.nat_of_get (h.get _ (aside_coolKey o hc' he) (keyO_notMem hc hc' he))

theorem LoopKept.int {c e : Nat} (hk : c ∉ l ∧ c < 256 ∧ e < 256) :
    t.int (key (0x64 + o.val) c e) = s.int (key (0x64 + o.val) c e) :=
  have ⟨hc, hc', he⟩ := hk
  State.int_of_get (h.get _ (aside_coolKey o hc' he) (keyO_notMem hc hc' he))

end

@[simp] theorem State.get_setCool (s : State) (o : Fin 4) (c : Cool) (k : Nat) : (s.setCool o c).get k = s.get k := rfl
@[simp] theorem State.nat_setCool (s : State) (o : Fin 4) (c : Cool) (k : Nat) : (s.setCool o c).nat k = s.nat k := rfl
@[simp] theorem State.int_setCool (s : State) (o : Fin 4) (c : Cool) (k : Nat) : (s.setCool o c).int k = s.int k := rfl
@[simp] theorem State.setCool_cool (s : State) (o : Fin 4) (c : Cool) : (s.setCool o c).cools[o] = c := by
  simp [State.setCool]

/-! ## The session core's acts (R231, R237) -/

section
variable (o p : Fin 4) (l : List Nat) (s : State)

theorem State.toState_kept (n : Nat) : LoopKept o l s (s.toState p n) := by
  have hm (u : State) (it : MirrorItem) : LoopKept o l u (u.mirror it) :=
    .of_cools (Same.cools (m := (· == 35)) (by simp) rfl) fun k _ _ => u.get_mirror it k
  have hput : LoopKept o l s (s.putN (Reg.OUT_STATE p.val) n) := (LoopKept.refl o l s).putCore _ (by decide)
  unfold State.toState
  exact hput.ite _ (hput.trans (hm _ _))

theorem State.zeroClaim_kept : LoopKept o l s (s.zeroClaim p) := by
  have hclaim (u : State) : LoopKept o l u (u.claimUpdate p) := .of_cools rfl fun _ _ _ => rfl
  have hput : LoopKept o l s ((s.putN (Reg.SESSION_CEIL p.val) 0).putN (Reg.SESSION_FLOOR p.val) 0) :=
    ((LoopKept.refl o l s).putCore _ (by decide)).putCore _ (by decide)
  exact hput.trans (hclaim _)

theorem State.refreshOffer_kept : LoopKept o l s (s.refreshOffer p) := ((LoopKept.refl o l s).putCore _ (by decide)).putCore _ (by decide)

/-- A port that stops changes no element. -/
theorem State.stopPort_kept (i : Nat) : LoopKept o l s (s.stopPort i) :=
  .of_cools (Same.cools (m := (· == 35)) (by simp) rfl) fun k ha _ =>
    Same.below5 (m := (· == 5)) (by simp) rfl k (Nat.zero_le k) ha.lt ha.1

theorem State.rest_kept : LoopKept o l s (s.rest p) := by
  have hrefuse (u : State) (r : Nat) : LoopKept o l u (u.refuse p r) := by
    have hput : LoopKept o l u (u.putN (Reg.REFUSE_REASON p.val) r) := (LoopKept.refl o l u).putCore _ (by decide)
    refine .ite ?_ _ hput
    exact hput.trans (.of_cools (Same.cools (m := (· == 35)) (by simp) rfl) fun _ ha _ =>
      State.get_raiseCat (.inl (Nat.lt_trans ha.lt (by decide))) _ _ _ _ _)
  unfold State.rest
  extract_lets a b plugged st u
  have hu : LoopKept o l s u := .ite (s.toState_kept o p l _) _ (.refl o l s)
  exact .ite (.refl o l s) _ (.ite (hu.trans ((u.toState_kept o p l _).trans (hrefuse _ _))) _ hu)

theorem State.openOutlet_kept : LoopKept o l s (s.openOutlet p) := by
  unfold State.openOutlet
  exact .ite ((s.toState_kept o p l 1).trans (State.rest_kept o p l _)) _ (.refl o l s)

/-- The session core's record is no part of a loop. -/
theorem State.setOut_kept (x : Outlet) : LoopKept o l s (s.setOut p x) := .of_cools rfl fun _ _ _ => rfl

theorem State.beginStop_kept (cause : Option Nat) : LoopKept o l s (s.beginStop p cause) :=
  (s.setOut_kept o p l _).trans ((State.toState_kept o p l _ _).trans (State.zeroClaim_kept o p l _))

/-- Past NEGOTIATE an emergency stop ends no session at once, so it leaves the loop. -/
theorem State.emergencyStop_kept (cause : Nat) (hs : 5 ≤ s.outState p) : LoopKept o l s (s.emergencyStop p cause) := by
  have hquiet : ¬(s.outState p == 3 || s.outState p == 4) = true := by simp; omega
  unfold State.emergencyStop
  extract_lets st u out v w x y
  have hu : LoopKept o l s u := .ite (s.beginStop_kept o p l _) _ (.refl o l s)
  have hw : LoopKept o l s w := hu.trans (u.setOut_kept o p l _) |>.trans (State.stopPort_kept o l _ _)
    |>.trans (State.zeroClaim_kept o p l _) |>.trans (State.refreshOffer_kept o p l _)
  have hx : LoopKept o l s x := hw.putCore _ (by decide)
  rw [if_neg hquiet]
  exact .ite (.refl o l s) _ (hx.trans (.of_cools (Same.cools (m := (· == 35)) (by simp [y]) rfl) fun _ ha _ =>
    State.get_raise (.inl (Nat.lt_trans ha.lt (by decide))) _ _ _ _ _ _ _))

end

end Sys2Proof.Machine
end

section
/-! Proof of the statement on cooling: what a step shows, what it leaves of the ceiling, and the acts of lost and returned inputs and
of a silent loop. -/

namespace Sys2Proof.Machine

/-! ## An outlet's cooling runs (R2, R260) -/

theorem State.outletPart_of_cools {s : State} {o : Fin 4} (h : Cools s o) (f : State → State) : s.outletPart o f = f s := by
  obtain ⟨hp, hv, hu⟩ := h
  exact (State.live_of_powered hp _).trans (if_pos (by simp [hv, hu]))

theorem exec_coolingStep {s : State} {o : Fin 4} (h : Cools s o) (ohms : List Nat) (pulses us ns : Nat) :
    exec (.coolingStep o ohms pulses us ns) s = .next (s.coolingStep o ohms pulses us ns) :=
  congrArg Host.Outcome.next (State.outletPart_of_cools h _)

theorem exec_coolLoopSilent {s : State} {o : Fin 4} (h : Cools s o) : exec (.coolLoopSilent o) s = .next (s.coolSilent o) :=
  congrArg Host.Outcome.next (State.outletPart_of_cools h _)

/-! ## Failed inputs (R248, R249) -/

/-- An input is marked failed or not by its readings, and SENSOR_FAULT follows. -/
def State.markInput (s : State) (o : Fin 4) (i : Fin 7) (b : Bool) : State :=
  (s.setCool o { s.cools[o] with failed := s.cools[o].failed.set i b }).refreshSensors o

theorem exec_flowLost {s : State} {o : Fin 4} (h : Cools s o) (ha : s.assign o 6 = 1)
    (hmin : s.nat (Reg.PUMP_MIN o) ≤ s.nat (Reg.PUMP_DUTY o)) (hduty : s.nat (Reg.PUMP_DUTY o) ≠ 0) :
    exec (.flowLost o) s = .next (s.markInput o 6 true) :=
  congrArg Host.Outcome.next ((State.outletPart_of_cools h _).trans (if_pos (by simp [ha, hmin, hduty])))

theorem exec_inputValidReturn {s : State} {o : Fin 4} {i : Fin 7} (h : Cools s o) (ha : s.assign o i = 1) :
    exec (.inputValidReturn o i) s = .next (s.markInput o i false) :=
  congrArg Host.Outcome.next ((State.outletPart_of_cools h _).trans (if_pos (by simp [ha])))

@[simp] theorem State.refreshSensors_cools (s : State) (o : Fin 4) : (s.refreshSensors o).cools = s.cools :=
  Same.cools (m := (· == 35)) (by simp) rfl

theorem State.markInput_failed (s : State) (o : Fin 4) (i : Fin 7) (b : Bool) : (s.markInput o i b).cools[o].failed[i] = b := by
  rw [State.markInput, State.refreshSensors_cools, State.setCool_cool]
  simp

/-! ## The readings (R248, R249) -/

theorem tempReg_injective : ∀ (o : Fin 4) (i j : Fin 6), tempReg o i = tempReg o j → i = j := by decide

/-- The readings are shown in 64:41, 64:42 and 64:43. -/
theorem tempReg_eq (o : Fin 4) (i : Fin 6) : ∃ c e, tempReg o i = key (0x64 + o.val) c e ∧
    c ∈ [0x41, 0x42, 0x43] ∧ c < 256 ∧ e < 256 := by
  match i with
  | 0 | 1 | 2 | 3 | 4 | 5 => exact ⟨_, _, rfl, by decide⟩

/-- One reading as taken, where the input is not ABSENT. -/
theorem State.readInput_int {s : State} {o : Fin 4} {i : Fin 6} (ha : s.assign o i ≠ 2) (r : Nat) :
    (s.readInput o i r).int (tempReg o i) = pt1000 r := by
  rw [State.readInput, if_neg (by simpa using ha)]
  exact (State.int_putI _ _ _ _).trans (if_pos rfl)

theorem State.get_readInput (s : State) (o : Fin 4) (i : Fin 6) (r : Nat) {k : Nat} (hk : k ≠ tempReg o i) :
    (s.readInput o i r).get k = s.get k := by
  unfold State.readInput
  split
  · rfl
  · exact (State.get_putI _ _ _ _).trans (if_neg hk)

theorem State.readInput_kept (s : State) (o : Fin 4) (i : Fin 6) (r : Nat) :
    LoopKept o [0x41, 0x42, 0x43] s (s.readInput o i r) := by
  obtain ⟨c, e, hreg, hkey⟩ := tempReg_eq o i
  unfold State.readInput
  dsimp only
  rw [hreg]
  exact .ite (.refl _ _ _) _ (((LoopKept.refl _ _ s).setCool (by exact ⟨rfl, rfl, rfl⟩)).put _ hkey)

/-- The six readings of a step. -/
def State.readInputs (s : State) (o : Fin 4) (ohms : List Nat) : State :=
  (List.finRange 6).foldl (fun (st : State) (i : Fin 6) => st.readInput o i ((ohms[i.val]?).getD 0)) s

theorem State.readInputs_kept (s : State) (o : Fin 4) (ohms : List Nat) :
    LoopKept o [0x41, 0x42, 0x43] s (s.readInputs o ohms) :=
  List.foldlRecOn (motive := LoopKept o [0x41, 0x42, 0x43] s) (List.finRange 6) _ (.refl _ _ s)
    fun st h i _ => h.trans (st.readInput_kept o i _)

/-- Every input that is read shows its own resistance's temperature. -/
theorem State.readInputs_int {s : State} {o : Fin 4} {i : Fin 6} (ohms : List Nat) (ha : s.assign o i ≠ 2) :
    (s.readInputs o ohms).int (tempReg o i) = pt1000 ((ohms[i.val]?).getD 0) := by
  refine foldl_sets (I := fun st => st.assign o i ≠ 2)
    (P := fun st => st.int (tempReg o i) = pt1000 ((ohms[i.val]?).getD 0)) (List.mem_finRange i)
    (fun st j h => ?_) (fun st h => State.readInput_int h _) (fun st j _ hne h => ?_) ha
  · have hassign : (st.readInput o j ((ohms[j.val]?).getD 0)).assign o i = st.assign o i :=
      (st.readInput_kept o j _).nat ⟨by decide, by decide, by omega⟩
    rwa [hassign]
  · rw [← h]
    exact State.int_of_get (st.get_readInput o j _ fun e => hne (tempReg_injective o i j e).symm)

/-- What FLOW_MEAS shows of the pulses in a time, at a pulse constant (R249). -/
def flowShown (pulses us k : Nat) : Nat := min (pulses * 1000000 * 60000 / (us * k)) 4294967295

/-- A flow q is shown, and fails its input where it is out of range. -/
def State.flowTaken (s : State) (o : Fin 4) (q : Nat) : State :=
  let s := s.putN (Reg.FLOW_MEAS o.val) (min q 4294967295)
  if 4 * s.nat (Reg.Q_NOM o.val) < q then s.setCool o { s.cools[o] with failed := s.cools[o].failed.set 6 true } else s

theorem State.readFlow_eq (s : State) (o : Fin 4) (pulses us : Nat) :
    s.readFlow o pulses us = s.flowTaken o (pulses * 1000000 * 60000 / (us * s.nat (Reg.FLOW_K o.val))) := rfl

theorem State.readFlow_kept (s : State) (o : Fin 4) (pulses us : Nat) : LoopKept o [0x44] s (s.readFlow o pulses us) := by
  have hput (n : Nat) : LoopKept o [0x44] s (s.putN (Reg.FLOW_MEAS o.val) n) := (LoopKept.refl _ _ s).put _ (by decide)
  rw [State.readFlow_eq]
  exact .ite ((hput _).setCool (by exact ⟨rfl, rfl, rfl⟩)) _ (hput _)

theorem State.flowTaken_nat (s : State) (o : Fin 4) (q : Nat) :
    (s.flowTaken o q).nat (Reg.FLOW_MEAS o.val) = min q 4294967295 := by
  have hput (n : Nat) : (s.putN (Reg.FLOW_MEAS o.val) n).nat (Reg.FLOW_MEAS o.val) = n :=
    (State.nat_putN _ _ _ _).trans (if_pos rfl)
  unfold State.flowTaken
  dsimp only
  split
  · rw [State.nat_setCool, hput]
  · rw [hput]

theorem State.readFlow_nat (s : State) (o : Fin 4) (pulses us : Nat) :
    (s.readFlow o pulses us).nat (Reg.FLOW_MEAS o.val) = flowShown pulses us (s.nat (Reg.FLOW_K o.val)) := by
  rw [State.readFlow_eq, State.flowTaken_nat, flowShown]

theorem State.refreshSensors_kept (s : State) (o : Fin 4) : LoopKept o [0x4D, 0x50] s (s.refreshSensors o) := by
  refine List.foldlRecOn (motive := LoopKept o [0x4D, 0x50] s) (List.finRange 7) _ (.refl _ _ s) fun st h i _ => ?_
  have hbit : LoopKept o [0x4D, 0x50] s (st.putBit (Reg.SENSOR_FAULT o.val) i.val (st.inputFailed o i)) := h.put _ (by decide)
  exact .ite ((hbit.put _ (by decide)).raise1 _ _ _ _) _ hbit

/-! ## Trips (R257) -/

section
variable (s : State) (o : Fin 4)

theorem State.refreshPCeil_kept : LoopKept o [0x4C] s (s.refreshPCeil o) := (LoopKept.refl _ _ s).put _ (by decide)

/-- A trip up to its emergency stop. -/
def State.tripHeld (s : State) (o : Fin 4) (variant : Nat) : State :=
  let c := s.cools[o]
  let runon := if s.inSession o.val then c.runon else some (c.runon.getD s.now)
  let u := (s.count (Reg.COOL_TRIP_CNT o.val)).setCool o { c with hold := true, active := true, runon := runon }
  ((u.putI (Reg.CABLE_I_CEIL o.val) (min (u.int (Reg.CABLE_I_CEIL o.val)) 0)).refreshPCeil o).raise1
    ((0x64 + o.val) * 256) (0x04F + 256 * variant) 1 (s.get (Reg.COOL_TRIP_CNT o.val))

theorem State.coolTrip_eq (variant : Nat) : s.coolTrip o variant =
    if 5 <= (s.tripHeld o variant).outState o && (s.tripHeld o variant).outState o <= 8 then
      (s.tripHeld o variant).emergencyStop o 4 else s.tripHeld o variant := rfl

/-- The emergency stop of a trip begins past NEGOTIATE and so leaves the loop. -/
theorem State.coolTrip_kept_tripHeld (l : List Nat) (variant : Nat) : LoopKept o l (s.tripHeld o variant) (s.coolTrip o variant) := by
  rw [State.coolTrip_eq]
  split
  case isTrue h => exact State.emergencyStop_kept _ _ _ _ _ (by simp at h; exact h.1)
  case isFalse => exact .refl _ _ _

theorem State.coolTrip_kept (variant : Nat) : LoopKept o [0x4B, 0x4C, 0x4F] s (s.coolTrip o variant) := by
  have hcount : LoopKept o [0x4B, 0x4C, 0x4F] s (s.count (Reg.COOL_TRIP_CNT o.val)) := (LoopKept.refl _ _ s).put _ (by decide)
  have hceil (u : State) (i : Int) : LoopKept o [0x4B, 0x4C, 0x4F] u ((u.putI (Reg.CABLE_I_CEIL o.val) i).refreshPCeil o) :=
    ((LoopKept.refl _ _ u).put _ (by decide)).trans ((State.refreshPCeil_kept _ o).mono (by decide))
  have hheld : LoopKept o [0x4B, 0x4C, 0x4F] s (s.tripHeld o variant) :=
    ((hcount.setCool (by exact ⟨rfl, rfl, rfl⟩)).trans (hceil _ _)).raise1 _ _ _ _
  exact hheld.trans (s.coolTrip_kept_tripHeld o _ variant)

theorem State.coolTrip_ceiling (variant : Nat) :
    (s.coolTrip o variant).int (Reg.CABLE_I_CEIL o.val) ≤ s.int (Reg.CABLE_I_CEIL o.val) := by
  have hceil (u : State) (i : Int) : ((u.putI (Reg.CABLE_I_CEIL o.val) i).refreshPCeil o).int (Reg.CABLE_I_CEIL o.val) = i :=
    ((State.refreshPCeil_kept _ o).int (by decide)).trans ((State.int_putI _ _ _ _).trans (if_pos rfl))
  have hcount : LoopKept o [0x4F] s (s.count (Reg.COOL_TRIP_CNT o.val)) := (LoopKept.refl _ _ s).put _ (by decide)
  have hraise (u : State) (source event prio : Nat) (before : Val) :
      (u.raise1 source event prio before).int (Reg.CABLE_I_CEIL o.val) = u.int (Reg.CABLE_I_CEIL o.val) :=
    ((LoopKept.refl o [] u).raise1 _ _ _ _).int (by decide)
  rw [(s.coolTrip_kept_tripHeld o [] variant).int (by decide), State.tripHeld, hraise, hceil, State.int_setCool,
    hcount.int (by decide)]
  exact Int.min_le_left _ _

theorem State.tripStep_spec (ths td : Int) : LoopKept o [0x4B, 0x4C, 0x4F] s (s.tripStep o ths td) ∧
    (s.tripStep o ths td).int (Reg.CABLE_I_CEIL o.val) ≤ s.int (Reg.CABLE_I_CEIL o.val) := by
  have htrip (c : Prop) [Decidable c] (u : State) (v : Nat) :
      LoopKept o [0x4B, 0x4C, 0x4F] u (if c then u.coolTrip o v else u) ∧
        (if c then u.coolTrip o v else u).int (Reg.CABLE_I_CEIL o.val) ≤ u.int (Reg.CABLE_I_CEIL o.val) := by
    split
    · exact ⟨u.coolTrip_kept o v, u.coolTrip_ceiling o v⟩
    · exact ⟨.refl _ _ _, Int.le_refl _⟩
  unfold State.tripStep
  extract_lets c hold run due pins hot u v
  have hu : LoopKept o [0x4B, 0x4C, 0x4F] s u := (LoopKept.refl _ _ s).setCool (by exact ⟨rfl, rfl, rfl⟩)
  obtain ⟨hv, hvc⟩ := htrip (pins = true) u 0
  obtain ⟨hw, hwc⟩ := htrip ((hot && (!c.hot || due v)) = true) v 1
  exact ⟨hu.trans (hv.trans hw), Int.le_trans hwc hvc⟩

/-! ## The ceiling, the pump and COOL_STATE (R253, R254, R256) -/

theorem State.stepCeiling_kept (td : Int) : LoopKept o [0x4B, 0x4C] s (s.stepCeiling o td) := by
  have hput (i : Int) : LoopKept o [0x4B, 0x4C] s (s.putI (Reg.CABLE_I_CEIL o.val) i) := (LoopKept.refl _ _ s).put _ (by decide)
  exact (hput _).trans ((State.refreshPCeil_kept _ o).mono (by decide))

/-- A step raises the ceiling by DERATE_RISE ÷ 100 at most. -/
theorem State.stepCeiling_le (td : Int) : (s.stepCeiling o td).int (Reg.CABLE_I_CEIL o.val) ≤
    s.int (Reg.CABLE_I_CEIL o.val) + ((s.nat (Reg.DERATE_RISE o.val) / 100 : Nat) : Int) := by
  unfold State.stepCeiling
  dsimp only
  rw [(State.refreshPCeil_kept _ o).int (by decide), State.int_putI, if_pos rfl]
  split <;> omega

theorem State.judgeRunon_kept (l : List Nat) (td : Int) : LoopKept o l s (s.judgeRunon o td) := by
  unfold State.judgeRunon
  exact .ite ((LoopKept.refl _ _ s).setCool (by exact ⟨rfl, rfl, rfl⟩)) _ (.refl _ _ s)

theorem State.setPump_kept (duty : Nat) : LoopKept o [0x4A] s (s.setPump o duty) := by
  have hput (n : Nat) : LoopKept o [0x4A] s (s.putN (Reg.PUMP_DUTY o.val) n) := (LoopKept.refl _ _ s).put _ (by decide)
  have hvalve (u : State) (ch : Nat) (on : Bool) : LoopKept o [0x4A] u (u.ownerSwitch ch 3 on) :=
    .of_cools (Same.cools (m := (· == 35)) (by simp) rfl) fun _ ha _ => State.get_ownerSwitch _ _ _ _ ha.lt ha.1
  exact (hput _).trans (hvalve _ _ _)

/-- An outlet whose role is clear drives no pump. -/
theorem State.setPump_duty (duty : Nat) : (s.setPump o duty).nat (Reg.PUMP_DUTY o.val) = if s.role (4 + o.val) then duty else 0 := by
  have ha : Aside (Reg.PUMP_DUTY o.val) := aside_coolKey o (by decide) (by decide)
  rw [State.setPump, State.nat_of_get (State.get_ownerSwitch _ _ _ _ ha.lt ha.1), State.nat_putN, if_pos rfl]

theorem State.pumpStep_kept (td : Int) : LoopKept o [0x4A] s (s.pumpStep o td) := by
  unfold State.pumpStep
  exact .ite (s.setPump_kept o 0) _ (((LoopKept.refl _ _ s).setCool (by exact ⟨rfl, rfl, rfl⟩)).trans (State.setPump_kept _ o _))

theorem State.refreshCool_kept : LoopKept o [0x40] s (s.refreshCool o) := (LoopKept.refl _ _ s).put _ (by decide)

/-! ## What follows the model (R250 to R257) -/

theorem State.putTemp_kept {c : Nat} (uK : Int) (hc : c ∈ [0x45, 0x46, 0x47, 0x48, 0x49] ∧ c < 256) :
    LoopKept o [0x45, 0x46, 0x47, 0x48, 0x49] s (s.putTemp (key (0x64 + o.val) c 0) uK) := by
  have hput (i : Int) : LoopKept o [0x45, 0x46, 0x47, 0x48, 0x49] s (s.putI (key (0x64 + o.val) c 0) i) :=
    (LoopKept.refl _ _ s).put _ ⟨hc.1, hc.2, by decide⟩
  have hdrawn (u : State) : LoopKept o [0x45, 0x46, 0x47, 0x48, 0x49] u u.drawn := .of_cools rfl fun _ _ _ => rfl
  unfold State.putTemp
  exact .ite (hput _) _ ((hput _).trans (hdrawn _))

end

/-- The model takes what a step has computed, and the loop has its engine. -/
def State.modelTaken (s : State) (o : Fin 4) (m : Int × Int × Int × Int) : State :=
  s.setCool o { s.cools[o] with tc := m.1, tk := m.2.1, noEngine := false }

theorem State.modelTaken_marks (s : State) (o : Fin 4) (m : Int × Int × Int × Int) :
    (s.modelTaken o m).cools[o].marks = (s.cools[o].iNum, s.cools[o].iSum, false) := by
  rw [State.modelTaken, State.setCool_cool]
  rfl

/-- The readbacks of what the model has computed. -/
def State.modelShown (s : State) (o : Fin 4) (m : Int × Int × Int × Int) (td : Int) : State :=
  let s := ((s.putTemp (Reg.T_COND o.val) m.1).putTemp (Reg.T_COOL o.val) m.2.1).putTemp (Reg.T_HS o.val) m.2.2.1
  let s := (s.putTemp (Reg.T_DERATE o.val) td).putN (Reg.P_LOSS o.val) (Int.tdiv m.2.2.2 1000).toNat
  s.setCool o { s.cools[o] with lastCond := s.int (Reg.T_COND o.val) }

/-- The highest temperature that counts for the ceiling: the hot spot's, and those of the valid pins. -/
def State.derateTemp (s : State) (o : Fin 4) (m : Int × Int × Int × Int) : Int :=
  (s.validPins o).foldl (fun (a : Int) x => max a (10000 * x)) m.2.2.1

/-- The trips of a step and its ceiling. -/
def State.ceilingTaken (s : State) (o : Fin 4) (m : Int × Int × Int × Int) (td : Int) : State :=
  (((s.modelTaken o m).modelShown o m td).tripStep o m.2.2.1 td).stepCeiling o td

theorem State.coolAfter_eq (s : State) (o : Fin 4) (m : Int × Int × Int × Int) : s.coolAfter o m =
    ((((s.ceilingTaken o m (s.derateTemp o m)).judgeRunon o (s.derateTemp o m)).pumpStep o (s.derateTemp o m)).refreshCool
      o).openOutlet o := rfl

/-- The objects that what follows the model writes. -/
def afterModel : List Nat := [0x40, 0x45, 0x46, 0x47, 0x48, 0x49, 0x4A, 0x4B, 0x4C, 0x4F]

section
variable (s : State) (o : Fin 4) (m : Int × Int × Int × Int)

theorem State.modelShown_kept (td : Int) : LoopKept o [0x45, 0x46, 0x47, 0x48, 0x49] s (s.modelShown o m td) := by
  have htemps := (s.putTemp_kept o (c := 0x45) m.1 (by decide)).trans
    ((State.putTemp_kept _ o (c := 0x46) m.2.1 (by decide)).trans
      ((State.putTemp_kept _ o (c := 0x47) m.2.2.1 (by decide)).trans (State.putTemp_kept _ o (c := 0x48) td (by decide))))
  have hloss (n : Nat) := htemps.put (g := 0x64 + o.val) (c := 0x49) (e := 0) (.num n) (by decide)
  exact (hloss _).setCool (by exact ⟨rfl, rfl, rfl⟩)

/-- After the ceiling is taken only the pump, COOL_STATE and the outlet follow. -/
theorem State.coolAfter_kept_ceilingTaken :
    LoopKept o [0x40, 0x4A] (s.ceilingTaken o m (s.derateTemp o m)) (s.coolAfter o m) := by
  rw [State.coolAfter_eq]
  exact (State.judgeRunon_kept _ o _ _).trans ((State.pumpStep_kept _ o _).mono (by decide))
    |>.trans ((State.refreshCool_kept _ o).mono (by decide)) |>.trans (State.openOutlet_kept o o _ _)

theorem State.coolAfter_kept : LoopKept o afterModel (s.modelTaken o m) (s.coolAfter o m) :=
  ((State.modelShown_kept _ o m _).mono (by decide)).trans ((State.tripStep_spec _ o _ _).1.mono (by decide))
    |>.trans ((State.stepCeiling_kept _ o _).mono (by decide)) |>.trans ((s.coolAfter_kept_ceilingTaken o m).mono (by decide))

/-- Trips lower the ceiling, and the step then raises it by DERATE_RISE ÷ 100 at most. -/
theorem State.coolAfter_ceiling : (s.coolAfter o m).int (Reg.CABLE_I_CEIL o.val) ≤
    s.int (Reg.CABLE_I_CEIL o.val) + ((s.nat (Reg.DERATE_RISE o.val) / 100 : Nat) : Int) := by
  have hshown := (s.modelTaken o m).modelShown_kept o m (s.derateTemp o m)
  obtain ⟨htrip, hle⟩ := ((s.modelTaken o m).modelShown o m (s.derateTemp o m)).tripStep_spec o m.2.2.1 (s.derateTemp o m)
  have hstep := (((s.modelTaken o m).modelShown o m (s.derateTemp o m)).tripStep o m.2.2.1 (s.derateTemp o m)).stepCeiling_le o
    (s.derateTemp o m)
  have hceil : ((s.modelTaken o m).modelShown o m (s.derateTemp o m)).int (Reg.CABLE_I_CEIL o.val) =
      s.int (Reg.CABLE_I_CEIL o.val) := hshown.int (by decide)
  have hrise : (((s.modelTaken o m).modelShown o m (s.derateTemp o m)).tripStep o m.2.2.1 (s.derateTemp o m)).nat
      (Reg.DERATE_RISE o.val) = s.nat (Reg.DERATE_RISE o.val) := (htrip.nat (by decide)).trans (hshown.nat (by decide))
  rw [hrise] at hstep
  rw [hceil] at hle
  rw [(s.coolAfter_kept_ceilingTaken o m).int (by decide)]
  exact Int.le_trans hstep (Int.add_le_add_right hle _)

end

/-! ## A step (R248 to R253) -/

/-- The objects that readings write. -/
def readObjects : List Nat := [0x41, 0x42, 0x43, 0x44, 0x4D, 0x50]

/-- The readings of a step, up to its failed inputs. -/
def State.inputsRead (s : State) (o : Fin 4) (ohms : List Nat) (pulses us : Nat) : State :=
  ((s.readInputs o ohms).readFlow o pulses us).refreshSensors o

/-- The model stands, by the engine that runs it. -/
def State.modelStarted (s : State) (o : Fin 4) (e : Fin 38) : State :=
  if s.cools[o].started && s.cools[o].engine == e.val then s else s.startModel o e.val

/-- The step is counted, with its time, and the averages begin anew. -/
def State.stepCounted (s : State) (o : Fin 4) (e : Fin 38) (ns : Nat) : State :=
  let s := (s.count (Reg.MODEL_STEPS e.val)).putMax (Reg.MODEL_STEP_MAX e.val) (min ns 4294967295)
  s.setCool o { s.cools[o] with iSum := 0, iNum := 0 }

/-- A step of a running engine, from the current and the flow of its model. -/
theorem State.coolingStep_eq {s : State} {o : Fin 4} {e : Fin 38} (hb : s.blackLoop = false) (he : s.coolEngine o = some e)
    (ohms : List Nat) (pulses us ns : Nat) : ∃ m : Int × Int × Int × Int, s.coolingStep o ohms pulses us ns =
      (((((s.inputsRead o ohms pulses us).modelStarted o e).stepCounted o e ns).coolAfter o m).traceCool o e).coolRebind o := by
  unfold State.coolingStep
  rw [hb, if_neg (by decide), he]
  exact ⟨_, rfl⟩

section
variable (s : State) (o : Fin 4)

theorem State.inputsRead_kept (ohms : List Nat) (pulses us : Nat) :
    LoopKept o readObjects s (s.inputsRead o ohms pulses us) :=
  ((s.readInputs_kept o ohms).mono (by decide)).trans ((State.readFlow_kept _ o _ _).mono (by decide))
    |>.trans ((State.refreshSensors_kept _ o).mono (by decide))

theorem State.modelStarted_kept (e : Fin 38) : LoopKept o [] s (s.modelStarted o e) :=
  .ite (.refl _ _ s) _ ((LoopKept.refl _ _ s).setCool (by exact ⟨rfl, rfl, rfl⟩))

/-- Of the elements the step's count and its longest time change. -/
theorem State.get_stepCounted (e : Fin 38) (ns : Nat) {k : Nat} (hk : keyO k ∉ [0x20, 0x21]) :
    (s.stepCounted o e ns).get k = s.get k := by
  have hsteps : k ≠ Reg.MODEL_STEPS e.val := ne_key_of_object hk (by decide) (by decide) (by decide)
  have hlongest : k ≠ Reg.MODEL_STEP_MAX e.val := ne_key_of_object hk (by decide) (by decide) (by decide)
  have hmax (u : State) (n : Nat) : (u.putMax (Reg.MODEL_STEP_MAX e.val) n).get k = u.get k := by
    unfold State.putMax
    split
    · exact (State.get_putN _ _ _ _).trans (if_neg hlongest)
    · rfl
  rw [State.stepCounted, State.get_setCool, hmax, State.get_count, if_neg hsteps]

theorem State.stepCounted_steps (e : Fin 38) (ns : Nat) : (s.stepCounted o e ns).nat (Reg.MODEL_STEPS e.val) =
    (s.nat (Reg.MODEL_STEPS e.val) + 1) % 4294967296 := by
  have hne : Reg.MODEL_STEPS e.val ≠ Reg.MODEL_STEP_MAX e.val := by simp only [Reg.MODEL_STEPS, Reg.MODEL_STEP_MAX, key]; omega
  rw [State.stepCounted, State.nat_setCool, State.nat_putMax, if_neg hne, State.nat_count, if_pos rfl]

theorem State.stepCounted_averages (e : Fin 38) (ns : Nat) :
    (s.stepCounted o e ns).cools[o].iNum = 0 ∧ (s.stepCounted o e ns).cools[o].iSum = 0 := by
  rw [State.stepCounted, State.setCool_cool]
  exact ⟨rfl, rfl⟩

/-- The trace and a rebind's copy follow the loop and change nothing of it. -/
theorem State.stepFollowed_kept (e : Fin 38) (l : List Nat) : LoopKept o l s ((s.traceCool o e).coolRebind o) :=
  .of_cools (Same.cools (m := (· == 35)) (by simp) rfl) fun k _ _ => s.get_traceSample _ _ _ _ k

end

section
variable {s : State} {o : Fin 4} {e : Fin 38} (hb : s.blackLoop = false) (he : s.coolEngine o = some e)
variable (ohms : List Nat) (pulses us ns : Nat)
include hb he

/-- What a step's readings show, what follows them leaves. -/
theorem State.coolingStep_get {k : Nat} (ha : Aside k) (hk : keyO k ∉ 0x20 :: 0x21 :: afterModel) :
    (s.coolingStep o ohms pulses us ns).get k = (s.inputsRead o ohms pulses us).get k := by
  obtain ⟨m, heq⟩ := State.coolingStep_eq hb he ohms pulses us ns
  have hsub {l : List Nat} (h : l ⊆ 0x20 :: 0x21 :: afterModel) : keyO k ∉ l := fun hm => hk (h hm)
  rw [heq, (State.stepFollowed_kept _ o e []).get k ha (by simp), (State.coolAfter_kept _ o m).get k ha (hsub (by decide)),
    State.modelTaken, State.get_setCool, State.get_stepCounted _ o e ns (hsub (by decide)),
    (State.modelStarted_kept _ o e).get k ha (by simp)]

theorem State.coolingStep_steps : (s.coolingStep o ohms pulses us ns).nat (Reg.MODEL_STEPS e.val) =
    (s.nat (Reg.MODEL_STEPS e.val) + 1) % 4294967296 := by
  obtain ⟨m, heq⟩ := State.coolingStep_eq hb he ohms pulses us ns
  have ha : Aside (Reg.MODEL_STEPS e.val) := aside_engineKey e (by decide)
  have hout {l : List Nat} (hl : 0x20 ∉ l) : keyO (Reg.MODEL_STEPS e.val) ∉ l := keyO_notMem hl (by decide) (by decide)
  have hread := (s.inputsRead_kept o ohms pulses us).get _ ha (hout (by decide))
  have hstarted := (State.modelStarted_kept (s.inputsRead o ohms pulses us) o e).get _ ha (hout (by decide))
  rw [heq, State.nat_of_get ((State.stepFollowed_kept _ o e []).get _ ha (hout (by decide))),
    State.nat_of_get ((State.coolAfter_kept _ o m).get _ ha (hout (by decide))), State.modelTaken, State.nat_setCool,
    State.stepCounted_steps, State.nat_of_get (hstarted.trans hread)]

theorem State.coolingStep_temp {i : Fin 6} (ha : s.assign o i ≠ 2) :
    (s.coolingStep o ohms pulses us ns).int (tempReg o i) = pt1000 ((ohms[i.val]?).getD 0) := by
  obtain ⟨c, d, hreg, hc, hc', hd⟩ := tempReg_eq o i
  have haside : Aside (tempReg o i) := hreg ▸ aside_coolKey o hc' hd
  have hout {l : List Nat} (hl : ∀ x ∈ [0x41, 0x42, 0x43], x ∉ l) : keyO (tempReg o i) ∉ l :=
    hreg ▸ keyO_notMem (hl c hc) hc' hd
  rw [State.int_of_get (State.coolingStep_get hb he ohms pulses us ns haside (hout (by decide))), State.inputsRead,
    State.int_of_get ((State.refreshSensors_kept _ o).get _ haside (hout (by decide))),
    State.int_of_get ((State.readFlow_kept _ o _ _).get _ haside (hout (by decide)))]
  exact State.readInputs_int ohms ha

theorem State.coolingStep_flow : (s.coolingStep o ohms pulses us ns).nat (Reg.FLOW_MEAS o.val) =
    flowShown pulses us (s.nat (Reg.FLOW_K o.val)) := by
  have hget := State.coolingStep_get hb he ohms pulses us ns (k := Reg.FLOW_MEAS o.val) (aside_coolKey o (by decide) (by decide))
    (keyO_notMem (by decide) (by decide) (by decide))
  have hk : (s.readInputs o ohms).nat (Reg.FLOW_K o.val) = s.nat (Reg.FLOW_K o.val) := (s.readInputs_kept o ohms).nat (by decide)
  rw [State.nat_of_get hget, State.inputsRead, (State.refreshSensors_kept _ o).nat (by decide), State.readFlow_nat, hk]

/-- The averages begin anew and the loop has its engine, whatever the step trips. -/
theorem State.coolingStep_marks : (s.coolingStep o ohms pulses us ns).cools[o].marks = (0, 0, false) := by
  obtain ⟨m, heq⟩ := State.coolingStep_eq hb he ohms pulses us ns
  obtain ⟨hnum, hsum⟩ := State.stepCounted_averages ((s.inputsRead o ohms pulses us).modelStarted o e) o e ns
  rw [heq, (State.stepFollowed_kept _ o e []).marks, (State.coolAfter_kept _ o m).marks, State.modelTaken_marks, hnum, hsum]

theorem State.coolingStep_ceiling : (s.coolingStep o ohms pulses us ns).int (Reg.CABLE_I_CEIL o.val) ≤
    s.int (Reg.CABLE_I_CEIL o.val) + ((s.nat (Reg.DERATE_RISE o.val) / 100 : Nat) : Int) := by
  obtain ⟨m, heq⟩ := State.coolingStep_eq hb he ohms pulses us ns
  let u := (s.inputsRead o ohms pulses us).modelStarted o e
  have hstarted : LoopKept o readObjects s u :=
    (s.inputsRead_kept o ohms pulses us).trans ((State.modelStarted_kept _ o e).mono (by decide))
  have hcounted {c : Nat} (hc : c ∉ [0x20, 0x21]) (hc' : c < 256) :
      (u.stepCounted o e ns).get (key (0x64 + o.val) c 0) = u.get (key (0x64 + o.val) c 0) :=
    State.get_stepCounted u o e ns (keyO_notMem hc hc' (by decide))
  have hceil : (u.stepCounted o e ns).int (Reg.CABLE_I_CEIL o.val) = s.int (Reg.CABLE_I_CEIL o.val) :=
    (State.int_of_get (hcounted (by decide) (by decide))).trans (hstarted.int (by decide))
  have hrise : (u.stepCounted o e ns).nat (Reg.DERATE_RISE o.val) = s.nat (Reg.DERATE_RISE o.val) :=
    (State.nat_of_get (hcounted (by decide) (by decide))).trans (hstarted.nat (by decide))
  have hle := State.coolAfter_ceiling (u.stepCounted o e ns) o m
  rw [hceil, hrise] at hle
  rwa [heq, (State.stepFollowed_kept _ o e []).int (by decide)]

end

/-! ## A silent loop (R135, R257, R259) -/

/-- Of a loop's record the engines' refresh changes whether its model stands. -/
theorem State.refreshCoolEngines_kept (s : State) (o : Fin 4) : LoopKept o [0x4E] s s.refreshCoolEngines := by
  refine List.foldlRecOn (motive := LoopKept o [0x4E] s) (List.finRange 4) _ (.refl _ _ s) fun st h i _ => ?_
  have hmoved : LoopKept o [0x4E] st (st.setCool i { st.cools[i] with started := false }) := by
    by_cases hi : i = o
    · subst hi
      exact (LoopKept.refl _ _ st).setCool (by exact ⟨rfl, rfl, rfl⟩)
    · have hcool (c : Cool) : (st.setCool i c).cools[o] = st.cools[o] := by
        have hv : i.val ≠ o.val := fun e => hi (Fin.ext e)
        simp [State.setCool, hv]
      exact ⟨fun _ _ _ => rfl, by rw [hcool]⟩
  exact (h.trans (.ite hmoved _ (.refl _ _ st))).put _ (by decide)

theorem State.refreshEngines_kept (s : State) (o : Fin 4) : LoopKept o [0x05] s s.refreshEngines :=
  .of_cools (Same.cools (m := (· == 35)) (by simp) rfl) fun _ _ hk =>
    s.get_refreshEngines fun _ => ne_key_of_object hk (by decide) (by decide) (by decide)

/-- The objects of the engines that a rebind writes. -/
def rebindObjects : List Nat := [0x02, 0x03, 0x04, 0x05, 0x06, 0x4E]

/-- A cold rebind of a cooling loop writes elements of the engines. -/
theorem State.beginRebind_kept (s : State) (o : Fin 4) {target : Nat} (newE : Nat) (ht : ¬target < 32) :
    LoopKept o rebindObjects s (s.beginRebind target newE true) := by
  unfold State.beginRebind
  extract_lets old warm oldN r u nE v w x y z l t
  have hu : LoopKept o rebindObjects s u := .of_cools rfl fun _ _ _ => rfl
  have hv : LoopKept o rebindObjects u v := by
    dsimp only [v]
    clear_value old
    split
    · exact ((LoopKept.refl _ _ u).put _ (by decide)).put _ (by decide)
    · exact .refl _ _ u
  have hw : LoopKept o rebindObjects v w := by
    have hreset : LoopKept o rebindObjects v (v.setEngine nE Engine.reset) := .of_cools rfl fun _ _ _ => rfl
    exact hreset.put _ (by decide)
  have hx : LoopKept o rebindObjects w x := .ite (.refl _ _ w) _ ((LoopKept.refl _ _ w).put _ (by decide))
  have hy : LoopKept o rebindObjects x y := (LoopKept.refl _ _ x).put _ (by decide)
  have hcold : LoopKept o rebindObjects s y := hu.trans (hv.trans (hw.trans (hx.trans hy)))
  have ht' : t = y := if_neg ht
  rw [ht']
  have hrefreshed : LoopKept o rebindObjects y y.refreshEngines := (y.refreshEngines_kept o).mono (by decide)
  exact .ite hu _ (hcold.trans (hrefreshed.trans ((State.refreshCoolEngines_kept _ o).mono (by decide))))

theorem State.autoRebind_kept (s : State) (o : Fin 4) : LoopKept o rebindObjects s (s.autoRebind (0x40 + o.val)) := by
  unfold State.autoRebind
  split
  case h_1 => exact .refl _ _ s
  case h_2 e _ =>
    have hbegun := s.beginRebind_kept o e.val (target := 0x40 + o.val) (by omega)
    exact .ite (.refl _ _ s) _ (hbegun.trans (.of_cools (Same.cools (m := (· == 35)) (by simp) rfl) fun _ ha _ =>
      State.get_raiseCat (.inl (Nat.lt_trans ha.lt (by decide))) _ _ _ _ _))

/-- The trip or the Pennant of a loop found without an engine. -/
def State.silenceTold (s : State) (o : Fin 4) (trips first : Bool) (before : Val) : State :=
  if trips then s.coolTrip o 2 else if first then s.raise1 ((0x64 + o.val) * 256) 0x24F 1 before else s

theorem State.silenceTold_kept (s : State) (o : Fin 4) (trips first : Bool) (before : Val) :
    LoopKept o [0x4B, 0x4C, 0x4F] s (s.silenceTold o trips first before) :=
  .ite (s.coolTrip_kept o 2) _ (.ite ((LoopKept.refl _ _ s).raise1 _ _ _ _) _ (.refl _ _ s))

theorem State.silenceTold_beh (s : State) (o : Fin 4) (trips first : Bool) (before : Val) (c : Fin 8) :
    (s.silenceTold o trips first before).beh c = s.beh c := by
  have hmodes : (s.silenceTold o trips first before).modes = s.modes := by
    refine Same.modes (m := (· == 22)) ?_ rfl
    exact .ite _ (by simp) (.ite _ (by simp) (.refl _ s))
  rw [State.beh, hmodes, State.beh]

/-- After its pump a loop found without an engine may be taken by a spare, which leaves the pump and the mark. -/
def State.spareSought (s : State) (o : Fin 4) (first : Bool) : State :=
  if first then (s.autoRebind (0x40 + o.val)).setCool o { (s.autoRebind (0x40 + o.val)).cools[o] with started := false } else s

theorem State.spareSought_kept (s : State) (o : Fin 4) (first : Bool) : LoopKept o rebindObjects s (s.spareSought o first) :=
  .ite ((s.autoRebind_kept o).setCool (by exact ⟨rfl, rfl, rfl⟩)) _ (.refl _ _ s)

/-- The loop is marked as having no engine. -/
def State.engineMissed (s : State) (o : Fin 4) : State := s.setCool o { s.cools[o] with noEngine := true }

theorem State.engineMissed_marks (s : State) (o : Fin 4) :
    (s.engineMissed o).cools[o].marks = (s.cools[o].iNum, s.cools[o].iSum, true) := by
  rw [State.engineMissed, State.setCool_cool]
  rfl

/-- A silent loop is marked, tells it, drives its pump and seeks a spare. -/
theorem State.coolSilent_eq {s : State} (o : Fin 4) (hi : s.beh 6 ≠ .idle) (hoff : s.beh 6 ≠ .off) :
    ∃ trips first before, let u := (s.engineMissed o).silenceTold o trips first before
      s.coolSilent o = ((u.setPump o (if u.beh 1 == .mirror then 0 else u.nat (Reg.PUMP_MAX o.val))).spareSought o
        first).refreshCool o := by
  unfold State.coolSilent
  rw [if_neg (by simp [hi, hoff])]
  exact ⟨_, _, _, rfl⟩

theorem State.coolSilent_spec {s : State} (o : Fin 4) (hi : s.beh 6 ≠ .idle) (hoff : s.beh 6 ≠ .off) :
    (s.coolSilent o).cools[o].noEngine = true ∧ (s.coolSilent o).nat (Reg.PUMP_DUTY o.val) =
      if s.beh 1 = .mirror ∨ s.role (4 + o.val) = false then 0 else s.nat (Reg.PUMP_MAX o.val) := by
  obtain ⟨trips, first, before, heq⟩ := s.coolSilent_eq o hi hoff
  extract_lets u at heq
  have htold : LoopKept o [0x4B, 0x4C, 0x4F] (s.engineMissed o) u :=
    State.silenceTold_kept _ o trips first before
  have hbeh : u.beh 1 = s.beh 1 := State.silenceTold_beh _ o trips first before 1
  have hmax : u.nat (Reg.PUMP_MAX o.val) = s.nat (Reg.PUMP_MAX o.val) := htold.nat (by decide)
  have hrole : u.role (4 + o.val) = s.role (4 + o.val) := by
    have hactive : u.nat Reg.ROLE_ACTIVE = s.nat Reg.ROLE_ACTIVE := 
      State.nat_of_get (htold.get _ ⟨by decide, .inl (by decide)⟩ (by decide))
    rw [State.role, hactive, State.role]
  have hspare {v : State} : LoopKept o (0x40 :: rebindObjects) v ((v.spareSought o first).refreshCool o) :=
    ((v.spareSought_kept o first).mono (by decide)).trans ((State.refreshCool_kept _ o).mono (by decide))
  rw [heq]
  constructor
  · have hmarks (d : Nat) : (((u.setPump o d).spareSought o first).refreshCool o).cools[o].marks =
        (s.cools[o].iNum, s.cools[o].iSum, true) :=
      hspare.marks.trans ((u.setPump_kept o d).marks.trans (htold.marks.trans (s.engineMissed_marks o)))
    exact (Cool.of_marks (hmarks _)).2.2
  · rw [hspare.nat (by decide), State.setPump_duty, hrole, hbeh, hmax]
    cases s.role (4 + o.val) <;> simp

/-! ## The statement -/

/-- Settles O38: a step's readings, count and averages outlast what follows its model, which lowers the ceiling by its trips before
it raises it; an input is marked as its event says; and a silent loop's spare leaves its mark and its pump. -/
theorem coolingLoops : Obligations.CoolingLoops := by
  refine ⟨fun s o e ohms pulses us ns hc hb he => ⟨_, exec_coolingStep hc ohms pulses us ns, ?_⟩,
    fun s o hc ha hmin hduty => ⟨_, exec_flowLost hc ha hmin hduty, s.markInput_failed o 6 true⟩,
    fun s o i hc ha => ⟨_, exec_inputValidReturn hc ha, s.markInput_failed o i false⟩,
    fun s o hc hi hoff => ⟨_, exec_coolLoopSilent hc, State.coolSilent_spec o hi hoff⟩⟩
  obtain ⟨hnum, hsum, hmark⟩ := Cool.of_marks (State.coolingStep_marks hb he ohms pulses us ns)
  exact ⟨State.coolingStep_steps hb he _ _ _ _, fun _ ha => State.coolingStep_temp hb he _ _ _ _ ha,
    State.coolingStep_flow hb he _ _ _ _, hnum, hsum, hmark, fun _ => State.coolingStep_ceiling hb he _ _ _ _⟩

end Sys2Proof.Machine
end
